-- ==== Sys2Proof/Word.lean ====
section
/-! DEFINITION. The machine words of Ecinane-4 and the plain types that the commands and the state are made of. -/

namespace Sys2Proof

/-- A 32-bit register, parameter or configuration word (R305, R504). -/
abbrev Word := BitVec 32

/-- A byte of a unit, record, frame or memory beat (R10). -/
abbrev Byte := BitVec 8

/-- The 48-bit payload [47:0] of a tap item (R63, R66 to R70). -/
abbrev Payload := BitVec 48

/-- A reported `gt`: 64 bits of nanoseconds and 8 bits of fraction, counted in 1/256 ns (Conventions of 00_scope). -/
abbrev Gt := Nat

/-- A sparse table: key and value pairs, keys strictly rising, no value equal to the table's default.
DESIGN CHOICE, log entries 68 and 70. -/
abbrev Tbl (α : Type) := List (Nat × α)

end Sys2Proof
end

