-- ==== Sys2Proof/Syntax.lean ====
section
/-! DEFINITION. The commands of the block: one constructor of `Instr` for each row of the table of operations and
events, with the operands that the row needs from outside the block. -/

namespace Sys2Proof

/-- One command packet as the Maltster sees it (R305): the parameter words after the header, and the byte strobes
with which the last word was written (R313). `LENGTH` is the number of parameter words. -/
structure Pkt where
  tag : BitVec 8
  flags : BitVec 8
  params : List Word
  lastStrb : BitVec 4
  deriving DecidableEq, Repr

/-- A register access at the register target port (R300): source, byte offset, data, strobes and identifier. -/
structure Acc where
  src : Fin 128
  addr : BitVec 19
  data : Word
  strb : BitVec 4
  id : BitVec 8
  deriving DecidableEq, Repr

/-- The part of an access that is left when its register is fixed by the command (R300, R504). -/
structure RtReq where
  src : Fin 65
  data : Word
  strb : BitVec 4
  id : BitVec 8
  deriving DecidableEq, Repr

/-- One beat on the assay port of a tap (the `tp_asy` signals of 03_grist_taps, R218). -/
structure Beat where
  data : List Byte
  bytes : BitVec 6
  last : Bool
  fmt : BitVec 4
  tid : BitVec 16
  deriving DecidableEq, Repr

/-- A hop frame as it stands on a link (R414): header fields, the 16 body bytes, the payload bytes (the ciphertext on a
link in compatibility mode), the CRC word, and the 32 bytes of the tag flit in compatibility mode, else none (R439). -/
structure Frame where
  ftype : BitVec 4
  pflits : BitVec 4
  kph : Bool
  nak : Bool
  dst : BitVec 12
  src : BitVec 12
  lseq : BitVec 16
  lack : BitVec 16
  cred : BitVec 8
  ttl : BitVec 6
  body : List Byte
  payload : List Byte
  crc : BitVec 32
  tag : List Byte
  deriving DecidableEq, Repr

/-- The supply, retention and clock pairs of the power handshake (R473, R498). -/
inductive PwrPair where
  | brew | ret | clk
  deriving DecidableEq, Repr

/-- The sources that wake the block, in the row order of R468. -/
inductive WakeSrc where
  | item | access | clockState | reset | timer | deadline | phy | quote | grant
  deriving DecidableEq, Repr

/-- The record sources of a record input, coded as `SOURCE` of R144. -/
abbrev RecSrc := Fin 21

/-- The commands: rows 0x00 to 0xF2 of the command catalogue (the caller `f` and its packet `p`), then the register,
tap, station, analyser, fabric, drain, reset and power events, in the order of the table. -/
inductive Instr where
  /-- NEGOTIATE (R317): Command that negotiates the command protocol version and makes the caller's port negotiated. -/
  | negotiate (f : Fin 65) (p : Pkt)
  /-- SESSION_SET (R325): Command that sets the caller's response stall limit RSP_STALL_NS. -/
  | sessionSet (f : Fin 65) (p : Pkt)
  /-- IDENTIFY (R339): Command that returns product code, taps and stations present, usable pages and firmware levels. -/
  | identify (f : Fin 65) (p : Pkt)
  /-- NOP (R339): Command that does nothing; with ORDERED it fences the caller's long commands. -/
  | nop (f : Fin 65) (p : Pkt)
  /-- TAP_SET (R340): Operator command that sets a tap's station use and A_ENABLE, or clears BAD_CLASS. -/
  | tapSet (f : Fin 65) (p : Pkt)
  /-- TAP_STATUS (R340): Operator command that returns a tap's status and its loss counts, optionally clearing LEDGER_LOST. -/
  | tapStatus (f : Fin 65) (p : Pkt)
  /-- CTX_WRITE (R95): Command that writes a context-table entry, split between operator-written and tenant-written fields. -/
  | ctxWrite (f : Fin 65) (p : Pkt)
  /-- CTX_READ (R340): Command that returns a context-table entry. -/
  | ctxRead (f : Fin 65) (p : Pkt)
  /-- LAUTER_WRITE (R101): Command that writes one Lauter filter rule of a station. -/
  | lauterWrite (f : Fin 65) (p : Pkt)
  /-- LAUTER_READ (R341): Command that returns one Lauter filter rule. -/
  | lauterRead (f : Fin 65) (p : Pkt)
  /-- LAUTER_DEFAULT (R103): Command that sets an owner's default filter action at a station. -/
  | lauterDefault (f : Fin 65) (p : Pkt)
  /-- CMP_WRITE (R108): Command that writes a comparator descriptor and clears its count, latch and timer flag. -/
  | cmpWrite (f : Fin 65) (p : Pkt)
  /-- SEQ_CONTROL (R109): Command that writes a trigger sequencer's control fields, refused under the quota check. -/
  | seqControl (f : Fin 65) (p : Pkt)
  /-- SEQ_REARM (R111): Command that moves a sequencer from Hold to Armed. -/
  | seqRearm (f : Fin 65) (p : Pkt)
  /-- SEQ_STATUS (R341): Command that returns a sequencer's state and trigger counters. -/
  | seqStatus (f : Fin 65) (p : Pkt)
  /-- SEQ_OWNER (R104): Operator command that assigns a station's sequencer to an owner and resets the sequencer. -/
  | seqOwner (f : Fin 65) (p : Pkt)
  /-- STREAM_FORMAT (R149): Command that chooses an owner's wort format version and closes its open units. -/
  | streamFormat (f : Fin 65) (p : Pkt)
  /-- STATION_COUNTERS (R341): Command that returns a station's filter, context, drop and wake-loss counters. -/
  | stationCounters (f : Fin 65) (p : Pkt)
  /-- CASK_MODE (R163): Command that changes an owner's cask mode and STREAM_FLUSH. -/
  | caskMode (f : Fin 65) (p : Pkt)
  /-- CASK_DRAIN (R343): Long command that names an owner's Full or Held pages for a sparge channel to drain. -/
  | caskDrain (f : Fin 65) (p : Pkt)
  /-- CASK_RELEASE (R169): Command that ends an owner's hold and returns its Held pages to Full. -/
  | caskRelease (f : Fin 65) (p : Pkt)
  /-- CASK_STATUS (R342): Command that returns an owner's cask counts, quota, mode and trigger truncation values. -/
  | caskStatus (f : Fin 65) (p : Pkt)
  /-- CASK_POOL (R342): Operator command that returns free and usable pages and instance-wide cask loss counters. -/
  | caskPool (f : Fin 65) (p : Pkt)
  /-- CASK_FENCE_READ (R342): Operator command that returns CASK_FENCE_MASK. -/
  | caskFenceRead (f : Fin 65) (p : Pkt)
  /-- CASK_MACRO (R342): Operator command that returns a macro's corrected-error count. -/
  | caskMacro (f : Fin 65) (p : Pkt)
  /-- CASK_PATROL (R177): Operator command that sets PATROL_PERIOD. -/
  | caskPatrol (f : Fin 65) (p : Pkt)
  /-- AGENT_MAP_WRITE (R180): Operator command that writes agent-map entries for consecutive taps. -/
  | agentMapWrite (f : Fin 65) (p : Pkt)
  /-- AGENT_WRITE (R181): Command that writes an agent-table entry. -/
  | agentWrite (f : Fin 65) (p : Pkt)
  /-- REASON_MAP_WRITE (R184): Operator command that writes the 32-entry reason map. -/
  | reasonMapWrite (f : Fin 65) (p : Pkt)
  /-- LOOP_WRITE (R193): Command that writes a loop slot. -/
  | loopWrite (f : Fin 65) (p : Pkt)
  /-- MASH_READ (R344): Command that returns an entry of the agent map, agent table, reason map or a loop slot. -/
  | mashRead (f : Fin 65) (p : Pkt)
  /-- LOOP_STATUS (R344): Command that returns a loop slot's window state, tokens and record count. -/
  | loopStatus (f : Fin 65) (p : Pkt)
  /-- ASY_BIND (R217): Operator command that writes a tap's assay binding. -/
  | asyBind (f : Fin 65) (p : Pkt)
  /-- ASY_UNIT (R246): Operator command that writes an Assay unit's control word. -/
  | asyUnit (f : Fin 65) (p : Pkt)
  /-- PROFILE_WRITE (R230): Command that writes an assay profile. -/
  | profileWrite (f : Fin 65) (p : Pkt)
  /-- REF_WRITE (R232): Command that writes consecutive reference scale entries. -/
  | refWrite (f : Fin 65) (p : Pkt)
  /-- ASY_READ (R345): Command that returns an assay binding, unit control, profile, reference entry or unit counters. -/
  | asyRead (f : Fin 65) (p : Pkt)
  /-- ASY_FLUSH (R345): Command that closes every open tensor of a unit with CLOSE 3. -/
  | asyFlush (f : Fin 65) (p : Pkt)
  /-- SYNC_DECLARE (R254): Command that sets an object's KIND or declares or clears its signaller. -/
  | syncDeclare (f : Fin 65) (p : Pkt)
  /-- SYNC_READ (R346): Command that returns an object's shadow entry. -/
  | syncRead (f : Fin 65) (p : Pkt)
  /-- TAP_WAIT_READ (R346): Operator command that returns a tap wait entry. -/
  | tapWaitRead (f : Fin 65) (p : Pkt)
  /-- KNOT_WALK (R260): Operator long command that starts a Knot walk and completes when it ends. -/
  | knotWalk (f : Fin 65) (p : Pkt)
  /-- SNAPSHOT (R266): Operator command that starts a hang snapshot at a given or derived instant. -/
  | snapshot (f : Fin 65) (p : Pkt)
  /-- SYNC_SET (R255): Operator command that sets NOPROG_LIMIT and KNOT_PERIOD. -/
  | syncSet (f : Fin 65) (p : Pkt)
  /-- SYNC_COUNTERS (R273): Operator command that returns the sync watch counters. -/
  | syncCounters (f : Fin 65) (p : Pkt)
  /-- CNT_WRITE (R281): Command that writes a counter descriptor. -/
  | cntWrite (f : Fin 65) (p : Pkt)
  /-- CNT_READ (R347): Command that returns a counter descriptor. -/
  | cntRead (f : Fin 65) (p : Pkt)
  /-- CNT_SAMPLE (R294): Operator long command that fetches a tap's counters live. -/
  | cntSample (f : Fin 65) (p : Pkt)
  /-- FREEZE (R284): Operator command that schedules a local or fabric counter freeze at T. -/
  | freeze (f : Fin 65) (p : Pkt)
  /-- FREEZE_STATUS (R347): Operator command that returns a freeze slot's state. -/
  | freezeStatus (f : Fin 65) (p : Pkt)
  /-- FREEZE_CANCEL (R347): Operator command that frees a Scheduled freeze slot. -/
  | freezeCancel (f : Fin 65) (p : Pkt)
  /-- FREEZE_SET (R291): Operator command that sets FREEZE_COLLECT_LIMIT. -/
  | freezeSet (f : Fin 65) (p : Pkt)
  /-- CNT_VIEW (R295): Command that selects counters into a tenant's coarse view. -/
  | cntView (f : Fin 65) (p : Pkt)
  /-- TIME_STATUS (R348): Command that returns lock, alignment, bounds, gt and fabric offset. -/
  | timeStatus (f : Fin 65) (p : Pkt)
  /-- TIME_SET (R36): Operator command that writes time-bus latency, holdover, stretch, TCAL and TSYNC periods. -/
  | timeSet (f : Fin 65) (p : Pkt)
  /-- TCAL_READ (R348): Operator command that returns a tap's d_tap and a_tap. -/
  | tcalRead (f : Fin 65) (p : Pkt)
  /-- TSYNC_NOW (R55): Operator long command that runs an offset measurement against the parent. -/
  | tsyncNow (f : Fin 65) (p : Pkt)
  /-- PORT_ALPHA (R348): Operator command that writes a hop port's asymmetry alpha. -/
  | portAlpha (f : Fin 65) (p : Pkt)
  /-- SPARGE_BIND (R349): Operator command that binds a sparge channel to an owner and target. -/
  | spargeBind (f : Fin 65) (p : Pkt)
  /-- SPARGE_STATUS (R349): Command that returns a channel's state, owner and moved counts. -/
  | spargeStatus (f : Fin 65) (p : Pkt)
  /-- SPARGE_RESUME (R408): Operator command that takes a Halted channel to Running or Idle. -/
  | spargeResume (f : Fin 65) (p : Pkt)
  /-- TENANT_SET (R351): Operator command that writes a quota, weight, budget, pool or interrupt field of an owner. -/
  | tenantSet (f : Fin 65) (p : Pkt)
  /-- TENANT_GET (R350): Operator command that returns a tenant field. -/
  | tenantGet (f : Fin 65) (p : Pkt)
  /-- TENANT_RESET (R375): Operator long command that requests a tenant's function reset and completes at Ready. -/
  | tenantReset (f : Fin 65) (p : Pkt)
  /-- VIOLATIONS (R362): Operator command that returns a function's violation count. -/
  | violations (f : Fin 65) (p : Pkt)
  /-- SCRUB_ABORT (R387): Operator command that abandons a tenant's running scrub. -/
  | scrubAbort (f : Fin 65) (p : Pkt)
  /-- PORT_COUNTERS (R350): Operator command that returns a function's command-port counters. -/
  | portCounters (f : Fin 65) (p : Pkt)
  /-- FABRIC_STATUS (R352): Operator command that returns node ID, root, depth and discovery state. -/
  | fabricStatus (f : Fin 65) (p : Pkt)
  /-- LINK_STATUS (R352): Operator command that returns a hop link's state and counters. -/
  | linkStatus (f : Fin 65) (p : Pkt)
  /-- LINK_CONTROL (R352): Operator command that takes a link Down, brings it Up or retrains it. -/
  | linkControl (f : Fin 65) (p : Pkt)
  /-- ROUTE_READ (R352): Operator command that returns a routing entry. -/
  | routeRead (f : Fin 65) (p : Pkt)
  /-- REDISCOVER (R427): Operator long command that restarts fabric discovery. -/
  | rediscover (f : Fin 65) (p : Pkt)
  /-- KEY_ROTATE (R440): Operator long command that rotates a compatibility link's transmit key. -/
  | keyRotate (f : Fin 65) (p : Pkt)
  /-- MEAS_STATUS (R353): Operator command that returns measurement log counts. -/
  | measStatus (f : Fin 65) (p : Pkt)
  /-- MEAS_READ (R450): Operator command that returns an image's latest complete digest. -/
  | measRead (f : Fin 65) (p : Pkt)
  /-- PATCH_DIGEST (R453): Operator command that returns the latest firmware entry's digest. -/
  | patchDigest (f : Fin 65) (p : Pkt)
  /-- POWER_HOLD (R355): Long command that sets the caller's power floor for a duration. -/
  | powerHold (f : Fin 65) (p : Pkt)
  /-- POWER_STATUS (R354): Operator command that returns power state, power estimate and wake count. -/
  | powerStatus (f : Fin 65) (p : Pkt)
  /-- POWER_POLICY (R355): Operator command that sets the deepest state allowed. -/
  | powerPolicy (f : Fin 65) (p : Pkt)
  /-- ECHO (R356): Command that returns its byte-string parameters unchanged. -/
  | echo (f : Fin 65) (p : Pkt)
  /-- DIAG_MARK (R357): Command that places a MARK record in the caller's stream. -/
  | diagMark (f : Fin 65) (p : Pkt)
  /-- FAULT_READ (R356): Operator command that returns the last Maltster restart cause and counts. -/
  | faultRead (f : Fin 65) (p : Pkt)
  /-- CMD_DATA_WRITE (R310): A word written to CMD_DATA is taken as a header or parameter, reserving lines or counting overrun and framing. -/
  | cmdDataWrite (r : RtReq)
  /-- ABORT_OPEN (R315): A write of ABORT_OPEN discards the partly written packet and expects a header. -/
  | abortOpen (r : RtReq)
  /-- ABORT_QUEUED (R315): A write of ABORT_QUEUED discards the function's complete packets not yet copied. -/
  | abortQueued (r : RtReq)
  /-- RSP_DATA_READ (R323): A read of RSP_DATA returns the word at the read pointer or parks. -/
  | rspDataRead (r : RtReq)
  /-- RSP_STALL_EXPIRY (R324): A parked read reaches its stall limit and returns the empty word. -/
  | rspStallExpiry (f : Fin 65)
  /-- RSP_MARK_WRITE (R327): A write of RSP_MARK sets the mark to the read pointer. -/
  | rspMarkWrite (r : RtReq)
  /-- RSP_REWIND (R327): A write of RSP_REWIND sets the read pointer to the mark. -/
  | rspRewind (r : RtReq)
  /-- RSP_RELEASE (R328): A write of RSP_RELEASE releases fully read responses and frees their lines. -/
  | rspRelease (r : RtReq)
  /-- FN_RESET_WRITE (R375): A tenant's write of FN_RESET.RESET requests its function reset. -/
  | fnResetWrite (r : RtReq)
  /-- INT_STATUS_CLEAR (R372): A W1C write of INT_STATUS clears vector bits and cancels due messages. -/
  | intStatusClear (r : RtReq)
  /-- INT_ENABLE_WRITE (R372): A write of INT_ENABLE enables vectors, making messages due or cancelling them. -/
  | intEnableWrite (r : RtReq)
  /-- DOORBELL (R399): A write of DOORBELL while STARVED makes the channel read the descriptor at HEAD again. -/
  | doorbell (ch : Fin 16) (r : RtReq)
  /-- RING_RESET (R396): A write of ZERO_HEAD while Disabled sets HEAD to 0. -/
  | ringReset (ch : Fin 16) (r : RtReq)
  /-- CHANNEL_ENABLE (R395): A write of ENABLE 1 takes a Disabled channel to Idle. -/
  | channelEnable (ch : Fin 16) (r : RtReq)
  /-- CHANNEL_DISABLE (R409): A write of ENABLE 0 stops a channel in order and makes it Disabled. -/
  | channelDisable (ch : Fin 16) (r : RtReq)
  /-- CNT_CLEAR_TIME (R510): CNT_CLEAR.TIME clears the time and clock-state counters. -/
  | cntClearTime (r : RtReq)
  /-- CNT_CLEAR_MEAS (R510): CNT_CLEAR.MEAS clears the measurement counters. -/
  | cntClearMeas (r : RtReq)
  /-- CNT_CLEAR_REC (R510): CNT_CLEAR.REC clears every REC_LOST. -/
  | cntClearRec (r : RtReq)
  /-- CNT_CLEAR_BUSERR (R510): CNT_CLEAR.BUSERR clears every BUS_ERRORS. -/
  | cntClearBuserr (r : RtReq)
  /-- CNT_CLEAR_DEFER (R510): CNT_CLEAR.DEFER clears every INT_DEFERRED. -/
  | cntClearDefer (r : RtReq)
  /-- SNAP_RELEASE (R269): A write of SNAP_RELEASE makes a Valid snapshot Empty. -/
  | snapRelease (r : RtReq)
  /-- SPLIT_LO_READ (R505): A read of a _LO register latches the rest of the value for the reading source. -/
  | splitLoRead (a : Acc)
  /-- ACCESS_OUTSIDE_RIGHTS (R362): A register access outside the caller's rights reads zero, is ignored and counted as a violation. -/
  | accessOutsideRights (we : Bool) (a : Acc)
  /-- REGISTER_WRITE (R504): A write to a register with no behaviour of its own changes its strobed RW and W1C fields. -/
  | registerWrite (a : Acc)
  /-- REGISTER_ACCESS_HELD (R23): An access arriving in Nap or Kiln is held by the front end, which wakes the block. -/
  | registerAccessHeld (we : Bool) (a : Acc)
  /-- TAP_ACCEPT_ITEM (R82): A tap accepts an engine item, stamps its delta, stores it in the chain and counts it. -/
  | tapAcceptItem (tap : Fin 2048) (cyc : Nat) (cls : BitVec 4) (pay : Payload)
  /-- TAP_SLOT_WRITE (R73): The tap writes its highest-priority pending tap-generated item into the tap slot. -/
  | tapSlotWrite (tap : Fin 2048) (cyc : Nat)
  /-- TAP_CLOCK_STATE_CHANGE (R50): The engine's tp_clk_state changes and a clock-state mark falls due. -/
  | tapClockStateChange (tap : Fin 2048) (cyc : Nat) (st : BitVec 2)
  /-- TAP_CONTEXT_CHANGE (R77): tp_ctx differs from the previous cycle and an O CONTEXT item falls due. -/
  | tapContextChange (tap : Fin 2048) (cyc : Nat) (ctx : BitVec 12)
  /-- TAP_DRAIN_REQUEST (R86): The tap samples tp_drain_req high and a P DOWN item falls due. -/
  | tapDrainRequest (tap : Fin 2048) (cyc : Nat) (pwr : BitVec 4)
  /-- TAP_DRAIN_ACK (R24): The tap asserts its drain acknowledge and hands discarded items to the ledger. -/
  | tapDrainAck (tap : Fin 2048) (cyc : Nat)
  /-- TAP_DRAIN_ABANDON (R88): tp_drain_req falls with power kept; the tap lowers its acknowledge and writes P UP ABORTED. -/
  | tapDrainAbandon (tap : Fin 2048) (cyc : Nat)
  /-- TAP_POWER_UP (R89): A powered-up tap writes P UP, raises an anchor request and detects retention loss. -/
  | tapPowerUp (tap : Fin 2048) (retentionLost : Bool) (drainReq : Bool) (pwr : BitVec 4) (ctx : BitVec 12)
  /-- TAP_ENABLE_RISE (R91): A tap's enable rises; delta restarts, FULL pends and an O CONTEXT item falls due. -/
  | tapEnableRise (tap : Fin 2048) (cyc : Nat) (ctx : BitVec 12)
  /-- TAP_ENABLE_FALL (R92): A tap's enable falls; pending tap-slot items drop and on reset the chain is discarded as a drain count. -/
  | tapEnableFall (tap : Fin 2048) (cyc : Nat)
  /-- TAP_STROBE_ARRIVAL (R517): An anchor strobe reaches a tap and an anchor mark falls due for the marked edge. -/
  | tapStrobeArrival (tap : Fin 2048) (cyc : Nat) (phase : BitVec 6)
  /-- TAP_FREEZE_LATCH (R285): A freeze strobe reaches a tap, which latches its counters at the marked edge. -/
  | tapFreezeLatch (tap : Fin 2048) (cyc : Nat) (phase : BitVec 6)
  /-- TAP_CONFIG_APPLY (R281): Configuration from the station mirror reaches the tap tile and takes effect. -/
  | tapConfigApply (tap : Fin 2048) (cyc : Nat)
  /-- TAP_RESYNC_REQUEST (R79): A station's resync request reaches a tap, which sets FULL on its next A item. -/
  | tapResyncRequest (tap : Fin 2048)
  /-- TAP_ASSAY_BEAT (R85): A tap receives an assay beat and places it in its crossing buffer or discards the row. -/
  | tapAssayBeat (tap : Fin 2048) (beat : Beat)
  /-- STATION_TAKE_ITEM (R93): A station pulls an item from a tap chain head and passes it through its pipeline stages. -/
  | stationTakeItem (st : Fin 32) (localTap : Fin 64)
  /-- PERIOD_STROBE (R43): A station issues a PERIOD anchor strobe after 1 µs or 4,096 units. -/
  | periodStrobe (st : Fin 32)
  /-- STRETCH_TICK (R43): STRETCH_ANCHOR_PERIOD expires in a stretched region and a strobe is issued. -/
  | stretchTick (st : Fin 32) (region : Fin 64)
  /-- WAKE_REQ_STROBE (R43): A station answers a tap's anchor request with a WAKE_REQ strobe. -/
  | wakeReqStrobe (tap : Fin 2048)
  /-- CLOCK_STATE_INPUT_CHANGE (R52): A region's clock-state input changes and the station emits STOP, RESUME or stretch strobes. -/
  | clockStateInputChange (region : Fin 64) (state : BitVec 2)
  /-- TCAL_PERIODIC (R46): TCAL_PERIOD falls due and enabled taps' d_tap are measured again; a trip is the sum of a tap's 16 round trips. -/
  | tcalPeriodic (trips : List (Fin 2048 × Nat))
  /-- TCAL_IDLE (R46): A tap's engine is idle 4,096 cycles since measurement and d_tap is measured; `roundTrip` is the sum of 16. -/
  | tcalIdle (tap : Fin 2048) (idleCycles : Nat) (roundTrip : Nat)
  /-- CROSS_TRIGGER_ARRIVAL (R113): A cross trigger reaches other stations' comparators 16 brew cycles after the trigger. -/
  | crossTriggerArrival (st : Fin 32)
  /-- ASSAY_EVENT_ARRIVAL (R238): A DRIFT, CLIP or ZERO_RANGE event reaches the owner's comparators. -/
  | assayEventArrival (st : Fin 32)
  /-- SEQ_TIMER_FIRE (R108): A TIMER comparator's gt is reached and its output becomes true. -/
  | seqTimerFire (st : Fin 32) (cmp : Fin 8)
  /-- QUADRANT_GRANT (R124): A quadrant grants its four cask ports to the record input and station heads. -/
  | quadrantGrant (q : Fin 4)
  /-- RECORD_OFFER (R17): A record source offers a built record to its record input, which takes it whole or discards it. -/
  | recordOffer (src : RecSrc)
  /-- RECORD_FRAGMENT_ENTRY (R17): A later fragment of a begun record enters the room freed in the record input. -/
  | recordFragmentEntry (q : Fin 4)
  /-- STREAM_FLUSH_EXPIRY (R157): An Open page of a Stream owner takes no unit for STREAM_FLUSH and closes. -/
  | streamFlushExpiry (owner : Fin 65) (interest : Fin 4)
  /-- PATROL_SLICE (R177): The patrol scrub reads slots, corrects single errors and fences on double errors. -/
  | patrolSlice (macroNo : Fin 512) (page : Fin 16) (slot : Fin 64) (bitErrors : Fin 3)
  /-- SYNC_ITEM_APPLY (R251): The sync watch takes an S item from a sync queue and applies it to the shadow tables. -/
  | syncItemApply (q : Fin 4)
  /-- STEP_QUEUE_SPACE (R192): Space returns in the step queue and held segments issue as coarse steps. -/
  | stepQueueSpace
  /-- MASH_STEP_APPLY (R190): The Mash array applies one charge step to its tagged bank. -/
  | mashStepApply
  /-- LOOP_PERIOD_EXPIRY (R195): gt reaches the end of a WSRC 1 window, which closes and the next opens. -/
  | loopPeriodExpiry (slot : Fin 16)
  /-- WINDOW_OVERLONG (R197): A window open for 2^25 ticks closes with OVERLONG. -/
  | windowOverlong (slot : Fin 16)
  /-- RECORD_TOKEN_GAIN (R196): The record budget gains a token and a deferred close proceeds. -/
  | recordTokenGain
  /-- MASH_SCAN_START (R200): After the last pre-close step is applied, the scan of a closed window starts. -/
  | mashScanStart
  /-- MASH_SCAN_END (R200): The scan of a closed window ends after 640 Mash cycles. -/
  | mashScanEnd
  /-- LOOP_RECORD_PLACE (R202): The Maltster builds the loop record and places it in quadrant 0's record input. -/
  | loopRecordPlace
  /-- DEADLINE_MISS (R210): The always-on deadline timer decides a miss at deadline plus 1 µs. -/
  | deadlineMiss (slot : Fin 16)
  /-- NOPROG_SWEEP_ENTRY (R255): The sweep examines one object entry and may give a no-progress report. -/
  | noprogSweepEntry
  /-- NOPROG_WAKE (R256): The half-limit interval expires while objects have waiters and the block runs a sweep. -/
  | noprogWake
  /-- KNOT_PERIOD_EXPIRY (R260): KNOT_PERIOD passes since the last walk began and a walk starts. -/
  | knotPeriodExpiry
  /-- KNOT_WALK_END (R258): A Knot walk and its confirm pass end, new cycles are reported and pending walks start. -/
  | knotWalkEnd
  /-- SNAPSHOT_CAPTURE (R267): gt reaches T and capture of the snapshot tables begins. -/
  | snapshotCapture
  /-- SNAPSHOT_CAPTURE_DONE (R267): The capture completes, the snapshot becomes Valid and a notice is placed. -/
  | snapshotCaptureDone
  /-- ASSAY_BEAT_TAKE (R218): An Assay unit takes one beat from its bound taps' buffers and accumulates the row. -/
  | assayBeatTake (unit : Fin 16)
  /-- ROW_COMMIT (R239): A row commits, evaluating candidate codes, drift and raising events. -/
  | rowCommit (unit : Fin 16) (tap : Fin 2048)
  /-- TENSOR_GAP_EXPIRY (R223): TENSOR_GAP passes since a tap's last beat and its tensor closes. -/
  | tensorGapExpiry (unit : Fin 16) (tap : Fin 2048)
  /-- TENSOR_RECORD_PLACE (R239): A closed tensor's row tables and summary enter the unit's record input. -/
  | tensorRecordPlace (unit : Fin 16)
  /-- FREEZE_STROBE_ISSUE (R285): gt reaches T minus d_tap and the station issues a tap's freeze strobe. -/
  | freezeStrobeIssue (tap : Fin 2048)
  /-- FREEZE_AON_STROBE (R289): T is reached below Run and the time keeper strobes every enabled tap. -/
  | freezeAonStrobe
  /-- FREEZE_LOCAL_T_FIX (R290): 2 µs before the converted T an instance fixes local T for a fabric freeze. -/
  | freezeLocalTFix (freezeId : BitVec 8)
  /-- FREEZE_CMD_TIMEOUT (R290): 100 µs after FREEZE_SCHED the fabric freeze command completes with missing answers. -/
  | freezeCmdTimeout (freezeId : BitVec 8)
  /-- FREEZE_COLLECT (R291): A station collects a tap's latch bank over the tap link. -/
  | freezeCollect (tap : Fin 2048)
  /-- FREEZE_COLLECT_LIMIT_EXPIRY (R291): A tap not latched within the limit is reported NOT_LATCHED. -/
  | freezeCollectLimitExpiry (tap : Fin 2048)
  /-- FREEZE_RESULT_PLACE (R291): A station's freeze result record enters quadrant 3's record input. -/
  | freezeResultPlace (st : Fin 32)
  /-- COUNTER_SAMPLE_RETURN (R294): A live counter fetch over the tap link returns its values. -/
  | counterSampleReturn (tap : Fin 2048)
  /-- COUNTER_MIRROR_LOAD (R298): A station loads its descriptor mirror from a tap tile. -/
  | counterMirrorLoad (tap : Fin 2048)
  /-- VIEW_REFRESH (R393): At each 64 µs multiple the Maltster refreshes every tenant's coarse view. -/
  | viewRefresh
  /-- TIME_BUS_SAMPLE (R34): A time bus sample arrives and the servo trims, locks or steps the time base. -/
  | timeBusSample (cycles : Nat) (tbGt : BitVec 64) (phase : BitVec 8)
  /-- HOLDOVER_ENTRY (R35): No time bus sample for 1 µs and the block enters holdover. -/
  | holdoverEntry
  /-- PPS_EDGE (R37): A tb_pps edge is checked against a whole second of gt. -/
  | ppsEdge (backCycles : Nat)
  /-- TSYNC_PERIOD_EXPIRY (R56): TSYNC_PERIOD passes and a child starts a measurement with CALL. -/
  | tsyncPeriodExpiry
  /-- TSYNC_IDLE_MEASURE (R56): A link carries no trace frames for 10 µs and a measurement starts. -/
  | tsyncIdleMeasure
  /-- TSYNC_REQ_SEND (R55): The parent sends the next TSYNC REQ of a measurement at least 1 µs after the last. -/
  | tsyncReqSend (port : Fin 6) (t1 : Nat)
  /-- TSYNC_FUP_TIMEOUT (R435): No FUP arrives within 100 µs of CALL and the measurement is discarded. -/
  | tsyncFupTimeout
  /-- HOP_FRAME_SEND (R420): A port sends a queued frame once it holds credit for the whole frame. -/
  | hopFrameSend (port : Fin 6)
  /-- IDLE_SEND (R420): A port with nothing to send sends IDLE at least every 64 brew cycles. -/
  | idleSend (port : Fin 6)
  /-- IDLE_RECEIVE (R418): An IDLE frame is received, returning credit and LACK. -/
  | idleReceive (port : Fin 6) (fr : Frame)
  /-- HELLO_RECEIVE (R425): A HELLO is received and the link version is negotiated. -/
  | helloReceive (port : Fin 6) (fr : Frame)
  /-- HELLO_SEND (R424): In Hello the port sends HELLO every 1 µs. -/
  | helloSend (port : Fin 6)
  /-- HELLO_TIMEOUT (R422): No valid HELLO within 1 ms takes the link Down. -/
  | helloTimeout (port : Fin 6)
  /-- BYE_RECEIVE (R422): A BYE is received and the link goes Down with PEER_BYE. -/
  | byeReceive (port : Fin 6) (fr : Frame)
  /-- ELECT_RECEIVE (R427): A DISC ELECT is received and may change best key and parent. -/
  | electReceive (port : Fin 6) (fr : Frame)
  /-- ELECT_QUIET (R428): Best key unchanged for 50 µs and a non-root sends CLAIM. -/
  | electQuiet
  /-- CLAIM_RECEIVE (R428): A DISC CLAIM is received from a child. -/
  | claimReceive (port : Fin 6) (fr : Frame)
  /-- ROOT_WAIT_EXPIRY (R428): The root's further 20 µs pass and it sends COUNT_REQ. -/
  | rootWaitExpiry
  /-- COUNT_REQ_RECEIVE (R428): A COUNT_REQ is received and passed to claimants. -/
  | countReqReceive (port : Fin 6) (fr : Frame)
  /-- COUNT_RECEIVE (R428): A COUNT is received and the subtree count reported once all claimants answer. -/
  | countReceive (port : Fin 6) (fr : Frame)
  /-- ASSIGN_RECEIVE (R429): An ASSIGN is received, giving the node ID and passing bases on. -/
  | assignReceive (port : Fin 6) (fr : Frame)
  /-- VECTOR_RECEIVE (R430): A VECTOR frame is applied to the routing table. -/
  | vectorReceive (port : Fin 6) (fr : Frame)
  /-- ROUTING_QUIET (R431): Routing unchanged for 50 µs and the instance enters Aligning or Ready. -/
  | routingQuiet
  /-- TSYNC_CALL_RECEIVE (R435): A parent receives CALL and runs 8 exchanges. -/
  | tsyncCallReceive (port : Fin 6) (fr : Frame)
  /-- TSYNC_REQ_RECEIVE (R435): A child receives a stamped REQ and answers with RSP. -/
  | tsyncReqReceive (port : Fin 6) (fr : Frame) (t2 : Nat) (t3 : Nat)
  /-- TSYNC_RSP_RECEIVE (R435): A parent receives a stamped RSP. -/
  | tsyncRspReceive (port : Fin 6) (fr : Frame) (t4 : Nat)
  /-- TSYNC_FUP_RECEIVE (R435): A child receives FUP, computes theta and applies the fabric offset. -/
  | tsyncFupReceive (port : Fin 6) (fr : Frame)
  /-- SCRUB_MARK_RECEIVE (R437): A SCRUB_MARK frame is received and counted. -/
  | scrubMarkReceive (port : Fin 6) (fr : Frame)
  /-- PAGE_REQ_RECEIVE (R433): A sink receives PAGE_REQ and grants a slot or WAIT. -/
  | pageReqReceive (port : Fin 6) (fr : Frame)
  /-- PAGE_GRANT_RECEIVE (R433): A channel receives PAGE_GRANT and sends PAGE_DATA or waits to retry. -/
  | pageGrantReceive (port : Fin 6) (fr : Frame)
  /-- PAGE_DATA_RECEIVE (R434): A sink receives PAGE_DATA and delivers the page when the slot is complete. -/
  | pageDataReceive (port : Fin 6) (fr : Frame)
  /-- PAGE_REQ_RETRY (R433): 50 µs after WAIT the channel sends PAGE_REQ again. -/
  | pageReqRetry (ch : Fin 16)
  /-- SINK_SLOT_TIMEOUT (R434): A sink slot idle for 1 ms is delivered cut or freed. -/
  | sinkSlotTimeout (slot : Fin 32)
  /-- FREEZE_SCHED_RECEIVE (R436): A FREEZE_SCHED is received, handled once, flooded on and answered. -/
  | freezeSchedReceive (port : Fin 6) (fr : Frame)
  /-- FREEZE_ACK_RECEIVE (R290): The initiator receives a FREEZE_ACK outcome. -/
  | freezeAckReceive (port : Fin 6) (fr : Frame)
  /-- ROTATE_RECEIVE (R440): A ROTATE, acknowledgement or DONE frame is received and keys installed or destroyed. -/
  | rotateReceive (port : Fin 6) (fr : Frame)
  /-- BAD_TYPE_FRAME (R419): A frame of reserved or undefined type is accepted for sequence and credit and discarded. -/
  | badTypeFrame (port : Fin 6) (fr : Frame)
  /-- REPLAY_TIMEOUT (R418): The oldest unacknowledged frame waits 2 µs and the replay buffer is resent. -/
  | replayTimeout (port : Fin 6)
  /-- PHY_READY (R424): A hop PHY reports ready and the port enters Hello. -/
  | phyReady (port : Fin 6)
  /-- PHY_LOST (R422): A hop PHY reports loss of link and the link goes Down. -/
  | phyLost (port : Fin 6)
  /-- LINK_RETRAIN_TIMER (R424): 10 ms after a Down the port starts again from Training. -/
  | linkRetrainTimer (port : Fin 6)
  /-- KEY_RESPONSE (R438): Session keys arrive from the key interface into the port's key store. -/
  | keyResponse (port : Fin 6) (rxDir : Bool) (phase : Bool) (key : BitVec 256) (salt : BitVec 32) (err : Bool)
  /-- KEY_TIMEOUT (R422): No session keys within 1 ms take the link Down with KEY_UNAVAILABLE. -/
  | keyTimeout (port : Fin 6)
  /-- KEY_PERIOD_EXPIRY (R440): KEY_PERIOD or a counter of 2^48 starts an automatic rotation. -/
  | keyPeriodExpiry (port : Fin 6)
  /-- CHANNEL_TAKE_PAGE (R400): A channel takes a queued or named page, making it Draining. -/
  | channelTakePage (ch : Fin 16)
  /-- DESCRIPTOR_READ_RETURN (R399): A descriptor read returns and is taken or sets STARVED. -/
  | descriptorReadReturn (ch : Fin 16) (data : List Byte) (err : Bool)
  /-- INDEX_READ_RETURN (R402): An index-table read returns segment entries. -/
  | indexReadReturn (ch : Fin 16) (data : List Byte) (err : Bool)
  /-- CHANNEL_ISSUE_BEAT (R403): A channel issues a funnel beat within its drain allowance.
  `badUnits`: what its read finds (R176): k, an uncorrectable error in unit k of the beat's page; 64 + k, in unit k of
  the next page; 128 + k and 192 + k, corrected errors in them. -/
  | channelIssueBeat (ch : Fin 16) (badUnits : List (Fin 256))
  /-- MEM_WRITE_RESPONSE (R405): A memory write response returns to a channel or scrub. -/
  | memWriteResponse (id : BitVec 11) (err : Bool)
  /-- DRAIN_WINDOW_START (R411): A 1 µs metering window starts, fixing P and the allowances. -/
  | drainWindowStart
  /-- EXPORT_BEAT_ACCEPT (R412): The export PHY accepts a beat, draining the page at its last beat. -/
  | exportBeatAccept
  /-- SCRUB_WRITE (R384): The scrub issues a zero write into a covered drain window. -/
  | scrubWrite
  /-- FUNCTION_RESET_REQUEST (R499): fr_req rises for a tenant function and requests its function reset. -/
  | functionResetRequest (fn : Fin 64)
  /-- OPERATOR_FUNCTION_RESET (R383): A reset request for function 64 resets the operator's ports and acknowledges at once. -/
  | operatorFunctionReset
  /-- RESET_EPOCH (R377): Step 2 advances the tenant epoch and clears its resources, queueing a scrub. -/
  | resetEpoch (fn : Fin 64)
  /-- RESET_READY (R377): Steps 3 and 4 end the clearing, set Ready and acknowledge the reset. -/
  | resetReady (fn : Fin 64)
  /-- INTERRUPT_MESSAGE_SEND (R374): The interrupt output transfers one due message, spending a tenant token. -/
  | interruptMessageSend
  /-- POWER_STATE_CHOOSE (R471): After 64 idle brew cycles the Maltster chooses a power state. -/
  | powerStateChoose
  /-- ACTIVE_US_EXPIRY (R471): The activity window expires and the block wakes from Doze for one choice. -/
  | activeUsExpiry
  /-- WAKE_TIMER_EXPIRY (R471): The always-on wake timer expires and the block wakes ahead of a known event. -/
  | wakeTimerExpiry
  /-- POWER_HOLD_EXPIRY (R355): A function's power hold expires. -/
  | powerHoldExpiry (f : Fin 65)
  /-- WAKE_REQUEST (R468): A wake source raises the block from Doze, Nap or Kiln. -/
  | wakeRequest (srcs : List WakeSrc)
  /-- BLOCK_WAKE (R43): The brew domain reaches Run; BLOCK_WAKE strobes are issued and held accesses complete. -/
  | blockWake
  /-- POWER_GRANT (R473): The power controller grants or releases a supply, retention or clock request. -/
  | powerGrant (pair : PwrPair) (level : Bool)
  /-- CLOCK_SPEED_ACK (R498): The chip acknowledges a change of brew clock speed. -/
  | clockSpeedAck
  /-- OFF_REQUEST (R474): The power controller requests Off and the block shuts down and grants. -/
  | offRequest (level : Bool)
  /-- POWER_ON_RESET (R480): por_n is released and start-up begins at PowerUp. -/
  | powerOnReset (uid : BitVec 48) (patchAddr : BitVec 64) (patchLen : BitVec 19)
  /-- BLOCK_RESET_REQUEST (R477): A block reset request starts Quiesce. -/
  | blockResetRequest
  /-- QUIESCE_END (R477): Outstanding write responses return and the block proceeds from Boot. -/
  | quiesceEnd
  /-- BOOT_END (R480): Boot ends and the patch phase begins. -/
  | bootEnd
  /-- PATCH_FETCH_DONE (R481): The patch image fetch ends and the image is accepted, measured or rejected. -/
  | patchFetchDone (image : List Byte) (err : Bool)
  /-- SELFTEST_END (R482): SelfTest ends, fencing failed macros or stopping start-up. -/
  | selftestEnd (macros : List (Fin 512)) (mash shadow store : Bool) (assay : BitVec 16)
  /-- CALIBRATE_END (R480): Calibrate ends and the block enters Serve; a trip is the sum of a tap's 16 round trips. -/
  | calibrateEnd (trips : List (Fin 2048 × Nat))
  /-- START_READY (R480): Discovery reaches Ready or 1 ms passes in Serve without a link, and start-up reaches Ready. -/
  | startReady
  /-- MALTSTER_WATCHDOG (R331): The watchdog restarts the Maltster and copied commands complete with HW_FAULT. -/
  | maltsterWatchdog (cause : BitVec 8)
  /-- IMAGE_BEGIN (R447): An IMAGE_BEGIN control entry opens an image on a free hash lane. -/
  | imageBegin (tap : Fin 2048)
  /-- IMAGE_END (R447): An IMAGE_END control entry closes an image and builds a log entry. -/
  | imageEnd (tap : Fin 2048)
  /-- WEIGHT_LOAD_BEAT (R448): A weight-load beat enters its lane's staging buffer or is discarded. -/
  | weightLoadBeat (tap : Fin 2048)
  /-- LOG_TAKE (R455): The security controller takes a log entry over the measurement interface. -/
  | logTake
  /-- QUOTE_REQUEST (R456): A quote request returns LOG_DIGEST and its last LOG_SEQ. -/
  | quoteRequest
  /-- IFR_REQUEST (R461): An interface report request returns a tenant's 32-byte report. -/
  | ifrRequest (fn : Fin 64)
  /-- LOCK_STATE_CHANGE (R462): The controller reports a change of a function's locked state. -/
  | lockStateChange (locked : BitVec 64)
  /-- ALIGNMENT_LOST (R58): The fabric residual bound, growing with the time since the last applied measurement or with holdover, passes 2.0 ns; the instance loses alignment and the alignment epoch advances. -/
  | alignmentLost
  /-- TCAL_FIRST_MEASUREMENT (R46): A present tap not measured at Calibrate has its d_tap measured within 64 µs of the station taking its first P UP item; `roundTrip` is the sum of 16. -/
  | tcalFirstMeasurement (tap : Fin 2048) (roundTrip : Nat)
  /-- FUNCTION_RESET_RELEASE (R499): fr_req[n] falls after its acknowledge, and the four-phase handshake lowers fr_ack[n]. -/
  | functionResetRelease (fn : Fin 65)
  /-- BLOCK_RESET_RELEASE (R499): blk_rst_req falls after its acknowledge, and the four-phase handshake lowers blk_rst_ack. -/
  | blockResetRelease
  /-- QUOTE_RELEASE (R501): ms_quote_req falls, and the block lowers ms_quote_ack, ending the validity of the quoted digest. -/
  | quoteRelease
  /-- IFR_RELEASE (R501): ms_ifr_req falls, and the block lowers ms_ifr_ack. -/
  | ifrRelease
  deriving DecidableEq, Repr

end Sys2Proof
end

