-- ==== Sys2Proof/WellFormed.lean ====
section
/-! DEFINITION. Which commands can occur: the bounds that the operands' types leave open. The types bound function,
tap, station, channel, port, owner and slot numbers and the widths of register and frame fields. -/

namespace Sys2Proof

/-- A packet's `LENGTH` is an 8-bit field (R305). -/
def Pkt.wf (p : Pkt) : Bool := decide (p.params.length ≤ 255)

/-- A beat has at most 64 bytes of data (R218). -/
def Beat.wf (e : Beat) : Bool := decide (e.data.length ≤ 64)

/-- A frame has a body of 16 bytes, at most 8 payload flits of 32 bytes, and a tag flit of 32 bytes or none (R414, R439). -/
def Frame.wf (f : Frame) : Bool :=
  decide (f.body.length = 16) && decide (f.pflits.toNat ≤ 8) && decide (f.payload.length = 32 * f.pflits.toNat) &&
    (decide (f.tag.length = 0) || decide (f.tag.length = 32))

/-- Numbers listed in strictly rising order. -/
def rising : List Nat → Bool
  | a :: b :: t => decide (a < b) && rising (b :: t)
  | _ => true

/-- Round trips of distinct taps in rising order; each gives a `d_tap` of 16 bits (R46, R348). -/
def tripsWf (l : List (Fin 2048 × Nat)) : Bool := rising (l.map (fun e => e.1.val)) && l.all (fun e => decide (e.2 < 2 ^ 16))

/-- A stamp in 1/256 ns, 72 bits, or 2^72 where the stamped flit's mark is missing (R503). -/
def stampWf (t : Nat) : Bool := decide (t ≤ 2 ^ 72)

/-- The command can occur. -/
def Instr.wf : Instr → Bool
  | .negotiate _ p => p.wf
  | .sessionSet _ p => p.wf
  | .identify _ p => p.wf
  | .nop _ p => p.wf
  | .tapSet _ p => p.wf
  | .tapStatus _ p => p.wf
  | .ctxWrite _ p => p.wf
  | .ctxRead _ p => p.wf
  | .lauterWrite _ p => p.wf
  | .lauterRead _ p => p.wf
  | .lauterDefault _ p => p.wf
  | .cmpWrite _ p => p.wf
  | .seqControl _ p => p.wf
  | .seqRearm _ p => p.wf
  | .seqStatus _ p => p.wf
  | .seqOwner _ p => p.wf
  | .streamFormat _ p => p.wf
  | .stationCounters _ p => p.wf
  | .caskMode _ p => p.wf
  | .caskDrain _ p => p.wf
  | .caskRelease _ p => p.wf
  | .caskStatus _ p => p.wf
  | .caskPool _ p => p.wf
  | .caskFenceRead _ p => p.wf
  | .caskMacro _ p => p.wf
  | .caskPatrol _ p => p.wf
  | .agentMapWrite _ p => p.wf
  | .agentWrite _ p => p.wf
  | .reasonMapWrite _ p => p.wf
  | .loopWrite _ p => p.wf
  | .mashRead _ p => p.wf
  | .loopStatus _ p => p.wf
  | .asyBind _ p => p.wf
  | .asyUnit _ p => p.wf
  | .profileWrite _ p => p.wf
  | .refWrite _ p => p.wf
  | .asyRead _ p => p.wf
  | .asyFlush _ p => p.wf
  | .syncDeclare _ p => p.wf
  | .syncRead _ p => p.wf
  | .tapWaitRead _ p => p.wf
  | .knotWalk _ p => p.wf
  | .snapshot _ p => p.wf
  | .syncSet _ p => p.wf
  | .syncCounters _ p => p.wf
  | .cntWrite _ p => p.wf
  | .cntRead _ p => p.wf
  | .cntSample _ p => p.wf
  | .freeze _ p => p.wf
  | .freezeStatus _ p => p.wf
  | .freezeCancel _ p => p.wf
  | .freezeSet _ p => p.wf
  | .cntView _ p => p.wf
  | .timeStatus _ p => p.wf
  | .timeSet _ p => p.wf
  | .tcalRead _ p => p.wf
  | .tsyncNow _ p => p.wf
  | .portAlpha _ p => p.wf
  | .spargeBind _ p => p.wf
  | .spargeStatus _ p => p.wf
  | .spargeResume _ p => p.wf
  | .tenantSet _ p => p.wf
  | .tenantGet _ p => p.wf
  | .tenantReset _ p => p.wf
  | .violations _ p => p.wf
  | .scrubAbort _ p => p.wf
  | .portCounters _ p => p.wf
  | .fabricStatus _ p => p.wf
  | .linkStatus _ p => p.wf
  | .linkControl _ p => p.wf
  | .routeRead _ p => p.wf
  | .rediscover _ p => p.wf
  | .keyRotate _ p => p.wf
  | .measStatus _ p => p.wf
  | .measRead _ p => p.wf
  | .patchDigest _ p => p.wf
  | .powerHold _ p => p.wf
  | .powerStatus _ p => p.wf
  | .powerPolicy _ p => p.wf
  | .echo _ p => p.wf
  | .diagMark _ p => p.wf
  | .faultRead _ p => p.wf
  | .cmdDataWrite _ => true
  | .abortOpen _ => true
  | .abortQueued _ => true
  | .rspDataRead _ => true
  | .rspStallExpiry _ => true
  | .rspMarkWrite _ => true
  | .rspRewind _ => true
  | .rspRelease _ => true
  | .fnResetWrite _ => true
  | .intStatusClear _ => true
  | .intEnableWrite _ => true
  | .doorbell _ _ => true
  | .ringReset _ _ => true
  | .channelEnable _ _ => true
  | .channelDisable _ _ => true
  | .cntClearTime _ => true
  | .cntClearMeas _ => true
  | .cntClearRec _ => true
  | .cntClearBuserr _ => true
  | .cntClearDefer _ => true
  | .snapRelease _ => true
  | .splitLoRead _ => true
  | .accessOutsideRights _ _ => true
  | .registerWrite _ => true
  | .registerAccessHeld _ _ => true
  | .tapAcceptItem _ _ _ _ => true
  | .tapSlotWrite _ _ => true
  | .tapClockStateChange _ _ _ => true
  | .tapContextChange _ _ _ => true
  | .tapDrainRequest _ _ _ => true
  | .tapDrainAck _ _ => true
  | .tapDrainAbandon _ _ => true
  | .tapPowerUp _ _ _ _ _ => true
  | .tapEnableRise _ _ _ => true
  | .tapEnableFall _ _ => true
  | .tapStrobeArrival _ _ _ => true
  | .tapFreezeLatch _ _ _ => true
  | .tapConfigApply _ _ => true
  | .tapResyncRequest _ => true
  | .tapAssayBeat _ beat => beat.wf
  | .stationTakeItem _ _ => true
  | .periodStrobe _ => true
  | .stretchTick _ _ => true
  | .wakeReqStrobe _ => true
  | .clockStateInputChange _ _ => true
  | .tcalPeriodic trips => tripsWf trips
  | .tcalIdle _ _ _ => true
  | .crossTriggerArrival _ => true
  | .assayEventArrival _ => true
  | .seqTimerFire _ _ => true
  | .quadrantGrant _ => true
  | .recordOffer _ => true
  | .recordFragmentEntry _ => true
  | .streamFlushExpiry _ _ => true
  | .patrolSlice _ _ _ _ => true
  | .syncItemApply _ => true
  | .stepQueueSpace => true
  | .mashStepApply => true
  | .loopPeriodExpiry _ => true
  | .windowOverlong _ => true
  | .recordTokenGain => true
  | .mashScanStart => true
  | .mashScanEnd => true
  | .loopRecordPlace => true
  | .deadlineMiss _ => true
  | .noprogSweepEntry => true
  | .noprogWake => true
  | .knotPeriodExpiry => true
  | .knotWalkEnd => true
  | .snapshotCapture => true
  | .snapshotCaptureDone => true
  | .assayBeatTake _ => true
  | .rowCommit _ _ => true
  | .tensorGapExpiry _ _ => true
  | .tensorRecordPlace _ => true
  | .freezeStrobeIssue _ => true
  | .freezeAonStrobe => true
  | .freezeLocalTFix _ => true
  | .freezeCmdTimeout _ => true
  | .freezeCollect _ => true
  | .freezeCollectLimitExpiry _ => true
  | .freezeResultPlace _ => true
  | .counterSampleReturn _ => true
  | .counterMirrorLoad _ => true
  | .viewRefresh => true
  | .timeBusSample _ _ _ => true
  | .holdoverEntry => true
  | .ppsEdge _ => true
  | .tsyncPeriodExpiry => true
  | .tsyncIdleMeasure => true
  | .tsyncReqSend _ t1 => stampWf t1
  | .tsyncFupTimeout => true
  | .hopFrameSend _ => true
  | .idleSend _ => true
  | .idleReceive _ fr => fr.wf
  | .helloReceive _ fr => fr.wf
  | .helloSend _ => true
  | .helloTimeout _ => true
  | .byeReceive _ fr => fr.wf
  | .electReceive _ fr => fr.wf
  | .electQuiet => true
  | .claimReceive _ fr => fr.wf
  | .rootWaitExpiry => true
  | .countReqReceive _ fr => fr.wf
  | .countReceive _ fr => fr.wf
  | .assignReceive _ fr => fr.wf
  | .vectorReceive _ fr => fr.wf
  | .routingQuiet => true
  | .tsyncCallReceive _ fr => fr.wf
  | .tsyncReqReceive _ fr t2 t3 => fr.wf && stampWf t2 && stampWf t3
  | .tsyncRspReceive _ fr t4 => fr.wf && stampWf t4
  | .tsyncFupReceive _ fr => fr.wf
  | .scrubMarkReceive _ fr => fr.wf
  | .pageReqReceive _ fr => fr.wf
  | .pageGrantReceive _ fr => fr.wf
  | .pageDataReceive _ fr => fr.wf
  | .pageReqRetry _ => true
  | .sinkSlotTimeout _ => true
  | .freezeSchedReceive _ fr => fr.wf
  | .freezeAckReceive _ fr => fr.wf
  | .rotateReceive _ fr => fr.wf
  | .badTypeFrame _ fr => fr.wf
  | .replayTimeout _ => true
  | .phyReady _ => true
  | .phyLost _ => true
  | .linkRetrainTimer _ => true
  | .keyResponse _ _ _ _ _ _ => true
  | .keyTimeout _ => true
  | .keyPeriodExpiry _ => true
  | .channelTakePage _ => true
  | .descriptorReadReturn _ data _ => decide (data.length = 32)
  | .indexReadReturn _ data _ => decide (data.length ≤ 128)
  | .channelIssueBeat _ bad => rising (bad.map Fin.val)
  | .memWriteResponse _ _ => true
  | .drainWindowStart => true
  | .exportBeatAccept => true
  | .scrubWrite => true
  | .functionResetRequest _ => true
  | .operatorFunctionReset => true
  | .resetEpoch _ => true
  | .resetReady _ => true
  | .interruptMessageSend => true
  | .powerStateChoose => true
  | .activeUsExpiry => true
  | .wakeTimerExpiry => true
  | .powerHoldExpiry _ => true
  | .wakeRequest srcs => !srcs.isEmpty
  | .blockWake => true
  | .powerGrant _ _ => true
  | .clockSpeedAck => true
  | .offRequest _ => true
  | .powerOnReset _ _ _ => true
  | .blockResetRequest => true
  | .quiesceEnd => true
  | .bootEnd => true
  | .patchFetchDone image _ => decide (image.length < 2 ^ 19)
  | .selftestEnd macros _ _ _ _ => rising (macros.map Fin.val)
  | .calibrateEnd trips => tripsWf trips
  | .startReady => true
  | .maltsterWatchdog _ => true
  | .imageBegin _ => true
  | .imageEnd _ => true
  | .weightLoadBeat _ => true
  | .logTake => true
  | .quoteRequest => true
  | .ifrRequest _ => true
  | .lockStateChange _ => true
  | .alignmentLost => true
  | .tcalFirstMeasurement _ _ => true
  | .functionResetRelease _ => true
  | .blockResetRelease => true
  | .quoteRelease => true
  | .ifrRelease => true

/-- A well-formed command. -/
abbrev Instr.WellFormed (i : Instr) : Prop := i.wf = true

end Sys2Proof
end

