-- ==== Sys2Proof/Config.lean ====
section
/-! DEFINITION. What an implementation fixes: the free values that the specification leaves open. A free value has no
body, so nothing can be proved of it. -/

namespace Sys2Proof.Config

/-- The n-th value that the specification leaves open: nothing constrains it. The block counts in `freeCtr` how many it
has used, and a user takes the low bits that it needs. -/
opaque free : Nat → BitVec 512

/-- The silicon step that `IDENTIFY` and `BLOCK_ID` report (R508): fixed by the implementation, no number is stated. -/
opaque siliconStep : BitVec 8

/-- The ROM level that `IDENTIFY` reports (R339): fixed by the implementation, no number is stated. -/
opaque romLevel : BitVec 32

/-- The patch level that `IDENTIFY` reports for a loaded patch image (R339): no field of an image is stated to give it. -/
opaque patchLevel : List Byte → BitVec 16

/-- The uncertainty of the declared asymmetry of a hop port in 1/4096 ns (R57): no number is stated. -/
opaque alphaUncertainty : Nat → BitVec 16

/-- The uncertainty of the measured fabric rate in 2⁻⁴⁰ ns per ns (R57): no number is stated. -/
opaque rateUncertainty : BitVec 32

end Sys2Proof.Config
end

