-- ==== Sys2Proof/Machine/State.lean ====
section
/-! DEFINITION. The state of one Ecinane-4 instance as plain data, its value right after power-on reset, and the
reasons for which a step can stop. Every structure's field defaults are its reset values; a docstring names the rule of
the specification that gives the field. Times are `Gt` (1/256 ns), rates and counters are `Nat` kept in range by the
operations, register and table words are `Word`. -/

namespace Sys2Proof.Machine

/-! ### Items, units and records -/

/-- An entry of a tap chain (R63 to R75): the 64-bit item (class, delta, payload) and its sideband `CTX_TAG`.
`strobe` names the strobe whose mark an anchor mark is (R136 speaks of "the mark's own packet"; model's own number). -/
structure Entry where
  cls : Nat
  delta : Nat
  pay : Payload
  ctx : Nat
  strobe : Nat := 0
  deriving DecidableEq, Repr

/-- A wort unit outside the packer: the header fields of R128 (kind 2) or R143 (kind 3, or 0xE in version 2.2) and the
packet or record bytes. `tagEpoch` is the epoch that the cask checks (R28, R150); `aTaps` lists the station-local taps
whose A items the unit holds (R117). -/
structure WUnit where
  kind : Nat
  interest : Nat
  owner : Nat
  tagEpoch : Nat
  source : Nat
  seqNo : Nat
  marker : Bool := false
  fmt2 : Bool := false
  frag : Nat := 0
  last : Bool := false
  rtype : Nat := 0
  body : List Byte
  aTaps : List Nat := []
  deriving DecidableEq, Repr

/-- An open unit of a packer (R118): key, tags and the packet bytes so far. -/
structure OpenUnit where
  owner : Nat
  interest : Nat
  epoch : Nat
  fmt2 : Bool
  body : List Byte
  aTaps : List Nat := []
  deriving DecidableEq, Repr

/-- A record ready for a record input (R17, R143): its source code, type, owner, interest, epoch at build and bytes.
A record in version 2.2 has `fmt2` set. -/
structure Rec where
  source : Nat
  rtype : Nat
  owner : Nat
  interest : Nat
  epoch : Nat
  fmt2 : Bool
  bytes : List Byte
  deriving DecidableEq, Repr

/-! ### Grist taps (L2) and the station's view of them -/

/-- A counter descriptor (R275) and the counter's 48-bit value. -/
structure Counter where
  w0 : Word := 0x80#32
  w1 : Word := 0
  value : Nat := 0
  pendC : Bool := false
  /-- number, from 1, of the 64 µs of `gt` in which the counter last wrote a report (R283); 0 none -/
  lastC : Nat := 0
  deriving DecidableEq, Repr

/-- The latch bank of a tap (R285, R288): the ten latched values, the freeze that latched them, `LATCH_OFS` and the
flags of R292. -/
structure Latch where
  freezeId : Nat
  vals : List Nat
  ofs : Nat
  stretched : Bool := false
  stopped : Bool := false
  cntLost : Bool := false
  deriving DecidableEq, Repr

/-- A configuration write on its way from the station mirror to the tap tile (R281, R90). -/
inductive CfgWrite where
  | desc (idx : Nat) (w0 w1 : Word)
  | aEnable (on : Bool)
  deriving DecidableEq, Repr

/-- An entry of a tap's assay crossing buffer (R85, R218): the beat, its context, the skip count it brings, and whether
it is a measurement control entry (R446: the M item's payload). -/
structure AsyEntry where
  beat : Beat
  ctx : Nat
  skip : Nat := 0
  deriving DecidableEq, Repr

/-- One Grist tap (03_grist_taps, 10_counters_freeze), with the always-on ledger entry (R26). -/
structure Tap where
  /-- `TAP_USE`, the station-configuration use of R21 (R340) -/
  use : Bool := false
  /-- the enable from the always-on domain (R21) as the tap samples it -/
  en : Bool := false
  aEnable : Bool := false
  badClass : Bool := false
  /-- `tp_clk_state` of the last cycle (R50, R84), and the state of the last clock-state mark written (R87) -/
  clk : Nat := 0
  lastMark : Nat := 0
  /-- `tp_ctx` of the last cycle; `none` when no comparison is made with an earlier cycle (R77) -/
  ctx : Nat := 0
  ctxSeen : Bool := false
  /-- the chain, oldest first, at most 32 unclaimed entries (R72) -/
  chain : List Entry := []
  /-- the sideband bit `W` (R72) -/
  w : Bool := false
  tapLost : Nat := 0
  ledgerLost : Nat := 0
  /-- tap cycles since the last item entered the chain (R38); `none` when the gap is unknown to the tap -/
  since : Nat := 0
  /-- `FULL` pends for the next A item (R79) -/
  full : Bool := false
  /-- pending tap-slot items (R73): P DOWN with its power state, P UP with (`ABORTED`, `COUNTERS_LOST`, drain outcome),
  O CONTEXT with (cause, old ID), anchor mark with (strobe number, sequence, phase, defer so far); a clock-state mark
  with (new, previous) -/
  pClk : Option (Nat × Nat) := none
  pDown : Option Nat := none
  pUp : Option (Bool × Bool × Bool) := none
  pCtx : Option (Nat × Nat) := none
  pAnchor : Option (Nat × Nat × Nat × Nat) := none
  /-- drain request sampled, cycles since it, acknowledge high, outcome of the last drain (R86, R88) -/
  drainReq : Bool := false
  drainCyc : Nat := 0
  drainAck : Bool := false
  drainLost : Bool := false
  /-- strobes on their way to the tap (R43, R285): anchor strobes (number, sequence), freeze strobes (freeze ID) -/
  strobes : List (Nat × Nat) := []
  /-- a freeze strobe on its way: freeze ID, `AO_CLEAR` -/
  frStrobe : Option (Nat × Bool) := none
  /-- freeze strobes that arrived behind a pending one, oldest first, and that the clock stopped with one pending (R288) -/
  frLater : List (Nat × Bool) := []
  frStop : Bool := false
  /-- `tl_wake`, anchor request (R89) -/
  anchorReq : Bool := false
  /-- `gt` of each loss that `TAP_LOST` counts and the station has not moved to the ledger yet (R29) -/
  lossAt : List Gt := []
  /-- a resync request of the station on its way (R79, R117) -/
  resync : Bool := false
  /-- the drain request fell with power kept, the acknowledge not yet given or not yet lowered (R88) -/
  abandoned : Bool := false
  /-- a drain request, with its power state, that is sampled in the next cycle (R89) -/
  reqNext : Option Nat := none
  /-- this tap cycle's tap slot and engine place have been used (R40, R71) -/
  slotUsed : Bool := false
  engUsed : Bool := false
  /-- engine state of the most recent E STATE item (R277): (state, reason), `none` unknown -/
  est : Option (Nat × Nat) := none
  /-- counters 0 to 7 and the always-on pair (R275, R280) -/
  cnt : Tbl Counter := []
  aoCycles : Nat := 0
  aoActive : Nat := 0
  latch : Option Latch := none
  /-- retention lost since the previous freeze (R292) -/
  cntLost : Bool := false
  cfg : List CfgWrite := []
  /-- assay crossing buffer of 4 beats (R85), rest-of-row discard, skip count (R221) -/
  asy : List AsyEntry := []
  asyDrop : Bool := false
  asyOpenRow : Bool := false
  asySkip : Nat := 0
  /-- order of control entries and beats on a weight-load tap (R446, R449): control queue of 16 (payload, context, beats
  ahead of it, bytes discarded after it) -/
  ctrl : List (Payload × Nat × Nat × Nat) := []
  deriving DecidableEq, Repr

/-- What a stream holds about one tap of a station (R121, R116, R142): an item of it has been placed, the sum of the
deltas taken since, whether a timing item was skipped, the previous `ADDR`, and whether a TCAL entry is due before its
next anchor mark. -/
structure StreamTap where
  seen : Bool := false
  sum : Nat := 0
  summed : Bool := false
  skipped : Bool := false
  prevAddr : Option Nat := none
  tcalDue : Bool := true
  deriving DecidableEq, Repr

/-- What a station holds about one of its taps (R27, R42 to R48, R117, R518). -/
structure TapView where
  /-- `d_tap` in use and `a_tap`, 1/256 ns; measured since power-on (R46) -/
  dTap : Int := 0
  aTap : Int := 0
  measured : Bool := false
  /-- measured period `T_tap` as (1/256 ns, tap cycles) (R41) -/
  period : Option (Nat × Nat) := none
  /-- last anchor mark that can serve (R45): its `gt`; cycles summed since it; a clock-state mark has come since -/
  mark : Option Gt := none
  markCyc : Nat := 0
  clkSince : Bool := false
  /-- strobe arrival and phase of the last anchor mark, from which the next one measures a period (R41, R517) -/
  markBase : Int := 0
  markPhase : Nat := 0
  /-- pending LOSS marker (R27): count, cause (0 overwrite, 1 drain, 2 wake) -/
  loss : Option (Nat × Nat) := none
  needFull : Bool := false
  /-- the station holds the engine as powered down (R518) -/
  down : Bool := false
  /-- the first P UP item was taken, for the first measurement (R46); the mirror is loaded (R298); mirror of `A_ENABLE` -/
  upSeen : Bool := false
  mirror : Bool := true
  aEn : Bool := false
  /-- station mirror of the counter descriptors (R281, R298) -/
  desc : Tbl (Word × Word) := []
  /-- last E STATE item at stage 3: (state, reason, `CAUSE_VALID`, cause tap) (R185, R257) -/
  est : Option (Nat × Nat × Bool × Nat) := none
  /-- owner of the context that the tap's most recent S or E item carried (R182) -/
  tenant : Option Nat := none
  /-- the tap lost items and counts as not blocked until its next S or E STATE item (R214); `gt` of the last one seen -/
  quiet : Bool := false
  lastSeen : Gt := 0
  /-- losses of the tap that act after S items of it which wait in the sync queue: after how many of them each (R214) -/
  lossAfter : List Nat := []
  deriving DecidableEq, Repr

/-! ### Stations (L3) -/

/-- States of the trigger sequencer (R111). -/
inductive SeqState where
  | idle | armed | post | hold
  deriving DecidableEq, Repr

/-- A comparator: its six descriptor words (R106), the COUNT count, the latched output and the TIMER once-flag (R108). -/
structure Comp where
  w : List Word := [0, 0, 0, 0, 0, 0]
  count : Nat := 0
  latched : Bool := false
  once : Bool := false
  deriving DecidableEq, Repr

/-- The trigger sequencer of a station (R104 to R115). -/
structure Sequencer where
  owner : Nat := 64
  en : Bool := false
  autoRearm : Bool := false
  idleCapture : Bool := false
  xtrigOut : Bool := false
  postInterest : Nat := 0
  postUnits : Nat := 0
  startMask : Nat := 0
  startAnd : Bool := false
  trigMask : Nat := 0
  trigAnd : Bool := false
  stopMask : Nat := 0
  stopAnd : Bool := false
  rearmMask : Nat := 0
  rearmAnd : Bool := false
  st : SeqState := .idle
  postLeft : Nat := 0
  comps : Tbl Comp := []
  trigCount : Nat := 0
  trigIgnored : Nat := 0
  suppress : Nat := 0
  deriving DecidableEq, Repr

/-- A TIME packet that the station keeps (R136): its number, sequence, cause, `gt`, epoch, bounds, strobed mask, step. -/
structure TimePkt where
  num : Nat
  seq : Nat
  cause : Nat
  gt : Gt
  epoch : Nat
  lb : Nat
  fb : Nat
  strobed : Nat
  step : Int := 0
  /-- the sum of the steps since the strobe (R62) -/
  adj : Int := 0
  deriving DecidableEq, Repr

/-- An event on its way to the comparators of a station (R107, R113, R238): source code, sub-selection, field compared,
`gt`, and the owner whose resources raised it. -/
structure CmpEvent where
  source : Nat
  subsel : Nat
  field : Nat
  gt : Gt
  owner : Nat
  /-- `gt` before which a cross trigger has not arrived (R113) -/
  due : Gt := 0
  deriving DecidableEq, Repr

/-- One station (04_stations_triggers). -/
structure Station where
  /-- next anchor sequence number (6 bits) and the kept TIME packets (R136) -/
  seqNo : Nat := 0
  pkts : List TimePkt := []
  /-- tap served last, the one served last in the brew cycles before that of the last take, and the `gt` of the last take
  (R94) -/
  lastTap : Nat := 63
  cycTap : Nat := 63
  takeGt : Option Gt := none
  /-- items taken in the brew cycle of the last take (R12) -/
  taken : Nat := 0
  /-- the unit queue of 256 entries (R15) -/
  uq : List WUnit := []
  /-- the packer's open units, least recently written first (R118) -/
  opens : List OpenUnit := []
  /-- `USEQ` per owner (R128) -/
  useq : Tbl Nat := []
  /-- Lauter rules (R101), five words each, and the owners whose default action is exclude (R103) -/
  rules : Tbl (List Word) := []
  defExclude : List Nat := []
  seq : Sequencer := {}
  noContext : Nat := 0
  reject : Tbl Nat := []
  unitDrop : Nat := 0
  wakeLost : Nat := 0
  /-- `gt` of the last PERIOD, BLOCK_WAKE or STEP strobe (R123), units closed since the last TIME packet (R43), PERIOD
  strobes counted for the TCAL refresh (R142), last strobe per region (R43, R123) -/
  lastPeriod : Gt := 0
  unitsSince : Nat := 0
  periods : Nat := 0
  regionStrobe : Tbl Gt := []
  /-- owners live in the current PERIOD interval and in the one before (R122) -/
  liveNow : List Nat := []
  livePrev : List Nat := []
  /-- streams of this station: tap entries keyed owner × 64 + tap; last TIME packet placed, keyed owner × 64 + sequence,
  as packet number + 1; number of the epoch advance whose ALIGN record was written last, keyed by owner (R60) -/
  stap : Tbl StreamTap := []
  stime : Tbl Nat := []
  salign : Tbl Nat := []
  /-- events waiting for the comparators (R110, R113, R238) -/
  events : List CmpEvent := []
  deriving DecidableEq, Repr

/-- A copied S item in a sync queue (R248). -/
structure SItem where
  tap : Nat
  gt : Gt
  pay : Payload
  tenant : Option Nat
  deriving DecidableEq, Repr

/-- One quadrant (R16, R17, R124, R248): record input, fragments of the record that is entering, arbitration credits,
round robin position, sync queue. -/
structure Quadrant where
  recIn : List WUnit := []
  recTail : List WUnit := []
  credit : Tbl Nat := []
  rr : Nat := 7
  syncQ : List SItem := []
  deriving DecidableEq, Repr

/-! ### The cask -/

/-- Page states (R156). -/
inductive PageState where
  | free | openP | full | held | draining | fenced
  deriving DecidableEq, Repr

/-- One cask page: the tag of R155, its slots, and where it goes after a drain (R156, R167). -/
structure Page where
  st : PageState := .free
  owner : Nat := 0
  epoch : Nat := 0
  interest : Nat := 0
  ver2 : Bool := false
  mode : Nat := 0
  pre : Bool := false
  oseq : Nat := 0
  pageSeq : Nat := 0
  /-- the 64-byte contents of the slots written since the page was opened, header first; `FILL` is its length (R154) -/
  slots : List (List Byte) := []
  /-- `gt` of the last unit (STREAM_FLUSH, R157) -/
  lastUnit : Gt := 0
  /-- state before it was taken by a channel; fenced while draining (R178) -/
  back : PageState := .full
  fenceDue : Bool := false
  deriving DecidableEq, Repr

/-- The cask (06_cask). -/
structure Cask where
  pages : Tbl Page := []
  /-- `CASK_FENCE_MASK`, the fenced macros in rising order (R179) -/
  fence : List Nat := []
  oseq : Nat := 0
  epochDiscard : Nat := 0
  uePages : Nat := 0
  ce : Tbl Nat := []
  patrolMs : Nat := 1000
  /-- the patrol (R177): `gt` at which its present pass began, and the first slot (64 × page + slot) not yet read in it -/
  patrolGt : Gt := 0
  patrolPos : Nat := 0
  /-- Slots (64 × page + slot) in which a read has found an uncorrectable word: they read as zeros (R176, R178). -/
  badSlots : List Nat := []
  deriving DecidableEq, Repr

/-! ### Mash array -/

/-- A segment of a tap (R188): start, cause code, and while the step queue is full (R192) that it is held, its ended
parts as (row, bank, ticks), and whether the tap is still blocked. -/
structure Seg where
  start : Gt
  cause : Nat
  coarse : Bool := false
  acc : List (Nat × Nat × Nat) := []
  live : Bool := true
  deriving DecidableEq, Repr

/-- A charge step (R190): the rows with their bank tags and weights b_i, the cause column, the ticks, and whether
its ticks are coarse (R192). -/
structure Step where
  rows : List (Nat × Nat × Nat)
  cause : Nat
  ticks : Nat
  coarse : Bool := false
  deriving DecidableEq, Repr

/-- An accumulated window of a loop slot (R195 to R211). -/
structure Window where
  openGt : Gt
  firstGt : Gt
  iterFirst : Nat
  iterLast : Nat
  deadline : Option Gt := none
  ticks : Nat := 0
  merged : Bool := false
  inIter : Bool := true
  miss : Bool := false
  decided : Bool := false
  earlyMiss : Bool := false
  noEnd : Bool := false
  lossy : Bool := false
  lost : Nat := 0
  cycle : Bool := false
  cuts : Nat := 0
  late : Nat := 0
  coarse : Nat := 0
  coarseSeen : Bool := false
  haloMore : Bool := false
  /-- open and close `gt` of each iteration that has ended (R196) -/
  iters : List (Gt × Gt) := []
  deriving DecidableEq, Repr

/-- A halo entry (R207): row, stripe, blocked ticks, producer code. -/
structure Halo where
  row : Nat
  stripe : Nat
  ticks : Nat := 0
  producer : Nat := 0x83
  deriving DecidableEq, Repr

/-- A closed window waiting for its scan, being scanned, or scanned (R200, R202). -/
structure Scan where
  slot : Nat
  win : Window
  closeGt : Gt
  overlong : Bool := false
  rows : List (Nat × Nat)
  /-- the bank that each row left at the close (R199) -/
  banks : Tbl Nat := []
  steps : Nat
  epoch : Nat := 0
  bound : Nat := 0
  aligned : Bool := false
  started : Option Gt := none
  done : Bool := false
  read : Nat := 0
  cells : Tbl (Nat × Bool) := []
  halo : List Halo := []
  deriving DecidableEq, Repr

/-- A loop slot (R193): its five words, window, deferred close (`gt`, waits for a token, `NO_END`), the `gt` at which
a `WSRC` 1 window opens next, and counts of records and windows. -/
structure LoopSlot where
  w : List Word := [0x2000#32, 0, 0, 0, 20000#32]
  win : Option Window := none
  deferred : Option (Gt × Bool × Bool) := none
  nextOpen : Option Gt := none
  /-- the iterations of the windows closed so far, last window first, by which stretches that arrive late are cut (R199);
  deadlines of iterations that closed late and whose miss is not yet decided (R210); an OVERLONG close waits for a token
  (R214) -/
  past : List (List (Gt × Gt)) := []
  /-- `gt` of the earliest close deferred for want of a token, and a token that came for it while the merged window went
  on (R368) -/
  waitGt : Option Gt := none
  token : Bool := false
  /-- alignment epoch, bound and aligned state at the deferred close (R61) -/
  closeCond : Nat × Nat × Bool := (0, 0, false)
  dlPend : List Gt := []
  overDue : Bool := false
  records : Nat := 0
  winCount : Nat := 0
  deriving DecidableEq, Repr

/-- The Mash array, agent map and window logic (07_mash_attribution). -/
structure Mash where
  agentMap : Tbl Word := []
  agents : Tbl Word := []
  reasons : Tbl Nat := []
  slots : Tbl LoopSlot := []
  segs : Tbl Seg := []
  /-- `gt` up to which a tap's ended segments reach: the next one begins no earlier (R188) -/
  segEnd : Tbl Gt := []
  /-- `gt` of the losses of each tap that the station has seen: an item lost at the chain, or an S item not applied (R29) -/
  lossLog : Tbl (List (Gt × Bool)) := []
  /-- open waits with a stripe: the `gt` from which their ticks are still to be added, and the stripe (R207) -/
  waitHalo : Tbl (Gt × Nat) := []
  stepQ : List Step := []
  /-- the queue was full and segments are held until space is given back (R192) -/
  stepFull : Bool := false
  /-- cells keyed (bank × 128 + row) × 133 + column: 40-bit accumulator and sticky saturate bit (R191) -/
  cells : Tbl (Nat × Bool) := []
  /-- select bit of each row (R199) -/
  sel : Tbl Nat := []
  halo : Tbl (List Halo) := []
  scans : List Scan := []
  tokens : Nat := 16
  tokenGt : Gt := 0
  /-- ticks of late steps whose row has no open window yet, per slot: (late, coarse) (R201) -/
  lateWait : Tbl (Nat × Nat) := []
  deriving DecidableEq, Repr

/-! ### Assay units -/

/-- An exact dyadic value of a sum, kept as a binary64 encoding (R228). -/
abbrev F64 := BitVec 64

/-- Statistics of one row in progress or complete (R220, R227). -/
structure Row where
  tid : Nat
  fmt : Nat
  owner : Option Nat
  accept : Bool := true
  bad : Bool := false
  done : Bool := false
  ragged : Bool := false
  nonfinite : Bool := false
  anyFinite : Bool := false
  absKey : Nat := 0
  minKey : Int := 0
  maxKey : Int := 0
  neg : Bool := false
  pos : Bool := false
  elems : Nat := 0
  nans : Nat := 0
  infs : Nat := 0
  sum : F64 := 0
  sumsq : F64 := 0
  /-- finite elements as exact dyadics m × 2^e, newest last, for the histogram and the candidate (R229, R233) -/
  vals : List (Int × Int) := []
  deriving DecidableEq, Repr

/-- An open tensor (R223, R227, R241). -/
structure Tensor where
  tap : Nat
  tid : Nat
  fmt : Nat
  openGt : Gt
  lastGt : Gt
  firstRow : Nat
  profile : Option Nat
  prof : List Word
  rows : Nat := 0
  skipped : Nat := 0
  elems : Nat := 0
  sum : F64 := 0
  sumsq : F64 := 0
  anyFinite : Bool := false
  absKey : Nat := 0
  minKey : Int := 0
  maxKey : Int := 0
  nans : Nat := 0
  infs : Nat := 0
  clips : Nat := 0
  ties : Nat := 0
  zrRows : Nat := 0
  driftRows : Nat := 0
  noRefRows : Nat := 0
  padWin : Nat := 0
  degenWin : Nat := 0
  driftWorst : Nat := 0
  driftWorstRow : Nat := 0
  driftSat : Bool := false
  convTies : Nat := 0
  convSats : Nat := 0
  hist : Tbl Nat := []
  histSat : Bool := false
  ragged : Bool := false
  rowTab : List (List Byte) := []
  rowTabUsed : Bool := false
  deriving DecidableEq, Repr

/-- What a unit keeps for one bound tap (R221, R223, R240). -/
structure AsyTap where
  row : Option Row := none
  rowIndex : Nat := 0
  tensor : Option Tensor := none
  padWait : Nat := 0
  degenWait : Nat := 0
  /-- after a close at 2²⁰ rows: the tensor ID and format whose next tensor continues the row index (R223, R247) -/
  cont : Option (Nat × Nat) := none
  deriving DecidableEq, Repr

/-- One Assay unit (R216, R218, R245). -/
structure AsyUnit where
  ctl : Word := 0x580#32
  rr : Nat := 2047
  taps : Tbl AsyTap := []
  /-- closed tensors whose records wait to be placed (R239): the records of each, row tables first -/
  closed : List (List Rec) := []
  rowsSkipped : Nat := 0
  badFmt : Nat := 0
  foreign : Nat := 0
  beatsDropped : Nat := 0
  deriving DecidableEq, Repr

/-- The Assay units and their tables (08_assay). -/
structure Assay where
  binding : Tbl Word := []
  units : Tbl AsyUnit := []
  profiles : Tbl (List Word) := []
  refs : Tbl Word := []
  deriving DecidableEq, Repr

/-! ### Sync watch -/

/-- An object shadow entry (R249). -/
structure Obj where
  count : Nat := 0
  kind : Nat := 0
  stale : Bool := false
  ovf : Bool := false
  w0 : Option Nat := none
  w1 : Option Nat := none
  w2 : Option Nat := none
  w3 : Option Nat := none
  /-- the signaller's tap number; it stays and reads as written while `sigValid` is false -/
  sig : Nat := 0
  sigValid : Bool := false
  sigDecl : Bool := false
  sigArrived : Bool := false
  owner : Nat := 0
  ownValid : Bool := false
  shared : Bool := false
  /-- the tenants whose contexts have used the object (R105) -/
  users : List Nat := []
  waits : Nat := 0
  /-- exact `gt` of the last progress; `LAST_TOUCH` shows its bits [29:14] in ns, corrected over steps (R62) -/
  lastTouch : Gt := 0
  phase : Bool := false
  npReported : Bool := false
  deriving DecidableEq, Repr

/-- A tap wait entry (R250), with the exact `gt` of the WAIT_BEGIN that R185 counts from. -/
structure TapWait where
  obj : Nat := 0
  valid : Bool := false
  stale : Bool := false
  phase : Bool := false
  await : Nat := 0
  /-- exact `gt` of the WAIT_BEGIN; `WSINCE` shows its bits [32:10] in ns, corrected over steps (R62) -/
  since : Gt := 0
  deriving DecidableEq, Repr

/-- A Knot walk in progress (R258, R260): number, `gt`, epoch and bound of its start, and the stored
edges. -/
structure Walk where
  seq : Nat
  gt : Gt
  epoch : Nat
  bound : Nat
  edges : List (Nat × Nat × Bool)
  /-- the sum of the steps since the start (R62) -/
  adj : Int := 0
  deriving DecidableEq, Repr

/-- States of a hang snapshot (R269). -/
inductive SnapState where
  | empty | capturing | valid
  deriving DecidableEq, Repr

/-- The hang snapshot (R266 to R271): header fields and the captured words of the window, keyed by offset from
0x7_0000. -/
structure Snap where
  st : SnapState := .empty
  overwrite : Bool := false
  seq : Nat := 0
  autoKnot : Bool := false
  autoNoprog : Bool := false
  lead : Nat := 4
  cause : Nat := 0
  freezeId : Nat := 0
  epoch : Nat := 0
  bound : Nat := 0
  aligned : Bool := false
  gt : Gt := 0
  tapsWaiting : Nat := 0
  tapsStalled : Nat := 0
  objQual : Nat := 0
  objListed : Nat := 0
  inflight : Nat := 0
  walkSeq : Nat := 0
  /-- `gt` at which the last snapshot became Valid -/
  validGt : Gt := 0
  /-- T of a started snapshot whose capture has not begun -/
  t : Option Gt := none
  image : Tbl Word := []
  deriving DecidableEq, Repr

/-- Sync watch and Knot detector (09_sync_watch_hangs). -/
structure Sync where
  objs : Tbl Obj := []
  waits : Tbl TapWait := []
  sweep : Nat := 0
  /-- entries that the sweep of a no-progress interval has still to examine (R256) -/
  sweepLeft : Nat := 0
  npLimit : Nat := 610
  /-- the next known event of R256, while an object has waiters -/
  npNext : Option Gt := none
  knotMs : Nat := 10
  lastWalk : Gt := 0
  walk : Option Walk := none
  walkAgain : Bool := false
  walkSeq : Nat := 0
  known : List (Nat × Nat × Nat) := []
  drop : Nat := 0
  implicitEnd : Nat := 0
  unmatched : Nat := 0
  kindMismatch : Nat := 0
  walks : Nat := 0
  transient : Nat := 0
  repeats : Nat := 0
  unreported : Nat := 0
  npReports : Nat := 0
  snapRefused : Nat := 0
  snap : Snap := {}
  deriving DecidableEq, Repr

/-! ### Freeze slots -/

/-- States of a freeze slot (R284, R347). -/
inductive FzState where
  | free | scheduled | latched | done
  deriving DecidableEq, Repr

/-- What a freeze holds of one tap (R288, R291, R292). -/
structure FzTap where
  strobed : Bool := false
  /-- `gt` of the strobe and the `d_tap` that it used -/
  sgt : Gt := 0
  dTap : Int := 0
  ofs : Nat := 0xFFFF
  notLatched : Bool := false
  down : Bool := false
  stopped : Bool := false
  busy : Bool := false
  stretched : Bool := false
  cntLost : Bool := false
  vals : List Nat := []
  done : Bool := false
  deriving DecidableEq, Repr

/-- One freeze slot (R284 to R293). -/
structure Freeze where
  st : FzState := .free
  id : Nat := 0xFF
  t : Gt := 0
  rootT : Gt := 0
  fabric : Bool := false
  aoClear : Bool := false
  tenantCopy : Bool := false
  node : Nat := 0xFFF
  fixed : Bool := true
  unaligned : Bool := false
  aon : Bool := false
  /-- T is reached: the taps listed are those enabled at T, with the epoch and bound of T -/
  begun : Bool := false
  epoch : Nat := 0
  bound : Nat := 0
  aligned : Bool := false
  taps : Tbl FzTap := []
  stations : List Nat := []
  /-- owner and `RSEQ` of the records built (R291) -/
  recs : List (Nat × Nat) := []
  deriving DecidableEq, Repr

/-! ### Ports -/

/-- A long command in progress (R319): its packet's tag and flags, reserved lines, start order, and what it waits for. -/
inductive LongKind where
  | caskDrain (owner ch : Nat) (left : List Nat) (drained gone : Nat)
  | knotWalk (seq : Nat)
  | cntSample (tap : Nat)
  | freeze (id : Nat) (ok bad : Nat) (waiting : List Nat) (sent : Gt)
  | tsyncNow
  | tenantReset (tenant oldEpoch : Nat) (scrub : Bool)
  | rediscover
  | keyRotate (port : Nat)
  | powerHold (floor : Nat)
  deriving DecidableEq, Repr

/-- A long command of a function. -/
structure Long where
  tag : Nat
  quiet : Bool
  lines : Nat
  order : Nat
  kind : LongKind
  deriving DecidableEq, Repr

/-- A packet in the command pool: the opcode, the packet, and whether all bytes of all words but the last were written
with their strobes high (R312, R313). -/
structure PoolPkt where
  opcode : Nat
  pkt : Pkt
  bytesOk : Bool
  deriving DecidableEq, Repr

/-- A response in a ring (R322): the position of its first word, and its words. -/
structure Rsp where
  start : Nat
  words : List Word
  deriving DecidableEq, Repr

/-- The command and response ports of one function (11_command_interface). -/
structure Port where
  negotiated : Bool := false
  /-- partly written packet: header and parameter words with their strobes (R310, R312) -/
  hdr : Option Word := none
  words : List (Word × BitVec 4) := []
  ignore : Nat := 0
  queue : List PoolPkt := []
  framing : Bool := false
  overrun : Bool := false
  emptyRead : Bool := false
  cmdOverrun : Nat := 0
  cmdFraming : Nat := 0
  rspEmpty : Nat := 0
  /-- the response ring (R322 to R328): unreleased responses oldest first; write position, read pointer, mark and release
  point as word positions, of which the registers show the low 8 bits -/
  ring : List Rsp := []
  wr : Nat := 0
  rd : Nat := 0
  mark : Nat := 0
  rel : Nat := 0
  rspSeq : Nat := 1
  stallNs : Nat := 4000
  /-- a parked read of `RSP_DATA` and the accesses of the same source that wait behind it (R324, R326, R301): write?,
  access, `gt` of arrival -/
  parked : List (Bool × Acc × Gt) := []
  longs : List Long := []
  deriving DecidableEq, Repr

/-! ### Tenants -/

/-- Per owner state (0 to 63 tenants, 64 operator): function, cask, quota, interrupt, view and power-hold state. -/
structure Tenant where
  epoch : Nat := 0
  /-- Resetting (R376), and where the reset stands: waiting for step 2, waiting for Ready -/
  resetting : Bool := false
  step2Due : Bool := false
  oldEpoch : Nat := 0
  /-- channels bound at step 1 with target memory, with the base and size of their windows (R384, R390), reset asked for on `fr_req`, `fr_ack` -/
  scrubCh : List (Nat × Nat × Nat) := []
  frPend : Bool := false
  /-- a reset was requested below Run and begins in the first brew cycle in Run (R375) -/
  rstWait : Bool := false
  frAck : Bool := false
  /-- whether the reset whose step 2 was last queued a scrub (R350) -/
  rstScrub : Bool := false
  scrubQ : Bool := false
  scrubResult : Nat := 0
  qos : Nat := 16
  quota : Nat := 0
  budget : Nat := 0
  poolMin : Nat := 2
  poolMax : Nat := 32
  intRate : Nat := 64
  intBurst : Nat := 8
  /-- tokens in 1/1,024 (R373), `gt` at which they were last counted -/
  tokens : Nat := 8192
  tokenGt : Gt := 0
  intStatus : Word := 0
  intEnable : Word := 0
  due : List Nat := []
  deferred : Nat := 0
  /-- vectors whose due messages have been counted as waiting for a token -/
  deferring : List Nat := []
  violations : Nat := 0
  /-- coarse counter view (R392): selection per slot (tap, counter), last values (value, flags VALID, SAT and DOWN) -/
  viewSel : Tbl (Option (Nat × Nat)) := []
  viewVal : Tbl (Nat × Nat) := []
  /-- the counter whose value stands in each slot of the view -/
  viewOf : Tbl (Option (Nat × Nat)) := []
  viewRefused : Nat := 0
  viewLost : Nat := 0
  viewAny : Nat := 0
  refreshGt : Gt := 0
  refreshSeq : Nat := 0
  /-- power hold (R355): floor and expiry -/
  hold : Option (Nat × Gt) := none
  locked : Bool := false
  cfgChanged : Bool := false
  fmt2 : Bool := false
  /-- cask state of the owner (06_cask): mode, STREAM_FLUSH in µs, reserve, hold, last-trigger values, counters -/
  mode : Nat := 0
  flushUs : Nat := 100
  rsv : Nat := 0
  caskHold : Bool := false
  trigTrunc : Nat := 0
  trigOldest : Nat := 0
  rsvShort : Nat := 0
  /-- pages that quota cuts during Post left missing from the reserve (R171) -/
  rsvCut : Nat := 0
  evicted : Nat := 0
  refused : Nat := 0
  pageLost : Nat := 0
  pageSeq : Nat := 0
  epochFirst : Bool := false
  verFirst : Bool := false
  /-- `RSEQ` per source (R143) -/
  rseq : Tbl Nat := []
  deriving DecidableEq, Repr

/-! ### Sparge engine -/

/-- Channel states (R395). -/
inductive ChState where
  | idle | running | halted | disabled
  deriving DecidableEq, Repr

/-- A descriptor that a channel holds (R398), with the write-back values that the channel accumulates. -/
structure Desc where
  index : Nat
  addr : Nat
  len : Nat
  isIndex : Bool
  perPage : Bool
  /-- buffer bytes used; the segments known (address, length, well formed), of which a direct descriptor has one; the
  segment in use and the bytes used of it -/
  used : Nat := 0
  segs : List (Nat × Nat × Bool) := []
  segIdx : Nat := 0
  segUsed : Nat := 0
  doneLen : Nat := 0
  pages : Nat := 0
  headCont : Bool := false
  tailCut : Bool := false
  firstSeq : Nat := 0xFFFFFFFF
  closing : Bool := false
  wbStage : Nat := 0
  dstat : Nat := 0
  deriving DecidableEq, Repr

/-- A write in flight (R405, R492): tag, kind (0 data, 1 write-back of bytes 16 to 27, 2 write-back of bytes 28 to 31),
address, data bytes, and the pages whose bytes it carries. -/
structure Inflight where
  tag : Nat
  kind : Nat
  addr : Nat
  bytes : Nat
  pages : List Nat := []
  deriving DecidableEq, Repr

/-- What ends when a channel's outstanding responses have returned. -/
inductive ChStop where
  | none | halt | disable | abandon
  deriving DecidableEq, Repr

/-- One sparge channel (R396). -/
structure Channel where
  st : ChState := .disabled
  enable : Bool := false
  swap : Nat := 0
  starved : Bool := false
  /-- `DOORBELL` was written while `STARVED` is 1, and the descriptor is to be read again (R399) -/
  bell : Bool := false
  target : Nat := 0
  owner : Nat := 64
  haltCause : Nat := 0
  ringBase : Nat := 0
  ringLog2 : Nat := 4
  head : Nat := 0
  winBase : Nat := 0
  winSize : Nat := 0
  haltAddr : Nat := 0
  haltDesc : Nat := 0
  haltEntry : Nat := 0
  haltPage : Nat := 0
  pagesMoved : Nat := 0
  bytesMoved : Nat := 0
  sink : Nat := 0xFFF
  sinkGen : Nat := 0
  /-- waits under R386 until the scrub that covers it ends -/
  heldBy : List Nat := []
  desc : Option Desc := none
  descRead : Bool := false
  idxRead : Bool := false
  /-- page in use and bytes of it already passed to the funnel or the port; pages passed whole that wait for responses,
  and those of them that met an error response. Numbers from 8,192 on are slots of the underback (R434). -/
  page : Option Nat := none
  pos : Nat := 0
  lagging : List Nat := []
  bad : List Nat := []
  flight : List Inflight := []
  stop : ChStop := .none
  /-- hop target: number of the request that waits for a grant; `gt` at which it is sent again after a `WAIT` (R433) -/
  reqNo : Option Nat := none
  retryGt : Option Gt := none
  /-- hop target, granted (R433): the sink's slot and the frame that the port accepts next; whether that frame stands in a
  port's queue -/
  grant : Option (Nat × Nat) := none
  frameOut : Bool := false
  /-- `gt` of the cycle in which the channel began to stop; `ENABLE` was written 0 while it halts (R413) -/
  stopGt : Gt := 0
  offAfter : Bool := false
  deriving DecidableEq, Repr

/-- A tenant scrub (R384 to R389): tenant, epochs, windows left as (channel, base, size), channels covered, position in
the first window, bytes written, identifiers of the writes without a response, and the status with which it ends. -/
structure Scrub where
  tenant : Nat
  oldEpoch : Nat
  newEpoch : Nat
  wins : List (Nat × Nat × Nat)
  chans : List Nat
  pos : Nat := 0
  begun : Bool := false
  written : Nat := 0
  flight : List Nat := []
  ending : Option Nat := none
  deriving DecidableEq, Repr

/-- A beat that the export port presents (R486, R496): its bytes, and its source and unit, or a marker beat. -/
structure ExBeat where
  data : List Byte
  src : Nat := 0
  unit : Nat := 0
  marker : Bool := false
  deriving DecidableEq, Repr

/-- The sparge engine's shared part (R394, R411, R412, R496). -/
structure Sparge where
  chans : Tbl Channel := []
  scrubs : List Scrub := []
  /-- metering window: whether one has started, its start, members of P, allowances, spent, debts owed when it started, and
  debts made in it (R411) -/
  winOn : Bool := false
  winStart : Gt := 0
  inP : List Nat := []
  allow : Tbl Nat := []
  spent : Tbl Nat := []
  owed : Tbl Nat := []
  debt : Tbl Nat := []
  scrubTurn : Bool := true
  /-- channel that the cask read path served last (R394) -/
  lastRead : Nat := 15
  /-- identifiers of writes without a response that a scrub ended by an error or a reset leaves behind (R387, R389) -/
  orphans : List Nat := []
  /-- export port: source of the page in progress (0 to 15 channel, 16 underback), beat, marker beats waiting -/
  exSrc : Option Nat := none
  exBeat : Nat := 0
  exLast : Nat := 16
  exMarkers : List (List Byte) := []
  /-- page in progress of the underback; the beat that stands at the port until it is accepted (R486) -/
  exHold : Option Nat := none
  exUp : Option ExBeat := none
  /-- next page request number (R433) -/
  reqNext : Nat := 0
  deriving DecidableEq, Repr

/-! ### Hop fabric -/

/-- Link states (R422). -/
inductive LinkState where
  | down | training | hello | keying | up | closing
  deriving DecidableEq, Repr

/-- Session key and salt (R457). -/
structure Key where
  key : BitVec 256
  salt : BitVec 32
  deriving DecidableEq, Repr

/-- One hop port (R414 to R444). -/
structure HopPort where
  st : LinkState := .down
  adminUp : Bool := true
  v2Allow : Bool := false
  version : Nat := 0
  reason : Nat := 0
  compat : Bool := false
  kph : Bool := false
  rotating : Bool := false
  node : Nat := 0xFFF
  nport : Nat := 0
  nuid : Nat := 0
  alpha : Int := 0
  credits : Nat := 0
  replay : List Frame := []
  txSeq : Nat := 0
  rxNext : Nat := 0
  nakDue : Bool := false
  credRet : Nat := 0
  resends : Nat := 0
  /-- `gt` at which each frame of the replay buffer was last sent (R418) -/
  sentGt : List Gt := []
  /-- frames waiting for credit, with where they come from: the port on which a forwarded one arrived (6: that link has
  fallen since), 7 the block itself, 8 + c channel c's page; frames to be resent from the replay buffer -/
  txq : List (Frame × Nat) := []
  resend : List Frame := []
  hopLost : Nat := 0
  phaseDrop : Nat := 0
  crcErr : Nat := 0
  replays : Nat := 0
  authFail : Nat := 0
  scrubRx : Nat := 0
  keyPeriod : Nat := 3600
  linkUps : Nat := 0
  badType : Nat := 0
  /-- HELLO state (R424) -/
  helloGt : Option Gt := none
  helloRx : Bool := false
  seenRx : Bool := false
  /-- reason of the `BYE` that a Closing link is to send (R422) -/
  byeReason : Nat := 0
  peerMin : Nat := 0
  peerMax : Nat := 0
  /-- keys (R457): transmit and receive, current and other phase; requests outstanding (receive?, phase); counters -/
  txKey : Option Key := none
  txOther : Option Key := none
  rxKey : Option Key := none
  rxOther : Option Key := none
  rxPhase : Bool := false
  keyReq : List (Bool × Bool × Gt) := []
  txCtr : Nat := 0
  /-- 1 + counter of the last `IDLE` accepted in the current and in the other receive phase (R439) -/
  rxIdle : Nat := 0
  rxIdleO : Nat := 0
  /-- rotation of the transmit direction (R440): 0 none, 1 keys requested, 2 ROTATE sent, 3 acknowledged -/
  rotStep : Nat := 0
  /-- claimed this instance as parent, its COUNT answer (R428); last vector of the neighbour (R430) -/
  claimed : Bool := false
  count : Option Nat := none
  vec : Tbl Nat := []
  /-- TSYNC parent side (R435): measurement, next exchange, stamps (t1, t4) per exchange -/
  tsMeas : Option (Nat × Nat) := none
  tsStamps : Tbl (Nat × Nat) := []
  tsRsp : Nat := 0
  tsGt : Gt := 0
  /-- `gt` at which: the present link state began; the keys in hand were asked for; the oldest unacknowledged frame was
  sent; the last rotation began; a trace frame last passed -/
  since : Gt := 0
  ackGt : Gt := 0
  rotGt : Gt := 0
  traceGt : Gt := 0
  deriving DecidableEq, Repr

/-- A slot of the underback (R433, R434). -/
structure SinkSlot where
  port : Nat
  src : Nat
  ch : Nat
  reqNo : Nat
  units : Tbl (List Byte) := []
  frames : List Nat := []
  /-- `gt` of the grant or of the last frame -/
  last : Gt := 0
  deriving DecidableEq, Repr

/-- The fabric state (R426 to R437, R445). -/
structure Hop where
  ports : Tbl HopPort := []
  uid : Nat := 0
  nodeId : Nat := 0xFFF
  root : Nat := 0xFFF
  depth : Nat := 0
  disc : Nat := 0
  gen : Nat := 0
  parent : Nat := 7
  prio : Nat := 0x80
  bestKey : Nat := 0
  bestHops : Nat := 0
  countPassed : Bool := false
  rootWait : Bool := false
  /-- routing entries as port × 64 + hops (R430) -/
  routes : Tbl Nat := []
  sinkDest : Nat := 0
  landingCh : Nat := 0
  sinkPageCut : Nat := 0
  slots : Tbl SinkSlot := []
  /-- waiting PAGE_REQs: (port, source, channel, request number) (R433) -/
  reqs : List (Nat × Nat × Nat × Nat) := []
  /-- answers with `WAIT` that are to be sent: (port, source, request number) (R433) -/
  waitDue : List (Nat × Nat × Nat) := []
  /-- pages ready for delivery: slot numbers in order of completion -/
  ready : List Nat := []
  /-- (node, FREEZE_ID) pairs seen last (R436) -/
  seen : List (Nat × Nat) := []
  /-- TSYNC child side: measurement number in progress, next number; stamps (t2, t3) per exchange -/
  tsMeas : Option Nat := none
  tsNext : Nat := 0
  tsStamps : Tbl (Nat × Nat) := []
  /-- `gt` of the last `CALL`, of the last change of best key, hops or parent, and of the last change of a route -/
  callGt : Gt := 0
  quietGt : Gt := 0
  routeGt : Gt := 0
  deriving DecidableEq, Repr

/-! ### Measurement -/

/-- An open image on a hash lane (R447). -/
structure Lane where
  tap : Nat
  stage : Nat
  image : Nat
  tenant : Option Nat
  bytes : List Byte := []
  count : Nat := 0
  /-- bytes in the staging buffer (R448) at `stagedGt` -/
  staged : Nat := 0
  stagedGt : Gt := 0
  incomplete : Bool := false
  deriving DecidableEq, Repr

/-- What a log entry names (R451): image, stage, `FIRMWARE`, status, tap, tenant, bytes hashed and digest, and the `gt` and
the alignment epoch of the close. -/
structure LogInfo where
  image : Nat
  stage : Nat
  fw : Bool := false
  status : Nat
  tap : Nat
  tenant : Option Nat
  bytes : Nat
  digest : List Byte
  gt : Gt
  epoch : Nat
  deriving DecidableEq, Repr

/-- The measurement engine and log (16_security_measurement). -/
structure Meas where
  lanes : Tbl (Option Lane) := []
  /-- the entries that closed in this brew cycle, with their lanes, in the order in which they take `LOG_SEQ` (R464) -/
  closing : List (Nat × LogInfo) := []
  /-- keyed image × 2 + stage: bytes, tap, digest (R450) -/
  table : Tbl (Option (Nat × Nat × List Byte)) := []
  ring : List (List Byte) := []
  built : Nat := 0
  taken : Nat := 0
  logDigest : List Byte := List.replicate 48 0
  gap : Bool := false
  orphan : Nat := 0
  ctrlDrop : Nat := 0
  overflow : Nat := 0
  patchDigest : List Byte := []
  patchBytes : Nat := 0
  /-- patch RAM contents (R481) and the patch level that the image names -/
  patchRam : List Byte := []
  /-- the quote request is high and not yet served -/
  quotePend : Bool := false
  quoteAck : Bool := false
  quoteDigest : List Byte := []
  quoteSeq : Nat := 0
  ifrAck : Bool := false
  ifrData : List Byte := []
  deriving DecidableEq, Repr

/-! ### Power, start-up and the operator registers -/

/-- Power states (R465). -/
inductive PState where
  | run | doze | nap | kiln | off
  deriving DecidableEq, Repr

/-- Power, clocks, start-up, fault and loss registers (17_power_clocks_reset, R508). -/
structure Power where
  st : PState := .run
  /-- state being entered or left through the handshake (R473) -/
  goal : PState := .run
  low : Bool := false
  lowAsked : Bool := false
  lowEn : Bool := true
  activeUs : Nat := 0xC8
  lastAct : Gt := 0
  /-- `gt` of the last BLOCK_WAKE -/
  wakeGt : Gt := 0
  /-- last `gt` at which the block was busy in Run (R471) -/
  busyGt : Gt := 0
  lastWake : Nat := 0xF
  waking : Bool := false
  wakes : Nat := 0
  policy : Nat := 3
  wakeTimer : Option Gt := none
  brewReq : Bool := true
  brewGnt : Bool := false
  retReq : Bool := false
  retGnt : Bool := false
  clkReq : Bool := true
  clkGnt : Bool := false
  offGnt : Bool := false
  phase : Nat := 0
  quiesce : Bool := false
  blkAck : Bool := false
  /-- a block reset was requested below Run and waits for the wake (R484) -/
  blkPend : Bool := false
  /-- `gt` at which Serve began (R480) -/
  serveGt : Gt := 0
  /-- the running start-up follows a block reset (R476) -/
  warm : Bool := false
  patchState : Nat := 0
  stMash : Bool := false
  stShadow : Bool := false
  stStore : Bool := false
  assayFailed : Nat := 0
  faultCause : Nat := 0
  restarts : Nat := 0
  hwFaults : Nat := 0
  lossSeen : Word := 0
  /-- the bits of `LOSS_SEEN` set at the `gt` beside them (R516) -/
  lossNow : Word × Gt := (0, 0)
  recLost : Tbl Nat := []
  busErrors : Tbl Nat := []
  patchAddr : Nat := 0
  patchLen : Nat := 0
  violUnknown : Nat := 0
  lastServed : Nat := 64
  lastTenant : Nat := 63
  /-- the interrupt message that stands at the output until it is accepted (R486, R497): function, vector -/
  irqUp : Option (Nat × Nat) := none
  longOrder : Nat := 0
  deriving DecidableEq, Repr

/-! ### Time -/

/-- The local time base, the always-on time keeper and fabric time (02_time). -/
structure Time where
  /-- local time base, 64 integer and 32 fractional bits, in 2⁻³² ns (R31) -/
  tb : Nat := 0
  /-- rate word, 2⁻³² ns per brew cycle; nominal 0.625 ns -/
  rate : Nat := 2684354560
  locked : Bool := false
  good : Nat := 0
  holdover : Bool := false
  lastSample : Gt := 0
  loadNext : Bool := true
  latency : Nat := 0
  holdPpm : Nat := 50
  stretchPer : Nat := 256
  tcalMs : Nat := 10
  tsyncUs : Nat := 1000
  aonGt : Gt := 0
  tcalDue : Gt := 0
  /-- `gt` at the end of Calibrate, from which the `TCAL_PERIOD` occasions are counted (R46) -/
  calEnd : Gt := 0
  lastTsync : Gt := 0
  /-- advances of the alignment epoch so far; the 8-bit epoch is this modulo 256 (R59) -/
  epoch : Nat := 0
  /-- body of the ALIGN record of the last advance (R60, R141) -/
  alignBody : List Byte := []
  aligned : Bool := false
  /-- fabric offset at `t0` (1/256 ns), rate (2⁻⁴⁰ ns per ns), `t0`; previous applied measurement (R56) -/
  fabOff : Int := 0
  fabRate : Int := 0
  t0 : Gt := 0
  prevMeas : Option (Int × Gt) := none
  /-- the parent's chain bound in 1/16 ns as the last applied measurement brought it, and whether one is known (R57) -/
  chain : Nat := 0
  chainKnown : Bool := false
  /-- the port of that parent -/
  chainPort : Nat := 7
  /-- a region's clock state: 0 running, 1 stretched, 2 stopped (R49); changes latched below Run -/
  regions : Tbl Nat := []
  regionAon : List (Nat × Nat × Gt) := []
  busLost : Nat := 0
  ppsMismatch : Nat := 0
  tsyncReject : Nat := 0
  csGlitch : Nat := 0
  strobeNum : Nat := 1
  deriving DecidableEq, Repr

/-! ### Ports toward the chip -/

/-- What the block has presented on its output ports (18_integration_ports), in the order presented.
DESIGN CHOICE, log entry 68. -/
inductive Out where
  /-- a response beat on the register port (R300) -/
  | rt (src : Nat) (id : BitVec 8) (data : Word)
  /-- an interrupt message (R497) -/
  | irq (fn vec : Nat)
  /-- a memory write: port, identifier, address, strobed bytes in address order (R492) -/
  | memWrite (port id addr : Nat) (data : List Byte)
  /-- a memory read: port, identifier, address, bytes (R492) -/
  | memRead (port id addr bytes : Nat)
  /-- a beat on the export port: unit, `ex_sop`, `ex_eop`, `ex_marker` (R496) -/
  | exportBeat (unit : List Byte) (sop eop marker : Bool)
  /-- a frame on a hop link (R414) -/
  | hop (port : Nat) (fr : Frame)
  /-- `hp_train` raised (R494) -/
  | train (port : Nat)
  /-- a key request (R500) -/
  | keyReq (node port uid : Nat) (phase rx : Bool)
  /-- a measurement log entry taken (R501) -/
  | log (entry : List Byte)
  /-- `ms_cfg_chg` (R462) -/
  | cfgChanged (fn : Nat)
  deriving DecidableEq, Repr

/-- The whole block: every register, table, queue, buffer and counter that the specification gives it. -/
structure Block where
  taps : Tbl Tap := []
  views : Tbl TapView := []
  stations : Tbl Station := []
  quads : Tbl Quadrant := []
  ctxs : Tbl Word := []
  cask : Cask := {}
  mash : Mash := {}
  assay : Assay := {}
  sync : Sync := {}
  freezes : Tbl Freeze := []
  freezeNext : Nat := 0
  freezeLimitUs : Nat := 1000
  ports : Tbl Port := []
  tenants : Tbl Tenant := []
  sparge : Sparge := {}
  hop : Hop := {}
  meas : Meas := {}
  power : Power := {}
  time : Time := {}
  /-- built records that wait to be offered (R17) -/
  recs : List Rec := []
  /-- accesses held by the front end (R23, R483): write?, access, `gt` of arrival -/
  held : List (Bool × Acc × Gt) := []
  /-- `_LO` latches: (register offset, rest of the value) of the last access of a source (R505) -/
  lo : Tbl (Nat × List Word) := []
  /-- straps: absent taps (`tl_present` 0), region of each tap (`tp_region`) (R487, R489) -/
  absent : List Nat := []
  regionOf : Tbl Nat := []
  /-- the model's own: outputs presented so far, and the count of free values used -/
  out : List Out := []
  freeCtr : Nat := 0
  deriving DecidableEq, Repr

/-- The state of the machine: the block, and the commands that wait, first in, first out (the model's own queue). -/
structure State where
  block : Block := {}
  pending : List Instr := []
  deriving DecidableEq, Repr

/-- Reasons for which the machine stops. No rule of the specification stops the block, so no meaning raises one.
DESIGN CHOICE, log entry 4. -/
inductive Fault where
  /-- never raised by any command; kept so that the type has a name for a stuck machine (safe) -/
  | stuck
  deriving DecidableEq, Repr

/-- Reasons for which a command has no meaning. DESIGN CHOICE, log entry 4. -/
inductive Refusal where
  /-- raised by an arm of `exec` whose command has no meaning yet (safe: nothing is claimed of it) -/
  | notModelled (mnemonic : String)
  deriving DecidableEq, Repr

/-- The machine right after power-on reset: start-up at PowerUp, every register at its reset value, nothing pending.
DESIGN CHOICE, log entries 1 and 3. -/
def State.reset : State := {}

end Sys2Proof.Machine
end

