-- ==== Sys2Proof/Machine/Ops.lean ====
section
/-! DEFINITION. The shared operations: sparse tables, bit fields and bytes, saturating counters, the lift of a block
operation to a command, local time, interrupts, loss accounting, violations and quotas. -/

namespace Sys2Proof.Machine

/-! ### Sparse tables -/

/-- The value of key `k`: the listed one, otherwise the table's default. DESIGN CHOICE, log entry 70. -/
def tget {α : Type} (d : α) : Tbl α → Nat → α
  | [], _ => d
  | (k, v) :: t, n => if n = k then v else tget d t n

/-- Puts `v` at key `n`, keeping the keys rising. -/
def tput {α : Type} : Tbl α → Nat → α → Tbl α
  | [], n, v => [(n, v)]
  | (k, w) :: t, n, v =>
    if n < k then (n, v) :: (k, w) :: t
    else if n = k then (n, v) :: t
    else (k, w) :: tput t n v

/-- Removes key `n`. DESIGN CHOICE, log entry 70. -/
def tdel {α : Type} (t : Tbl α) (n : Nat) : Tbl α := t.filter (fun e => e.1 != n)

/-- Writes key `n`: a value equal to the default is not listed. DESIGN CHOICE, log entry 70. -/
def tset {α : Type} [DecidableEq α] (d : α) (t : Tbl α) (n : Nat) (v : α) : Tbl α :=
  if v = d then tdel t n else tput t n v

/-- Applies `f` at key `n`. -/
def tmod {α : Type} [DecidableEq α] (d : α) (t : Tbl α) (n : Nat) (f : α → α) : Tbl α :=
  tset d t n (f (tget d t n))

/-- Applies `f` to every listed entry, dropping the keys whose value becomes the default. -/
def tmap {α : Type} [DecidableEq α] (d : α) : Tbl α → (Nat → α → α) → Tbl α
  | [], _ => []
  | (k, v) :: t, f => if f k v = d then tdel (tmap d t f) k else (k, f k v) :: tmap d t f

/-- The keys listed. -/
def tkeys {α : Type} (t : Tbl α) : List Nat := t.map Prod.fst

/-- Keys strictly rising from `lo`. -/
def trising {α : Type} : Nat → Tbl α → Bool
  | _, [] => true
  | lo, (k, _) :: t => decide (lo ≤ k) && trising (k + 1) t

/-! ### Bit fields, bytes and counters -/

/-- Bits [lo + n - 1 : lo] of a number. -/
def nfld (x lo n : Nat) : Nat := x / 2 ^ lo % 2 ^ n

/-- Bits [lo + n - 1 : lo] of a word. -/
def fld {w : Nat} (x : BitVec w) (lo n : Nat) : Nat := nfld x.toNat lo n

/-- Bit `lo` of a word as a Boolean. -/
def bit {w : Nat} (x : BitVec w) (lo : Nat) : Bool := x.getLsbD lo

/-- 1 for true. -/
def b2n (b : Bool) : Nat := if b then 1 else 0

/-- A word with bits [lo + n - 1 : lo] replaced. -/
def setFld {w : Nat} (x : BitVec w) (lo n v : Nat) : BitVec w :=
  BitVec.ofNat w (x.toNat - nfld x.toNat lo n * 2 ^ lo + v % 2 ^ n * 2 ^ lo)

/-- A word from a number (its low 32 bits). -/
def w32 (n : Nat) : Word := BitVec.ofNat 32 n

/-- A signed field of `n` bits (two's complement). -/
def sfld (x lo n : Nat) : Int :=
  let v := nfld x lo n
  if v < 2 ^ (n - 1) then (v : Int) else (v : Int) - 2 ^ n

/-- The two's complement of an integer in `n` bits. -/
def twos (n : Nat) (v : Int) : Nat := (v % (2 ^ n : Int)).toNat

/-- `n` little-endian bytes of a number (R10). -/
def leBytes : Nat → Nat → List Byte
  | 0, _ => []
  | n + 1, v => BitVec.ofNat 8 v :: leBytes n (v / 256)

/-- The number that little-endian bytes spell. -/
def leNat : List Byte → Nat
  | [] => 0
  | b :: t => b.toNat + 256 * leNat t

/-- Fields given as (width, value), lowest bit first, packed into a number. -/
def pack : List (Nat × Nat) → Nat
  | [] => 0
  | (n, v) :: t => v % 2 ^ n + 2 ^ n * pack t

/-- The list cut or padded with zeros to `n` bytes. -/
def padTo (n : Nat) (bs : List Byte) : List Byte := (bs ++ List.replicate (n - bs.length) 0).take n

/-- A counter of `w` bits that stops at its largest value (R11). -/
def satAdd (w x n : Nat) : Nat := min (x + n) (2 ^ w - 1)

/-- A value cut to the largest of `w` bits. -/
def satTo (w x : Nat) : Nat := min x (2 ^ w - 1)

/-- The quotient rounded up. -/
def cdiv (a b : Nat) : Nat := (a + b - 1) / b

/-- The list with the element at `i` replaced. -/
def lset {α : Type} (l : List α) (i : Nat) (v : α) : List α := l.set i v

/-- Elements 0 to n − 1. -/
def upto (n : Nat) : List Nat := List.range n

/-- The bits of a number below `n` that are set, rising. -/
def bitsOf (n x : Nat) : List Nat := (upto n).filter (fun i => x.testBit i)

/-- The mask whose set bits are the listed numbers. -/
def maskOf (l : List Nat) : Nat := l.foldl (fun m i => m ||| 2 ^ i) 0

/-- Puts `x` before the first element that it must precede. -/
def insertBy {α : Type} (before : α → α → Bool) (x : α) : List α → List α
  | [] => [x]
  | y :: t => if before x y then x :: y :: t else y :: insertBy before x t

/-- The list sorted so that `before` holds from left to right; equal elements keep their order. -/
def sortBy {α : Type} (before : α → α → Bool) (l : List α) : List α :=
  l.foldl (fun acc x => insertBy before x acc) []

/-- The quotient rounded to the nearest integer, ties to the even one (R204). -/
def roundDiv (n : Int) (d : Nat) : Int :=
  let q := n / (d : Int)
  let r := n % (d : Int)
  if 2 * r > (d : Int) then q + 1 else if 2 * r = (d : Int) then (if q % 2 = 0 then q else q + 1) else q

/-! ### Commands as operations on the block -/

/-- A command whose effect is `f` on the block: the next state, the queue untouched. DESIGN CHOICE, log entry 4. -/
def State.run (s : State) (f : Block → Block) : Host.Outcome State Fault Refusal :=
  .next { s with block := f s.block }

/-- Takes a free value. DESIGN CHOICE, log entry 5. -/
def Block.takeFree (b : Block) : Nat × Block :=
  ((Config.free b.freeCtr).toNat, { b with freeCtr := b.freeCtr + 1 })

/-- Puts something on an output port. DESIGN CHOICE, log entry 69. -/
def Block.emit (b : Block) (o : Out) : Block := { b with out := b.out ++ [o] }

/-! ### The parts of the block -/

/-- The reset value of owner `n`'s state: the quota fields of R363 differ for the operator.
DESIGN CHOICE, log entry 1. -/
def tenantReset (n : Nat) : Tenant :=
  if n = 64 then { budget := 32, poolMin := 32, poolMax := 64 } else {}

def Block.tap (b : Block) (n : Nat) : Tap := tget {} b.taps n
def Block.modTap (b : Block) (n : Nat) (f : Tap → Tap) : Block := { b with taps := tmod {} b.taps n f }
def Block.view (b : Block) (n : Nat) : TapView := tget {} b.views n
def Block.modView (b : Block) (n : Nat) (f : TapView → TapView) : Block := { b with views := tmod {} b.views n f }
def Block.station (b : Block) (n : Nat) : Station := tget {} b.stations n
def Block.modStation (b : Block) (n : Nat) (f : Station → Station) : Block :=
  { b with stations := tmod {} b.stations n f }
def Block.quad (b : Block) (n : Nat) : Quadrant := tget {} b.quads n
def Block.modQuad (b : Block) (n : Nat) (f : Quadrant → Quadrant) : Block := { b with quads := tmod {} b.quads n f }
def Block.tenant (b : Block) (n : Nat) : Tenant := tget (tenantReset n) b.tenants n
def Block.modTenant (b : Block) (n : Nat) (f : Tenant → Tenant) : Block :=
  { b with tenants := tmod (tenantReset n) b.tenants n f }
def Block.port (b : Block) (n : Nat) : Port := tget {} b.ports n
def Block.modPort (b : Block) (n : Nat) (f : Port → Port) : Block := { b with ports := tmod {} b.ports n f }
def Block.page (b : Block) (n : Nat) : Page := tget {} b.cask.pages n
def Block.modCask (b : Block) (f : Cask → Cask) : Block := { b with cask := f b.cask }
def Block.modPage (b : Block) (n : Nat) (f : Page → Page) : Block :=
  { b with cask := { b.cask with pages := tmod {} b.cask.pages n f } }
def Block.modMash (b : Block) (f : Mash → Mash) : Block := { b with mash := f b.mash }
def Block.modSync (b : Block) (f : Sync → Sync) : Block := { b with sync := f b.sync }
def Block.modTime (b : Block) (f : Time → Time) : Block := { b with time := f b.time }
def Block.modPower (b : Block) (f : Power → Power) : Block := { b with power := f b.power }
def Block.modHop (b : Block) (f : Hop → Hop) : Block := { b with hop := f b.hop }
def Block.modMeas (b : Block) (f : Meas → Meas) : Block := { b with meas := f b.meas }
def Block.modSparge (b : Block) (f : Sparge → Sparge) : Block := { b with sparge := f b.sparge }
def Block.modAssay (b : Block) (f : Assay → Assay) : Block := { b with assay := f b.assay }
def Block.chan (b : Block) (n : Nat) : Channel := tget {} b.sparge.chans n
def Block.modChan (b : Block) (n : Nat) (f : Channel → Channel) : Block :=
  b.modSparge (fun s => { s with chans := tmod {} s.chans n f })
def Block.hopPort (b : Block) (n : Nat) : HopPort := tget {} b.hop.ports n
def Block.modHopPort (b : Block) (n : Nat) (f : HopPort → HopPort) : Block :=
  b.modHop (fun h => { h with ports := tmod {} h.ports n f })
def Block.unit (b : Block) (n : Nat) : AsyUnit := tget {} b.assay.units n
def Block.modUnit (b : Block) (n : Nat) (f : AsyUnit → AsyUnit) : Block :=
  b.modAssay (fun a => { a with units := tmod {} a.units n f })
def Block.slot (b : Block) (n : Nat) : LoopSlot := tget {} b.mash.slots n
def Block.modSlot (b : Block) (n : Nat) (f : LoopSlot → LoopSlot) : Block :=
  b.modMash (fun m => { m with slots := tmod {} m.slots n f })
def Block.obj (b : Block) (n : Nat) : Obj := tget {} b.sync.objs n
def Block.modObj (b : Block) (n : Nat) (f : Obj → Obj) : Block :=
  b.modSync (fun s => { s with objs := tmod {} s.objs n f })
def Block.freezeSlot (b : Block) (n : Nat) : Freeze := tget {} b.freezes n
def Block.modFreeze (b : Block) (n : Nat) (f : Freeze → Freeze) : Block :=
  { b with freezes := tmod {} b.freezes n f }

/-! ### Time and power -/

/-- The brew domain does its work: in Run with no entry to another state in progress (R465, R484), its supply and clock
granted since power-on (R480), and not in the Quiesce of a block reset (R477). -/
def Block.running (b : Block) : Bool :=
  b.power.st == .run && b.power.goal == .run && b.power.phase != 0 && !b.power.quiesce

/-- The local `gt` in 1/256 ns: the time base truncated (R31), or the always-on keeper while the brew clock is stopped
(R33). -/
def Block.gt (b : Block) : Gt :=
  match b.power.st with
  | .nap | .kiln | .off => b.time.aonGt
  | _ => b.time.tb / 2 ^ 24

/-- Microseconds as a `Gt`. -/
def us (n : Nat) : Gt := n * 256000

/-- Milliseconds as a `Gt`. -/
def ms (n : Nat) : Gt := n * 256000000

/-- A 72-bit `gt` as 9 bytes (Conventions, R10). -/
def gtBytes (g : Gt) : List Byte := leBytes 9 g

/-- A request is on its way down: its grant has yet to follow (R498). -/
def Power.lowering (p : Power) : Bool := (!p.clkReq && p.clkGnt) || (!p.brewReq && p.brewGnt)

/-- The brew clock is asked for, at Full speed when the request is new (R467, R469). -/
def Power.askClock (p : Power) : Power := { p with clkReq := true, lowAsked := p.lowAsked && p.clkReq }

/-- Towards Run (R465, R498): the supply is asked for, and the clock once the supply is there. -/
def Power.climb (p : Power) : Power :=
  let q := { p with goal := .run, brewReq := true }
  if p.brewReq && p.brewGnt then q.askClock else q

/-- A wake source acts (R468, R484): an entry from Run is reversed at once while the clock is still asked for. Otherwise the
block starts to wake, the first source names the wake, and a request on its way down is raised again only after its
grant has fallen. DESIGN CHOICE, log entry 46. -/
def Power.wake (p : Power) (src : Nat) : Power :=
  if p.st == .off || p.goal == .off || p.waking || (p.st == .run && p.goal == .run) then p
  else if p.st == .run && p.clkReq then { p with goal := .run, retReq := p.retReq && !p.retGnt, wakeTimer := none }
  else
    let q := { p with waking := true, lastWake := src, wakes := satAdd 32 p.wakes 1 }
    if p.lowering then q else q.climb

/-- A wake source (R468, in row order from 0). -/
def Block.requestWake (b : Block) (src : Nat) : Block := b.modPower (fun p => p.wake src)

/-! ### Interrupts, losses and violations -/

/-- The vectors that a function has (R370). -/
def hasVec (fn vec : Nat) : Bool := if fn = 64 then decide (vec < 19) else decide (vec < 8)

/-- A cause of vector `vec` of function `fn`: the status bit is set, and a message becomes due when the bit rises while
it is enabled (R372). A Resetting tenant records nothing (R381). -/
def Block.raise (b : Block) (fn vec : Nat) : Block :=
  b.modTenant fn (fun t =>
    if t.resetting || !hasVec fn vec then t
    else if bit t.intStatus vec then t
    else { t with
      intStatus := setFld t.intStatus vec 1 1
      due := if bit t.intEnable vec && !t.due.contains vec then t.due ++ [vec] else t.due })

/-- Every access but a read of a split value ends the source's latch (R505). -/
def Block.unlatch (b : Block) (src : Nat) : Block := { b with lo := tdel b.lo src }

/-- A loss counted at point `k` of `LOSS_SEEN` (R509): the bit is set and the operator's LOSS vector raised. -/
def Block.loss (b : Block) (k : Nat) : Block :=
  (b.modPower (fun p => { p with
    lossSeen := setFld p.lossSeen k 1 1
    lossNow := (setFld (if p.lossNow.2 = b.gt then p.lossNow.1 else 0) k 1 1, b.gt) })).raise 64 16

/-- A violation by source `src` (R362): functions count in their own count, sources 65 to 127 in a separate one. -/
def Block.violation (b : Block) (src : Nat) : Block :=
  (if src ≤ 64 then b.modTenant src (fun t => { t with violations := satAdd 32 t.violations 1 })
   else b.modPower (fun p => { p with violUnknown := satAdd 32 p.violUnknown 1 })).raise 64 14

/-! ### Quotas -/

/-- `CASK_USABLE_PAGES` (R178): 16 pages fewer for each fenced macro. -/
def Block.usable (b : Block) : Nat := 8192 - 16 * b.cask.fence.length

/-- The sum of the tenants' quotas. -/
def Block.quotaSum (b : Block) : Nat :=
  (b.tenants.map (fun e => if e.1 < 64 then e.2.quota else 0)).foldl (· + ·) 0

/-- `CASK_QUOTA` of an owner: the operator's is derived (R364). -/
def Block.quotaOf (b : Block) (o : Nat) : Nat :=
  if o = 64 then b.usable - b.quotaSum else (b.tenant o).quota

/-- A page state that counts in the held count (R158). -/
def PageState.counts : PageState → Bool
  | .openP | .full | .held | .draining => true
  | .free | .fenced => false

/-- The held count of an owner (R158). -/
def Block.heldOf (b : Block) (o : Nat) : Nat :=
  (b.cask.pages.filter (fun e => e.2.st.counts && e.2.owner == o)).length

/-! ### Owners -/

/-- A Lauter rule at its reset value (R101). -/
def ruleReset : List Word := [0, 0, 0, 0, 0]

/-- The current epoch of an owner; the operator's never advances (R383). -/
def Block.epochOf (b : Block) (o : Nat) : Nat := (b.tenant o).epoch

/-- The owner's wort format version is 2.2 (R149). -/
def Block.fmt2Of (b : Block) (o : Nat) : Bool := (b.tenant o).fmt2

/-- Station of a tap. -/
def stOf (tap : Nat) : Nat := tap / 64

/-- Quadrant of a station. -/
def quadOf (st : Nat) : Nat := st / 8

/-- Folds a block operation over a list. -/
def Block.each {α : Type} (b : Block) (l : List α) (f : Block → α → Block) : Block := l.foldl f b

end Sys2Proof.Machine
end

