-- ==== Sys2Proof/Machine/Wort.lean ====
section
/-! DEFINITION. The wort format (05_wort_format): units, packets, control packet bodies and record fragments as bytes,
in versions 3.0 and 2.2. -/

namespace Sys2Proof.Machine

/-! ### Item classes (R63) -/

def clsA : Nat := 1
def clsO : Nat := 2
def clsE : Nat := 3
def clsS : Nat := 4
def clsP : Nat := 5
def clsC : Nat := 6
def clsL : Nat := 7
def clsM : Nat := 9
def clsClock : Nat := 13
def clsAnchor : Nat := 14
def clsDx : Nat := 15

/-- Reserved class codes of items (R63). -/
def classReserved (c : Nat) : Bool := decide (0xA ≤ c) && decide (c ≤ 0xC)

/-- Reserved stall reasons (R69). -/
def reasonReserved (r : Nat) : Bool := decide (7 ≤ r) && decide (r ≤ 0x1F)

/-- Timing items (R99): anchor marks, clock-state marks, delta-extend items and P items. -/
def isTiming (cls : Nat) : Bool := cls == clsClock || cls == clsAnchor || cls == clsDx || cls == clsP

/-- Bits [47:44] of a payload: `KIND` of R68 and R70. -/
def payKind (p : Payload) : Nat := fld p 44 4

/-- A payload from a number. -/
def pay (n : Nat) : Payload := BitVec.ofNat 48 n

/-! ### Units (R127, R128, R143) -/

/-- The 64 bytes of the stream header unit (R127); bytes 25 to 27 are reserved in version 2.2 (R150). -/
def headerUnit (node pageIndex mode : Nat) (p : Page) (epochFirst verFirst : Bool) (gt : Gt) (al lb fb : Nat) :
    List Byte :=
  padTo 64 (
    leBytes 8 (pack [(4, 1), (2, p.interest), (7, p.owner), (8, p.epoch), (11, 0), (16, 0xD4E7),
      (8, if p.ver2 then 2 else 3), (8, if p.ver2 then 2 else 0)]) ++
    leBytes 8 (pack [(12, node), (13, pageIndex), (2, mode), (1, b2n epochFirst), (1, b2n verFirst), (3, 0),
      (32, p.pageSeq)]) ++
    gtBytes gt ++ (if p.ver2 then [] else leBytes 1 al ++ leBytes 1 lb ++ leBytes 1 fb))

/-- The 64 bytes of a TRACE or RECORD unit (R128, R143, R150). DEDUCED, log entry 12. -/
def WUnit.bytes (u : WUnit) : List Byte :=
  let ep := if u.fmt2 then 0 else u.tagEpoch
  let hd : Nat :=
    if u.kind = 2 then
      pack [(4, 2), (2, u.interest), (7, u.owner), (8, ep), (5, u.source), (6, u.body.length),
        (24, if u.fmt2 then u.seqNo % 256 else u.seqNo), (1, b2n u.marker), (1, b2n u.fmt2), (6, 0)]
    else
      pack [(4, u.kind), (2, u.interest), (7, u.owner), (8, ep), (5, u.source), (6, u.body.length),
        (16, u.seqNo), (8, u.frag), (1, b2n u.last), (4, u.rtype), (3, 0)]
  leBytes 8 hd ++ padTo 56 u.body

/-- Pieces of at most 56 bytes; an empty list has none. -/
def chunks56 : Nat → List Byte → List (List Byte)
  | 0, _ => []
  | _, [] => []
  | fuel + 1, bs => bs.take 56 :: chunks56 fuel (bs.drop 56)

/-- The RECORD units of a record (R143): one fragment per 56 bytes. -/
def Rec.units (r : Rec) (rseq : Nat) : List WUnit :=
  let cs := chunks56 256 r.bytes
  cs.zipIdx.map (fun (c, i) =>
    { kind := if r.fmt2 then 0xE else 3, interest := r.interest, owner := r.owner, tagEpoch := r.epoch,
      source := r.source, seqNo := rseq, fmt2 := r.fmt2, frag := i, last := i + 1 == cs.length,
      rtype := r.rtype, body := c })

/-! ### Item packets (R130 to R133) -/

/-- A stream delta (R121, R131): exact, unknown, or 4,095 or more. -/
inductive SDelta where
  | known (n : Nat)
  | unknown
  | over
  deriving DecidableEq, Repr

/-- `DCODE` and the delta bytes (R131); version 2.2 has codes 0 to 3 and 5 (R150). -/
def deltaCode (fmt2 : Bool) : SDelta → Nat × List Byte
  | .known n =>
    if n = 0 then (0, [])
    else if n < 256 then (1, leBytes 1 n)
    else if n < 65536 then (2, leBytes 2 n)
    else if n < 16777216 then (3, leBytes 3 n)
    else if n < 2 ^ 48 && !fmt2 then (4, leBytes 6 n)
    else (5, [])
  | .unknown => (5, [])
  | .over => if fmt2 then (5, []) else (6, [])

/-- Header and delta bytes of an item packet (R130); in version 2.2 a stretched item has `DCODE` 5 and no `STR`. -/
def itemHead (fmt2 : Bool) (cls tap : Nat) (str : Bool) (d : SDelta) : List Byte :=
  let c := deltaCode fmt2 (if fmt2 && str then .unknown else d)
  leBytes 2 (pack [(4, cls), (6, tap), (1, b2n (str && !fmt2)), (3, c.1)]) ++ c.2

/-- An item packet of a class other than A (R132); version 2.2 clears `REDACTED` (R150). -/
def itemPacket (fmt2 : Bool) (cls tap : Nat) (str : Bool) (d : SDelta) (p : Payload) : List Byte :=
  itemHead fmt2 cls tap str d ++
    leBytes 6 (if fmt2 && cls == clsO then (setFld p 17 1 0).toNat else p.toNat)

/-- `ALEN` for an address against the previous one (R116, R133): the fewest low bits that cover every difference.
DESIGN CHOICE, log entry 89. -/
def addrLen (fmt2 full : Bool) (kind run addr : Nat) (prev : Option Nat) : Nat :=
  match full, prev with
  | false, some pr =>
    if kind = 3 && addr == (pr + run) % 2 ^ 38 && !fmt2 then 0
    else if addr / 2 ^ 8 = pr / 2 ^ 8 && !fmt2 then 1
    else if addr / 2 ^ 16 = pr / 2 ^ 16 then 2
    else if addr / 2 ^ 24 = pr / 2 ^ 24 && !fmt2 then 3
    else 4
  | _, _ => 4

/-- Address bytes for an `ALEN`. -/
def addrBytes (alen addr : Nat) : List Byte :=
  match alen with
  | 0 => []
  | 1 => leBytes 1 addr
  | 2 => leBytes 2 addr
  | 3 => leBytes 3 addr
  | _ => leBytes 5 addr

/-- A class A packet (R133): `full` is the item's own or the station's flag, or no previous address (R116, R117). -/
def aPacket (fmt2 : Bool) (tap : Nat) (str : Bool) (d : SDelta) (p : Payload) (needFull : Bool) (prev : Option Nat) :
    List Byte :=
  let full := bit p 47 || needFull || prev.isNone
  let kind := fld p 45 2
  let run := fld p 38 7
  let addr := fld p 0 38
  let alen := addrLen fmt2 full kind run addr prev
  itemHead fmt2 clsA tap str d ++ leBytes 2 (pack [(2, kind), (7, run), (3, alen), (1, b2n full)]) ++
    addrBytes alen addr

/-! ### Control packets (R134 to R142) -/

/-- A control packet: header and body (R134). -/
def ctlPacket (ctype : Nat) (body : List Byte) : List Byte :=
  leBytes 2 (pack [(4, 0), (6, ctype), (6, body.length)]) ++ body

/-- TIME causes of version 2.2 (R150). -/
def cause22 (c : Nat) : Nat := if c = 1 || c = 2 then 1 else if c = 4 then 4 else if c = 7 then 7 else 0

/-- A TIME packet (R135, R150). -/
def timePacket (fmt2 : Bool) (p : TimePkt) : List Byte :=
  if fmt2 then
    ctlPacket 1 (leBytes 1 (cause22 p.cause) ++ leBytes 1 p.seq ++ leBytes 8 (p.gt / 256) ++ leBytes 1 p.epoch ++ [0])
  else
    ctlPacket 1 (leBytes 1 p.cause ++ leBytes 1 p.seq ++ gtBytes p.gt ++ leBytes 1 p.epoch ++ leBytes 1 p.lb ++
      leBytes 1 p.fb ++ leBytes 8 p.strobed ++ (if p.cause = 7 then leBytes 8 (twos 64 p.step) else []))

/-- A BRIM packet (R137). -/
def brimPacket (source tap mask st count : Nat) (gt : Gt) : List Byte :=
  ctlPacket 2 (leBytes 1 source ++ leBytes 1 tap ++ leBytes 1 mask ++ leBytes 1 st ++ leBytes 2 count ++
    gtBytes gt ++ [0])

/-- A LOSS packet (R138, R150). -/
def lossPacket (fmt2 : Bool) (tap cause count : Nat) : List Byte :=
  let h := leBytes 1 (pack [(6, tap), (2, cause)])
  ctlPacket 3 (h ++ (if fmt2 then leBytes 1 (satTo 8 count) else leBytes 2 (satTo 16 count)))

/-- A STOP or RESUME packet (R139). -/
def stopPacket (resume aon : Bool) (state : Nat) (gt : Gt) (taps : Nat) : List Byte :=
  ctlPacket (if resume then 5 else 4)
    (leBytes 1 (pack [(1, b2n aon), (2, state)]) ++ gtBytes gt ++ leBytes 8 taps)

/-- A SCRUB_BEGIN or SCRUB_END packet (R140). -/
def scrubPacket (ended : Bool) (tenant oldE newE status : Nat) (gt : Gt) (written : Nat) : List Byte :=
  let h := leBytes 1 tenant ++ leBytes 1 oldE ++ leBytes 1 newE ++ leBytes 1 status ++ gtBytes gt
  if ended then ctlPacket 7 (h ++ leBytes 8 written ++ [0]) else ctlPacket 6 h

/-- The body of an ALIGN record (R141). -/
def alignBodyOf (epoch reason : Nat) (aligned : Bool) (lb fb : Nat) (off rate : Int) (t0 : Gt) : List Byte :=
  leBytes 1 epoch ++ leBytes 1 (pack [(4, reason), (1, b2n aligned)]) ++ leBytes 1 lb ++ leBytes 1 fb ++
    leBytes 8 (if aligned then twos 64 off else 0) ++ leBytes 4 (if aligned then twos 32 rate else 0) ++ gtBytes t0

/-- A TCAL packet with one entry (R142). DESIGN CHOICE, log entry 25. -/
def tcalPacket (tap epoch : Nat) (dTap : Int) : List Byte :=
  ctlPacket 9 (leBytes 1 tap ++ leBytes 1 1 ++ leBytes 1 epoch ++ leBytes 2 (twos 16 dTap))

end Sys2Proof.Machine
end

