-- ==== Sys2Proof/Machine/Time.lean ====
section
/-! DEFINITION. Bounds and fabric time (02_time): the local and fabric residual bounds as exact rationals in ns, the
aligned state, and the conversion between local and root time. -/

namespace Sys2Proof.Machine

/-- The enabled taps. -/
def Block.enabledTaps (b : Block) : List Nat := (b.taps.filter (fun e => e.2.en)).map Prod.fst

/-- The longest measured `T_tap` among some taps in ns; `none` while one of them has no measured period (R48). -/
def longestPeriod (b : Block) : List Nat → Option Rat
  | [] => some 0
  | t :: ts =>
    match (b.view t).period, longestPeriod b ts with
    | some (g, c), some m => some (max m ((g : Rat) / ((256 * c : Nat) : Rat)))
    | _, _ => none

/-- The holdover term of R35: `TIME_HOLDOVER_PPM` of the time since the last sample, in ns. -/
def holdTerm (b : Block) : Rat :=
  if b.time.holdover then ((b.gt - b.time.lastSample : Nat) : Rat) / 256 * (b.time.holdPpm : Rat) / 1000000 else 0

/-- The local residual bound in ns (R48); `none` means unknown. While the time base is not locked it is 64 ns, or more
where holdover gives more (R33). -/
def Block.localBound (b : Block) : Option Rat :=
  match longestPeriod b b.enabledTaps with
  | none => none
  | some m =>
    let unmeasured := b.enabledTaps.any (fun t => !(b.view t).measured)
    let s : Rat := 97 / 256 + (if unmeasured then 8 else 0) + m / 64 + holdTerm b
    some (if b.time.locked then s else max 64 s)

/-- The chain bound in ns (R57): that of the last applied measurement with its link's terms, which grows while no other is
applied, also without a parent; 0 at the root and at an instance that has never had a parent; `none` when unknown.
DESIGN CHOICE, log entry 5; DEDUCED, log entry 37. -/
def Block.chainBound (b : Block) : Option Rat :=
  if b.time.chainKnown then
    some ((b.time.chain : Rat) / 16 + ((Config.alphaUncertainty b.time.chainPort).toNat : Rat) / 4096 + 2 / 256 +
      (Config.rateUncertainty.toNat : Rat) / (2 ^ 40 : Nat) * (((b.gt - b.time.t0 : Nat) : Rat) / 256))
  else if b.hop.parent = 7 then some 0
  else none

/-- The fabric residual bound in ns (R57). -/
def Block.fabricBound (b : Block) : Option Rat :=
  match b.chainBound, b.localBound with
  | some c, some l => some (c + l)
  | _, _ => none

/-- A bound in 1/16 ns, rounded up, 0xFF from 15.9375 ns or when unknown (R44). -/
def enc16 : Option Rat → Nat
  | none => 255
  | some r => min 255 (r * 16).ceil.toNat

/-- The instance is aligned: its fabric residual bound is 2.0 ns or less (R58). -/
def Block.alignedNow (b : Block) : Bool :=
  match b.fabricBound with
  | some r => decide (r ≤ 2)
  | none => false

/-- The local bound as a byte (R44). -/
def Block.lbByte (b : Block) : Nat := enc16 b.localBound

/-- The fabric bound as a byte: 0xFF in an instance that is not aligned (R44). -/
def Block.fbByte (b : Block) : Nat := if b.time.aligned then enc16 b.fabricBound else 255

/-- The bound that a record carries (R61): the fabric bound when aligned, the local bound otherwise. -/
def Block.recBound (b : Block) : Nat := if b.time.aligned then b.fbByte else b.lbByte

/-- The 8-bit alignment epoch. -/
def Block.alEpoch (b : Block) : Nat := b.time.epoch % 256

/-- The fabric offset extrapolated to local time `t`, in 1/256 ns. -/
def Block.fabOffAt (b : Block) (t : Gt) : Int :=
  b.time.fabOff + (b.time.fabRate * ((t : Int) - (b.time.t0 : Int))) / (2 ^ 40 : Int)

/-- Root time at local time `t`. -/
def Block.rootGt (b : Block) (t : Gt) : Gt := ((t : Int) + b.fabOffAt t).toNat

/-- The local time whose root time is `r`, from the offset extrapolated to now (R290). -/
def Block.localOfRoot (b : Block) (r : Gt) : Gt := ((r : Int) - b.fabOffAt b.gt).toNat

end Sys2Proof.Machine
end

