-- ==== Sys2Proof/Machine/Cask.lean ====
section
/-! DEFINITION. The cask (06_cask): obtaining, filling, closing, evicting, reclaiming, holding and fencing pages, the
admission of a unit, and what the cask does at a trigger. -/

namespace Sys2Proof.Machine

/-! ### Looking at pages -/

/-- The pages of an owner with a property, as (number, page). -/
def Block.pagesOf (b : Block) (o : Nat) (f : Page → Bool) : List (Nat × Page) :=
  b.cask.pages.filter (fun e => e.2.st != .free && e.2.st != .fenced && e.2.owner == o && f e.2)

/-- The open order of a page relative to the next one: larger means older (R155, modulo 2³²). -/
def Block.ageOf (b : Block) (p : Page) : Nat := (b.cask.oseq + 2 ^ 32 - p.oseq % 2 ^ 32) % 2 ^ 32

/-- The oldest page of a list: the lowest `OSEQ`. -/
def Block.oldest (b : Block) : List (Nat × Page) → Option Nat
  | [] => none
  | e :: t => some (t.foldl (fun (m : Nat × Nat) x => if m.2 < b.ageOf x.2 then (x.1, b.ageOf x.2) else m)
      (e.1, b.ageOf e.2)).1

/-- The pages of a list in open order, oldest first. -/
def Block.openOrder (b : Block) (l : List (Nat × Page)) : List Nat :=
  (sortBy (fun x y => decide (b.ageOf y.2 < b.ageOf x.2)) l).map Prod.fst

/-- The lowest-numbered Free page: pages not listed are Free. -/
def firstFree : Tbl Page → Nat → Option Nat
  | [], n => if n < 8192 then some n else none
  | (k, p) :: t, n => if n < k then some n else if p.st == .free then some k else firstFree t (k + 1)

/-- The Open page of an owner at an interest level (R157). -/
def Block.openPage (b : Block) (o lvl : Nat) : Option Nat :=
  (b.pagesOf o (fun p => p.st == .openP && p.interest == lvl)).head?.map Prod.fst

/-- How many sequencers of an owner are in a state other than Idle. -/
def Block.seqsIn (b : Block) (o : Nat) (s : SeqState) : Nat :=
  (b.stations.filter (fun e => e.2.seq.owner == o && e.2.seq.st == s)).length

/-! ### Closing and freeing -/

/-- Frees a page: nothing of it is kept. -/
def Block.freePage (b : Block) (p : Nat) : Block := b.modPage p (fun _ => {})

/-- Closes an Open page: Full, or Held while its owner's hold lasts (R157, R168). -/
def Block.closePage (b : Block) (p : Nat) : Block :=
  b.modPage p (fun g => { g with st := if (b.tenant g.owner).caskHold then .held else .full })

/-- Closes every Open page of an owner. -/
def Block.closeOpen (b : Block) (o : Nat) : Block :=
  b.each ((b.pagesOf o (fun p => p.st == .openP)).map Prod.fst) Block.closePage

/-! ### Obtaining a page (R159 to R161) -/

/-- A Full page that the owner's mode lets a new page at level `lvl` evict (R160). -/
def Block.evictable (b : Block) (o lvl : Nat) (p : Page) : Bool :=
  let t := b.tenant o
  p.st == .full && decide (p.interest ≤ lvl) &&
    (if t.mode = 0 then true
     else if t.mode = 1 then (if t.caskHold then false else if b.seqsIn o .post > 0 then p.pre else true)
     else false)

/-- `evict_own` (R160): the oldest evictable page of the lowest level that has one, counted in `CASK_EVICTED`. -/
def Block.evictOwn (b : Block) (o lvl : Nat) : Option (Nat × Block) :=
  let c := b.pagesOf o (b.evictable o lvl)
  match [0, 1, 2, 3].find? (fun l => c.any (fun e => e.2.interest == l)) with
  | none => none
  | some l =>
    (b.oldest (c.filter (fun e => e.2.interest == l))).map
      (fun p => (p, b.modTenant o (fun t => { t with evicted := satAdd 32 t.evicted 1 })))

/-- Owners other than `o` above their quota that have a Full page, as (excess, owner), rising owner. -/
def Block.excessOwners (b : Block) (o : Nat) : List (Nat × Nat) :=
  ((upto 65).filter (fun q => q != o && decide (b.quotaOf q < b.heldOf q) &&
    !(b.pagesOf q (fun p => p.st == .full)).isEmpty)).map (fun q => (b.heldOf q - b.quotaOf q, q))

/-- `reclaim_excess` (R161): the oldest Full page of the owner with the largest excess, counted in `TENANT_PAGE_LOST`. -/
def Block.reclaimExcess (b : Block) (o : Nat) : Option (Nat × Block) :=
  match b.excessOwners o with
  | [] => none
  | e :: t =>
    let q := (t.foldl (fun m x => if m.1 < x.1 then x else m) e).2
    (b.oldest (b.pagesOf q (fun p => p.st == .full))).map
      (fun p => (p, (b.modTenant q (fun t => { t with pageLost := satAdd 32 t.pageLost 1 })).loss 7))

/-- The page that the cask obtains for owner `o` at level `lvl`, not yet opened (R159). -/
def Block.pickPage (b : Block) (o lvl : Nat) : Option (Nat × Block) :=
  if b.heldOf o < b.quotaOf o then
    match firstFree b.cask.pages 0 with
    | some p => some (p, b)
    | none =>
      match b.reclaimExcess o with
      | some r => some r
      | none => b.evictOwn o lvl
  else b.evictOwn o lvl

/-- Opens page `p`: tag, header unit in slot 0, `FILL` 1; the reserve is consumed (R125, R155, R159, R165). -/
def Block.openAt (b : Block) (p o lvl : Nat) (ver2 verFirst : Bool) : Block :=
  let t := b.tenant o
  let vf := verFirst || (t.verFirst && ver2 == t.fmt2)
  let g : Page :=
    { st := .openP, owner := o, epoch := t.epoch, interest := lvl, ver2 := ver2, mode := t.mode,
      oseq := b.cask.oseq, pageSeq := t.pageSeq, slots := [], lastUnit := b.gt }
  let h := headerUnit b.hop.nodeId p t.mode g t.epochFirst vf b.gt b.alEpoch b.lbByte b.fbByte
  ((b.modPage p (fun _ => { g with slots := [h] })).modCask
      (fun c => { c with oseq := (c.oseq + 1) % 2 ^ 32 })).modTenant o (fun t =>
    { t with
      pageSeq := (t.pageSeq + 1) % 2 ^ 32
      epochFirst := false
      rsv := t.rsv - 1
      verFirst := t.verFirst && ver2 != t.fmt2 })

/-- `obtain_page` (R159). -/
def Block.obtainPage (b : Block) (o lvl : Nat) (ver2 verFirst : Bool) : Option (Nat × Block) :=
  (b.pickPage o lvl).map (fun (p, b) => (p, b.openAt p o lvl ver2 verFirst))

/-! ### Admission (R153) -/

/-- Writes a unit into the next slot of an Open page; the page closes when slot 63 is written (R157). -/
def Block.writeSlot (b : Block) (p : Nat) (u : WUnit) : Block :=
  let b := b.modPage p (fun g => { g with slots := g.slots ++ [u.bytes], lastUnit := b.gt })
  if (b.page p).slots.length ≥ 64 then b.closePage p else b

/-- The unit is refused (R18): discarded at once and counted. -/
def Block.refuse (b : Block) (o : Nat) : Block :=
  (b.modTenant o (fun t => { t with refused := satAdd 32 t.refused 1 })).loss 5

/-- The cask admits a granted unit: discarded when its epoch is an old one (R28), otherwise written into its owner's
page (R153, R157), or refused. DEDUCED, log entry 12. -/
def Block.admitUnit (b : Block) (u : WUnit) : Block :=
  if u.tagEpoch ≠ b.epochOf u.owner then
    (b.modCask (fun c => { c with epochDiscard := satAdd 32 c.epochDiscard 1 })).loss 6
  else
    match b.openPage u.owner u.interest with
    | some p =>
      if (b.page p).ver2 == u.fmt2 then b.writeSlot p u
      else
        match (b.closePage p).obtainPage u.owner u.interest u.fmt2 true with
        | some (q, b') => b'.writeSlot q u
        | none => (b.closePage p).refuse u.owner
    | none =>
      match b.obtainPage u.owner u.interest u.fmt2 false with
      | some (q, b') => b'.writeSlot q u
      | none => b.refuse u.owner

/-! ### Reading (R154, R173) -/

/-- Slot `i` of page `p` on a read path: zero beyond the fill count, when the epoch is not its owner's (R173), or with an
uncorrectable word (R176). DESIGN CHOICE, log entries 68 and 71. -/
def Block.readSlot (b : Block) (p i : Nat) : List Byte :=
  let g := b.page p
  if g.epoch ≠ b.epochOf g.owner || b.cask.badSlots.contains (64 * p + i) then List.replicate 64 0 else g.slots.getD i (List.replicate 64 0)

/-! ### Triggers and holds (R164 to R169) -/

/-- Step 3 of R164: the oldest Full `PRE` page is removed while the headroom is short of the reserve. -/
def truncatePre : Nat → Block → Nat → Block
  | 0, b, _ => b
  | n + 1, b, o =>
    if b.quotaOf o < (b.tenant o).rsv + b.heldOf o then
      match b.oldest (b.pagesOf o (fun p => p.st == .full && p.pre)) with
      | some p =>
        truncatePre n ((b.freePage p).modTenant o (fun t =>
          { t with evicted := satAdd 32 t.evicted 1, trigTrunc := satAdd 14 t.trigTrunc 1 })) o
      | none => b
    else b

/-- What the cask does at a trigger of owner `o` (R164, R166). -/
def Block.caskTrigger (b : Block) (o postUnits : Nat) : Block :=
  let b := b.closeOpen o
  let b := b.each ((b.pagesOf o (fun p => p.st == .full || p.st == .held)).map Prod.fst)
    (fun b p => b.modPage p (fun g => { g with pre := true }))
  let need := if postUnits = 0 then 1 else cdiv postUnits 63 + 1
  let b := b.modTenant o (fun t => { t with rsv := t.rsv + need, trigTrunc := 0 })
  let b := truncatePre 8192 b o
  let room := b.quotaOf o - b.heldOf o
  let rsv := (b.tenant o).rsv
  let rest := b.pagesOf o (fun p => p.pre)
  b.modTenant o (fun t => { t with
    rsvShort := satAdd 32 t.rsvShort (rsv - room)
    trigOldest := match b.oldest rest with
      | some p => (b.page p).pageSeq
      | none => 0xFFFFFFFF })

/-- A hold of owner `o` begins (R168): Open pages close and every Full page becomes Held. -/
def Block.holdBegin (b : Block) (o : Nat) : Block :=
  let b := (b.closeOpen o).modTenant o (fun t => { t with caskHold := true })
  b.each ((b.pagesOf o (fun p => p.st == .full)).map Prod.fst) (fun b p => b.modPage p (fun g => { g with st := .held }))

/-- The page is Held, or Draining and Held before. -/
def Page.isHeld (g : Page) : Bool := g.st == .held || (g.st == .draining && g.back == .held)

/-- The page when its owner's hold ends (R169): a Held page returns to Full, and one that is Draining will. -/
def Page.unhold (g : Page) : Page :=
  if g.st == .held then { g with st := .full }
  else if g.st == .draining && g.back == .held then { g with back := .full }
  else g

/-- A hold of owner `o` ends (R169). -/
def Block.holdEnd (b : Block) (o : Nat) : Block :=
  let b := b.modTenant o (fun t => { t with caskHold := false })
  b.each ((b.pagesOf o Page.isHeld).map Prod.fst) (fun b p => b.modPage p Page.unhold)

/-- A sequencer of `o` has entered Hold or left Post: the reserve ends with the last Post (R165, R171), and in Brim-stop
a hold begins when one of the owner's sequencers is in Hold and none is in Post (R168). -/
def Block.seqLeft (b : Block) (o : Nat) : Block :=
  if b.seqsIn o .post > 0 then b
  else
    let b := b.modTenant o (fun t =>
      { t with rsv := 0, rsvShort := satAdd 32 t.rsvShort t.rsvCut, rsvCut := 0 })
    if (b.tenant o).mode = 1 && b.seqsIn o .hold > 0 then b.holdBegin o else b

/-- Owner `o` has its quota reduced from `before` (R171, R364): its QUOTA_SHRUNK is raised, and during Post the pages that
the cut leaves missing from the reserve are noted for `RSV_SHORT`. DEDUCED, log entry 75. -/
def Block.quotaCut (b : Block) (o before : Nat) : Block :=
  let now := b.quotaOf o
  if before ≤ now then b
  else
    let miss (q : Nat) : Nat := (b.tenant o).rsv - (q - b.heldOf o)
    let b := if b.seqsIn o .post > 0 then b.modTenant o (fun t => { t with rsvCut := t.rsvCut + (miss now - miss before) }) else b
    b.raise o 3

/-! ### Drains and fences (R156, R167, R178) -/

/-- A channel takes a page: Draining, with the state it returns to (Free for a Stream drain). -/
def Block.takePage (b : Block) (p : Nat) (stream : Bool) : Block :=
  b.modPage p (fun g => { g with st := .draining, back := if stream then .free else g.st })

/-- A drain of page `p` completes (R156, R169, R173, R178): it goes back to the state in which it was taken, which is what R167
gives, also when its owner has entered Stream mode since. DESIGN CHOICE, log entry 100. -/
def Block.drainDone (b : Block) (p : Nat) : Block :=
  let g := b.page p
  let live := g.epoch == b.epochOf g.owner
  if g.fenceDue then
    let b := b.modPage p (fun _ => { st := .fenced })
    if live then (b.modCask (fun c => { c with uePages := satAdd 32 c.uePages 1 })).loss 8 else b
  else if !live || g.back == .free then b.freePage p
  else b.modPage p (fun g => { g with st := g.back, back := .full })

/-- A drain of page `p` is given up (R407, R409): the page returns to the state in which it was taken, in Stream mode to its
owner's queue; one of a fenced macro is fenced and counted as at the end of a drain. DESIGN CHOICE, log entry 101. -/
def Block.drainUndo (b : Block) (p : Nat) : Block :=
  let g := b.page p
  if g.st != .draining then b
  else if g.fenceDue || g.epoch != b.epochOf g.owner then b.drainDone p
  else b.modPage p (fun g => { g with st := if g.back == .free then .full else g.back, back := .full })

/-- Fences one page of a macro that is being fenced (R178). -/
def Block.fencePage (b : Block) (p : Nat) : Block :=
  let g := b.page p
  match g.st with
  | .fenced => b
  | .free => b.modPage p (fun _ => { st := .fenced })
  | .draining => b.modPage p (fun g => { g with fenceDue := true })
  | _ => ((b.modPage p (fun _ => { st := .fenced })).modCask
      (fun c => { c with uePages := satAdd 32 c.uePages 1 })).loss 8

/-- A read of the cask corrected an error in a word of macro `m` (R176). -/
def Block.countFixed (b : Block) (m : Nat) : Block :=
  b.modCask (fun c => { c with ce := tmod 0 c.ce m (fun n => satAdd 16 n 1) })

/-- The fence mask with macro `m`, in rising order. -/
def insertMacro : List Nat → Nat → List Nat
  | [], m => [m]
  | k :: t, m => if m < k then m :: k :: t else if m = k then k :: t else k :: insertMacro t m

/-- Slot `i` of page `p` is known to hold an uncorrectable word. DESIGN CHOICE, log entry 71. -/
def Block.noteBad (b : Block) (p i : Nat) : Block :=
  b.modCask (fun c => { c with badSlots := insertMacro c.badSlots (64 * p + i) })

/-- Fences macro `m` (R178): its 16 pages, the usable pages, the operator's CASK_FENCE and its derived quota. -/
def Block.fenceMacro (b : Block) (m : Nat) : Block :=
  if b.cask.fence.contains m then b
  else
    let q := b.quotaOf 64
    let b := b.each ((upto 16).map (fun i => 16 * m + i)) Block.fencePage
    let b := b.modCask (fun c => { c with fence := insertMacro c.fence m })
    (b.raise 64 9).quotaCut 64 q

end Sys2Proof.Machine
end

