-- ==== Sys2Proof/Machine/Packer.lean ====
section
/-! DEFINITION. The packer of a station (R15, R118 to R122): open units, closing, the unit queue, markers, and the parts
of the trigger sequencer that a closing unit can move (post count, Hold). -/

namespace Sys2Proof.Machine

/-- Clears what every state change of a sequencer clears (R108): counts, latched outputs, once-flags. -/
def Sequencer.clearComps (q : Sequencer) : Sequencer :=
  { q with comps := tmap {} q.comps (fun _ c => { c with count := 0, latched := false, once := false }) }

/-- A state change of the sequencer (R108). -/
def Sequencer.goto (q : Sequencer) (s : SeqState) : Sequencer := { q.clearComps with st := s }

/-- Sets the need-full flag of station-local taps and asks the taps to restart their address trace (R117). The request
reaches the tap with `TAP_RESYNC_REQUEST`. -/
def Block.needFull (b : Block) (st : Nat) (taps : List Nat) : Block :=
  b.each taps (fun b l =>
    (b.modView (64 * st + l) (fun v => { v with needFull := true })).modTap (64 * st + l) (fun t =>
      { t with resync := true }))

/-- A closed unit enters the unit queue, or is dropped (R15). The Boolean says whether it entered. -/
def Block.enqueue (b : Block) (st : Nat) (u : WUnit) : Bool × Block :=
  let b := b.modStation st (fun s => { s with unitsSince := s.unitsSince + 1 })
  if (b.station st).uq.length < (if u.marker then 256 else 248) then
    (true, b.modStation st (fun s => { s with uq := s.uq ++ [u] }))
  else
    (false, ((b.modStation st (fun s => { s with unitDrop := satAdd 32 s.unitDrop 1 })).loss 3).needFull st u.aTaps)

/-- Takes the unit of an open buffer out with its `USEQ` (R119, R128) and queues it. -/
def Block.closeRaw (b : Block) (st : Nat) (w : OpenUnit) (marker : Bool) : Bool × Block :=
  let n := tget 0 (b.station st).useq w.owner
  let u : WUnit :=
    { kind := 2, interest := w.interest, owner := w.owner, tagEpoch := w.epoch, source := st, seqNo := n,
      marker := marker, fmt2 := w.fmt2, body := w.body, aTaps := w.aTaps }
  let b := b.modStation st (fun s => { s with
    useq := tset 0 s.useq w.owner ((n + 1) % 2 ^ 24)
    opens := s.opens.filter (fun x => !(x.owner == w.owner && x.interest == w.interest)) })
  b.enqueue st u

/-- Closes every open unit of an owner at a station without moving the post count. -/
def Block.closeOwnerRaw (b : Block) (st o : Nat) : Block :=
  b.each ((b.station st).opens.filter (fun w => w.owner == o)) (fun b w => (b.closeRaw st w false).2)

/-- The sequencer enters Hold (R111): the owner's open units close, its HOLD vector is raised, and the cask acts under
R165 and R168. -/
def Block.enterHold (b : Block) (st : Nat) : Block :=
  let o := (b.station st).seq.owner
  let b := b.modStation st (fun s => { s with seq := { s.seq.goto .hold with postLeft := 0 } })
  ((b.closeOwnerRaw st o).raise o 5).seqLeft o

/-- Closes an open unit (R119). In Post a queued unit of the sequencer's owner lowers the post count, and Hold follows
when it reaches 0 (R111). -/
def Block.closeUnit (b : Block) (st : Nat) (w : OpenUnit) (marker : Bool) : Block :=
  let r := b.closeRaw st w marker
  let q := (r.2.station st).seq
  if r.1 && q.st == .post && q.owner == w.owner && decide (q.postLeft > 0) then
    if q.postLeft = 1 then r.2.enterHold st
    else r.2.modStation st (fun s => { s with seq := { s.seq with postLeft := s.seq.postLeft - 1 } })
  else r.2

/-- The open unit of a key. -/
def Block.openUnit (b : Block) (st o lvl : Nat) : Option OpenUnit :=
  (b.station st).opens.find? (fun w => w.owner == o && w.interest == lvl)

/-- Closes every open unit of an owner at a station, in buffer order. -/
def Block.closeOwner (b : Block) (st o : Nat) : Block :=
  b.each ((b.station st).opens.filter (fun w => w.owner == o)) (fun b w =>
    match b.openUnit st w.owner w.interest with
    | some x => b.closeUnit st x false
    | none => b)

/-- Closes every open unit of a station (a PERIOD strobe, R119), the least recently written first.
DESIGN CHOICE, log entry 99. -/
def Block.closeAll (b : Block) (st : Nat) : Block :=
  b.each ((b.station st).opens) (fun b w =>
    match b.openUnit st w.owner w.interest with
    | some x => b.closeUnit st x false
    | none => b)

/-- Room for a buffer with the key: when all 8 are open, the least recently written closes first (R118). -/
def Block.roomFor (b : Block) (st : Nat) : Block :=
  match (b.station st).opens with
  | w :: t => if t.length ≥ 7 then b.closeUnit st w false else b
  | [] => b

/-- Writes packet bytes at the end of an open unit, which becomes the most recently written buffer; a full unit closes,
and so does one that takes a marker (R119, R120). -/
def Block.writeOpen (b : Block) (st : Nat) (w : OpenUnit) (bytes : List Byte) (aTap : Option Nat) (marker : Bool) :
    Block :=
  let w : OpenUnit :=
    { w with
      body := w.body ++ bytes
      aTaps := match aTap with
        | some l => if w.aTaps.contains l then w.aTaps else w.aTaps ++ [l]
        | none => w.aTaps }
  let b := b.modStation st (fun s => { s with
    opens := s.opens.filter (fun x => !(x.owner == w.owner && x.interest == w.interest)) ++ [w] })
  if marker || w.body.length ≥ 56 then b.closeUnit st w marker else b

/-- A fresh open unit of a key (R118). -/
def Block.freshUnit (b : Block) (o lvl : Nat) : OpenUnit :=
  { owner := o, interest := lvl, epoch := b.epochOf o, fmt2 := b.fmt2Of o, body := [] }

/-- Places packet bytes in the open unit of a key: in it if they fit, otherwise in a new one (R118, R119).
DESIGN CHOICE, log entry 87. -/
def Block.place (b : Block) (st o lvl : Nat) (bytes : List Byte) (aTap : Option Nat) (marker : Bool) : Block :=
  match b.openUnit st o lvl with
  | some w =>
    if w.body.length + bytes.length ≤ 56 then b.writeOpen st w bytes aTap marker
    else ((b.closeUnit st w false).roomFor st).writeOpen st (b.freshUnit o lvl) bytes aTap marker
  | none => (b.roomFor st).writeOpen st (b.freshUnit o lvl) bytes aTap marker

/-- Notes that the stream of `o` received an item from the station (R122). -/
def Block.markLive (b : Block) (st o : Nat) : Block :=
  b.modStation st (fun s => { s with liveNow := if s.liveNow.contains o then s.liveNow else s.liveNow ++ [o] })

/-- The streams live on a station (R122). -/
def Station.live (s : Station) : List Nat := s.liveNow ++ s.livePrev.filter (fun o => !s.liveNow.contains o)

/-- The sequencer captures its owner's items in this state (R111). -/
def Sequencer.captures (q : Sequencer) (s : SeqState) : Bool :=
  match s with
  | .idle => q.idleCapture
  | .armed | .post => true
  | .hold => false

/-- The streams that eager packets and STOP and RESUME markers go to (R122): the live ones, and the sequencer owner's
while its sequencer captures. DESIGN CHOICE, log entry 86. -/
def Block.eagerStreams (b : Block) (st : Nat) : List Nat :=
  let s := b.station st
  if s.seq.en && s.seq.captures s.seq.st && !s.live.contains s.seq.owner then s.live ++ [s.seq.owner] else s.live

/-- Writes the ALIGN record of the last epoch advance into a stream that has not received it (R60). Version 2.2 has
none (R150). -/
def Block.alignTo (b : Block) (st o : Nat) : Block :=
  if tget 0 (b.station st).salign o = b.time.epoch then b
  else
    let b := b.modStation st (fun s => { s with salign := tset 0 s.salign o b.time.epoch })
    if b.fmt2Of o then b else b.place st o 3 (ctlPacket 8 b.time.alignBody) none true

/-- A marker at level 3 in one stream (R120), after the ALIGN record that the stream may still want. -/
def Block.markerTo (b : Block) (st o : Nat) (bytes : List Byte) : Block :=
  (b.alignTo st o).place st o 3 bytes none true

/-- Key of a per-stream table: owner and a number below 64. -/
def skey (o n : Nat) : Nat := o * 64 + n

/-- The stream of owner `o` counts as new at a station (R121, R122, R136, R142): no item, TIME packet or TCAL entry placed
before counts. -/
def Station.newStream (s : Station) (o : Nat) : Station :=
  { s with
    stap := s.stap.filter (fun e => e.1 / 64 != o)
    stime := s.stime.filter (fun e => e.1 / 64 != o)
    salign := tdel s.salign o
    liveNow := s.liveNow.filter (fun x => x != o)
    livePrev := s.livePrev.filter (fun x => x != o) }

end Sys2Proof.Machine
end

