-- ==== Sys2Proof/Machine/Anchor.lean ====
section
/-! DEFINITION. Alignment epochs and anchor strobes (R43, R46, R58 to R60, R122, R123, R136, R518). -/

namespace Sys2Proof.Machine

/-- The 32 stations. -/
def allStations : List Nat := upto 32

/-- The taps of a station. -/
def tapsOf (st : Nat) : List Nat := (upto 64).map (fun l => 64 * st + l)

/-- The region of a tap (`tp_region`, R489). -/
def Block.regionOfTap (b : Block) (t : Nat) : Nat := tget 0 b.regionOf t

/-- The clock state of a region: 0 running, 1 stretched, 2 stopped (R49). -/
def Block.regionState (b : Block) (r : Nat) : Nat := tget 0 b.time.regions r

/-- The tap is present (`tl_present`, R487). -/
def Block.present (b : Block) (t : Nat) : Bool := !b.absent.contains t

/-- Whole brew cycles as a `Gt`. -/
def Block.cycles (b : Block) (n : Nat) : Gt := n * b.time.rate / 2 ^ 24

/-! ### Alignment epoch -/

/-- The streams into which station `st` writes an ALIGN record eagerly (R60). -/
def Block.alignStreams (b : Block) (st : Nat) : List Nat :=
  let live := (b.station st).live
  if st = 0 then live ++ (upto 65).filter (fun o => !live.contains o && decide (b.quotaOf o > 0)) else live

/-- The alignment epoch advances for a reason of R141, and the ALIGN records are placed (R59, R60).
DESIGN CHOICE, log entry 25. -/
def Block.advanceEpoch (b : Block) (reason : Nat) : Block :=
  let b := b.modTime (fun t => { t with epoch := t.epoch + 1 })
  let b := b.modTime (fun t => { t with
    alignBody := alignBodyOf b.alEpoch reason t.aligned b.lbByte b.fbByte t.fabOff t.fabRate t.t0 })
  b.each allStations (fun b st => b.each (b.alignStreams st) (fun b o => b.alignTo st o))

/-- Recomputes the aligned state (R58): a change advances the epoch (R59) and raises ALIGN (R370). -/
def Block.realign (b : Block) : Block :=
  let a := b.alignedNow
  if a == b.time.aligned then b
  else ((b.modTime (fun t => { t with aligned := a })).advanceEpoch 3).raise 64 18

/-! ### Strobes -/

/-- A tap is able to take a strobe (R518). -/
def Block.able (b : Block) (t : Nat) : Bool :=
  (b.tap t).en && b.regionState (b.regionOfTap t) != 2 && !(b.view t).down

/-- Numbers of the strobes whose marks a tap may still hold: on their way, pending, or in the chain (R136). -/
def Tap.strobesHeld (t : Tap) : List Nat :=
  t.strobes.map Prod.fst ++ (match t.pAnchor with | some a => [a.1] | none => []) ++
    (t.chain.filter (fun e => e.cls == clsAnchor)).map (fun e => e.strobe)

/-- Drops the TIME packets that no tap of the station can still need (R136). -/
def Block.prunePkts (b : Block) (st : Nat) : Block :=
  let held := ((b.taps.filter (fun e => stOf e.1 == st)).map (fun e => e.2.strobesHeld)).flatten
  b.modStation st (fun s => { s with pkts := s.pkts.filter (fun p => held.contains p.num) })

/-- Causes whose TIME packet is written eagerly (R122). -/
def eagerCause (c : Nat) : Bool := c == 1 || c == 2 || c == 4 || c == 6 || c == 7

/-- Writes an eager TIME packet in a stream and notes it as the latest with its `SEQ` (R122, R136). -/
def Block.timeTo (b : Block) (st o : Nat) (p : TimePkt) : Block :=
  (b.markerTo st o (timePacket (b.fmt2Of o) p)).modStation st (fun s =>
    { s with stime := tset 0 s.stime (skey o p.seq) p.num })

/-- The strobe to the taps able to take it, and its TIME packet (R43, R44, R518). -/
def Block.issueStrobe (b : Block) (st cause : Nat) (able : List Nat) (step : Int) : Block :=
  let s := b.station st
  let p : TimePkt :=
    { num := b.time.strobeNum, seq := s.seqNo, cause := cause, gt := b.gt, epoch := b.alEpoch, lb := b.lbByte,
      fb := b.fbByte, strobed := maskOf (able.map (· % 64)), step := step }
  let b := b.modTime (fun t => { t with strobeNum := t.strobeNum + 1 })
  let b := b.each able (fun b t => b.modTap t (fun x => { x with strobes := x.strobes ++ [(p.num, p.seq)] }))
  let b := (b.prunePkts st).modStation st (fun s => { s with
    seqNo := (s.seqNo + 1) % 64
    pkts := s.pkts ++ [p]
    unitsSince := 0 })
  if eagerCause cause then b.each (b.eagerStreams st) (fun b o => b.timeTo st o p) else b

/-- A new PERIOD interval begins (R122, R123). -/
def Block.newInterval (b : Block) (st : Nat) : Block :=
  b.modStation st (fun s => { s with lastPeriod := b.gt, livePrev := s.liveNow, liveNow := [] })

/-- An anchor strobe of a station (R43): a strobe of cause PERIOD, STRETCH_TICK, WAKE_REQ or CAL that would reach no
tap able to take it is not issued (R518). BLOCK_WAKE and STEP strobes begin a new PERIOD interval (R123). -/
def Block.strobe (b : Block) (st cause : Nat) (taps : List Nat) (step : Int) : Block :=
  let able := taps.filter b.able
  if able.isEmpty && !eagerCause cause then b
  else if cause = 6 || cause = 7 then (b.issueStrobe st cause able step).newInterval st
  else b.issueStrobe st cause able step

/-- A strobe to a region, whose time the station keeps (R43, R123).
DEDUCED, log entry 13; DESIGN CHOICE, log entry 80. -/
def Block.regionStrobe (b : Block) (st cause region : Nat) : Block :=
  let taps := (tapsOf st).filter (fun t => b.regionOfTap t == region)
  (b.strobe st cause taps 0).modStation st (fun s => { s with regionStrobe := tput s.regionStrobe region b.gt })

/-- The TCAL refresh of every 64th PERIOD strobe (R142). -/
def Block.tcalRefresh (b : Block) (st : Nat) : Block :=
  b.modStation st (fun s => { s with
    periods := s.periods + 1
    stap := if (s.periods + 1) % 64 = 0 then tmap {} s.stap (fun _ x => { x with tcalDue := true }) else s.stap })

/-- The PERIOD strobe (R43, R119, R123, R518): it omits the taps of a region strobed within the last 16 brew cycles;
issued, it closes every open unit; unissued, it restarts the interval only.
DEDUCED, log entry 13; DESIGN CHOICE, log entry 88. -/
def Block.periodStrobe (b : Block) (st : Nat) : Block :=
  let s := b.station st
  let recent := (s.regionStrobe.filter (fun e => decide (b.gt ≤ e.2 + b.cycles 16))).map Prod.fst
  let taps := ((tapsOf st).filter (fun t => !recent.contains (b.regionOfTap t))).filter b.able
  if taps.isEmpty then b.newInterval st
  else ((b.issueStrobe st 0 taps 0).closeAll st |>.newInterval st).tcalRefresh st

/-- Strobes of cause STEP at every station after the epoch advance of a step (R34). -/
def Block.stepStrobes (b : Block) (step : Int) : Block :=
  b.each allStations (fun b st => b.strobe st 7 (tapsOf st) step)

/-- Strobes of cause BLOCK_WAKE at every station (R43). DEDUCED, log entry 53. -/
def Block.wakeStrobes (b : Block) : Block := b.each allStations (fun b st => b.strobe st 6 (tapsOf st) 0)

/-- A measurement of `d_tap` (R46): half the mean of 16 round trips, whose sum is given, plus `a_tap`. One that differs from the entry in use by more than
0.125 ns is written, advances the epoch and strobes the tap with cause CAL. DESIGN CHOICE, log entries 25 and 51. -/
def Block.measureTap (b : Block) (t trips : Nat) : Block :=
  let v := b.view t
  let d : Int := (trips / 32 : Nat) + v.aTap
  if (d - v.dTap).natAbs > 32 then
    let b := b.modView t (fun v => { v with dTap := d, measured := true })
    let b := b.modStation (stOf t) (fun s => { s with
      stap := tmap {} s.stap (fun k x => if k % 64 == t % 64 then { x with tcalDue := true } else x) })
    (b.advanceEpoch 1).strobe (stOf t) 8 [t] 0
  else b.modView t (fun v => { v with measured := true })

end Sys2Proof.Machine
end

