-- ==== Sys2Proof/Machine/Trigger.lean ====
section
/-! DEFINITION. The trigger sequencer (R104 to R114): comparators, conditions, transitions, the Brim trigger, and the
commands by which events reach the comparators. -/

namespace Sys2Proof.Machine

/-- What a comparator looks at (R107): the source code, the sub-selection (class for a tap item), the field, and for a
tap item its station-local tap and context. -/
structure CmpIn where
  source : Nat
  subsel : Nat
  field : Nat
  tap : Nat := 0
  ctx : Nat := 0
  deriving DecidableEq, Repr

def Comp.word (c : Comp) (i : Nat) : Word := c.w.getD i 0
def Comp.value (c : Comp) : Nat := (c.word 2).toNat + 2 ^ 32 * fld (c.word 3) 0 16
def Comp.mask (c : Comp) : Nat := (c.word 4).toNat + 2 ^ 32 * fld (c.word 5) 0 16
def Comp.enabled (c : Comp) : Bool := bit (c.word 0) 0
def Comp.latchOn (c : Comp) : Bool := bit (c.word 0) 1
def Comp.mode (c : Comp) : Nat := fld (c.word 0) 2 2
def Comp.source (c : Comp) : Nat := fld (c.word 0) 4 4

/-- The comparator matches the event (R107). A TIMER comparator matches no event of another source.
DEDUCED, log entry 11. -/
def Comp.matches (c : Comp) (e : CmpIn) : Bool :=
  c.enabled && c.source == e.source && decide (e.source < 5) && (e.field &&& c.mask) == (c.value &&& c.mask) &&
    (if e.source = 0 then
      fld (c.word 0) 8 4 == e.subsel && decide (fld (c.word 0) 16 6 ≤ e.tap) && decide (e.tap ≤ fld (c.word 0) 22 6) &&
        decide (fld (c.word 1) 0 12 ≤ e.ctx) && decide (e.ctx ≤ fld (c.word 1) 12 12)
     else if e.source = 1 || e.source = 2 then fld (c.word 0) 12 4 == e.subsel
     else true)

/-- One comparator after an event: whether its output is true for it, and its new count and latch (R108). -/
def Comp.update (c : Comp) (e : CmpIn) : Bool × Comp :=
  let m := c.matches e
  let th := max 1 (fld (c.word 3) 16 16)
  let r : Bool × Comp :=
    if !m then (false, c)
    else if c.mode = 0 then (true, c)
    else if c.mode = 1 then
      (if c.count + 1 ≥ th then (true, { c with count := 0 }) else (false, { c with count := c.count + 1 }))
    else (false, c)
  (r.1 || (r.2.latched && c.enabled), { r.2 with latched := r.2.latched || (r.1 && c.latchOn) })

/-- A TIMER comparator whose `gt` is reached (R108): true once after the last state change. DEDUCED, log entry 11. -/
def Comp.timerDue (c : Comp) (gt : Gt) : Bool :=
  c.enabled && c.mode == 2 && c.source == 5 && !c.once &&
    decide ((gt / 256 % 2 ^ 48 + 2 ^ 48 - c.value % 2 ^ 48) % 2 ^ 48 < 2 ^ 47)

/-- The mask of true outputs after an event, and the sequencer with its comparators updated. -/
def Sequencer.update (q : Sequencer) (e : CmpIn) : Nat × Sequencer :=
  let r := (upto 8).map (fun k => (k, (tget {} q.comps k).update e))
  (maskOf ((r.filter (fun x => x.2.1)).map Prod.fst),
    { q with comps := r.foldl (fun t x => tset {} t x.1 x.2.2) q.comps })

/-- The outputs that are latched. -/
def Sequencer.latchedMask (q : Sequencer) : Nat :=
  maskOf ((q.comps.filter (fun e => e.2.latched && e.2.enabled)).map Prod.fst)

/-- A condition over the outputs (R109): an empty mask is never true. -/
def condTrue (mask : Nat) (all : Bool) (outs : Nat) : Bool :=
  mask != 0 && (if all then (mask &&& outs) == mask else (mask &&& outs) != 0)

/-- What an event makes the sequencer do (R111). -/
inductive SeqAct where
  | none | start | trigger | stop | hold | rearm | ignored
  deriving DecidableEq, Repr

/-- The first row of R111 that applies in the current state. -/
def Sequencer.choose (q : Sequencer) (outs : Nat) : SeqAct :=
  match q.st with
  | .idle => if condTrue q.startMask q.startAnd outs then .start else .none
  | .armed =>
    if condTrue q.trigMask q.trigAnd outs then .trigger
    else if condTrue q.stopMask q.stopAnd outs then .stop else .none
  | .post =>
    if condTrue q.stopMask q.stopAnd outs then .hold
    else if condTrue q.trigMask q.trigAnd outs then .ignored else .none
  | .hold =>
    if q.autoRearm && condTrue q.rearmMask q.rearmAnd outs then .rearm
    else if condTrue q.trigMask q.trigAnd outs then .ignored else .none

/-- The state that an act leads to. -/
def SeqAct.next (a : SeqAct) (s : SeqState) : SeqState :=
  match a with
  | .none | .ignored => s
  | .start | .rearm => .armed
  | .trigger => .post
  | .stop => .idle
  | .hold => .hold

def Block.modSeq (b : Block) (st : Nat) (f : Sequencer → Sequencer) : Block :=
  b.modStation st (fun s => { s with seq := f s.seq })

/-- The trigger (R112, R164): the owner's open units close, the Brim marker is written in a unit of its own at level 3,
the post count is loaded, the TRIGGER vector raised, the cask makes room, and a cross trigger leaves (R113). -/
def Block.trigger (b : Block) (st source tap mask : Nat) (gt : Gt) : Block :=
  let o := (b.station st).seq.owner
  let b := (b.alignTo st o).closeOwner st o
  let b := b.modSeq st (fun q => { q with trigCount := satAdd 32 q.trigCount 1 })
  let b := b.place st o 3 (brimPacket source tap mask st (b.station st).seq.trigCount gt) none true
  let b := b.modSeq st (fun q => { q.goto .post with postLeft := q.postUnits })
  let q := (b.station st).seq
  let b := (b.raise o 4).caskTrigger o q.postUnits
  if q.xtrigOut then
    let due := b.gt + b.cycles 16
    b.each (allStations.filter (fun s => s != st)) (fun b s => b.modStation s (fun x => { x with
      events := x.events ++ [{ source := 4, subsel := 0, field := st, gt := gt, owner := o, due := due }] }))
  else b

/-- A hold of the owner ends because one of its sequencers re-arms (R169). -/
def Block.rearm (b : Block) (st : Nat) : Block :=
  let o := (b.station st).seq.owner
  (b.modSeq st (fun q => q.goto .armed)).holdEnd o

/-- Carries out an act of the sequencer (R111), unless its state has moved since the act was chosen.
DEDUCED, log entry 10. -/
def Block.seqAct (b : Block) (st : Nat) (a : SeqAct) (was : SeqState) (source tap mask : Nat) (gt : Gt) : Block :=
  if (b.station st).seq.st != was then b
  else
    match a with
    | .none => b
    | .ignored => b.modSeq st (fun q => { q with trigIgnored := satAdd 32 q.trigIgnored 1 })
    | .start => b.modSeq st (fun q => q.goto .armed)
    | .stop => b.modSeq st (fun q => q.goto .idle)
    | .hold => b.enterHold st
    | .rearm => b.rearm st
    | .trigger => b.trigger st source tap mask gt

/-- An event of a source other than TAP_ITEM at a station's comparators (R110): evaluated only while `SEQ_EN` is 1.
DEDUCED, log entry 10. -/
def Block.seqEvent (b : Block) (st : Nat) (e : CmpIn) (gt : Gt) : Block :=
  let q := (b.station st).seq
  if !q.en then b
  else
    let r := q.update e
    (b.modSeq st (fun _ => r.2)).seqAct st (r.2.choose r.1) q.st e.source 0 r.1 gt

/-- An event offered to the comparators of every station whose sequencer belongs to an owner that may see it; the
operator's sees every event (R105). -/
def Block.offerEvent (b : Block) (e : CmpIn) (gt : Gt) (sees : Nat → Bool) : Block :=
  b.each ((b.stations.filter (fun x => x.2.seq.en && (x.2.seq.owner == 64 || sees x.2.seq.owner))).map Prod.fst)
    (fun b st => b.seqEvent st e gt)

/-- Puts an event on its way to the comparators of the stations that may see it (R238). DESIGN CHOICE, log entry 64. -/
def Block.sendEvent (b : Block) (ev : CmpEvent) : Block :=
  b.each ((b.stations.filter (fun x => x.2.seq.owner == 64 || x.2.seq.owner == ev.owner)).map Prod.fst)
    (fun b st => b.modStation st (fun s => { s with events := s.events ++ [ev] }))

/-- Of the waiting events that have arrived, the one that the sequencer takes first: cycle by cycle, and in one cycle in
ascending order of the source code and then of the field compared (R110). DESIGN CHOICE, log entry 90. -/
def Station.firstEvent (s : Station) (gt : Gt) : Option CmpEvent :=
  (sortBy (fun (x y : CmpEvent) => decide (x.due < y.due) || (x.due == y.due &&
    (decide (x.source < y.source) || (x.source == y.source && decide (x.field < y.field)))))
    (s.events.filter (fun e => decide (e.due ≤ gt)))).head?

/-- The event that the sequencer takes next, when it is one of a source (R110). -/
def Station.nextEvent (s : Station) (source : Nat) (gt : Gt) : Option CmpEvent :=
  (s.firstEvent gt).filter (fun e => e.source == source)

/-- The next waiting event of a source that has arrived reaches the comparators.
DESIGN CHOICE, log entries 64 and 90. -/
def Block.arrive (b : Block) (st source : Nat) : Block :=
  match (b.station st).nextEvent source b.gt with
  | none => b
  | some e =>
    let b := b.modStation st (fun s => { s with events := s.events.erase e })
    let o := (b.station st).seq.owner
    if o == e.owner || (o == 64 && source != 4) then
      b.seqEvent st { source := e.source, subsel := e.subsel, field := e.field } e.gt
    else b

/-- CROSS_TRIGGER_ARRIVAL (R113): 16 brew cycles after the trigger, the event reaches the comparators of the same owner
only. DESIGN CHOICE, log entry 64. -/
def execCrossTriggerArrival (st : Fin 32) (s : State) : Host.Outcome State Fault Refusal :=
  s.run (fun b => if b.running then b.arrive st 4 else b)

/-- ASSAY_EVENT_ARRIVAL (R238, R105): 8 brew cycles after the commit, a DRIFT, CLIP or ZERO_RANGE event reaches the comparators. -/
def execAssayEventArrival (st : Fin 32) (s : State) : Host.Outcome State Fault Refusal :=
  s.run (fun b => if b.running then b.arrive st 1 else b)

/-- SEQ_TIMER_FIRE (R108): a TIMER comparator's `gt` is reached and its output becomes true once.
DESIGN CHOICE, log entry 83. -/
def execSeqTimerFire (st : Fin 32) (cmp : Fin 8) (s : State) : Host.Outcome State Fault Refusal :=
  s.run (fun b =>
    let q := (b.station st).seq
    let c := tget {} q.comps cmp
    if b.running && q.en && c.timerDue b.gt then
      let c' := { c with once := true, latched := c.latched || c.latchOn }
      let q' := { q with comps := tset {} q.comps cmp c' }
      let outs := q'.latchedMask ||| 2 ^ cmp.val
      (b.modSeq st (fun _ => q')).seqAct st (q'.choose outs) q.st 5 0 outs b.gt
    else b)

end Sys2Proof.Machine
end

