-- ==== Sys2Proof/Machine/Records.lean ====
section
/-! DEFINITION. Records (R17, R143 to R145): building, the record inputs of the quadrants, the arbitration of the write
ports (R124), and the commands RECORD_OFFER, RECORD_FRAGMENT_ENTRY and QUADRANT_GRANT. -/

namespace Sys2Proof.Machine

/-- Quadrant that a record source feeds (R16, R144). -/
def recQuad (src : Nat) : Nat :=
  if src < 16 then src / 4 else if src = 16 then 0 else if src = 17 then 1 else if src = 18 then 2 else 3

/-- A record built now for an owner (R143): tagged with the owner's epoch and format version at build. -/
def Block.mkRec (b : Block) (source rtype owner interest : Nat) (bytes : List Byte) : Rec :=
  { source := source, rtype := rtype, owner := owner, interest := interest, epoch := b.epochOf owner,
    fmt2 := b.fmt2Of owner, bytes := bytes }

/-- Fragments of a record. -/
def Rec.frags (r : Rec) : Nat := cdiv r.bytes.length 56

/-- The record input of a quadrant has room for a record (R17): all its fragments, or 64 units; a record that has begun
to enter goes first. -/
def Quadrant.roomFor (q : Quadrant) (r : Rec) : Bool :=
  q.recTail.isEmpty && decide (q.recIn.length + min r.frags 64 ≤ 64)

/-- Offers a record to its record input, which takes it whole or discards and counts it (R17). DEDUCED, log entry 15. -/
def Block.offerRec (b : Block) (r : Rec) : Block :=
  let q := recQuad r.source
  let n := tget 0 (b.tenant r.owner).rseq r.source
  let us := r.units n
  let ok := (b.quad q).roomFor r
  let b := b.modTenant r.owner (fun t => { t with rseq := tset 0 t.rseq r.source ((n + 1) % 2 ^ 16) })
  if ok then
    b.modQuad q (fun x => { x with recIn := x.recIn ++ us.take 64, recTail := us.drop 64 })
  else
    (b.modPower (fun p => { p with recLost := tmod 0 p.recLost r.source (fun c => satAdd 32 c 1) })).loss 4

/-- Keeps a built record until its source offers it (RECORD_OFFER). -/
def Block.queueRec (b : Block) (r : Rec) : Block := { b with recs := b.recs ++ [r] }

/-- RECORD_OFFER (R17): the oldest built record of a source is offered. -/
def execRecordOffer (src : RecSrc) (s : State) : Host.Outcome State Fault Refusal :=
  s.run (fun b =>
    match b.recs.find? (fun r => r.source == src.val) with
    | some r => if b.running then ({ b with recs := b.recs.erase r } : Block).offerRec r else b
    | none => b)

/-- RECORD_FRAGMENT_ENTRY (R17): the next fragment of a begun record enters freed room, one unit per brew cycle. -/
def execRecordFragmentEntry (q : Fin 4) (s : State) : Host.Outcome State Fault Refusal :=
  s.run (fun b =>
    let x := b.quad q
    match x.recTail with
    | u :: t =>
      if b.running && decide (x.recIn.length < 64) then
        b.modQuad q (fun x => { x with recIn := x.recIn ++ [u], recTail := t })
      else b
    | [] => b)

/-! ### Arbitration (R124) -/

/-- Stations of a quadrant, from the one after `rr`, as local numbers 0 to 7. -/
def rrOrder (rr : Nat) : List Nat := (upto 8).map (fun i => (rr + 1 + i) % 8)

/-- The owner of the head unit of a station's queue. -/
def Block.headOwner (b : Block) (q l : Nat) : Option Nat := (b.station (8 * q + l)).uq.head?.map (fun u => u.owner)

/-- Credit of an owner in a quadrant. It can fall below zero only for owners of weight 0, which stay at 0 here. -/
def Quadrant.creditOf (q : Quadrant) (o : Nat) : Nat := tget 0 q.credit o

/-- Credits set to the weights: the round is finished for every waiting owner (R124). -/
def Block.resetCredits (b : Block) (q : Nat) : Block :=
  let full := (upto 65).foldl (fun t o => tset 0 t o (b.tenant o).qos) []
  b.modQuad q (fun x => { x with credit := full })

/-- The station with the largest credit, the first after `rr` on a tie; or the first after `rr` when no waiting owner
has credit. `cands` is in round-robin order. -/
def Block.pickStation (b : Block) (q : Nat) : List Nat → Option Nat
  | [] => none
  | c :: cs =>
    let cr := fun l => (b.quad q).creditOf ((b.headOwner q l).getD 64)
    some (cs.foldl (fun m l => if cr m < cr l then l else m) c)

/-- Grants up to `n` ports to station heads, each station at most once (R124). -/
def grantPorts : Nat → Block → Nat → List Nat → Block
  | 0, b, _, _ => b
  | n + 1, b, q, done =>
    let cands := (rrOrder (b.quad q).rr).filter (fun l => (b.headOwner q l).isSome && !done.contains l)
    let any := fun (b : Block) => cands.any (fun l => decide ((b.quad q).creditOf ((b.headOwner q l).getD 64) > 0))
    let b := if cands.isEmpty || any b then b else b.resetCredits q
    match b.pickStation q cands with
    | none => b
    | some l =>
      match (b.station (8 * q + l)).uq with
      | [] => b
      | u :: us =>
        let b := b.modStation (8 * q + l) (fun s => { s with uq := us })
        let b := b.modQuad q (fun x => { x with credit := tmod 0 x.credit u.owner (· - 1), rr := l })
        grantPorts n (b.admitUnit u) q (l :: done)

/-- A Done freeze slot becomes Free once none of its records waits in quadrant 3 (R291). DEDUCED, log entry 23. -/
def Block.freeFreezes (b : Block) : Block :=
  let us := ((b.quad 3).recIn ++ (b.quad 3).recTail).filter (fun u => u.source == 19)
  { b with freezes := tmap {} b.freezes (fun _ f =>
    if f.st == .done && !us.any (fun u => f.recs.contains (u.owner, u.seqNo)) then {} else f) }

/-- QUADRANT_GRANT (R16, R124, R153): one brew cycle of a quadrant's four ports, the record input first; not before the
self-test has fenced the failed macros (R179). DEDUCED, log entry 23. -/
def execQuadrantGrant (q : Fin 4) (s : State) : Host.Outcome State Fault Refusal :=
  s.run (fun b =>
    if !b.running || b.power.quiesce || b.power.st == .off || b.power.phase < 4 then b
    else
      match (b.quad q).recIn with
      | u :: us => (grantPorts 3 ((b.modQuad q (fun x => { x with recIn := us })).admitUnit u) q []).freeFreezes
      | [] => (grantPorts 4 b q []).freeFreezes)

/-! ### Age of pages -/

/-- STREAM_FLUSH_EXPIRY (R157): an Open page of a Stream owner that has taken no unit for `STREAM_FLUSH` closes. -/
def execStreamFlushExpiry (owner : Fin 65) (interest : Fin 4) (s : State) : Host.Outcome State Fault Refusal :=
  s.run (fun b =>
    match b.openPage owner interest with
    | some p =>
      let t := b.tenant owner
      if b.running && t.mode == 2 && decide ((b.page p).lastUnit + us t.flushUs ≤ b.gt) then b.closePage p else b
    | none => b)

/-- The patrol begins a pass when a `PATROL_PERIOD` has gone by since the last one began (R177). -/
def Block.patrolPass (b : Block) : Block :=
  if b.cask.patrolGt + ms b.cask.patrolMs ≤ b.gt then b.modCask (fun c => { c with patrolGt := b.gt, patrolPos := 0 }) else b

/-- PATROL_SLICE (R176 to R178): the patrol reads one written slot, each once in a pass, in ascending order; a single-bit
error is corrected and counted, a double-bit error fences the macro. DESIGN CHOICE, log entry 71. -/
def execPatrolSlice (macroNo : Fin 512) (page : Fin 16) (slot : Fin 64) (bitErrors : Fin 3) (s : State) :
    Host.Outcome State Fault Refusal :=
  s.run (fun b =>
    let n := 16 * macroNo.val + page.val
    let g := b.page n
    if !b.running || g.st == .free || g.st == .fenced || decide (g.slots.length ≤ slot.val) then b
    else
      let b := b.patrolPass
      if 64 * n + slot.val < b.cask.patrolPos then b
      else
        let b := b.modCask (fun c => { c with patrolPos := 64 * n + slot.val + 1 })
        if bitErrors = 1 then b.countFixed macroNo
        else if bitErrors = 2 then (b.noteBad n slot).fenceMacro macroNo
        else b)

end Sys2Proof.Machine
end

