-- ==== Sys2Proof/Machine/Mash.lean ====
section
/-! DEFINITION. Stall attribution (07_mash_attribution): blame chains, segments, charge steps, loop windows, bank swap,
scans and deadlines. The loop record itself is in LoopRec. -/

namespace Sys2Proof.Machine

/-! ### Tables (R180, R181, R193) -/

def Block.amap (b : Block) (t : Nat) : Word := tget 0 b.mash.agentMap t
/-- Reset value of an agent table entry: `A_OWNER` 64 (R181). -/
def agentReset : Word := 0x80#32
def Block.agent (b : Block) (a : Nat) : Word := tget agentReset b.mash.agents a
def mapAgent (w : Word) : Nat := fld w 0 7
def mapEn (w : Word) : Bool := bit w 7
/-- `WEIGHT`; 0 acts as 1 (R180). -/
def mapWeight (w : Word) : Nat := max 1 (fld w 8 7)
def aEn (w : Word) : Bool := bit w 0
def aOwner (w : Word) : Nat := fld w 1 7
def aLoop (w : Word) : Nat := fld w 8 4
def aLooped (w : Word) : Bool := bit w 12

def LoopSlot.word (s : LoopSlot) (i : Nat) : Word := s.w.getD i 0
def LoopSlot.en (s : LoopSlot) : Bool := bit (s.word 0) 0
def LoopSlot.int8 (s : LoopSlot) : Bool := bit (s.word 0) 1
def LoopSlot.wsrc (s : LoopSlot) : Bool := bit (s.word 0) 2
def LoopSlot.dlInt (s : LoopSlot) : Bool := bit (s.word 0) 3
def LoopSlot.interest (s : LoopSlot) : Nat := fld (s.word 0) 4 2
def LoopSlot.opCopy (s : LoopSlot) : Bool := bit (s.word 0) 6
def LoopSlot.owner (s : LoopSlot) : Nat := fld (s.word 0) 7 7
def LoopSlot.loopId (s : LoopSlot) : Nat := fld (s.word 1) 0 8
def LoopSlot.loopTap (s : LoopSlot) : Nat := fld (s.word 1) 8 11
def LoopSlot.deadlineNs (s : LoopSlot) : Nat := (s.word 2).toNat
def LoopSlot.periodNs (s : LoopSlot) : Nat := (s.word 3).toNat
def LoopSlot.minNs (s : LoopSlot) : Nat := (s.word 4).toNat

/-- The rows of a loop slot: agents in use that follow it. -/
def Block.rowsOf (b : Block) (slot : Nat) : List Nat :=
  (b.mash.agents.filter (fun e => aEn e.2 && aLooped e.2 && aLoop e.2 == slot)).map Prod.fst

/-- Taps mapped to an agent (n_i of R203 counts them). -/
def Block.tapsIn (b : Block) (a : Nat) : List Nat :=
  (b.mash.agentMap.filter (fun e => mapEn e.2 && mapAgent e.2 == a)).map Prod.fst

/-! ### Blame (R185 to R187, R253) -/

def cMem : Nat := 0x80
def cFetch : Nat := 0x81
def cThrottle : Nat := 0x82
def cUnresolved : Nat := 0x83
def cCycle : Nat := 0x84
def cForeign : Nat := 0xFE

/-- The signaller of an object (R253). -/
def Obj.signaller (x : Obj) : Option Nat :=
  if !x.sigValid then none else if x.kind = 2 && x.sigArrived then none else some x.sig

def Block.wait (b : Block) (t : Nat) : TapWait := tget {} b.sync.waits t

/-- The tap is stalled by its last E STATE item. -/
def Block.stalled (b : Block) (t : Nat) : Bool :=
  match (b.view t).est with
  | some (s, _) => s == 2
  | none => false

/-- The tap is blocked (R185); after a loss it counts as not blocked until its next S or E STATE item (R214). -/
def Block.blocked (b : Block) (t : Nat) : Bool := !(b.view t).quiet && ((b.wait t).valid || b.stalled t)

/-- The tap to blame (R186). DEDUCED, log entry 77. -/
def Block.link (b : Block) (t : Nat) : Option Nat :=
  if !b.blocked t then none
  else if (b.wait t).valid then (b.obj (b.wait t).obj).signaller
  else
    match (b.view t).est with
    | some (_, _, true, c) => some c
    | _ => none

/-- The cause of a blocked tap without a link (R186). DEDUCED, log entry 77. -/
def Block.ownCause (b : Block) (t : Nat) : Nat :=
  if (b.wait t).valid then cUnresolved
  else
    match (b.view t).est with
    | some (_, r, _, _) =>
      if r = 1 || r = 3 then cMem else if r = 5 then cFetch else if r = 6 then cThrottle
      else if 0x20 ≤ r then tget cUnresolved b.mash.reasons (r - 0x20)
      else cUnresolved
    | none => cUnresolved

/-- `agent_code` (R187). -/
def Block.agentCode (b : Block) (t : Nat) : Nat :=
  let m := b.amap t
  if mapEn m && aEn (b.agent (mapAgent m)) then mapAgent m else cUnresolved

/-- What a resolution found: the cause code, whether the chain closed on itself, whether it was cut at four links. -/
structure Cause where
  code : Nat
  cycle : Bool := false
  cut : Bool := false
  deriving DecidableEq, Repr

/-- One turn of the loop of `resolve` (R187): `fuel` links may still be followed; `chain` holds the taps visited. -/
def resolveFrom (b : Block) (t : Nat) : Nat → List Nat → Nat → Cause
  | fuel, chain, cur =>
    match b.link cur with
    | none =>
      if cur = t then { code := b.ownCause t }
      else
        let c := b.ownCause cur
        { code := if c = cUnresolved then b.agentCode cur else c }
    | some s =>
      if chain.contains s then { code := cCycle, cycle := true }
      else
        match fuel with
        | 0 => { code := b.agentCode cur, cut := true }
        | f + 1 => if !b.blocked s then { code := b.agentCode s } else resolveFrom b t f (s :: chain) s

/-- The cause of a blocked tap: four links at most (R187). -/
def Block.resolve (b : Block) (t : Nat) : Cause := resolveFrom b t 4 [t] t

/-! ### Charging (R182, R198) -/

/-- The row that the tap's blocked time is charged to, if any (R182). -/
def Block.chargeRow (b : Block) (t : Nat) : Option Nat :=
  let m := b.amap t
  let a := b.agent (mapAgent m)
  if mapEn m && aEn a && aLooped a && (aOwner a == 64 || (b.view t).tenant == some (aOwner a)) then some (mapAgent m)
  else none

/-- Ticks of 1.25 ns between two `gt` (R189). -/
def ticksOf (a e : Gt) : Nat := e / 320 - a / 320

/-- The select bit of a row (R199). -/
def Block.sel (b : Block) (row : Nat) : Nat := tget 0 b.mash.sel row

/-- Ticks of a stretch from `a` to `e` that fall in the iterations `l` (R196, R198). -/
def ticksIn (l : List (Gt × Gt)) (a e : Gt) : Nat :=
  (l.map (fun x => ticksOf (max a x.1) (min e x.2))).foldl (· + ·) 0

/-- Ticks of a stretch that fall in closed windows, last window first: those in the bank that the last close left, and
those in the other bank, which the closes take in turn (R199). -/
def pastTicks (a e : Gt) : List (List (Gt × Gt)) → Nat × Nat
  | [] => (0, 0)
  | w :: ws => (ticksIn w a e + (pastTicks a e ws).2, (pastTicks a e ws).1)

/-- The iterations of the open window, the present one up to `e` (R196). -/
def Window.spans (w : Window) (e : Gt) : List (Gt × Gt) := w.iters ++ (if w.inIter then [(w.openGt, e)] else [])

/-- The parts of a stretch from `a` to `e` that count for a row, by bank: of each window of its slot, the part in its
iterations, in the bank that was active then (R196, R198, R199). -/
def Block.pieces (b : Block) (row : Nat) (a e : Gt) : List (Nat × Nat) :=
  let s := b.slot (aLoop (b.agent row))
  let p := pastTicks a e s.past
  let now := match s.win with
    | some w => ticksIn (w.spans e) a e
    | none => 0
  [(1 - b.sel row, p.1), (b.sel row, p.2 + now)].filter (fun x => x.2 != 0)

/-- A part of a step before merging: row, bank, b_i, whether the row's mode is INT8, cause, start, ticks, coarse. -/
structure Part where
  row : Nat
  bank : Nat
  weight : Nat
  int8 : Bool
  cause : Nat
  start : Gt
  ticks : Nat
  coarse : Bool
  deriving DecidableEq, Repr

/-- The live part of tap `t`'s segment up to `e`, as (row, bank, ticks) (R198, R199). -/
def Block.livePieces (b : Block) (t : Nat) (g : Seg) (e : Gt) : List (Nat × Nat × Nat) :=
  if !g.live then []
  else
    match b.chargeRow t with
    | none => []
    | some row => (b.pieces row g.start e).map (fun p => (row, p.1, p.2))

/-- The parts that the end of tap `t`'s segment at `e` gives: those of a held segment that ended before (R192), and the
live one. -/
def Block.partsOf (b : Block) (t : Nat) (g : Seg) (e : Gt) : List Part :=
  (g.acc ++ b.livePieces t g e).map (fun p =>
    let s := b.slot (aLoop (b.agent p.1))
    { row := p.1, bank := p.2.1, weight := if s.int8 then mapWeight (b.amap t) else 1, int8 := s.int8, cause := g.cause,
      start := g.start, ticks := p.2.2, coarse := g.coarse })

/-- Whether a part may join a step being formed: it shares cause, start and ticks, and in EVENT mode comes from another
agent (R190). -/
def Part.joins (p : Part) (x : Gt × Step) : Bool :=
  x.1 == p.start && x.2.cause == p.cause && x.2.ticks == p.ticks && x.2.coarse == p.coarse &&
    (p.int8 || !(x.2.rows.any (fun r => r.1 == p.row)))

/-- Adds a part's row to a step: INT8 weights of one agent add up to 127 at most (R190). -/
def Step.addRow (s : Step) (p : Part) : Step :=
  if s.rows.any (fun r => r.1 == p.row && r.2.1 == p.bank) then
    { s with rows := s.rows.map (fun r =>
        if r.1 = p.row && r.2.1 = p.bank then (r.1, r.2.1, min 127 (r.2.2 + p.weight)) else r) }
  else { s with rows := s.rows ++ [(p.row, p.bank, min 127 p.weight)] }

/-- Merges parts into steps (R190). -/
def mergeParts : List (Gt × Step) → List Part → List (Gt × Step)
  | acc, [] => acc
  | acc, p :: ps =>
    match acc.findIdx? p.joins with
    | some i => mergeParts (acc.modify i (fun x => (x.1, x.2.addRow p))) ps
    | none => mergeParts (acc ++ [(p.start, (Step.mk [] p.cause p.ticks p.coarse).addRow p)]) ps

/-- The steps being formed fit in the step queue, which has not been full since space was last given back (R192). -/
def Block.stepsFit (b : Block) (steps : List (Gt × Step)) : Bool :=
  !b.mash.stepFull && decide (b.mash.stepQ.length + steps.length ≤ 1024)

/-- Queues the steps formed. -/
def queueSteps (x : List (Gt × Step) × Block) : Block :=
  x.2.modMash (fun m => { m with stepQ := m.stepQ ++ x.1.map Prod.snd })

/-- The segment of a tap, or none. -/
def Block.putSeg (b : Block) (t : Nat) (x : Option Seg) : Block :=
  b.modMash (fun m => { m with segs := match x with | some v => tput m.segs t v | none => tdel m.segs t })

/-- The segment of a tap has ended at `g`, and the next begins no earlier (R188). -/
def Block.noteEnd (b : Block) (t : Nat) (g : Gt) : Block :=
  b.modMash (fun m => { m with segEnd := tmod 0 m.segEnd t (fun x => max x g) })

/-- Adds ticks to the ended parts of a held segment, one entry for a row and bank. -/
def addAcc (l : List (Nat × Nat × Nat)) (p : Nat × Nat × Nat) : List (Nat × Nat × Nat) :=
  if l.any (fun x => x.1 == p.1 && x.2.1 == p.2.1) then
    l.map (fun x => if x.1 = p.1 && x.2.1 = p.2.1 then (x.1, x.2.1, x.2.2 + p.2.2) else x)
  else l ++ [p]

/-- With the step queue full, a segment that would end at `g` stays open (R192): what has passed is kept by row and bank,
and `c` is the cause from `g` on (`none`: not blocked or not charged). -/
def Block.holdSeg (b : Block) (t : Nat) (s : Seg) (g : Gt) (c : Option Nat) : Block :=
  let acc := (b.livePieces t s g).foldl addAcc s.acc
  let x : Seg := { start := max s.start g, cause := c.getD s.cause, coarse := true, acc := acc, live := c.isSome }
  ((b.putSeg t (if acc.isEmpty && c.isNone then none else some x)).noteEnd t (max s.start g)).modMash (fun m =>
    { m with stepFull := true })

/-- Notes what resolutions found in the record of the row's window (R187). -/
def Block.noteCause (b : Block) (t : Nat) (c : Cause) : Block :=
  if !c.cycle && !c.cut then b
  else
    match b.chargeRow t with
    | none => b
    | some row => b.modSlot (aLoop (b.agent row)) (fun s => { s with
        win := s.win.map (fun w => { w with cycle := w.cycle || c.cycle, cuts := satAdd 16 w.cuts (b2n c.cut) }) })

/-- The taps that may hold or need a segment. -/
def Block.segTaps (b : Block) : List Nat :=
  (b.mash.segs.map Prod.fst) ++
    ((b.sync.waits.filter (fun e => e.2.valid)).map Prod.fst ++
      (b.views.filter (fun e => match e.2.est with | some (s, _) => s == 2 | none => false)).map Prod.fst).filter
        (fun t => !(b.mash.segs.map Prod.fst).contains t)

/-- The segment of a tap whose cause is `c` from `g` on (`none`: not blocked or not charged): the parts that end join the
steps being formed while those fit in the queue, and the new segment begins, no earlier than the tap's last one began or
ended (R188, R192). -/
def Block.reseg (b : Block) (steps : List (Gt × Step)) (t : Nat) (g : Gt) (c : Option Nat) : List (Gt × Step) × Block :=
  match b.mash.segs.find? (fun e => e.1 == t), c with
  | none, none => (steps, b)
  | none, some c => (steps, b.putSeg t (some { start := max (tget 0 b.mash.segEnd t) g, cause := c }))
  | some (_, s), c =>
    if !s.coarse && c == some s.cause then (steps, b)
    else
      let steps' := mergeParts steps (b.partsOf t s g)
      if !s.coarse && b.stepsFit steps' then
        (steps', (b.putSeg t (c.map (fun c => { start := max s.start g, cause := c }))).noteEnd t (max s.start g))
      else (steps, b.holdSeg t s g c)

/-- Re-resolves every blocked tap at `g` (R188): segments end and begin, and the ended ones are issued as steps. -/
def Block.resolveAll (b : Block) (g : Gt) : Block :=
  queueSteps (b.segTaps.foldl (fun (a : List (Gt × Step) × Block) t =>
    let bl := a.2.blocked t && (a.2.chargeRow t).isSome
    let c := a.2.resolve t
    let b' := if bl then a.2.noteCause t c else a.2
    b'.reseg a.1 t g (if bl then some c.code else none)) ([], b))

/-- Cuts one segment at `g`: the part before is issued, or held with the queue full, and the segment goes on from `g`. -/
def Block.cutSeg (b : Block) (steps : List (Gt × Step)) (t : Nat) (s : Seg) (g : Gt) : List (Gt × Step) × Block :=
  let steps' := mergeParts steps (b.partsOf t s g)
  if !s.coarse && b.stepsFit steps' then (steps', b.putSeg t (some { s with start := max s.start g }))
  else (steps, b.holdSeg t s g (if s.live then some s.cause else none))

/-- Cuts every segment of the taps selected at `g`. -/
def Block.cutSegs (b : Block) (g : Gt) (which : Nat → Bool) : Block :=
  queueSteps ((b.mash.segs.filter (fun e => which e.1)).foldl (fun (a : List (Gt × Step) × Block) e =>
    a.2.cutSeg a.1 e.1 e.2 g) ([], b))

/-! ### Halo table (R207) -/

/-- Adds ticks to the entry of (row, stripe) in a bank's table of 256; a full table keeps no new pair. An entry that
has had no WAIT_END yet names the producer 0x83. DESIGN CHOICE, log entry 103. -/
def addHalo (l : List Halo) (row stripe ticks : Nat) (prod : Option Nat) : Option (List Halo) :=
  if l.any (fun h => h.row == row && h.stripe == stripe) then
    some (l.map (fun h => if h.row = row && h.stripe = stripe then
      { h with ticks := h.ticks + ticks, producer := prod.getD h.producer } else h))
  else if l.length < 256 then
    some (l ++ [{ row := row, stripe := stripe, ticks := ticks, producer := prod.getD cUnresolved }])
  else none

/-- The halo entry of (row, stripe) takes the producer of a wait that ended (R207). -/
def setProducer (l : List Halo) (row stripe prod : Nat) : List Halo :=
  l.map (fun h => if h.row = row && h.stripe = stripe then { h with producer := prod } else h)

/-- Ticks of a striped wait enter the halo table of a bank; a full table sets `HALO_MORE` (R207). A late part stays in the table
of the bank in which it lies, though its row has been read. DESIGN CHOICE, log entry 104. -/
def Block.addToHalo (b : Block) (row stripe : Nat) (prod : Option Nat) (p : Nat × Nat) : Block :=
  match addHalo (tget [] b.mash.halo p.1) row stripe p.2 prod with
  | some l => b.modMash (fun m => { m with halo := tset [] m.halo p.1 l })
  | none => b.modSlot (aLoop (b.agent row)) (fun s =>
      { s with win := s.win.map (fun w => { w with haloMore := true }) })

/-- The halo entry of a wait that ended takes its producer in the row's active bank, whatever its last ticks (R207). -/
def Block.setHaloProducer (b : Block) (row stripe : Nat) (prod : Option Nat) : Block :=
  match prod with
  | none => b
  | some p => b.modMash (fun m => { m with halo := tmod [] m.halo (b.sel row) (fun l => setProducer l row stripe p) })

/-- Adds the ticks of a striped wait of tap `t` up to `e` and keeps the wait's start at `e`; a tap that counts as not
blocked after a loss adds none (R207, R214). At a WAIT_END, `prod` becomes the producer of the wait's entry. -/
def Block.haloFlush (b : Block) (t : Nat) (e : Gt) (prod : Option Nat) : Block :=
  match b.mash.waitHalo.find? (fun x => x.1 == t), b.chargeRow t with
  | some (_, (a, stripe)), some row =>
    let b := b.each (if (b.view t).quiet then [] else b.pieces row a e) (fun b p => b.addToHalo row stripe prod p)
    (b.setHaloProducer row stripe prod).modMash (fun m => { m with waitHalo := tput m.waitHalo t (max a e, stripe) })
  | some (_, (a, stripe)), none => b.modMash (fun m => { m with waitHalo := tput m.waitHalo t (max a e, stripe) })
  | none, _ => b

/-- Flushes every striped wait of the taps selected. -/
def Block.haloCut (b : Block) (e : Gt) (which : Nat → Bool) : Block :=
  b.each ((b.mash.waitHalo.filter (fun x => which x.1)).map Prod.fst) (fun b t => b.haloFlush t e none)

/-! ### Losses (R29, R214) -/

/-- The end that a loss puts to what a tap was blocked in: its segment ends at the last item seen, and it counts as not
blocked until its next S or E STATE item (R214). DEDUCED, log entry 17. -/
def Block.lossEnd (b : Block) (t : Nat) : Block :=
  let g := (b.view t).lastSeen
  let b := (b.haloFlush t g none).modView t (fun v => { v with quiet := true })
  queueSteps (b.reseg [] t g none)

/-- The S items of a tap that wait in its quadrant's sync queue. -/
def Block.queuedS (b : Block) (t : Nat) : List SItem := (b.quad (quadOf (stOf t))).syncQ.filter (fun i => i.tap == t)

/-- The tap lost items at its chain, or an S item of it was not seen, at the instants `ls` (whether at the chain): they are
kept for the records of its loops (R29), and what it was blocked in ends at the last item seen, which may still wait in the
sync queue (R214). DEDUCED, log entry 17. -/
def Block.mashLoss (b : Block) (t : Nat) (ls : List (Gt × Bool)) : Block :=
  let b := b.modMash (fun m => { m with lossLog := tmod [] m.lossLog t (· ++ ls) })
  let n := (b.queuedS t).length
  if n = 0 then b.lossEnd t else b.modView t (fun v => { v with lossAfter := v.lossAfter ++ [n] })

/-- An item of the tap was seen at `g`. -/
def TapView.saw (v : TapView) (g : Gt) : TapView := { v with lastSeen := max v.lastSeen g }

/-- The next S or E STATE item of a tap that counted as not blocked comes at `g` (R214): a striped wait still open counts
again from there. DEDUCED, log entry 17. -/
def Block.unquiet (b : Block) (t : Nat) (g : Gt) : Block :=
  let b := if (b.view t).quiet then b.haloFlush t g none else b
  b.modView t (fun v => { v.saw g with quiet := false })

/-- An E STATE item of a tap whose loss still waits behind an S item in the sync queue takes the loss before it (R214):
the last item seen before the loss is that S item. -/
def Block.pullLoss (b : Block) (t : Nat) : Block :=
  match (b.view t).lossAfter.getLast? with
  | none => b
  | some n =>
    let g := match (b.queuedS t)[n - 1]? with | some i => i.gt | none => 0
    (b.modView t (fun v => { v.saw g with lossAfter := [] })).lossEnd t

/-- An S item of the tap has been applied: a loss that followed it acts now (R214). -/
def Block.afterItem (b : Block) (t : Nat) : Block :=
  let l := (b.view t).lossAfter
  let b := b.modView t (fun v => { v with lossAfter := (l.filter (fun n => decide (1 < n))).map (· - 1) })
  if l.contains 1 then b.lossEnd t else b

/-- The `gt` at which the open window began, corrected over steps (R62). -/
def Window.began (w : Window) : Gt := match w.iters with | x :: _ => x.1 | [] => w.openGt

/-- The losses of the taps of a slot's rows in its window up to `g`, whether their stations have moved them to the ledger or
not (R29). DEDUCED, log entry 17. -/
def Block.lossesIn (b : Block) (slot : Nat) (w : Window) (g : Gt) : List (Gt × Bool) :=
  ((((b.rowsOf slot).map b.tapsIn).flatten).map (fun t =>
    tget [] b.mash.lossLog t ++ (b.tap t).lossAt.map (fun x => (x, true)))).flatten.filter (fun x =>
      decide (w.began ≤ x.1) && decide (x.1 ≤ g))

/-! ### Windows (R195 to R199) -/

/-- The tap's most recent S or E item carries the context of tenant `o` from `g` on (R182): what was blocked before is
charged as before, and what is blocked from there on by the new tenant. -/
def Block.setTenant (b : Block) (t : Nat) (o : Option Nat) (g : Gt) : Block :=
  if (b.view t).tenant = o then b
  else
    let b := ((b.haloCut g (fun n => n == t)).cutSegs g (fun n => n == t)).modView t (fun v => { v with tenant := o })
    queueSteps (b.reseg [] t g (if b.blocked t && (b.chargeRow t).isSome then some (b.resolve t).code else none))

/-- Taps charged to a row of a slot. -/
def Block.tapOfSlot (b : Block) (slot t : Nat) : Bool :=
  match b.chargeRow t with
  | some row => aLoop (b.agent row) == slot
  | none => false

/-- Cuts the segments and striped waits of a slot's taps at `g`. -/
def Block.cutSlot (b : Block) (slot : Nat) (g : Gt) : Block :=
  (b.haloCut g (b.tapOfSlot slot)).cutSegs g (b.tapOfSlot slot)

/-- The iteration of the open window, if one runs, ends at `g`: ticks, miss and the deadline still to be decided (R203,
R208 to R210). -/
def LoopSlot.endIter (s : LoopSlot) (g : Gt) : LoopSlot :=
  match s.win with
  | none => s
  | some w =>
    if !w.inIter then s
    else
      let lateBy := match w.deadline with | some d => decide (d < g) | none => false
      { s with
        win := some { w with
          ticks := w.ticks + ticksOf w.openGt g
          iters := w.iters ++ [(w.openGt, g)]
          inIter := false
          miss := w.miss || lateBy
          earlyMiss := w.earlyMiss || (w.decided && !lateBy) }
        dlPend := match w.deadline with
          | some d => if lateBy && !w.decided then s.dlPend ++ [d] else s.dlPend
          | none => s.dlPend }

/-- The deadline of an iteration that opens at `g` (R208). -/
def LoopSlot.deadlineAt (s : LoopSlot) (g : Gt) : Option Gt :=
  if s.deadlineNs = 0 then none else some (g + s.deadlineNs * 256)

/-- A window opens at `g` with iteration number `n` (R195); ticks of late steps that came before it are its own. -/
def Block.openWindow (b : Block) (slot : Nat) (g : Gt) (n : Nat) : Block :=
  let b := b.cutSlot slot g
  let lw := tget (0, 0) b.mash.lateWait slot
  (b.modSlot slot (fun s => { s with
    deferred := none
    overDue := false
    win := some {
      openGt := g, firstGt := g, iterFirst := n, iterLast := n, deadline := s.deadlineAt g,
      late := lw.1, coarse := lw.2, coarseSeen := lw.2 != 0 } })).modMash
    (fun m => { m with lateWait := tset (0, 0) m.lateWait slot (0, 0) })

/-- A merged window goes on with the next iteration (R196). DEDUCED, log entry 16. -/
def Block.mergeWindow (b : Block) (slot : Nat) (g : Gt) (n : Nat) : Block :=
  let b := b.cutSlot slot g
  b.modSlot slot (fun s => { s with
    deferred := none
    win := s.win.map (fun w => { w with
      openGt := g, iterLast := n, deadline := s.deadlineAt g, inIter := true, merged := true, decided := false }) })

/-- The alignment epoch, residual bound and aligned state of a record that closes now (R61). -/
def Block.closeState (b : Block) : Nat × Nat × Bool := (b.alEpoch, b.recBound, b.time.aligned)

/-- A closed window's scan goes behind those before it; among closes in one Mash cycle, by slot (R200). -/
def addScan (s : Scan) (l : List Scan) : List Scan :=
  insertBy (fun x y => y.started.isNone && x.closeGt / 320 == y.closeGt / 320 && decide (x.slot < y.slot)) s l

/-- The close itself (R199, R200): the window leaves the slot and waits for its scan, the rows' select bits flip, and the
record takes a token, the one that came for the slot first (R196, R368). `cond` is what R61 puts into the record; the rows
and their tap counts are those of the cycle in which the token is taken. DESIGN CHOICE, log entry 106. -/
def Block.finishClose (b : Block) (slot : Nat) (g : Gt) (overlong : Bool) (cond : Nat × Nat × Bool) : Block :=
  match (b.slot slot).win with
  | none => b
  | some w =>
    let rows := (b.rowsOf slot).map (fun a => (a, (b.tapsIn a).length))
    let n := b.lossesIn slot w g
    let sc : Scan :=
      { slot := slot, win := { w with lossy := !n.isEmpty, lost := satTo 32 (n.filter Prod.snd).length }
        closeGt := g, overlong := overlong, rows := rows, banks := rows.map (fun r => (r.1, b.sel r.1))
        steps := b.mash.stepQ.length, epoch := cond.1, bound := cond.2.1, aligned := cond.2.2 }
    let held := (b.slot slot).token
    (b.modSlot slot (fun s => { s with
      win := none, deferred := none, overDue := false, past := w.iters :: s.past, waitGt := none, token := false })).modMash
      (fun m => { m with
        scans := addScan sc m.scans
        tokens := if held then m.tokens else m.tokens - 1
        sel := rows.foldl (fun t r => tset 0 t r.1 (1 - tget 0 t r.1)) m.sel })

/-- A close at `g` waits for a token (R368). -/
def LoopSlot.waitToken (s : LoopSlot) (g : Gt) : LoopSlot := { s with waitGt := some (s.waitGt.getD g) }

/-- A close falls due at `g` (R195): deferred when the window is too short or no token is held (R196).
DEDUCED, log entry 16. -/
def Block.closeWindow (b : Block) (slot : Nat) (g : Gt) (noEnd : Bool) : Block :=
  match (b.slot slot).win with
  | none => b
  | some w =>
    let b := (b.cutSlot slot g).modSlot slot (fun s =>
      let s := s.endIter g
      { s with win := s.win.map (fun w => { w with noEnd := w.noEnd || noEnd }) })
    let short := decide (g - w.firstGt < (b.slot slot).minNs * 256)
    let c := b.closeState
    if short then b.modSlot slot (fun s => { s with deferred := some (g, false, noEnd) })
    else if b.mash.tokens = 0 && !(b.slot slot).token then
      b.modSlot slot (fun s => { s.waitToken g with deferred := some (g, true, noEnd), closeCond := c })
    else b.finishClose slot g false c

/-- An ITER_BEGIN (R195). -/
def Block.iterBegin (b : Block) (slot : Nat) (g : Gt) (n : Nat) : Block :=
  match (b.slot slot).win with
  | none => b.openWindow slot g n
  | some w =>
    let b := if w.inIter then b.closeWindow slot g true else b
    if (b.slot slot).win.isSome then b.mergeWindow slot g n else b.openWindow slot g n

/-- An L item reaches the window logic (R194, R195, R208). -/
def Block.loopItem (b : Block) (tap : Nat) (p : Payload) (g : Gt) : Block :=
  let k := payKind p
  let id := fld p 36 8
  let v := fld p 0 32
  b.each ((b.mash.slots.filter (fun e =>
      e.2.en && !e.2.wsrc && e.2.loopTap == tap && e.2.loopId == id)).map Prod.fst) (fun b slot =>
    match (b.slot slot).win with
    | some w =>
      if k = 0 then b.iterBegin slot g v
      else if k = 1 then (if w.inIter then b.closeWindow slot g false else b)
      else if w.inIter then
        b.modSlot slot (fun s => { s with win := s.win.map (fun w => { w with deadline := some (w.openGt + v * 256) }) })
      else b
    | none => if k = 0 then b.iterBegin slot g v else b)

/-- LOOP_PERIOD_EXPIRY (R195, R196): a `WSRC` 1 window opens at its multiple of `PERIOD_NS`, or closes and the next
opens at the same `gt`. -/
def execLoopPeriodExpiry (slot : Fin 16) (s : State) : Host.Outcome State Fault Refusal :=
  s.run (fun b =>
    let x := b.slot slot
    if !b.running || !x.en || !x.wsrc then b
    else
      match x.win with
      | none =>
        match x.nextOpen with
        | some g =>
          if g ≤ b.gt then
            (b.modSlot slot (fun s => { s with nextOpen := none, winCount := (s.winCount + 1) % 2 ^ 32 })).openWindow
              slot g x.winCount
          else b
        | none => b
      | some w =>
        let e := w.openGt + x.periodNs * 256
        if b.gt < e then b
        else
          let b := (b.closeWindow slot e false).modSlot slot (fun s => { s with winCount := (s.winCount + 1) % 2 ^ 32 })
          if (b.slot slot).win.isSome then b.mergeWindow slot e x.winCount else b.openWindow slot e x.winCount)

/-- Closes a window with OVERLONG at `g`; a `WSRC` 1 slot opens its next window at once (R197). -/
def Block.closeOverlong (b : Block) (slot : Nat) (g : Gt) : Block :=
  let b := ((b.cutSlot slot g).modSlot slot (fun s => s.endIter g)).finishClose slot g true b.closeState
  let x := b.slot slot
  if x.wsrc then (b.openWindow slot g x.winCount).modSlot slot (fun s => { s with winCount := (s.winCount + 1) % 2 ^ 32 })
  else b

/-- WINDOW_OVERLONG (R197): a window open for 2²⁵ ticks closes; with an empty record budget it waits for a token
(R214). DEDUCED, log entry 16. -/
def execWindowOverlong (slot : Fin 16) (s : State) : Host.Outcome State Fault Refusal :=
  s.run (fun b =>
    match (b.slot slot).win with
    | none => b
    | some w =>
      let g := w.firstGt + 2 ^ 25 * 320
      if !b.running || b.gt < g then b
      else if b.mash.tokens = 0 && !(b.slot slot).token then
        b.modSlot slot (fun s => { s.waitToken g with overDue := true })
      else b.closeOverlong slot g)

/-- The deferred closes that wait for a token, as (close `gt`, slot). DEDUCED, log entry 16. -/
def Block.deferredCloses (b : Block) : List (Gt × Nat) :=
  b.mash.slots.filterMap (fun e => if e.2.win.isSome then e.2.waitGt.map (fun g => (g, e.1)) else none)

/-- A token comes for the deferred close of a slot (R368): an overlong window closes now, a window between iterations
closes at its deferred `gt`, and a merged window that goes on keeps the token for its next close.
DEDUCED, log entry 16. -/
def Block.tokenTo (b : Block) (slot : Nat) : Block :=
  let x := b.slot slot
  let b := b.modSlot slot (fun s => { s with waitGt := none, token := true })
  if x.overDue then b.closeOverlong slot b.gt
  else
    match x.deferred with
    | some (g, true, _) => b.finishClose slot g false x.closeCond
    | _ => b

/-- RECORD_TOKEN_GAIN (R196, R368): a token every 20 µs, up to 16; it goes to the deferred close with the earliest `gt`,
and to the lower slot on a tie. DEDUCED, log entry 16. -/
def execRecordTokenGain (s : State) : Host.Outcome State Fault Refusal :=
  s.run (fun b =>
    if b.gt < b.mash.tokenGt + us 20 then b
    else
      let b := b.modMash (fun m => { m with tokenGt := m.tokenGt + us 20 })
      match b.deferredCloses with
      | [] => b.modMash (fun m => { m with tokens := min 16 (m.tokens + 1) })
      | e :: t => b.tokenTo (t.foldl (fun (m : Gt × Nat) y => if y.1 < m.1 then y else m) e).2)

/-! ### Steps and scans (R190, R191, R200, R201) -/

/-- Key of a cell. -/
def cellKey (bank row col : Nat) : Nat := (bank * 128 + row) * 133 + col

/-- Adds to a cell: 40 bits, saturating, with a sticky saturate bit (R191). -/
def cellAdd (c : Nat × Bool) (n : Nat) : Nat × Bool := (satAdd 40 c.1 n, c.2 || decide (2 ^ 40 ≤ c.1 + n))

/-- Rows that a running scan has read by now: 5 Mash cycles of 1.25 ns per row (R200). -/
def Scan.readTo (s : Scan) (gt : Gt) : Nat :=
  match s.started with
  | some g => if s.done then 128 else max s.read (min 128 ((gt - g) / 320 / 5))
  | none => 0

/-- The bank that a scan reads for a row (R199). -/
def Scan.bankOf (s : Scan) (row : Nat) : Nat := tget 0 s.banks row

/-- The scan reads the loop's rows below `upto`, each from the bank that it left at the close, and clears them. -/
def Block.scanAdvance (b : Block) (s : Scan) (upTo : Nat) : Scan × Block :=
  let rows := (s.rows.map Prod.fst).filter (fun r => decide (s.read ≤ r) && decide (r < upTo))
  let mine := fun (k : Nat) => rows.any (fun r => k / 133 == s.bankOf r * 128 + r)
  let taken := b.mash.cells.filter (fun e => mine e.1)
  let halo := fun (bank : Nat) => (tget [] b.mash.halo bank).filter (fun h => rows.contains h.row && s.bankOf h.row == bank)
  ({ s with
      read := max s.read upTo
      cells := taken.foldl (fun t e => tput t (e.1 % (128 * 133)) e.2) s.cells
      halo := s.halo ++ (halo 0 ++ halo 1) },
    b.modMash (fun m => { m with
      cells := m.cells.filter (fun e => !mine e.1)
      halo := tmap [] m.halo (fun k l => l.filter (fun h => !(rows.contains h.row && s.bankOf h.row == k))) }))

/-- Advances every running scan to the present. -/
def Block.advanceScans (b : Block) : Block :=
  let r := b.mash.scans.foldl (fun (a : List Scan × Block) s =>
    let x := a.2.scanAdvance s (s.readTo b.gt)
    (a.1 ++ [x.1], x.2)) ([], b)
  r.2.modMash (fun m => { m with scans := r.1 })

/-- One row of a step (R190, R201): in its own bank while that bank is active or still unread, otherwise in the active
bank as a late step. The ticks of a late or coarse step count once for each of its rows.
DESIGN CHOICE, log entry 105. -/
def Block.applyRow (b : Block) (st : Step) (r : Nat × Nat × Nat) : Block :=
  let row := r.1
  let slot := aLoop (b.agent row)
  let int8 := (b.slot slot).int8
  let n := if int8 then r.2.2 * 127 * st.ticks else st.ticks
  let act := b.sel row
  let open? := b.mash.scans.findIdx? (fun s => s.bankOf row == r.2.1 && decide (s.read ≤ row) && !s.done &&
    s.rows.any (fun x => x.1 == row))
  let addTo := fun (b : Block) (bank : Nat) => b.modMash (fun m => { m with
    cells := tmod (0, false) m.cells (cellKey bank row st.cause) (fun c => cellAdd c n) })
  let coarse := if st.coarse then st.ticks else 0
  if r.2.1 = act then
    (addTo b act).modSlot slot (fun s => { s with
      win := s.win.map (fun w => { w with coarse := w.coarse + coarse, coarseSeen := w.coarseSeen || st.coarse }) })
  else
    match open? with
    | some i => (addTo b r.2.1).modMash (fun m => { m with
        scans := m.scans.modify i (fun s => { s with
          win := { s.win with coarse := s.win.coarse + coarse, coarseSeen := s.win.coarseSeen || st.coarse } }) })
    | none =>
      let b := addTo b act
      match (b.slot slot).win with
      | some _ => b.modSlot slot (fun s => { s with
          win := s.win.map (fun w => { w with
            late := w.late + st.ticks, coarse := w.coarse + coarse, coarseSeen := w.coarseSeen || st.coarse }) })
      | none => b.modMash (fun m => { m with
          lateWait := tmod (0, 0) m.lateWait slot (fun x => (x.1 + st.ticks, x.2 + coarse)) })

/-- MASH_STEP_APPLY (R190, R199, R201): the array applies the oldest charge step. -/
def execMashStepApply (s : State) : Host.Outcome State Fault Refusal :=
  s.run (fun b =>
    match b.mash.stepQ with
    | [] => b
    | st :: rest =>
      if !b.running then b
      else
        let b := (b.modMash (fun m => { m with
          stepQ := rest, scans := m.scans.map (fun x => { x with steps := x.steps - 1 }) })).advanceScans
        b.each st.rows (fun b r => b.applyRow st r))

/-- A segment held open, issued as one coarse step at the present with the tap's cause at this moment, as far as the
steps fit (R192). -/
def Block.issueHeld (b : Block) (steps : List (Gt × Step)) (t : Nat) (s : Seg) : List (Gt × Step) × Block :=
  let c := if s.live then (b.resolve t).code else s.cause
  let steps' := mergeParts steps (b.partsOf t { s with cause := c, coarse := true } b.gt)
  if b.mash.stepQ.length + steps'.length ≤ 1024 then
    (steps', b.putSeg t (if s.live then some { start := max s.start b.gt, cause := c } else none))
  else (steps, b.putSeg t (some { s with coarse := true }))

/-- STEP_QUEUE_SPACE (R192): with space in a queue that was full, each open segment is issued as one coarse step charged
to the tap's cause at this moment, for all the ticks since its start. -/
def execStepQueueSpace (s : State) : Host.Outcome State Fault Refusal :=
  s.run (fun b =>
    if !b.running || !b.mash.stepFull || decide (1024 ≤ b.mash.stepQ.length) then b
    else
      let b := queueSteps (b.mash.segs.foldl (fun (a : List (Gt × Step) × Block) e => a.2.issueHeld a.1 e.1 e.2) ([], b))
      b.modMash (fun m => { m with stepFull := m.segs.any (fun e => e.2.coarse) }))

/-- MASH_SCAN_START (R200): the oldest waiting scan starts when no scan runs and every step queued before its close has
been applied. -/
def execMashScanStart (s : State) : Host.Outcome State Fault Refusal :=
  s.run (fun b =>
    if !b.running || b.mash.scans.any (fun x => x.started.isSome && !x.done) then b
    else
      match b.mash.scans.findIdx? (fun x => x.started.isNone) with
      | none => b
      | some i =>
        b.modMash (fun m => { m with scans := m.scans.modify i (fun x =>
          if x.steps = 0 then { x with started := some b.gt } else x) }))

/-- MASH_SCAN_END (R200): the running scan has passed every row. -/
def execMashScanEnd (s : State) : Host.Outcome State Fault Refusal :=
  s.run (fun b =>
    match b.mash.scans.findIdx? (fun x => x.started.isSome && !x.done) with
    | none => b
    | some i =>
      match b.mash.scans[i]? with
      | none => b
      | some x =>
        if !b.running then b
        else
          let r := b.scanAdvance x 128
          r.2.modMash (fun m => { m with scans := m.scans.set i { r.1 with done := true } }))

/-! ### Deadlines (R210) -/

/-- A miss of a slot's loop: the owner's interrupt when `DL_INT` is 1, and a DEADLINE event for the owner. -/
def Block.missed (b : Block) (slot : Nat) : Block :=
  let x := b.slot slot
  let b := if x.dlInt then b.raise x.owner 1 else b
  b.offerEvent { source := 3, subsel := 0, field := x.loopId } b.gt (fun o => o == x.owner)

/-- A deadline + 1 µs with a window of the loop open wakes the block (R468); R214 leaves the wake to the tap items.
DEDUCED, log entry 95. -/
def Block.deadlineWake (b : Block) (slot : Nat) : Block :=
  if (b.slot slot).win.isSome then b.requestWake 5 else b

/-- DEADLINE_MISS (R210, R468): the always-on timer decides a miss at deadline + 1 µs; below Run it wakes the block while a
window of the loop is open. DEDUCED, log entry 95. -/
def execDeadlineMiss (slot : Fin 16) (s : State) : Host.Outcome State Fault Refusal :=
  s.run (fun b =>
    let x := b.slot slot
    match x.dlPend.find? (fun d => decide (d + us 1 ≤ b.gt)) with
    | some d => ((b.modSlot slot (fun s => { s with dlPend := s.dlPend.erase d })).deadlineWake slot).missed slot
    | none =>
      match x.win with
      | some w =>
        match w.deadline with
        | some d =>
          if w.inIter && !w.decided && decide (d + us 1 ≤ b.gt) then
            ((b.modSlot slot (fun s => { s with
              win := s.win.map (fun w => { w with decided := true }) })).deadlineWake slot).missed slot
          else b
        | none => b
      | none => b)

/-! ### Changes (R212, R213) -/

/-- Cuts every segment and striped wait at `g`, where a change of the tables takes effect (R188, R212). -/
def Block.cutAll (b : Block) (g : Gt) : Block := (b.haloCut g (fun _ => true)).cutSegs g (fun _ => true)

/-- Clears both banks and the halo entries of some rows (R212, R213). A record whose window closed before keeps what its
scan has read. -/
def Block.clearRows (b : Block) (rows : List Nat) : Block :=
  b.modMash (fun m => { m with
    cells := m.cells.filter (fun e => !rows.contains (e.1 / 133 % 128))
    halo := tmap [] m.halo (fun _ l => l.filter (fun h => !rows.contains h.row)) })

/-- Discards the queued steps of some rows (R213). DEDUCED, log entry 56. -/
def Block.dropSteps (b : Block) (rows : List Nat) : Block :=
  b.modMash (fun m => { m with stepQ := m.stepQ.map (fun s => { s with
    rows := s.rows.filter (fun r => !rows.contains r.1) }) })

/-- Discards what held segments keep for some rows (R192, R213). -/
def Block.dropHeld (b : Block) (rows : List Nat) : Block :=
  b.modMash (fun m => { m with
    segs := (m.segs.map (fun e => (e.1, { e.2 with acc := e.2.acc.filter (fun p => !rows.contains p.1) }))).filter (fun e =>
      e.2.live || !e.2.acc.isEmpty) })

/-- The rows of an owner (R213). -/
def Block.rowsOwned (b : Block) (owner : Nat) : List Nat :=
  (b.mash.agents.filter (fun e => aOwner e.2 == owner)).map Prod.fst

/-- The queued steps of an owner's rows are discarded and both banks of those rows cleared (R213). -/
def Block.resetRows (b : Block) (owner : Nat) : Block :=
  let rows := b.rowsOwned owner
  ((b.dropSteps rows).dropHeld rows).clearRows rows

/-- A slot as after the function reset of its owner (R213): owner-written fields at reset, window and scans gone.
DEDUCED, log entry 44. -/
def Block.resetSlot (b : Block) (slot : Nat) : Block :=
  (b.modSlot slot (fun s => { s with
    w := [s.word 0 &&& 0x3FC0#32, 0, 0, 0, 20000#32]
    win := none, deferred := none, nextOpen := none, dlPend := [], overDue := false, waitGt := none, token := false
    past := [] })).modMash (fun m => { m with
      scans := m.scans.filter (fun x => x.slot != slot), lateWait := tdel m.lateWait slot })

end Sys2Proof.Machine
end

