-- ==== Sys2Proof/Machine/LoopRec.lean ====
section
/-! DEFINITION. The reduction of a finished bank and the loop record (R202 to R211). -/

namespace Sys2Proof.Machine

/-- An 8-bit fraction and its saturate flag (R204); over a denominator of 0 it reads 0. DESIGN CHOICE, log entry 102. -/
def frac8 (value den : Nat) : Nat × Bool :=
  if den = 0 then (0, false)
  else
    let r := roundDiv (256 * value : Nat) den
    if r ≥ 256 then (255, true) else (r.toNat, false)

/-- What the reduction works on: the loop's rows with n_i > 0 and their denominators D_i, the cells as (row, column
code, value), W and the owner whose copy is built (`none`: unmerged). -/
structure Red where
  rows : List (Nat × Nat × Nat)
  cells : List (Nat × Nat × Nat)
  w : Nat
  foreign : Bool
  deriving DecidableEq, Repr

/-- The column code that a cause shows in a copy (R206). -/
def Block.showCause (b : Block) (owner : Option Nat) (c : Nat) : Nat :=
  match owner with
  | some o => if c < 128 && aOwner (b.agent c) != o then cForeign else c
  | none => c

/-- Adds a value to the cell of (row, column) in a list of cells. -/
def addCell (l : List (Nat × Nat × Nat)) (row col v : Nat) : List (Nat × Nat × Nat) :=
  if l.any (fun c => c.1 == row && c.2.1 == col) then
    l.map (fun c => if c.1 = row && c.2.1 = col then (row, col, c.2.2 + v) else c)
  else l ++ [(row, col, v)]

/-- The reduction input for a scan (R203, R206). -/
def Block.reduction (b : Block) (s : Scan) (int8 : Bool) (owner : Option Nat) : Red :=
  let rows := (s.rows.filter (fun r => decide (r.2 > 0))).map (fun r =>
    (r.1, r.2, if int8 then s.win.ticks * 16129 else s.win.ticks * r.2))
  let raw := (s.cells.filter (fun e => rows.any (fun r => r.1 == e.1 / 133))).filter (fun e => e.2.1 != 0)
  { rows := rows
    cells := raw.foldl (fun l e => addCell l (e.1 / 133) (b.showCause owner (e.1 % 133)) e.2.1) []
    w := s.win.ticks
    foreign := raw.any (fun e => b.showCause owner (e.1 % 133) == cForeign) }

/-- D_i of a row. -/
def Red.den (r : Red) (row : Nat) : Nat := match r.rows.find? (fun x => x.1 == row) with | some x => x.2.2 | none => 0

/-- The loop denominator (R203). -/
def Red.total (r : Red) : Nat := (r.rows.map (fun x => x.2.2)).foldl (· + ·) 0

/-- The sum of a column over the loop's rows. -/
def Red.colSum (r : Red) (c : Nat) : Nat := ((r.cells.filter (fun x => x.2.1 == c)).map (fun x => x.2.2)).foldl (· + ·) 0

/-- The sum of a row over the columns. -/
def Red.rowSum (r : Red) (a : Nat) : Nat := ((r.cells.filter (fun x => x.1 == a)).map (fun x => x.2.2)).foldl (· + ·) 0

/-- Column codes with a sum above 0, ranked (R205). -/
def Red.ranked (r : Red) : List Nat :=
  let cs := (r.cells.map (fun x => x.2.1)).eraseDups
  sortBy (fun x y => decide (r.colSum y < r.colSum x) || (r.colSum x == r.colSum y && decide (x < y))) cs

/-- The victim of a column: the row with the largest acc(i,j) ÷ D_i, ties to the lower agent (R205). -/
def Red.victim (r : Red) (c : Nat) : Option (Nat × Nat) :=
  match sortBy (fun (x y : Nat × Nat × Nat) =>
      decide (y.2.2 * r.den x.1 < x.2.2 * r.den y.1) || (y.2.2 * r.den x.1 == x.2.2 * r.den y.1 && decide (x.1 < y.1)))
      (r.cells.filter (fun x => x.2.1 == c)) with
  | [] => none
  | x :: _ => some (x.1, x.2.2)

/-- The 8 bytes of a top-8 entry; an unused one holds cause 0xFF (R205, R211). -/
def Red.topEntry (r : Red) : Option Nat → List Byte
  | none => padTo 8 (leBytes 1 0xFF)
  | some c =>
    let f := frac8 (r.colSum c) r.total
    let v := (r.victim c).getD (0, 0)
    let vf := frac8 v.2 (r.den v.1)
    padTo 8 (leBytes 1 c ++ leBytes 1 f.1 ++ leBytes 1 (b2n f.2 + 2 * b2n vf.2) ++ leBytes 1 v.1 ++ leBytes 1 vf.1)

/-- Rows with blocked ticks, ordered by their ratio (R211). -/
def Red.blockedRows (r : Red) : List Nat :=
  let rs := (r.rows.map Prod.fst).filter (fun a => decide (r.rowSum a > 0))
  sortBy (fun x y => decide (r.rowSum y * r.den x < r.rowSum x * r.den y) ||
    (r.rowSum y * r.den x == r.rowSum x * r.den y && decide (x < y))) rs

/-- The largest cell of a row, ties to the lower code: (code, value). -/
def Red.topCell (r : Red) (a : Nat) : Nat × Nat :=
  match sortBy (fun (x y : Nat × Nat × Nat) => decide (y.2.2 < x.2.2) || (y.2.2 == x.2.2 && decide (x.2.1 < y.2.1)))
      (r.cells.filter (fun x => x.1 == a)) with
  | [] => (0xFF, 0)
  | x :: _ => (x.2.1, x.2.2)

/-- The 4 bytes of an agent entry, and whether `TOP_FRAC` saturated (R211). -/
def Red.agentEntry (r : Red) : Option Nat → List Byte × Bool
  | none => (leBytes 1 0 ++ leBytes 1 0 ++ leBytes 1 0xFF ++ leBytes 1 0, false)
  | some a =>
    let f := frac8 (r.rowSum a) (r.den a)
    let t := r.topCell a
    let tf := frac8 t.2 (r.den a)
    (leBytes 1 (a + 128 * b2n f.2) ++ leBytes 1 f.1 ++ leBytes 1 t.1 ++ leBytes 1 tf.1, tf.2)

/-- The halo entries of the record's rows that are not zero, largest fraction first (R207). -/
def Red.haloRanked (r : Red) (hs : List Halo) : List Halo :=
  let n := fun (h : Halo) => match r.rows.find? (fun x => x.1 == h.row) with | some x => x.2.1 | none => 0
  sortBy (fun x y => decide (y.ticks * n x < x.ticks * n y) || (y.ticks * n x == x.ticks * n y &&
    (decide (x.row < y.row) || (x.row == y.row && decide (x.stripe < y.stripe)))))
    (hs.filter (fun h => n h != 0 && h.ticks != 0))

/-- The 4 bytes of a halo entry (R211). -/
def Block.haloEntry (b : Block) (r : Red) (owner : Option Nat) : Option Halo → List Byte
  | none => leBytes 4 0
  | some h =>
    let n := match r.rows.find? (fun x => x.1 == h.row) with | some x => x.2.1 | none => 0
    let f := frac8 h.ticks (r.w * n)
    leBytes 1 (h.stripe + 64 * b2n f.2) ++ leBytes 1 h.row ++ leBytes 1 (b.showCause owner h.producer) ++ leBytes 1 f.1

/-- `SLACK` in 16 ns units and `SLACK_SAT` (R204, R209). -/
def slackOf (w : Window) (closeGt : Gt) : Int × Bool :=
  match w.deadline with
  | none => (0, false)
  | some d =>
    let r := roundDiv ((d : Int) - (closeGt : Int)) 4096
    if r < -32768 then (-32768, true) else if r > 32767 then (32767, true) else (r, false)

/-- The first `n` of a list as options, the rest `none`. -/
def firstN {α : Type} (n : Nat) (l : List α) : List (Option α) := (upto n).map (fun i => l[i]?)

/-- The 512 bytes of a loop record (R211): `owner` is the tenant whose view is merged, `none` for the operator. -/
def Block.loopRecord (b : Block) (s : Scan) (owner : Option Nat) (opCopy : Bool) : List Byte :=
  let x := b.slot s.slot
  let w := s.win
  let r := b.reduction s x.int8 owner
  let tops := firstN 8 r.ranked
  let ags := (firstN 64 r.blockedRows).map r.agentEntry
  let hs := r.haloRanked s.halo
  let sl := slackOf w s.closeGt
  let lb := frac8 ((r.cells.map (fun c => c.2.2)).foldl (· + ·) 0) r.total
  let side := (upto 5).map (fun i => frac8 (r.colSum (128 + i)) r.total)
  let sat := s.cells.any (fun e => e.2.2 && r.rows.any (fun q => q.1 == e.1 / 133))
  let flags := [w.miss, w.lossy, w.late != 0, w.merged, s.overlong, w.noEnd, s.aligned, w.cycle, w.cuts != 0, sl.2,
    r.foreign || hs.any (fun h => b.showCause owner h.producer == cForeign), sat, w.coarseSeen,
    decide (r.blockedRows.length > 64), w.haloMore || decide (hs.length > 16), opCopy]
  let fl := maskOf ((upto 16).filter (fun i => flags.getD i false))
  padTo 512 (
    leBytes 1 x.loopId ++ leBytes 1 (s.slot + 16 * b2n x.int8) ++ leBytes 2 fl ++
    leBytes 4 w.iterFirst ++ leBytes 4 w.iterLast ++ gtBytes w.firstGt ++ gtBytes s.closeGt ++
    gtBytes (w.deadline.getD 0) ++ leBytes 2 (twos 16 sl.1) ++ leBytes 1 s.epoch ++ leBytes 1 s.bound ++
    leBytes 1 r.rows.length ++ leBytes 4 (satTo 32 w.ticks) ++ leBytes 4 (satTo 32 w.late) ++
    leBytes 4 (satTo 32 w.coarse) ++ leBytes 4 w.lost ++ leBytes 1 lb.1 ++
    leBytes 1 (b2n lb.2 + 2 * b2n w.earlyMiss + 4 * b2n x.wsrc) ++ leBytes 2 w.cuts ++
    (tops.map r.topEntry).flatten ++ (ags.map Prod.fst).flatten ++
    ((firstN 16 hs).map (b.haloEntry r owner)).flatten ++
    leBytes 8 (maskOf ((upto 64).filter (fun i => match ags[i]? with | some e => e.2 | none => false))) ++
    (side.map (fun f => leBytes 1 f.1)).flatten ++
    leBytes 1 (maskOf ((upto 5).filter (fun i => match side[i]? with | some f => f.2 | none => false))))

/-- LOOP_RECORD_PLACE (R202, R206): the Maltster builds the record of the oldest finished scan and offers it to
quadrant 0's record input; with `OP_COPY` the operator receives an unmerged copy. -/
def execLoopRecordPlace (s : State) : Host.Outcome State Fault Refusal :=
  s.run (fun b =>
    match b.mash.scans.find? (fun x => x.done) with
    | none => b
    | some sc =>
      if !b.running then b
      else
        let x := b.slot sc.slot
        let o := x.owner
        let mine := b.mkRec 16 0 o x.interest (b.loopRecord sc (if o < 64 then some o else none) false)
        let b := b.modMash (fun m => { m with scans := m.scans.erase sc })
        let b := (b.offerRec mine).modSlot sc.slot (fun s => { s with records := satAdd 32 s.records 1 })
        if x.opCopy then b.offerRec (b.mkRec 16 0 64 x.interest (b.loopRecord sc none true)) else b)

end Sys2Proof.Machine
end

