-- ==== Sys2Proof/Machine/Crypto.lean ====
section
/-! DEFINITION. The public algorithms that the specification names: SHA-384 as in FIPS 180-4 (R446), AES-256-GCM
(R438, R439) and CRC-32C (R416). PRESUMED: their definitions come from their published standards. -/

namespace Sys2Proof.Machine

/-! ### SHA-384 -/

/-- Round constants of SHA-384 (FIPS 180-4, 4.2.3). -/
def shaK : List (BitVec 64) :=
  [0x428a2f98d728ae22#64, 0x7137449123ef65cd#64, 0xb5c0fbcfec4d3b2f#64, 0xe9b5dba58189dbbc#64,
   0x3956c25bf348b538#64, 0x59f111f1b605d019#64, 0x923f82a4af194f9b#64, 0xab1c5ed5da6d8118#64,
   0xd807aa98a3030242#64, 0x12835b0145706fbe#64] ++
  [0x243185be4ee4b28c#64, 0x550c7dc3d5ffb4e2#64, 0x72be5d74f27b896f#64, 0x80deb1fe3b1696b1#64,
   0x9bdc06a725c71235#64, 0xc19bf174cf692694#64, 0xe49b69c19ef14ad2#64, 0xefbe4786384f25e3#64,
   0x0fc19dc68b8cd5b5#64, 0x240ca1cc77ac9c65#64] ++
  [0x2de92c6f592b0275#64, 0x4a7484aa6ea6e483#64, 0x5cb0a9dcbd41fbd4#64, 0x76f988da831153b5#64,
   0x983e5152ee66dfab#64, 0xa831c66d2db43210#64, 0xb00327c898fb213f#64, 0xbf597fc7beef0ee4#64,
   0xc6e00bf33da88fc2#64, 0xd5a79147930aa725#64] ++
  [0x06ca6351e003826f#64, 0x142929670a0e6e70#64, 0x27b70a8546d22ffc#64, 0x2e1b21385c26c926#64,
   0x4d2c6dfc5ac42aed#64, 0x53380d139d95b3df#64, 0x650a73548baf63de#64, 0x766a0abb3c77b2a8#64,
   0x81c2c92e47edaee6#64, 0x92722c851482353b#64] ++
  [0xa2bfe8a14cf10364#64, 0xa81a664bbc423001#64, 0xc24b8b70d0f89791#64, 0xc76c51a30654be30#64,
   0xd192e819d6ef5218#64, 0xd69906245565a910#64, 0xf40e35855771202a#64, 0x106aa07032bbd1b8#64,
   0x19a4c116b8d2d0c8#64, 0x1e376c085141ab53#64] ++
  [0x2748774cdf8eeb99#64, 0x34b0bcb5e19b48a8#64, 0x391c0cb3c5c95a63#64, 0x4ed8aa4ae3418acb#64,
   0x5b9cca4f7763e373#64, 0x682e6ff3d6b2b8a3#64, 0x748f82ee5defb2fc#64, 0x78a5636f43172f60#64,
   0x84c87814a1f0ab72#64, 0x8cc702081a6439ec#64] ++
  [0x90befffa23631e28#64, 0xa4506cebde82bde9#64, 0xbef9a3f7b2c67915#64, 0xc67178f2e372532b#64,
   0xca273eceea26619c#64, 0xd186b8c721c0c207#64, 0xeada7dd6cde0eb1e#64, 0xf57d4f7fee6ed178#64,
   0x06f067aa72176fba#64, 0x0a637dc5a2c898a6#64] ++
  [0x113f9804bef90dae#64, 0x1b710b35131c471b#64, 0x28db77f523047d84#64, 0x32caab7b40c72493#64,
   0x3c9ebe0a15c9bebc#64, 0x431d67c49c100d4c#64, 0x4cc5d4becb3e42b6#64, 0x597f299cfc657e2a#64,
   0x5fcb6fab3ad6faec#64, 0x6c44198c4a475817#64]

/-- Initial hash value of SHA-384 (FIPS 180-4, 5.3.4). -/
def shaH0 : List (BitVec 64) :=
  [0xcbbb9d5dc1059ed8#64, 0x629a292a367cd507#64, 0x9159015a3070dd17#64, 0x152fecd8f70e5939#64,
   0x67332667ffc00b31#64, 0x8eb44a8768581511#64, 0xdb0c2e0d64f98fa7#64, 0x47b5481dbefa4fa4#64]

/-- A 64-bit word from big-endian bytes. -/
def beWord (bs : List Byte) : BitVec 64 := bs.foldl (fun a b => BitVec.ofNat 64 (a.toNat * 256 + b.toNat)) 0

/-- `n` big-endian bytes of a number. -/
def beBytes (n v : Nat) : List Byte := (leBytes n v).reverse

def shaS0 (x : BitVec 64) : BitVec 64 := x.rotateRight 28 ^^^ x.rotateRight 34 ^^^ x.rotateRight 39
def shaS1 (x : BitVec 64) : BitVec 64 := x.rotateRight 14 ^^^ x.rotateRight 18 ^^^ x.rotateRight 41
def shaT0 (x : BitVec 64) : BitVec 64 := x.rotateRight 1 ^^^ x.rotateRight 8 ^^^ (x >>> 7)
def shaT1 (x : BitVec 64) : BitVec 64 := x.rotateRight 19 ^^^ x.rotateRight 61 ^^^ (x >>> 6)

/-- One round on the working variables (a to h) and the window of sixteen schedule words, of which the first is used. -/
def shaRound (s : List (BitVec 64) × List (BitVec 64)) (k : BitVec 64) : List (BitVec 64) × List (BitVec 64) :=
  match s.1 with
  | [a, b, c, d, e, f, g, h] =>
    let w := s.2
    let t1 := h + shaS1 e + ((e &&& f) ^^^ (~~~e &&& g)) + k + w.getD 0 0
    let t2 := shaS0 a + ((a &&& b) ^^^ (a &&& c) ^^^ (b &&& c))
    ([t1 + t2, a, b, c, d + t1, e, f, g],
      w.drop 1 ++ [shaT1 (w.getD 14 0) + w.getD 9 0 + shaT0 (w.getD 1 0) + w.getD 0 0])
  | _ => s

/-- Words of a block of 128 bytes. -/
def shaWords : Nat → List Byte → List (BitVec 64)
  | 0, _ => []
  | n + 1, bs => beWord (bs.take 8) :: shaWords n (bs.drop 8)

/-- The hash value after one block. -/
def shaBlock (h : List (BitVec 64)) (blk : List Byte) : List (BitVec 64) :=
  List.zipWith (· + ·) h (shaK.foldl shaRound (h, shaWords 16 blk)).1

/-- The hash value after `n` blocks. -/
def shaBlocks : Nat → List (BitVec 64) → List Byte → List (BitVec 64)
  | 0, h, _ => h
  | n + 1, h, bs => shaBlocks n (shaBlock h (bs.take 128)) (bs.drop 128)

/-- SHA-384 of a byte string: 48 bytes. -/
def sha384 (m : List Byte) : List Byte :=
  let z := (128 - (m.length + 17) % 128) % 128
  let p := m ++ [0x80] ++ List.replicate z 0 ++ beBytes 16 (8 * m.length)
  ((shaBlocks (p.length / 128) shaH0 p).take 6 |>.map (fun w => beBytes 8 w.toNat)).flatten

/-! ### AES-256 -/

/-- Product in GF(2⁸) modulo x⁸ + x⁴ + x³ + x + 1. -/
def gfMul : Nat → Byte → Byte → Byte
  | 0, _, _ => 0
  | n + 1, a, b =>
    (if b.getLsbD 0 then a else 0) ^^^
      gfMul n (if a.getLsbD 7 then (a <<< 1) ^^^ 0x1B else a <<< 1) (b >>> 1)

def gf8 (a b : Byte) : Byte := gfMul 8 a b

/-- The inverse a²⁵⁴, with 0 for 0. -/
def gfInv (a : Byte) : Byte :=
  let a2 := gf8 a a
  let a4 := gf8 a2 a2
  let a8 := gf8 a4 a4
  let a16 := gf8 a8 a8
  let a32 := gf8 a16 a16
  let a64 := gf8 a32 a32
  gf8 (gf8 (gf8 (gf8 (gf8 (gf8 a2 a4) a8) a16) a32) a64) (gf8 a64 a64)

/-- The AES S-box. -/
def sbox (a : Byte) : Byte :=
  let b := gfInv a
  b ^^^ b.rotateLeft 1 ^^^ b.rotateLeft 2 ^^^ b.rotateLeft 3 ^^^ b.rotateLeft 4 ^^^ 0x63

/-- Key schedule: words of four bytes, newest first, with the count of words made so far. -/
def aesExpand : Nat → Nat → Byte → List (List Byte) → List (List Byte)
  | 0, _, _, ws => ws
  | n + 1, i, rc, ws =>
    let t := ws.headD []
    let old := ws.getD 7 []
    let t' :=
      if i % 8 = 0 then
        match (t.drop 1 ++ t.take 1).map sbox with
        | x :: r => (x ^^^ rc) :: r
        | [] => []
      else if i % 8 = 4 then t.map sbox else t
    aesExpand n (i + 1) (if i % 8 = 0 then gf8 rc 2 else rc) (List.zipWith (· ^^^ ·) old t' :: ws)

/-- The fifteen round keys of 16 bytes. -/
def aesKeys (key : BitVec 256) : List (List Byte) :=
  let kb := beBytes 32 key.toNat
  let w0 := ((upto 8).map (fun i => (kb.drop (4 * i)).take 4)).reverse
  let ws := (aesExpand 52 8 1 w0).reverse
  (upto 15).map (fun r => ((ws.drop (4 * r)).take 4).flatten)

/-- SubBytes and ShiftRows on a column-major state. -/
def aesSubShift (s : List Byte) : List Byte :=
  (upto 16).map (fun i => sbox (s.getD ((i + 4 * (i % 4)) % 16) 0))

/-- MixColumns. -/
def aesMix (s : List Byte) : List Byte :=
  (upto 16).map (fun i =>
    let c := fun (k : Nat) => s.getD (i / 4 * 4 + (i + k) % 4) 0
    gf8 2 (c 0) ^^^ gf8 3 (c 1) ^^^ c 2 ^^^ c 3)

/-- Rounds 1 to 14. -/
def aesRounds : List (List Byte) → List Byte → List Byte
  | [], s => s
  | [k], s => List.zipWith (· ^^^ ·) (aesSubShift s) k
  | k :: ks, s => aesRounds ks (List.zipWith (· ^^^ ·) (aesMix (aesSubShift s)) k)

/-- AES-256 encryption of one block of 16 bytes. -/
def aesBlock (key : BitVec 256) (blk : List Byte) : List Byte :=
  match aesKeys key with
  | k :: ks => aesRounds ks (List.zipWith (· ^^^ ·) blk k)
  | [] => blk

/-! ### GCM -/

/-- A 128-bit block from 16 big-endian bytes. -/
def be128 (bs : List Byte) : BitVec 128 := BitVec.ofNat 128 (leNat bs.reverse)

/-- Product in GF(2¹²⁸) of GCM: bits of `x` from the most significant. -/
def ghashMul : Nat → BitVec 128 → BitVec 128 → BitVec 128 → BitVec 128
  | 0, z, _, _ => z
  | n + 1, z, v, x =>
    ghashMul n (if x.getLsbD n then z ^^^ v else z)
      (if v.getLsbD 0 then (v >>> 1) ^^^ (0xE1#128 <<< 120) else v >>> 1) x

/-- Blocks of 16 bytes, the last padded with zeros. -/
def blocks16 : Nat → List Byte → List (List Byte)
  | 0, _ => []
  | _, [] => []
  | n + 1, bs => padTo 16 (bs.take 16) :: blocks16 n (bs.drop 16)

/-- GHASH of additional data and ciphertext. -/
def ghash (h : BitVec 128) (aad ct : List Byte) : BitVec 128 :=
  let bl := blocks16 (aad.length / 16 + 1) aad ++ blocks16 (ct.length / 16 + 1) ct ++
    [beBytes 8 (8 * aad.length) ++ beBytes 8 (8 * ct.length)]
  bl.foldl (fun y b => ghashMul 128 0 h (y ^^^ be128 b)) 0

/-- Counter-mode encryption from counter `c`. -/
def gcmCtr (key : BitVec 256) (iv : List Byte) : Nat → List (List Byte) → List Byte
  | _, [] => []
  | c, b :: bs => List.zipWith (· ^^^ ·) b (aesBlock key (iv ++ beBytes 4 c)) ++ gcmCtr key iv (c + 1) bs

/-- AES-256-GCM with a 96-bit initialisation vector: ciphertext and 16-byte tag. -/
def gcmSeal (key : BitVec 256) (iv aad pt : List Byte) : List Byte × List Byte :=
  let ct := (gcmCtr key iv 2 (blocks16 (pt.length / 16 + 1) pt)).take pt.length
  let s := ghash (be128 (aesBlock key (List.replicate 16 0))) aad ct
  (ct, List.zipWith (· ^^^ ·) (beBytes 16 s.toNat) (aesBlock key (iv ++ beBytes 4 1)))

/-- Opens a sealed text: the plaintext when the tag agrees. -/
def gcmOpen (key : BitVec 256) (iv aad ct tag : List Byte) : Option (List Byte) :=
  let s := ghash (be128 (aesBlock key (List.replicate 16 0))) aad ct
  if List.zipWith (· ^^^ ·) (beBytes 16 s.toNat) (aesBlock key (iv ++ beBytes 4 1)) = tag then
    some ((gcmCtr key iv 2 (blocks16 (ct.length / 16 + 1) ct)).take ct.length)
  else none

end Sys2Proof.Machine
end

