-- ==== Sys2Proof/Machine/Sync.lean ====
section
/-! DEFINITION. Sync watch and Knot detector (09_sync_watch_hangs): the shadow tables, stale marks, no-progress
reports, walks and Knot reports. -/

namespace Sys2Proof.Machine

def Block.modWait (b : Block) (t : Nat) (f : TapWait → TapWait) : Block :=
  b.modSync (fun s => { s with waits := tmod {} s.waits t f })

/-! ### Encodings (R249, R250) -/

/-- Bits of the whole-nanosecond count of a `gt`. -/
def nsBits (g : Gt) (lo n : Nat) : Nat := nfld (g / 256) lo n

/-- The 16-byte shadow entry (R249). DEDUCED, log entry 18. -/
def Obj.bytes (x : Obj) : List Byte :=
  leBytes 16 (pack [(24, x.count), (2, x.kind), (1, b2n x.stale), (1, b2n x.ovf),
    (1, b2n x.w0.isSome), (1, b2n x.w1.isSome), (1, b2n x.w2.isSome), (1, b2n x.w3.isSome),
    (11, x.w0.getD 0), (11, x.w1.getD 0), (11, x.w2.getD 0), (11, x.w3.getD 0),
    (11, x.sig), (1, b2n x.sigValid), (1, b2n x.sigDecl), (1, b2n x.sigArrived),
    (6, x.owner), (1, b2n x.ownValid), (1, b2n x.shared), (12, x.waits), (16, nsBits x.lastTouch 14 16),
    (1, b2n x.phase), (1, b2n x.npReported)])

/-- The 8-byte tap wait entry (R250). -/
def TapWait.bytes (w : TapWait) : List Byte :=
  leBytes 8 (pack [(14, w.obj), (1, b2n w.valid), (1, b2n w.stale), (1, b2n w.phase), (24, w.await),
    (23, nsBits w.since 10 23)])

/-! ### Stale marks (R252) -/

/-- Marks a tap stale. -/
def Block.markStale (b : Block) (t : Nat) : Block :=
  let w := b.wait t
  let b := b.modWait t (fun w => { w with stale := true })
  if w.valid then b.modObj w.obj (fun x => { x with stale := true }) else b

/-- Losses of a tap seen by the analysers, each with whether it was at the chain: stale marks (R252), LOSSY windows (R29,
R214). DEDUCED, log entry 17. -/
def Block.lossSeen (b : Block) (t : Nat) (ls : List (Gt × Bool)) : Block := (b.markStale t).mashLoss t ls

/-- The instants of items lost at the chain. -/
def atChain (ls : List Gt) : List (Gt × Bool) := ls.map (fun g => (g, true))

/-! ### Applying S items (R251) -/

/-- Places a waiter in the lowest free slot, or sets `OVF`. -/
def Obj.addWaiter (x : Obj) (t : Nat) : Obj :=
  if x.w0.isNone then { x with w0 := some t }
  else if x.w1.isNone then { x with w1 := some t }
  else if x.w2.isNone then { x with w2 := some t }
  else if x.w3.isNone then { x with w3 := some t }
  else { x with ovf := true }

/-- Frees the slot of a waiter. DEDUCED, log entry 18. -/
def Obj.dropWaiter (x : Obj) (t : Nat) : Obj :=
  let f := fun (w : Option Nat) => if w = some t then none else w
  { x with w0 := f x.w0, w1 := f x.w1, w2 := f x.w2, w3 := f x.w3 }

/-- A wait on the object ends: `WAITS` − 1, not below 0; at 0 `OVF` and `STALE` clear. -/
def Obj.endWait (x : Obj) (t : Nat) : Obj :=
  let x := { x.dropWaiter t with waits := x.waits - 1 }
  if x.waits = 0 then { x with ovf := false, stale := false } else x

/-- Progress (R251). -/
def Obj.progress (x : Obj) (g : Gt) : Obj := { x with lastTouch := g, npReported := false }

/-- The owner fields after an item of a valid context (R251), and who has used the object (R105).
DEDUCED, log entry 18. -/
def Obj.used (x : Obj) (tenant : Option Nat) : Obj :=
  match tenant with
  | none => x
  | some n =>
    let x := if x.users.contains n then x else { x with users := x.users ++ [n] }
    if !x.ownValid then { x with owner := n, ownValid := true }
    else if x.owner ≠ n then { x with shared := true } else x

/-- The tap to which `agent_code` of R207 is applied at a WAIT_END. -/
def Block.haloProducer (b : Block) (obj : Nat) : Nat :=
  match (b.obj obj).signaller with
  | some s => b.agentCode s
  | none => cUnresolved

/-- Ends the open wait of tap `t` at `g`, with its halo entry's producer (R207, R251). -/
def Block.endWait (b : Block) (t : Nat) (g : Gt) : Block :=
  let w := b.wait t
  let b := b.haloFlush t g (some (b.haloProducer w.obj))
  let b := b.modMash (fun m => { m with waitHalo := tdel m.waitHalo t })
  (b.modWait t (fun w => { w with valid := false, stale := false })).modObj w.obj (fun x => x.endWait t)

/-- WAIT_BEGIN of object `x` with awaited count `a` (R251). -/
def Block.waitBegin (b : Block) (t x a stripe : Nat) (g : Gt) : Block :=
  let b := if (b.wait t).valid && (b.wait t).obj != x then
      (b.endWait t g).modSync (fun s => { s with implicitEnd := satAdd 32 s.implicitEnd 1 }) else b
  let halo := fun (b : Block) => (b.haloFlush t g none).modMash (fun m => { m with
    waitHalo := if stripe = 0 then tdel m.waitHalo t else tput m.waitHalo t (g, stripe) })
  if (b.wait t).valid then
    halo (b.modWait t (fun w => { w with await := a, phase := (b.obj x).phase, since := g, stale := false }))
  else
    let b := b.modObj x (fun o =>
      let o := if o.kind = 0 then { o with kind := 1 } else o
      let o := if o.kind = 2 && o.count / 4096 = 0 then { o with count := o.count % 4096 + a % 4096 * 4096 } else o
      let o := if o.waits = 0 then o.progress g else o
      { o.addWaiter t with waits := min 2048 (o.waits + 1) })
    halo (b.modWait t (fun _ =>
      { obj := x, valid := true, stale := false, phase := (b.obj x).phase, await := a, since := g }))

/-- SIGNAL of object `x` by `i` (R251). -/
def Block.signal (b : Block) (t x i : Nat) (g : Gt) : Block :=
  let o := b.obj x
  let o := if o.kind = 0 then { o with kind := 1 } else o
  if o.kind = 2 then
    (b.modObj x (fun _ => o.progress g)).modSync (fun s => { s with kindMismatch := satAdd 32 s.kindMismatch 1 })
  else
    let o := { o with count := (o.count + i) % 2 ^ 24 }
    let o := if o.sigDecl then o else { o with sig := t, sigValid := true }
    b.modObj x (fun _ => o.progress g)

/-- ARRIVE at object `x` (R251). -/
def Block.arriveAt (b : Block) (t x : Nat) (g : Gt) : Block :=
  let o := b.obj x
  let o := if o.kind = 0 then { o with kind := 2 } else o
  if o.kind = 2 then
    let arr := (o.count % 4096 + 1) % 4096
    let exp := o.count / 4096
    let o := if o.sigValid && o.sig == t then { o with sigArrived := true } else o
    let o := if exp ≠ 0 && arr = exp then
        let o := { o with count := exp * 4096, phase := !o.phase, sigArrived := false }
        if o.sigDecl then o else { o with sig := t, sigValid := true }
      else { o with count := exp * 4096 + arr }
    b.modObj x (fun _ => o.progress g)
  else
    (b.modObj x (fun _ => o.progress g)).modSync (fun s => { s with kindMismatch := satAdd 32 s.kindMismatch 1 })

/-- The sync watch applies one S item (R251), and the agent map re-resolves at its `gt` (R188); a loss of the tap that
followed the item acts after it (R214). -/
def Block.applySItem (b : Block) (i : SItem) : Block :=
  let x := fld i.pay 30 14
  let stripe := fld i.pay 24 6
  let v := fld i.pay 0 24
  let b := b.unquiet i.tap i.gt
  let b := b.modObj x (fun o => o.used i.tenant)
  let b := match payKind i.pay with
    | 0 => b.waitBegin i.tap x v stripe i.gt
    | 1 =>
      if (b.wait i.tap).valid && (b.wait i.tap).obj == x then b.endWait i.tap i.gt
      else b.modSync (fun s => { s with unmatched := satAdd 32 s.unmatched 1 })
    | 2 => b.signal i.tap x v i.gt
    | _ => b.arriveAt i.tap x i.gt
  (b.resolveAll i.gt).afterItem i.tap

/-- Interval of the known event of R256. -/
def Block.npInterval (b : Block) : Gt := b.sync.npLimit * 16384 * 256 / 2

/-- An object has waiters. -/
def Sync.waiting (s : Sync) : Bool := s.objs.any (fun e => decide (e.2.waits > 0))

/-- The known event of R256 is there while an object has waiters, first half a limit after the first wait began. -/
def Block.armNoprog (b : Block) : Block :=
  let next := if !b.sync.waiting || b.sync.npLimit = 0 then none else some (b.sync.npNext.getD (b.gt + b.npInterval))
  b.modSync (fun s => { s with npNext := next })

/-- SYNC_ITEM_APPLY (R248, R251, R256): the sync watch takes the oldest item of a quadrant's sync queue. -/
def execSyncItemApply (q : Fin 4) (s : State) : Host.Outcome State Fault Refusal :=
  s.run (fun b =>
    match (b.quad q).syncQ with
    | i :: t => if b.running then ((b.modQuad q (fun x => { x with syncQ := t })).armNoprog.applySItem i).armNoprog else b
    | [] => b)

/-! ### Edges and walks (R253, R257, R258) -/

/-- The wait of a tap is satisfied (R253). -/
def Block.satisfied (b : Block) (t : Nat) : Bool :=
  let w := b.wait t
  let x := b.obj w.obj
  if x.kind = 1 then decide ((x.count + 2 ^ 24 - w.await % 2 ^ 24) % 2 ^ 24 < 2 ^ 23)
  else if x.kind = 2 then w.phase != x.phase
  else false

/-- The edge of a tap: its target, and whether it is a credit edge (R257). -/
def Block.edge (b : Block) (t : Nat) : Option (Nat × Bool) :=
  let w := b.wait t
  if w.valid then
    if b.satisfied t then none else (b.obj w.obj).signaller.map (fun s => (s, false))
  else
    match (b.view t).est with
    | some (2, _, true, c) => some (c, true)
    | _ => none

/-- The edges of all taps, read once, in ascending tap number. -/
def Block.allEdges (b : Block) : List (Nat × Nat × Bool) :=
  let ts := (b.sync.waits.filter (fun e => e.2.valid)).map Prod.fst ++ b.views.map Prod.fst
  (sortBy (fun x y => decide (x < y)) ts.eraseDups).filterMap (fun t => (b.edge t).map (fun e => (t, e.1, e.2)))

/-- The target of a tap's stored edge. -/
def storedEdge (es : List (Nat × Nat × Bool)) (u : Nat) : Option (Nat × Bool) :=
  (es.find? (fun e => e.1 == u)).map (fun e => (e.2.1, e.2.2))

/-- A cycle of a walk: its taps from the lowest one along the edges, and the taps whose edges lead into it. -/
structure Cycle where
  taps : List Nat
  tail : Nat := 0
  deriving DecidableEq, Repr

/-- Follows edges from `u` until a tap already walked, a tap on the path, or the end; the path is in reverse order. -/
def followPath (es : List (Nat × Nat × Bool)) (seen : Tbl Nat) : Nat → Option Nat → List Nat → Option Nat × List Nat
  | 0, u, p => (u, p)
  | n + 1, u, p =>
    match u with
    | none => (none, p)
    | some x =>
      if p.contains x || (seen.any (fun e => e.1 == x)) then (some x, p)
      else followPath es seen n ((storedEdge es x).map Prod.fst) (x :: p)

/-- Rotates a cycle to begin at its lowest tap. -/
def rotateLow (l : List Nat) : List Nat :=
  let m := l.foldl min (l.headD 0)
  let i := (l.findIdx? (fun x => x == m)).getD 0
  l.drop i ++ l.take i

/-- The walk of R258: `comp` maps a tap walked to 0 (none) or to 1 + the index of its cycle. -/
def knotWalk (es : List (Nat × Nat × Bool)) : List Nat → Tbl Nat → List Cycle → List Cycle
  | [], _, cs => cs
  | t :: ts, comp, cs =>
    if comp.any (fun e => e.1 == t) then knotWalk es ts comp cs
    else
      let r := followPath es comp 2049 (some t) []
      let path := r.2.reverse
      match r.1 with
      | none => knotWalk es ts (path.foldl (fun c u => tput c u 0) comp) cs
      | some u =>
        if path.contains u then
          let cyc := path.dropWhile (fun x => x != u)
          let cs := cs ++ [{ taps := rotateLow cyc, tail := path.length - cyc.length }]
          knotWalk es ts (path.foldl (fun c x => tput c x cs.length) comp) cs
        else
          let k := tget 0 comp u
          let cs := if k = 0 then cs else cs.modify (k - 1) (fun c => { c with tail := c.tail + path.length })
          knotWalk es ts (path.foldl (fun c x => tput c x k) comp) cs

/-- A walk starts, or is noted to follow the running one (R260). It runs at Full speed only: at Low speed the clock is
raised first, and the walk starts when it is (R261). -/
def Block.startWalk (b : Block) : Block :=
  let b := b.modPower (fun p => { p with lowAsked := p.lowAsked && !p.clkReq })
  if b.sync.walk.isSome || b.power.low then b.modSync (fun s => { s with walkAgain := true })
  else
    let es := b.allEdges
    b.modSync (fun s => { s with
      walk := some { seq := s.walkSeq, gt := b.gt, epoch := b.alEpoch, bound := b.recBound, edges := es }
      walkAgain := false
      walkSeq := (s.walkSeq + 1) % 2 ^ 16
      lastWalk := b.gt })

/-- A walk that was noted starts, once none runs (R260, R261). -/
def Block.nextWalk (b : Block) : Block :=
  if b.sync.walkAgain && b.sync.walk.isNone then b.startWalk else b

/-- The number of the walk that a cause arriving now gets: the walk that it starts, or the one after the running one. -/
def Block.nextWalkSeq (b : Block) : Nat := b.sync.walkSeq

/-! ### Reports (R262 to R265) -/

/-- The tenant of a tap (R262). -/
def Block.tenantOfTap (b : Block) (t : Nat) : Option Nat := (b.view t).tenant

/-- The tap is shown to a receiver: the operator's copy is never redacted (R262). -/
def Block.shows (b : Block) (recv t : Nat) : Bool := recv == 64 || b.tenantOfTap t == some recv

/-- A link of a Knot report is stale. -/
def Block.linkStale (b : Block) (t : Nat) : Bool :=
  let w := b.wait t
  w.stale || (w.valid && (b.obj w.obj).stale)

/-- The 8 bytes of a link for a receiver (R262, R263); a wait is counted to the walk's start, corrected over steps (R62).
DEDUCED, log entry 18. -/
def Block.linkBytes (b : Block) (w : Walk) (recv t : Nat) : List Byte :=
  if !b.shows recv t then leBytes 2 (0x7FF + 2048) ++ leBytes 6 0
  else
    let credit := match storedEdge w.edges t with | some (_, c) => c | none => false
    let tw := b.wait t
    let age := if credit then 0xFFFFFFFF else (nsBits ((w.gt : Int) + w.adj).toNat 10 23 + 2 ^ 23 - nsBits tw.since 10 23) % 2 ^ 23
    leBytes 2 (pack [(11, t), (1, 0), (1, b2n (b.linkStale t)), (1, b2n credit)]) ++
      leBytes 2 (if credit then 0 else pack [(14, tw.obj), (2, (b.obj tw.obj).kind)]) ++ leBytes 4 age

/-- The object of the first wait edge among the links shown (R263). -/
def Block.headObj (b : Block) (w : Walk) (taps : List Nat) : Option Nat :=
  (taps.find? (fun t => match storedEdge w.edges t with | some (_, c) => !c | none => false)).map
    (fun t => (b.wait t).obj)

/-- What a Knot report shows a receiver: the first 256 links, redacted for a tenant. -/
def Block.linksShown (b : Block) (c : Cycle) (recv : Nat) : List Nat := (c.taps.take 256).filter (b.shows recv)

/-- The bytes of a Knot report for a receiver (R262, R263): the flags of the operator's copy speak of every link of the
cycle, those of a tenant's copy of the links that it shows; `CUT` and `FOREIGN` describe the whole cycle. -/
def Block.knotBytes (b : Block) (w : Walk) (c : Cycle) (recv : Nat) : List Byte :=
  let listed := c.taps.take 256
  let told := if recv = 64 then c.taps else b.linksShown c recv
  let credit := told.any (fun t => match storedEdge w.edges t with | some (_, k) => k | none => false)
  let flags := b2n (decide (256 < c.taps.length)) + 2 * b2n (told.any b.linkStale) +
    4 * b2n (!c.taps.all (b.shows recv)) + 8 * b2n credit + 16 * b2n (b.headObj w told).isNone
  padTo 32 (leBytes 2 c.taps.length ++ leBytes 2 listed.length ++ leBytes 2 c.tail ++ leBytes 1 flags ++
    leBytes 1 w.epoch ++ gtBytes w.gt ++ leBytes 1 w.bound ++ leBytes 2 w.seq ++
    leBytes 2 ((b.headObj w (b.linksShown c recv)).getD 0)) ++ (listed.map (b.linkBytes w recv)).flatten

/-- Delivers a report to each receiver once, with its interrupts and its event (R262, R265). `field` is what the
event carries for a receiver that may see it (R105). DEDUCED, log entry 18. -/
def Block.deliver (b : Block) (rtype : Nat) (recvs : List Nat) (bytes : Nat → List Byte) (subsel : Nat)
    (field : Nat → Option Nat) : Block :=
  let rs := recvs.eraseDups
  let b := b.each rs (fun b r => (b.queueRec (b.mkRec 17 rtype r 3 (bytes r))).raise r 2)
  b.each ((b.stations.filter (fun x => x.2.seq.en && rs.contains x.2.seq.owner)).map Prod.fst) (fun b st =>
    match field (b.station st).seq.owner with
    | some k => b.seqEvent st { source := 2, subsel := subsel, field := k } b.gt
    | none => b)

/-! ### Snapshot starts (R266) -/

/-- The two instants lie within 2 µs. -/
def near2 (x y : Gt) : Bool := decide (x ≤ y + us 2) && decide (y ≤ x + us 2)

/-- The freeze slots in use. -/
def Block.freezesUsed (b : Block) : List (Nat × Freeze) := b.freezes.filter (fun e => e.2.st != .free)

/-- The next `FREEZE_ID` from `n` that no slot in use holds (R284). -/
def nextFreezeId (used : List Nat) : Nat → Nat → Nat
  | 0, n => n % 255
  | f + 1, n => if used.contains (n % 255) then nextFreezeId used f (n + 1) else n % 255

/-- Takes the lowest Free slot for a freeze with the `FREEZE_ID` given, or with the next one. -/
def Block.takeFreeze (b : Block) (f : Freeze) (id : Option Nat) : Option (Nat × Block) :=
  match (upto 4).find? (fun i => (b.freezeSlot i).st == .free) with
  | none => none
  | some i =>
    let n := match id with
      | some n => n
      | none => nextFreezeId ((b.freezesUsed).map (fun e => e.2.id)) 5 b.freezeNext
    let b := { b with freezeNext := if id.isSome then b.freezeNext else (n + 1) % 255 }
    some (n, b.modFreeze i (fun _ => { f with st := .scheduled, id := n }))

/-- T of a slot is reached: its values are being collected (state Latched of R284). -/
def Freeze.reached (f : Freeze) (gt : Gt) : Bool := f.st == .scheduled && f.fixed && decide (f.t ≤ gt)

/-- State of a slot as `FREEZE_STATUS` codes it (R347). -/
def Freeze.code (f : Freeze) (gt : Gt) : Nat :=
  match f.st with
  | .free => 0
  | .scheduled => if f.reached gt then 2 else 1
  | .latched => 2
  | .done => 3

/-- The freeze of a snapshot (R266, R299): one within 2 µs is adopted, otherwise an own one; 0xFF without a slot. -/
def Block.snapFreeze (b : Block) (t : Gt) : Nat × Block :=
  match b.freezesUsed.find? (fun e => e.2.code b.gt == 1 && near2 e.2.t t) with
  | some e => (e.2.id, b)
  | none =>
    match b.takeFreeze { t := t, rootT := 0, node := 0xFFF } none with
    | some r => r
    | none => (0xFF, b)

/-- A snapshot starts for a cause at instant `t`, or is refused and counted (R266). DEDUCED, log entry 19. -/
def Block.startSnap (b : Block) (cause : Nat) (t : Gt) : Block :=
  let s := b.sync.snap
  if s.st == .capturing || (s.st == .valid && !s.overwrite) then
    b.modSync (fun s => { s with snapRefused := satAdd 32 s.snapRefused 1 })
  else
    let f := b.snapFreeze t
    let n := f.2.nextWalkSeq
    (f.2.modSync (fun s => { s with snap := { s.snap with
      st := .capturing, cause := cause, freezeId := f.1, t := some t, walkSeq := n, image := [] } })).startWalk

/-- A report whose bit is set in `SNAP_AUTO` starts a snapshot (R266). -/
def Block.autoSnap (b : Block) (cause : Nat) (on : Bool) : Block :=
  let lead := if b.sync.snap.lead = 0 then 4 else b.sync.snap.lead
  if on then b.startSnap cause (b.gt + us lead) else b

/-! ### No-progress sweep (R255, R264) -/

/-- The shadow entry as a receiver's copy shows it (R262). DEDUCED, log entry 18. -/
def Block.redactObj (b : Block) (recv : Nat) (x : Obj) : Obj :=
  let f := fun (w : Option Nat) => w.map (fun t => if b.shows recv t then t else 0x7FF)
  { x with w0 := f x.w0, w1 := f x.w1, w2 := f x.w2, w3 := f x.w3,
           sig := if x.sigValid && !b.shows recv x.sig then 0x7FF else x.sig }

/-- The 40 bytes of a no-progress report (R264). -/
def Block.noprogBytes (b : Block) (n : Nat) (x : Obj) (age recv : Nat) : List Byte :=
  padTo 40 (leBytes 2 n ++ (b.redactObj recv x).bytes ++ leBytes 2 age ++ gtBytes b.gt ++ leBytes 1 b.alEpoch ++
    leBytes 1 b.recBound)

/-- Age of an object's last progress in units of 16.384 µs (R255). -/
def Block.objAge (b : Block) (x : Obj) : Nat := (nsBits b.gt 14 16 + 2 ^ 16 - nsBits x.lastTouch 14 16) % 2 ^ 16

/-- The tenants of a list of taps. -/
def Block.tenantsOf (b : Block) (ts : List Nat) : List Nat := ts.filterMap b.tenantOfTap

/-- NOPROG_SWEEP_ENTRY (R255, R264, R265): the sweep examines one entry and may give a report, which starts a walk. -/
def execNoprogSweepEntry (s : State) : Host.Outcome State Fault Refusal :=
  s.run (fun b =>
    if !b.running then b
    else
      let n := b.sync.sweep
      let b := b.modSync (fun s => { s with sweep := (n + 1) % 16384, sweepLeft := s.sweepLeft - 1 })
      let x := b.obj n
      let age := b.objAge x
      if x.waits > 0 && !x.npReported && b.sync.npLimit != 0 && decide (b.sync.npLimit ≤ age) then
        let ws := [x.w0, x.w1, x.w2, x.w3].filterMap id
        let recvs := (if x.ownValid then [x.owner] else []) ++ b.tenantsOf ws ++ [64]
        let b := b.modObj n (fun x => { x with npReported := true })
        let x := b.obj n
        let b := b.modSync (fun s => { s with npReports := satAdd 32 s.npReports 1 })
        let b := b.deliver 1 recvs (b.noprogBytes n x age) 1 (fun _ => some n)
        b.startWalk.autoSnap 2 b.sync.snap.autoNoprog
      else b)

/-- NOPROG_WAKE (R256): the half-limit interval expires while an object has waiters; the block comes to Run, and stays
there until a sweep is complete. -/
def execNoprogWake (s : State) : Host.Outcome State Fault Refusal :=
  s.run (fun b =>
    let g := b.sync.npNext.getD b.gt
    if b.sync.npLimit ≠ 0 && b.sync.waiting && decide (g ≤ b.gt) then
      (b.modSync (fun s => { s with sweepLeft := 16384, npNext := some (g + b.npInterval) })).requestWake 4
    else b)

/-- KNOT_PERIOD_EXPIRY (R260, R261): `KNOT_PERIOD` since the last walk began; below Run the block wakes first. -/
def execKnotPeriodExpiry (s : State) : Host.Outcome State Fault Refusal :=
  s.run (fun b =>
    if b.sync.knotMs = 0 || b.gt < b.sync.lastWalk + ms b.sync.knotMs then b
    else
      let b := b.requestWake 4
      if b.running then b.startWalk else b)

/-- What the confirm pass makes of the cycles of a walk (R258, R259): confirmed ones in order of their lowest tap. -/
def Block.confirmed (b : Block) (w : Walk) : List Cycle × Nat :=
  let cs := knotWalk w.edges (w.edges.map (fun e => e.1)) [] []
  let ok := cs.filter (fun c => c.taps.all (fun t => b.edge t == storedEdge w.edges t))
  (sortBy (fun x y => decide (x.taps.headD 0 < y.taps.headD 0)) ok, cs.length - ok.length)

/-- Identity of a cycle among the known ones (R259). -/
def cycleId (w : Walk) (c : Cycle) : Nat × Nat × Nat :=
  let t := c.taps.headD 0
  (t, (match storedEdge w.edges t with | some (s, _) => s | none => 0), c.taps.length)

/-- A context of the tenant has used an object that a wait edge of the cycle names (R105). -/
def Block.cycleUsed (b : Block) (w : Walk) (c : Cycle) (o : Nat) : Bool :=
  c.taps.any (fun t => match storedEdge w.edges t with
    | some (_, false) => (b.obj (b.wait t).obj).users.contains o
    | _ => false)

/-- Delivers one Knot report (R262, R263, R265, R266): the event carries `HEAD_OBJ` of the receiver's copy.
DEDUCED, log entry 18. -/
def Block.knotReport (b : Block) (w : Walk) (c : Cycle) : Block :=
  let head := fun (o : Nat) =>
    if o = 64 || b.cycleUsed w c o then some ((b.headObj w (b.linksShown c o)).getD 0) else none
  let b' := b.deliver 0 (b.tenantsOf c.taps ++ [64]) (b.knotBytes w c) 0 head
  b'.autoSnap 1 b'.sync.snap.autoKnot

/-- The end of a walk and its confirm pass: known cycles, repeats, up to 16 reports, and the one walk that the causes of
its time, the reports' snapshots among them, asked for (R258 to R260). The number of cycles confirmed comes with it. -/
def Block.walkEnd (b : Block) (w : Walk) : Nat × Block :=
  let r := b.confirmed w
  let old := r.1.filter (fun c => b.sync.known.contains (cycleId w c))
  let new := r.1.filter (fun c => !b.sync.known.contains (cycleId w c))
  let rep := new.take 16
  let kept := b.sync.known.filter (fun k => r.1.any (fun c => cycleId w c == k))
  let b := b.modSync (fun s => { s with
    walks := satAdd 32 s.walks 1
    transient := satAdd 32 s.transient r.2
    repeats := satAdd 32 s.repeats old.length
    unreported := satAdd 32 s.unreported (new.length - rep.length)
    known := kept ++ (rep.take (64 - kept.length)).map (cycleId w) })
  let b := b.each rep (fun b c => b.knotReport w c)
  (r.1.length, (b.modSync (fun s => { s with walk := none })).nextWalk)

end Sys2Proof.Machine
end

