-- ==== Sys2Proof/Machine/Meas.lean ====
section
/-! DEFINITION. The measurement engine (16_security_measurement): images at weight-load taps, the measurement log and
table, and the measurement interface toward the security controller and the chip's controller. -/

namespace Sys2Proof.Machine

/-! ### The context table (R95) -/

def Block.ctxEntry (b : Block) (c : Nat) : Word := tget 0 b.ctxs c
def ctxValid (w : Word) : Bool := bit w 31
def ctxTenantOf (w : Word) : Nat := fld w 25 6
def ctxCapA (w : Word) : Bool := bit w 24
def ctxClasses (w : Word) : Nat := fld w 18 6
def ctxInterest (w : Word) : Nat := fld w 16 2

/-- The tenant of a context: that of its entry when `VALID` is 1. DEDUCED, log entry 63. -/
def Block.ctxTenant (b : Block) (c : Nat) : Option Nat :=
  let w := b.ctxEntry c
  if ctxValid w then some (ctxTenantOf w) else none

/-! ### The log (R451 to R455) -/

/-- The 80 bytes of a log entry (R451). Only status COMPLETE carries a digest (R447). -/
def Block.logBytes (b : Block) (i : LogInfo) (gap : Bool) : List Byte :=
  padTo 80 (leBytes 4 b.meas.built ++ leBytes 2 (pack [(11, i.image), (1, i.stage), (1, b2n i.fw)]) ++
    leBytes 1 i.status ++ leBytes 1 (b2n gap) ++ leBytes 2 i.tap ++
    leBytes 1 (match i.tenant with | some t => t + 64 | none => 0) ++ [0] ++ leBytes 4 (satTo 32 i.bytes) ++
    padTo 48 (if i.status = 0 then i.digest else []) ++ gtBytes i.gt ++ leBytes 1 i.epoch)

/-- A log entry is built: digest, ring or overflow, measurement table, records and interrupt (R450, R452, R454, R455). -/
def Block.logEntry (b : Block) (i : LogInfo) : Block :=
  let kept := decide (b.meas.ring.length < 256)
  let e := b.logBytes i (kept && b.meas.gap)
  let b := b.modMeas (fun m => { m with
    built := m.built + 1
    logDigest := sha384 (m.logDigest ++ e)
    ring := if kept then m.ring ++ [e] else m.ring
    gap := !kept
    overflow := if kept then m.overflow else satAdd 32 m.overflow 1
    table := tset none m.table (i.image * 2 + i.stage)
      (if i.status = 0 then some (i.bytes, i.tap, i.digest) else none) })
  let b := b.queueRec (b.mkRec 18 0 64 3 e)
  let b := match i.tenant with
    | some t => b.queueRec (b.mkRec 18 0 t 3 e)
    | none => b
  b.raise 64 17

/-- An entry takes its place among those that close in this brew cycle: the lower lane first (R464).
DEDUCED, log entry 108. -/
def insClosing (x : Nat × LogInfo) : List (Nat × LogInfo) → List (Nat × LogInfo)
  | [] => [x]
  | y :: t => if x.1 < y.1 then x :: y :: t else y :: insClosing x t

/-- An entry of lane `l` closes in this brew cycle (R464). DEDUCED, log entry 108. -/
def Block.close (b : Block) (l : Nat) (i : LogInfo) : Block :=
  b.modMeas (fun m => { m with closing := insClosing (l, i) m.closing })

/-- At the end of a brew cycle the entries that closed in it are built (R451, R452, R464). DEDUCED, log entry 108. -/
def Block.buildLog (b : Block) : Block :=
  (b.modMeas (fun m => { m with closing := [] })).each b.meas.closing (fun b x => b.logEntry x.2)

/-- The firmware entry of the patch image bytes measured (R453). DEDUCED, log entry 62. -/
def Block.firmwareEntry (b : Block) (image : List Byte) : Block :=
  let d := sha384 image
  (b.modMeas (fun m => { m with patchDigest := d, patchBytes := image.length })).logEntry
    { image := 0, stage := 0, fw := true, status := 0, tap := 0x7FF, tenant := none, bytes := image.length, digest := d,
      gt := b.gt, epoch := b.alEpoch }

/-! ### Images (R447 to R449) -/

/-- The image open on hash lane `l`. -/
def Block.lane (b : Block) (l : Nat) : Option Lane := tget none b.meas.lanes l

/-- The lane on which an image of tap `t` is open. -/
def Block.laneOf (b : Block) (t : Nat) : Option (Nat × Lane) :=
  (upto 8).findSome? (fun l =>
    match b.lane l with
    | some x => if x.tap = t then some (l, x) else none
    | none => none)

def Block.setLane (b : Block) (l : Nat) (x : Option Lane) : Block :=
  b.modMeas (fun m => { m with lanes := tset none m.lanes l x })

/-- Closes the image on a lane with a status. -/
def Block.closeLane (b : Block) (l : Nat) (x : Lane) (status : Nat) : Block :=
  (b.setLane l none).close l
    { image := x.image, stage := x.stage, status := status, tap := x.tap, tenant := x.tenant, bytes := x.count,
      digest := if status = 0 then sha384 x.bytes else [], gt := b.gt, epoch := b.alEpoch }

/-- Closes the image that is open at tap `t`, if there is one, with ABORTED. -/
def Block.abortImage (b : Block) (t : Nat) : Block :=
  match b.laneOf t with
  | some (l, x) => b.closeLane l x 4
  | none => b

/-- Every open image closes with ABORTED, the lower lane first (R447, R464). -/
def Block.abortImages (b : Block) : Block :=
  b.each (upto 8) (fun b l => match b.lane l with | some x => b.closeLane l x 4 | none => b)

/-- The tap is a weight-load tap (R215). -/
def Block.weightLoad (b : Block) (t : Nat) : Bool := bit (tget 0 b.assay.binding t) 5

/-- An M item of a weight-load tap takes its place on the assay path (R446, R449); IMAGE_BEGIN below Run wakes the block
(R448). -/
def Block.ctrlEntry (b : Block) (t : Nat) (p : Payload) (ctx : Nat) : Block :=
  let b := if payKind p = 0 && !b.running then b.requestWake 0 else b
  if (b.tap t).ctrl.length ≥ 16 then
    (b.modMeas (fun m => { m with ctrlDrop := satAdd 32 m.ctrlDrop 1 })).abortImage t
  else b.modTap t (fun x => { x with ctrl := x.ctrl ++ [(p, ctx, x.asy.length, 0)] })

/-- The control entry at the head of a tap's assay path: no beat is ahead of it. -/
def Tap.ctrlHead (t : Tap) : Option (Payload × Nat × Nat × Nat) :=
  match t.ctrl with
  | e :: _ => if e.2.2.1 = 0 then some e else none
  | [] => none

/-- Bytes of the image that were discarded: counted, not hashed (R449). -/
def Block.laneLost (b : Block) (t n : Nat) : Block :=
  if n = 0 then b
  else
    match b.laneOf t with
    | some (l, x) => b.setLane l (some { x with incomplete := true, count := x.count + n })
    | none => b.modMeas (fun m => { m with orphan := satAdd 32 m.orphan n })

/-- IMAGE_BEGIN (R447): opens an image on the lowest free lane; one already open on the tap closes ABORTED. -/
def execImageBegin (tap : Fin 2048) (s : State) : Host.Outcome State Fault Refusal :=
  s.run (fun b =>
    match (b.tap tap).ctrlHead with
    | some (p, ctx, _, lost) =>
      if !b.running || payKind p ≠ 0 then b
      else
        let b := (b.modTap tap (fun x => { x with ctrl := x.ctrl.drop 1 })).abortImage tap
        let x : Lane :=
          { tap := tap.val, stage := fld p 43 1, image := fld p 32 11, tenant := b.ctxTenant ctx, stagedGt := b.gt }
        match (upto 8).find? (fun l => (b.lane l).isNone) with
        | some l => (b.setLane l (some x)).laneLost tap lost
        | none =>
          (b.close 8 { image := x.image, stage := x.stage, status := 5, tap := tap.val, tenant := x.tenant, bytes := 0,
                       digest := [], gt := b.gt, epoch := b.alEpoch }).laneLost tap lost
    | none => b)

/-- IMAGE_END (R447): closes the image of the tap; with none open it has no effect. DEDUCED, log entry 28. -/
def execImageEnd (tap : Fin 2048) (s : State) : Host.Outcome State Fault Refusal :=
  s.run (fun b =>
    match (b.tap tap).ctrlHead with
    | some (p, _, _, lost) =>
      if !b.running || payKind p ≠ 1 then b
      else
        let b := b.modTap tap (fun x => { x with ctrl := x.ctrl.drop 1 })
        let b := match b.laneOf tap with
          | some (l, x) =>
            b.closeLane l x
              (if fld p 32 11 ≠ x.image || fld p 43 1 ≠ x.stage then 2
               else if x.incomplete then 3
               else if fld p 0 32 ≠ x.count then 1 else 0)
          | none => b
        b.laneLost tap lost
    | none => b)

/-- The staging buffer of a lane at `gt`: 128 bytes leave every 20 brew cycles of 0.625 ns (R448).
DEDUCED, log entry 28. -/
def Lane.drain (x : Lane) (gt : Gt) : Lane :=
  let n := min ((gt - x.stagedGt) / 3200) (x.staged / 128)
  { x with staged := x.staged - 128 * n, stagedGt := if x.staged / 128 = n then gt else x.stagedGt + 3200 * n }

/-- WEIGHT_LOAD_BEAT (R448, R449): the beat at the head of a weight-load tap's crossing buffer enters its lane's staging
buffer, is discarded when that is full, and counts as orphan bytes when no image is open. DEDUCED, log entry 28. -/
def execWeightLoadBeat (tap : Fin 2048) (s : State) : Host.Outcome State Fault Refusal :=
  s.run (fun b =>
    let x := b.tap tap
    match x.asy with
    | e :: rest =>
      if !b.running || !b.weightLoad tap || x.ctrlHead.isSome then b
      else
        let b := b.modTap tap (fun x => { x with
          asy := rest, ctrl := x.ctrl.map (fun c => (c.1, c.2.1, c.2.2.1 - 1, c.2.2.2)) })
        let n := if e.beat.bytes = 0 then 64 else e.beat.bytes.toNat
        let b := match b.laneOf tap with
          | none => b.modMeas (fun m => { m with orphan := satAdd 32 m.orphan n })
          | some (l, y) =>
            let y := y.drain b.gt
            if y.incomplete then b.setLane l (some { y with count := y.count + n })
            else if y.staged + n ≤ 32768 then
              b.setLane l (some { y with
                staged := y.staged + n, count := y.count + n, bytes := y.bytes ++ padTo n e.beat.data })
            else b.setLane l (some { y with incomplete := true, count := y.count + n })
        b.laneLost tap e.skip
    | [] => b)

/-! ### The measurement interface (R455, R456, R461, R462, R501) -/

/-- LOG_TAKE (R455): the security controller takes the oldest entry of the ring. -/
def execLogTake (s : State) : Host.Outcome State Fault Refusal :=
  s.run (fun b =>
    match b.meas.ring with
    | e :: t =>
      if b.running then (b.modMeas (fun m => { m with ring := t, taken := satAdd 32 m.taken 1 })).emit (.log e) else b
    | [] => b)

/-- `LOG_SEQ` of the last entry built; before the first entry it is a free value. DESIGN CHOICE, log entry 5. -/
def Block.lastLogSeq (b : Block) : Nat × Block :=
  if b.meas.built = 0 then (b.takeFree.1 % 2 ^ 32, b.takeFree.2) else ((b.meas.built - 1) % 2 ^ 32, b)

/-- The block answers a quote request (R456, R501). -/
def Block.serveQuote (b : Block) : Block :=
  let r := b.lastLogSeq
  r.2.modMeas (fun m => { m with quotePend := false, quoteAck := true, quoteDigest := m.logDigest, quoteSeq := r.1 })

/-- A quote request that waited is answered (R456, R501). -/
def Block.lateQuote (b : Block) : Block := if b.meas.quotePend then b.serveQuote else b

/-- QUOTE_REQUEST (R456, R501): `LOG_DIGEST` and its last `LOG_SEQ`; below Run the request wakes the block and waits,
as it does in Quiesce and PowerUp. -/
def execQuoteRequest (s : State) : Host.Outcome State Fault Refusal :=
  s.run (fun b =>
    if b.meas.quoteAck || b.power.st == .off then b
    else
      let b := b.requestWake 7
      if b.running then b.serveQuote else b.modMeas (fun m => { m with quotePend := true }))

/-- QUOTE_RELEASE (R501): the acknowledge falls with the request. -/
def execQuoteRelease (s : State) : Host.Outcome State Fault Refusal :=
  s.run (fun b => b.modMeas (fun m => { m with quoteAck := false, quotePend := false }))

/-- The 32-byte interface report of a tenant function (R461). -/
def Block.ifrReport (b : Block) (fn seq : Nat) : List Byte :=
  padTo 32 (leBytes 1 fn ++ leBytes 1 (b.epochOf fn) ++ leBytes 1 4 ++
    leBytes 1 (1 + 2 * b2n (b.tenant fn).cfgChanged) ++ leBytes 4 (fn * 0x1000) ++ leBytes 4 seq)

/-- IFR_REQUEST (R461, R501): served from the always-on copies in every state but Off. -/
def execIfrRequest (fn : Fin 64) (s : State) : Host.Outcome State Fault Refusal :=
  s.run (fun b =>
    if b.meas.ifrAck || b.power.st == .off then b
    else
      let r := b.lastLogSeq
      r.2.modMeas (fun m => { m with ifrAck := true, ifrData := r.2.ifrReport fn r.1 }))

/-- IFR_RELEASE (R501). -/
def execIfrRelease (s : State) : Host.Outcome State Fault Refusal :=
  s.run (fun b => b.modMeas (fun m => { m with ifrAck := false }))

/-- LOCK_STATE_CHANGE (R462): the controller reports which functions are locked. -/
def execLockStateChange (locked : BitVec 64) (s : State) : Host.Outcome State Fault Refusal :=
  s.run (fun b => b.each (upto 64) (fun b t => b.modTenant t (fun x => { x with locked := bit locked t })))

/-- A write of the operator that names tenant `n` or takes a resource from it (R462). DEDUCED, log entry 63. -/
def Block.cfgTouch (b : Block) (n : Nat) : Block :=
  if n < 64 && (b.tenant n).locked then
    (b.modTenant n (fun t => { t with cfgChanged := true })).emit (.cfgChanged n)
  else b

end Sys2Proof.Machine
end

