-- ==== Sys2Proof/Machine/Tap.lean ====
section
/-! DEFINITION. Grist taps (03_grist_taps) and their counter tiles (10_counters_freeze): the chain, the tap slot, context
and clock-state changes, drains, power-up, enables, and strobes. Each command carries `cyc`, the tap cycles since the
tap's previous command. -/

namespace Sys2Proof.Machine

/-! ### Counters (R275 to R283) -/

def Counter.en (c : Counter) : Bool := bit c.w0 0
def Counter.owner (c : Counter) : Nat := fld c.w0 1 7
def Counter.evsel (c : Counter) : Nat := fld c.w0 8 8
def Counter.reason (c : Counter) : Nat := fld c.w0 16 6
def Counter.cls (c : Counter) : Nat := fld c.w0 22 4
def Counter.clrOnFreeze (c : Counter) : Bool := bit c.w0 26
def Counter.report (c : Counter) : Bool := bit c.w0 27

/-- Granularity of a tenant's view of a counter as a power of two (R391). -/
def granLog2 (evsel : Nat) : Nat := if 1 ≤ evsel && evsel ≤ 7 then 12 else 6

/-- A value with its low bits cleared to the granularity; a saturated value stays all ones (R391). -/
def coarsen (evsel v : Nat) : Nat :=
  if v ≥ 2 ^ 48 - 1 then v else v / 2 ^ granLog2 evsel * 2 ^ granLog2 evsel

/-- The effective `REPORT_LOG2` (R275, R283). -/
def Counter.reportLog2 (c : Counter) : Nat :=
  let n := max 10 (fld c.w1 24 6)
  if c.owner < 64 then max n (granLog2 c.evsel) else n

/-- The counter counts work of a context (R278). -/
def Counter.covers (c : Counter) (ctx : Nat) : Bool :=
  c.owner ≥ 64 || (decide (fld c.w1 0 12 ≤ ctx) && decide (ctx ≤ fld c.w1 12 12))

/-- Adds to a counter: 48 bits, saturating (R11); passing a multiple of 2^`REPORT_LOG2` makes a report due (R282). -/
def Counter.add (c : Counter) (n : Nat) : Counter :=
  let v := satAdd 48 c.value n
  { c with value := v, pendC := c.pendC || (c.report && c.value / 2 ^ c.reportLog2 != v / 2 ^ c.reportLog2) }

/-- The selection of R276 counts each tap cycle in the tap's present condition. -/
def Tap.cycleSel (t : Tap) (c : Counter) : Bool :=
  let inState := fun (n : Nat) => match t.est with | some (s, _) => s == n | none => false
  match c.evsel with
  | 1 => true
  | 2 => inState 0
  | 3 => inState 1
  | 4 => inState 2
  | 5 => (match t.est with | some (s, r) => s == 2 && r == c.reason | none => false)
  | 6 => inState 3
  | 7 => t.clk == 1
  | _ => false

/-- Counts `n` tap cycles (R276 to R278, R280); a tile counts while the tap's enable is high. DEDUCED, log entry 26. -/
def Tap.countCycles (t : Tap) (n : Nat) : Tap :=
  if !t.en || n = 0 then t
  else
    let active := match t.est with | some (s, _) => s != 0 | none => false
    { t with
      cnt := tmap {} t.cnt (fun _ c => if c.en && t.cycleSel c && c.covers t.ctx then c.add n else c)
      aoCycles := satAdd 32 t.aoCycles n
      aoActive := if active then satAdd 32 t.aoActive n else t.aoActive }

/-- What an item adds to a counter (R276). DEDUCED, log entry 26. -/
def itemAdds (c : Counter) (cls : Nat) (p : Payload) : Nat :=
  let k := payKind p
  match c.evsel with
  | 8 => b2n (cls == c.cls)
  | 9 => b2n (cls == clsE && k == 0 && fld p 42 2 == 2)
  | 10 => b2n (cls == clsS && k == 0)
  | 11 => if cls = clsS && k = 2 then fld p 0 24 else 0
  | 12 => if cls = clsE && (k = 1 || k = 2) then fld p 0 24 else 0
  | 13 => if cls = clsE && k = 2 then fld p 24 12 else 0
  | 14 => b2n (cls == clsL && k == 1)
  | _ => 0

/-- Counts an accepted engine item (R279). DEDUCED, log entry 26. -/
def Tap.countItem (t : Tap) (cls : Nat) (p : Payload) : Tap :=
  { t with cnt := tmap {} t.cnt (fun _ c =>
      let n := itemAdds c cls p
      if c.en && n != 0 && c.covers t.ctx then c.add n else c) }

/-- Counts a tap happening of selection 0x0F or 0x10 (R276); such counters are the operator's. -/
def Tap.countTap (t : Tap) (sel : Nat) : Tap :=
  { t with cnt := tmap {} t.cnt (fun _ c => if c.en && c.evsel == sel then c.add 1 else c) }

/-! ### The passage of tap cycles -/

/-- The tap writes items: enabled and no drain acknowledged (R21, R87). -/
def Tap.writes (t : Tap) : Bool := t.en && !t.drainAck

/-- A counter report that falls due while the acknowledge is high is dropped (R87). -/
def Tap.dropReports (t : Tap) : Tap :=
  if t.drainAck then { t with cnt := tmap {} t.cnt (fun _ c => { c with pendC := false }) } else t

/-- The acknowledge of an abandoned drain falls in the cycle after the request was sampled low, and P UP with `ABORTED`
falls due in the first enabled cycle (R88, R89). -/
def Tap.lowerAck (t : Tap) : Tap :=
  if t.abandoned && t.drainAck then
    { t with
      drainReq := false, drainAck := false, drainCyc := 0, abandoned := false, pUp := some (true, false, t.drainLost) }
  else t

/-- A request that could not be sampled before is newly sampled in the first of `cyc` cycles (R86, R89). -/
def Tap.takeRequest (t : Tap) (cyc : Nat) : Tap :=
  match t.reqNext with
  | some pwr =>
    if t.abandoned then t
    else { t with
      reqNext := none, drainReq := true, drainCyc := cyc - 1, pDown := if t.writes then some pwr else t.pDown }
  | none => t

/-- `cyc` tap cycles pass: the delta counter, the drain time and the defer of a waiting anchor mark grow, and the tile
counts. An anchor mark that would need a defer above 15 is abandoned (R74). DESIGN CHOICE, log entry 7. -/
def Tap.advance (t : Tap) (cyc : Nat) : Tap :=
  if cyc = 0 then t
  else
    let t := t.countCycles cyc
    let t := { t with
      since := min (t.since + cyc) (2 ^ 48)
      drainCyc := if t.drainReq then t.drainCyc + cyc else t.drainCyc
      slotUsed := false
      engUsed := false
      pAnchor := match t.pAnchor with
        | some (n, s, p, d) => if d + cyc > 15 then none else some (n, s, p, d + cyc)
        | none => none }
    (t.dropReports.lowerAck).takeRequest cyc

/-- The oldest unclaimed item of a full chain is discarded (R72); the next A item carries `FULL` (R79). -/
def Tap.room (t : Tap) (below : Bool) : Tap :=
  if t.chain.length < 32 then t
  else { t.countTap 0x0F with
    chain := t.chain.drop 1, tapLost := satAdd 16 t.tapLost 1, w := t.w || below, full := true }

/-- An item enters the chain (R38, R72). -/
def Tap.push (t : Tap) (below : Bool) (cls : Nat) (p : Payload) (delta strobe : Nat) : Tap :=
  let t := t.room below
  { t with
    chain := t.chain ++ [{ cls := cls, delta := delta, pay := p, ctx := t.ctx, strobe := strobe }]
    since := 0 }

/-- An item enters the chain of tap `n`: an overwrite counts as a loss (R72, R509), and below Run the tap raises a wake
request (R22). -/
def Block.tapPush (b : Block) (n cls : Nat) (p : Payload) (delta strobe : Nat) : Block :=
  let b := b.requestWake 0
  let below := !b.running
  let lossy := decide ((b.tap n).chain.length ≥ 32)
  let g := b.gt
  let b := b.modTap n (fun t =>
    let t := t.push below cls p delta strobe
    if lossy then { t with lossAt := t.lossAt ++ [g] } else t)
  if lossy then b.loss (if below then 2 else 0) else b

/-- A tap-slot item enters the chain of tap `n`: the one that the tap slot takes in this cycle (R40, R71). -/
def Block.slotPush (b : Block) (n cls : Nat) (p : Payload) (delta strobe : Nat) : Block :=
  (b.modTap n (fun t => { t with slotUsed := true })).tapPush n cls p delta strobe

/-- The clock-state mark from state `old` to `new` (R50); one into running from stopped makes `FULL` pend (R79). -/
def Block.clockMark (b : Block) (n new old : Nat) : Block :=
  let d := min (b.tap n).since 4095
  (b.modTap n (fun t => { t with
    pClk := none, lastMark := new, full := t.full || (new == 0 && old == 2) })).slotPush n clsClock
      (pay (new * 2 ^ 42 + old * 2 ^ 40)) d 0

/-- `cyc` tap cycles pass at tap `n`. A clock-state mark that pends (R87) is written in the first of them, ahead of every
other item: it never waits (R73). -/
def Block.passTap (b : Block) (n cyc : Nat) : Block :=
  match (b.tap n).pClk with
  | some (new, old) =>
    if cyc > 0 && (b.tap n).writes then
      ((b.modTap n (fun t => t.advance 1)).clockMark n new old).modTap n (fun t => t.advance (cyc - 1))
    else b.modTap n (fun t => t.advance cyc)
  | none => b.modTap n (fun t => t.advance cyc)

/-- An enabled tap accepted an item: the activity that R467 and R471 look at. -/
def Block.activity (b : Block) : Block :=
  b.modPower (fun p => { p with lastAct := b.gt, lowAsked := p.lowAsked && !p.clkReq })

/-! ### Engine items (R64, R65, R80, R83) -/

/-- The padded-window judgement of R80 on a PAD payload. -/
def padJudge (p : Payload) : Payload :=
  let k := fld p 40 4 * fld p 36 4
  let total := fld p 24 12 * k
  setFld p 44 4 (if k ≥ 2 && fld p 0 24 * k ≥ (k - 1) * total then 2 else 1)

/-- What a tap does with an item that its engine presents. -/
inductive Accept where
  | item (p : Payload)
  | itemBad (p : Payload)
  | refusedA
  | bad
  deriving DecidableEq, Repr

/-- Acceptance by class and kind (R64, R65, R80, R83). -/
def Tap.judge (t : Tap) (cls : Nat) (p : Payload) : Accept :=
  let k := payKind p
  if cls = clsA then (if t.aEnable then .item p else .refusedA)
  else if cls = clsE then
    (if k = 0 || k = 3 then .item p else if k = 1 then .item (padJudge p) else if k = 2 then .itemBad (padJudge p) else .bad)
  else if cls = clsS then (if k < 4 then .item p else .bad)
  else if cls = clsP then (if k = 2 then .item p else .bad)
  else if cls = clsL then (if k < 3 then .item p else .bad)
  else if cls = clsM then (if k < 2 then .item p else .bad)
  else .bad

/-- Stores an accepted item: a delta-extend first after a gap above 4,095 cycles (R39), `FULL` on an A item (R79), the
engine state of an E STATE item (R277), and the control entry of an M item on a weight-load tap (R446).
DESIGN CHOICE, log entry 25. -/
def Block.storeItem (b : Block) (n cls : Nat) (p : Payload) : Block :=
  let gap := (b.tap n).since
  let b := if gap > 4095 then
      b.slotPush n clsDx (if gap ≥ 2 ^ 48 then BitVec.allOnes 48 else pay gap) 0xFFF 0 else b
  let full := (b.tap n).full || decide ((b.tap n).chain.length ≥ 32)
  let p := if cls = clsA then setFld p 47 1 (b2n full) else p
  let b := b.tapPush n cls p (if gap > 4095 then 0 else gap) 0
  let b := b.modTap n (fun t =>
    let t := t.countItem cls p
    { t with
      engUsed := true
      full := if cls = clsA then false else t.full
      est := if cls = clsE && payKind p = 0 then some (fld p 42 2, fld p 36 6) else t.est })
  let b := if cls = clsM && b.weightLoad n then b.ctrlEntry n p (b.tap n).ctx else b
  b.activity

/-- TAP_ACCEPT_ITEM (R82): the tap accepts, refuses or ignores the item that its engine presents; one engine item
enters the chain in a tap cycle (R71). DESIGN CHOICE, log entry 7. -/
def execTapAcceptItem (tap : Fin 2048) (cyc : Nat) (cls : BitVec 4) (p : Payload) (s : State) :
    Host.Outcome State Fault Refusal :=
  s.run (fun b =>
    let b := b.passTap tap cyc
    if !(b.tap tap).writes || (b.tap tap).engUsed then b
    else
      match (b.tap tap).judge cls.toNat p with
      | .item p => b.storeItem tap cls.toNat p
      | .itemBad p => (b.modTap tap (fun t => { t with badClass := true })).storeItem tap cls.toNat p
      | .refusedA => b.modTap tap (fun t => t.countTap 0x10)
      | .bad => b.modTap tap (fun t => { t with badClass := true }))

/-! ### The tap slot (R73 to R75, R282) -/

/-- Merges a cause of the O CONTEXT item into the pending one (R73): cause 0 switch, 1 enable rise, 2 wake. -/
def Tap.mergeCtx (t : Tap) (cause old : Nat) : Tap :=
  { t with pCtx := match t.pCtx with
      | none => some (cause, if cause = 0 then old else 0)
      | some (c, o) => some (max c cause, if max c cause = 0 then o else 0) }

/-- The pending counter with the lowest index that may write a report now (R282, R283): one report in each 64 µs of
`gt` for a tenant's counter. DEDUCED, log entry 14. -/
def Tap.dueC (t : Tap) (gt : Gt) : Option (Nat × Counter) :=
  t.cnt.find? (fun e => e.2.pendC && (decide (e.2.owner ≥ 64) || e.2.lastC != gt / us 64 + 1))

/-- The value that a C report carries (R282, R283). DEDUCED, log entry 14. -/
def Counter.reported (c : Counter) : Nat := if c.owner < 64 then coarsen c.evsel c.value else c.value

/-- Writes the highest-priority pending tap-slot item of tap `n` (R73). A tap-slot item carries the cycles since the
previous item up to 4,095 (R75), a wake P item 0 (R89). -/
def Block.slotWrite (b : Block) (n : Nat) : Block :=
  let t := b.tap n
  let d := min t.since 4095
  match t.pClk, t.pUp, t.pDown, t.pCtx, t.pAnchor with
  | some (new, old), _, _, _, _ => b.clockMark n new old
  | none, some (ab, cl, lost), _, _, _ =>
    let b := b.slotPush n clsP (pay (2 ^ 44 + b2n ab * 2 ^ 43 + b2n cl * 2 ^ 42 + b2n lost * 2 ^ 38)) 0 0
    b.modTap n (fun t =>
      { t.mergeCtx 2 0 with
        pUp := none, full := true, anchorReq := true, est := none
        pClk := if ab && t.clk != t.lastMark then some (t.clk, t.lastMark) else t.pClk })
  | none, none, some pwr, _, _ =>
    ((b.modTap n (fun t => { t with pDown := none })).slotPush n clsP (pay (pwr * 2 ^ 40)) d 0).abortImage n
  | none, none, none, some (cause, old), _ =>
    (b.slotPush n clsO (pay (t.ctx * 2 ^ 32 + old * 2 ^ 20 + cause * 2 ^ 18)) d 0).modTap n (fun t =>
      { t with pCtx := none, full := true })
  | none, none, none, none, some (num, sq, ph, df) =>
    (b.modTap n (fun t => { t with pAnchor := none })).slotPush n clsAnchor
      (pay (sq % 64 * 2 ^ 38 + ph % 64 * 2 ^ 32 + df * 2 ^ 28)) d num
  | none, none, none, none, none =>
    match t.dueC b.gt with
    | some (k, c) =>
      (b.modTap n (fun t => { t with
        cnt := tmod {} t.cnt k (fun c => { c with pendC := false, lastC := b.gt / us 64 + 1 }) })).slotPush n clsC
          (pay (k * 2 ^ 44 + c.reported % 2 ^ 44)) d 0
    | none => b

/-- TAP_SLOT_WRITE (R73): one tap-slot item of a tap that writes; a cycle holds one, ahead of the cycle's engine item
(R71). DESIGN CHOICE, log entry 7. -/
def execTapSlotWrite (tap : Fin 2048) (cyc : Nat) (s : State) : Host.Outcome State Fault Refusal :=
  s.run (fun b =>
    let b := b.passTap tap cyc
    let t := b.tap tap
    if t.writes && !t.slotUsed && !t.engUsed then b.slotWrite tap else b)

/-! ### Clock state and context (R50, R77, R84) -/

/-- The clock of the engine goes to another state; a stop holds a pending freeze strobe until the resume (R288). -/
def Tap.goesTo (t : Tap) (clk : Nat) : Tap := { t with clk := clk, frStop := t.frStop || (clk == 2 && t.frStrobe.isSome) }

/-- The state from which the mark of a change to `new` goes: that of the last mark, where an abandoned drain makes a mark due
in this cycle (R87) and the two differ, otherwise that of the previous cycle (R50). -/
def Tap.markFrom (t : Tap) (new : Nat) : Nat :=
  match t.pClk with
  | some (_, old) => if old = new then t.clk else old
  | none => t.clk

/-- The cycles that pass ahead of a change of `tp_clk_state` to `new`: a mark that an abandoned drain makes due in the
cycle of the change itself is one mark with the change's own (R73, R87). -/
def Block.passToChange (b : Block) (n cyc new : Nat) : Block :=
  if cyc = 1 && (b.tap n).pClk.isSome && new != 3 && new != (b.tap n).clk then b.modTap n (fun t => t.advance 1)
  else b.passTap n cyc

/-- A wake's P UP pends, and this is the first cycle in which it can be written (R89). DEDUCED, log entry 20. -/
def Tap.wakeFirst (t : Tap) : Bool := (match t.pUp with | some (false, _) => true | _ => false) && !t.slotUsed && !t.engUsed

/-- TAP_CLOCK_STATE_CHANGE (R50, R84): `tp_clk_state` differs from the previous cycle; 3 is treated as unchanged. The
clock-state mark is written in its cycle (R73); a change given with 0 cycles after the cycle's items were written falls
in the next cycle. In the first cycle after a power-up P UP is written, and the mark in the next (R89).
DESIGN CHOICE, log entry 7; DEDUCED, log entry 20. -/
def execTapClockStateChange (tap : Fin 2048) (cyc : Nat) (st : BitVec 2) (s : State) :
    Host.Outcome State Fault Refusal :=
  s.run (fun b =>
    let b := b.passToChange tap cyc st.toNat
    let t := b.tap tap
    if st = 3 then b.modTap tap (fun t => { t with badClass := true })
    else if st.toNat = t.clk then b
    else if !t.writes then b.modTap tap (fun t => t.goesTo st.toNat)
    else if t.wakeFirst then
      ((b.modTap tap (fun t => t.goesTo st.toNat)).slotWrite tap).modTap tap (fun u => { u with pClk := some (st.toNat, t.clk) })
    else
      let b := if t.slotUsed || t.engUsed then b.modTap tap (fun t => t.advance 1) else b
      (b.modTap tap (fun t => t.goesTo st.toNat)).clockMark tap st.toNat (t.markFrom st.toNat))

/-- TAP_CONTEXT_CHANGE (R77): `tp_ctx` differs from the previous cycle and an O CONTEXT item with cause 0 falls due. -/
def execTapContextChange (tap : Fin 2048) (cyc : Nat) (ctx : BitVec 12) (s : State) :
    Host.Outcome State Fault Refusal :=
  s.run (fun b => b.modTap tap (fun t =>
    let t := t.advance cyc
    if !t.ctxSeen || !t.writes || ctx.toNat = t.ctx then { t with ctx := ctx.toNat, ctxSeen := true }
    else { t.mergeCtx 0 t.ctx with ctx := ctx.toNat }))

/-! ### Drains and power (R24, R86 to R90) -/

/-- Every pending tap-slot item is dropped (R87, R91). -/
def Tap.dropPending (t : Tap) : Tap :=
  { t with
    pClk := none, pUp := none, pDown := none, pCtx := none, pAnchor := none
    cnt := tmap {} t.cnt (fun _ c => { c with pendC := false }) }

/-- TAP_DRAIN_REQUEST (R86): the request is sampled high with the power state to be entered; P DOWN falls due. A request
that rises again before an abandoned drain has ended is sampled when the acknowledge falls.
DEDUCED, log entry 20. -/
def execTapDrainRequest (tap : Fin 2048) (cyc : Nat) (pwr : BitVec 4) (s : State) : Host.Outcome State Fault Refusal :=
  s.run (fun b => b.modTap tap (fun t =>
    let t := t.advance cyc
    if t.drainReq && t.abandoned then { t with reqNext := some pwr.toNat }
    else if t.drainReq || t.reqNext.isSome then t
    else { t with drainReq := true, drainCyc := 0, pDown := if t.writes then some pwr.toNat else t.pDown }))

/-- The loss count `n` becomes pending at the station with a cause (R27): 1 drain, then 2 wake, then 0 overwrite. -/
def Block.foldLoss (b : Block) (t n cause : Nat) : Block :=
  if n = 0 then b
  else b.modView t (fun v => { v with loss := some (match v.loss with
    | some (m, c) => (m + n, if c = 1 || cause = 1 then 1 else if c = 2 || cause = 2 then 2 else 0)
    | none => (n, cause)) })

/-- A count of items overwritten while the brew domain woke, told by `W`, goes to the station's `WAKE_LOST` (R26, R509).
DESIGN CHOICE, log entry 78. -/
def Block.wakeLoss (b : Block) (n k : Nat) (w : Bool) : Block :=
  if w && k != 0 then (b.modStation (stOf n) (fun s => { s with wakeLost := satAdd 32 s.wakeLost k })).loss 2 else b

/-- The chain is emptied into the always-on ledger as a drain count of 16 bits (R24, R92, R487). A count of 0 marks the tap
stale, too (R252). DESIGN CHOICE, log entry 78. -/
def Block.drainChain (b : Block) (n : Nat) : Block :=
  let t := b.tap n
  let k := satAdd 16 t.tapLost t.chain.length
  let ls := t.lossAt ++ List.replicate t.chain.length b.gt
  let b := b.modTap n (fun t => { t with
    chain := [], tapLost := 0, lossAt := [], w := false, ledgerLost := satAdd 32 t.ledgerLost k, drainLost := k != 0 })
  let b := b.wakeLoss n t.tapLost t.w
  if k = 0 then b.markStale n else ((b.foldLoss n k 1).loss 1).lossSeen n (atChain ls)

/-- The drain acknowledge (R86, R87): what is unclaimed goes to the ledger, what pends is dropped, and the station holds
the engine as powered down (R518). It is given for a drain that was abandoned before, too (R88).
DEDUCED, log entry 20. -/
def Block.drainAckNow (b : Block) (n : Nat) : Block :=
  let b := (b.drainChain n).modView n (fun v => { v with down := true })
  b.modTap n (fun t => { t.dropPending with drainAck := true })

/-- TAP_DRAIN_ACK (R24, R86): given when the tap holds no unclaimed item, or in the 256th cycle after the request. -/
def execTapDrainAck (tap : Fin 2048) (cyc : Nat) (s : State) : Host.Outcome State Fault Refusal :=
  s.run (fun b =>
    let b := b.modTap tap (fun t => t.advance cyc)
    let t := b.tap tap
    if t.drainReq && !t.drainAck && ((t.chain.isEmpty && t.pDown.isNone) || decide (t.drainCyc ≥ 256)) then
      b.drainAckNow tap
    else b)

/-- TAP_DRAIN_ABANDON (R88): the request falls with power kept. Before the acknowledge, the tap still gives it; the cycle
after the request was sampled low, the acknowledge falls and P UP falls due. -/
def execTapDrainAbandon (tap : Fin 2048) (cyc : Nat) (s : State) : Host.Outcome State Fault Refusal :=
  s.run (fun b => b.modTap tap (fun t =>
    let t := t.advance cyc
    { t with reqNext := none, abandoned := t.drainReq }))

/-- TAP_POWER_UP (R89, R90): the tap starts anew, its clock state compared with running; its configuration and counters
come from retention, or from reset values when that was lost. A request already high is taken as newly sampled in the
next cycle. DEDUCED, log entry 20; DESIGN CHOICE, log entry 81. -/
def execTapPowerUp (tap : Fin 2048) (retentionLost drainReq : Bool) (pwr : BitVec 4) (ctx : BitVec 12) (s : State) :
    Host.Outcome State Fault Refusal :=
  s.run (fun b => b.modTap tap (fun t =>
    let t := { t.dropPending with
      chain := [], tapLost := 0, lossAt := [], w := false, since := 0, strobes := [], frStrobe := none, frLater := [], frStop := false, clk := 0, lastMark := 0
      slotUsed := false, engUsed := false, reqNext := if drainReq then some pwr.toNat else none
      drainReq := false, drainCyc := 0, drainAck := false, abandoned := false
      ctx := ctx.toNat, ctxSeen := true, est := none
      badClass := t.badClass || drainReq
      pUp := some (false, retentionLost, t.drainLost) }
    if retentionLost then
      { t with cnt := [], aoCycles := 0, aoActive := 0, aEnable := false, latch := none, cntLost := true }
    else t))

/-! ### Enables (R21, R91, R92) -/

/-- The always-on domain holds the tap's enable high: in use, present, and the block not Off or in reset (R21). -/
def Block.enableWanted (b : Block) (n : Nat) : Bool :=
  (b.tap n).use && b.present n && !b.power.quiesce && b.power.st != .off && b.power.goal != .off

/-- TAP_ENABLE_RISE (R91, R45, R252): the delta counter restarts, `FULL` pends and an O CONTEXT item falls due. -/
def execTapEnableRise (tap : Fin 2048) (cyc : Nat) (ctx : BitVec 12) (s : State) : Host.Outcome State Fault Refusal :=
  s.run (fun b =>
    let b := b.modTap tap (fun t => t.advance cyc)
    if (b.tap tap).en || !b.enableWanted tap then b
    else
      let b := b.modTap tap (fun t => { t.mergeCtx 1 0 with
        en := true, since := 0, full := true, est := none, ctx := ctx.toNat, ctxSeen := true })
      ((b.modView tap (fun v => { v with mark := none, markCyc := 0 })).markStale tap).realign)

/-- TAP_ENABLE_FALL (R91, R92): pending tap-slot items are dropped; on a block reset or the way to Off the chain goes to
the ledger as a drain count, otherwise the station keeps claiming it. -/
def execTapEnableFall (tap : Fin 2048) (cyc : Nat) (s : State) : Host.Outcome State Fault Refusal :=
  s.run (fun b =>
    let b := b.modTap tap (fun t => t.advance cyc)
    if !(b.tap tap).en || b.enableWanted tap then b
    else
      let b := b.modTap tap (fun t => { t.dropPending with en := false })
      let b := if b.power.quiesce || b.power.st == .off || b.power.goal == .off then b.drainChain tap else b
      b.realign)

/-! ### Strobes and requests (R517, R79, R281) -/

/-- The tap's clock is stopped: by its own report or by its region's. -/
def Block.tapStopped (b : Block) (n : Nat) : Bool := (b.tap n).clk == 2 || b.regionState (b.regionOfTap n) == 2

/-- TAP_STROBE_ARRIVAL (R517, R73): an anchor mark falls due for the marked edge; the newer strobe replaces a pending
one. A stopped tap, one whose enable is low and one whose drain is acknowledged ignore it. -/
def execTapStrobeArrival (tap : Fin 2048) (cyc : Nat) (phase : BitVec 6) (s : State) :
    Host.Outcome State Fault Refusal :=
  s.run (fun b =>
    let stopped := b.tapStopped tap
    b.modTap tap (fun t =>
      let t := t.advance cyc
      match t.strobes with
      | (num, sq) :: rest =>
        { t with
          strobes := rest
          pAnchor := if t.writes && !stopped then some (num, sq, phase.toNat, 0) else t.pAnchor }
      | [] => t))

/-- A configuration write takes effect in the tile (R281): a descriptor write clears the counter.
DEDUCED, log entries 29 and 94. -/
def Tap.applyCfg (t : Tap) : CfgWrite → Tap
  | .desc k w0 w1 => { t with cnt := tmod {} t.cnt k (fun c => { c with w0 := w0, w1 := w1, value := 0, pendC := false }) }
  | .aEnable on => { t with aEnable := on }

/-- TAP_CONFIG_APPLY (R281, R90): the oldest configuration write reaches the tap tile. -/
def execTapConfigApply (tap : Fin 2048) (cyc : Nat) (s : State) : Host.Outcome State Fault Refusal :=
  s.run (fun b => b.modTap tap (fun t =>
    let t := t.advance cyc
    match t.cfg with
    | c :: rest => { t.applyCfg c with cfg := rest }
    | [] => t))

/-- TAP_RESYNC_REQUEST (R79, R117): the request reaches the tap, whose next A item carries `FULL`. -/
def execTapResyncRequest (tap : Fin 2048) (s : State) : Host.Outcome State Fault Refusal :=
  s.run (fun b => b.modTap tap (fun t => if t.resync then { t with resync := false, full := true } else t))

end Sys2Proof.Machine
end

