-- ==== Sys2Proof/Machine/Station.lean ====
section
/-! DEFINITION. The station pipeline (R93): taking an item from a tap chain, its `gt`, the copies to the analysers, the
context table, the comparators, the Lauter filter, the capture gate, address compression and packing. -/

namespace Sys2Proof.Machine

/-! ### Stage 1: the pull (R27) -/

/-- A non-zero `TAP_LOST` moves to the ledger, and its LOSS marker becomes pending (R27, R26, R252).
DESIGN CHOICE, log entry 78. -/
def Block.ledgerMove (b : Block) (n : Nat) : Block :=
  let t := b.tap n
  if t.tapLost = 0 then b.modTap n (fun t => { t with w := false, lossAt := [] })
  else
    let k := t.tapLost
    let b := b.modTap n (fun t => { t with ledgerLost := satAdd 32 t.ledgerLost k, tapLost := 0, w := false, lossAt := [] })
    let b := b.wakeLoss n k t.w
    (b.foldLoss n k (if t.w then 2 else 0)).lossSeen n (atChain t.lossAt)

/-! ### Stage 2: `gt` (R42, R45, R517) -/

/-- An item that the tap itself generated, to which the 0xFFF of R75 applies. -/
def Entry.slotItem (e : Entry) : Bool :=
  e.cls == clsO || e.cls == clsC || e.cls == clsClock || e.cls == clsAnchor ||
    (e.cls == clsP && decide (payKind e.pay < 2))

/-- Tap cycles from the previous item to this one, where the item states them exactly (R39, R75, R76). -/
def Entry.cycles (e : Entry) : Option Nat :=
  if e.cls = clsDx then (if e.pay = BitVec.allOnes 48 then none else some e.pay.toNat)
  else if e.slotItem && e.delta == 0xFFF then none
  else some e.delta

/-- An anchor mark as the station's reference (R41, R42, R74, R517): a period from two marks with no clock-state mark
between them, and the `gt` of the marked cycle. DEDUCED, log entry 27. -/
def TapView.anchor (v : TapView) (p : TimePkt) (phase defer : Nat) : TapView :=
  let base : Int := (p.gt : Int) + p.adj + v.dTap
  let n : Int := 64 * ((v.markCyc : Int) - defer) + v.markPhase - phase
  let g : Int := 64 * (base - v.markBase)
  let period := if v.mark.isSome && !v.clkSince && decide (0 < n) && decide (0 < g) then some (g.toNat, n.toNat)
    else v.period
  let ph : Int := match period with | some (a, c) => (phase * a : Nat) / ((64 * c : Nat) : Int) | none => 0
  { v with
    period := period, mark := some (base + ph).toNat, markCyc := defer, clkSince := false
    markBase := base, markPhase := phase }

/-- What the station's view of a tap becomes with an item (R45, R518). -/
def Block.stage2 (b : Block) (n : Nat) (e : Entry) : Block :=
  let before := (b.view n).period
  let b := b.modView n (fun v => match e.cycles with
    | some c => { v with markCyc := v.markCyc + c }
    | none => { v with mark := none, markCyc := 0 })
  let b :=
    if e.cls = clsAnchor then
      match (b.station (stOf n)).pkts.find? (fun p => p.num == e.strobe) with
      | some p => b.modView n (fun v => v.anchor p (fld e.pay 32 6) (fld e.pay 28 4))
      | none => b.modView n (fun v => { v with mark := none })
    else if e.cls = clsClock then b.modView n (fun v => { v with clkSince := true })
    else if e.cls = clsP && payKind e.pay = 0 then b.modView n (fun v => { v with down := true })
    else if e.cls = clsP && payKind e.pay = 1 then
      b.modView n (fun v => { v with mark := none, down := false, upSeen := true })
    else b
  if (b.view n).period = before then b else b.realign

/-- The region of a tap is stretched (R52). -/
def Block.stretched (b : Block) (n : Nat) : Bool := b.regionState (b.regionOfTap n) == 1

/-- The `gt` of an S, E or L item (R45, R517). DEDUCED, log entry 27. -/
def Block.itemGt (b : Block) (n : Nat) : Gt :=
  let v := b.view n
  match v.mark with
  | none => b.gt
  | some m =>
    if b.stretched n then m
    else
      match v.period with
      | some (g, c) => m + v.markCyc * g / c
      | none => m

/-! ### Stage 3: copies (R14, R194, R240, R248, R90, R252) -/

/-- A copied S item enters its quadrant's sync queue or is dropped (R248). -/
def Block.syncAppend (b : Block) (n : Nat) (i : SItem) : Block :=
  let q := quadOf (stOf n)
  if (b.quad q).syncQ.length < 256 then b.modQuad q (fun x => { x with syncQ := x.syncQ ++ [i] })
  else (b.modSync (fun s => { s with drop := satAdd 32 s.drop 1 })).lossSeen n [(i.gt, false)]

/-- The window counts of an E PAD item go to the bound Assay unit (R240). -/
def Block.padCopy (b : Block) (n : Nat) (p : Payload) : Block :=
  let w := tget 0 b.assay.binding n
  if !bit w 4 || bit w 5 then b
  else
    let k := fld p 24 12
    let dg := if payKind p = 2 then k else 0
    b.modUnit (fld w 0 4) (fun u => { u with taps := tmod {} u.taps n (fun x =>
      match x.tensor with
      | some t => { x with tensor := some { t with padWin := satAdd 32 t.padWin k, degenWin := satAdd 32 t.degenWin dg } }
      | none => { x with padWait := satAdd 32 x.padWait k, degenWait := satAdd 32 x.degenWait dg }) })

/-- The station rewrites a tap's configuration from its mirror after a loss of retention (R90). -/
def Block.rewriteCfg (b : Block) (n : Nat) : Block :=
  let v := b.view n
  if !v.mirror then b
  else b.modTap n (fun t => { t with
    cfg := t.cfg ++ v.desc.map (fun e => CfgWrite.desc e.1 e.2.1 e.2.2) ++ [.aEnable v.aEn] })

/-- Stage 3 (R14, R182, R185, R188). -/
def Block.stage3 (b : Block) (n : Nat) (e : Entry) (gt : Gt) : Block :=
  let p := e.pay
  let k := payKind p
  if e.cls = clsE then
    let b := b.setTenant n (b.ctxTenant e.ctx) gt
    if k = 0 then
      (((b.pullLoss n).unquiet n gt).modView n (fun v => { v with
        est := some (fld p 42 2, fld p 36 6, bit p 35, fld p 24 11) })).resolveAll gt
    else
      let b := b.modView n (fun v => v.saw gt)
      if k = 1 || k = 2 then b.padCopy n p else b
  else if e.cls = clsS then
    (b.setTenant n (b.ctxTenant e.ctx) gt).syncAppend n
      { tap := n, gt := gt, pay := p, tenant := b.ctxTenant e.ctx }
  else if e.cls = clsL then (b.modView n (fun v => v.saw gt)).loopItem n p gt
  else if e.cls = clsP && k = 1 && bit p 42 then (b.rewriteCfg n).markStale n
  else b

/-! ### Stage 4: owners (R78, R97 to R100, R283) -/

/-- An item on its way to one owner's stream. -/
structure Delivery where
  owner : Nat
  interest : Nat
  ctx : Nat
  pay : Payload
  deriving DecidableEq, Repr

/-- Bit of a class in `CLASSES` of a context entry (R95). -/
def classBit (cls : Nat) : Option Nat :=
  if cls = clsO then some 0 else if cls = clsE then some 1 else if cls = clsS then some 2 else if cls = clsC then some 3
  else if cls = clsL then some 4 else if cls = clsM then some 5 else none

/-- One more item in `NO_CONTEXT` of a station (R97, R115). DEDUCED, log entry 74. -/
def Block.noContext (b : Block) (st : Nat) : Block :=
  b.modStation st (fun s => { s with noContext := satAdd 32 s.noContext 1 })

/-- A rejection counted in `LAUTER_REJECT` of an owner (R97, R103). -/
def Block.reject (b : Block) (st o : Nat) : Block :=
  b.modStation st (fun s => { s with reject := tmod 0 s.reject o (fun n => satAdd 32 n 1) })

/-- The delivery of an item to the tenant of context `c`, under `CLASSES` (R97). DEDUCED, log entry 74. -/
def Block.tenantDelivery (b : Block) (st cls c : Nat) (p : Payload) : List Delivery × Block :=
  let w := b.ctxEntry c
  if !ctxValid w then ([], b.noContext st)
  else
    let ok := match classBit cls with | some i => (ctxClasses w).testBit i | none => true
    if ok then ([{ owner := ctxTenantOf w, interest := ctxInterest w, ctx := c, pay := p }], b)
    else ([], b.reject st (ctxTenantOf w))

/-- The two copies of an O CONTEXT item of an engine switch between owners (R100): each list is one item, and the new owner's
copy passes stages 5 to 9 first. DEDUCED, log entry 74; DESIGN CHOICE, log entries 85 and 98. -/
def Block.contextCopies (b : Block) (st ctx : Nat) (p : Payload) : List (List Delivery) × Block :=
  let old := fld p 20 12
  let on := b.ctxTenant ctx
  let oo := b.ctxTenant old
  if fld p 18 2 ≠ 0 || on = oo then
    let r := b.tenantDelivery st clsO ctx p
    ([r.1], r.2)
  else
    let r1 := if on.isSome then b.tenantDelivery st clsO ctx (setFld (setFld p 20 12 0) 17 1 1) else ([], b)
    let r2 := if oo.isSome then r1.2.tenantDelivery st clsO old (setFld (setFld p 32 12 0) 17 1 1) else ([], r1.2)
    ([r1.1, r2.1], r2.2)

/-- Stage 4: the items, each as the deliveries that it is made to. DEDUCED, log entry 74. -/
def Block.stage4 (b : Block) (st n : Nat) (e : Entry) : List (List Delivery) × Block :=
  let w := b.ctxEntry e.ctx
  if isTiming e.cls then
    if !ctxValid w then ([], b.noContext st)
    else
      let d : Delivery := { owner := ctxTenantOf w, interest := ctxInterest w, ctx := e.ctx, pay := e.pay }
      ([if (b.view n).aEn then [d, { d with owner := 64 }] else [d]], b)
  else if e.cls = clsA then
    if !ctxValid w then ([], (b.noContext st).needFull st [n % 64])
    else if !ctxCapA w then ([], b.needFull st [n % 64])
    else ([[{ owner := 64, interest := ctxInterest w, ctx := e.ctx, pay := e.pay }]], b)
  else if e.cls = clsC then
    if !ctxValid w then ([], b.noContext st)
    else
      let o := (tget {} (b.tap n).cnt (payKind e.pay)).owner
      let lvl := if b.ctxTenant e.ctx = some o then ctxInterest w else 0
      ([[{ owner := o, interest := lvl, ctx := e.ctx, pay := e.pay }]], b)
  else if e.cls = clsO then b.contextCopies st e.ctx e.pay
  else
    let r := b.tenantDelivery st e.cls e.ctx e.pay
    ([r.1], r.2)

/-! ### Stage 6: the Lauter filter (R101 to R103) -/

/-- Bit of a class in `CLASSES` of a rule (R101). -/
def ruleBit (cls : Nat) : Nat :=
  if cls = clsA then 3 else if cls = clsO then 4 else if cls = clsE then 5 else if cls = clsS then 6
  else if cls = clsC then 7 else if cls = clsL then 8 else 9

/-- The range field of an item (R102). -/
def rangeField (cls : Nat) (p : Payload) : Option Nat :=
  if cls = clsA then some (fld p 0 38) else if cls = clsS then some (fld p 30 14)
  else if cls = clsE && payKind p = 0 then some (fld p 0 24) else none

/-- A rule matches an item (R102). -/
def ruleMatches (r : List Word) (cls l : Nat) (d : Delivery) : Bool :=
  let w := fun (i : Nat) => r.getD i 0
  let lo := (w 2).toNat + 2 ^ 32 * fld (w 4) 0 6
  let hi := (w 3).toNat + 2 ^ 32 * fld (w 4) 16 6
  bit (w 0) 0 && fld (w 0) 22 7 == d.owner && bit (w 0) (ruleBit cls) &&
    decide (fld (w 0) 10 6 ≤ l) && decide (l ≤ fld (w 0) 16 6) &&
    decide (fld (w 1) 0 12 ≤ d.ctx) && decide (d.ctx ≤ fld (w 1) 12 12) &&
    (!bit (w 0) 2 || (match rangeField cls d.pay with | some f => decide (lo ≤ f) && decide (f ≤ hi) | none => false))

/-- The filter passes the item (R103). -/
def Station.passes (s : Station) (cls l : Nat) (d : Delivery) : Bool :=
  match s.rules.find? (fun e => ruleMatches e.2 cls l d) with
  | some e => bit (e.2.getD 0 0) 1
  | none => !s.defExclude.contains d.owner

/-! ### Stages 8 and 9: packing (R116, R121, R122, R136, R142) -/

/-- The stream's record of a tap. -/
def Station.streamTap (s : Station) (o l : Nat) : StreamTap := tget {} s.stap (skey o l)

/-- The stream delta of an item (R121, R131): `own` is the tap delta that counts into the sum. -/
def StreamTap.delta (x : StreamTap) (e : Entry) : SDelta :=
  if !x.seen || x.skipped then .unknown
  else if e.slotItem && e.delta == 0xFFF then (if x.summed then .unknown else .over)
  else .known (x.sum + (if e.cls = clsDx then 0 else e.delta))

/-- TCAL entry and TIME packet that precede an anchor mark in a stream (R136, R142): TCAL is placed, the TIME packet's
bytes are answered, to go in the mark's own unit. -/
def Block.beforeMark (b : Block) (st o lvl n : Nat) (e : Entry) : List Byte × Block :=
  let l := n % 64
  let x := (b.station st).streamTap o l
  let f2 := b.fmt2Of o
  let b := if x.tcalDue && !f2 then b.place st o lvl (tcalPacket l b.alEpoch (b.view n).dTap) none false else b
  let b := b.modStation st (fun s => { s with stap := tmod {} s.stap (skey o l) (fun x => { x with tcalDue := false }) })
  match (b.station st).pkts.find? (fun p => p.num == e.strobe) with
  | some p =>
    if tget 0 (b.station st).stime (skey o p.seq) = p.num then ([], b)
    else (timePacket f2 p, b.modStation st (fun s => { s with stime := tset 0 s.stime (skey o p.seq) p.num }))
  | none => ([], b)

/-- The tap's pending LOSS marker goes to its tenant's stream ahead of a captured item (R27, R120, R138); while the
capture gate withholds that tenant's items it is dropped. DEDUCED, log entry 73. -/
def Block.lossMarker (b : Block) (st n lvl ctx : Nat) (gate : Nat → Bool) : Block :=
  match (b.view n).loss, b.ctxTenant ctx with
  | some (k, c), some o =>
    let b := b.modView n (fun v => { v with loss := none })
    if gate o then (b.alignTo st o).place st o lvl (lossPacket (b.fmt2Of o) (n % 64) c k) none true else b
  | _, _ => b

/-- Places an item in its owner's stream (the need-full flag that its placing may set again is cleared before, R117): a new
epoch's ALIGN record first, then TCAL and TIME before an anchor mark,
then the item in its open unit. -/
def Block.placeItem (b : Block) (st n lvl : Nat) (e : Entry) (d : Delivery) (str : Bool) : Block :=
  let o := d.owner
  let l := n % 64
  let f2 := b.fmt2Of o
  let b := b.alignTo st o
  let r := if e.cls = clsAnchor then b.beforeMark st o lvl n e else ([], b)
  let b := r.2
  let x := (b.station st).streamTap o l
  let sd := x.delta e
  let full := bit d.pay 47 || (b.view n).needFull
  let bytes := if e.cls = clsA then aPacket f2 l str sd d.pay full x.prevAddr else itemPacket f2 e.cls l str sd d.pay
  let b := if e.cls = clsA then b.modView n (fun v => { v with needFull := false }) else b
  let b := b.place st o lvl (r.1 ++ bytes) (if e.cls = clsA then some l else none) false
  (b.modStation st (fun s => { s with stap := tmod {} s.stap (skey o l) (fun x => { x with
    seen := true, sum := 0, summed := false, skipped := false
    prevAddr := if e.cls = clsA then some (fld d.pay 0 38) else x.prevAddr }) })).markLive st o

/-- Sums an item into the streams of the tap in which it was not placed (R121, R131). -/
def Block.sumSkipped (b : Block) (st n : Nat) (e : Entry) (placed : List Nat) : Block :=
  b.modStation st (fun s => { s with stap := tmap {} s.stap (fun k x =>
    if k % 64 != n % 64 || !x.seen || placed.contains (k / 64) then x
    else { x with
      sum := x.sum + (if e.cls = clsDx then 0 else e.delta)
      summed := true
      skipped := x.skipped || isTiming e.cls || (e.slotItem && e.delta == 0xFFF) }) })

/-! ### Stages 5 to 9 for one item -/

/-- One delivery after the comparators (R103, R104, R110, R114, R27): the owners whose streams took it are collected.
DEDUCED, log entries 9, 10 and 73. -/
def Block.deliverItem (b : Block) (st n : Nat) (e : Entry) (gate : Nat → Bool) (floor : Nat → Nat) (str : Bool)
    (d : Delivery) : Bool × Block :=
  let l := n % 64
  let lost := fun (b : Block) => if e.cls = clsA then b.needFull st [l] else b
  if !isTiming e.cls && !(b.station st).passes e.cls l d then (false, lost (b.reject st d.owner))
  else if !gate d.owner then
    let b := b.modSeq st (fun q => { q with suppress := satAdd 32 q.suppress 1 })
    let b := if b.ctxTenant e.ctx = some d.owner then b.modView n (fun v => { v with loss := none }) else b
    (false, lost b)
  else
    let lvl := max d.interest (floor d.owner)
    (true, (b.lossMarker st n lvl e.ctx gate).placeItem st n lvl e d str)

/-- Stages 5 to 9 for one item with its deliveries: comparators, filter, gate and packing, then the transition that the
item causes (R105, R110 to R112). DEDUCED, log entries 9 and 10. -/
def Block.stage5 (b : Block) (st n : Nat) (e : Entry) (gt : Gt) (ds : List Delivery) : List Nat × Block :=
  match ds with
  | [] => ([], b)
  | d0 :: _ =>
    let q := (b.station st).seq
    let sees := q.en && (q.owner == 64 || ds.any (fun d => d.owner == q.owner))
    let ev : CmpIn := { source := 0, subsel := e.cls, field := d0.pay.toNat, tap := n % 64, ctx := d0.ctx }
    let r := if sees then q.update ev else (0, q)
    let act := if sees then r.2.choose r.1 else .none
    let b := b.modSeq st (fun _ => r.2)
    let gate := fun (o : Nat) => !q.en || o != q.owner || q.captures q.st || q.captures (act.next q.st)
    let floor := fun (o : Nat) => if q.en && o == q.owner && q.st == .post then q.postInterest else 0
    let str := b.stretched n
    let x := ds.foldl (fun (a : List Nat × Block) d =>
      let y := a.2.deliverItem st n e gate floor str d
      (if y.1 then a.1 ++ [d.owner] else a.1, y.2)) ([], b)
    (x.1, x.2.seqAct st act q.st 0 (n % 64) r.1 gt)

/-- The place of a tap in the order of service of a brew cycle, after the tap served last in the cycle before (R94). -/
def Station.place (x : Station) (l : Nat) : Nat := (l + 127 - x.cycTap) % 64

/-- The taps of one brew cycle are served in ascending order from the tap after the last one of the cycle before, wrapping
from 63 to 0, each at most once and 8 in all (R12, R94): a tap that the cycle has passed waits for the next. An event that
has arrived in the cycle goes first (R110). DESIGN CHOICE, log entry 7. -/
def Station.mayTake (x : Station) (l : Nat) (g : Gt) : Bool :=
  (x.takeGt != some g || (decide (x.taken < 8) && decide (x.place x.lastTap < x.place l))) && (x.firstEvent g).isNone

/-- The station has served a tap (R94). DESIGN CHOICE, log entry 7. -/
def Station.took (x : Station) (l : Nat) (g : Gt) : Station :=
  { x with
    lastTap := l, takeGt := some g, cycTap := if x.takeGt = some g then x.cycTap else x.lastTap
    taken := if x.takeGt = some g then x.taken + 1 else 1 }

/-- STATION_TAKE_ITEM (R93, R94): the station pulls the head of a tap's chain and passes it through its stages.
DESIGN CHOICE, log entries 7 and 82. -/
def execStationTakeItem (st : Fin 32) (localTap : Fin 64) (s : State) : Host.Outcome State Fault Refusal :=
  s.run (fun b =>
    let n := 64 * st.val + localTap.val
    match (b.tap n).chain with
    | e :: rest =>
      if !b.running || !(b.station st).mayTake localTap b.gt then b
      else
        let b := (b.modTap n (fun t => { t with chain := rest })).modStation st (fun s => s.took localTap b.gt)
        let b := (b.ledgerMove n).stage2 n e
        let gt := if e.cls = clsS || e.cls = clsE || e.cls = clsL then b.itemGt n else b.gt
        let r := (b.stage3 n e gt).stage4 st n e
        let x := r.1.foldl (fun (a : List Nat × Block) ds =>
          let y := a.2.stage5 st n e gt ds
          (a.1 ++ y.1, y.2)) ([], r.2)
        x.2.sumSkipped st n e x.1
    | [] => b)

end Sys2Proof.Machine
end

