-- ==== Sys2Proof/Machine/Assay.lean ====
section
/-! DEFINITION. The Assay units (08_assay): element formats, binary64 sums, rounding into narrow fields, rows, tensors,
candidate codes, drift, Y records, and the commands TAP_ASSAY_BEAT, ASSAY_BEAT_TAKE, ROW_COMMIT, TENSOR_GAP_EXPIRY and
TENSOR_RECORD_PLACE. -/

namespace Sys2Proof.Machine

/-! ### Exact values and rounding (R228, R236) -/

/-- An exact value m × 2^e. -/
abbrev Dyad := Int × Int

/-- `a × 2^s` as a fraction of naturals over `d`. -/
def scaled (a d : Nat) (s : Int) : Nat × Nat := if 0 ≤ s then (a * 2 ^ s.toNat, d) else (a, d * 2 ^ (-s).toNat)

/-- ⌊log₂ (n ÷ d)⌋ for positive n and d. -/
def floorLog2 (n d : Nat) : Int :=
  let k : Int := (Nat.log2 n : Int) - (Nat.log2 d : Int)
  let r := scaled n d (-k)
  if r.2 ≤ r.1 then k else k - 1

/-- The quotient rounded to nearest, ties to even, and whether it was an exact tie. PRESUMED, log entry 66. -/
def rne (n d : Nat) : Nat × Bool :=
  let q := n / d
  let r := n % d
  if 2 * r > d then (q + 1, false) else if 2 * r = d then (if q % 2 = 0 then q else q + 1, true) else (q, false)

/-- The positive value n ÷ d × 2^e rounded to a binary floating-point format with `f` fraction bits and smallest normal
exponent `emin`: the encoding without its sign, and whether it was an exact tie. PRESUMED, log entry 66. -/
def roundFloat (f : Nat) (emin : Int) (n d : Nat) (e : Int) : Nat × Bool :=
  if n = 0 then (0, false)
  else
    let r := scaled n d e
    let x := max (floorLog2 r.1 r.2) emin
    let s := scaled r.1 r.2 ((f : Int) - x)
    let q := rne s.1 s.2
    ((x - emin).toNat * 2 ^ f + q.1, q.2)

/-- A conversion into a narrower field (R236): the code, whether it was an exact tie, whether it saturated. -/
structure Conv where
  code : Nat
  tie : Bool
  sat : Bool
  deriving DecidableEq, Repr

/-- The non-zero rounding result `q` of a field whose largest code is `top` (R236). -/
def Conv.of (q : Nat × Bool) (top : Nat) : Conv :=
  if q.1 > top then ⟨top, q.2, true⟩ else if q.1 = 0 then ⟨1, q.2, true⟩ else ⟨q.1, q.2, false⟩

/-- The value of a binary64 encoding; an infinity reads as ±2^1024, which rounds to itself. -/
def f64Val (x : F64) : Dyad :=
  let e := fld x 52 11
  let m := fld x 0 52
  let v : Dyad := if e = 0 then ((m : Int), -1074) else ((m + 2 ^ 52 : Nat), (e : Int) - 1075)
  if bit x 63 then (-v.1, v.2) else v

/-- An exact value rounded to binary64; a zero is +0. PRESUMED, log entry 66. -/
def f64Of (v : Dyad) : F64 :=
  if v.1 = 0 then 0
  else
    let c := min (roundFloat 52 (-1022) v.1.natAbs 1 v.2).1 (0x7FF * 2 ^ 52)
    BitVec.ofNat 64 (c + if v.1 < 0 then 2 ^ 63 else 0)

/-- The exact sum of two values. -/
def Dyad.add (a b : Dyad) : Dyad :=
  let e := min a.2 b.2
  (a.1 * 2 ^ (a.2 - e).toNat + b.1 * 2 ^ (b.2 - e).toNat, e)

/-- A binary64 addition (R228). PRESUMED, log entry 66. -/
def f64Add (a b : F64) : F64 := f64Of (Dyad.add (f64Val a) (f64Val b))

/-- One level of the pairwise tree. -/
def pairSums : List F64 → List F64
  | a :: b :: t => f64Add a b :: pairSums t
  | l => l

/-- `beat_sum` of R228 over the lanes of a beat. -/
def beatSum : Nat → List F64 → F64
  | 0, l => l.headD 0
  | n + 1, l => beatSum n (pairSums l)

/-- A binary64 value converted to binary32 (R236). PRESUMED, log entry 66. -/
def toF32 (x : F64) : Nat × Conv :=
  let v := f64Val x
  if v.1 = 0 then (0, ⟨0, false, false⟩)
  else
    let c := Conv.of (roundFloat 23 (-126) v.1.natAbs 1 v.2) 0x7F7FFFFF
    (c.code + (if v.1 < 0 then 2 ^ 31 else 0), c)

/-! ### Element formats (R224 to R226) -/

/-- Element size in bits. -/
def fmtBits (fmt : Nat) : Nat := match fmt with | 0 => 4 | 1 => 8 | 2 => 8 | 3 => 8 | 4 => 16 | 5 => 16 | _ => 32

/-- Lanes per beat. -/
def fmtLanes (fmt : Nat) : Nat := 512 / fmtBits fmt

/-- Fraction bits and bias of a floating-point format; `none` for the integer formats. -/
def fmtFloat (fmt : Nat) : Option (Nat × Nat) :=
  match fmt with
  | 2 => some (3, 7)
  | 3 => some (2, 15)
  | 4 => some (10, 15)
  | 5 => some (7, 127)
  | 6 => some (23, 127)
  | _ => none

/-- An element: NaN, an infinity, or a finite value given by a key that orders as the values do. -/
inductive Elem where
  | nan | inf
  | fin (key : Int)
  deriving DecidableEq, Repr

/-- The element that a code of `fmt` stands for (R224). The key of a float is its encoding without the sign, negated for
a negative value; that of an integer is the integer. -/
def elemOf (fmt code : Nat) : Elem :=
  let w := fmtBits fmt
  match fmtFloat fmt with
  | none => .fin (sfld code 0 w)
  | some (f, _) =>
    let mag := nfld code 0 (w - 1)
    let inf := (2 ^ (w - 1 - f) - 1) * 2 ^ f
    if fmt = 2 then (if mag = 0x7F then .nan else .fin (if code.testBit 7 then -(mag : Int) else mag))
    else if mag = inf then .inf
    else if mag > inf then .nan
    else .fin (if code.testBit (w - 1) then -(mag : Int) else mag)

/-- The magnitude that an unsigned key stands for, as m × 2^e. -/
def magOf (fmt mag : Nat) : Nat × Int :=
  match fmtFloat fmt with
  | none => (mag, 0)
  | some (f, bias) =>
    let e := mag / 2 ^ f
    let m := mag % 2 ^ f
    if e = 0 then (m, 1 - (bias : Int) - (f : Int)) else (m + 2 ^ f, (e : Int) - (bias : Int) - (f : Int))

/-- The value of a key. -/
def keyVal (fmt : Nat) (key : Int) : Dyad :=
  let v := magOf fmt key.natAbs
  (if key < 0 then -(v.1 : Int) else v.1, v.2)

/-- `MIN` and `MAX` as encoded (R227). -/
def keyCode (fmt : Nat) (key : Int) : Nat :=
  match fmtFloat fmt with
  | none => twos 32 key
  | some _ => key.natAbs + if key < 0 then 2 ^ (fmtBits fmt - 1) else 0

/-- Codes of the whole elements of a byte list (R225). -/
def codesOf (fmt : Nat) : Nat → List Byte → List Nat
  | 0, _ => []
  | n + 1, bs =>
    if fmt = 0 then
      match bs with
      | [] => []
      | x :: t => x.toNat % 16 :: x.toNat / 16 :: codesOf fmt n t
    else
      let k := fmtBits fmt / 8
      if bs.length < k then [] else leNat (bs.take k) :: codesOf fmt n (bs.drop k)

/-- Valid bytes of a beat: 0 means 64. -/
def beatCount (e : Beat) : Nat := if e.bytes = 0 then 64 else e.bytes.toNat

/-- The elements of a beat. -/
def beatElems (e : Beat) : List Elem :=
  (codesOf e.fmt.toNat 64 (padTo (beatCount e) e.data)).map (elemOf e.fmt.toNat)

/-- The finite value of a lane as binary64, +0 otherwise (R228). DEDUCED, log entry 31. -/
def Elem.lane (fmt : Nat) (square : Bool) : Elem → F64
  | .fin k =>
    let v := keyVal fmt k
    f64Of (if square then (v.1 * v.1, v.2 + v.2) else v)
  | _ => 0

/-- `beat_sum` of a beat's values or squares. -/
def beatTotal (e : Beat) (square : Bool) : F64 :=
  let l := fmtLanes e.fmt.toNat
  beatSum 7 (((beatElems e).map (Elem.lane e.fmt.toNat square) ++ List.replicate l 0).take l)

/-! ### Rows (R220, R226, R227) -/

/-- One element enters the statistics of its row. -/
def Row.addElem (r : Row) (x : Elem) : Row :=
  let r := { r with elems := r.elems + 1 }
  match x with
  | .nan => { r with nans := r.nans + 1, nonfinite := true }
  | .inf => { r with infs := r.infs + 1, nonfinite := true }
  | .fin k =>
    { r with
      absKey := max r.absKey k.natAbs
      minKey := if r.anyFinite then min r.minKey k else k
      maxKey := if r.anyFinite then max r.maxKey k else k
      anyFinite := true
      neg := r.neg || decide (k < 0)
      pos := r.pos || decide (0 < k)
      vals := r.vals ++ [keyVal r.fmt k] }

/-- A beat enters its row. -/
def Row.addBeat (r : Row) (e : Beat) : Row :=
  let r := (beatElems e).foldl Row.addElem r
  { r with
    sum := f64Add r.sum (beatTotal e false)
    sumsq := f64Add r.sumsq (beatTotal e true)
    ragged := r.ragged || decide (beatCount e * 8 % fmtBits r.fmt ≠ 0) }

/-- The row is in progress: accepted, not skipped, its last beat not yet processed. -/
def Row.inProgress (r : Row) : Bool := r.accept && !r.bad && !r.done

/-! ### Units, profiles and references (R216, R230 to R232) -/

def AsyUnit.en (u : AsyUnit) : Bool := bit u.ctl 0
def AsyUnit.owner (u : AsyUnit) : Nat := fld u.ctl 1 7
/-- `TENSOR_GAP` in µs; 0 acts as 5 (R216). -/
def AsyUnit.gap (u : AsyUnit) : Nat := let g := fld u.ctl 8 8; if g = 0 then 5 else g

/-- A profile at its reset values (R230). -/
def profReset : List Word := [0x0F000080#32, 0, 0x0010F100#32]

def Block.profile (b : Block) (p : Nat) : List Word := tget profReset b.assay.profiles p

/-- Field of a profile: word, lowest bit, width. -/
def pfld (p : List Word) (w lo n : Nat) : Nat := fld (p.getD w 0) lo n

/-- A reference entry at its reset value (R232). -/
def refReset : Word := 0x7FC00000#32

def Block.ref (b : Block) (i : Nat) : Word := tget refReset b.assay.refs i

def Block.binding (b : Block) (t : Nat) : Word := tget 0 b.assay.binding t
/-- The tap feeds a unit (R215): `ASY_EN`, and not a weight-load tap. -/
def asyOn (w : Word) : Bool := bit w 4 && !bit w 5
def asyUnitOf (w : Word) : Nat := fld w 0 4

/-- The taps that feed a unit, rising. -/
def Block.boundTaps (b : Block) (u : Nat) : List Nat :=
  (b.assay.binding.filter (fun e => asyOn e.2 && asyUnitOf e.2 == u)).map Prod.fst

def Block.asyTap (b : Block) (u t : Nat) : AsyTap := tget {} (b.unit u).taps t
def Block.modAsyTap (b : Block) (u t : Nat) (f : AsyTap → AsyTap) : Block :=
  b.modUnit u (fun x => { x with taps := tmod {} x.taps t f })

/-- The profile that a unit of `owner` takes for tensor ID `tid` (R231). -/
def Block.matchProfile (b : Block) (owner tid : Nat) : Option Nat :=
  (upto 64).find? (fun p =>
    let w := b.profile p
    pfld w 0 0 1 == 1 && pfld w 0 1 7 == owner && pfld w 0 8 16 == tid)

/-- The reference of row `r` (R232) as m × 2^e; `none` when the row has none. -/
def Block.refOf (b : Block) (p : List Word) (r : Nat) : Option (Nat × Int) :=
  let len := pfld p 1 15 16
  if len = 0 then none
  else
    let w := (b.ref (pfld p 1 0 15 + r % len)).toNat
    let mag := w % 2 ^ 31
    if mag ≥ 0x7F800000 || (w ≥ 2 ^ 31 && mag ≠ 0) then none else some (magOf 6 mag)

/-! ### Candidates and drift (R233 to R237) -/

/-- Largest finite magnitude of a candidate (R234); 1 when there is none. -/
def qmax (cand : Nat) : Nat := match cand with | 0 => 127 | 1 => 7 | 2 => 448 | 3 => 57344 | _ => 1

/-- How an element is classified under a candidate (R233): (clip, tie). -/
def classify (cand : Nat) (x : Dyad) (s : Nat × Int) : Bool × Bool :=
  let y := scaled x.1.natAbs s.1 (x.2 - s.2)
  if y.1 > qmax cand * y.2 then (true, false)
  else if cand < 2 then (false, (rne y.1 y.2).2)
  else (false, (roundFloat (if cand = 2 then 3 else 2) (if cand = 2 then -6 else -14) y.1 y.2 0).2)

/-- The histogram bin of a finite element (R229). -/
def histBin (base : Int) (x : Dyad) : Nat :=
  if x.1 = 0 then 0
  else (min 31 (max 1 (floorLog2 x.1.natAbs 1 + x.2 - base))).toNat

/-! ### Y records (R241 to R244) -/

/-- The row table record of a tensor (R243). -/
def Tensor.rowTable (t : Tensor) : List Byte :=
  leBytes 2 t.tid ++ leBytes 2 t.tap ++ leBytes 2 t.rowTab.length ++ leBytes 1 (pfld t.prof 2 16 4) ++
    gtBytes t.openGt ++ t.rowTab.flatten

/-- The 256-byte tensor summary (R241, R242) with its close cause and `gt`. -/
def Block.summary (b : Block) (t : Tensor) (cause : Nat) (closeGt : Gt) : List Byte :=
  let flags := pack [(2, cause), (1, b2n b.time.aligned), (1, b2n (t.degenWin != 0)), (1, b2n t.ragged),
    (1, b2n t.histSat), (1, b2n t.driftSat), (1, b2n t.rowTabUsed)]
  let four (n : Nat) := leBytes 4 (satTo 32 n)
  leBytes 2 t.tid ++ leBytes 2 t.tap ++ leBytes 1 (t.fmt + 16 * pfld t.prof 0 24 4) ++
    leBytes 1 (match t.profile with | some p => p | none => 128) ++ leBytes 2 flags ++
    gtBytes t.openGt ++ gtBytes closeGt ++ leBytes 1 b.alEpoch ++ leBytes 1 b.recBound ++
    leBytes 4 t.firstRow ++ four t.rows ++ four t.skipped ++ leBytes 8 t.elems ++ leBytes 8 t.sum.toNat ++
    leBytes 8 t.sumsq.toNat ++ leBytes 4 t.absKey ++ leBytes 4 (keyCode t.fmt t.minKey) ++
    leBytes 4 (keyCode t.fmt t.maxKey) ++ four t.nans ++ four t.infs ++ four t.clips ++ four t.ties ++
    four t.zrRows ++ four t.driftRows ++ four t.noRefRows ++ four t.padWin ++ four t.degenWin ++
    leBytes 2 t.driftWorst ++ leBytes 2 0 ++ leBytes 4 t.driftWorstRow ++ four t.convTies ++ four t.convSats ++
    ((upto 32).map (fun i => leBytes 4 (tget 0 t.hist i))).flatten

/-- A Y record of unit `u` at the interest level of the tensor's profile. -/
def Block.yRecord (b : Block) (u rtype : Nat) (t : Tensor) (bytes : List Byte) : Rec :=
  b.mkRec u rtype (b.unit u).owner (pfld t.prof 0 28 2) bytes

/-! ### Commit (R227, R233 to R239, R244) -/

/-- What a row's commit computes beside its statistics. -/
structure Verdict where
  clips : Nat
  ties : Nat
  zr : Bool
  noRef : Bool
  drift : Bool
  scale : Conv
  sum32 : Nat × Conv
  sumsq32 : Nat × Conv
  ratio : Option Conv
  deriving DecidableEq, Repr

/-- The evaluation of row `r` with index `idx` under profile words `p`. -/
def Block.judgeRow (b : Block) (p : List Word) (r : Row) (idx : Nat) : Verdict :=
  let cand := pfld p 0 24 4
  let ref := b.refOf p idx
  let am := magOf r.fmt r.absKey
  let cl := match ref with
    | some s => if cand < 4 && s.1 != 0 then r.vals.map (fun x => classify cand x s) else []
    | none => []
  let df := pfld p 2 0 8
  let drift := match ref with
    | some s =>
      df != 0 && (if s.1 = 0 then decide (0 < am.1) else
        let y := scaled (am.1 * 16) (df * s.1 * qmax cand) (am.2 - s.2)
        decide (y.2 < y.1))
    | none => false
  let ratio := match ref with
    | some s =>
      if drift && s.1 != 0 then
        let y := scaled (am.1 * 16) (s.1 * qmax cand) (am.2 - s.2)
        some (Conv.of (rne y.1 y.2) 65535)
      else none
    | none => none
  { clips := (cl.filter (fun c => c.1)).length
    ties := (cl.filter (fun c => c.2)).length
    zr := r.anyFinite && r.absKey == 0
    noRef := ref.isNone
    drift := drift
    scale := if r.absKey = 0 then ⟨0, false, false⟩ else Conv.of (roundFloat 7 (-126) am.1 (qmax cand) am.2) 0x7F7F
    sum32 := toF32 r.sum
    sumsq32 := toF32 r.sumsq
    ratio := ratio }

/-- The conversions of a row (R236). -/
def Verdict.convs (v : Verdict) : List Conv :=
  [v.scale, v.sum32.2, v.sumsq32.2] ++ (match v.ratio with | some c => [c] | none => [])

/-- The row has a non-finite element, or no finite one (R226, R235). -/
def Row.flagNonfinite (r : Row) : Bool := r.nonfinite || !r.anyFinite

/-- The 28-byte row table entry (R243). -/
def rowEntry (idx : Nat) (r : Row) (v : Verdict) : List Byte :=
  leBytes 4 idx ++ leBytes 4 r.absKey ++ leBytes 2 v.scale.code ++
    leBytes 1 (pack [(1, b2n v.zr), (1, b2n v.drift), (1, b2n r.flagNonfinite),
      (1, b2n (v.sum32.2.sat || v.sumsq32.2.sat)), (1, b2n v.scale.sat), (1, b2n r.ragged), (1, b2n v.noRef)]) ++
    leBytes 1 (b2n r.neg + 2 * b2n r.pos) ++ leBytes 4 v.sum32.1 ++ leBytes 4 v.sumsq32.1 ++
    leBytes 2 (satTo 16 v.clips) ++ leBytes 2 (satTo 16 v.ties) ++ leBytes 4 (satTo 32 r.elems)

/-- The histogram with a row's elements added; a bin that would exceed 32 bits saturates. -/
def addHist (base : Int) (h : Tbl Nat × Bool) (x : Dyad) : Tbl Nat × Bool :=
  let i := histBin base x
  let n := tget 0 h.1 i
  if n + 1 < 2 ^ 32 then (tput h.1 i (n + 1), h.2) else (h.1, true)

/-- A tensor after the commit of a row. -/
def Tensor.commit (t : Tensor) (r : Row) (v : Verdict) (idx : Nat) : Tensor :=
  let h := r.vals.foldl (addHist (sfld (pfld t.prof 2 8 8) 0 8)) (t.hist, t.histSat)
  let c := v.convs
  let t := { t with
    rows := t.rows + 1
    elems := t.elems + r.elems
    sum := f64Add t.sum r.sum
    sumsq := f64Add t.sumsq r.sumsq
    absKey := max t.absKey r.absKey
    minKey := if !r.anyFinite then t.minKey else if t.anyFinite then min t.minKey r.minKey else r.minKey
    maxKey := if !r.anyFinite then t.maxKey else if t.anyFinite then max t.maxKey r.maxKey else r.maxKey
    anyFinite := t.anyFinite || r.anyFinite
    nans := t.nans + r.nans
    infs := t.infs + r.infs
    clips := t.clips + v.clips
    ties := t.ties + v.ties
    zrRows := t.zrRows + b2n v.zr
    driftRows := t.driftRows + b2n v.drift
    noRefRows := t.noRefRows + b2n v.noRef
    convTies := t.convTies + (c.filter (fun x => x.tie)).length
    convSats := t.convSats + (c.filter (fun x => x.sat)).length
    hist := h.1
    histSat := h.2
    ragged := t.ragged || r.ragged }
  let t := match v.ratio with
    | some x =>
      let t := { t with driftSat := t.driftSat || x.sat }
      if x.code > t.driftWorst then { t with driftWorst := x.code, driftWorstRow := idx } else t
    | none => t
  let enter := pfld t.prof 0 30 1 == 1 &&
    (idx % 2 ^ pfld t.prof 2 16 4 == 0 || v.zr || v.drift || r.flagNonfinite || v.clips != 0)
  if enter then { t with rowTab := t.rowTab ++ [rowEntry idx r v], rowTabUsed := true } else t

/-- The events of a committed row (R238): each goes to the comparators, where it arrives 8 brew cycles later, and raises the owner's ASSAY vector (R370). -/
def Block.rowEvents (b : Block) (u : Nat) (t : Tensor) (v : Verdict) : Block :=
  let o := (b.unit u).owner
  let min := pfld t.prof 2 20 12
  let evs := (if v.drift then [0] else []) ++ (if min ≠ 0 && v.clips ≥ min then [1] else []) ++
    (if v.zr && pfld t.prof 0 31 1 = 1 then [2] else [])
  b.each evs (fun b k =>
    (b.sendEvent { source := 1, subsel := k, field := u, gt := b.gt, owner := o, due := b.gt + b.cycles 8 }).raise o 6)

/-- A tensor's last records are built (R239, R241, R244): the row table when it holds rows, then the summary. -/
def Block.tensorRecords (b : Block) (u : Nat) (t : Tensor) (cause : Nat) (closeGt : Gt) : List Rec :=
  (if t.rowTab.isEmpty then [] else [b.yRecord u 1 t t.rowTable]) ++ [b.yRecord u 0 t (b.summary t cause closeGt)]

/-- The tap's tensor ends, its records waiting to be placed. -/
def Block.endTensor (b : Block) (u tap : Nat) (t : Tensor) (cause : Nat) (closeGt : Gt) : Block :=
  let rs := b.tensorRecords u t cause closeGt
  (b.modUnit u (fun x => { x with closed := x.closed ++ [rs] })).modAsyTap u tap (fun x => { x with
    tensor := none
    rowIndex := if cause = 2 then x.rowIndex else 0
    cont := if cause = 2 then some (t.tid, t.fmt) else none })

/-- The row of a tap whose last beat was processed commits (R239); a full row table is written, and a tensor with 2²⁰
committed rows closes (R223, R244). DEDUCED, log entry 30. -/
def Block.commitRow (b : Block) (u tap : Nat) : Block :=
  let x := b.asyTap u tap
  match x.row, x.tensor with
  | some r, some t =>
    if !r.done then b
    else
      let v := b.judgeRow t.prof r x.rowIndex
      let t := t.commit r v x.rowIndex
      let b := b.rowEvents u t v
      let full := decide (480 ≤ t.rowTab.length)
      let b := if full then b.offerRec (b.yRecord u 1 t t.rowTable) else b
      let t := if full then { t with rowTab := [] } else t
      let b := b.modAsyTap u tap (fun x => { x with
        row := none, rowIndex := (x.rowIndex + 1) % 2 ^ 32, tensor := some t })
      if t.rows = 2 ^ 20 then b.endTensor u tap t 2 b.gt else b
  | _, _ => b

/-- Rows skipped at a unit, counted in the tap's tensor and by the operator; the row index keeps pace (R220, R221).
DEDUCED, log entry 30. -/
def Block.skipRows (b : Block) (u tap n : Nat) : Block :=
  (b.modUnit u (fun x => { x with rowsSkipped := satAdd 32 x.rowsSkipped n })).modAsyTap u tap (fun x => { x with
    rowIndex := (x.rowIndex + n) % 2 ^ 32
    tensor := match x.tensor with
      | some t => some { t with skipped := t.skipped + n }
      | none => none })

/-- The open tensor of a tap closes (R223): a complete row commits first, a row in progress is skipped (R220). -/
def Block.closeTensor (b : Block) (u tap cause : Nat) (closeGt : Gt) : Block :=
  let b := b.commitRow u tap
  let x := b.asyTap u tap
  match x.tensor with
  | none => b
  | some _ =>
    let b := match x.row with
      | some r =>
        if r.inProgress then (b.skipRows u tap 1).modAsyTap u tap (fun x => { x with row := some { r with bad := true } })
        else b
      | none => b
    match (b.asyTap u tap).tensor with
    | some t => b.endTensor u tap t cause closeGt
    | none => b

/-- A tensor opens on a tap (R223, R231), and waiting pad counts are added to it (R240). DEDUCED, log entry 31. -/
def Block.openTensor (b : Block) (u tap tid fmt : Nat) : Block :=
  let p := b.matchProfile (b.unit u).owner tid
  b.modAsyTap u tap (fun x =>
    let idx := if x.cont = some (tid, fmt) then x.rowIndex else 0
    { x with
      rowIndex := idx, cont := none, padWait := 0, degenWait := 0
      tensor := some {
        tap := tap, tid := tid, fmt := fmt, openGt := b.gt, lastGt := b.gt, firstRow := idx, profile := p
        prof := match p with | some k => b.profile k | none => profReset
        padWin := x.padWait, degenWin := x.degenWait } })

/-- The first-beat checks (R222, R223): a row of a valid context of the unit's owner is accepted; a change of tensor ID
or format closes the open tensor and opens a new one. A row that is not accepted does not advance the tap's row index.
DEDUCED, log entry 30; DESIGN CHOICE, log entry 107. -/
def Block.firstBeat (b : Block) (u tap : Nat) (e : AsyEntry) : Block :=
  let o := (b.unit u).owner
  let tid := e.beat.tid.toNat
  let fmt := e.beat.fmt.toNat
  let ten := b.ctxTenant e.ctx
  let ok := ten.isSome && (o == 64 || ten == some o)
  let b := if !ok then b.modUnit u (fun x => { x with foreign := satAdd 32 x.foreign 1 })
    else
      let b := match (b.asyTap u tap).tensor with
        | some t => if t.tid ≠ tid || t.fmt ≠ fmt then b.closeTensor u tap 0 b.gt else b
        | none => b
      if (b.asyTap u tap).tensor.isNone then b.openTensor u tap tid fmt else b
  let b := b.modAsyTap u tap (fun x => { x with row := some { tid := tid, fmt := fmt, owner := ten, accept := ok } })
  if e.skip = 0 then b else b.skipRows u tap e.skip

/-- A row that a skip count cut off leaves its unit: the tap has counted it (R220, R221), so nothing counts it again. -/
def Block.dropCutRow (b : Block) (u tap skip : Nat) : Block :=
  if skip = 0 then b else b.modAsyTap u tap (fun x => { x with row := none })

/-- A unit processes one beat of a tap (R218 to R226). A beat that brings a skip count begins a row: what came before it
of an unfinished row is part of the rows that the tap counted. DEDUCED, log entry 30. -/
def Block.processBeat (b : Block) (u tap : Nat) (e : AsyEntry) : Block :=
  let b := (b.commitRow u tap).dropCutRow u tap e.skip
  let b := if (b.asyTap u tap).row.isNone then b.firstBeat u tap e else b
  let b := match (b.asyTap u tap).row with
    | some r =>
      if !r.inProgress then b
      else if e.beat.fmt.toNat ≥ 8 || e.beat.fmt.toNat ≠ r.fmt || e.beat.tid.toNat ≠ r.tid then
        ((b.skipRows u tap 1).modUnit u (fun x => { x with badFmt := satAdd 32 x.badFmt 1 })).modAsyTap u tap
          (fun x => { x with row := some { r with bad := true } })
      else b.modAsyTap u tap (fun x => { x with row := some (r.addBeat e.beat) })
    | none => b
  b.modAsyTap u tap (fun x => { x with
    row := match x.row with
      | some r => if e.beat.last then (if r.inProgress then some { r with done := true } else none) else some r
      | none => none
    tensor := match x.tensor with
      | some t => some { t with lastGt := b.gt }
      | none => none })

/-! ### Commands -/

/-- The port of a tap feeds something: a unit or the measurement path (R215); not that of an absent tap (R487).
DEDUCED, log entry 32. -/
def Block.portFeeds (b : Block) (t : Nat) : Bool := let w := b.binding t; b.present t && (bit w 4 || bit w 5)

/-- A beat of a weight-load tap that finds the buffer full is lost to the image: it is counted, not hashed (R85, R449). -/
def Tap.loseBeat (t : Tap) (n : Nat) : Tap :=
  match t.ctrl.reverse with
  | c :: rest =>
    if c.2.2.1 = t.asy.length then { t with ctrl := ((c.1, c.2.1, c.2.2.1, c.2.2.2 + n) :: rest).reverse }
    else { t with asy := t.asy.modify (t.asy.length - 1) (fun e => { e with skip := e.skip + n }) }
  | [] => { t with asy := t.asy.modify (t.asy.length - 1) (fun e => { e with skip := e.skip + n }) }

/-- TAP_ASSAY_BEAT (R85, R219, R221): the beat enters the crossing buffer of 4, or is discarded with the rest of its
row. DEDUCED, log entry 32. -/
def execTapAssayBeat (tap : Fin 2048) (beat : Beat) (s : State) : Host.Outcome State Fault Refusal :=
  s.run (fun b =>
    let w := b.binding tap
    let t := b.tap tap
    if !b.portFeeds tap then b
    else if bit w 5 then
      let b := b.activity
      if t.asy.length < 4 then b.modTap tap (fun t => { t with asy := t.asy ++ [{ beat := beat, ctx := t.ctx }] })
      else b.modTap tap (fun t => t.loseBeat (beatCount beat))
    else
      let b := b.activity
      let u := asyUnitOf w
      let drop (b : Block) := b.modUnit u (fun x => { x with beatsDropped := satAdd 32 x.beatsDropped 1 })
      let b := if t.asyDrop then
          drop (b.modTap tap (fun t => { t with asyDrop := !beat.last, asyOpenRow := !beat.last }))
        else if t.asy.length < 4 then
          b.modTap tap (fun t => { t with
            asy := t.asy ++ [{ beat := beat, ctx := t.ctx, skip := t.asySkip }], asySkip := 0, asyOpenRow := !beat.last })
        else
          drop (b.modTap tap (fun t => { t with
            asySkip := satAdd 16 t.asySkip 1, asyDrop := !beat.last, asyOpenRow := !beat.last }))
      if b.running then b else b.requestWake 0)

/-- The tap that a unit serves next (R218): round robin in rising tap number after the one served last. -/
def Block.nextAsyTap (b : Block) (u : Nat) : Option Nat :=
  let l := (b.boundTaps u).filter (fun t => !(b.tap t).asy.isEmpty)
  match l.find? (fun t => decide ((b.unit u).rr < t)) with
  | some t => some t
  | none => l.head?

/-- ASSAY_BEAT_TAKE (R218): a unit takes one beat. -/
def execAssayBeatTake (unit : Fin 16) (s : State) : Host.Outcome State Fault Refusal :=
  s.run (fun b =>
    if !b.running || !(b.unit unit).en then b
    else
      match b.nextAsyTap unit with
      | none => b
      | some t =>
        match (b.tap t).asy with
        | e :: rest =>
          ((b.modTap t (fun x => { x with asy := rest })).modUnit unit (fun x => { x with rr := t })).processBeat unit t e
        | [] => b)

/-- ROW_COMMIT (R239). -/
def execRowCommit (unit : Fin 16) (tap : Fin 2048) (s : State) : Host.Outcome State Fault Refusal :=
  s.run (fun b => if b.running then b.commitRow unit tap else b)

/-- TENSOR_GAP_EXPIRY (R223): `TENSOR_GAP` has passed since the tap's last beat; a gap that expired below Run closes the
tensor with the `gt` of the wake. -/
def execTensorGapExpiry (unit : Fin 16) (tap : Fin 2048) (s : State) : Host.Outcome State Fault Refusal :=
  s.run (fun b =>
    match (b.asyTap unit tap).tensor with
    | some t =>
      let due := t.lastGt + us (b.unit unit).gap
      if b.running && decide (due ≤ b.gt) then
        b.closeTensor unit tap 1 (if due ≤ b.power.wakeGt then b.power.wakeGt else b.gt)
      else b
    | none => b)

/-- TENSOR_RECORD_PLACE (R17, R239, R244): the next record of the oldest closed tensor is ready and is offered to the
record input, its row table first and its summary last. A take offers one record, so what a long row table leaves of the
input is free again when its summary is offered. DESIGN CHOICE, log entry 7. -/
def execTensorRecordPlace (unit : Fin 16) (s : State) : Host.Outcome State Fault Refusal :=
  s.run (fun b =>
    if !b.running then b
    else
      match (b.unit unit).closed with
      | (r :: more) :: rest =>
        (b.modUnit unit (fun x => { x with closed := if more.isEmpty then rest else more :: rest })).offerRec r
      | [] :: rest => b.modUnit unit (fun x => { x with closed := rest })
      | [] => b)

/-! ### Changes while tensors are open (R246) -/

/-- Every open tensor of a unit closes with `CLOSE` 3 and waiting pad counts are discarded. -/
def Block.closeUnitTensors (b : Block) (u : Nat) : Block :=
  let b := b.each (tkeys (b.unit u).taps) (fun b t => b.closeTensor u t 3 b.gt)
  b.modUnit u (fun x => { x with taps := tmap {} x.taps (fun _ y => { y with padWait := 0, degenWait := 0 }) })

/-- The open tensors of a unit are discarded without records (function reset); the rest of a row in progress is not
measured. -/
def Block.discardUnitTensors (b : Block) (u : Nat) : Block :=
  b.modUnit u (fun x => { x with taps := tmap {} x.taps (fun _ y => { row := match y.row with
    | some r => if r.done then none else some { r with bad := true }
    | none => none }) })

/-- Rows with a beat in a crossing buffer. -/
def rowsIn : List AsyEntry → Bool → Nat
  | [], _ => 0
  | e :: t, started => (if started then 0 else 1) + rowsIn t (!e.beat.last)

/-- What a tap that fed a unit has discarded when its crossing buffer is emptied (R221, R246): the rows it had counted,
those that buffered beats were to bring, and those with a beat in the buffer. `begun`: the unit was part-way through a
row. A row that the tap had cut short already stands in one of the counts. DEDUCED, log entry 61. -/
def Tap.skipsKept (t : Tap) (begun : Bool) : Nat :=
  let cut := t.asySkip != 0 && (match t.asy.getLast? with | some e => !e.beat.last | none => begun)
  satTo 16 (t.asySkip + (t.asy.map (fun e => e.skip)).sum + rowsIn t.asy begun - b2n cut)

/-- A tap's binding changes (R246, R240): its tensor closes with `CLOSE` 3, its crossing buffer is emptied and the
discarded rows are counted (R221), a row that the unit had begun only in its tensor. The count waits for the next beat,
whichever unit that goes to. DEDUCED, log entries 30 and 61. -/
def Block.rebind (b : Block) (tap : Nat) (w : Word) : Block :=
  let old := b.binding tap
  let u := asyUnitOf old
  let begun := match (b.asyTap u tap).row with | some r => !r.done | none => false
  let on := asyOn old
  let b := if on then (b.closeTensor u tap 3 b.gt).modUnit u (fun x => { x with taps := tdel x.taps tap }) else b
  let b := b.modTap tap (fun t => { t with
    asy := []
    ctrl := if bit w 5 then t.ctrl.map (fun c => (c.1, c.2.1, 0, c.2.2.2)) else []
    asySkip := if on then t.skipsKept begun else t.asySkip
    asyDrop := on && asyOn w && t.asyOpenRow
    asyOpenRow := on && asyOn w && t.asyOpenRow })
  b.modAssay (fun a => { a with binding := tset 0 a.binding tap w })

end Sys2Proof.Machine
end

