-- ==== Sys2Proof/Machine/Strobes.lean ====
section
/-! DEFINITION. The commands by which stations strobe their taps, follow their regions and measure their path delays
(R43, R46, R49, R52, R123, R298, R518). -/

namespace Sys2Proof.Machine

/-- PERIOD_STROBE (R43, R123): 1 µs since the interval began, or 4,096 units closed since the last TIME packet. -/
def execPeriodStrobe (st : Fin 32) (s : State) : Host.Outcome State Fault Refusal :=
  s.run (fun b =>
    let x := b.station st
    if b.running && (decide (x.lastPeriod + us 1 ≤ b.gt) || decide (x.unitsSince ≥ 4096)) then b.periodStrobe st else b)

/-- The station has a present tap in a region. -/
def Block.watches (b : Block) (st region : Nat) : Bool :=
  (tapsOf st).any (fun t => b.present t && b.regionOfTap t == region)

/-- STRETCH_TICK (R43): `STRETCH_ANCHOR_PERIOD` in units of 0.625 ns since the last strobe of a stretched region.
DEDUCED, log entry 13. -/
def execStretchTick (st : Fin 32) (region : Fin 64) (s : State) : Host.Outcome State Fault Refusal :=
  s.run (fun b =>
    if b.running && b.regionState region == 1 && b.watches st region &&
        decide (tget 0 (b.station st).regionStrobe region + b.time.stretchPer * 160 ≤ b.gt) then
      b.regionStrobe st 3 region
    else b)

/-- WAKE_REQ_STROBE (R43, R89): the answer to a tap's anchor request, once the tap can take it (R518). -/
def execWakeReqStrobe (tap : Fin 2048) (s : State) : Host.Outcome State Fault Refusal :=
  s.run (fun b =>
    if b.running && (b.tap tap).anchorReq && b.able tap then
      (b.modTap tap (fun t => { t with anchorReq := false })).strobe (stOf tap) 5 [tap.val] 0
    else b)

/-! ### Clock-state inputs (R49, R52) -/

/-- Station-local mask of the present taps of a region. -/
def Block.regionMask (b : Block) (st region : Nat) : Nat :=
  maskOf (((tapsOf st).filter (fun t => b.present t && b.regionOfTap t == region)).map (· % 64))

/-- A STOP or RESUME marker in every stream that eager packets go to (R52, R122). -/
def Block.stopMarkers (b : Block) (st : Nat) (resume aon : Bool) (state : Nat) (gt : Gt) (taps : Nat) : Block :=
  b.each (b.eagerStreams st) (fun b o => b.markerTo st o (stopPacket resume aon state gt taps))

/-- A region's change as one station acts on it (R52). -/
def Block.stationRegion (b : Block) (region old new : Nat) (gt : Gt) (aon : Bool) (st : Nat) : Block :=
  if !b.watches st region then b
  else
    let m := b.regionMask st region
    if old = 2 then (b.stopMarkers st true aon new gt m).regionStrobe st 4 region
    else if new = 2 then b.stopMarkers st false aon 2 gt m
    else b.regionStrobe st (if new = 1 then 1 else 2) region

/-- A freeze strobe that pends at a tap of a region when it stops waits for the resume (R288). -/
def Block.stopsPending (b : Block) (region : Nat) : Block :=
  { b with taps := tmap {} b.taps (fun n t =>
      if b.regionOfTap n == region && t.frStrobe.isSome then { t with frStop := true } else t) }

/-- A region changes state at `gt` (R52). -/
def Block.regionChange (b : Block) (region new : Nat) (gt : Gt) (aon : Bool) : Block :=
  let old := b.regionState region
  if old = new then b
  else
    let b := b.modTime (fun t => { t with regions := tset 0 t.regions region new })
    let b := if new = 2 then b.stopsPending region else b
    b.each allStations (fun b st => b.stationRegion region old new gt aon st)

/-- CLOCK_STATE_INPUT_CHANGE (R49, R52, R491): in Run the change is dated 3 brew cycles back; below Run the always-on
domain latches it and the block wakes. Value 3 is treated as the previous value and counted. -/
def execClockStateInputChange (region : Fin 64) (state : BitVec 2) (s : State) : Host.Outcome State Fault Refusal :=
  s.run (fun b =>
    if state = 3 then b.modTime (fun t => { t with csGlitch := satAdd 32 t.csGlitch 1 })
    else
      let b := b.requestWake 2
      if b.running then b.regionChange region state.toNat (b.gt - b.cycles 3) false
      else b.modTime (fun t => { t with regionAon := t.regionAon ++ [(region.val, state.toNat, b.gt)] }))

/-- The changes latched below Run, in order, after the wake (R49). -/
def Block.regionCatchUp (b : Block) : Block :=
  let l := b.time.regionAon
  (b.modTime (fun t => { t with regionAon := [] })).each l (fun b e => b.regionChange e.1 e.2.1 e.2.2 true)

/-! ### Path-delay measurements (R46) -/

/-- TCAL_PERIODIC (R46): every enabled tap measured is compared with its entry; below Run the occasion wakes the block.
DESIGN CHOICE, log entry 72. -/
def execTcalPeriodic (trips : List (Fin 2048 × Nat)) (s : State) : Host.Outcome State Fault Refusal :=
  s.run (fun b =>
    if b.power.phase < 5 || b.gt < b.time.tcalDue then b
    else
      let b := b.requestWake 4
      if !b.running then b
      else
        let b := b.each trips (fun b e => if (b.tap e.1).en then b.measureTap e.1 e.2 else b)
        (b.modTime (fun t => { t with tcalDue := t.tcalDue + ms t.tcalMs })).realign)

/-- TCAL_IDLE (R46): the engine of an enabled tap has been idle for 4,096 tap cycles since its last measurement. -/
def execTcalIdle (tap : Fin 2048) (idleCycles roundTrip : Nat) (s : State) : Host.Outcome State Fault Refusal :=
  s.run (fun b =>
    if b.running && (b.tap tap).en && decide (idleCycles ≥ 4096) then (b.measureTap tap roundTrip).realign else b)

/-- TCAL_FIRST_MEASUREMENT (R46): a present tap that Calibrate did not measure, after its first P UP item. -/
def execTcalFirstMeasurement (tap : Fin 2048) (roundTrip : Nat) (s : State) : Host.Outcome State Fault Refusal :=
  s.run (fun b =>
    let v := b.view tap
    if b.running && b.present tap && !v.measured && v.upSeen then (b.measureTap tap roundTrip).realign else b)

/-- The mirror of a tap's descriptors and `A_ENABLE` is read from its tile (R298). -/
def Block.loadMirror (b : Block) (n : Nat) : Block :=
  let t := b.tap n
  b.modView n (fun v => { v with
    mirror := true, aEn := t.aEnable, desc := t.cnt.map (fun e => (e.1, (e.2.w0, e.2.w1))) })

/-- COUNTER_MIRROR_LOAD (R298): an unloaded mirror is loaded while the tap is powered. -/
def execCounterMirrorLoad (tap : Fin 2048) (s : State) : Host.Outcome State Fault Refusal :=
  s.run (fun b =>
    if b.running && !(b.view tap).mirror && ((b.view tap).upSeen || !(b.tap tap).drainAck) then b.loadMirror tap else b)

end Sys2Proof.Machine
end

