-- ==== Sys2Proof/Machine/TimeCmds.lean ====
section
/-! DEFINITION. The local time base (R31 to R37): time bus samples, lock, steps, holdover, the second pulse, and the loss
of alignment (R58). -/

namespace Sys2Proof.Machine

/-- The time base runs: in Run and Doze, once the brew clock is granted (R31, R35). -/
def Block.timeRuns (b : Block) : Bool := (b.power.st == .run || b.power.st == .doze) && b.power.phase != 0

/-- On the way out of Nap or Kiln the brew clock is back, and the time base locks before Run (R35, R469). -/
def Block.wakingClock (b : Block) : Bool :=
  (b.power.st == .nap || b.power.st == .kiln) && b.power.waking && b.power.clkGnt && b.power.brewGnt

/-! ### Activity (R467, R470) -/

/-- A snapshot capture is running: T is reached (R267, R467). One that waits for T does not hold the block (R274). -/
def Block.captures (b : Block) : Bool :=
  b.sync.snap.st == .capturing && (match b.sync.snap.t with | some t => decide (t ≤ b.gt) | none => true)

/-- The conditions of R467 other than the first. -/
def Block.working (b : Block) : Bool :=
  b.stations.any (fun e => !e.2.uq.isEmpty) || b.quads.any (fun e => !e.2.recIn.isEmpty || !e.2.recTail.isEmpty) ||
    b.cask.pages.any (fun e => e.2.st == .draining) || !b.sparge.scrubs.isEmpty || b.sync.walk.isSome || b.sync.walkAgain ||
    b.mash.scans.any (fun x => !x.done) || b.captures ||
    b.freezes.any (fun e => e.2.code b.gt == 2) || b.meas.lanes.any (fun e => e.2.isSome) || !b.meas.closing.isEmpty

/-- An item or beat arrived within the last `ACTIVE_US`. -/
def Block.active (b : Block) : Bool := decide (b.gt < b.power.lastAct + us b.power.activeUs)

/-- The block is busy and stays in Run (R470), or has a sweep to complete there (R256). DESIGN CHOICE, log entry 46. -/
def Block.busy (b : Block) : Bool :=
  b.working || b.ports.any (fun e => !e.2.queue.isEmpty || !e.2.longs.isEmpty || !e.2.parked.isEmpty) ||
    !b.mash.stepQ.isEmpty || b.sync.sweepLeft != 0 || b.tenants.any (fun e => e.2.resetting) || decide (b.power.phase < 5)

/-- What a freeze lists of an enabled tap at T (R288): a strobe that is out stays, the conditions are those of this moment.
DEDUCED, log entry 23. -/
def Block.fzAtT (b : Block) (f : Freeze) (n : Nat) : FzTap :=
  let x := tget ({} : FzTap) f.taps n
  if x.done then x else { x with stopped := b.tapStopped n, stretched := b.stretched n }

/-- T of freeze slot `i` is reached: the enabled taps are listed, and the epoch and bound of T are taken (R288, R292).
DEDUCED, log entry 23. -/
def Block.atT (b : Block) (i : Nat) : Block :=
  let f := b.freezeSlot i
  if f.begun || !f.reached b.gt then b
  else
    b.modFreeze i (fun f => { f with
      begun := true, taps := b.enabledTaps.foldl (fun t n => tput t n (b.fzAtT f n)) []
      epoch := b.alEpoch, bound := b.recBound, aligned := b.time.aligned
      unaligned := f.unaligned || (f.fabric && !b.alignedNow) })

/-- The freezes whose T is reached at this `gt`. DEDUCED, log entry 23. -/
def Block.reachT (b : Block) : Block := b.each (upto 4) (fun b i => b.atT i)

/-- `n` brew cycles pass on the time base (R31); a freeze whose T is reached lists its taps
(R288); the last `gt` at which the block was busy is kept (R471). DESIGN CHOICE, log entries 2 and 46. -/
def Block.passCycles (b : Block) (n : Nat) : Block :=
  let b := (b.modTime (fun t => { t with tb := t.tb + n * t.rate })).reachT
  if b.running && b.busy then b.modPower (fun p => { p with busyGt := b.gt }) else b

/-- A `gt` moved by a step. DEDUCED, log entry 22. -/
def shiftGt (d : Int) (g : Gt) : Gt := ((g : Int) + d).toNat

/-- An iteration moved by a step. -/
def shiftSpan (d : Int) (x : Gt × Gt) : Gt × Gt := (shiftGt d x.1, shiftGt d x.2)

/-- The stored `gt` values from which wait durations are counted, those of waiting S items and the marks that items are
timed from are corrected by a step (R62, R189, R214), and so are those from which intervals are counted that go on over
it (R43, R393). DEDUCED, log entry 22. -/
def Block.shiftWaits (b : Block) (d : Int) : Block :=
  let b := b.modMash (fun m => { m with
    segs := m.segs.map (fun e => (e.1, { e.2 with start := shiftGt d e.2.start }))
    tokenGt := shiftGt d m.tokenGt
    waitHalo := m.waitHalo.map (fun e => (e.1, (shiftGt d e.2.1, e.2.2)))
    segEnd := m.segEnd.map (fun e => (e.1, shiftGt d e.2))
    lossLog := m.lossLog.map (fun e => (e.1, e.2.map (fun x => (shiftGt d x.1, x.2))))
    slots := m.slots.map (fun e => (e.1, { e.2 with
      past := e.2.past.map (fun l => l.map (shiftSpan d))
      win := e.2.win.map (fun w => { w with openGt := shiftGt d w.openGt, iters := w.iters.map (shiftSpan d) }) })) })
  let b := b.modSync (fun s => { s with
    walk := s.walk.map (fun w => { w with adj := w.adj + d })
    waits := s.waits.map (fun e => (e.1, if e.2.valid then { e.2 with since := shiftGt d e.2.since } else e.2))
    objs := s.objs.map (fun e => (e.1, { e.2 with lastTouch := shiftGt d e.2.lastTouch })) })
  { b with
    taps := b.taps.map (fun e => (e.1, { e.2 with lossAt := e.2.lossAt.map (shiftGt d) }))
    views := b.views.map (fun e => (e.1, { e.2 with
      lastSeen := shiftGt d e.2.lastSeen, mark := e.2.mark.map (shiftGt d), markBase := e.2.markBase + d }))
    quads := b.quads.map (fun e => (e.1, { e.2 with syncQ := e.2.syncQ.map (fun i => { i with gt := shiftGt d i.gt }) }))
    stations := b.stations.map (fun e => (e.1, { e.2 with
      pkts := e.2.pkts.map (fun p => { p with adj := p.adj + d })
      regionStrobe := e.2.regionStrobe.map (fun r => (r.1, shiftGt d r.2)) }))
    tenants := b.tenants.map (fun e => (e.1, { e.2 with refreshGt := shiftGt d e.2.refreshGt })) }

/-- A step of the time base to `tb` (R34, R59, R62): the epoch advances and running stations strobe with cause STEP.
DEDUCED, log entry 22. -/
def Block.stepTo (b : Block) (tb : Nat) : Block :=
  let d : Int := (tb / 2 ^ 24 : Nat) - ((b.time.tb / 2 ^ 24 : Nat) : Int)
  let b := ((b.modTime (fun t => { t with tb := tb })).shiftWaits d).advanceEpoch 0
  if b.running then b.stepStrobes d else b

/-- The nominal rate word of the speed in force (R467). -/
def Block.nominalRate (b : Block) : Nat := if b.power.low then 4 * 2684354560 else 2684354560

/-- The servo trims the rate word (R32): the law is not stated, so the word is a free value within ±200 ppm of nominal.
DESIGN CHOICE, log entries 5 and 21. -/
def Block.trim (b : Block) : Block :=
  let n := b.nominalRate
  let w := n / 5000
  let r := b.takeFree
  r.2.modTime (fun t => { t with rate := n - w + r.1 % (2 * w + 1) })

/-- The `gt` that a sample gives for this brew cycle, in 1/256 ns (R36): its value, the latency from the source to the
pin, and the phase from its edge to this cycle. DESIGN CHOICE, log entry 21. -/
def Block.sampleGt (b : Block) (tbGt : BitVec 64) (phase : BitVec 8) : Gt :=
  tbGt.toNat * 256 + b.time.latency + phase.toNat

/-- The lock of R33 after a sample with an error of `e` in 1/256 ns. DESIGN CHOICE, log entry 21. -/
def Time.judge (t : Time) (e : Nat) : Time :=
  if e > 512 then { t with locked := false, good := 0 }
  else if e < 64 then { t with good := min 16 (t.good + 1), locked := t.locked || decide (t.good + 1 ≥ 16) }
  else { t with good := 0 }

/-- TIME_BUS_SAMPLE (R33 to R36): `cycles` brew cycles after the last one a sample arrives; it is loaded directly after
a wake or power-on, steps the time base when it is more than 64 ns off, and trims the rate word otherwise.
DESIGN CHOICE, log entries 2 and 21. -/
def execTimeBusSample (cycles : Nat) (tbGt : BitVec 64) (phase : BitVec 8) (s : State) :
    Host.Outcome State Fault Refusal :=
  s.run (fun b =>
    let b := b.buildLog
    let g := b.sampleGt tbGt phase
    if b.power.phase = 0 && b.power.st != .off then
      (b.modTime (fun t => { t with aonGt := g })).modMash (fun m => { m with tokenGt := g })
    else if b.wakingClock then
      if b.time.loadNext then
        b.modTime (fun t => { t with tb := g * 2 ^ 24, loadNext := false, good := 0, holdover := false, lastSample := g })
      else
        let b := b.passCycles cycles
        let e := ((g : Int) - ((b.time.tb / 2 ^ 24 : Nat) : Int)).natAbs
        let b := b.modTime (fun t => { t.judge e with lastSample := g })
        (if e > 16384 then b.stepTo (g * 2 ^ 24) else b.trim).reachT
    else if !b.timeRuns then b
    else
      let b := b.passCycles cycles
      let e := ((g : Int) - (b.gt : Int)).natAbs
      let b :=
        if b.time.loadNext then
          (b.modTime (fun t => { t with tb := g * 2 ^ 24, loadNext := false, good := 0 })).modMash (fun m =>
            { m with tokenGt := g })
        else
          let b := b.modTime (fun t => t.judge e)
          if e > 16384 then b.stepTo (g * 2 ^ 24) else b.trim
      (b.modTime (fun t => { t with holdover := false, lastSample := g })).reachT.realign)

/-- HOLDOVER_ENTRY (R35): no sample for 1 µs. -/
def execHoldoverEntry (s : State) : Host.Outcome State Fault Refusal :=
  s.run (fun b =>
    if !b.timeRuns || b.time.holdover || b.gt < b.time.lastSample + us 1 then b
    else
      ((b.modTime (fun t => { t with holdover := true, busLost := satAdd 32 t.busLost 1 })).raise 64 8).realign)

/-- PPS_EDGE (R37): the `gt` of the edge, `backCycles` brew cycles ago, lies within ±8 ns of a whole second.
DESIGN CHOICE, log entry 79. -/
def execPpsEdge (backCycles : Nat) (s : State) : Host.Outcome State Fault Refusal :=
  s.run (fun b =>
    let sec := 256000000000
    let r := (b.gt - b.cycles backCycles) % sec
    if !b.timeRuns || r ≤ 2048 || sec - 2048 ≤ r then b
    else (b.modTime (fun t => { t with ppsMismatch := satAdd 32 t.ppsMismatch 1 })).raise 64 8)

/-- ALIGNMENT_LOST (R58, R59): the fabric residual bound has passed 2.0 ns. -/
def execAlignmentLost (s : State) : Host.Outcome State Fault Refusal :=
  s.run (fun b => if b.running && b.time.aligned then b.realign else b)

end Sys2Proof.Machine
end

