-- ==== Sys2Proof/Machine/Freeze.lean ====
section
/-! DEFINITION. Counter freezes and coarse views (R284 to R295, R391 to R393): strobes, latches, collection, result
records, and the refresh of the tenants' views. -/

namespace Sys2Proof.Machine

/-- Puts what a freeze holds of a tap. -/
def Block.setFz (b : Block) (i n : Nat) (x : FzTap) : Block :=
  b.modFreeze i (fun f => { f with taps := tput f.taps n x })

/-- The listed entry of a tap. -/
def Freeze.tap? (f : Freeze) (n : Nat) : Option FzTap := (f.taps.find? (fun e => e.1 == n)).map Prod.snd

/-- The tap has reported its loss of retention (R292). -/
def Block.lossTold (b : Block) (n : Nat) : Block := b.modTap n (fun t => { t with cntLost := false })

/-- A tap's entry is final without a latch (R288, R291): `COUNTERS_LOST` stands in it as in any other, also that of a latch of
freeze `id` that is given up (R292). -/
def Block.noLatch (b : Block) (i n : Nat) (x : FzTap) : Block :=
  let l := match (b.tap n).latch with
    | some l => l.freezeId == (b.freezeSlot i).id && l.cntLost
    | none => false
  (b.setFz i n { x with strobed := true, notLatched := true, cntLost := (b.tap n).cntLost || l, done := true }).lossTold n

/-- A freeze strobe waits at a tap; one that finds another pending, its clock stopped, waits behind it (R288). -/
def Tap.takeStrobe (t : Tap) (id : Nat) (ao : Bool) : Tap :=
  if t.frStrobe.isSome then { t with frLater := t.frLater ++ [(id, ao)] }
  else { t with frStrobe := some (id, ao), frStop := false }

/-- The pending strobe of a freeze leaves a tap, and with it an uncollected latch (R291). -/
def Tap.cancelStrobe (t : Tap) (id : Nat) : Tap :=
  let l := (t.frStrobe.toList ++ t.frLater).filter (fun e => e.1 != id)
  { t with
    frStrobe := l.head?
    frLater := l.drop 1
    latch := match t.latch with | some l => if l.freezeId = id then none else some l | none => none }

/-- The freeze strobe goes to an enabled tap (R285, R288): an engine that is powered down or drained does not latch. The
conditions are those at T, or of this moment while T is to come. -/
def Block.freezeStrobe (b : Block) (i n : Nat) : Block :=
  let f := b.freezeSlot i
  let x := tget ({} : FzTap) f.taps n
  if x.strobed || x.done || !(b.tap n).en then b
  else if (b.tap n).drainAck || (b.view n).down then
    b.noLatch i n { x with down := true }
  else
    let b := b.setFz i n { x with
      strobed := true, sgt := b.gt, dTap := (b.view n).dTap
      stopped := x.stopped || b.tapStopped n, stretched := if f.begun then x.stretched else b.stretched n }
    b.modTap n (fun t => t.takeStrobe f.id f.aoClear)

/-- The freeze slots that a strobe may serve. -/
def Block.scheduledSlots (b : Block) : List Nat :=
  (upto 4).filter (fun i => (b.freezeSlot i).st == .scheduled && (b.freezeSlot i).fixed)

/-- A slot that has not fixed T by 2 µs before it keeps its T and latches unaligned (R443). DEDUCED, log entry 38. -/
def Block.lateFix (b : Block) : Block :=
  b.each (upto 4) (fun b i =>
    let f := b.freezeSlot i
    if f.st == .scheduled && !f.fixed && decide (f.t + b.cycles 1 < b.gt + us 2) then
      b.modFreeze i (fun f => { f with fixed := true, unaligned := true })
    else b)

/-- The freeze may strobe tap `n` now (R285): `gt` has reached T − `d_tap` of an enabled tap, which is listed or T is to come. -/
def Block.strobeDue (b : Block) (n i : Nat) : Bool :=
  let f := b.freezeSlot i
  decide (f.t ≤ b.gt + (b.view n).dTap) && (b.tap n).en &&
    match f.tap? n with
    | some x => !x.strobed && !x.done
    | none => !f.begun

/-- FREEZE_STROBE_ISSUE (R285): `gt` has reached T − `d_tap` of a tap. DEDUCED, log entry 23. -/
def execFreezeStrobeIssue (tap : Fin 2048) (s : State) : Host.Outcome State Fault Refusal :=
  s.run (fun b =>
    if !b.running then b
    else
      let b := b.lateFix.reachT
      match b.scheduledSlots.find? (b.strobeDue tap) with
      | some i => b.freezeStrobe i tap
      | none => b)

/-- FREEZE_AON_STROBE (R289): T is reached below Run before a strobe was out, and the time keeper strobes every enabled tap.
DEDUCED, log entry 24. -/
def execFreezeAonStrobe (s : State) : Host.Outcome State Fault Refusal :=
  s.run (fun b =>
    if b.running || b.power.st == .off then b
    else
      let b := b.lateFix.reachT
      match b.scheduledSlots.find? (fun i => (b.freezeSlot i).begun && !(b.freezeSlot i).aon &&
          (b.freezeSlot i).taps.all (fun e => !e.2.strobed)) with
      | some i =>
        let b := b.modFreeze i (fun f => { f with aon := true, bound := min 255 (f.bound + 640) })
        b.each ((b.freezeSlot i).taps.map Prod.fst) (fun b n => b.freezeStrobe i n)
      | none => b)

/-- FREEZE_LOCAL_T_FIX (R290, R443): 2 µs before the converted T, local T is fixed from the offset at this moment; an instance
that fixes it later latches unaligned. DEDUCED, log entry 38. -/
def execFreezeLocalTFix (freezeId : BitVec 8) (s : State) : Host.Outcome State Fault Refusal :=
  s.run (fun b =>
    match (upto 4).find? (fun i =>
        let f := b.freezeSlot i
        f.st == .scheduled && f.id == freezeId.toNat && !f.fixed && decide (b.localOfRoot f.rootT ≤ b.gt + us 2)) with
    | some i => b.modFreeze i (fun f => { f with
        t := b.localOfRoot f.rootT, fixed := true
        unaligned := f.unaligned || !b.alignedNow || decide (b.localOfRoot f.rootT + b.cycles 1 < b.gt + us 2) })
    | none => b)

/-! ### The latch (R285, R287, R288) -/

/-- The slot that holds a `FREEZE_ID`. -/
def Block.slotOf (b : Block) (id : Nat) : Option Nat :=
  (upto 4).find? (fun i => (b.freezeSlot i).st != .free && (b.freezeSlot i).id == id)

/-- `LATCH_OFS` (R285, R288, R289). -/
def Block.latchOfs (b : Block) (f : Freeze) (x : FzTap) (n phase : Nat) : Nat :=
  if f.aon || x.stopped then 0xFFFF
  else
    let ph : Int := if x.stretched then 0
      else match (b.view n).period with | some (g, c) => (phase * g : Nat) / ((64 * c : Nat) : Int) | none => 0
    let o := ((x.sgt : Int) + x.dTap + ph - (f.t : Int)).toNat
    if o ≥ 0xFFFF then 0xFFFF else o

/-- The ten values of a tile: counters 0 to 7, `AO_CYCLES`, `AO_ACTIVE`. -/
def Tap.values (t : Tap) : List Nat := (upto 8).map (fun k => (tget {} t.cnt k).value) ++ [t.aoCycles, t.aoActive]

/-- Counters restart at a latch (R275, R280). -/
def Tap.clearAtLatch (t : Tap) (ao : Bool) : Tap :=
  { t with
    cnt := tmap {} t.cnt (fun _ c => if c.clrOnFreeze then { c with value := 0 } else c)
    aoCycles := if ao then 0 else t.aoCycles
    aoActive := if ao then 0 else t.aoActive
    cntLost := false }

/-- The latch of one strobe at a tap (R285, R288): with the bank still full, or the drain acknowledged, there is none. -/
def Block.latchTap (b : Block) (n id : Nat) (ao : Bool) (phase : Nat) : Block :=
  match b.slotOf id with
  | none => b
  | some i =>
    match (b.freezeSlot i).tap? n with
    | none => b
    | some x =>
      let t := b.tap n
      if x.done || !t.en then b
      else if t.drainAck then b.noLatch i n { x with down := true }
      else if t.latch.isSome then b.noLatch i n { x with busy := true }
      else
        let x := { x with stopped := x.stopped || t.frStop }
        let l : Latch :=
          { freezeId := id, vals := t.values, ofs := b.latchOfs (b.freezeSlot i) x n phase
            stretched := x.stretched, stopped := x.stopped, cntLost := t.cntLost }
        b.modTap n (fun t => { t.clearAtLatch ao with latch := some l })

/-- TAP_FREEZE_LATCH (R285, R288): the tap latches at the marked edge; with a bank still full it does not. A stopped tap
latches after its resume, and strobes that came meanwhile mark the same edge, so they find the bank full.
DEDUCED, log entry 23. -/
def execTapFreezeLatch (tap : Fin 2048) (cyc : Nat) (phase : BitVec 6) (s : State) :
    Host.Outcome State Fault Refusal :=
  s.run (fun b =>
    let b := b.modTap tap (fun t => t.advance cyc)
    let t := b.tap tap
    match t.frStrobe with
    | none => b
    | some (id, ao) =>
      if b.tapStopped tap then b
      else
        let b := (b.modTap tap (fun t => { t with frStrobe := none })).latchTap tap id ao phase.toNat
        let later := (b.tap tap).frLater
        (b.each later (fun b e => b.latchTap tap e.1 e.2 phase.toNat)).modTap tap (fun t =>
          { t with frLater := [], frStop := false }))

/-! ### Collection and results (R291 to R293) -/

/-- FREEZE_COLLECT (R291): the station collects a latched bank over the tap link and frees it. -/
def execFreezeCollect (tap : Fin 2048) (s : State) : Host.Outcome State Fault Refusal :=
  s.run (fun b =>
    match (b.tap tap).latch with
    | none => b
    | some l =>
      if !b.running || (b.tap tap).drainAck then b
      else
        let b := b.modTap tap (fun t => { t with latch := none })
        match b.slotOf l.freezeId with
        | none => b
        | some i =>
          match (b.freezeSlot i).tap? tap with
          | none => b
          | some x =>
            if x.done then b
            else b.setFz i tap { x with
              vals := l.vals, ofs := l.ofs, stretched := l.stretched, stopped := l.stopped, cntLost := l.cntLost
              done := true })

/-- FREEZE_COLLECT_LIMIT_EXPIRY (R291): a tap not latched within the limit after T is reported, its latch cancelled. -/
def execFreezeCollectLimitExpiry (tap : Fin 2048) (s : State) : Host.Outcome State Fault Refusal :=
  s.run (fun b =>
    match b.scheduledSlots.find? (fun i =>
        let f := b.freezeSlot i
        f.begun && decide (f.t + us b.freezeLimitUs ≤ b.gt) &&
          (match f.tap? tap with | some x => !x.done | none => false)) with
    | some i =>
      let f := b.freezeSlot i
      match f.tap? tap with
      | some x =>
        (b.noLatch i tap x).modTap tap (fun t => t.cancelStrobe f.id)
      | none => b
    | none => b)

/-- The 64 bytes of a tap's entry (R292, R293): `own k` says that counter k is carried, `view` shows its value. -/
def fzEntry (n : Nat) (x : FzTap) (mask : Nat) (view : Nat → Nat → Nat) (ao : Bool) : List Byte :=
  let v := fun (k : Nat) => if x.notLatched then 0 else x.vals.getD k 0
  let fl := maskOf ((upto 6).filter (fun i =>
    [x.notLatched, x.down, x.stopped, x.busy, x.stretched, x.cntLost].getD i false))
  leBytes 2 n ++ leBytes 1 fl ++ leBytes 1 mask ++ leBytes 2 x.ofs ++ leBytes 2 0 ++
    ((upto 8).map (fun k => leBytes 6 (if mask.testBit k then view k (v k) else 0))).flatten ++
    leBytes 4 (if ao then v 8 else 0) ++ leBytes 4 (if ao then v 9 else 0)

/-- The tap entries of a station in a freeze. -/
def Freeze.ofStation (f : Freeze) (st : Nat) : Tbl FzTap := f.taps.filter (fun e => stOf e.1 == st)

/-- The 32-byte header (R292); a local freeze and a tenant's copy name no initiator (R293). -/
def fzHeader (f : Freeze) (st count : Nat) (tenant : Bool) : List Byte :=
  padTo 32 (leBytes 1 f.id ++ leBytes 1 st ++
    leBytes 2 (pack [(12, if tenant || !f.fabric then 0xFFF else f.node), (1, b2n f.fabric), (1, b2n f.aoClear), (1, b2n f.aon),
      (1, b2n f.unaligned)]) ++
    gtBytes f.t ++ leBytes 1 f.epoch ++ leBytes 1 f.bound ++ leBytes 1 count ++ gtBytes (if f.fabric then f.rootT else 0))

/-- The operator's record of a station (R292). -/
def Block.fzRecord (_b : Block) (f : Freeze) (st : Nat) : List Byte :=
  let es := f.ofStation st
  fzHeader f st es.length false ++ (es.map (fun e => fzEntry e.1 e.2 0xFF (fun _ v => v) true)).flatten

/-- Mask of a tenant's counters at a tap, by the tile's own descriptors (R298). -/
def Block.ownMask (b : Block) (n tenant : Nat) : Nat :=
  maskOf ((upto 8).filter (fun k => (tget {} (b.tap n).cnt k).owner == tenant))

/-- A tenant's copy (R293, R391). -/
def Block.fzCopy (b : Block) (f : Freeze) (st tenant : Nat) : List Byte :=
  let es := f.ofStation st
  fzHeader f st es.length true ++ (es.map (fun e =>
    fzEntry e.1 e.2 (b.ownMask e.1 tenant) (fun k v => coarsen (tget {} (b.tap e.1).cnt k).evsel v) false)).flatten

/-- Tenants that own an enabled counter of a station, at whichever of its taps (R293). -/
def Block.copyTenants (b : Block) (st : Nat) : List Nat :=
  (upto 64).filter (fun t => (tapsOf st).any (fun n => (b.tap n).cnt.any (fun c => c.2.en && c.2.owner == t)))

/-- Stations of a freeze whose records are built (R292, R347): those with a listed tap. -/
def Freeze.built (f : Freeze) : Nat := (f.stations.filter (fun st => !(f.ofStation st).isEmpty)).length

/-- A slot whose stations have all been reported is Done, and raises FREEZE (R291). -/
def Block.finishFreeze (b : Block) (i : Nat) : Block :=
  let f := b.freezeSlot i
  if f.begun && f.st == .scheduled && f.taps.all (fun e => f.stations.contains (stOf e.1)) then
    (b.modFreeze i (fun f => { f with st := .done })).raise 64 11
  else b

/-- A record of freeze slot `i` is offered, and its `RSEQ` noted (R291). -/
def Block.placeFz (b : Block) (i rtype owner : Nat) (bytes : List Byte) : Block :=
  (b.modFreeze i (fun f => { f with recs := f.recs ++ [(owner, tget 0 (b.tenant owner).rseq 19)] })).offerRec
    (b.mkRec 19 rtype owner 3 bytes)

/-- FREEZE_RESULT_PLACE (R291 to R293): a station whose listed taps are all collected or reported places its record. -/
def execFreezeResultPlace (st : Fin 32) (s : State) : Host.Outcome State Fault Refusal :=
  s.run (fun b =>
    match b.scheduledSlots.find? (fun i => (b.freezeSlot i).reached b.gt &&
        !(b.freezeSlot i).stations.contains st && ((b.freezeSlot i).ofStation st).all (fun e => e.2.done)) with
    | none => b
    | some i =>
      if !b.running then b
      else
        let b := b.atT i
        let f := b.freezeSlot i
        let es := f.ofStation st
        if !es.all (fun e => e.2.done) then b
        else
          let b := if es.isEmpty then b else b.placeFz i 0 64 (b.fzRecord f st)
          let b := if es.isEmpty || !f.tenantCopy then b
            else b.each (b.copyTenants st) (fun b t => b.placeFz i 1 t (b.fzCopy f st t))
          (b.modFreeze i (fun f => { f with stations := f.stations ++ [st.val] })).finishFreeze i)

/-! ### Coarse views (R392, R393) -/

/-- A coarse copy of a 32-bit loss counter (R30, R391). -/
def coarse32 (v : Nat) : Nat := if v ≥ 2 ^ 32 - 1 then 2 ^ 32 - 1 else v / 64 * 64

/-- A slot of a tenant's view after a refresh: value and flags; `old` is what was last read of the counter (R392).
DESIGN CHOICE, log entry 109. -/
def Block.viewSlot (b : Block) (tenant : Nat) (sel : Option (Nat × Nat)) (old : Nat × Nat) : Nat × Nat :=
  match sel with
  | none => (0, 0)
  | some (n, k) =>
    let c := tget {} (b.tap n).cnt k
    if c.owner ≠ tenant then (0, 0)
    else if (b.tap n).drainAck || (b.view n).down then (old.1, 1 + old.2 / 2 % 2 * 2 + 4)
    else (coarsen c.evsel c.value, 1 + 2 * b2n (decide (c.value ≥ 2 ^ 48 - 1)))

/-- What a slot of the view last read of the counter that it names now: 0 where it has read another one.
DESIGN CHOICE, log entry 109. -/
def Tenant.viewOld (t : Tenant) (k : Nat) : Nat × Nat :=
  if tget none t.viewOf k = tget none t.viewSel k then tget (0, 0) t.viewVal k else (0, 0)

/-- The refresh of one tenant's view. -/
def Block.refreshView (b : Block) (n : Nat) : Block :=
  let t := b.tenant n
  let vals := (upto 24).foldl (fun v k =>
    tset (0, 0) v k (b.viewSlot n (tget none t.viewSel k) (t.viewOld k))) t.viewVal
  b.modTenant n (fun t => { t with
    viewVal := vals
    viewOf := t.viewSel
    viewRefused := coarse32 t.refused
    viewLost := coarse32 t.pageLost
    viewAny := b2n (decide (t.refused > 0)) + 2 * b2n (decide (t.pageLost > 0))
    refreshGt := b.gt
    refreshSeq := (t.refreshSeq + 1) % 2 ^ 32 })

/-- VIEW_REFRESH (R393): every tenant's view at each multiple of 64 µs of `gt`, in Run and Doze. -/
def execViewRefresh (s : State) : Host.Outcome State Fault Refusal :=
  s.run (fun b =>
    if !b.timeRuns then b
    else b.each (upto 64) (fun b n => if (b.tenant n).refreshGt / us 64 < b.gt / us 64 then b.refreshView n else b))

end Sys2Proof.Machine
end

