-- ==== Sys2Proof/Machine/Ports.lean ====
section
/-! DEFINITION. The command and response ports (11_command_interface): the command pool, the response rings, the start
and completion of commands, and the port actions of a function reset. -/

namespace Sys2Proof.Machine

/-! ### The command pool (R309 to R315) -/

/-- Lines that `n` words fill. -/
def linesOf (n : Nat) : Nat := cdiv n 8

/-- `LENGTH` of a header (R305). -/
def hdrLen (h : Word) : Nat := fld h 16 8

/-- Pool lines that a function holds: its partly written packet and its queued packets (R314). -/
def Port.heldLines (p : Port) : Nat :=
  (match p.hdr with | some h => linesOf (1 + hdrLen h) | none => 0) +
    (p.queue.map (fun k => linesOf (1 + k.pkt.params.length))).foldl (· + ·) 0

/-- The 65 functions. -/
def allFns : List Nat := upto 65

/-- `avail_f` (R309). -/
def Block.availLines (b : Block) (f : Nat) : Int :=
  let held (g : Nat) := (b.port g).heldLines
  let shared : Int := 256 - ((allFns.map (fun g => max (held g) (b.tenant g).poolMin)).foldl (· + ·) 0 : Nat)
  min (((b.tenant f).poolMax : Int) - held f) (max 0 (((b.tenant f).poolMin : Int) - held f) + shared)

/-- A word with the unstrobed bytes zero (R312). -/
def strobed (d : Word) (strb : BitVec 4) : Word :=
  (upto 4).foldl (fun w i => if bit strb i then w else setFld w (8 * i) 8 0) d

/-- The packet that a header and its parameter words make; every word but the last must be fully strobed (R313). -/
def mkPoolPkt (h : Word) (ws : List (Word × BitVec 4)) : PoolPkt :=
  { opcode := fld h 24 8
    pkt := { tag := BitVec.ofNat 8 (fld h 8 8), flags := BitVec.ofNat 8 (fld h 0 8), params := ws.map Prod.fst
             lastStrb := match ws.getLast? with | some w => w.2 | none => 15 }
    bytesOk := (ws.dropLast).all (fun w => w.2 == 15) }

/-- A write of `CMD_DATA` (R310 to R312). DESIGN CHOICE, log entry 8. -/
def Block.cmdData (b : Block) (f : Nat) (d : Word) (strb : BitVec 4) : Block :=
  let p := b.port f
  if p.ignore > 0 then b.modPort f (fun p => { p with ignore := p.ignore - 1 })
  else
    match p.hdr with
    | none =>
      if strb ≠ 15 then b.modPort f (fun p => { p with framing := true, cmdFraming := satAdd 32 p.cmdFraming 1 })
      else
        let n := hdrLen d
        if b.availLines f ≥ (linesOf (1 + n) : Nat) then
          b.modPort f (fun p =>
            if n = 0 then { p with queue := p.queue ++ [mkPoolPkt d []] } else { p with hdr := some d, words := [] })
        else b.modPort f (fun p => { p with
          overrun := true, cmdOverrun := satAdd 32 p.cmdOverrun (1 + n), ignore := n })
    | some h => b.modPort f (fun p =>
        let ws := p.words ++ [(strobed d strb, strb)]
        if ws.length < hdrLen h then { p with words := ws }
        else { p with hdr := none, words := [], queue := p.queue ++ [mkPoolPkt h ws] })

/-- A write of `CMD_ABORT` (R315). -/
def Block.cmdAbort (b : Block) (f : Nat) (d : Word) : Block :=
  let b := if bit d 0 then b.modPort f (fun p => { p with hdr := none, words := [], ignore := 0 }) else b
  if bit d 1 then b.modPort f (fun p => { p with queue := [] }) else b

/-- `CMD_CREDITS` (R304). -/
def Block.cmdCredits (b : Block) (f : Nat) : Word :=
  let p := b.port f
  w32 (pack [(7, (min 64 (max 0 (b.availLines f))).toNat), (1, 0), (7, min 127 p.queue.length), (1, b2n p.hdr.isSome),
    (14, 0), (1, b2n p.framing), (1, b2n p.overrun)])

/-! ### The response ring (R322 to R328) -/

/-- First position after the last word of a response. -/
def Rsp.fin (r : Rsp) : Nat := r.start + r.words.length

/-- Lines in use: those of unreleased responses and those reserved for commands in progress (R318). -/
def Port.usedLines (p : Port) : Nat := (p.wr - p.rel) / 8 + (p.longs.map (fun l => l.lines)).foldl (· + ·) 0

/-- `RSP_LEVEL.WORDS` (R322). -/
def Port.readable (p : Port) : Nat := (p.ring.map (fun r => r.fin - max r.start p.rd)).foldl (· + ·) 0

/-- The word at the read pointer, and the pointer moved past it (R323). -/
def Port.takeWord (p : Port) : Word × Port :=
  match p.ring.find? (fun r => decide (r.start ≤ p.rd) && decide (p.rd < r.fin)) with
  | some r =>
    (r.words.getD (p.rd - r.start) 0,
      { p with rd := if p.rd + 1 = r.fin then r.start + 8 * linesOf r.words.length else p.rd + 1 })
  | none => (0, p)

/-- Releases every response read in full, oldest first (R328). -/
def releaseList (rd : Nat) : List Rsp → Nat → List Rsp × Nat
  | [], rel => ([], rel)
  | r :: t, rel =>
    if r.fin ≤ rd then releaseList rd t (r.start + 8 * linesOf r.words.length) else (r :: t, rel)

/-- A write of `RSP_RELEASE` (R328). -/
def Port.release (p : Port) : Port :=
  let x := releaseList p.rd p.ring p.rel
  { p with ring := x.1, rel := x.2, mark := max p.mark x.2 }

/-- `RSP_LEVEL` (R304). DEDUCED, log entry 33. -/
def Port.level (p : Port) : Word :=
  w32 (pack [(9, p.readable), (6, p.usedLines), (1, 0), (6, p.ring.length), (9, 0), (1, b2n p.emptyRead)])

/-- A waiting access is a read of `RSP_DATA` in the source's own window (R303). -/
def isRspRead (x : Bool × Acc × Gt) : Bool :=
  !x.1 && x.2.1.addr.toNat / 4096 == x.2.1.src.val && x.2.1.addr.toNat / 4 % 1024 == 4

/-- Parked reads receive the words that are readable (R324, R326). -/
def serveParked : Nat → Block → Nat → Block
  | 0, b, _ => b
  | n + 1, b, f =>
    match (b.port f).parked with
    | x :: rest =>
      if isRspRead x && decide ((b.port f).readable > 0) then
        let r := (b.port f).takeWord
        serveParked n ((b.modPort f (fun _ => { r.2 with parked := rest })).emit (.rt x.2.1.src x.2.1.id r.1)) f
      else b
    | [] => b

/-- The counted effect of an empty word (R324). -/
def Port.countEmpty (p : Port) : Port := { p with emptyRead := true, rspEmpty := satAdd 32 p.rspEmpty 1 }

/-- RSP_STALL_EXPIRY (R324): a parked read reaches its stall limit and returns the empty word. -/
def execRspStallExpiry (f : Fin 65) (s : State) : Host.Outcome State Fault Refusal :=
  s.run (fun b =>
    match (b.port f).parked with
    | x :: rest =>
      if isRspRead x && decide (x.2.2 + (b.port f).stallNs * 256 ≤ b.gt) then
        (b.modPort f (fun p => { p.countEmpty with parked := rest })).emit (.rt x.2.1.src x.2.1.id 0)
      else b
    | [] => b)

/-! ### Completion (R306, R307, R320, R322) -/

/-- Status codes (R307). -/
def stDone : Nat := 0x00
def stPartial : Nat := 0x01
def stBusy : Nat := 0x02
def stBadOpcode : Nat := 0x10
def stBadLength : Nat := 0x11
def stBadParam : Nat := 0x12
def stNoResource : Nat := 0x13
def stVersion : Nat := 0x14
def stHwFault : Nat := 0x20

/-- The ring with a response behind the others; the sequence number goes from 255 to 1 (R320, R322). -/
def Port.push (p : Port) (tag status : Nat) (ws : List Word) : Port :=
  { p with
    ring := p.ring ++ [{ start := p.wr, words := w32 (pack [(8, p.rspSeq), (8, tag), (8, ws.length), (8, status)]) :: ws }]
    wr := p.wr + 8 * linesOf (1 + ws.length)
    rspSeq := if p.rspSeq = 255 then 1 else p.rspSeq + 1 }

/-- `HW_FAULT` completions are counted (R331). -/
def Block.countFault (b : Block) (status : Nat) : Block :=
  b.modPower (fun p => { p with hwFaults := if status = stHwFault then satAdd 32 p.hwFaults 1 else p.hwFaults })

/-- A command of function `f` completes: its response is written and becomes readable, or, with `QUIET` and `DONE`, none
is written (R320, R322, R370). -/
def Block.respond (b : Block) (f tag : Nat) (quiet : Bool) (status : Nat) (words : List Word) : Block :=
  if quiet && status == stDone then b
  else
    let ws := if status ≤ 1 then words else []
    serveParked 8 (((b.countFault status).modPort f (fun p => p.push tag status ws)).raise f 0) f

/-- A long command of function `f` completes (R319). -/
def Block.finishLong (b : Block) (f : Nat) (l : Long) (status : Nat) (words : List Word) : Block :=
  (b.modPort f (fun p => { p with longs := p.longs.erase l })).respond f l.tag l.quiet status words

/-- Every long command in progress, in start order (R332). -/
def Block.allLongs (b : Block) : List (Nat × Long) :=
  sortBy (fun x y => decide (x.2.order < y.2.order))
    ((b.ports.map (fun e => e.2.longs.map (fun l => (e.1, l)))).flatten)

/-- Completes every long command for which `f` gives a status and result words. -/
def Block.finishLongs (b : Block) (f : Nat → LongKind → Option (Nat × List Word)) : Block :=
  b.each b.allLongs (fun b x =>
    match f x.1 x.2.kind with
    | some r => b.finishLong x.1 x.2 r.1 r.2
    | none => b)

/-- Replaces what the long commands wait for. -/
def Block.mapLongs (b : Block) (f : LongKind → LongKind) : Block :=
  { b with ports := b.ports.map (fun e => (e.1, { e.2 with longs := e.2.longs.map (fun l => { l with kind := f l.kind }) })) }

/-! ### Start of a command (R313, R316 to R319, R333, R334) -/

/-- Privileges of the catalogue (R333). -/
inductive Priv where
  | all | own | op
  deriving DecidableEq, Repr

/-- A command as it is carried out: the caller, `TAG`, parameter words, and valid bytes of the parameters. -/
structure Call where
  f : Nat
  tag : Nat
  ws : List Word
  bytes : Nat
  deriving DecidableEq, Repr

/-- Parameter word k. -/
def Call.w (c : Call) (k : Nat) : Word := c.ws.getD k 0

/-- Bits [lo + n − 1 : lo] of parameter word k. -/
def Call.fld (c : Call) (k lo n : Nat) : Nat := Machine.fld (c.w k) lo n

/-- A `gt` triple from word k on (R338). -/
def Call.gt (c : Call) (k : Nat) : Gt := c.fld k 0 32 + 2 ^ 32 * c.fld (k + 1) 0 32 + 2 ^ 64 * c.fld (k + 2) 0 8

/-- `CLEAR` of a counter command (R337): acts for the operator only. -/
def Call.clear (c : Call) : Bool := bit (c.w 0) 31 && c.f == 64

/-- What a command answers: it completes now, or it is long and waits. -/
inductive Reply where
  | done (status : Nat) (words : List Word)
  | long (kind : LongKind)
  deriving DecidableEq, Repr

/-- One catalogue entry: privilege, kind, accepted `LENGTH` values, result words, the packet-only range check, the
ownership check of a tenant, and the body. -/
structure Cmd where
  priv : Priv
  long : Call → Bool := fun _ => false
  lo : Nat
  hi : Nat
  res : Nat → Nat
  range : Call → Bool := fun _ => true
  owns : Call → Block → Bool := fun _ _ => true
  body : Call → Block → Reply × Block

/-- The bytes of a packet as R313 checks them: the valid parameter bytes, or `none` where they fail.
DEDUCED, log entry 33. -/
def PoolPkt.validBytes (k : PoolPkt) : Option Nat :=
  let n := k.pkt.params.length
  if !k.bytesOk then none
  else if n = 0 || k.pkt.lastStrb = 15 then some (4 * n)
  else if k.opcode ≠ 0xF0 then none
  else
    match k.pkt.lastStrb.toNat with
    | 1 => some (4 * (n - 1) + 1)
    | 3 => some (4 * (n - 1) + 2)
    | 7 => some (4 * (n - 1) + 3)
    | _ => none

/-- The block's self-test failed in a way that stops start-up (R482). -/
def Block.dead (b : Block) : Bool := b.power.stMash || b.power.stShadow || b.power.stStore

/-- Carries out the checks and the body of a packet (R308, R313, R317, R333, R334).
DESIGN CHOICE, log entry 8; DEDUCED, log entry 33. -/
def Block.carryOut (b : Block) (cat : Nat → Option Cmd) (f : Nat) (k : PoolPkt) : Reply × Block :=
  if b.dead then (.done stHwFault [], b)
  else
    match k.validBytes with
    | none => (.done stBadLength [], b)
    | some n =>
      if !(b.port f).negotiated && k.opcode ≠ 0 then (.done stVersion [], b)
      else
        match cat k.opcode with
        | none => (.done stBadOpcode [], b)
        | some e =>
          let len := k.pkt.params.length
          let c : Call := { f := f, tag := k.pkt.tag.toNat, ws := k.pkt.params, bytes := n }
          if len < e.lo || e.hi < len then (.done stBadLength [], b)
          else if !e.range c then (.done stBadParam [], b)
          else if f = 64 || e.priv = .all || (e.priv = .own && e.owns c b) then e.body c b
          else (.done stDone (List.replicate (e.res len) 0), b.violation f)

/-- The response lines that a packet reserves (R318). -/
def rsvLines (cat : Nat → Option Cmd) (k : PoolPkt) : Nat :=
  if bit k.pkt.flags 1 then 1
  else match cat k.opcode with
    | some e => linesOf (1 + e.res k.pkt.params.length)
    | none => 1

/-- The Maltster starts commands: in Run, from Serve on, or after a failed self-test (R482, R483).
DESIGN CHOICE, log entry 8. -/
def Block.serving (b : Block) : Bool := b.running && !b.power.quiesce && (decide (5 ≤ b.power.phase) || b.dead)

/-- The first packet of a function can start (R318, R319). DESIGN CHOICE, log entry 8. -/
def Block.startable (b : Block) (cat : Nat → Option Cmd) (f : Nat) : Bool :=
  let p := b.port f
  match p.queue with
  | [] => false
  | k :: _ =>
    b.serving && decide (p.usedLines + rsvLines cat k ≤ 32) &&
      (b.dead || ((!bit k.pkt.flags 0 || p.longs.isEmpty) &&
        (decide (p.longs.length < 4) || !(match cat k.opcode with
          | some e => e.long { f := f, tag := 0, ws := k.pkt.params, bytes := 0 }
          | none => false))))

/-- Function `f` is the one served last, and the block was busy at `gt` (R316, R471). -/
def Power.served (p : Power) (f : Nat) (gt : Gt) : Power := { p with lastServed := f, busyGt := gt }

/-- The Maltster takes the first packet of function `f` and carries it out (R314, R316, R319).
DESIGN CHOICE, log entry 8. -/
def Block.takePacket (b : Block) (cat : Nat → Option Cmd) (f : Nat) : Block :=
  match (b.port f).queue with
  | [] => b
  | k :: rest =>
    let lines := rsvLines cat k
    let b := (b.modPort f (fun p => { p with queue := rest })).modPower (·.served f b.gt)
    match b.carryOut cat f k with
    | (.done st ws, b) => b.respond f k.pkt.tag.toNat (bit k.pkt.flags 1) st ws
    | (.long kind, b) =>
      (b.modPort f (fun p => { p with longs := p.longs ++
        [{ tag := k.pkt.tag.toNat, quiet := bit k.pkt.flags 1, lines := lines, order := b.power.longOrder, kind := kind }] })
      ).modPower (fun p => { p with longOrder := p.longOrder + 1 })

/-- The function that is served next (R316): round robin after the one served last. DESIGN CHOICE, log entry 8. -/
def Block.nextFn (b : Block) (cat : Nat → Option Cmd) : Option Nat :=
  ((upto 65).map (fun i => (b.power.lastServed + 1 + i) % 65)).find? (b.startable cat)

/-- The accesses complete without effect, or none arrive: Quiesce and Off (R478, R474). -/
def Block.deaf (b : Block) : Bool := b.power.quiesce || b.power.st == .off

/-- A complete packet of function `f` reaches the Maltster (R312, R316): it takes its place behind the function's earlier
packets, and starts at once when it is the next in the round robin that may start. Below Run it wakes the block; a Resetting tenant's packet is
ignored (R381). Its words are accesses of the function (R505). A packet for which the pool has no room is ignored and counted, as at its header write (R310).
DESIGN CHOICE, log entry 8. -/
def Block.submit (b : Block) (cat : Nat → Option Cmd) (opcode f : Nat) (p : Pkt) : Block :=
  let n := p.params.length
  if b.deaf || (b.tenant f).resetting then b
  else if b.availLines f < (linesOf (1 + n) : Nat) then
    b.modPort f (fun x => { x with overrun := true, cmdOverrun := satAdd 32 x.cmdOverrun (1 + n) })
  else
    let b := (b.unlatch f).modPort f (fun x => { x with queue := x.queue ++ [{ opcode := opcode, pkt := p, bytesOk := true }] })
    if !b.running then b.requestWake 1
    else if (b.port f).queue.length = 1 && b.nextFn cat = some f then b.takePacket cat f else b

/-! ### Port actions of a function reset (R330) -/

/-- The parked and waiting reads of `RSP_DATA` return the empty word, in their places in the line of the function's accesses
(R301): each becomes a read of an offset that no map assigns, which reads zero. DEDUCED, log entry 34. -/
def Block.emptyParked (b : Block) (f : Nat) : Block :=
  b.modPort f (fun p => { p with parked := p.parked.map (fun x =>
    if isRspRead x then (false, { x.2.1 with addr := 0x6FFFC#19 }, x.2.2) else x) })

/-- The port actions at the begin of a function reset (R330): the counters that the operator reads stay. -/
def Block.resetPort (b : Block) (f : Nat) : Block :=
  let b := b.emptyParked f
  b.modPort f (fun p => { p with
    negotiated := false, hdr := none, words := [], ignore := 0, queue := [], framing := false, overrun := false
    emptyRead := false, ring := [], wr := 0, rd := 0, mark := 0, rel := 0, rspSeq := 1, stallNs := 4000, longs := [] })

end Sys2Proof.Machine
end

