-- ==== Sys2Proof/Machine/Hop.lean ====
section
/-! DEFINITION. The hop fabric, sending side (15_hop_fabric): frames and their CRC, sealing, credit and replay, link
states, discovery, routes, and the frames that the block originates. -/

namespace Sys2Proof.Machine

/-! ### Frames (R414 to R416) -/

/-- One step of the reflected CRC-32C (polynomial 0x1EDC6F41, reflected 0x82F63B78). -/
def crcBits : Nat → Nat → Nat
  | 0, c => c
  | n + 1, c => crcBits n (if c % 2 = 1 then Nat.xor (c / 2) 0x82F63B78 else c / 2)

/-- CRC-32C of a byte string (R416). PRESUMED, log entry 65. -/
def crc32c (bs : List Byte) : Nat :=
  Nat.xor (bs.foldl (fun c x => crcBits 8 (Nat.xor c x.toNat)) 0xFFFFFFFF) 0xFFFFFFFF

/-- Header bytes 0 to 27. -/
def hdrBytes (f : Frame) : List Byte :=
  leBytes 1 (pack [(4, f.ftype.toNat), (4, f.pflits.toNat)]) ++ leBytes 1 (pack [(1, b2n f.kph), (1, b2n f.nak)]) ++
    leBytes 2 f.dst.toNat ++ leBytes 2 f.src.toNat ++ leBytes 2 f.lseq.toNat ++ leBytes 2 f.lack.toNat ++
    leBytes 1 f.cred.toNat ++ leBytes 1 f.ttl.toNat ++ padTo 16 f.body

/-- The CRC that a frame must carry. -/
def frameCrc (f : Frame) : Nat := crc32c (hdrBytes f ++ padTo (32 * f.pflits.toNat) f.payload ++ f.tag)

/-- Byte k of a frame's body. -/
def fbody (f : Frame) (k : Nat) : Nat := (f.body.getD k 0).toNat

/-- `n` body bytes from byte k as a number. -/
def fbodyN (f : Frame) (k n : Nat) : Nat := leNat ((padTo 16 f.body).drop k |>.take n)

/-- Flits of a frame on the link. -/
def flitsOf (compat : Bool) (f : Frame) : Nat := 1 + f.pflits.toNat + b2n compat

/-- Frame types that are not sequenced (R415). -/
def unsequenced (t : Nat) : Bool := t == 0 || t == 1 || t == 0xB

/-- A frame type is defined for a protocol version (R415). -/
def definedType (version t : Nat) : Bool :=
  if version = 2 then [0, 1, 5, 6, 7, 0xA, 0xB].contains t else decide (t ≤ 9) || t == 0xB

/-- A new frame with body and payload bytes; header fields of the link are set when it is sent. -/
def Block.newFrame (b : Block) (ftype dst : Nat) (body payload : List Byte) : Frame :=
  { ftype := BitVec.ofNat 4 ftype, pflits := BitVec.ofNat 4 (cdiv payload.length 32), kph := false, nak := false
    dst := BitVec.ofNat 12 dst, src := BitVec.ofNat 12 b.hop.nodeId, lseq := 0, lack := 0, cred := 0, ttl := 32
    body := padTo 16 body, payload := padTo (32 * cdiv payload.length 32) payload, crc := 0, tag := [] }

/-- The six ports. -/
def allPorts : List Nat := upto 6

/-- The hop logic runs: in Run and Doze (R442). -/
def Block.hopRuns (b : Block) : Bool :=
  (b.power.st == .run || b.power.st == .doze) && b.power.goal != .off && !b.power.quiesce && decide (5 ≤ b.power.phase)

/-- Ports that are Up at protocol version 3. -/
def Block.up3 (b : Block) : List Nat := allPorts.filter (fun p => (b.hopPort p).st == .up && (b.hopPort p).version == 3)

/-- Some link is Up, its `BYE` not yet sent. -/
def Block.anyUp (b : Block) : Bool := allPorts.any (fun p => (b.hopPort p).st == .up || (b.hopPort p).st == .closing)

/-- A frame joins the queue of a port; `via` is the port on which a forwarded frame arrived, 7 for the block's own, 8 + c for
a page of channel c. -/
def Block.sendOn (b : Block) (p : Nat) (f : Frame) (via : Nat) : Block :=
  b.modHopPort p (fun x => { x with txq := x.txq ++ [(f, via)] })

/-- The same frame on several ports. -/
def Block.sendAll (b : Block) (ps : List Nat) (f : Frame) : Block := b.each ps (fun b p => b.sendOn p f 7)

/-! ### Sealing (R439) -/

/-- The 96-bit nonce: salt, then the frame counter, most significant byte first. -/
def nonceOf (salt : BitVec 32) (ctr : Nat) : List Byte := leBytes 4 salt.toNat ++ beBytes 8 ctr

/-- Seals a frame under a key with a counter. PRESUMED, log entry 65. -/
def sealFrame (k : Key) (ctr : Nat) (f : Frame) : Frame :=
  let r := gcmSeal k.key (nonceOf k.salt ctr) (hdrBytes f) f.payload
  { f with payload := r.1, tag := padTo 32 (padTo 16 r.2 ++ leBytes 8 ctr) }

/-- The counter in a tag flit. -/
def tagCtr (f : Frame) : Nat := leNat (f.tag.drop 16 |>.take 8)

/-- Opens a sealed frame; `none` when the tag fails. PRESUMED, log entry 65. -/
def openFrame (k : Key) (f : Frame) : Option Frame :=
  match gcmOpen k.key (nonceOf k.salt (tagCtr f)) (hdrBytes f) f.payload (f.tag.take 16) with
  | some pt => some { f with payload := pt }
  | none => none

/-- The CRC is put last. -/
def stampCrc (f : Frame) : Frame := { f with crc := BitVec.ofNat 32 (frameCrc f) }

/-! ### Transmission (R417, R418, R420) -/

/-- The link fields of a frame's header (R414). -/
def HopPort.header (x : HopPort) (f : Frame) : Frame :=
  { f with
    kph := x.kph, nak := x.nakDue, lack := BitVec.ofNat 16 x.rxNext, cred := BitVec.ofNat 8 (min 255 x.credRet)
    lseq := if unsequenced f.ftype.toNat then 0 else BitVec.ofNat 16 x.txSeq }

/-- A frame as it leaves on port `p`: link fields, seal and CRC. -/
def HopPort.dress (x : HopPort) (f : Frame) : Frame :=
  let f := x.header f
  match x.compat && x.st == .up, x.txKey with
  | true, some k => stampCrc (sealFrame k x.txCtr f)
  | _, _ => stampCrc f

/-- The port's registers after a dressed frame left. -/
def HopPort.sent (x : HopPort) : HopPort :=
  { x with nakDue := false, credRet := x.credRet - min 255 x.credRet, txCtr := if x.compat then x.txCtr + 1 else x.txCtr }

/-- A `ROTATE` that announces a new phase has left under the old key: later frames use the new one (R440). -/
def HopPort.swapTx (x : HopPort) : HopPort :=
  { x with txKey := x.txOther, txOther := x.txKey, kph := !x.kph, txCtr := 0 }

/-- A frame type that is routed or flooded (R415): it leaves in Ready only (R432). -/
def routedType (t : Nat) : Bool := decide (5 ≤ t) && decide (t ≤ 9)

/-- The first frame of the queue that may leave: while discovery is not Ready, routed and flooded frames wait (R432).
DEDUCED, log entry 36. -/
def HopPort.nextTx (x : HopPort) (ready : Bool) : Option (Frame × Nat) :=
  x.txq.find? (fun e => ready || !routedType e.1.ftype.toNat)

/-- The port may send a frame other than `IDLE` (R417, R420): a resend, or a new frame with credit and replay room. -/
def HopPort.maySend (x : HopPort) (ready : Bool) : Bool :=
  !x.resend.isEmpty || (match x.nextTx ready with
    | some e => decide (flitsOf x.compat e.1 ≤ x.credits) && decide (x.replay.length < 512)
    | none => false)

/-- The time at which the oldest unacknowledged frame was sent (R418). -/
def HopPort.stampAck (x : HopPort) : HopPort := { x with ackGt := x.sentGt.headD x.ackGt }

/-- A frame of the replay buffer has been sent again. -/
def HopPort.resent (x : HopPort) (f : Frame) (g : Gt) : HopPort :=
  { x with
    resend := x.resend.drop 1
    sentGt := (x.replay.zip x.sentGt).map (fun (e : Frame × Gt) => if e.1.lseq == f.lseq then g else e.2)
    traceGt := if f.ftype = 7 then g else x.traceGt }.stampAck

/-- Sends the first waiting frame of a port when its credit and replay buffer allow (R417, R420); resends go first.
DEDUCED, log entry 35. -/
def Block.sendFrame (b : Block) (p : Nat) : Block :=
  let x := b.hopPort p
  match x.resend, x.nextTx (b.hop.disc == 6) with
  | f :: _, _ => (b.modHopPort p (fun x => x.resent f b.gt)).emit (.hop p f)
  | [], some (f, via) =>
    let n := flitsOf x.compat f
    if x.credits < n || x.replay.length ≥ 512 then b
    else
      let g := x.dress f
      let b := b.modHopPort p (fun x =>
        let x := { x.sent with
          txq := x.txq.erase (f, via), credits := x.credits - n, replay := x.replay ++ [g], txSeq := (x.txSeq + 1) % 2 ^ 16
          sentGt := x.sentGt ++ [b.gt], ackGt := x.sentGt.headD b.gt
          traceGt := if f.ftype = 7 then b.gt else x.traceGt }
        if f.ftype = 0xA && fbody f 0 = 0 then x.swapTx else x)
      let b := if via < 6 then b.modHopPort via (fun y => { y with credRet := y.credRet + flitsOf y.compat f }) else b
      b.emit (.hop p g)
  | [], none => b

/-- IDLE_SEND (R420): a port with nothing else that it may send sends `IDLE`. -/
def execIdleSend (port : Fin 6) (s : State) : Host.Outcome State Fault Refusal :=
  s.run (fun b =>
    let x := b.hopPort port
    if b.hopRuns && x.st == .up && !x.maySend (b.hop.disc == 6) then
      (b.modHopPort port HopPort.sent).emit (.hop port (x.dress (b.newFrame 0 0xFFF [] [])))
    else b)

/-- A `BYE` with a reason, in the clear with the link's header fields (R414, R423). -/
def Block.sendBye (b : Block) (p reason : Nat) : Block :=
  b.emit (.hop p (stampCrc ((b.hopPort p).header (b.newFrame 0xB 0xFFF (leBytes 1 reason) []))))

/-! ### Routes (R430 to R432) -/

/-- The routing entry of a node as (port, hops); (7, 0x3F) when unreachable. -/
def Block.route (b : Block) (n : Nat) : Nat × Nat :=
  let v := tget (7 * 64 + 0x3F) b.hop.routes n
  (v / 64, v % 64)

/-- Entry n from the neighbours' vectors (R430). -/
def Block.bestRoute (b : Block) (n : Nat) : Nat :=
  b.up3.foldl (fun best p =>
    let h := tget 0x3F (b.hopPort p).vec n + 1
    if h ≤ 32 && h < best % 64 then p * 64 + h else best) (7 * 64 + 0x3F)

/-- A VECTOR frame for the block of 256 entries from `first` (R430). -/
def Block.vectorFrame (b : Block) (first : Nat) : Frame :=
  b.newFrame 2 0xFFF (leBytes 1 5 ++ leBytes 2 first ++ leBytes 1 b.hop.gen)
    ((upto 256).map (fun i => BitVec.ofNat 8 (b.route (first + i)).2))

/-- The full vector on a port: 16 frames. -/
def Block.sendVectors (b : Block) (p : Nat) : Block :=
  b.each (upto 16) (fun b i => b.sendOn p (b.vectorFrame (256 * i)) 7)

/-- Applies new vectors to the entries of the listed blocks of 256, and sends the blocks that changed (R430, R431). -/
def Block.recompute (b : Block) (blocks : List Nat) : Block :=
  let ns := (blocks.map (fun k => (upto 256).map (fun i => 256 * k + i))).flatten
  let diff := ns.filter (fun n => n != b.hop.nodeId && n != 0xFFF &&
    b.bestRoute n != tget (7 * 64 + 0x3F) b.hop.routes n)
  if diff.isEmpty then b
  else
    let r := diff.foldl (fun t n => tset (7 * 64 + 0x3F) t n (b.bestRoute n)) b.hop.routes
    let b := b.modHop (fun h => { h with routes := r, routeGt := b.gt })
    let b := b.modHop (fun h => { h with parent := if h.nodeId = 0 then 7 else (b.route 0).1 })
    let bs := blocks.filter (fun k => diff.any (fun n => n / 256 == k))
    b.each b.up3 (fun b p => b.each bs (fun b k => b.sendOn p (b.vectorFrame (256 * k)) 7))

/-- All 16 blocks. -/
def allBlocks : List Nat := upto 16

/-- Instances known: reachable entries, own included (R445). -/
def Block.nodesKnown (b : Block) : Nat := (b.hop.routes.filter (fun e => decide (e.2 % 64 ≤ 32))).length

/-- A frame toward a node over the routing table; the arrival port counts a loss (R432). -/
def Block.sendRouted (b : Block) (f : Frame) (via : Nat) : Block :=
  let r := b.route f.dst.toNat
  if b.hop.disc = 6 && r.1 < 6 then b.sendOn r.1 f via
  else if via < 6 then
    (b.modHopPort via (fun x => { x with
      hopLost := satAdd 32 x.hopLost 1, credRet := x.credRet + flitsOf x.compat f })).loss 9
  else b

/-! ### Discovery (R426 to R429) -/

/-- The instance's own root key. -/
def Block.ownKey (b : Block) : Nat := b.hop.prio * 2 ^ 48 + b.hop.uid

/-- An ELECT frame. -/
def Block.electFrame (b : Block) : Frame :=
  b.newFrame 2 0xFFF (leBytes 1 0 ++ leBytes 7 b.hop.bestKey ++ leBytes 1 b.hop.bestHops ++ leBytes 1 b.hop.gen) []

/-- The instance becomes its own root: root time is its own time (R57). DEDUCED, log entry 37. -/
def Block.selfRoot (b : Block) : Block :=
  (b.modTime (fun t => { t with fabOff := 0, fabRate := 0, t0 := b.gt, prevMeas := none, chain := 0, chainKnown := false })
    ).realign

/-- A measurement ends without an offset (R55, R435): `TSYNC_REJECT`. -/
def Block.tsyncDrop (b : Block) : Block :=
  (b.modHop (fun h => { h with tsMeas := none })).modTime (fun t => { t with
    tsyncReject := satAdd 32 t.tsyncReject 1, lastTsync := b.gt })

/-- What REDISCOVER answers (R352). -/
def Block.discWords (b : Block) : Nat × List Word := (stDone, [w32 b.hop.nodeId, w32 b.nodesKnown])

/-- Completes the REDISCOVER commands (R352). -/
def Block.finishRediscover (b : Block) : Block :=
  b.finishLongs (fun _ k => match k with
    | .rediscover => some b.discWords
    | _ => none)

/-- What TSYNC_NOW answers after a measurement that was not applied. -/
def rejectWords (kept : Nat) (theta : Int) (delta : Nat) : Nat × List Word :=
  (stDone, [w32 kept, w32 (twos 32 (max (-2 ^ 31) (min (2 ^ 31 - 1) theta))), w32 delta])

/-- A measurement is rejected, and TSYNC_NOW completes with nothing applied (R55, R435). -/
def Block.tsyncReject (b : Block) (kept : Nat) (theta : Int) (delta : Nat) : Block :=
  b.tsyncDrop.finishLongs (fun _ k => match k with
    | .tsyncNow => some (rejectWords kept theta delta)
    | _ => none)

/-- Discovery starts (R427): without a version-3 link Up the instance is Isolated (R426). A measurement under way is
discarded; an instance that has had a parent keeps its offset until it is the root or has a parent again (R57). Commands that
complete with this do so in the order in which they started (R332). DEDUCED, log entry 37. -/
def Block.startDiscovery (b : Block) (gen : Nat) : Block :=
  let cut := b.hop.tsMeas.isSome
  let b := if cut then b.tsyncDrop else b
  let b := b.modHop (fun h => { h with
    disc := if b.up3.isEmpty then 0 else 1
    bestKey := b.ownKey, bestHops := 0, parent := 7, countPassed := false, rootWait := false, gen := gen % 256
    quietGt := b.gt
    ports := tmap {} h.ports (fun _ x => { x with claimed := false, count := none, vec := [] }) })
  let alone := b.up3.isEmpty
  let b := if alone then (if b.time.chainKnown then b else b.selfRoot) else b.sendAll b.up3 b.electFrame
  b.finishLongs (fun _ k => match k with
    | .tsyncNow => if cut then some (rejectWords 0 0 0) else none
    | .rediscover => if alone then some b.discWords else none
    | _ => none)

/-- The ELECT from port p carrying (k, h) is better than what the instance knows (R427). -/
def Hop.beaten (o : Hop) (p k h : Nat) : Bool :=
  decide (h + 1 ≤ 32) && (decide (k < o.bestKey) || (k == o.bestKey &&
    (decide (h + 1 < o.bestHops) || (h + 1 == o.bestHops && decide (p < o.parent)))))

/-- The better key is taken and passed on (R427). -/
def Block.takeElect (b : Block) (p k h : Nat) : Block :=
  let b := b.modHop (fun o => { o with
    bestKey := k, bestHops := h + 1, parent := p, quietGt := b.gt, rootWait := false
    disc := if o.disc = 2 && !o.countPassed then 1 else o.disc })
  if h + 1 < 32 then b.sendAll (b.up3.filter (· != p)) b.electFrame else b

/-- ELECT in Electing, Counting or Assigning (R427, R428): a change of parent after COUNT_REQ was passed on restarts
discovery with the next generation, in which the ELECT counts. -/
def Block.hearElect (b : Block) (p k h : Nat) : Block :=
  let o := b.hop
  if o.beaten p k h then
    if o.countPassed && o.parent ≠ p then
      let b := b.startDiscovery (o.gen + 1)
      if b.hop.beaten p k h then b.takeElect p k h else b
    else b.takeElect p k h
  else if h + 1 > 32 && k < o.bestKey then b.modHop (fun o => { o with disc := 7 })
  else b

/-- ELECT from port p carrying (k, h) (R427, R428, R441). DEDUCED, log entry 36. -/
def Block.elect (b : Block) (p k h : Nat) : Block :=
  let o := b.hop
  if o.disc = 1 || o.disc = 2 || (o.disc = 3 && (k = o.bestKey || (k < o.bestKey && p ≠ o.parent))) then b.hearElect p k h
  else if o.disc = 0 || k ≠ o.bestKey then (b.startDiscovery o.gen).hearElect p k h
  else b

/-- ASSIGN goes on to the claimants in rising port order (R429). -/
def Block.assignOn (b : Block) (base : Nat) : Block :=
  let claim := allPorts.filter (fun p => (b.hopPort p).claimed)
  (claim.foldl (fun (r : Nat × Block) p =>
    let f := r.2.newFrame 2 0xFFF (leBytes 1 4 ++ leBytes 2 r.1 ++ leBytes 1 r.2.hop.gen ++ leBytes 1 r.2.hop.depth) []
    (min 0xFFFF (r.1 + (r.2.hopPort p).count.getD 0), r.2.sendOn p f 7)) (min base 0xFFF + 1, b)).2

/-- The instance has its node ID: routing starts (R430). -/
def Block.startRouting (b : Block) : Block :=
  let b := b.modHop (fun h => { h with disc := 4, routes := [(h.nodeId, 7 * 64)], routeGt := b.gt, root := 0 })
  let b := b.each b.up3 (fun b p => b.sendVectors p)
  b.recompute allBlocks

/-- The instance takes node ID, generation and depth, and passes ASSIGN on (R429); one that lies beyond 32 hops of the root is
Unaddressed (R427). DEDUCED, log entry 36. -/
def Block.takeId (b : Block) (base gen depth : Nat) : Block :=
  let far := decide (32 < depth)
  let b := b.modHop (fun h => { h with
    nodeId := if far then 0xFFF else min base 0xFFF, gen := gen % 256, depth := depth, root := 0 })
  let b := b.assignOn base
  if base ≥ 0xFFF || far then b.modHop (fun h => { h with disc := 7 }) else b.startRouting

/-- Every claimant has answered (R428): the root assigns, another instance answers its parent. -/
def Block.countsDone (b : Block) : Block :=
  let cs := (allPorts.filter (fun p => (b.hopPort p).claimed)).map (fun p => (b.hopPort p).count)
  if cs.any Option.isNone then b
  else
    let n := min 0xFFFF (1 + (cs.map (fun c => c.getD 0)).foldl (· + ·) 0)
    if b.hop.parent = 7 then b.selfRoot.takeId 0 (b.hop.gen + 1) 0
    else
      (b.modHop (fun h => { h with disc := 3 })).sendOn b.hop.parent
        (b.newFrame 2 0xFFF (leBytes 1 3 ++ leBytes 2 n) []) 7

/-- COUNT_REQ goes to every claimant (R428). -/
def Block.countReqOn (b : Block) : Block :=
  let b := b.modHop (fun h => { h with
    disc := 2, countPassed := true, ports := tmap {} h.ports (fun _ x => { x with count := none }) })
  let claim := allPorts.filter (fun p => (b.hopPort p).claimed)
  (b.sendAll claim (b.newFrame 2 0xFFF (leBytes 1 2) [])).countsDone

/-- ELECT_QUIET (R428): best key, hops and parent have not changed for 50 µs. -/
def execElectQuiet (s : State) : Host.Outcome State Fault Refusal :=
  s.run (fun b =>
    if b.hopRuns && b.hop.disc == 1 && !b.hop.rootWait && decide (b.hop.quietGt + us 50 ≤ b.gt) then
      if b.hop.parent = 7 then b.modHop (fun h => { h with rootWait := true })
      else (b.modHop (fun h => { h with disc := 2 })).sendOn b.hop.parent (b.newFrame 2 0xFFF (leBytes 1 1) []) 7
    else b)

/-- ROOT_WAIT_EXPIRY (R428): the root's further 20 µs pass. -/
def execRootWaitExpiry (s : State) : Host.Outcome State Fault Refusal :=
  s.run (fun b =>
    if b.hopRuns && b.hop.disc == 1 && b.hop.rootWait && decide (b.hop.quietGt + us 70 ≤ b.gt) then
      (b.modHop (fun h => { h with rootWait := false })).countReqOn
    else b)

/-! ### Offset measurements, child side (R55, R56, R435) -/

/-- A measurement starts with CALL to the parent. -/
def Block.tsyncCall (b : Block) : Block :=
  let n := b.hop.tsNext
  (b.modHop (fun h => { h with tsMeas := some n, tsNext := (n + 1) % 256, tsStamps := [], callGt := b.gt })).sendOn
    b.hop.parent (b.newFrame 3 0xFFF (leBytes 1 0 ++ leBytes 1 n) []) 7

/-- The instance is a child whose link to its parent is Up at version 3. -/
def Block.hasParent (b : Block) : Bool := b.up3.contains b.hop.parent && decide (5 ≤ b.hop.disc) && b.hop.disc != 7

/-- TSYNC_PERIOD_EXPIRY (R56): counted from the end of the last measurement, whatever started it.
DESIGN CHOICE, log entry 96. -/
def execTsyncPeriodExpiry (s : State) : Host.Outcome State Fault Refusal :=
  s.run (fun b =>
    if b.hopRuns && b.hasParent && b.hop.tsMeas.isNone && decide (b.time.lastTsync + us b.time.tsyncUs ≤ b.gt) then
      b.tsyncCall
    else b)

/-- TSYNC_IDLE_MEASURE (R56): 10 µs without trace frames on the link to the parent. -/
def execTsyncIdleMeasure (s : State) : Host.Outcome State Fault Refusal :=
  s.run (fun b =>
    if b.hopRuns && b.hasParent && b.hop.tsMeas.isNone &&
        decide (max (b.hopPort b.hop.parent).traceGt b.time.lastTsync + us 10 ≤ b.gt) then b.tsyncCall
    else b)

/-- TSYNC_FUP_TIMEOUT (R435): no FUP within 100 µs of CALL. -/
def execTsyncFupTimeout (s : State) : Host.Outcome State Fault Refusal :=
  s.run (fun b =>
    if b.hop.tsMeas.isSome && decide (b.hop.callGt + us 100 ≤ b.gt) then b.tsyncReject 0 0 0 else b)

/-- ROUTING_QUIET (R431): routing unchanged for 50 µs; the root is Ready, another instance aligns. -/
def execRoutingQuiet (s : State) : Host.Outcome State Fault Refusal :=
  s.run (fun b =>
    if b.hopRuns && b.hop.disc == 4 && decide (b.hop.routeGt + us 50 ≤ b.gt) then
      if b.hop.nodeId = 0 then (b.modHop (fun h => { h with disc := 6 })).finishRediscover
      else (b.modHop (fun h => { h with disc := 5 })).tsyncCall
    else b)

/-- TSYNC_REQ_SEND (R55, R435): the parent sends the next REQ, at least 1 µs after the last. -/
def execTsyncReqSend (port : Fin 6) (t1 : Nat) (s : State) : Host.Outcome State Fault Refusal :=
  s.run (fun b =>
    let x := b.hopPort port
    match x.tsMeas with
    | some (n, k) =>
      if b.hopRuns && x.st == .up && decide (k < 8) && decide (x.tsGt + us 1 ≤ b.gt) then
        (b.modHopPort port (fun x => { x with
          tsMeas := some (n, k + 1), tsGt := b.gt, tsStamps := tput x.tsStamps k (t1, 0) })).sendOn port
            (b.newFrame 3 0xFFF (leBytes 1 1 ++ leBytes 1 n ++ leBytes 1 k) []) 7
      else b
    | none => b)

/-! ### Link states (R422, R424, R441) -/

/-- A link changes state: the operator's LINK vector is raised (R370). -/
def Block.setLink (b : Block) (p : Nat) (st : LinkState) : Block :=
  if (b.hopPort p).st == st then b
  else (b.modHopPort p (fun x => { x with st := st, since := b.gt })).raise 64 13

/-- The part of a port that ends with its link: keys, sequence, buffers and what it knows of the neighbour's vectors. -/
def HopPort.drop (x : HopPort) : HopPort :=
  { x with
    credits := 0, replay := [], sentGt := [], helloGt := none, txSeq := 0, rxNext := 0, nakDue := false, credRet := 0, resends := 0, txq := [], resend := []
    helloRx := false, seenRx := false, txKey := none, txOther := none, rxKey := none, rxOther := none, rxPhase := false
    keyReq := [], txCtr := 0, rxIdle := 0, rxIdleO := 0, kph := false, rotStep := 0, rotating := false
    claimed := false, count := none, vec := [], tsMeas := none, tsStamps := [], tsRsp := 0 }

/-- Credit of forwarded frames that wait on a port that falls: they leave their receive buffers. -/
def Block.returnHeld (b : Block) (q : List (Frame × Nat)) : Block :=
  b.each q (fun b x => if x.2 < 6 then
    b.modHopPort x.2 (fun y => { y with credRet := y.credRet + flitsOf y.compat x.1 }) else b)

/-- What the other queues know of a port that falls: frames of channels leave its queue, a page in the middle of its frames
counts as accepted (R443), and frames that arrived on it and wait elsewhere have no credit to return.
DEDUCED, log entry 35. -/
def Block.leaveQueues (b : Block) (p : Nat) (q : List (Frame × Nat)) : Block :=
  let b := b.each q (fun b e => if 8 ≤ e.2 then
      b.modChan (e.2 - 8) (fun x => { x with
        frameOut := false, grant := x.grant.map (fun g => if g.2 = 0 then g else (g.1, 16)) })
    else b)
  b.modHop (fun h => { h with ports := tmap {} h.ports (fun _ x => { x with
    txq := x.txq.map (fun e => if e.2 = p then (e.1, 6) else e) }) })

/-- The routes through a port that has fallen become unreachable (R441). -/
def Block.dropRoutes (b : Block) (p : Nat) : Block :=
  b.modHop (fun h => { h with routes := h.routes.filter (fun e => e.2 / 64 != p) })

/-- A link goes Down (R422, R438, R441): unacknowledged frames and those held for forwarding are lost and counted, keys
destroyed, routes recomputed; without a route to its root, or without a version-3 link, the instance elects again.
DEDUCED, log entry 35. -/
def Block.linkDown (b : Block) (p reason : Nat) : Block :=
  let x := b.hopPort p
  let lost := x.replay.length + (x.txq.filter (fun e => decide (e.2 ≤ 6))).length
  let was3 := (x.st == .up || x.st == .closing) && x.version == 3
  let b := (b.returnHeld x.txq).leaveQueues p x.txq
  let b := b.modHopPort p (fun x => { x.drop with reason := reason, hopLost := satAdd 32 x.hopLost lost })
  let b := if lost > 0 then b.loss 9 else b
  let b := b.setLink p .down
  let b := b.finishLongs (fun _ k => match k with
    | .keyRotate q => if q = p then some (stPartial, [w32 (b2n x.kph)]) else none
    | _ => none)
  if !was3 then b
  else
    let cut := b.hop.tsMeas.isSome && b.hop.parent = p
    let d := b.hop.disc
    let b := if d < 4 || d = 7 then b.dropRoutes p else b.recompute allBlocks
    if (if d = 7 then b.up3.isEmpty || b.hop.parent = p
        else d < 4 || b.up3.isEmpty || (b.hop.nodeId ≠ 0 && (b.route 0).1 = 7)) then b.startDiscovery b.hop.gen
    else if cut then b.tsyncReject 0 0 0
    else b

/-- The port starts from Training (R424). -/
def Block.train (b : Block) (p : Nat) : Block :=
  if (b.hopPort p).adminUp then (b.setLink p .training).emit (.train p) else b

/-- The operator takes a link that is Up out of service (R422): it is Closing until its `BYE` has been sent. -/
def Block.startClose (b : Block) (p reason : Nat) : Block :=
  (b.modHopPort p (fun x => { x with byeReason := reason })).setLink p .closing

/-- The `BYE` of a Closing link is sent and the link goes Down; unless the operator holds it down it starts again from
Training (R422, R352). DEDUCED, log entry 35. -/
def Block.closeEnd (b : Block) (p : Nat) : Block :=
  let r := (b.hopPort p).byeReason
  ((b.sendBye p r).linkDown p r).train p

/-- The link goes Up (R420, R425): fresh sequence and credit; version 3 joins discovery (R427, R441). -/
def Block.linkUp (b : Block) (p version : Nat) : Block :=
  let b := (b.modHopPort p (fun x => { x with
    version := version, compat := version == 2, credits := 1024, txSeq := 0, rxNext := 0, linkUps := satAdd 32 x.linkUps 1
    ackGt := b.gt, rotGt := b.gt, traceGt := b.gt })).setLink p .up
  if version = 3 then
    if b.hop.disc = 0 then b.startDiscovery b.hop.gen
    else
      let b := b.sendOn p b.electFrame 7
      if b.hop.disc ≥ 4 && b.hop.disc ≤ 6 then b.sendVectors p else b
  else b

/-- A resend of the replay buffer (R418): after 8 in a row without progress the link goes Down. -/
def Block.resendAll (b : Block) (p : Nat) : Block :=
  let x := b.hopPort p
  if x.replay.isEmpty then b
  else if x.resends ≥ 8 then b.linkDown p 5
  else b.modHopPort p (fun x => { x with
    resend := x.replay, resends := x.resends + 1, replays := satAdd 32 x.replays 1
    sentGt := x.replay.map (fun _ => b.gt), ackGt := b.gt })

/-- REPLAY_TIMEOUT (R418): the oldest unacknowledged frame has waited 2 µs. -/
def execReplayTimeout (port : Fin 6) (s : State) : Host.Outcome State Fault Refusal :=
  s.run (fun b =>
    let x := b.hopPort port
    if b.hopRuns && x.st == .up && !x.replay.isEmpty && decide (x.ackGt + us 2 ≤ b.gt) then b.resendAll port else b)

/-- PHY_READY (R424, R468): the port enters Hello; below Run the block wakes. DESIGN CHOICE, log entry 72. -/
def execPhyReady (port : Fin 6) (s : State) : Host.Outcome State Fault Refusal :=
  s.run (fun b =>
    if b.power.st == .off then b
    else
      let b := if b.running then b else b.requestWake 6
      if (b.hopPort port).st == .training then
        (b.modHopPort port (fun x => { x with helloGt := none, helloRx := false, seenRx := false })).setLink port .hello
      else b)

/-- PHY_LOST (R422, R441). -/
def execPhyLost (port : Fin 6) (s : State) : Host.Outcome State Fault Refusal :=
  s.run (fun b => if (b.hopPort port).st == .down then b else b.linkDown port 2)

/-- LINK_RETRAIN_TIMER (R424): 10 ms after any Down but OPERATOR the port starts from Training. -/
def execLinkRetrainTimer (port : Fin 6) (s : State) : Host.Outcome State Fault Refusal :=
  s.run (fun b =>
    let x := b.hopPort port
    if b.hopRuns && x.st == .down && x.adminUp && x.reason != 0 && x.reason != 1 && decide (x.since + ms 10 ≤ b.gt) then
      b.train port
    else b)

/-- HELLO_SEND (R423, R424): every 1 µs in Hello. -/
def execHelloSend (port : Fin 6) (s : State) : Host.Outcome State Fault Refusal :=
  s.run (fun b =>
    let x := b.hopPort port
    if b.hopRuns && x.st == .hello && x.helloGt.all (fun g => decide (g + us 1 ≤ b.gt)) then
      (b.modHopPort port (fun x => { x with helloGt := some b.gt })).emit (.hop port (stampCrc (b.newFrame 1 0xFFF
        (leBytes 1 (if x.v2Allow then 2 else 3) ++ leBytes 1 3 ++ leBytes 6 b.hop.uid ++ leBytes 1 b.hop.prio ++
          leBytes 1 (port.val + 8 * b2n x.helloRx) ++ leBytes 1 x.reason) [])))
    else b)

/-- HELLO_TIMEOUT (R422): no valid `HELLO` within 1 ms. -/
def execHelloTimeout (port : Fin 6) (s : State) : Host.Outcome State Fault Refusal :=
  s.run (fun b =>
    let x := b.hopPort port
    if x.st == .hello && !x.helloRx && decide (x.since + ms 1 ≤ b.gt) then b.linkDown port 4 else b)

/-- Every port is taken down for a block reset or a move to Off (R443, R474). -/
def Block.allDown (b : Block) (reason : Nat) : Block :=
  b.each allPorts (fun b p =>
    let b := if (b.hopPort p).st == .up || (b.hopPort p).st == .closing then b.sendBye p reason else b
    if (b.hopPort p).st == .down then b else b.linkDown p reason)

/-- `ADMIN_UP` is written (R352, R422, R444). -/
def Block.adminSet (b : Block) (p : Nat) (up : Bool) : Block :=
  let x := b.hopPort p
  let b := b.modHopPort p (fun x => { x with adminUp := up })
  if up then (if x.st == .down && !x.adminUp && decide (5 ≤ b.power.phase) then b.train p else b)
  else if x.st == .up then b.startClose p 1
  else if x.st == .closing then b
  else if x.st == .down then b.modHopPort p (fun x => { x with reason := 1 }) else b.linkDown p 1

/-! ### Keys (R438, R440, R500) -/

/-- A key request on the key interface (R458, R500). DEDUCED, log entry 39. -/
def Block.askKey (b : Block) (p : Nat) (rx phase : Bool) : Block :=
  let x := b.hopPort p
  (b.modHopPort p (fun x => { x with keyReq := x.keyReq ++ [(rx, phase, b.gt)] })).emit
    (.keyReq b.hop.nodeId p x.nuid phase rx)

/-- A key request of a direction and phase. -/
def keyFor (rx phase : Bool) (k : Bool × Bool × Gt) : Bool := k.1 == rx && k.2.1 == phase

/-- The port waits for a key (R500). -/
def HopPort.asks (x : HopPort) (rx phase : Bool) : Bool := x.keyReq.any (keyFor rx phase)

/-- Keying starts (R425, R438). -/
def Block.startKeying (b : Block) (p : Nat) : Block :=
  ((b.modHopPort p (fun x => { x with compat := true })).setLink p .keying).askKey p false false
    |>.askKey p true false

/-- A rotation of the transmit direction starts (R440). -/
def Block.startRotate (b : Block) (p : Nat) : Block :=
  (b.modHopPort p (fun x => { x with rotating := true, rotStep := 1, rotGt := b.gt })).askKey p false
    (!(b.hopPort p).kph)

/-- The old phase has left the replay buffer after the acknowledgement: its key is destroyed and DONE is sent (R440). -/
def Block.rotateCheck (b : Block) (p : Nat) : Block :=
  let x := b.hopPort p
  if x.rotStep = 3 && x.replay.all (fun f => f.kph == x.kph) then
    let b := (b.modHopPort p (fun x => { x with txOther := none, rotStep := 0, rotating := false })).sendOn p
      (b.newFrame 0xA 0xFFF (leBytes 1 2 ++ leBytes 1 (b2n x.kph)) []) 7
    b.finishLongs (fun _ k => match k with
      | .keyRotate q => if q = p then some (stDone, [w32 (b2n x.kph)]) else none
      | _ => none)
  else b

/-- KEY_RESPONSE (R438, R440, R500): session keys arrive; one that matches no request is discarded.
DEDUCED, log entry 39; DESIGN CHOICE, log entry 72. -/
def execKeyResponse (port : Fin 6) (rxDir phase : Bool) (key : BitVec 256) (salt : BitVec 32) (err : Bool) (s : State) :
    Host.Outcome State Fault Refusal :=
  s.run (fun b =>
    let x := b.hopPort port
    if !b.hopRuns || !x.asks rxDir phase then b
    else
      let b := b.modHopPort port (fun x => { x with keyReq := x.keyReq.eraseP (keyFor rxDir phase) })
      if err then b.linkDown port 7
      else
        let k : Key := { key := key, salt := salt }
        if x.st == .keying then
          let b := b.modHopPort port (fun x => if rxDir then { x with rxKey := some k } else { x with txKey := some k })
          let y := b.hopPort port
          if y.txKey.isSome && y.rxKey.isSome then b.linkUp port 2 else b
        else if rxDir then
          (b.modHopPort port (fun x => { x with rxOther := some k, rxIdleO := 0 })).sendOn port
            (b.newFrame 0xA 0xFFF (leBytes 1 1 ++ leBytes 1 (b2n phase)) []) 7
        else
          (b.modHopPort port (fun x => { x with txOther := some k, rotStep := 2 })).sendOn port
            (b.newFrame 0xA 0xFFF (leBytes 1 0 ++ leBytes 1 (b2n phase)) []) 7)

/-- KEY_TIMEOUT (R422, R440): a key has not come within 1 ms of its request. DEDUCED, log entry 39. -/
def execKeyTimeout (port : Fin 6) (s : State) : Host.Outcome State Fault Refusal :=
  s.run (fun b =>
    let x := b.hopPort port
    if x.keyReq.any (fun k => decide (k.2.2 + ms 1 ≤ b.gt)) then b.linkDown port 7 else b)

/-- KEY_PERIOD_EXPIRY (R440): `KEY_PERIOD`, or a transmit counter of 2⁴⁸, starts a rotation. -/
def execKeyPeriodExpiry (port : Fin 6) (s : State) : Host.Outcome State Fault Refusal :=
  s.run (fun b =>
    let x := b.hopPort port
    let due := (x.keyPeriod != 0 && decide (x.rotGt + ms (1000 * x.keyPeriod) ≤ b.gt)) || decide (2 ^ 48 ≤ x.txCtr)
    if b.hopRuns && x.st == .up && x.compat && !x.rotating && due then b.startRotate port else b)

end Sys2Proof.Machine
end

