-- ==== Sys2Proof/Machine/Sparge.lean ====
section
/-! DEFINITION. The sparge engine (14_sparge_dma): channels, descriptors, the funnel, halts and disables, the drain cap,
the export port, hop targets, tenant scrubs (R384 to R389), and the channel part of the ports of 18_integration_ports. -/

namespace Sys2Proof.Machine

/-! ### Pages that a channel has to take (R162, R343, R434) -/

/-- First number of an underback slot among the page numbers that a channel handles. -/
def landBase : Nat := 8192

/-- The page holds data of its owner's current epoch. -/
def Block.livePage (b : Block) (g : Page) : Bool := g.epoch == b.epochOf g.owner

/-- `OSEQ` of the pages that running CASK_DRAIN commands name for channel `c` (R343). -/
def Block.namedFor (b : Block) (c : Nat) : List Nat :=
  (b.allLongs.map (fun x => match x.2.kind with
    | .caskDrain _ ch left _ _ => if ch = c then left else []
    | _ => [])).flatten

/-- `OSEQ` of the pages that running CASK_DRAIN commands name for a channel other than `c`. -/
def Block.namedElsewhere (b : Block) (c : Nat) : List Nat :=
  (b.allLongs.map (fun x => match x.2.kind with
    | .caskDrain _ ch left _ _ => if ch < 16 && ch ≠ c then left else []
    | _ => [])).flatten

/-- Underback pages whose 16 frames have arrived or were given up, waiting for the landing channel (R434), but for one that
the export port has begun. -/
def Block.landingFor (b : Block) (c : Nat) : List Nat :=
  let ch := b.chan c
  if b.hop.sinkDest = 2 && b.hop.landingCh = c && ch.owner = 64 && ch.target = 0 then
    (b.hop.ready.map (fun s => landBase + s)).filter (fun p => b.sparge.exSrc != some 16 || b.sparge.exHold != some p)
  else []

/-- The pages that channel `c` has to take, oldest first (R162, R343): a CASK_DRAIN keeps the pages that it names, and the
other Full pages of an owner in Stream mode are queued (R359). DEDUCED, log entry 42. -/
def Block.chanPages (b : Block) (c : Nat) : List Nat :=
  let ch := b.chan c
  let named := b.namedFor c
  let kept := b.namedElsewhere c
  let stream := (b.tenant ch.owner).mode == 2
  let l := b.cask.pages.filter (fun e =>
    b.livePage e.2 && ((named.contains e.2.oseq && (e.2.st == .full || e.2.st == .held)) ||
      (stream && e.2.st == .full && e.2.owner == ch.owner && !kept.contains e.2.oseq)))
  b.openOrder l ++ (b.landingFor c).filter (fun p => some p != ch.page && !ch.lagging.contains p)

/-- Unit i of a page on a channel's read path (R154, R173); a landing page reads from its slot. -/
def Block.chanUnit (b : Block) (p i : Nat) : List Byte :=
  if p < landBase then b.readSlot p i
  else tget (List.replicate 64 0) (tget ({ port := 0, src := 0, ch := 0, reqNo := 0 } : SinkSlot) b.hop.slots
    (p - landBase)).units i

/-- The 4,096 bytes of a page, with the units that hold an uncorrectable word as zeros (R176). -/
def Block.pageBytes (b : Block) (p : Nat) (badUnits : List Nat) : List Byte :=
  ((upto 64).map (fun i => if badUnits.contains i then List.replicate 64 0 else padTo 64 (b.chanUnit p i))).flatten

/-- Page bytes after `SWAP` (R404). -/
def swapBytes (swap : Nat) (bs : List Byte) : List Byte :=
  let k := match swap with | 0 => 0 | 1 => 1 | 2 => 3 | _ => 2
  (upto bs.length).map (fun i => bs.getD (Nat.xor i k) 0)

/-! ### The drain cap (R411) -/

/-- `A_o` of R411 under the present budgets. -/
def Block.allowance (b : Block) (o : Nat) : Nat :=
  let bud (q : Nat) : Nat := (b.tenant q).budget
  let sum := (b.sparge.inP.map bud).foldl (· + ·) 0
  if !b.sparge.inP.contains o then 0 else if sum ≤ 320 then bud o * 1000 else 320000 * bud o / sum

/-- The allowances of the present window, debts repaid first (R411); a changed budget acts at once (R363). -/
def Block.reallow (b : Block) : Block :=
  b.modSparge (fun s => { s with
    allow := s.inP.foldl (fun (t : Tbl Nat) o => tset 0 t o (b.allowance o - tget 0 s.owed o)) [] })

/-- The window that has started is the present one. -/
def Block.inWindowNow (b : Block) : Bool := b.sparge.winOn && b.gt / 256000 * 256000 == b.sparge.winStart

/-- What all owners together have issued in the present window, the debts apart (R366, R411). -/
def Sparge.allSpent (s : Sparge) : Nat :=
  (s.spent.map (fun e => if tget 0 s.debt e.1 = 0 then e.2 else min e.2 (tget 0 s.allow e.1))).foldl (· + ·) 0

/-- What an owner may still issue in the present window (R411); a budget changed in mid-window leaves the total within
320,000 bytes (R366). -/
def Block.allowLeft (b : Block) (o : Nat) : Nat :=
  if b.inWindowNow && b.sparge.inP.contains o then
    min (tget 0 b.sparge.allow o - tget 0 b.sparge.spent o) (320000 - b.sparge.allSpent)
  else 0

/-- The owner may issue traffic of this cost. -/
def Block.canSpend (b : Block) (o cost : Nat) : Bool := decide (cost ≤ b.allowLeft o)

/-- Charges an owner. -/
def Block.spend (b : Block) (o cost : Nat) : Block :=
  b.modSparge (fun s => { s with spent := tmod 0 s.spent o (· + cost) })

/-- A whole page for the export port or a hop sink may be taken (R411): within the allowance, or, as a debt when `A_o` is
less than its cost, in a window in which the owner has issued nothing else. -/
def Block.canTakeWhole (b : Block) (o : Nat) : Bool :=
  let a := b.allowLeft o
  decide (4096 ≤ a) || (decide (0 < a) && tget 0 b.sparge.spent o == 0 && decide (tget 0 b.sparge.allow o + tget 0 b.sparge.owed o < 4096))

/-- Charges a whole page; a cost beyond the allowance is noted as a debt of the window. -/
def Block.spendWhole (b : Block) (o : Nat) : Block :=
  if 4096 ≤ b.allowLeft o then b.spend o 4096
  else (b.spend o 4096).modSparge (fun s => { s with debt := tset 0 s.debt o 4096 })

/-- What an owner owes when the present window ends: what this window's allowance did not repay, and what a page taken whole
cost beyond it. -/
def Block.owedAfter (b : Block) (o : Nat) : Nat :=
  (tget 0 b.sparge.owed o - b.allowance o) +
    (if tget 0 b.sparge.debt o = 0 then 0 else tget 0 b.sparge.spent o - tget 0 b.sparge.allow o)

/-- The owners with a page queued, a page Draining or a scrub running. -/
def Block.pendingOwners (b : Block) : List Nat :=
  (upto 65).filter (fun o =>
    b.cask.pages.any (fun e => e.2.owner == o && (e.2.st == .draining ||
      (e.2.st == .full && b.livePage e.2 && (b.tenant o).mode == 2))) ||
    (upto 16).any (fun c => (b.chan c).owner == o && (!(b.chanPages c).isEmpty || (b.chan c).page.isSome)) ||
    (o == 64 && !b.sparge.scrubs.isEmpty))

/-! ### Draining and CASK_DRAIN (R343, R405) -/

/-- Channel of a CASK_DRAIN that named a Disabled channel, or whose channel was bound anew: none drains for it. -/
def drainNone : Nat := 16

/-- Channel of a CASK_DRAIN whose channel halted or was disabled. -/
def drainCut : Nat := 17

/-- A page drained through channel `c` leaves the CASK_DRAIN commands that name it. -/
def Block.drainNote (b : Block) (c oseq : Nat) : Block :=
  b.mapLongs (fun k => match k with
    | .caskDrain o ch left d g =>
      if left.contains oseq then .caskDrain o ch (left.erase oseq) (if ch = c then d + 1 else d) (if ch = c then g else g + 1)
      else k
    | _ => k)

/-- A page in `left` is still in the command's set: waiting, or Draining on the command's channel. -/
def Block.inSet (b : Block) (ch oseq : Nat) : Bool :=
  b.cask.pages.any (fun e => e.2.oseq == oseq &&
    ((b.livePage e.2 && (e.2.st == .full || e.2.st == .held)) ||
      (e.2.st == .draining && ((b.chan ch).page == some e.1 || (b.chan ch).lagging.contains e.1))))

/-- Pages that left the sets are counted, and commands with nothing left complete (R343). DEDUCED, log entry 60. -/
def Block.settleDrains (b : Block) : Block :=
  let b := b.mapLongs (fun k => match k with
    | .caskDrain o ch left d g =>
      let keep := left.filter (b.inSet ch)
      .caskDrain o ch keep d (g + (left.length - keep.length))
    | _ => k)
  b.finishLongs (fun _ k => match k with
    | .caskDrain _ ch left d g =>
      if left.isEmpty then some (if ch = drainCut then stPartial else stDone, [w32 d, w32 g]) else none
    | _ => none)

/-- The CASK_DRAIN commands of channel `c` are given up (R343, R359, R409): their pages leave the set, and they complete, in
the order in which they started, when the drains are settled (R332). -/
def Block.partialDrains (b : Block) (c : Nat) (ended : Nat) : Block :=
  b.mapLongs (fun k => match k with
    | .caskDrain o ch left d g => if ch = c then .caskDrain o ended [] d (g + left.length) else k
    | _ => k)

/-- A page has left through channel `c` (R405, R412): counted, and reported to the cask or freed in the underback.
DEDUCED, log entry 39. -/
def Block.pageMoved (b : Block) (c p : Nat) : Block :=
  let b := b.modChan c (fun x => { x with
    pagesMoved := satAdd 32 x.pagesMoved 1, bytesMoved := satAdd 64 x.bytesMoved 4096 })
  if p < landBase then (b.drainNote c (b.page p).oseq).drainDone p
  else b.modHop (fun h => { h with ready := h.ready.erase (p - landBase), slots := tdel h.slots (p - landBase) })

/-- A page that was not drained goes back (R407). -/
def Block.pageBack (b : Block) (p : Nat) : Block := if p < landBase then b.drainUndo p else b

/-- Channel `c` takes a page. -/
def Block.chanTake (b : Block) (c p : Nat) : Block :=
  let b := if p < landBase then b.takePage p ((b.tenant (b.page p).owner).mode == 2) else b
  b.modChan c (fun x => { x with page := some p, pos := 0 })

/-! ### Memory requests (R394, R401, R492) -/

/-- Memory initiator port of a channel. -/
def memPort (c : Nat) : Nat := c % 2

/-- Tags that writes under the identifier of channel `c` hold: its own, and those of scrub writes to its window (R492). -/
def Block.tagsHeld (b : Block) (c : Nat) : List Nat :=
  (b.chan c).flight.map (fun f => f.tag) ++
    (((b.sparge.scrubs.map Scrub.flight).flatten ++ b.sparge.orphans).filter (fun i => i / 64 == c)).map (fun i => i % 64)

/-- The lowest free tag of channel `c`. DEDUCED, log entry 42. -/
def Block.freeTag (b : Block) (c : Nat) : Nat := ((upto 64).find? (fun t => !(b.tagsHeld c).contains t)).getD 0

/-- A write of channel `c`. -/
def Block.chanWrite (b : Block) (c kind addr : Nat) (data : List Byte) (pages : List Nat) : Block :=
  let t := b.freeTag c
  (b.modChan c (fun x => { x with
    flight := x.flight ++ [{ tag := t, kind := kind, addr := addr, bytes := data.length, pages := pages }] })).emit
      (.memWrite (memPort c) (64 * c + t) addr data)

/-- Ring address of descriptor i. -/
def Channel.descAddr (x : Channel) (i : Nat) : Nat := x.ringBase + 32 * i

/-- Ring length. -/
def Channel.ringLen (x : Channel) : Nat := 2 ^ (if 4 ≤ x.ringLog2 && x.ringLog2 ≤ 16 then x.ringLog2 else 4)

/-- No write of the kind is without a response. -/
def Channel.clear (x : Channel) : Bool := x.flight.isEmpty

/-- Bytes 16 to 27 and 28 to 31 of a descriptor as the channel writes them (R398). -/
def Desc.status (d : Desc) : List Byte :=
  leBytes 4 d.doneLen ++ leBytes 2 (satTo 16 d.pages) ++ leBytes 2 (b2n d.headCont + 2 * b2n d.tailCut) ++ leBytes 4 d.firstSeq

/-- The write-back of a completed descriptor (R401): bytes 16 to 27 once every data write and an index read that is out have
their response, then bytes 28 to 31 with `OWN` 0, at whose issue `HEAD` advances. DEDUCED, log entry 42. -/
def Block.wbStep (b : Block) (c : Nat) : Block :=
  let x := b.chan c
  match x.desc with
  | none => b
  | some d =>
    if !d.closing || !x.clear || x.idxRead || !b.running || !b.canSpend x.owner 64 then b
    else if d.wbStage = 0 then
      ((b.spend x.owner 64).modChan c (fun x => { x with desc := some { d with wbStage := 1 } })).chanWrite c 1
        (x.descAddr d.index + 16) d.status []
    else if d.wbStage = 2 then
      ((b.spend x.owner 64).modChan c (fun x => { x with
        desc := some { d with wbStage := 3 }, head := (d.index + 1) % x.ringLen })).chanWrite c 2
        (x.descAddr d.index + 28) (leBytes 4 d.dstat) []
    else b

/-! ### Halt, disable and abandon (R406 to R410) -/

/-- The descriptor of a channel that stops: it is to be written back with `dstat`; the page in use goes back to the cask, so
that none of it continues in the next (R398). -/
def Desc.cut (d : Desc) (dstat : Nat) : Desc :=
  { d with
    closing := true
    dstat := if d.wbStage < 3 then dstat else d.dstat
    tailCut := if d.wbStage = 0 then false else d.tailCut }

/-- The channel stops issuing (R407, R409, R410): its frames leave the hop ports' queues, its page the export port. -/
def Block.stopChan (b : Block) (c : Nat) (why : ChStop) (dstat : Nat) (noWb : Bool) : Block :=
  let b := b.modHop (fun h => { h with ports := tmap {} h.ports (fun _ x => { x with
    txq := x.txq.filter (fun e => e.2 != 8 + c) }) })
  let b := if b.sparge.exSrc = some c then b.modSparge (fun s => { s with exSrc := none, exBeat := 0 }) else b
  b.modChan c (fun x => { x with
    stop := why, stopGt := b.gt, reqNo := none, retryGt := none, grant := none, frameOut := false
    desc := if noWb then none else x.desc.map (fun d => d.cut dstat) })

/-- The channel halts (R407): the cause and the place are latched. -/
def Block.haltChan (b : Block) (c cause addr dstat : Nat) (noWb : Bool) (page : Nat) : Block :=
  let b := b.modChan c (fun x => { x with
    haltCause := cause, haltAddr := addr
    haltDesc := match x.desc with | some d => d.index | none => x.head
    haltEntry := match x.desc with | some d => if d.isIndex then d.segIdx else 0 | none => 0
    haltPage := x.page.getD page % 8192 })
  b.stopChan c .halt dstat noWb

/-- The pages of a stopped channel return to the cask once every response is in (R407, R379). -/
def Block.stopPages (b : Block) (c : Nat) : Block :=
  let x := b.chan c
  let ps := (match x.page with | some p => [p] | none => []) ++ x.lagging
  let b := b.modChan c (fun x => { x with page := none, pos := 0, lagging := [], bad := [] })
  b.each ps (fun b p => b.pageBack p)

/-- The end state of a channel that stopped (R407, R409, R410, R413). -/
def Block.stopEnd (b : Block) (c : Nat) : Block :=
  let x := b.chan c
  match x.stop with
  | .halt =>
    let b := (b.modChan c (fun x => { x with
      st := if x.offAfter then .disabled else .halted, stop := .none, offAfter := false })).modPower (fun p =>
        { p with busErrors := tmod 0 p.busErrors c (fun n => satAdd 32 n 1) })
    let b := b.raise x.owner 7
    let b := if x.owner < 64 then b.raise 64 7 else b
    b.partialDrains c drainCut
  | .disable => (b.modChan c (fun x => { x with st := .disabled, stop := .none })).partialDrains c drainCut
  | _ => b.modChan c (fun x => { x with st := .idle, stop := .none })

/-- A stopping channel goes on as far as it can: responses, pages, write-back, end state (R407, R409, R410). -/
def Block.stopStep (b : Block) (c : Nat) : Block :=
  let x := b.chan c
  if x.stop == .none || x.flight.any (fun f => f.kind == 0) then b
  else
    let b := if x.page.isSome || !x.lagging.isEmpty then
        let b := b.stopPages c
        if x.stop == .abandon then b else b.partialDrains c drainCut
      else b
    let b := b.wbStep c
    let x := b.chan c
    if x.desc.isSome || !x.clear || x.descRead || x.idxRead then b else b.stopEnd c

/-- The disable of a channel began in this cycle: an error response still halts it (R409, R413). -/
def Block.endsNow (b : Block) (x : Channel) : Bool := x.stop == .disable && x.stopGt == b.gt

/-- An error response has halted the channel in this cycle, and `ENABLE` is 1. -/
def Block.errNow (b : Block) (x : Channel) : Bool :=
  x.enable && x.stopGt == b.gt && decide (1 ≤ x.haltCause) && decide (x.haltCause ≤ 4)

/-- `ENABLE` is written (R395, R409, R410, R413): a channel that halts is Disabled afterwards, unless the write came in the
cycle of the error response. -/
def Block.chanEnable (b : Block) (c : Nat) (on : Bool) : Block :=
  let x := b.chan c
  let b := b.modChan c (fun y => { y with
    enable := on, offAfter := !on && x.stop == .halt && (x.offAfter || !b.errNow x) })
  if on then (if x.st == .disabled then b.modChan c (fun x => { x with st := .idle }) else b)
  else if x.st == .disabled || x.stop == .halt || x.stop == .disable then b
  else if x.st == .halted then if b.errNow x then b else (b.modChan c (fun x => { x with st := .disabled })).partialDrains c drainCut
  else (b.stopChan c .disable (if x.stop == .abandon then 3 else 2) false).stopStep c

/-- The rest of a page of an earlier epoch is abandoned (R379, R410). -/
def Block.abandonOld (b : Block) (c owner : Nat) : Block :=
  let x := b.chan c
  let old (p : Nat) : Bool :=
    decide (p < landBase) && (b.page p).owner == owner && (b.page p).epoch != b.epochOf owner
  if x.stop == .none && (x.page.any old || x.lagging.any old) then
    (b.stopChan c .abandon 3 false).stopStep c
  else b

/-! ### Descriptors and index tables (R398 to R402) -/

/-- The channel may take pages: enabled, neither halted nor stopping, its tenant not Resetting, no scrub before it. -/
def Block.mayTake (b : Block) (c : Nat) : Bool :=
  let x := b.chan c
  x.enable && (x.st == .idle || x.st == .running) && x.stop == .none && x.heldBy.isEmpty && !(b.tenant x.owner).resetting

/-- Room left in the buffer of the descriptor in use; for an index descriptor, whether entries or bytes are left. -/
def Desc.room (d : Desc) : Bool := !d.closing && decide (d.segIdx < (if d.isIndex then d.len else 1))

/-- A descriptor completes (R400). -/
def Block.complete (b : Block) (c : Nat) : Block :=
  b.modChan c (fun x => { x with desc := x.desc.map (fun d => { d with closing := true, tailCut := x.page.isSome && x.pos != 0 }) })

/-- One step of everything that a channel does of its own accord: states, descriptor and index reads, completion when
nothing is left to take, write-backs, and the end of a stop (R395, R399 to R401); a channel that a scrub holds shows Idle
(R386). DEDUCED, log entry 42. -/
def Block.pumpStep (b : Block) (c : Nat) : Block :=
  if b.power.quiesce || b.power.goal == .off then b
  else
  let b := b.stopStep c
  let x := b.chan c
  if x.stop != .none || !x.enable || x.st == .halted || x.st == .disabled then b
  else
    let work := b.mayTake c && !(b.chanPages c).isEmpty
    let b := if x.st == .idle && work then b.modChan c (fun x => { x with st := .running }) else b
    let x := b.chan c
    if x.st != .running then b
    else
      let b := match x.desc with
        | some d => if !d.closing && x.page.isNone && d.used != 0 && (b.chanPages c).isEmpty then b.complete c else b
        | none => b
      let b := b.wbStep c
      let x := b.chan c
      let b :=
        if x.target = 0 && x.desc.isNone && !x.descRead && (x.bell || (!x.starved && (work || x.page.isSome))) &&
            b.canSpend x.owner 64 then
          ((b.spend x.owner 64).modChan c (fun x => { x with descRead := true, bell := false })).emit
            (.memRead (memPort c) (64 * c) (x.descAddr x.head) 32)
        else b
      let x := b.chan c
      let b := match x.desc with
        | some d =>
          if d.isIndex && !d.closing && !x.idxRead && d.segIdx = d.segs.length && d.segs.length < d.len &&
              b.canSpend x.owner 64 then
            let a := d.addr + 16 * d.segs.length
            let n := min (min 8 (d.len - d.segs.length)) ((128 - a % 128) / 16)
            ((b.spend x.owner 64).modChan c (fun x => { x with idxRead := true })).emit
              (.memRead (memPort c) (64 * c + 1) a (16 * n))
          else b
        | none => b
      let x := b.chan c
      if x.page.isNone && x.lagging.isEmpty && x.clear && !x.descRead &&
          (if x.heldBy.isEmpty then x.desc.isNone && (b.chanPages c).isEmpty else x.desc.all (fun d => !d.closing)) then
        b.modChan c (fun x => { x with st := .idle })
      else b

/-- A channel takes a step, and the drains that it ended are settled. DEDUCED, log entry 42. -/
def Block.pump (b : Block) (c : Nat) : Block := (b.pumpStep c).settleDrains

/-- Every channel takes a step. -/
def Block.pumpAll (b : Block) : Block := (b.each (upto 16) (fun b c => b.pumpStep c)).settleDrains

/-- The descriptor that 32 bytes at ring index `i` give, and whether it is well formed (R398, R399). -/
def descOf (i : Nat) (bs : List Byte) : Desc × Bool :=
  let addr := leNat (bs.take 8)
  let len := leNat (bs.drop 8 |>.take 4)
  let ctl := leNat (bs.drop 12 |>.take 4)
  let st := leNat (bs.drop 28 |>.take 4)
  let idx := ctl.testBit 0
  let ok := ctl / 4 == 0 && st % 2 ^ 31 / 256 == 0 &&
    (if idx then decide (1 ≤ len) && decide (len ≤ 4096) && addr % 16 == 0 else decide (64 ≤ len))
  ({ index := i, addr := addr, len := len, isIndex := idx, perPage := ctl.testBit 1
     segs := if idx then [] else [(addr, len, true)] }, ok)

/-- DESCRIPTOR_READ_RETURN (R399, R406): the descriptor is taken, sets `STARVED`, or halts the channel. -/
def execDescriptorReadReturn (ch : Fin 16) (data : List Byte) (err : Bool) (s : State) :
    Host.Outcome State Fault Refusal :=
  s.run (fun b =>
    let x := b.chan ch
    if !x.descRead then b
    else
      let b := b.modChan ch (fun x => { x with descRead := false })
      let p := ((b.chanPages ch).head?).getD 0
      if x.stop != .none && !(err && b.endsNow x) then b.pump ch
      else if err then (b.haltChan ch 2 (x.descAddr x.head) 1 true p).pump ch
      else
        let bs := padTo 32 data
        if !(leNat (bs.drop 28)).testBit 31 then b.modChan ch (fun x => { x with starved := true })
        else
          let d := descOf x.head bs
          let b := b.modChan ch (fun x => { x with desc := some d.1, starved := false, bell := false })
          if d.2 then b.pump ch else (b.haltChan ch 5 (x.descAddr x.head) 4 false p).pump ch)

/-- Segment entries of an index table (R402). -/
def segsOf : Nat → List Byte → List (Nat × Nat × Bool)
  | 0, _ => []
  | n + 1, bs =>
    if bs.length < 16 then []
    else
      let len := leNat (bs.drop 8 |>.take 4)
      (leNat (bs.take 8), len, len != 0 && leNat (bs.drop 12 |>.take 4) == 0) :: segsOf n (bs.drop 16)

/-- INDEX_READ_RETURN (R402, R406). -/
def execIndexReadReturn (ch : Fin 16) (data : List Byte) (err : Bool) (s : State) : Host.Outcome State Fault Refusal :=
  s.run (fun b =>
    let x := b.chan ch
    if !x.idxRead then b
    else
      let b := b.modChan ch (fun x => { x with idxRead := false })
      match x.desc with
      | none => b.pump ch
      | some d =>
        if x.stop != .none && !(err && b.endsNow x) then b.pump ch
        else
          let a := d.addr + 16 * d.segs.length
          if err then (b.haltChan ch 3 a 1 false (x.lagging.headD 0)).pump ch
          else
            let n := min (min 8 (d.len - d.segs.length)) ((128 - a % 128) / 16)
            (b.modChan ch (fun x => { x with desc := some { d with segs := d.segs ++ segsOf n (padTo (16 * n) data) } })).pump ch)

/-! ### Data (R400, R403) -/

/-- The segment lies wholly in the drain window (R397). -/
def Channel.inWindow (x : Channel) (a n : Nat) : Bool := decide (x.winBase ≤ a) && decide (a + n ≤ x.winBase + x.winSize)

/-- Gathers `n` bytes for one beat from the page in use and, across a page end, from the next page (R403): the bytes and
the pages that they come from. Unit 64 + k of `badUnits` is unit k of the next page. -/
def gather : Nat → Block → Nat → Nat → List Nat → List Byte × List Nat × Block
  | 0, b, _, _, _ => ([], [], b)
  | fuel + 1, b, c, n, badUnits =>
    let x := b.chan c
    match x.page, x.desc with
    | some p, some d =>
      let take := min n (4096 - x.pos)
      let bs := (swapBytes x.swap (b.pageBytes p (if p < landBase then badUnits else []))).drop x.pos |>.take take
      let ended := x.pos + take == 4096
      let d := { d with
        headCont := d.headCont || (d.used == 0 && x.pos != 0)
        firstSeq := if x.pos = 0 && d.firstSeq = 0xFFFFFFFF then
            (if p < landBase then (b.page p).pageSeq else leNat ((b.chanUnit p 0).drop 12 |>.take 4)) else d.firstSeq
        used := d.used + take, segUsed := d.segUsed + take, pages := d.pages + b2n ended }
      let b := b.modChan c (fun x => { x with
        desc := some d
        page := if ended then none else some p
        pos := if ended then 0 else x.pos + take
        lagging := if ended then x.lagging ++ [p] else x.lagging })
      if take < n && ended then
        match b.chanPages c with
        | q :: _ =>
          let r := gather fuel (b.chanTake c q) c (n - take) ((badUnits.filter (fun u => decide (64 ≤ u))).map (fun u => u - 64))
          (bs ++ r.1, p :: r.2.1, r.2.2)
        | [] => (bs, [p], b)
      else (bs, [p], b)
    | _, _ => ([], [], b)

/-- The channel finds no port for its sink (R432): no route, or a sink bound under another generation. -/
def Block.noPort (b : Block) (c : Nat) : Bool :=
  decide ((b.chan c).sinkGen ≠ b.hop.gen) || decide (32 < (b.route (b.chan c).sink).2)

/-- A request of the block's own channel joins the sink's queue of 256 requests, or is to be made again in 50 µs (R433). -/
def Block.askSelf (b : Block) (c n : Nat) : Block :=
  if b.hop.reqs.length ≥ 256 then b.modChan c (fun x => { x with retryGt := some (b.gt + us 50) })
  else b.modHop (fun h => { h with reqs := h.reqs ++ [(7, h.nodeId, c, n)] })

/-- CHANNEL_TAKE_PAGE (R399, R400, R411, R412, R432): the channel takes the oldest page that it has to take: for memory,
while it holds a descriptor with room; for the export port and a hop sink, against the whole page's cost. -/
def execChannelTakePage (ch : Fin 16) (s : State) : Host.Outcome State Fault Refusal :=
  s.run (fun b =>
    if !b.running then b
    else
      let b := b.pump ch
      let x := b.chan ch
      match b.chanPages ch with
      | [] => b
      | p :: _ =>
        if !b.mayTake ch || x.page.isSome || x.st != .running then b
        else if x.target = 0 then
          match x.desc with
          | some d => if d.room && decide (0 < b.allowLeft x.owner) then (b.chanTake ch p).pump ch else b
          | none => b
        else if x.target = 2 && b.noPort ch then
          (b.haltChan ch 7 0 1 false p).pump ch
        else if x.target = 2 && b.hop.disc ≠ 6 then b
        else if !b.canTakeWhole x.owner then b
        else
          let b := (b.spendWhole x.owner).chanTake ch p
          if x.target ≠ 2 then b
          else
            let n := b.sparge.reqNext
            let b := (b.modSparge (fun s => { s with reqNext := (n + 1) % 2 ^ 16 })).modChan ch (fun x => { x with
              reqNo := some n, retryGt := none })
            let f := b.newFrame 5 x.sink (leBytes 1 ch ++ leBytes 2 n) []
            if x.sink = b.hop.nodeId then b.askSelf ch n else b.sendRouted f 7)

/-- The running scrub has a zero write to issue, and a tag for it. -/
def Block.scrubBeats (b : Block) : Bool :=
  match b.sparge.scrubs with
  | h :: _ => h.ending.isNone && (match h.wins with
    | w :: _ => decide ((b.tagsHeld w.1).length < 64)
    | [] => false)
  | [] => false

/-- Bytes of the data beat that channel `c` has to issue (R403): one line, one segment that lies in the window, the page in
use and, unless the descriptor ends with it, the next ones; one turn of the operator's drains is 64 bytes while a scrub has
work (R385). -/
def Block.beatSize (b : Block) (c : Nat) : Option Nat :=
  let x := b.chan c
  match x.page, x.desc with
  | some _, some d =>
    if x.stop != .none || x.st != .running || d.closing || x.target ≠ 0 then none
    else
      match d.segs[d.segIdx]? with
      | none => none
      | some (a, len, ok) =>
        if !ok || (d.segUsed = 0 && !x.inWindow a len) then none
        else
          let more := if d.perPage || !b.mayTake c then 0 else 4096 * (b.chanPages c).length
          let n := min (min (128 - (a + d.segUsed) % 128) (len - d.segUsed)) (4096 - x.pos + more)
          some (if x.owner = 64 && b.scrubBeats then min n 64 else n)
  | _, _ => none

/-- Channel `c` has a data beat that its allowance and its tags let it issue. -/
def Block.beatCould (b : Block) (c : Nat) : Bool :=
  match b.beatSize c with
  | some n => b.canSpend (b.chan c).owner (64 * cdiv n 64) && decide ((b.tagsHeld c).length < 64)
  | none => false

/-- The operator's own drains have a data beat to issue. -/
def Block.operatorBeats (b : Block) : Bool := (upto 16).any (fun c => (b.chan c).owner == 64 && b.beatCould c)

/-- The channel whose turn it is on the cask read path (R394): round robin, after the channel whose page was read last for
whatever target, over those that may issue a beat, where an operator's channel waits for a scrub's turn (R385).
DEDUCED, log entry 42. -/
def Block.readTurn (b : Block) : Option Nat :=
  ((upto 16).map (fun i => (b.sparge.lastRead + 1 + i) % 16)).find? (fun c =>
    b.beatCould c && !((b.chan c).owner == 64 && b.scrubBeats && b.sparge.scrubTurn))

/-- An error in unit `i` of a page that was read (R176): a corrected one counts in its macro's `CASK_CE`, an uncorrectable
one fences the macro. -/
def Block.readError (b : Block) (p i : Nat) (fixed : Bool) : Block :=
  if landBase ≤ p then b else if fixed then b.countFixed (p / 16) else (b.noteBad p i).fenceMacro (p / 16)

/-- Which units of a beat of `n` bytes from position `pos` have an error: units of the page in use, and 64 + k for unit k of
the next page; in `us` they stand from `from` on. -/
def beatUnits (pos n start : Nat) (us : List (Fin 256)) : List Nat :=
  ((us.filter (fun u => decide (start ≤ u.val) && decide (u.val < start + 128))).map (fun u => u.val - start)).filter
    (fun u => decide (pos / 64 ≤ u) && decide (64 * u < pos + n))

/-- After a beat of the segment of `len` bytes: the next segment, and the end of the descriptor (R400). -/
def Block.beatEnd (b : Block) (c len : Nat) : Block :=
  let y := b.chan c
  match y.desc with
  | some d =>
    let d := if d.segUsed = len then { d with segIdx := d.segIdx + 1, segUsed := 0 } else d
    let b := b.modChan c (fun x => { x with desc := some d })
    if !d.room || (d.perPage && y.page.isNone) || (y.page.isNone && (b.chanPages c).isEmpty) then b.complete c else b
  | none => b

/-- CHANNEL_ISSUE_BEAT (R176, R394, R397, R400 to R405, R411): one data beat of at most 128 bytes within one line, one
segment, the window and the allowance, in the channel's turn; `badUnits` says in which of its units an error could not, or (from
128 on) could, be corrected. DESIGN CHOICE, log entry 71. -/
def execChannelIssueBeat (ch : Fin 16) (badUnits : List (Fin 256)) (s : State) : Host.Outcome State Fault Refusal :=
  s.run (fun b =>
    if !b.running then b
    else
      let b := b.pump ch
      let x := b.chan ch
      match x.page, x.desc with
      | some p, some d =>
        if x.stop != .none || x.st != .running || d.closing || x.target ≠ 0 then b
        else
          match d.segs[d.segIdx]? with
          | none => b
          | some (a, len, ok) =>
            if !ok then (b.haltChan ch 5 (d.addr + 16 * d.segIdx) 4 false p).pump ch
            else if d.segUsed = 0 && !x.inWindow a len then (b.haltChan ch 6 a 5 false p).pump ch
            else if b.readTurn ≠ some ch.val then b
            else
              let n := (b.beatSize ch).getD 0
              let bad := beatUnits x.pos n 0 badUnits
              let fixed := beatUnits x.pos n 128 badUnits
              let r := gather 3 b ch n bad
              let b := (r.2.2.spend x.owner (64 * cdiv n 64)).modSparge (fun s => { s with
                lastRead := ch, scrubTurn := s.scrubTurn || x.owner == 64 })
              let b := b.chanWrite ch 0 (a + d.segUsed) r.1 r.2.1
              let b := b.each fixed (fun b u => b.readError (r.2.1.getD (u / 64) landBase) (u % 64) true)
              let b := b.each bad (fun b u => b.readError (r.2.1.getD (u / 64) landBase) (u % 64) false)
              (b.beatEnd ch len).pump ch
      | _, _ => b)

/-! ### Write responses (R405, R407, R409) -/

/-- Pages passed whole whose responses are all in leave the channel (R405); one that met an error goes back. -/
def Block.finishLagging (b : Block) (c : Nat) : Block :=
  b.each (b.chan c).lagging (fun b p =>
    let x := b.chan c
    if x.flight.any (fun f => f.pages.contains p) then b
    else if x.bad.contains p then b
    else (b.modChan c (fun x => { x with lagging := x.lagging.erase p })).pageMoved c p)

/-- A response to a write of channel `c`. DEDUCED, log entry 42. -/
def Block.chanResponse (b : Block) (c tag : Nat) (err : Bool) : Block :=
  let x := b.chan c
  match x.flight.find? (fun f => f.tag == tag) with
  | none => b
  | some f =>
    let b := b.modChan c (fun x => { x with flight := x.flight.filter (fun g => g.tag != tag) })
    let b :=
      if f.kind = 0 then
        if err then
          let b := b.modChan c (fun x => { x with bad := x.bad ++ f.pages })
          if x.stop == .none || b.endsNow x then
            b.haltChan c 1 f.addr 1 false (f.pages.headD 0) else b
        else
          (b.modChan c (fun x => { x with desc := x.desc.map (fun d => { d with doneLen := d.doneLen + f.bytes }) })
            ).finishLagging c
      else if err then
        if (x.stop == .disable && !b.endsNow x) || x.stop == .abandon then b.modChan c (fun x => { x with desc := none })
        else
          let i := match x.desc with | some d => d.index | none => x.head
          (if x.stop == .halt then b.modChan c (fun x => { x with desc := none }) else b.haltChan c 4 f.addr 1 true 0).modChan c
            (fun x => { x with head := i })
      else if f.kind = 1 then b.modChan c (fun x => { x with desc := x.desc.map (fun d => { d with wbStage := 2 }) })
      else b.modChan c (fun x => { x with desc := none })
    b.pump c

/-! ### Scrub (R384 to R389) -/

/-- The TRACE unit of a marker beat on the export port (R388): owner 64, the packet, and the present `USEQ` of station 0,
which the beat does not advance. DEDUCED, log entry 43. -/
def Block.markerBeat (b : Block) (packet : List Byte) : List Byte :=
  ({ kind := 2, interest := 3, owner := 64, tagEpoch := b.epochOf 64, source := 0
     seqNo := tget 0 (b.station 0).useq 64, marker := true, body := packet } : WUnit).bytes

/-- SCRUB_BEGIN or SCRUB_END in the streams of format 3.0 (R150), at the export port and on the native links (R388).
DEDUCED, log entry 43. -/
def Block.scrubMark (b : Block) (h : Scrub) (ended : Bool) (status : Nat) : Block :=
  let pk := scrubPacket ended h.tenant h.oldEpoch h.newEpoch status b.gt h.written
  let put (b : Block) (o : Nat) : Block := if b.fmt2Of o then b else b.markerTo 0 o pk
  let b := put (put b 64) h.tenant
  let b := b.modSparge (fun s => { s with exMarkers := s.exMarkers ++ [b.markerBeat pk] })
  b.sendAll b.up3 (b.newFrame 4 0xFFF
    (leBytes 2 b.hop.nodeId ++ leBytes 1 h.tenant ++ leBytes 1 (b2n ended) ++ leBytes 1 status) [])

/-- The running scrub `h` ends with a status (R387, R389); writes of it without a response stay noted, and the channels that
it covered are released (R386). -/
def Block.endScrub (b : Block) (h : Scrub) (status : Nat) : Block :=
  let b := b.modSparge (fun s => { s with scrubs := s.scrubs.drop 1, orphans := s.orphans ++ h.flight })
  let b := b.scrubMark h true status
  let b := b.modTenant h.tenant (fun t => { t with
    scrubQ := b.sparge.scrubs.any (fun g => g.tenant == h.tenant), scrubResult := status })
  let b := b.each h.chans (fun b c => b.modChan c (fun x => { x with heldBy := x.heldBy.erase h.tenant }))
  (b.raise 64 15).pumpAll

/-- Ends the running scrub when its responses are in and it has nothing more to write, or is aborted (R387). -/
def Block.scrubCheck (b : Block) : Block :=
  match b.sparge.scrubs with
  | h :: _ =>
    if h.flight.isEmpty && (h.ending.isSome || (h.begun && h.wins.isEmpty)) then
      b.endScrub h (if h.wins.isEmpty then 0 else 2)
    else b
  | [] => b

/-- SCRUB_WRITE (R384, R385): the next 64 zero bytes of the running scrub, within the operator's allowance and in turn
with the operator's own drains. DEDUCED, log entry 43. -/
def execScrubWrite (s : State) : Host.Outcome State Fault Refusal :=
  s.run (fun b =>
    match b.sparge.scrubs with
    | h :: rest =>
      match h.wins with
      | (c, base, size) :: more =>
        if !b.running || h.ending.isSome || !b.canSpend 64 64 || !b.scrubBeats ||
            (b.operatorBeats && !b.sparge.scrubTurn) then b
        else
          let n := min 64 (size - h.pos)
          let a := base + h.pos
          let t := 64 * c + b.freeTag c
          let h := { h with
            begun := true, written := h.written + n, flight := h.flight ++ [t]
            wins := if h.pos + n ≥ size then more else h.wins
            pos := if h.pos + n ≥ size then 0 else h.pos + n }
          let first := !(match b.sparge.scrubs with | g :: _ => g.begun | [] => true)
          let b := (b.spend 64 64).modSparge (fun s => { s with scrubs := h :: rest, scrubTurn := false })
          let b := b.emit (.memWrite (memPort c) t a (List.replicate n 0))
          if first then b.scrubMark { h with written := 0 } false 0 else b
      | [] => b
    | [] => b)

/-- MEM_WRITE_RESPONSE (R405, R387, R492): a write response returns to a channel or to the running scrub, which an error
ends; one of a scrub that has ended has no effect. -/
def execMemWriteResponse (id : BitVec 11) (err : Bool) (s : State) : Host.Outcome State Fault Refusal :=
  s.run (fun b =>
    if bit id 10 then b
    else
      if b.sparge.orphans.contains id.toNat then
        b.modSparge (fun s => { s with orphans := s.orphans.erase id.toNat })
      else
        match b.sparge.scrubs with
        | h :: rest =>
          if h.flight.contains id.toNat then
            let h := { h with flight := h.flight.erase id.toNat }
            let b := b.modSparge (fun s => { s with scrubs := h :: rest })
            if err then b.endScrub h 1 else b.scrubCheck
          else b.chanResponse (fld id 6 4) (fld id 0 6) err
        | [] => b.chanResponse (fld id 6 4) (fld id 0 6) err)

/-! ### Windows and the export port (R411, R412, R496) -/

/-- DRAIN_WINDOW_START (R411): a window of 1 µs starts at a multiple of 1,000 ns; P and the allowances are fixed, and
debts are repaid first. -/
def execDrainWindowStart (s : State) : Host.Outcome State Fault Refusal :=
  s.run (fun b =>
    if !b.running || b.inWindowNow then b
    else
      let p := b.pendingOwners
      let owed := (upto 65).foldl (fun (t : Tbl Nat) o => tset 0 t o (b.owedAfter o)) []
      (b.modSparge (fun s => { s with
        winOn := true, winStart := b.gt / 256000 * 256000, inP := p, spent := [], debt := [], owed := owed })).reallow.pumpAll)

/-- The underback's next page for the export port: the oldest ready one that no channel holds (R434). -/
def Block.exSlot (b : Block) : Option Nat :=
  (b.hop.ready.map (fun s => landBase + s)).find? (fun p =>
    !b.sparge.chans.any (fun e => e.2.page == some p || e.2.lagging.contains p))

/-- The source of the next page at the export port: round robin over the 16 channels and the underback (R412, R434). -/
def Block.exNext (b : Block) : Option Nat :=
  ((upto 17).map (fun i => (b.sparge.exLast + 1 + i) % 17)).find? (fun s =>
    if s < 16 then (b.chan s).target == 1 && (b.chan s).page.isSome && (b.chan s).stop == .none
    else b.hop.sinkDest == 1 && b.exSlot.isSome)

/-- Page of an export source: the one in progress, or the next. -/
def Block.exPage (b : Block) (src : Nat) : Option Nat :=
  if src < 16 then (b.chan src).page else if b.sparge.exSrc = some src then b.sparge.exHold else b.exSlot

/-- The next unit of page `p` of source `src` stands at the export port; a read of the cask takes a turn (R394). -/
def Block.exPresent (b : Block) (src p : Nat) : Block :=
  let i := if b.sparge.exSrc.isSome then b.sparge.exBeat else 0
  b.modSparge (fun s => { s with
    exSrc := some src, exBeat := i, exHold := if src < 16 then none else some p
    lastRead := if src < 16 then src else s.lastRead
    exUp := some { data := padTo 64 (b.chanUnit p i), src := src, unit := i } })

/-- The export port raises its valid with the next beat, which then stands until it is accepted (R486): a marker between
two pages, or the next unit of the page in progress. DESIGN CHOICE, log entry 69. -/
def Block.exRaise (b : Block) : Block :=
  if b.sparge.exUp.isSome then b
  else
    match b.sparge.exSrc, b.sparge.exMarkers with
    | none, m :: _ => b.modSparge (fun s => { s with exUp := some { data := m, marker := true } })
    | cur, _ =>
      match (match cur with | some x => some x | none => b.exNext) with
      | none => b
      | some src =>
        match b.exPage src with
        | none => b.modSparge (fun s => { s with exSrc := none, exBeat := 0 })
        | some p => b.exPresent src p

/-- The export port has accepted unit `i` of the page of source `src` that is in progress: a page is drained with its last
unit (R412, R434). -/
def Block.exAccepted (b : Block) (src i : Nat) : Block :=
  if i < 63 then b.modSparge (fun s => { s with exBeat := i + 1, exLast := src })
  else
    let page := b.exPage src
    let b := b.modSparge (fun s => { s with exSrc := none, exBeat := 0, exLast := src, exHold := none })
    match page with
    | none => b
    | some p =>
      if src < 16 then ((b.modChan src (fun x => { x with page := none, pos := 0 })).pageMoved src p).pump src
      else b.modHop (fun h => { h with ready := h.ready.erase (p - landBase), slots := tdel h.slots (p - landBase) })

/-- EXPORT_BEAT_ACCEPT (R412, R486, R496, R388): the trace PHY accepts the beat that stands at the port. A page that was cut
off meanwhile goes no further. DESIGN CHOICE, log entry 71. -/
def execExportBeatAccept (s : State) : Host.Outcome State Fault Refusal :=
  s.run (fun b =>
    if !b.running then b
    else
      let b := b.exRaise
      match b.sparge.exUp with
      | none => b
      | some u =>
        let b := (b.modSparge (fun s => { s with exUp := none })).emit
          (.exportBeat u.data (u.marker || u.unit == 0) (u.marker || u.unit == 63) u.marker)
        if u.marker then b.modSparge (fun s => { s with exMarkers := s.exMarkers.drop 1 })
        else if b.sparge.exSrc == some u.src && b.sparge.exBeat == u.unit then b.exAccepted u.src u.unit
        else b)

/-- PAGE_REQ_RETRY (R433, R432): 50 µs after `WAIT` the channel sends its PAGE_REQ again. -/
def execPageReqRetry (ch : Fin 16) (s : State) : Host.Outcome State Fault Refusal :=
  s.run (fun b =>
    let x := b.chan ch
    match x.retryGt, x.reqNo with
    | some g, some n =>
      if !b.running || b.gt < g || x.stop != .none then b
      else if b.noPort ch then (b.haltChan ch 7 0 1 false 0).pump ch
      else if b.hop.disc ≠ 6 then b
      else
        let b := b.modChan ch (fun x => { x with retryGt := none })
        if x.sink = b.hop.nodeId then b.askSelf ch n
        else b.sendRouted (b.newFrame 5 x.sink (leBytes 1 ch ++ leBytes 2 n) []) 7
    | _, _ => b)

/-! ### Pages to a hop sink (R412, R433) -/

/-- The page of channel `c` leaves the cask (R433): drained when its port has accepted the last frame. -/
def Block.hopDone (b : Block) (c p : Nat) : Block :=
  ((b.modChan c (fun x => { x with
    page := none, pos := 0, reqNo := none, retryGt := none, grant := none, frameOut := false })).pageMoved c p).pumpStep c

/-- The next `PAGE_DATA` frame of a granted page joins the queue of the port that the routing table names (R412, R433),
in Ready only (R432). DEDUCED, log entry 42; DESIGN CHOICE, log entry 71. -/
def Block.hopPush (b : Block) (c : Nat) : Block :=
  let x := b.chan c
  match x.page, x.grant with
  | some p, some (slot, i) =>
    let r := b.route x.sink
    if x.frameOut || 16 ≤ i || x.stop != .none || b.hop.disc ≠ 6 || 6 ≤ r.1 then b
    else
      let us := (upto 4).map (fun j => 4 * i + j)
      let f := b.newFrame 7 x.sink (leBytes 1 slot ++ leBytes 1 i)
        (us.map (fun u => padTo 64 (b.chanUnit p u))).flatten
      ((b.modChan c (fun x => { x with frameOut := true })).modSparge (fun s => { s with lastRead := c })).sendOn r.1 f (8 + c)
  | _, _ => b

/-- A port accepted the frame that stood in its queue for channel `c`: the next one follows, or the page is drained. -/
def Block.hopAccepted (b : Block) (c : Nat) : Block :=
  match (b.chan c).page, (b.chan c).grant with
  | some p, some (slot, i) =>
    if 15 ≤ i then b.hopDone c p
    else (b.modChan c (fun x => { x with grant := some (slot, i + 1), frameOut := false })).hopPush c
  | _, _ => b

/-- HOP_FRAME_SEND (R420, R422): a port sends its next frame; a Closing link its `BYE`, after which it is Down. -/
def execHopFrameSend (port : Fin 6) (s : State) : Host.Outcome State Fault Refusal :=
  s.run (fun b =>
    let x := b.hopPort port
    if !b.hopRuns then b
    else if x.st == .closing then b.closeEnd port
    else if x.st != .up || !x.maySend (b.hop.disc == 6) then b
    else
      let via := if x.resend.isEmpty then ((x.nextTx (b.hop.disc == 6)).map Prod.snd).getD 7 else 7
      let b := b.sendFrame port
      if 8 ≤ via then (b.hopAccepted (via - 8)).settleDrains else b)

/-- Channels whose page is under way to a sink (R433, R443): without a port they halt, a page whose link fell in the middle
of its frames is done, and a frame that no port holds is queued. DEDUCED, log entry 39. -/
def Block.routeLoss (b : Block) : Block :=
  (b.each (upto 16) (fun b c =>
    let x := b.chan c
    if x.target ≠ 2 || x.reqNo.isNone || x.stop != .none then b
    else if x.grant.any (fun g => decide (16 ≤ g.2)) then
      match x.page with
      | some p => b.hopDone c p
      | none => b
    else if b.noPort c then (b.haltChan c 7 0 1 false 0).pumpStep c
    else b.hopPush c)).settleDrains

end Sys2Proof.Machine
end

