-- ==== Sys2Proof/Machine/HopRx.lean ====
section
/-! DEFINITION. The hop fabric, receiving side (15_hop_fabric): the checks that an arriving frame passes, what each frame
type does, the underback of a sink, and fabric freezes. -/

namespace Sys2Proof.Machine

/-! ### Acceptance (R418 to R420, R439) -/

/-- The receive key that a frame's key phase names. -/
def HopPort.rxKeyOf (x : HopPort) (kph : Bool) : Option Key := if kph == x.rxPhase then x.rxKey else x.rxOther

/-- Frames of the replay buffer that a `LACK` acknowledges: the sequence window is modulo 2¹⁶. -/
def HopPort.acked (x : HopPort) (lack : Nat) : Nat :=
  match x.replay with
  | [] => 0
  | g :: _ =>
    let n := (lack + 2 ^ 16 - g.lseq.toNat) % 2 ^ 16
    if n ≤ x.replay.length then n else 0

/-- An accepted frame's `CRED`, `LACK` and `NAK` act on the transmit side (R418, R420). DEDUCED, log entry 35. -/
def Block.linkAct (b : Block) (p : Nat) (f : Frame) : Block :=
  let x := b.hopPort p
  let n := x.acked f.lack.toNat
  let left := x.replay.drop n
  let b := b.modHopPort p (fun x => { x with
    credits := min 1024 (x.credits + f.cred.toNat)
    replay := left
    resend := x.resend.filter (fun g => left.any (fun h => h.lseq == g.lseq))
    resends := if n = 0 then x.resends else 0
    sentGt := x.sentGt.drop n }.stampAck)
  let b := if n = 0 then b else b.rotateCheck p
  if f.nak then b.resendAll p else b

/-- An accepted frame leaves the receive buffer: its flits are returned (R420). DEDUCED, log entry 35. -/
def Block.consume (b : Block) (p : Nat) (f : Frame) : Block :=
  b.modHopPort p (fun x => { x with credRet := x.credRet + flitsOf x.compat f })

/-- A discarded sequenced frame: `NAK` in the next frame (R418). -/
def Block.nakNext (b : Block) (p : Nat) : Block := b.modHopPort p (fun x => { x with nakDue := true })

/-- A frame of compatibility mode is opened (R439, R440): the plain frame, or what its failure does to the port. -/
def Block.unseal (b : Block) (p : Nat) (f : Frame) : Option Frame × Block :=
  let x := b.hopPort p
  if !x.compat then (some f, b)
  else
    match x.rxKeyOf f.kph with
    | none =>
      let b := (b.modHopPort p (fun x => { x with phaseDrop := satAdd 32 x.phaseDrop 1 })).loss 10
      (none, if unsequenced f.ftype.toNat then b else b.consume p f)
    | some k =>
      match openFrame k f with
      | none => (none, (b.modHopPort p (fun x => { x with authFail := satAdd 32 x.authFail 1 })).linkDown p 6)
      | some g => (some g, b)

/-- The frame's key phase is one whose receive key has been asked for and has not arrived: the frame stays unaccepted, and the
sender keeps it (R440). DEDUCED, log entry 39. -/
def HopPort.awaitsKey (x : HopPort) (f : Frame) : Bool :=
  x.compat && (x.rxKeyOf f.kph).isNone && x.asks true f.kph

/-- The checks on a frame of a link that is Up: CRC and sequence, then the seal; what passes acts on the transmit side
and names the neighbour. The frame comes back when it is accepted. DEDUCED, log entries 35 and 40. -/
def Block.accept (b : Block) (p : Nat) (f : Frame) : Option Frame × Block :=
  let x := b.hopPort p
  let good := f.crc.toNat == frameCrc f
  if unsequenced f.ftype.toNat then
    if !good || x.awaitsKey f then (none, b)
    else
      match b.unseal p f with
      | (none, b) => (none, b)
      | (some g, b) =>
        let cur := f.kph == x.rxPhase
        if x.compat && tagCtr f < (if cur then x.rxIdle else x.rxIdleO) then (none, b)
        else
          let b := b.modHopPort p (fun x => { x with
            rxIdle := if x.compat && cur then tagCtr f + 1 else x.rxIdle
            rxIdleO := if x.compat && !cur then tagCtr f + 1 else x.rxIdleO
            node := f.src.toNat })
          (some g, b.linkAct p g)
  else if !good then
    (none, (b.modHopPort p (fun x => { x with crcErr := satAdd 32 x.crcErr 1 })).nakNext p)
  else if f.lseq.toNat ≠ x.rxNext then (none, b.nakNext p)
  else if x.awaitsKey f then (none, b)
  else
    let b := b.modHopPort p (fun x => { x with rxNext := (x.rxNext + 1) % 2 ^ 16 })
    match b.unseal p f with
    | (none, b) => (none, b)
    | (some g, b) =>
      let t := f.ftype.toNat
      let b := if definedType x.version t && (t ≤ 4 || t = 0xA) then b.modHopPort p (fun x => { x with node := f.src.toNat }) else b
      (some g, b.linkAct p g)

/-- A frame of an undefined type is counted and has no other effect (R419). -/
def Block.badType (b : Block) (p : Nat) : Block :=
  b.modHopPort p (fun x => { x with badType := satAdd 32 x.badType 1 })

/-- A frame that the row is about arrives on port `p`: on a link that is Up it is accepted, its buffer space is returned
unless the frame is to be forwarded, and `act` takes place; a type that the link's version does not define is counted. -/
def Block.receive (b : Block) (p : Nat) (f : Frame) (row : Bool) (keep : Block → Frame → Bool)
    (act : Block → Frame → Block) : Block :=
  if !row || !b.hopRuns || (b.hopPort p).st != .up then b
  else
    match b.accept p f with
    | (none, b) => b
    | (some g, b) =>
      if (b.hopPort p).st != .up then b
      else if !definedType (b.hopPort p).version g.ftype.toNat then (b.consume p g).badType p
      else if keep b g then act b g
      else act (b.consume p g) g

/-- Frames of link scope never wait for another port. -/
def keepNone : Block → Frame → Bool := fun _ _ => false

/-- A `DISC` frame of a sub-type. -/
def isDisc (f : Frame) (sub : Nat) : Bool := f.ftype == 2 && fbody f 0 == sub

/-- A `TSYNC` frame of a sub-type. -/
def isTsync (f : Frame) (sub : Nat) : Bool := f.ftype == 3 && fbody f 0 == sub

/-- IDLE_RECEIVE (R418, R420). -/
def execIdleReceive (port : Fin 6) (fr : Frame) (s : State) : Host.Outcome State Fault Refusal :=
  s.run (fun b =>
    if fr.ftype = 0 && b.hopRuns && (b.hopPort port).st == .up then (b.accept port fr).2 else b)

/-- BAD_TYPE_FRAME (R419): also a `DISC`, `TSYNC` or `ROTATE` frame of a sub-type that no rule gives an effect. -/
def execBadTypeFrame (port : Fin 6) (fr : Frame) (s : State) : Host.Outcome State Fault Refusal :=
  s.run (fun b =>
    let odd := !definedType (b.hopPort port).version fr.ftype.toNat || (fr.ftype == 2 && decide (fbody fr 0 > 5)) ||
      (fr.ftype == 3 && decide (fbody fr 0 > 3)) || (fr.ftype == 0xA && decide (fbody fr 0 > 2))
    b.receive port fr odd keepNone (fun b _ => b))

/-! ### HELLO and BYE (R422 to R425) -/

/-- The link version of two ends: none in common, native, or compatibility mode (R425). -/
def HopPort.negotiated (x : HopPort) : Option Nat :=
  let v := min 3 x.peerMax
  if v < max (if x.v2Allow then 2 else 3) x.peerMin then none else some v

/-- HELLO_RECEIVE (R423 to R425). DEDUCED, log entry 36. -/
def execHelloReceive (port : Fin 6) (fr : Frame) (s : State) : Host.Outcome State Fault Refusal :=
  s.run (fun b =>
    if fr.ftype ≠ 1 || !b.hopRuns || (b.hopPort port).st != .hello || fr.crc.toNat ≠ frameCrc fr then b
    else if fbodyN fr 2 6 = b.hop.uid then b.linkDown port 9
    else
      let b := b.modHopPort port (fun x => { x with
        helloRx := true, seenRx := x.seenRx || (fbody fr 9).testBit 3, peerMin := fbody fr 0, peerMax := fbody fr 1
        nuid := fbodyN fr 2 6, nport := fbody fr 9 % 8, node := fr.src.toNat })
      let x := b.hopPort port
      match x.negotiated with
      | none => b.linkDown port 3
      | some v =>
        if !x.seenRx then b
        else if v = 3 then b.linkUp port 3
        else b.startKeying port)

/-- BYE_RECEIVE (R422): the neighbour takes the link down. -/
def execByeReceive (port : Fin 6) (fr : Frame) (s : State) : Host.Outcome State Fault Refusal :=
  s.run (fun b =>
    let st := (b.hopPort port).st
    if fr.ftype ≠ 0xB || !b.hopRuns || st == .down || st == .training || fr.crc.toNat ≠ frameCrc fr then b
    else b.linkDown port 8)

/-! ### Discovery (R427 to R430) -/

/-- ELECT_RECEIVE (R427). DEDUCED, log entry 36. -/
def execElectReceive (port : Fin 6) (fr : Frame) (s : State) : Host.Outcome State Fault Refusal :=
  s.run (fun b => b.receive port fr (isDisc fr 0) keepNone (fun b f => b.elect port (fbodyN f 1 7) (fbody f 8)))

/-- CLAIM_RECEIVE (R428): a claim that comes after `COUNT_REQ` was passed on is sent one. DEDUCED, log entry 36. -/
def execClaimReceive (port : Fin 6) (fr : Frame) (s : State) : Host.Outcome State Fault Refusal :=
  s.run (fun b => b.receive port fr (isDisc fr 1) keepNone (fun b _ =>
    let b := b.modHopPort port (fun x => { x with claimed := true, count := none })
    if b.hop.disc = 2 && b.hop.countPassed then b.sendOn port (b.newFrame 2 0xFFF (leBytes 1 2) []) 7 else b))

/-- COUNT_REQ_RECEIVE (R428): from the parent. DEDUCED, log entry 36. -/
def execCountReqReceive (port : Fin 6) (fr : Frame) (s : State) : Host.Outcome State Fault Refusal :=
  s.run (fun b => b.receive port fr (isDisc fr 2) keepNone (fun b _ =>
    if b.hop.parent = port && (b.hop.disc = 1 || b.hop.disc = 2) then b.countReqOn else b))

/-- COUNT_RECEIVE (R428). -/
def execCountReceive (port : Fin 6) (fr : Frame) (s : State) : Host.Outcome State Fault Refusal :=
  s.run (fun b => b.receive port fr (isDisc fr 3) keepNone (fun b f =>
    if b.hop.disc = 2 && b.hop.countPassed && (b.hopPort port).claimed then
      (b.modHopPort port (fun x => { x with count := some (fbodyN f 1 2) })).countsDone
    else b))

/-- ASSIGN_RECEIVE (R429): from the parent, while waiting for the base. DEDUCED, log entry 36. -/
def execAssignReceive (port : Fin 6) (fr : Frame) (s : State) : Host.Outcome State Fault Refusal :=
  s.run (fun b => b.receive port fr (isDisc fr 4) keepNone (fun b f =>
    if b.hop.parent = port && b.hop.disc = 3 then b.takeId (fbodyN f 1 2) (fbody f 3) (fbody f 4 + 1) else b))

/-- VECTOR_RECEIVE (R430, R431, R441): an instance that no longer has a route to its root elects again.
DEDUCED, log entry 36. -/
def execVectorReceive (port : Fin 6) (fr : Frame) (s : State) : Host.Outcome State Fault Refusal :=
  s.run (fun b => b.receive port fr (isDisc fr 5) keepNone (fun b f =>
    let first := fbodyN f 1 2
    let routing := decide (4 ≤ b.hop.disc) && b.hop.disc != 7
    if routing && fbody f 3 ≠ b.hop.gen then b
    else
      let b := b.modHopPort port (fun x => { x with
        vec := (upto 256).foldl (fun v i =>
          let h := (f.payload.getD i 0).toNat
          if first + i < 4096 then tset 0x3F v (first + i) (if h > 32 then 0x3F else h) else v) x.vec })
      if !routing then b
      else
        let had := (b.route 0).1 != 7
        let b := b.recompute ([first / 256, (first + 255) / 256].eraseDups.filter (· < 16))
        if had && b.hop.nodeId ≠ 0 && (b.route 0).1 = 7 then b.startDiscovery b.hop.gen else b))

/-! ### Offset measurements (R54 to R56, R435) -/

/-- TSYNC_CALL_RECEIVE (R435): the parent starts a measurement of 8 exchanges. -/
def execTsyncCallReceive (port : Fin 6) (fr : Frame) (s : State) : Host.Outcome State Fault Refusal :=
  s.run (fun b => b.receive port fr (isTsync fr 0) keepNone (fun b f =>
    b.modHopPort port (fun x => { x with
      tsMeas := some (fbody f 1, 0), tsStamps := [], tsRsp := 0, tsGt := b.gt - us 1 })))

/-- The stamp of a flit whose mark is missing (R503), beyond the 72 bits of a `gt`. DESIGN CHOICE, log entry 93. -/
def missing : Nat := 2 ^ 72

/-- TSYNC_REQ_RECEIVE (R54, R435): the child stamps the arrival (t2) and the departure of its answer (t3).
DESIGN CHOICE, log entry 72. -/
def execTsyncReqReceive (port : Fin 6) (fr : Frame) (t2 t3 : Nat) (s : State) : Host.Outcome State Fault Refusal :=
  s.run (fun b => b.receive port fr (isTsync fr 1) keepNone (fun b f =>
    if b.hop.tsMeas = some (fbody f 1) && b.hop.parent = port then
      (b.modHop (fun h => { h with tsStamps := tput h.tsStamps (fbody f 2) (t2, t3) })).sendOn port
        (b.newFrame 3 0xFFF (leBytes 1 2 ++ leBytes 1 (fbody f 1) ++ leBytes 1 (fbody f 2)) []) 7
    else b))

/-- The stamps of one exchange as FUP carries them: where a mark is missing (R503), stamps that lie so far apart that the
child rejects the exchange. DESIGN CHOICE, log entry 93. -/
def fupStamps (now : Gt) (x : Nat × Nat) : Nat × Nat :=
  if x.1 = missing && x.2 = missing then (now, now + 2 ^ 54)
  else if x.1 = missing then (x.2 + 2 ^ 56 - 2 ^ 54, x.2)
  else if x.2 = missing then (x.1, x.1 + 2 ^ 54)
  else x

/-- FUP: the parent's stamps and its offsets at t1, its chain bound and its aligned flag (R435). -/
def Block.fupFrame (b : Block) (meas : Nat) (st : Tbl (Nat × Nat)) : Frame :=
  b.newFrame 3 0xFFF (leBytes 1 3 ++ leBytes 1 meas ++ leBytes 1 (enc16 b.chainBound) ++ leBytes 1 (b2n b.time.aligned))
    ((upto 8).map (fun k =>
      let x := fupStamps b.gt (tget (0, 0) st k)
      leBytes 7 x.1 ++ leBytes 7 x.2 ++ leBytes 8 (twos 64 (b.fabOffAt x.1)) ++ leBytes 2 0)).flatten

/-- TSYNC_RSP_RECEIVE (R54, R435): the parent stamps the arrival (t4); after the eighth it sends FUP. -/
def execTsyncRspReceive (port : Fin 6) (fr : Frame) (t4 : Nat) (s : State) : Host.Outcome State Fault Refusal :=
  s.run (fun b => b.receive port fr (isTsync fr 2) keepNone (fun b f =>
    let x := b.hopPort port
    let k := fbody f 2
    match x.tsMeas with
    | some (n, sent) =>
      if n = fbody f 1 && decide (k < sent) then
        let b := b.modHopPort port (fun x => { x with
          tsStamps := tput x.tsStamps k ((tget (0, 0) x.tsStamps k).1, t4), tsRsp := x.tsRsp + 1 })
        let x := b.hopPort port
        if x.tsRsp < 8 then b
        else (b.modHopPort port (fun x => { x with tsMeas := none })).sendOn port (b.fupFrame n x.tsStamps) 7
      else b
    | none => b))

/-- The signed difference of two 56-bit stamps. -/
def diff56 (x y : Nat) : Int := sfld ((x + 2 ^ 56 - y % 2 ^ 56) % 2 ^ 56) 0 56

/-- One exchange as the child computes it (R54): `delta`, `theta` and the parent's offset at t1. -/
structure Exchange where
  delta : Int
  theta : Int
  off : Int
  deriving DecidableEq, Repr

/-- The exchanges of a measurement for which the child holds stamps (R54, R435); one that lacks a mark at either end is
rejected (R503). DESIGN CHOICE, log entry 93. -/
def exchanges (alpha : Int) (st : Tbl (Nat × Nat)) (payload : List Byte) : List Exchange :=
  (upto 8).filterMap (fun k =>
    match st.find? (fun e => e.1 == k && e.2.1 != missing && e.2.2 != missing) with
    | none => none
    | some e =>
      let bs := payload.drop (24 * k)
      let out := diff56 e.2.1 (leNat (bs.take 7))
      let back := diff56 (leNat (bs.drop 7 |>.take 7)) e.2.2
      if 2 ^ 53 ≤ out + back then none
      else some {
        delta := (out + back) / 2, theta := (out - back) / 2 - alpha / 2, off := sfld (leNat (bs.drop 14 |>.take 8)) 0 64 })

/-- The exchanges that R55 keeps, and the one with the smallest `delta` (the first on a tie). -/
def bestExchange (xs : List Exchange) : Option (Nat × Exchange) :=
  match xs with
  | [] => none
  | x :: t =>
    let m := t.foldl (fun a y => if y.delta < a.delta then y else a) x
    some ((xs.filter (fun y => decide (y.delta ≤ m.delta + 128))).length, m)

/-- An offset is applied (R56, R59): rate from the last two applied measurements, epoch advance, first alignment, and the
end of TSYNC_NOW. DEDUCED, log entry 41. -/
def Block.applyOffset (b : Block) (kept : Nat) (x : Exchange) (chain : Nat) : Block :=
  let off := x.off - x.theta
  let moved := (off - b.fabOffAt b.gt).natAbs > 32
  let rate : Int := match b.time.prevMeas with
    | some (o, g) => if g < b.gt then ((off - o) * 2 ^ 40) / ((b.gt - g : Nat) : Int) else 0
    | none => 0
  let b := b.modTime (fun t => { t with
    fabOff := off, fabRate := max (-2 ^ 31) (min (2 ^ 31 - 1) rate), t0 := b.gt, prevMeas := some (off, b.gt)
    chain := chain, chainKnown := true, chainPort := b.hop.parent, lastTsync := b.gt })
  let b := b.modHop (fun h => { h with tsMeas := none })
  let b := if moved then b.advanceEpoch 2 else b
  let b := b.realign
  let b := if b.hop.disc = 5 then (b.modHop (fun h => { h with disc := 6 })).finishRediscover else b
  b.finishLongs (fun _ k => match k with
    | .tsyncNow => some (stDone, [w32 (kept + 16), w32 (twos 32 (max (-2 ^ 31) (min (2 ^ 31 - 1) x.theta))), w32 (twos 32 x.delta)])
    | _ => none)

/-- TSYNC_FUP_RECEIVE (R54 to R56, R435). DEDUCED, log entry 41. -/
def execTsyncFupReceive (port : Fin 6) (fr : Frame) (s : State) : Host.Outcome State Fault Refusal :=
  s.run (fun b => b.receive port fr (isTsync fr 3) keepNone (fun b f =>
    if b.hop.tsMeas ≠ some (fbody f 1) || b.hop.parent ≠ port then b
    else
      match bestExchange (exchanges (b.hopPort port).alpha b.hop.tsStamps f.payload) with
      | none => b.tsyncReject 0 0 0
      | some (kept, x) =>
        if kept < 2 then b.tsyncReject kept x.theta (twos 32 x.delta) else b.applyOffset kept x (fbody f 2)))

/-- SCRUB_MARK_RECEIVE (R437). -/
def execScrubMarkReceive (port : Fin 6) (fr : Frame) (s : State) : Host.Outcome State Fault Refusal :=
  s.run (fun b => b.receive port fr (fr.ftype == 4) keepNone (fun b _ =>
    b.modHopPort port (fun x => { x with scrubRx := satAdd 32 x.scrubRx 1 })))

/-! ### Routed frames (R421, R432) -/

/-- A routed frame ends here: it is addressed to this instance, or came over a version-2 link, whose pages are all for
this instance. DEDUCED, log entry 40. -/
def Block.isMine (b : Block) (p : Nat) (f : Frame) : Bool :=
  (b.hopPort p).compat || f.dst.toNat == b.hop.nodeId

/-- A routed frame of a type arrives: it ends here or is forwarded with one hop less. DEDUCED, log entry 40. -/
def Block.routed (b : Block) (p : Nat) (f : Frame) (t : Nat) (mine : Block → Frame → Block) : Block :=
  b.receive p f (f.ftype.toNat == t) (fun b f => !b.isMine p f) (fun b f =>
    let b := if t = 7 then b.modHopPort p (fun x => { x with traceGt := b.gt }) else b
    if b.isMine p f then mine b f
    else if f.ttl.toNat ≤ 1 then
      ((b.consume p f).modHopPort p (fun x => { x with hopLost := satAdd 32 x.hopLost 1 })).loss 9
    else b.sendRouted { f with ttl := f.ttl - 1, tag := [] } p)

/-! ### The underback (R433, R434) -/

/-- An empty underback slot record. -/
def noSlot : SinkSlot := { port := 7, src := 0xFFF, ch := 0, reqNo := 0 }

/-- A slot whose page is complete waits for its destination. -/
def Block.slotReady (b : Block) (n : Nat) : Block := b.modHop (fun h => { h with ready := h.ready ++ [n] })

/-- `PAGE_GRANT` to an instance: over the version-2 link on which its request came, or over the routing table. -/
def Block.sendGrant (b : Block) (port src reqNo last : Nat) : Block :=
  let f := b.newFrame 6 src (leBytes 2 reqNo ++ leBytes 1 last) []
  if (b.hopPort port).compat then b.sendOn port f 7 else b.sendRouted f 7

/-- A grant answers a request: of the own channel by moving the page at once, of another instance by `PAGE_GRANT`. -/
def Block.grantTo (b : Block) (r : Nat × Nat × Nat × Nat) (slot : Nat) : Block :=
  let fresh : SinkSlot := { port := r.1, src := r.2.1, ch := r.2.2.1, reqNo := r.2.2.2, last := b.gt }
  if r.1 = 7 then
    match (b.chan r.2.2.1).page with
    | some p =>
      if (b.chan r.2.2.1).reqNo = some r.2.2.2 && (b.chan r.2.2.1).stop == .none then
        let us := (upto 64).foldl (fun t i => tput t i (padTo 64 (b.chanUnit p i))) []
        let b := b.modHop (fun h => { h with slots := tput h.slots slot { fresh with units := us, frames := upto 16 } })
        (b.slotReady slot).hopDone r.2.2.1 p
      else b
    | none => b
  else
    (b.modHop (fun h => { h with slots := tput h.slots slot fresh })).sendGrant r.1 r.2.1 r.2.2.2 slot

/-- Slots are granted in the order of the requests while one is free (R433); with `SINK_DEST` 0 or 3 none is, and a grant to
another instance is sent in Ready only (R432). -/
def grantSlots : Nat → Block → Block
  | 0, b => b
  | n + 1, b =>
    if b.hop.sinkDest ≠ 1 && b.hop.sinkDest ≠ 2 then b
    else
      match b.hop.reqs, (upto 32).find? (fun k => !b.hop.slots.any (fun e => e.1 == k)) with
      | r :: rest, some k =>
        if r.1 ≠ 7 && b.hop.disc ≠ 6 then b else grantSlots n ((b.modHop (fun h => { h with reqs := rest })).grantTo r k)
      | _, _ => b

/-- The sink answers what it can: `WAIT` answers that are due and grants, both to other instances in Ready only (R432,
R433). -/
def Block.grantAll (b : Block) : Block :=
  let b := if b.hop.disc = 6 then
      (b.each b.hop.waitDue (fun b w => b.sendGrant w.1 w.2.1 w.2.2 0x80)).modHop (fun h => { h with waitDue := [] })
    else b
  (grantSlots 32 b).settleDrains

/-- PAGE_REQ_RECEIVE (R433): the request joins the sink's queue of 256, or is told to wait. -/
def execPageReqReceive (port : Fin 6) (fr : Frame) (s : State) : Host.Outcome State Fault Refusal :=
  s.run (fun b => b.routed port fr 5 (fun b f =>
    let n := fbodyN f 1 2
    (b.modHop (fun h =>
      if h.reqs.length ≥ 256 then { h with waitDue := h.waitDue ++ [(port.val, f.src.toNat, n)] }
      else { h with reqs := h.reqs ++ [(port.val, f.src.toNat, fbody f 0 % 16, n)] })).grantAll))

/-- The channel whose request a grant answers. -/
def Block.grantChan (b : Block) (src reqNo : Nat) : Option Nat :=
  (upto 16).find? (fun c =>
    let x := b.chan c
    x.target == 2 && x.sink == src && x.reqNo == some reqNo && x.retryGt.isNone && x.grant.isNone && x.stop == .none && x.page.isSome)

/-- PAGE_GRANT_RECEIVE (R176, R433): the page goes to its port as 16 `PAGE_DATA` frames, one after another, or waits 50 µs.
DEDUCED, log entry 39. -/
def execPageGrantReceive (port : Fin 6) (fr : Frame) (s : State) : Host.Outcome State Fault Refusal :=
  s.run (fun b => b.routed port fr 6 (fun b f =>
    match b.grantChan f.src.toNat (fbodyN f 0 2) with
    | none => b
    | some c =>
      if (fbody f 2).testBit 7 then b.modChan c (fun x => { x with retryGt := some (b.gt + us 50) })
      else if b.noPort c then ((b.haltChan c 7 0 1 false 0).pump c)
      else
        (b.modChan c (fun x => { x with grant := some (fbody f 2 % 32, 0) })).hopPush c))

/-- A `PAGE_DATA` frame that finds no slot waiting for it is lost and counted at the port on which it arrived (R26).
DESIGN CHOICE, log entry 91. -/
def Block.lateData (b : Block) (p : Nat) : Block :=
  (b.modHopPort p (fun x => { x with hopLost := satAdd 32 x.hopLost 1 })).loss 9

/-- PAGE_DATA_RECEIVE (R433, R434): four units of a page; the slot is delivered when all 16 frames have arrived. -/
def execPageDataReceive (port : Fin 6) (fr : Frame) (s : State) : Host.Outcome State Fault Refusal :=
  s.run (fun b => b.routed port fr 7 (fun b f =>
    let n := fbody f 0 % 32
    let i := fbody f 1 % 16
    match b.hop.slots.find? (fun e => e.1 == n) with
    | none => b.lateData port
    | some e =>
      if b.hop.ready.contains n || e.2.src ≠ f.src.toNat then b.lateData port
      else
        let x := { e.2 with
          units := (upto 4).foldl (fun t j => tput t (4 * i + j) (padTo 64 (f.payload.drop (64 * j)))) e.2.units
          frames := if e.2.frames.contains i then e.2.frames else e.2.frames ++ [i]
          last := b.gt }
        let b := b.modHop (fun h => { h with slots := tput h.slots n x })
        if x.frames.length < 16 then b else b.slotReady n))

/-- SINK_SLOT_TIMEOUT (R434): a slot without frames for 1 ms is delivered cut, or freed when none has come. -/
def execSinkSlotTimeout (slot : Fin 32) (s : State) : Host.Outcome State Fault Refusal :=
  s.run (fun b =>
    match b.hop.slots.find? (fun e => e.1 == slot.val) with
    | none => b
    | some e =>
      if !b.hopRuns || b.hop.ready.contains slot || b.gt < e.2.last + ms 1 then b
      else if e.2.frames.isEmpty then (b.modHop (fun h => { h with slots := tdel h.slots slot })).grantAll
      else (b.modHop (fun h => { h with sinkPageCut := satAdd 32 h.sinkPageCut 1 })).slotReady slot)

/-! ### Fabric freezes (R290, R436) -/

/-- A pair is noted among the 16 seen last. -/
def Block.noteSeen (b : Block) (pair : Nat × Nat) : Block :=
  b.modHop (fun h => { h with seen := (h.seen ++ [pair]).drop (h.seen.length + 1 - 16) })

/-- An instance takes a slot for a fabric freeze, or refuses with a code of R290. DEDUCED, log entry 38. -/
def Block.joinFreeze (b : Block) (f : Freeze) (id : Nat) : Nat × Block :=
  if !b.alignedNow then (1, b)
  else if (upto 4).all (fun i => (b.freezeSlot i).st != .free) then (2, b)
  else if b.localOfRoot f.rootT < b.gt + us 1 then (3, b)
  else if (b.slotOf id).isSome then (4, b)
  else
    match b.takeFreeze { f with t := b.localOfRoot f.rootT } (some id) with
    | some r => (0, r.2)
    | none => (2, b)

/-- FREEZE_SCHED_RECEIVE (R290, R436): the first copy of a pair is handled, passed on and answered. -/
def execFreezeSchedReceive (port : Fin 6) (fr : Frame) (s : State) : Host.Outcome State Fault Refusal :=
  s.run (fun b => b.receive port fr (fr.ftype == 8) keepNone (fun b f =>
    let node := fbodyN f 9 2 % 4096
    let id := fbody f 11
    if b.hop.seen.contains (node, id) then b
    else
      let b := b.noteSeen (node, id)
      let r := b.joinFreeze
        { rootT := fbodyN f 0 9, fabric := true, fixed := false, node := node
          aoClear := (fbody f 12).testBit 0, tenantCopy := (fbody f 12).testBit 1 } id
      let b := r.2
      let b := if b.hop.disc = 6 && f.ttl.toNat > 1 then
          b.each (b.up3.filter (· != port.val)) (fun b q => b.sendOn q { f with ttl := f.ttl - 1 } 6) else b
      b.sendRouted (b.newFrame 9 node (leBytes 1 id ++ leBytes 1 r.1) []) 7))

/-- The fabric FREEZE commands with nothing left to wait for complete (R290). DEDUCED, log entry 38. -/
def Block.finishFreezeCmds (b : Block) (timedOut : Nat → Bool) : Block :=
  b.finishLongs (fun _ k => match k with
    | .freeze id ok bad waiting _ =>
      if waiting.isEmpty || timedOut id then
        let n := bad + waiting.length
        some (if n = 0 then stDone else stPartial, [w32 id, w32 (ok % 2 ^ 16 + n % 2 ^ 16 * 2 ^ 16)])
      else none
    | _ => none)

/-- FREEZE_ACK_RECEIVE (R290): an instance's outcome reaches the initiator. DEDUCED, log entry 38. -/
def execFreezeAckReceive (port : Fin 6) (fr : Frame) (s : State) : Host.Outcome State Fault Refusal :=
  s.run (fun b => b.routed port fr 9 (fun b f =>
    let b := b.mapLongs (fun k => match k with
      | .freeze id ok bad waiting sent =>
        if id = fbody f 0 && waiting.contains f.src.toNat then
          .freeze id (if fbody f 1 = 0 then ok + 1 else ok) (if fbody f 1 = 0 then bad else bad + 1)
            (waiting.erase f.src.toNat) sent
        else k
      | _ => k)
    b.finishFreezeCmds (fun _ => false)))

/-- FREEZE_CMD_TIMEOUT (R290): 100 µs after `FREEZE_SCHED` was sent the missing answers count as not given. -/
def execFreezeCmdTimeout (freezeId : BitVec 8) (s : State) : Host.Outcome State Fault Refusal :=
  s.run (fun b =>
    let due := b.allLongs.any (fun x => match x.2.kind with
      | .freeze id _ _ _ sent => id == freezeId.toNat && decide (sent + us 100 ≤ b.gt)
      | _ => false)
    if due then b.finishFreezeCmds (fun id => id == freezeId.toNat) else b)

/-! ### Key rotation, receiving side (R440) -/

/-- ROTATE_RECEIVE (R440): an announcement asks for the new receive key, an acknowledgement ends the wait of the sender,
and DONE destroys the old receive key. DEDUCED, log entry 39. -/
def execRotateReceive (port : Fin 6) (fr : Frame) (s : State) : Host.Outcome State Fault Refusal :=
  s.run (fun b => b.receive port fr (fr.ftype == 0xA) keepNone (fun b f =>
    match fbody f 0 with
    | 0 =>
      let phase := (fbody f 1).testBit 0
      let x := b.hopPort port
      if phase == x.rxPhase || x.rxOther.isSome || x.asks true phase then b else b.askKey port true phase
    | 1 =>
      if (b.hopPort port).rotStep = 2 then (b.modHopPort port (fun x => { x with rotStep := 3 })).rotateCheck port else b
    | 2 => b.modHopPort port (fun x =>
        if x.rxOther.isSome then
          { x with rxKey := x.rxOther, rxOther := none, rxPhase := !x.rxPhase, rxIdle := x.rxIdleO, rxIdleO := 0 }
        else x)
    | _ => b))

end Sys2Proof.Machine
end

