-- ==== Sys2Proof/Machine/Reset.lean ====
section
/-! DEFINITION. Function resets (R375 to R390), and the changes of a resource's owner, mode or format that a reset shares
with the commands (R104, R149, R163, R369). -/

namespace Sys2Proof.Machine

/-! ### Changes shared with the commands -/

/-- The sequencer of a station is switched off (R104): `SEQ_EN` 0, every comparator cleared, Idle. -/
def Block.seqOff (b : Block) (st : Nat) : Block :=
  let q := (b.station st).seq
  let b := b.modSeq st (fun q => { q.goto .idle with en := false, comps := [], postLeft := 0 })
  if q.st == .post then b.seqLeft q.owner else b

/-- The format version of an owner changes (R149): its open units close in every station, and its streams count as new.
DEDUCED, log entry 12. -/
def Block.setFormat (b : Block) (o : Nat) (fmt2 : Bool) : Block :=
  if (b.tenant o).fmt2 == fmt2 then b
  else
    (b.each allStations (fun b st => (b.closeOwner st o).modStation st (fun s => s.newStream o))).modTenant o (fun t =>
      { t with fmt2 := fmt2, verFirst := true })

/-- The cask mode of an owner changes (R163): its Open pages close, and leaving Brim-stop ends a hold (R169). -/
def Block.setMode (b : Block) (o mode : Nat) : Block :=
  let old := (b.tenant o).mode
  if old = mode then b
  else
    let b := b.closeOpen o
    let b := if old = 1 then b.holdEnd o else b
    b.modTenant o (fun t => { t with mode := mode })

/-- A profile with its owner-written fields at their reset values (R230). -/
def profOwnerReset (p : List Word) : List Word :=
  [(p.getD 0 0 &&& 0xFE#32) ||| 0x0F000000#32, p.getD 1 0, 0x0010F100#32]

/-- The reference entries in a profile's range return to their reset value (R246, R369). -/
def Block.clearRefs (b : Block) (p : List Word) : Block :=
  let lo := pfld p 1 0 15
  let hi := lo + pfld p 1 15 16
  b.modAssay (fun a => { a with refs := a.refs.filter (fun e => decide (e.1 < lo) || decide (hi ≤ e.1)) })

/-- Owner-written fields of a counter descriptor at their reset values (R275, R296). -/
def descOwnerReset (w0 w1 : Word) : Word × Word := (w0 &&& 0xFE#32, w1 &&& 0xFFFFFF#32)

/-! ### Step 1 (R375, R377, R379) -/

/-- Channels with target memory that are bound to a tenant, with their windows: number, base, size (R384, R390). -/
def Block.memChans (b : Block) (n : Nat) : List (Nat × Nat × Nat) :=
  ((upto 16).filter (fun c => (b.chan c).owner == n && (b.chan c).target == 0)).map (fun c =>
    (c, (b.chan c).winBase, (b.chan c).winSize))

/-- The channels wait for a scrub of tenant `n` (R386). -/
def Block.holdChans (b : Block) (n : Nat) (cs : List Nat) : Block :=
  b.each cs (fun b c => b.modChan c (fun x => { x with heldBy := x.heldBy ++ [n] }))

/-- One scrub of tenant `n` no longer holds the channels (R386). -/
def Block.freeChans (b : Block) (n : Nat) (cs : List Nat) : Block :=
  b.each cs (fun b c => b.modChan c (fun x => { x with heldBy := x.heldBy.erase n }))

/-- A function reset of tenant `n` begins, joins the running one, or waits for the wake (R375, R377, R379).
DEDUCED, log entry 44. -/
def Block.beginReset (b : Block) (n : Nat) : Block :=
  let b := b.requestWake 3
  if (b.tenant n).resetting then b
  else if !b.running then b.modTenant n (fun t => { t with rstWait := true })
  else
    let cs := b.memChans n
    let b := if cs.any (fun w => decide (0 < w.2.2)) then b.holdChans n (cs.map Prod.fst) else b
    let b := (b.resetPort n).modTenant n (fun t => { t with
      resetting := true, step2Due := true, rstWait := false, intStatus := 0, intEnable := 0, due := []
      tokens := 1024 * t.intBurst, tokenGt := b.gt, deferring := [], viewSel := [], hold := none, scrubCh := cs })
    (b.each (upto 16) (fun b c => b.abandonOld c n)).settleDrains

/-- The function resets that have waited for Run begin (R375). -/
def Block.beginWaiting (b : Block) : Block :=
  b.each (upto 64) (fun b n => if (b.tenant n).rstWait then b.beginReset n else b)

/-- FUNCTION_RESET_REQUEST (R375, R499): `fr_req` of a tenant rises. -/
def execFunctionResetRequest (fn : Fin 64) (s : State) : Host.Outcome State Fault Refusal :=
  s.run (fun b =>
    if b.power.st == .off then b else (b.modTenant fn (fun t => { t with frPend := true })).beginReset fn)

/-- OPERATOR_FUNCTION_RESET (R383): the port actions on the operator's ports, acknowledged at once.
DEDUCED, log entry 45. -/
def execOperatorFunctionReset (s : State) : Host.Outcome State Fault Refusal :=
  s.run (fun b =>
    if b.power.st == .off then b
    else ((b.requestWake 3).resetPort 64).modTenant 64 (fun t => { t with frAck := true }))

/-- FUNCTION_RESET_RELEASE (R499): the request falls after its acknowledge, which falls with it. -/
def execFunctionResetRelease (fn : Fin 65) (s : State) : Host.Outcome State Fault Refusal :=
  s.run (fun b => b.modTenant fn (fun t => { t with frAck := false }))

/-! ### Step 2 (R377) -/

/-- The cask at an epoch advance (R172): the owner's old pages that are not Draining become Free. -/
def Block.epochCask (b : Block) (n : Nat) : Block :=
  let b := b.modCask (fun c => { c with pages := tmap {} c.pages (fun _ p =>
    if p.owner == n && (p.st == .openP || p.st == .full || p.st == .held) then {} else p) })
  b.modTenant n (fun t => { t with
    rsv := 0, rsvCut := 0, caskHold := false, epochFirst := true, pageSeq := 0 })

/-- Stations at an epoch advance: open units close under the old epoch and `USEQ` restarts (R119, R128), the owner's
sequencers switch off (R104), its stream counts as new (R122), its rules and default action return to their reset values. -/
def Block.epochStation (b : Block) (n st : Nat) : Block :=
  let b := if (b.station st).seq.owner = n then b.seqOff st else b
  let b := b.closeOwnerRaw st n
  b.modStation st (fun s => { s.newStream n with
    useq := tdel s.useq n
    rules := tmap ruleReset s.rules (fun _ r => if fld (r.getD 0 0) 22 7 = n then [r.getD 0 0 &&& 0x1FC00000#32, 0, 0, 0, 0] else r)
    defExclude := s.defExclude.filter (· != n) })

/-- Assay units, profiles and reference entries (R246). -/
def Block.epochAssay (b : Block) (n : Nat) : Block :=
  let b := b.each (upto 16) (fun b u => if (b.unit u).owner = n then b.discardUnitTensors u else b)
  b.each (upto 64) (fun b k =>
    let p := b.profile k
    if pfld p 0 1 7 = n then
      (b.clearRefs p).modAssay (fun a => { a with profiles := tset profReset a.profiles k (profOwnerReset p) })
    else b)

/-- The objects that a capture lists, in the order of their entries (R271). -/
def Snap.listed (x : Snap) : List Nat :=
  ((upto 512).map (fun k => ((upto 32).filter (fun i => bit (tget 0 x.image (0xD000 + 4 * k)) i)).map (fun i =>
    32 * k + i))).flatten

/-- A capture of which entry `k` of the object section is captured as cleared. -/
def Snap.clearEntry (x : Snap) (k : Nat) : Snap :=
  { x with image := x.image.filter (fun e => decide (e.1 < 0xD800 + 16 * k) || decide (0xD800 + 16 * k + 16 ≤ e.1)) }

/-- Entries of objects that a reset clears during a capture (R274): one that the capture has copied already stays as it
was, another is captured as cleared. How far the capture has come is a free value. DEDUCED, log entry 19. -/
def Block.clearUncopied (b : Block) (ids : List Nat) : Block :=
  if b.sync.snap.st == .capturing && b.sync.snap.t.isNone then
    b.each (b.sync.snap.listed.zipIdx.filter (fun e => ids.contains e.1)) (fun b e =>
      let r := b.takeFree
      if r.1 % 2 = 0 then r.2 else r.2.modSync (fun s => { s with snap := s.snap.clearEntry e.2 }))
  else b

/-- The object shadow (R272). -/
def Block.epochSync (b : Block) (n : Nat) : Block :=
  let gone (x : Obj) : Bool := x.ownValid && x.owner == n && !x.shared
  let ids := (b.sync.objs.filter (fun e => gone e.2)).map Prod.fst
  let b := b.clearUncopied ids
  (b.modSync (fun s => { s with
    waits := tmap {} s.waits (fun _ w => if w.valid && ids.contains w.obj then { w with stale := true } else w)
    objs := tmap {} s.objs (fun _ x =>
      if gone x then {}
      else
        let x := { x with users := x.users.filter (fun k => k != n) }
        if x.ownValid && x.owner == n && x.shared then { x with ownValid := false, sigDecl := false } else x) })).armNoprog

/-- The counters of the tenant (R296): descriptors in the tiles, on their way there and in the station mirrors, values, pending
reports. What the operator wrote stays. -/
def Block.epochCounters (b : Block) (n : Nat) : Block :=
  let mine (w : Word) : Bool := fld w 1 7 == n
  { b with
    taps := tmap {} b.taps (fun _ t => { t with
      cnt := tmap {} t.cnt (fun _ c =>
        if c.owner = n then
          { w0 := (descOwnerReset c.w0 c.w1).1, w1 := (descOwnerReset c.w0 c.w1).2, lastC := c.lastC }
        else c)
      cfg := t.cfg.map (fun w => match w with
        | .desc k w0 w1 => if mine w0 then .desc k (descOwnerReset w0 w1).1 (descOwnerReset w0 w1).2 else w
        | w => w) })
    views := tmap {} b.views (fun _ v => { v with
      desc := tmap (0x80#32, 0#32) v.desc (fun _ d => if mine d.1 then descOwnerReset d.1 d.2 else d) }) }

/-- Loop slots and the agents' owner-written fields (R213). DEDUCED, log entry 44. -/
def Block.epochMash (b : Block) (n : Nat) : Block :=
  let b := b.cutAll b.gt
  let b := b.each (upto 16) (fun b k => if (b.slot k).owner = n then b.resetSlot k else b)
  (b.resetRows n).modMash (fun m => { m with
    agents := tmap agentReset m.agents (fun _ w => if aOwner w = n then w &&& 0xFF#32 else w) })

/-- The scrub of a reset (R384, R386, R389): an earlier one of the tenant ends or is removed, and the windows of the
channels bound at step 1, which have waited since then, are queued. DEDUCED, log entry 43. -/
def Block.queueScrub (b : Block) (n oldE newE : Nat) : Block :=
  let b := match b.sparge.scrubs with
    | [] => b
    | h :: rest =>
      let b := b.each (rest.filter (fun (g : Scrub) => g.tenant == n)) (fun b g => b.freeChans n g.chans)
      let b := b.modSparge (fun s => { s with scrubs := h :: rest.filter (fun (g : Scrub) => g.tenant != n) })
      if h.tenant = n then b.endScrub h 2 else b
  let cs := (b.tenant n).scrubCh.map Prod.fst
  let wins := (b.tenant n).scrubCh.filter (fun w => decide (0 < w.2.2))
  let b := if wins.isEmpty then b
    else b.modSparge (fun s => { s with
      scrubs := s.scrubs ++ [{ tenant := n, oldEpoch := oldE, newEpoch := newE, wins := wins, chans := cs }] })
  b.modTenant n (fun t => { t with scrubQ := !wins.isEmpty, rstScrub := !wins.isEmpty })

/-- Step 2 may take place (R174): no page of an earlier epoch of the tenant is still Draining. -/
def Block.epochFree (b : Block) (n : Nat) : Bool :=
  !b.cask.pages.any (fun e => e.2.owner == n && e.2.st == .draining && e.2.epoch != b.epochOf n)

/-- Step 2 of a function reset (R377): the reset completes in this brew cycle. DEDUCED, log entry 44. -/
def Block.epochStep (b : Block) (n : Nat) : Block :=
  let old := b.epochOf n
  let new := (old + 1) % 256
  let b := b.each allStations (fun b st => b.epochStation n st)
  let b := (b.setMode n 0).modTenant n (fun t => { t with
    epoch := new, oldEpoch := old, step2Due := false, mode := 0, flushUs := 100, fmt2 := false
    verFirst := t.verFirst || t.fmt2
    viewSel := [], viewVal := [], viewRefused := 0, viewLost := 0, viewAny := 0, refreshSeq := 0
    cfgChanged := false })
  let b := ((((b.epochCask n).epochMash n).epochAssay n).epochSync n).epochCounters n
  let b := { b with ctxs := tmap 0 b.ctxs (fun _ w =>
    if bit w 31 && fld w 25 6 == n then w &&& 0xFF000000#32 else w) }
  let q := (b.tenant n).scrubCh.any (fun w => decide (0 < w.2.2))
  let b := b.queueScrub n old new
  (b.mapLongs (fun k => match k with
    | .tenantReset t _ _ => if t = n then .tenantReset t old q else k
    | _ => k)).settleDrains.pumpAll

/-- RESET_EPOCH (R174, R377). -/
def execResetEpoch (fn : Fin 64) (s : State) : Host.Outcome State Fault Refusal :=
  s.run (fun b =>
    let t := b.tenant fn
    if b.running && t.resetting && t.step2Due && b.epochFree fn then b.epochStep fn else b)

/-! ### Steps 3 and 4 (R377) -/

/-- RESET_READY (R377): the tenant is Ready, the request is acknowledged and TENANT_RESET completes. -/
def execResetReady (fn : Fin 64) (s : State) : Host.Outcome State Fault Refusal :=
  s.run (fun b =>
    let t := b.tenant fn
    if !b.running || !t.resetting || t.step2Due then b
    else
      let b := b.modTenant fn (fun t => { t with
        resetting := false, frAck := t.frAck || t.frPend, frPend := false })
      (b.finishLongs (fun _ k => match k with
        | .tenantReset n old scrub =>
          if n = fn then some (stDone, [w32 (old + 256 * t.epoch), w32 (b2n scrub)]) else none
        | _ => none)).pumpAll)

end Sys2Proof.Machine
end

