-- ==== Sys2Proof/Machine/Power.lean ====
section
/-! DEFINITION. Power states and interrupt messages (R373, R374, R465 to R475, R498): what keeps the block busy, the choice
of a state, clock speed, the power handshake, wakes, and the Maltster's watchdog (R331). -/

namespace Sys2Proof.Machine

/-! ### Activity (R467, R470) -/

/-- The Maltster selects Full or Low speed in Run (R467). -/
def Block.chooseSpeed (b : Block) : Block :=
  if b.running then
    b.modPower (fun p => if p.clkReq then
      { p with lowAsked := p.lowEn && decide (5 ≤ p.phase) && !b.working && !b.active } else p)
  else b

/-! ### The choice (R471, R472) -/

/-- Unexpired holds (R355): (floor, function). -/
def Block.holds (b : Block) : List (Nat × Nat) :=
  b.tenants.filterMap (fun e => match e.2.hold with
    | some (fl, g) => if b.gt < g then some (fl, e.1) else none
    | none => none)

/-- The function whose hold sets the floor, and the floor: the shallowest, the lowest function on a tie. -/
def Block.floorHold (b : Block) : Option (Nat × Nat) :=
  match b.holds with
  | [] => none
  | h :: t => some (t.foldl (fun m x => if x.1 < m.1 then x else m) h)

/-- The deepest state that holds and policy allow. -/
def Block.deepest (b : Block) : Nat := min b.power.policy (match b.floorHold with | some h => h.1 | none => 3)

/-- The known events (R472). DESIGN CHOICE, log entry 46. -/
def Block.knownEvents (b : Block) : List Gt :=
  (b.freezes.filterMap (fun e => if e.2.st == .scheduled then some (e.2.t - us 2) else none)) ++
  (if b.sync.npLimit ≠ 0 && b.sync.waiting then [b.sync.npNext.getD (b.gt + b.npInterval)] else []) ++
  (if b.sync.knotMs = 0 then [] else [b.sync.lastWalk + ms b.sync.knotMs]) ++
  [b.time.tcalDue] ++
  (b.tenants.filterMap (fun e => e.2.hold.map Prod.snd)) ++
  (if b.cask.pages.any (fun e => e.2.st != .free && e.2.st != .fenced) then
    [b.cask.patrolGt + ms b.cask.patrolMs] else []) ++
  (b.cask.pages.filterMap (fun e =>
    if e.2.st == .openP && (b.tenant e.2.owner).mode == 2 then
      some (e.2.lastUnit + us (b.tenant e.2.owner).flushUs) else none)) ++
  (b.mash.slots.filterMap (fun e => match e.2.win with
    | some w => if w.decided then none else w.deadline
    | none => none))

/-- Time to the next known event in ns; `none` without one. -/
def Block.nextIn (b : Block) : Option Int :=
  match b.knownEvents with
  | [] => none
  | g :: t => some (((t.foldl min g : Nat) : Int) / 256 - ((b.gt / 256 : Nat) : Int))

/-- The pseudocode of R471: 0 Run, 1 Doze, 2 Nap, 3 Kiln. -/
def Block.choose (b : Block) : Nat :=
  let deep := min b.deepest (if b.anyUp || b.active then 1 else 3)
  let ok (n : Int) : Bool := match b.nextIn with | none => true | some d => decide (n ≤ d)
  if deep = 0 then 0
  else if deep = 3 && ok 1070000 then 3
  else if deep ≥ 2 && ok 24000 then 2
  else 1

/-- The always-on wake timer for a state with this wake time in ns (R471). -/
def Block.timerFor (b : Block) (wakeNs : Nat) : Option Gt :=
  match b.knownEvents with
  | [] => none
  | g :: t => some (t.foldl min g - wakeNs * 256)

/-- Doze is entered at once, Nap and Kiln through the power handshake (R465, R473). -/
def Block.enterState (b : Block) (s : Nat) : Block :=
  match s with
  | 1 => b.modPower (fun p => { p with st := .doze, goal := .doze })
  | 2 => b.modPower (fun p => { p with goal := .nap, clkReq := false, wakeTimer := b.timerFor 3000 })
  | 3 => b.modPower (fun p => { p with goal := .kiln, retReq := !p.retGnt, wakeTimer := b.timerFor 60000 })
  | _ => b

/-- The block rests in Doze, and no wake has begun. -/
def Block.dozing (b : Block) : Bool :=
  b.power.st == .doze && b.power.goal == .doze && !b.power.waking && !b.power.quiesce

/-- POWER_STATE_CHOOSE (R471): the block has not been busy for 64 brew cycles, and the Maltster chooses a state; in Doze it
chooses again when an input to the choice has changed. DESIGN CHOICE, log entry 46. -/
def execPowerStateChoose (s : State) : Host.Outcome State Fault Refusal :=
  s.run (fun b =>
    if b.busy || decide (b.gt < b.power.busyGt + b.cycles 64) then b
    else if b.running then b.chooseSpeed.enterState b.choose
    else if b.dozing then b.enterState b.choose
    else b)

/-! ### Wakes (R468) -/

/-- The number of a wake source in the row order of R468. -/
def wakeNo : WakeSrc → Nat
  | .item => 0 | .access => 1 | .clockState => 2 | .reset => 3 | .timer => 4 | .deadline => 5 | .phy => 6 | .quote => 7
  | .grant => 8

/-- WAKE_REQUEST (R468, R484): sources that arrive in one AON cycle make one wake, named after the first in row order. -/
def execWakeRequest (srcs : List WakeSrc) (s : State) : Host.Outcome State Fault Refusal :=
  s.run (fun b =>
    match srcs.map wakeNo with
    | [] => b
    | n :: t => b.requestWake (t.foldl min n))

/-- ACTIVE_US_EXPIRY (R471): the activity window ends, and the block wakes from Doze for one choice. -/
def execActiveUsExpiry (s : State) : Host.Outcome State Fault Refusal :=
  s.run (fun b => if b.power.st == .doze && !b.active then b.requestWake 4 else b)

/-- WAKE_TIMER_EXPIRY (R471): the block wakes ahead of a known event. -/
def execWakeTimerExpiry (s : State) : Host.Outcome State Fault Refusal :=
  s.run (fun b =>
    match b.power.wakeTimer with
    | some g => if g ≤ b.gt then (b.modPower (fun p => { p with wakeTimer := none })).requestWake 4 else b
    | none => b)

/-- POWER_HOLD_EXPIRY (R355). -/
def execPowerHoldExpiry (f : Fin 65) (s : State) : Host.Outcome State Fault Refusal :=
  s.run (fun b => b.modTenant f (fun t => { t with
    hold := match t.hold with | some (fl, g) => if g ≤ b.gt then none else some (fl, g) | none => none }))

/-- The brew domain stands at or above a floor: 0 Run, 1 Doze, 2 Nap, 3 any. -/
def Block.atFloor (b : Block) (fl : Nat) : Bool :=
  match b.power.st with
  | .run => true
  | .doze => decide (1 ≤ fl)
  | .nap => decide (2 ≤ fl)
  | .kiln => decide (3 ≤ fl)
  | .off => false

/-! ### The power handshake (R473, R498) -/

/-- Clock-state changes latched while no tap is enabled become the regions' states (R49). -/
def Time.syncRegions (t : Time) : Time :=
  { t with regions := t.regionAon.foldl (fun r e => tset 0 r e.1 e.2.1) t.regions, regionAon := [] }

/-- Brew supply and clock are granted at Full speed: Boot begins (R480), with the `gt` that the time keeper took; a function
reset that was requested before begins (R375), and a block reset is acknowledged (R499). -/
def Block.bootBegins (b : Block) : Block :=
  if b.power.phase = 0 && b.power.st == .run && b.power.brewGnt && b.power.clkGnt && !b.power.low then
    ((b.modPower (fun p => { p with
      phase := 1, blkAck := p.blkAck || p.blkPend, blkPend := false })).modTime (fun t =>
      { t.syncRegions with tb := t.aonGt * 2 ^ 24 })).beginWaiting
  else b

/-- The brew clock runs at the speed asked for, and the nominal rate word follows (R467). -/
def Block.newSpeed (b : Block) : Block :=
  let low := b.power.lowAsked
  if b.power.low == low then b
  else (b.modPower (fun p => { p with low := low })).modTime (fun t => { t with
    rate := if low then t.rate * 4 else t.rate / 4 })

/-- CLOCK_SPEED_ACK (R467, R498): the clock runs at the speed asked for; a Knot walk that waited for Full speed starts (R261),
and so does a Boot (R480). -/
def execClockSpeedAck (s : State) : Host.Outcome State Fault Refusal :=
  s.run (fun b =>
    if b.power.st == .off || b.power.low == b.power.lowAsked then b
    else
      let b := b.newSpeed.bootBegins
      if b.running then b.nextWalk else b)

/-- The clock has stopped or the supply is down on the way to Nap or Kiln: the time keeper holds `gt` (R35), and for Kiln the
supply follows the clock (R498). A wake that waited for the grant to fall goes on from there. What the brew domain holds
beside its configuration stays. DESIGN CHOICE, log entries 46 and 97. -/
def Block.sleepStep (b : Block) : Block :=
  let p := b.power
  if (p.st == .run || p.st == .doze) && (p.goal == .nap || p.goal == .kiln) && !p.clkGnt then
    let g := b.gt
    (b.modTime (fun t => { t with aonGt := g, locked := false, good := 0, loadNext := true })).modPower (fun p =>
      let q : Power := { p with st := if p.goal == .kiln && !p.brewGnt then .kiln else .nap }
      if p.waking then q.climb else { q with brewReq := p.brewReq && p.goal != .kiln })
  else if p.st == .nap && p.goal == .kiln && !p.brewGnt then
    b.modPower (fun p => let q : Power := { p with st := .kiln }; if p.waking then q.climb else q)
  else b

/-- The retention grant follows its request (R498): on the way to Kiln the save runs, and the clock request falls after it.
A request that the block no longer needs falls once it is granted, and one that waited for the grant to fall rises.
DESIGN CHOICE, log entry 46. -/
def Power.retain (p : Power) (level : Bool) : Power :=
  let q := { p with retGnt := level }
  if p.goal == .kiln then (if level then { q with clkReq := false } else { q with retReq := p.retReq || !p.waking })
  else { q with retReq := p.retReq && (p.retGnt || !level) }

/-- POWER_GRANT (R473, R498): the power controller follows a request up or down; a change that answers no request does
not take place. A clock granted anew runs at the speed asked for (R469). DESIGN CHOICE, log entries 46 and 72. -/
def execPowerGrant (pair : PwrPair) (level : Bool) (s : State) : Host.Outcome State Fault Refusal :=
  s.run (fun b =>
    let p := b.power
    if p.st == .off then b
    else
      match pair with
      | .brew =>
        if p.brewReq != level then b
        else ((b.modPower (fun p =>
          let q := { p with brewGnt := level }
          if level && p.waking then q.askClock else q)).bootBegins).sleepStep
      | .clk =>
        if p.clkReq != level then b
        else
          let b := b.modPower (fun q => { q with clkGnt := level })
          ((if level && !p.clkGnt then b.newSpeed else b).bootBegins).sleepStep
      | .ret => if p.retReq != level then b else b.modPower (fun p => p.retain level))

/-! ### Interrupt messages (R373, R374, R497) -/

/-- Tokens of a tenant at `gt`, in 1/1,024, and the `gt` up to which they are counted (R373). DEDUCED, log entry 47. -/
def Tenant.gain (t : Tenant) (g : Gt) : Nat × Gt :=
  let k := t.intRate * 1024
  let full := 1024 * t.intBurst
  let x := (g - t.tokenGt) * k
  let n := t.tokens + x / ms 1
  if k = 0 then (min full t.tokens, g)
  else if full ≤ n then (full, g)
  else (n, g - x % ms 1 / k)

/-- The first due message of a function stands at the output (R486). -/
def Block.presentIrq (b : Block) (f : Nat) : Block :=
  match (b.tenant f).due with
  | v :: rest => (b.modTenant f (fun t => { t with due := rest })).modPower (fun p => { p with irqUp := some (f, v) })
  | [] => b

/-- The tenants in round robin after the one served last, as far as a due message waits. -/
def Block.irqOrder (b : Block) : List Nat :=
  ((upto 64).map (fun i => (b.power.lastTenant + 1 + i) % 64)).filter (fun n => !(b.tenant n).due.isEmpty)

/-- Each of the tenants gains its tokens (R373); the due messages of one left without a whole token wait, each counted
once. DEDUCED, log entry 47. -/
def Block.gainTokens (b : Block) (ns : List Nat) : Block :=
  b.each ns (fun b n => b.modTenant n (fun t =>
    let r := t.gain b.gt
    let t := { t with tokens := r.1, tokenGt := r.2 }
    let new := t.due.filter (fun k => !t.deferring.contains k)
    if r.1 < 1024 then { t with deferring := t.deferring ++ new, deferred := satAdd 32 t.deferred new.length } else t))

/-- The tenant whose turn it is among those with a whole token spends it, and its message is presented (R373, R374).
DEDUCED, log entry 47. -/
def Block.sendNext (b : Block) (ns : List Nat) : Block :=
  match ns.find? (fun n => decide (1024 ≤ (b.tenant n).tokens)) with
  | some n =>
    ((b.modTenant n (fun t => { t with tokens := t.tokens - 1024, deferring := t.deferring.filter (fun k => t.due.head? != some k) })).modPower
      (fun p => { p with lastTenant := n })).presentIrq n
  | none => b

/-- The interrupt message output raises its valid (R373, R374, R486): with the operator's message first, then with that of the
next tenant that holds a whole token. A message that begins to wait for a token is counted.
DESIGN CHOICE, log entry 69. -/
def Block.irqRaise (b : Block) : Block :=
  if b.power.irqUp.isSome then b
  else if !(b.tenant 64).due.isEmpty then b.presentIrq 64
  else (b.gainTokens b.irqOrder).sendNext b.irqOrder

/-- INTERRUPT_MESSAGE_SEND (R373, R374, R497): the message that stands at the output is accepted. -/
def execInterruptMessageSend (s : State) : Host.Outcome State Fault Refusal :=
  s.run (fun b =>
    if b.power.st == .off then b
    else
      let b := b.irqRaise
      match b.power.irqUp with
      | some x => (b.modPower (fun p => { p with irqUp := none })).emit (.irq x.1 x.2)
      | none => b)

/-! ### The watchdog (R331, R357) -/

/-- MALTSTER_WATCHDOG (R331, R357): commands in progress complete with `HW_FAULT`, a FAULT record and MALTSTER_FAULT
report the restart. Causes other than 1 to 3 are reserved and do not occur. DESIGN CHOICE, log entry 48. -/
def execMaltsterWatchdog (cause : BitVec 8) (s : State) : Host.Outcome State Fault Refusal :=
  s.run (fun b =>
    if !b.running || cause = 0 || cause.toNat > 3 then b
    else
      let n := b.allLongs.length
      let b := b.modPower (fun p => { p with faultCause := cause.toNat, restarts := satAdd 16 p.restarts 1 })
      let b := b.finishLongs (fun _ _ => some (stHwFault, []))
      (b.queueRec (b.mkRec 20 1 64 3
        (leBytes 1 cause.toNat ++ [0] ++ gtBytes b.gt ++ leBytes 1 b.alEpoch ++ leBytes 4 n))).raise 64 12)

end Sys2Proof.Machine
end

