-- ==== Sys2Proof/Machine/Snapshot.lean ====
section
/-! DEFINITION. The hang snapshot (R266 to R271, R514), and the events that end a Knot walk or a live counter fetch and
with them the commands that wait for those (R258, R260, R294). -/

namespace Sys2Proof.Machine

/-! ### Encodings (R270) -/

/-- State code of a sequencer (R111, R270, R341). -/
def SeqState.code : SeqState → Nat
  | .idle => 0 | .armed => 1 | .post => 2 | .hold => 3

/-- State code of a link (R422). -/
def LinkState.code : LinkState → Nat
  | .down => 0 | .training => 1 | .hello => 2 | .keying => 3 | .up => 4 | .closing => 5

/-- The words that little-endian bytes make. -/
def wordsOf : Nat → List Byte → List Word
  | 0, _ => []
  | n + 1, bs => w32 (leNat (bs.take 4)) :: wordsOf n (bs.drop 4)

/-- A 64-bit chain item (R63). -/
def Entry.bits (e : Entry) : Nat := e.pay.toNat + e.delta % 2 ^ 12 * 2 ^ 48 + e.cls * 2 ^ 60

/-- Station section. -/
def Block.snapStation (b : Block) (st : Nat) : List Byte :=
  let s := b.station st
  let pend := maskOf ((tapsOf st).filterMap (fun t => if (b.tap t).chain.isEmpty then none else some (t % 64)))
  padTo 64 (leBytes 2 s.uq.length ++ leBytes 1 (s.uq.length - 248) ++
    leBytes 1 (pack [(2, s.seq.st.code), (1, b2n s.seq.en)]) ++ leBytes 1 s.seq.owner ++
    leBytes 1 (match s.uq with | u :: _ => u.owner | [] => 0xFF) ++ leBytes 2 s.seq.postLeft ++ leBytes 8 pend ++
    leBytes 4 s.unitDrop)

/-- Quadrant section. -/
def Block.snapQuad (b : Block) (q : Nat) : List Byte :=
  let x := b.quad q
  padTo 128 (leBytes 1 x.recIn.length ++ leBytes 1 (cdiv x.syncQ.length 2) ++
    ((upto 65).map (fun o => leBytes 1 (x.creditOf o))).flatten)

/-- Hop port section. -/
def Block.snapHop (b : Block) (p : Nat) : List Byte :=
  let x := b.hopPort p
  padTo 32 (leBytes 1 x.st.code ++ [0] ++ leBytes 2 x.credits ++ leBytes 2 x.replay.length ++ leBytes 2 0 ++
    leBytes 4 x.hopLost)

/-- Function section. -/
def Block.snapFn (b : Block) (f : Nat) : List Byte :=
  leBytes 4 (pack [(9, (b.port f).heldLines), (6, (b.port f).usedLines)])

/-- Tap section; an absent tap reads zero (R515). -/
def Block.snapTap (b : Block) (n : Nat) : List Byte :=
  if !b.present n then List.replicate 16 0
  else
    let t := b.tap n
    let e := match (b.view n).est with
      | some (s, r, v, c) => [(2, s), (6, r), (1, b2n v), (11, c)]
      | none => [(20, 0)]
    (b.wait n).bytes ++ leBytes 4 (pack (e ++ [(1, b2n t.en), (1, b2n (t.drainReq && !t.drainAck)), (2, t.clk),
      (6, t.chain.length), (1, b2n (b.view n).down)])) ++ leBytes 4 t.ledgerLost

/-- Chain head section. -/
def Block.snapHead (b : Block) (n : Nat) : List Byte :=
  leBytes 8 (if !b.present n || (b.view n).down then 0 else
    match (b.tap n).chain with | e :: _ => e.bits | [] => 0)

/-- The objects that a snapshot counts (R269, R271), in ascending object ID. -/
def Block.snapObjs (b : Block) : Tbl Obj := b.sync.objs.filter (fun e => decide (e.2.waits > 0) || e.2.stale)

/-- Every byte of the window from 0x7_0400 on, as (first offset, words), in rising order (R514). -/
def Block.snapSections (b : Block) : List (Nat × List Word) :=
  let objs := b.snapObjs.take 640
  ((upto 32).map (fun s => (0x400 + 64 * s, wordsOf 16 (b.snapStation s)))) ++
  ((upto 4).map (fun q => (0xC00 + 128 * q, wordsOf 32 (b.snapQuad q)))) ++
  ((upto 6).map (fun p => (0xE00 + 32 * p, wordsOf 8 (b.snapHop p)))) ++
  ((upto 65).map (fun f => (0xEC0 + 4 * f, wordsOf 1 (b.snapFn f)))) ++
  ((upto 2048).map (fun t => (0x1000 + 16 * t, wordsOf 4 (b.snapTap t)))) ++
  ((upto 2048).map (fun t => (0x9000 + 8 * t, wordsOf 2 (b.snapHead t)))) ++
  ((upto 512).map (fun k => (0xD000 + 4 * k,
    [w32 (maskOf ((objs.filter (fun e => e.1 / 32 == k)).map (fun e => e.1 % 32)))]))) ++
  (objs.zipIdx.map (fun e => (0xD800 + 16 * e.2, wordsOf 4 e.1.2.bytes)))

/-- The words of the window that are not zero, keyed by offset. -/
def Block.snapImage (b : Block) : Tbl Word :=
  ((b.snapSections.map (fun e => e.2.zipIdx.map (fun w => (e.1 + 4 * w.2, w.1)))).flatten).filter (fun e => e.2 != 0)

/-! ### Capture (R267) -/

/-- SNAPSHOT_CAPTURE (R267, R269): `gt` has reached T and every table is captured as it stands; after a wake that came
later than T the header holds the `gt` of the first Run cycle. DEDUCED, log entry 19. -/
def execSnapshotCapture (s : State) : Host.Outcome State Fault Refusal :=
  s.run (fun b =>
    match b.sync.snap.t with
    | some t =>
      if !b.running || b.sync.snap.st != .capturing || b.gt < t then b
      else
        let objs := b.snapObjs
        let img := b.snapImage
        b.modSync (fun s => { s with snap := { s.snap with
          t := none, gt := max t b.power.wakeGt, epoch := b.alEpoch, bound := b.recBound
          aligned := b.time.aligned
          tapsWaiting := (s.waits.filter (fun e => e.2.valid)).length
          tapsStalled := (b.views.filter (fun e => match e.2.est with | some (x, _) => x == 2 | none => false)).length
          objQual := objs.length, objListed := min 640 objs.length
          inflight := (b.quads.map (fun e => e.2.syncQ.length)).foldl (· + ·) 0
          image := img } })
    | none => b)

/-- SNAPSHOT_CAPTURE_DONE (R262, R267): the snapshot is Valid; SNAPSHOT is raised and a notice placed, whose bytes the
specification does not lay out: they, and how many of one fragment's 1 to 56 there are, are free values.
DESIGN CHOICE, log entries 5 and 67. -/
def execSnapshotCaptureDone (s : State) : Host.Outcome State Fault Refusal :=
  s.run (fun b =>
    if !b.running || b.sync.snap.st != .capturing || b.sync.snap.t.isSome then b
    else
      let b := b.modSync (fun s => { s with snap := { s.snap with st := .valid, validGt := b.gt, seq := (s.snap.seq + 1) % 2 ^ 32 } })
      let n := b.takeFree
      let x := n.2.takeFree
      (x.2.queueRec (x.2.mkRec 17 2 64 3 ((leBytes 64 x.1).take (n.1 % 56 + 1)))).raise 64 10)

/-! ### Walks and fetches that commands wait for -/

/-- KNOT_WALK_END (R258 to R261, R346): the walk and its confirm pass end, and KNOT_WALK commands that wait for this walk
complete. -/
def execKnotWalkEnd (s : State) : Host.Outcome State Fault Refusal :=
  s.run (fun b =>
    match b.sync.walk with
    | some w =>
      if !b.running || b.power.low then b
      else
        let cs := (b.confirmed w).1
        let old := (cs.filter (fun c => b.sync.known.contains (cycleId w c))).length
        let new := min 16 (cs.length - old)
        let taps := (cs.map (fun c => c.taps.length)).foldl (· + ·) 0
        (b.walkEnd w).2.finishLongs (fun _ k => match k with
          | .knotWalk q => if q = w.seq then some (stDone, [w32 (pack [(16, w.seq), (8, new), (8, satTo 8 old)]), w32 taps])
              else none
          | _ => none)
    | none => b)

/-- The 19 result words of CNT_SAMPLE (R347). -/
def Block.sampleWords (b : Block) (n : Nat) : List Word :=
  if (b.view n).down || (b.tap n).drainAck then List.replicate 18 0 ++ [1]
  else
    let t := b.tap n
    ((upto 8).map (fun k =>
      let v := (tget ({} : Counter) t.cnt k).value
      [w32 v, w32 (nfld v 32 16)])).flatten ++ [w32 t.aoCycles, w32 t.aoActive, 0]

/-- COUNTER_SAMPLE_RETURN (R294, R347): the fetch over the tap link returns the live values. -/
def execCounterSampleReturn (tap : Fin 2048) (s : State) : Host.Outcome State Fault Refusal :=
  s.run (fun b =>
    if !b.running then b
    else b.finishLongs (fun _ k => match k with
      | .cntSample t => if t = tap then some (stDone, b.sampleWords tap) else none
      | _ => none))

end Sys2Proof.Machine
end

