-- ==== Sys2Proof/Machine/Regs.lean ====
section
/-! DEFINITION. The register window: the map (R506 to R515), rights (R361, R362), reads and writes of every register (R304,
R371, R376, R392, R396, R444, R445, R475, R508, R269), split values (R505), and the front end that holds, parks and completes
accesses (R23, R300, R301, R326, R478, R483). -/

namespace Sys2Proof.Machine

/-! ### The map -/

/-- An assigned register of the window. -/
inductive Reg where
  /-- window of function `fn`: the ports and interrupt registers, and a tenant's view and reset registers (R506, R507) -/
  | fn (fn off : Nat)
  /-- rest of the operator window -/
  | op (off : Nat)
  | chan (c off : Nat)
  | hop (p off : Nat)
  | fab (off : Nat)
  | route (node : Nat)
  /-- the snapshot window, header and sections -/
  | snap (off : Nat)
  deriving DecidableEq, Repr

/-- Offsets of the ports in a function's window (R304). -/
def portOffs : List Nat := [0x000, 0x004, 0x008, 0x010, 0x014, 0x018, 0x01C, 0x020]

/-- Offsets of the interrupt registers (R371). -/
def intOffs : List Nat := [0x040, 0x044, 0x048]

/-- An offset of a tenant window that the map assigns (R506). -/
def tenantOff (o : Nat) : Bool :=
  portOffs.contains o || intOffs.contains o || (decide (0x100 ≤ o) && decide (o < 0x1D4)) || o == 0x200 || o == 0x204

/-- An offset of the operator window beyond the ports and interrupt registers that the map assigns (R507). -/
def operatorOff (o : Nat) : Bool :=
  (decide (0x100 ≤ o) && decide (o ≤ 0x118)) || (decide (0x120 ≤ o) && decide (o ≤ 0x138)) ||
    (decide (0x200 ≤ o) && decide (o ≤ 0x250)) || (decide (0x300 ≤ o) && decide (o < 0x340)) ||
    (decide (0x400 ≤ o) && decide (o < 0x500))

/-- The register at a byte offset of the window, a multiple of 4; `none` where no map assigns one (R9). -/
def regAt (a : Nat) : Option Reg :=
  let o := a % 0x1000
  if a < 0x40000 then if tenantOff o then some (.fn (a / 0x1000) o) else none
  else if a < 0x50000 then
    let o := a - 0x40000
    if portOffs.contains o || intOffs.contains o then some (.fn 64 o) else if operatorOff o then some (.op o) else none
  else if a < 0x54000 then
    if a % 0x400 ≤ 0x04C then some (.chan ((a - 0x50000) / 0x400) (a % 0x400)) else none
  else if a < 0x60000 then none
  else if a < 0x66000 then if o ≤ 0x038 then some (.hop ((a - 0x60000) / 0x1000) o) else none
  else if a < 0x68000 then if a ≤ 0x6601C then some (.fab (a - 0x66000)) else none
  else if a < 0x6C000 then some (.route ((a - 0x68000) / 4))
  else if a < 0x70000 then none
  else if a ≤ 0x70024 then some (.snap (a - 0x70000))
  else if a < 0x70400 || (0x70FC4 ≤ a && a < 0x71000) then none
  else some (.snap (a - 0x70000))

/-- The rights of R361: source 0 to 64, write or read. -/
def Reg.allowed (r : Reg) (src : Nat) (we : Bool) : Bool :=
  match r with
  | .fn n o => if portOffs.contains o then src == n else src == n || (src == 64 && !we)
  | _ => src == 64

/-! ### Strobes (R504) -/

/-- The bits of the strobed bytes. -/
def strbMask (s : BitVec 4) : Word := (upto 4).foldl (fun m i => if bit s i then setFld m (8 * i) 8 0xFF else m) 0

/-- A register after a write: only the strobed bytes of the RW bits `rw` change. -/
def merge (old d : Word) (s : BitVec 4) (rw : Word) : Word :=
  let m := strbMask s &&& rw
  (old &&& ~~~m) ||| (d &&& m)

/-- A W1C register after a write: strobed ones clear. -/
def w1c (old d : Word) (s : BitVec 4) : Word := old &&& ~~~(d &&& strbMask s)

/-! ### Reads -/

/-- Registers of a function's window other than `RSP_DATA`; a Resetting tenant's read as R381 gives. -/
def Block.fnRead (b : Block) (n o : Nat) : Word :=
  let t := b.tenant n
  let p := b.port n
  if o = 0x204 then
    w32 (pack [(2, b2n t.resetting), (1, b2n t.scrubQ), (1, b2n p.negotiated), (2, t.scrubResult), (2, 0), (8, t.epoch)])
  else if o = 0x044 then t.intEnable
  else if t.resetting then 0
  else if o = 0x004 then b.cmdCredits n
  else if o = 0x014 then p.level
  else if o = 0x018 then w32 (pack [(8, p.rd), (8, p.mark)])
  else if o = 0x040 then t.intStatus
  else if o = 0x048 then
    (if n = 64 then 0 else w32 (pack [(16, t.intRate), (8, t.intBurst), (8, (t.gain b.gt).1 / 1024)]))
  else if o = 0x1C0 then w32 t.viewRefused
  else if o = 0x1C4 then w32 t.viewLost
  else if o = 0x1C8 then w32 t.viewAny
  else if o = 0x1CC then w32 (t.refreshGt / 256)
  else if o = 0x1D0 then w32 t.refreshSeq
  else if 0x100 ≤ o && o < 0x1C0 then
    let v := tget (0, 0) t.viewVal ((o - 0x100) / 8)
    if o % 8 = 0 then w32 v.1 else w32 (pack [(16, v.1 / 2 ^ 32), (3, v.2)])
  else 0

/-- Code of a power state (R475). -/
def PState.code : PState → Nat
  | .run => 0 | .doze => 1 | .nap => 2 | .kiln => 3 | .off => 3

/-- `START_STATUS` (R475, R478). -/
def Block.startStatus (b : Block) : Word :=
  let p := b.power
  w32 (pack [(3, if p.quiesce then 7 else p.phase), (1, 0), (2, p.patchState), (2, 0), (1, b2n p.stMash), (1, b2n p.stShadow),
    (1, b2n p.stStore), (5, 0), (16, p.assayFailed)])

/-- Operator registers (R475, R508). -/
def Block.opRead (b : Block) (o : Nat) : Word :=
  let p := b.power
  if o = 0x100 then w32 (pack [(16, 0xEC04), (8, Config.siliconStep.toNat), (4, 4), (4, 3)])
  else if o = 0x104 then w32 (pack [(1, b2n p.lowEn), (15, 0), (16, p.activeUs)])
  else if o = 0x108 then w32 (pack [(2, p.st.code), (1, b2n (p.low && p.st == .run)), (1, 0), (4, p.lastWake)])
  else if o = 0x10C then b.startStatus
  else if o = 0x110 then w32 (pack [(8, p.faultCause), (8, 0), (16, p.restarts)])
  else if o = 0x114 then p.lossSeen
  else if o = 0x120 then w32 b.time.busLost
  else if o = 0x124 then w32 b.time.ppsMismatch
  else if o = 0x128 then w32 b.time.tsyncReject
  else if o = 0x12C then w32 b.time.csGlitch
  else if o = 0x130 then w32 b.meas.orphan
  else if o = 0x134 then w32 b.meas.ctrlDrop
  else if o = 0x138 then w32 b.meas.overflow
  else if 0x200 ≤ o && o ≤ 0x250 then w32 (tget 0 p.recLost ((o - 0x200) / 4))
  else if 0x300 ≤ o && o < 0x340 then w32 (tget 0 p.busErrors ((o - 0x300) / 4))
  else if 0x400 ≤ o && o < 0x500 then w32 (b.tenant ((o - 0x400) / 4)).deferred
  else 0

/-- Code of a channel state (R395). -/
def ChState.code : ChState → Nat
  | .idle => 0 | .running => 1 | .halted => 2 | .disabled => 3

/-- Channel registers (R396). -/
def Channel.read (x : Channel) (o : Nat) : Word :=
  if o = 0x000 then w32 (pack [(1, b2n x.enable), (2, x.swap)])
  else if o = 0x004 then
    w32 (pack [(2, x.st.code), (1, b2n x.starved), (1, 0), (2, x.target), (7, x.owner), (3, 0), (8, x.haltCause)])
  else if o = 0x008 then w32 x.ringBase
  else if o = 0x00C then w32 (x.ringBase / 2 ^ 32)
  else if o = 0x010 then w32 x.ringLog2
  else if o = 0x014 then w32 x.head
  else if o = 0x020 then w32 x.winBase
  else if o = 0x024 then w32 (x.winBase / 2 ^ 32)
  else if o = 0x028 then w32 x.winSize
  else if o = 0x02C then w32 (x.winSize / 2 ^ 32)
  else if o = 0x030 then w32 x.haltAddr
  else if o = 0x034 then w32 (x.haltAddr / 2 ^ 32)
  else if o = 0x038 then w32 (pack [(16, x.haltDesc), (16, x.haltEntry)])
  else if o = 0x03C then w32 x.haltPage
  else if o = 0x040 then w32 x.pagesMoved
  else if o = 0x044 then w32 x.bytesMoved
  else if o = 0x048 then w32 (x.bytesMoved / 2 ^ 32)
  else if o = 0x04C then w32 (pack [(12, x.sink), (4, 0), (8, x.sinkGen)])
  else 0

/-- Hop port registers (R444). -/
def HopPort.read (x : HopPort) (o : Nat) : Word :=
  if o = 0x000 then w32 (pack [(1, b2n x.adminUp), (1, b2n x.v2Allow)])
  else if o = 0x004 then
    w32 (pack [(4, x.st.code), (4, x.version), (8, x.reason), (1, b2n x.compat), (1, b2n x.kph), (1, b2n x.rotating)])
  else if o = 0x008 then w32 (pack [(12, x.node), (3, x.nport)])
  else if o = 0x00C then w32 (twos 24 x.alpha)
  else if o = 0x010 then w32 (pack [(11, x.credits)])
  else if o = 0x014 then w32 (pack [(10, x.replay.length)])
  else if o = 0x018 then w32 x.hopLost
  else if o = 0x01C then w32 x.phaseDrop
  else if o = 0x020 then w32 x.crcErr
  else if o = 0x024 then w32 x.replays
  else if o = 0x028 then w32 x.authFail
  else if o = 0x02C then w32 x.scrubRx
  else if o = 0x030 then w32 x.keyPeriod
  else if o = 0x034 then w32 x.linkUps
  else if o = 0x038 then w32 x.badType
  else 0

/-- Fabric registers (R445). -/
def Block.fabRead (b : Block) (o : Nat) : Word :=
  let h := b.hop
  if o = 0x00 then w32 (pack [(12, h.nodeId), (12, h.root), (6, h.depth)])
  else if o = 0x04 then w32 (pack [(8, h.disc), (8, h.gen), (3, h.parent)])
  else if o = 0x08 then w32 h.prio
  else if o = 0x0C then w32 (pack [(2, h.sinkDest), (2, 0), (4, h.landingCh)])
  else if o = 0x10 then w32 h.uid
  else if o = 0x14 then w32 (h.uid / 2 ^ 32)
  else if o = 0x18 then w32 b.nodesKnown
  else if o = 0x1C then w32 h.sinkPageCut
  else 0

/-- A routing entry (R430, R513); node 0xFFF is always unreachable. -/
def Block.routeRead (b : Block) (n : Nat) : Word :=
  let r := if n = 0xFFF then (7, 0x3F) else b.route n
  w32 (pack [(3, r.1), (5, 0), (6, r.2)])

/-- Code of a snapshot state (R269). -/
def SnapState.code : SnapState → Nat
  | .empty => 0 | .capturing => 1 | .valid => 2

/-- The snapshot window (R268, R269): from 0x400 on, only a Valid snapshot reads its image. -/
def Snap.read (x : Snap) (o : Nat) : Word :=
  if o = 0x00 then w32 (pack [(2, x.st.code), (1, b2n x.overwrite)])
  else if o = 0x04 then w32 x.seq
  else if o = 0x08 then w32 (pack [(1, b2n x.autoKnot), (1, b2n x.autoNoprog), (14, 0), (16, x.lead)])
  else if o = 0x0C then w32 (pack [(2, x.cause), (6, 0), (8, x.freezeId), (8, x.epoch), (8, x.bound)])
  else if o = 0x10 then w32 x.gt
  else if o = 0x14 then w32 (x.gt / 2 ^ 32)
  else if o = 0x18 then w32 (pack [(8, x.gt / 2 ^ 64), (1, b2n x.aligned)])
  else if o = 0x1C then w32 (pack [(12, x.tapsWaiting), (12, x.tapsStalled)])
  else if o = 0x20 then w32 (pack [(15, x.objQual), (1, 0), (10, x.objListed)])
  else if o = 0x24 then w32 (pack [(11, x.inflight), (5, 0), (16, x.walkSeq)])
  else if 0x400 ≤ o && x.st == .valid then tget 0 x.image o
  else 0

/-- The live value of a register; reads of `RSP_DATA` and of write-only registers apart. -/
def Block.regRead (b : Block) : Reg → Word
  | .fn n o => b.fnRead n o
  | .op o => b.opRead o
  | .chan c o => (b.chan c).read o
  | .hop p o => (b.hopPort p).read o
  | .fab o => b.fabRead o
  | .route n => b.routeRead n
  | .snap o => b.sync.snap.read o

/-! ### Writes -/

/-- A write of `INT_STATUS` (R371, R372): cleared vectors lose their due messages. -/
def Tenant.clearStatus (t : Tenant) (d : Word) (s : BitVec 4) : Tenant :=
  let v := w1c t.intStatus d s
  let due := t.due.filter (fun k => bit v k)
  { t with intStatus := v, due := due, deferring := t.deferring.filter (fun k => due.contains k) }

/-- A write of `INT_ENABLE` (R371, R372): a vector that becomes enabled while its status bit is 1 falls due, and one that
is disabled loses its due message. -/
def Tenant.setEnable (t : Tenant) (n : Nat) (d : Word) (s : BitVec 4) : Tenant :=
  let v := merge t.intEnable d s (if n = 64 then 0xFFFFFFFF#32 else 0xFF#32)
  let new := (upto 32).filter (fun k => bit v k && !bit t.intEnable k && bit t.intStatus k && !t.due.contains k)
  let due := t.due.filter (fun k => bit v k) ++ new
  { t with intEnable := v, due := due, deferring := t.deferring.filter (fun k => due.contains k) }

/-- A write in a function's own window (R304, R310 to R315, R327, R328, R371, R376, R381). DEDUCED, log entry 49. -/
def Block.fnWrite (b : Block) (n o : Nat) (d : Word) (s : BitVec 4) : Block :=
  let any : Bool := s != 0
  if o = 0x000 then (if (b.tenant n).resetting then b else b.cmdData n d s)
  else if o = 0x004 then
    let m := d &&& strbMask s
    b.modPort n (fun p => { p with framing := p.framing && !bit m 30, overrun := p.overrun && !bit m 31 })
  else if o = 0x008 then (if any then b.cmdAbort n d else b)
  else if o = 0x014 then b.modPort n (fun p => { p with emptyRead := p.emptyRead && !bit (d &&& strbMask s) 31 })
  else if o = 0x018 then (if any then b.modPort n (fun p => { p with mark := p.rd }) else b)
  else if o = 0x01C then (if any then b.modPort n (fun p => { p with rd := p.mark }) else b)
  else if o = 0x020 then (if any then b.modPort n Port.release else b)
  else if o = 0x040 then b.modTenant n (fun t => t.clearStatus d s)
  else if o = 0x044 then b.modTenant n (fun t => t.setEnable n d s)
  else if o = 0x200 then (if any && bit d 0 then b.beginReset n else b)
  else b

/-- `CNT_CLEAR` (R508, R510). -/
def Block.cntClear (b : Block) (d : Word) : Block :=
  let b := if bit d 0 then b.modTime (fun t => { t with busLost := 0, ppsMismatch := 0, tsyncReject := 0, csGlitch := 0 }) else b
  let b := if bit d 1 then b.modMeas (fun m => { m with orphan := 0, ctrlDrop := 0, overflow := 0 }) else b
  let b := if bit d 2 then b.modPower (fun p => { p with recLost := [] }) else b
  let b := if bit d 3 then b.modPower (fun p => { p with busErrors := [] }) else b
  if bit d 4 then b.each (upto 64) (fun b n => b.modTenant n (fun t => { t with deferred := 0 })) else b

/-- A write of an operator register (R475, R508): a bit of `LOSS_SEEN` whose loss is counted in the cycle of the write stays
set (R516). DEDUCED, log entry 49. -/
def Block.opWrite (b : Block) (o : Nat) (d : Word) (s : BitVec 4) : Block :=
  if o = 0x104 then
    let v := merge (b.opRead 0x104) d s 0xFFFF0001#32
    b.modPower (fun p => { p with lowEn := bit v 0, activeUs := fld v 16 16 })
  else if o = 0x114 then b.modPower (fun p => { p with
    lossSeen := w1c p.lossSeen d s ||| (if p.lossNow.2 = b.gt then p.lossNow.1 else 0) })
  else if o = 0x118 then (if s = 0 then b else b.cntClear d)
  else b

/-- A 64-bit value with one of its words merged. -/
def merge64 (v : Nat) (hi : Bool) (d : Word) (s : BitVec 4) : Nat :=
  let m := (merge (w32 (if hi then v / 2 ^ 32 else v)) d s 0xFFFFFFFF#32).toNat
  if hi then v % 2 ^ 32 + m * 2 ^ 32 else v / 2 ^ 32 * 2 ^ 32 + m

/-- A write of a channel register (R395, R396, R399, R409): ring and window fields only while Disabled.
DEDUCED, log entry 49. -/
def Block.chanReg (b : Block) (c o : Nat) (d : Word) (s : BitVec 4) : Block :=
  let any : Bool := s != 0
  let x := b.chan c
  let set (f : Channel → Channel) : Block := if x.st == .disabled then b.modChan c f else b
  if o = 0x000 then
    if !bit s 0 then b
    else ((b.modChan c (fun x => { x with swap := fld d 1 2 })).chanEnable c (bit d 0)).pump c
  else if o = 0x008 then set (fun x => { x with ringBase := merge64 x.ringBase false d s })
  else if o = 0x00C then set (fun x => { x with ringBase := merge64 x.ringBase true d s })
  else if o = 0x010 then set (fun x => { x with ringLog2 := (merge (w32 x.ringLog2) d s 0x1F#32).toNat })
  else if o = 0x018 then (if any && x.starved then (b.modChan c (fun x => { x with bell := true })).pump c else b)
  else if o = 0x01C then (if any && bit d 0 then set (fun x => { x with head := 0 }) else b)
  else if o = 0x020 then set (fun x => { x with winBase := merge64 x.winBase false d s })
  else if o = 0x024 then set (fun x => { x with winBase := merge64 x.winBase true d s })
  else if o = 0x028 then set (fun x => { x with winSize := merge64 x.winSize false d s })
  else if o = 0x02C then set (fun x => { x with winSize := merge64 x.winSize true d s })
  else b

/-- A write of a hop port register (R444). -/
def Block.hopReg (b : Block) (p o : Nat) (d : Word) (s : BitVec 4) : Block :=
  let x := b.hopPort p
  if o = 0x000 then
    let v := merge (x.read 0x000) d s 3
    let b := b.modHopPort p (fun x => { x with v2Allow := bit v 1 })
    if bit v 0 == x.adminUp then b else b.adminSet p (bit v 0)
  else if o = 0x00C then
    b.modHopPort p (fun x => { x with alpha := sfld (merge (x.read 0x00C) d s 0xFFFFFF#32).toNat 0 24 })
  else if o = 0x030 then b.modHopPort p (fun x => { x with keyPeriod := (merge (w32 x.keyPeriod) d s 0xFFFF#32).toNat })
  else b

/-- A write of a fabric register (R445); a change of the sink can let waiting pages be granted (R433). -/
def Block.fabReg (b : Block) (o : Nat) (d : Word) (s : BitVec 4) : Block :=
  if o = 0x08 then b.modHop (fun h => { h with prio := (merge (w32 h.prio) d s 0xFF#32).toNat })
  else if o = 0x0C && s != 0 then
    let v := merge (b.fabRead 0x0C) d s 0xF3#32
    grantSlots 32 (b.modHop (fun h => { h with sinkDest := fld v 0 2, landingCh := fld v 4 4 }))
  else b

/-- A write of the snapshot window (R269, R515). -/
def Block.snapReg (b : Block) (o : Nat) (d : Word) (s : BitVec 4) : Block :=
  if o = 0x00 && bit s 0 then
    let x := { b.sync.snap with overwrite := bit d 2 }
    let x := if bit d 3 && x.st == .valid then { x with st := .empty, image := [] } else x
    b.modSync (fun y => { y with snap := x })
  else if o = 0x08 then
    let v := merge (b.sync.snap.read 0x08) d s 0xFFFF0003#32
    b.modSync (fun y => { y with snap := { y.snap with autoKnot := bit v 0, autoNoprog := bit v 1, lead := fld v 16 16 } })
  else b

/-- A write within the rights of R361; registers without a writable field change nothing (R8, R329). -/
def Block.regWrite (b : Block) (r : Reg) (d : Word) (s : BitVec 4) : Block :=
  match r with
  | .fn n o => b.fnWrite n o d s
  | .op o => b.opWrite o d s
  | .chan c o => b.chanReg c o d s
  | .hop p o => b.hopReg p o d s
  | .fab o => b.fabReg o d s
  | .route _ => b
  | .snap o => b.snapReg o d s

/-! ### Split values (R505) -/

/-- The other parts of an RO value whose `_LO` register stands at this offset. -/
def splitRest (a : Nat) : List Nat :=
  match regAt a with
  | some (.chan _ 0x030) => [a + 4]
  | some (.chan _ 0x044) => [a + 4]
  | some (.fab 0x10) => [a + 4]
  | some (.snap 0x10) => [a + 4, a + 8]
  | _ => []

/-- The live word at an offset. -/
def Block.live (b : Block) (a : Nat) : Word := match regAt a with | some r => b.regRead r | none => 0

/-- A read within rights by source `src`: the latched part of a split value, or the live word; and the latch after it.
DEDUCED, log entry 49. -/
def Block.splitRead (b : Block) (src a : Nat) : Word × Block :=
  let l := tget (0, []) b.lo src
  let parts := splitRest a
  if !parts.isEmpty then (b.live a, { b with lo := tset (0, []) b.lo src (a, parts.map b.live) })
  else if (splitRest l.1).contains a && !l.2.isEmpty then
    let w := l.2.getD ((a - l.1) / 4 - 1) 0
    (if a = 0x70018 then setFld (b.live a) 0 8 (fld w 0 8) else w, b)
  else (b.live a, { b with lo := tdel b.lo src })

/-! ### Accesses -/

/-- The response beat of an access (R300). -/
def Block.beat (b : Block) (a : Acc) (d : Word) : Block := b.emit (.rt a.src a.id d)

/-- A read of `RSP_DATA` by its owner (R323 to R325, R381), which arrived at `t`: a word, the empty word, or parked. -/
def Block.rspRead (b : Block) (a : Acc) (t : Gt) : Block :=
  let n := a.src.val
  let p := b.port n
  if (b.tenant n).resetting then b.beat a 0
  else if p.readable > 0 then
    let r := p.takeWord
    (b.modPort n (fun _ => r.2)).beat a r.1
  else if t + p.stallNs * 256 ≤ b.gt then (b.modPort n Port.countEmpty).beat a 0
  else b.modPort n (fun p => { p with parked := p.parked ++ [(false, a, t)] })

/-- Byte offset of an access; bits [1:0] are ignored. -/
def accOff (a : Acc) : Nat := a.addr.toNat / 4 * 4

/-- A read of the snapshot's image that was accepted at `t`, before the snapshot became Valid (R268, R516). -/
def Block.notYetValid (b : Block) (r : Reg) (t : Gt) : Bool :=
  match r with
  | .snap o => decide (0x400 ≤ o) && decide (t < b.sync.snap.validGt)
  | _ => false

/-- One access acts (R361, R362, R302): outside the rights it reads zero and is counted; offsets that no map assigns read
zero. DEDUCED, log entry 50. -/
def Block.perform (b : Block) (we : Bool) (a : Acc) (t : Gt) : Block :=
  let n := a.src.val
  if n > 64 then (b.violation n).beat a 0
  else
    match regAt (accOff a) with
    | none => (b.unlatch n).beat a 0
    | some r =>
      if !r.allowed n we then ((b.unlatch n).violation n).beat a 0
      else if we then ((b.unlatch n).regWrite r a.data a.strb).beat a 0
      else if r = .fn n 0x010 then (b.unlatch n).rspRead a t
      else if b.notYetValid r t then (b.unlatch n).beat a 0
      else
        let x := b.splitRead n (accOff a)
        x.2.beat a x.1

/-- Behind a parked read of the same source an access waits (R301, R326); otherwise it acts. DEDUCED, log entry 34. -/
def Block.admitAcc (b : Block) (x : Bool × Acc × Gt) : Block :=
  let n := x.2.1.src.val
  if n ≤ 64 && !(b.port n).parked.isEmpty then b.modPort n (fun p => { p with parked := p.parked ++ [x] })
  else b.perform x.1 x.2.1 x.2.2

/-- Accesses of function `n` that stand first in its line and need not wait act; reads of `RSP_DATA` take readable words, and
do not wait while the tenant is Resetting (R381). One that stands next ends a latch that the access before it took (R505).
DEDUCED, log entry 34. -/
def drainParked : Nat → Block → Nat → Block
  | 0, b, _ => b
  | k + 1, b, n =>
    match (b.port n).parked with
    | [] => b
    | x :: rest =>
      if !isRspRead x || (b.tenant n).resetting then
        let b := (b.modPort n (fun p => { p with parked := rest })).perform x.1 x.2.1 x.2.2
        drainParked k (if rest.head?.any isRspRead then b.unlatch n else b) n
      else if (b.port n).readable > 0 then drainParked k (serveParked 1 b n) n
      else b

/-- The front end holds accesses: in Nap and Kiln (R23), in PowerUp and Boot (R483). DEDUCED, log entry 34. -/
def Block.frontHolds (b : Block) : Bool := b.power.st == .nap || b.power.st == .kiln || decide (b.power.phase ≤ 1)

/-- Accesses of a source without a response (R300). DEDUCED, log entry 34. -/
def Block.outstanding (b : Block) (n : Nat) : Nat :=
  (b.held.filter (fun x => x.2.1.src.val == n)).length + (if n ≤ 64 then (b.port n).parked.length else 0)

/-- An access during Quiesce completes at once (R478): four registers return their values to the operator, every other read
returns zero and every write is ignored. DEDUCED, log entry 50. -/
def Block.quietAccess (b : Block) (we : Bool) (a : Acc) : Block :=
  let v := if !we && a.src.val == 64 && [0x40100, 0x40108, 0x4010C, 0x40110].contains (accOff a) then b.live (accOff a) else 0
  b.beat a v

/-- An access is presented at the register target port (R300, R468): not taken while its source has 4 outstanding.
DEDUCED, log entry 34. -/
def Block.access (b : Block) (we : Bool) (a : Acc) : Block :=
  if b.power.st == .off then b
  else if b.power.quiesce then b.quietAccess we a
  else if 4 ≤ b.outstanding a.src then b
  else if b.frontHolds then ({ b with held := b.held ++ [(we, a, b.gt)] }).requestWake 1
  else (b.requestWake 1).admitAcc (we, a, b.gt)

/-- The held accesses complete in the order of their arrival (R23, R483). -/
def Block.completeHeld (b : Block) : Block :=
  let l := b.held
  ({ b with held := [] }).each l (fun b x => b.admitAcc x)

/-! ### The register commands -/

/-- Base of a function's own window (R6). -/
def ownBase (n : Nat) : Nat := if n = 64 then 0x40000 else n * 0x1000

/-- The access of a source to a fixed offset. -/
def rtAcc (r : RtReq) (a : Nat) (d : Word) : Acc :=
  { src := ⟨r.src.val, by have := r.src.isLt; omega⟩, addr := BitVec.ofNat 19 a, data := d, strb := r.strb, id := r.id }

/-- CMD_DATA_WRITE (R310 to R312). -/
def execCmdDataWrite (r : RtReq) (s : State) : Host.Outcome State Fault Refusal :=
  s.run (fun b => b.access true (rtAcc r (ownBase r.src) r.data))

/-- ABORT_OPEN (R315): a write of `CMD_ABORT` with bit 0 set. -/
def execAbortOpen (r : RtReq) (s : State) : Host.Outcome State Fault Refusal :=
  s.run (fun b => b.access true (rtAcc r (ownBase r.src + 0x008) (r.data ||| 1)))

/-- ABORT_QUEUED (R315): a write of `CMD_ABORT` with bit 1 set. -/
def execAbortQueued (r : RtReq) (s : State) : Host.Outcome State Fault Refusal :=
  s.run (fun b => b.access true (rtAcc r (ownBase r.src + 0x008) (r.data ||| 2)))

/-- RSP_DATA_READ (R323, R324). -/
def execRspDataRead (r : RtReq) (s : State) : Host.Outcome State Fault Refusal :=
  s.run (fun b => b.access false (rtAcc r (ownBase r.src + 0x010) r.data))

/-- RSP_MARK_WRITE (R327). -/
def execRspMarkWrite (r : RtReq) (s : State) : Host.Outcome State Fault Refusal :=
  s.run (fun b => b.access true (rtAcc r (ownBase r.src + 0x018) r.data))

/-- RSP_REWIND (R327). -/
def execRspRewind (r : RtReq) (s : State) : Host.Outcome State Fault Refusal :=
  s.run (fun b => b.access true (rtAcc r (ownBase r.src + 0x01C) r.data))

/-- RSP_RELEASE (R328). -/
def execRspRelease (r : RtReq) (s : State) : Host.Outcome State Fault Refusal :=
  s.run (fun b => b.access true (rtAcc r (ownBase r.src + 0x020) r.data))

/-- FN_RESET_WRITE (R375, R376): a write of `FN_RESET` with bit 0 set; the operator's window has no such register. -/
def execFnResetWrite (r : RtReq) (s : State) : Host.Outcome State Fault Refusal :=
  s.run (fun b => b.access true (rtAcc r (ownBase r.src + 0x200) (r.data ||| 1)))

/-- INT_STATUS_CLEAR (R371, R372). -/
def execIntStatusClear (r : RtReq) (s : State) : Host.Outcome State Fault Refusal :=
  s.run (fun b => b.access true (rtAcc r (ownBase r.src + 0x040) r.data))

/-- INT_ENABLE_WRITE (R371, R372). -/
def execIntEnableWrite (r : RtReq) (s : State) : Host.Outcome State Fault Refusal :=
  s.run (fun b => b.access true (rtAcc r (ownBase r.src + 0x044) r.data))

/-- Offset of a channel register. -/
def chanAddr (c o : Nat) : Nat := 0x50000 + 0x400 * c + o

/-- DOORBELL (R399). -/
def execDoorbell (ch : Fin 16) (r : RtReq) (s : State) : Host.Outcome State Fault Refusal :=
  s.run (fun b => b.access true (rtAcc r (chanAddr ch 0x018) r.data))

/-- RING_RESET (R396): a write of `ZERO_HEAD` 1. -/
def execRingReset (ch : Fin 16) (r : RtReq) (s : State) : Host.Outcome State Fault Refusal :=
  s.run (fun b => b.access true (rtAcc r (chanAddr ch 0x01C) (r.data ||| 1)))

/-- CHANNEL_ENABLE (R395): a write of `CH_CTRL` with `ENABLE` 1. -/
def execChannelEnable (ch : Fin 16) (r : RtReq) (s : State) : Host.Outcome State Fault Refusal :=
  s.run (fun b => b.access true (rtAcc r (chanAddr ch 0x000) (r.data ||| 1)))

/-- CHANNEL_DISABLE (R409): a write of `CH_CTRL` with `ENABLE` 0. -/
def execChannelDisable (ch : Fin 16) (r : RtReq) (s : State) : Host.Outcome State Fault Refusal :=
  s.run (fun b => b.access true (rtAcc r (chanAddr ch 0x000) (r.data &&& ~~~1)))

/-- CNT_CLEAR_TIME (R508, R510). -/
def execCntClearTime (r : RtReq) (s : State) : Host.Outcome State Fault Refusal :=
  s.run (fun b => b.access true (rtAcc r 0x40118 (r.data ||| 1)))

/-- CNT_CLEAR_MEAS (R508, R510). -/
def execCntClearMeas (r : RtReq) (s : State) : Host.Outcome State Fault Refusal :=
  s.run (fun b => b.access true (rtAcc r 0x40118 (r.data ||| 2)))

/-- CNT_CLEAR_REC (R508, R510). -/
def execCntClearRec (r : RtReq) (s : State) : Host.Outcome State Fault Refusal :=
  s.run (fun b => b.access true (rtAcc r 0x40118 (r.data ||| 4)))

/-- CNT_CLEAR_BUSERR (R508, R510). -/
def execCntClearBuserr (r : RtReq) (s : State) : Host.Outcome State Fault Refusal :=
  s.run (fun b => b.access true (rtAcc r 0x40118 (r.data ||| 8)))

/-- CNT_CLEAR_DEFER (R508, R510). -/
def execCntClearDefer (r : RtReq) (s : State) : Host.Outcome State Fault Refusal :=
  s.run (fun b => b.access true (rtAcc r 0x40118 (r.data ||| 16)))

/-- SNAP_RELEASE (R269): a write of the first header register with bit 3 set. -/
def execSnapRelease (r : RtReq) (s : State) : Host.Outcome State Fault Refusal :=
  s.run (fun b => b.access true (rtAcc r 0x70000 (r.data ||| 8)))

/-- SPLIT_LO_READ (R504, R505): a register read; that of a `_LO` register latches the rest of its value.
DEDUCED, log entry 49. -/
def execSplitLoRead (a : Acc) (s : State) : Host.Outcome State Fault Refusal := s.run (fun b => b.access false a)

/-- The access lies outside the rights of its source (R361, R302). -/
def accOutside (a : Acc) (we : Bool) : Bool :=
  decide (a.src.val > 64) || (match regAt (accOff a) with | some r => !r.allowed a.src we | none => false)

/-- ACCESS_OUTSIDE_RIGHTS (R362): the access takes place as this event only where it lies outside the rights. -/
def execAccessOutsideRights (we : Bool) (a : Acc) (s : State) : Host.Outcome State Fault Refusal :=
  s.run (fun b => if accOutside a we then b.access we a else b)

/-- REGISTER_WRITE (R504). -/
def execRegisterWrite (a : Acc) (s : State) : Host.Outcome State Fault Refusal := s.run (fun b => b.access true a)

/-- REGISTER_ACCESS_HELD (R23, R483): the access takes place as this event only while the front end holds accesses. -/
def execRegisterAccessHeld (we : Bool) (a : Acc) (s : State) : Host.Outcome State Fault Refusal :=
  s.run (fun b => if b.frontHolds then b.access we a else b)

end Sys2Proof.Machine
end

