-- ==== Sys2Proof/Machine/Startup.lean ====
section
/-! DEFINITION. Wakes, resets and start-up (R33, R43, R474, R476 to R484, R499): BLOCK_WAKE, Off, power-on reset, block
reset with its Quiesce, and the phases from Boot to Ready. -/

namespace Sys2Proof.Machine

/-! ### Block reset (R476 to R478) -/

/-- Every access that waits completes as R478 gives. -/
def Block.quietAll (b : Block) : Block :=
  let l := b.held
  let b := ({ b with held := [] }).each l (fun b x => b.quietAccess x.1 x.2.1)
  b.each allFns (fun b f =>
    let l := (b.port f).parked
    (b.modPort f (fun p => { p with parked := [] })).each l (fun b x => b.quietAccess x.1 x.2.1))

/-- Quiesce begins (R477): links say `BYE`, waiting accesses complete, channels issue nothing further. -/
def Block.beginQuiesce (b : Block) : Block :=
  ((b.allDown 0x0A).modPower (fun p => { p with quiesce := true, blkPend := false, waking := false })).quietAll

/-- BLOCK_RESET_REQUEST (R477, R484, R499, R503): `blk_rst_req` rises; below Run the block wakes first. -/
def execBlockResetRequest (s : State) : Host.Outcome State Fault Refusal :=
  s.run (fun b =>
    if b.power.goal == .off || b.power.quiesce || b.power.blkAck then b
    else if b.power.st == .run && (b.requestWake 3).power.goal == .run then (b.requestWake 3).beginQuiesce
    else (b.modPower (fun p => { p with blkPend := true })).requestWake 3)

/-- BLOCK_RESET_RELEASE (R499): the acknowledge falls with its request. -/
def execBlockResetRelease (s : State) : Host.Outcome State Fault Refusal :=
  s.run (fun b => b.modPower (fun p => { p with blkAck := false }))

/-- Cask pages of the fenced macros (R178, R476). -/
def fencedPages (fence : List Nat) : Tbl Page :=
  (fence.map (fun m => (upto 16).map (fun i => (16 * m + i, ({ st := .fenced } : Page))))).flatten

/-- What a tap keeps over a block reset (R90, R297, R476): counters and descriptors, its engine's levels, the ledger.
DEDUCED, log entry 52. -/
def Tap.blockReset (t : Tap) : Tap :=
  { clk := t.clk, lastMark := t.lastMark, ledgerLost := t.ledgerLost, drainReq := t.drainReq, drainCyc := t.drainCyc
    drainAck := t.drainAck, drainLost := t.drainLost, abandoned := t.abandoned, reqNext := t.reqNext
    cnt := tmap {} t.cnt (fun _ c => { c with pendC := false }), aoCycles := t.aoCycles, aoActive := t.aoActive
    cntLost := t.cntLost }

/-- What of a tap the block's power-on reset cannot change: its engine's levels. -/
def Tap.powerOn (t : Tap) : Tap :=
  { clk := t.clk, drainReq := t.drainReq, drainCyc := t.drainCyc, drainAck := t.drainAck, abandoned := t.abandoned
    reqNext := t.reqNext }

/-- A station's view of its taps after a reset: `a_tap` of the manufacturing test, engines that are down, and whether the
mirrors are to be loaded (R46, R298, R518). DEDUCED, log entry 52. -/
def Block.freshViews (b : Block) (mirror : Bool) : Tbl TapView :=
  (upto 2048).filterMap (fun t =>
    let v : TapView := { dTap := (b.view t).aTap, aTap := (b.view t).aTap, down := (b.tap t).drainAck, mirror := mirror || !b.present t }
    if v = {} then none else some (t, v))

/-- Functions after a block reset: each tenant's epoch has advanced, each owner's next page carries `EPOCH_FIRST`, and
`VER_FIRST` when the reset takes the owner from format 2.2 to 3.0 (R127, R149); inputs
and the acknowledges that answer them stay (R476, R499). -/
def Block.resetTenants (b : Block) (g : Gt) : Tbl Tenant :=
  (upto 65).map (fun n =>
    let t := b.tenant n
    (n, { tenantReset n with
      epoch := if n = 64 then t.epoch else (t.epoch + 1) % 256, epochFirst := true, verFirst := t.verFirst || t.fmt2
      locked := t.locked
      frAck := t.frAck || t.frPend, tokenGt := g }))

/-- The units of the operator that wait in the stations and quadrants: its epoch does not advance, so that a block reset
discards them at once (R28, R476). DESIGN CHOICE, log entry 92. -/
def Block.operatorUnits (b : Block) : Nat :=
  let n (us : List WUnit) : Nat := (us.filter (fun u => u.owner == 64)).length
  (b.stations.map (fun e => n e.2.uq)).foldl (· + ·) 0 +
    (b.quads.map (fun e => n e.2.recIn + n e.2.recTail)).foldl (· + ·) 0

/-- The tenants' units of a list: they wait for admission, where their old epoch has them discarded and counted (R28). -/
def tenantUnits (us : List WUnit) : List WUnit := us.filter (fun u => decide (u.owner < 64))

/-- At a block reset the open images close ABORTED, the packers close their open units, and the tap chains drain into the
ledger (R28, R92, R447). -/
def Block.lastUnits (b : Block) : Block :=
  let b := b.abortImages.buildLog.each allStations (fun b st => b.each (upto 65) (fun b o => b.closeOwnerRaw st o))
  b.each ((b.taps.filter (fun e => e.2.en || !e.2.chain.isEmpty || e.2.tapLost != 0)).map Prod.fst) (fun b n => b.drainChain n)

/-- The records that wait to be offered, those of closed tensors after the others (R17). DEDUCED, log entry 52. -/
def Block.waitingRecs (b : Block) : List Rec := b.recs ++ (b.assay.units.map (fun e => e.2.closed.flatten)).flatten

/-- The operator's units and records that wait: a block reset discards them. DESIGN CHOICE, log entry 92. -/
def Block.operatorLost (b : Block) : Nat := b.operatorUnits + (b.waitingRecs.filter (fun r => r.owner == 64)).length

/-- What a block reset leaves of the block's state (R476): the tenants' units and records that were queued stay queued under their
old epochs (R28). DEDUCED, log entry 52. -/
def Block.reborn (b : Block) : Block :=
  let m := b.meas
  let p := b.power
  let t := b.time
  { taps := tmap {} b.taps (fun _ t => t.blockReset)
    views := b.freshViews false
    stations := tmap {} b.stations (fun _ s => { uq := tenantUnits s.uq })
    quads := tmap {} b.quads (fun _ q => { recIn := tenantUnits q.recIn, recTail := tenantUnits q.recTail })
    recs := b.waitingRecs.filter (fun r => decide (r.owner < 64))
    mash := { tokenGt := b.gt }
    cask := {
      pages := fencedPages b.cask.fence, fence := b.cask.fence
      epochDiscard := b.operatorLost }
    sync := { snap := if b.sync.snap.st == .valid then
        { b.sync.snap with overwrite := false, autoKnot := false, autoNoprog := false, lead := 4 } else {} }
    tenants := b.resetTenants b.gt
    hop := { uid := b.hop.uid }
    meas := {
      ring := m.ring, built := m.built, taken := m.taken, logDigest := m.logDigest, gap := m.gap, patchRam := m.patchRam
      quotePend := m.quotePend, quoteAck := m.quoteAck, quoteDigest := m.quoteDigest, quoteSeq := m.quoteSeq
      ifrAck := m.ifrAck, ifrData := m.ifrData }
    power := {
      low := p.low, brewReq := true, brewGnt := p.brewGnt, clkReq := true, clkGnt := p.clkGnt, retGnt := p.retGnt
      phase := b2n (p.brewGnt && p.clkGnt && !p.low), blkAck := p.brewGnt && p.clkGnt && !p.low
      blkPend := !(p.brewGnt && p.clkGnt && !p.low), warm := true, faultCause := p.faultCause
      restarts := p.restarts, patchAddr := p.patchAddr, patchLen := p.patchLen }
    time := ({ tb := t.tb, rate := t.rate, aonGt := b.gt, regions := t.regions, regionAon := t.regionAon
               strobeNum := t.strobeNum } : Time).syncRegions
    absent := b.absent, regionOf := b.regionOf, out := b.out, freeCtr := b.freeCtr }

/-- The block after a block reset (R476); discards of the operator's units count as a loss (R509).
DEDUCED, log entry 52; DESIGN CHOICE, log entry 92. -/
def Block.afterReset (b : Block) : Block :=
  let b := b.lastUnits
  if b.operatorLost = 0 then b.reborn else b.reborn.loss 6

/-- No write on the memory initiator is without its response. -/
def Block.writesDone (b : Block) : Bool :=
  b.sparge.chans.all (fun e => e.2.flight.isEmpty) && b.sparge.scrubs.all (fun h => h.flight.isEmpty) &&
    b.sparge.orphans.isEmpty

/-- QUIESCE_END (R477, R499): every outstanding write response has returned; the reset acts and Boot begins.
DEDUCED, log entry 52. -/
def execQuiesceEnd (s : State) : Host.Outcome State Fault Refusal :=
  s.run (fun b =>
    if b.power.quiesce && b.writesDone then b.afterReset else b)

/-! ### Off and power-on reset (R474, R476, R480) -/

/-- The block with everything lost (R476): straps, input levels and what it has presented so far stay. -/
def Block.cold (b : Block) (p : Power) (uid : Nat) : Block :=
  { taps := tmap {} b.taps (fun _ t => t.powerOn), views := b.freshViews true
    tenants := (upto 64).filterMap (fun n => if (b.tenant n).locked then some (n, { tenantReset n with locked := true }) else none)
    power := p, hop := { uid := uid }
    time := ({ regions := b.time.regions, regionAon := b.time.regionAon } : Time).syncRegions
    absent := b.absent, regionOf := b.regionOf, out := b.out, freeCtr := b.freeCtr }

/-- The block shuts down (R474): channels stop and write back nothing further, links say `BYE` and lose their keys, the taps'
enables fall, and a wake or a start-up phase is abandoned (R484). -/
def Block.shutDown (b : Block) : Block :=
  let b := b.modPower (fun p => { p with goal := .off, waking := false })
  let b := b.each (upto 16) (fun b c =>
    if (b.chan c).st == .halted || (b.chan c).st == .disabled then b else b.stopChan c .disable 2 true)
  b.allDown 0x0A

/-- Off is reached and granted once no response is outstanding on the memory initiator (R409, R474).
DEDUCED, log entry 52. -/
def Block.offStep (b : Block) : Block :=
  if b.power.goal == .off && b.power.st != .off && b.writesDone &&
      b.sparge.chans.all (fun e => !e.2.descRead && !e.2.idxRead)
  then b.cold { st := .off, goal := .off, brewReq := false, clkReq := false, offGnt := true } b.hop.uid
  else b

/-- OFF_REQUEST (R474, R498): the block shuts down and grants; the grant falls with the request.
DEDUCED, log entry 52. -/
def execOffRequest (level : Bool) (s : State) : Host.Outcome State Fault Refusal :=
  s.run (fun b =>
    if !level then b.modPower (fun p => { p with offGnt := false })
    else if b.power.st == .off then b
    else if b.power.goal == .off then b.offStep
    else b.shutDown.offStep)

/-- POWER_ON_RESET (R480, R502): `por_n` is released with the straps as given; start-up begins at PowerUp. -/
def execPowerOnReset (uid : BitVec 48) (patchAddr : BitVec 64) (patchLen : BitVec 19) (s : State) :
    Host.Outcome State Fault Refusal :=
  s.run (fun b => b.cold { patchAddr := patchAddr.toNat, patchLen := patchLen.toNat } uid.toNat)

/-! ### Wakes (R23, R33, R43, R49, R375, R456, R468) -/

/-- The brew domain reaches Run. -/
def Block.reachRun (b : Block) : Block :=
  let b := if (b.power.st == .nap || b.power.st == .kiln) && b.time.loadNext then
      b.modTime (fun t => { t with tb := t.aonGt * 2 ^ 24 }) else b
  let g := b.time.tb / 2 ^ 24
  let b := b.modPower (fun p => { p with
    st := .run, goal := .run, waking := false, retReq := p.retReq && !p.retGnt, wakeTimer := none, wakeGt := g, lowAsked := false })
  let b := (b.realign.regionCatchUp).wakeStrobes
  let b := b.lateQuote.beginWaiting
  let b := b.completeHeld
  if b.power.blkPend then b.beginQuiesce else b

/-- BLOCK_WAKE (R43, R468, R469): from Nap and Kiln once supply and clock are granted again and the time
base is locked. DEDUCED, log entry 53. -/
def execBlockWake (s : State) : Host.Outcome State Fault Refusal :=
  s.run (fun b =>
    let p := b.power
    if p.waking && p.goal == .run &&
        (p.st == .doze || ((p.st == .nap || p.st == .kiln) && p.brewGnt && p.clkGnt && b.time.locked)) then b.reachRun
    else b)

/-! ### Start-up phases (R480 to R483) -/

/-- The reads that fetch `n` bytes from address `a`, each within one 128-byte line (R481, R492).
DEDUCED, log entry 53. -/
def patchReads : Nat → Nat → Nat → Nat → List Out
  | 0, _, _, _ => []
  | fuel + 1, k, a, n =>
    if n = 0 then []
    else
      let m := min n (128 - a % 128)
      .memRead 0 (1024 + k % 64) a m :: patchReads fuel (k + 1) (a + m) (n - m)

/-- BOOT_END (R456, R480, R483): held accesses complete, a quote request that waited is answered, and after power-on the patch image is fetched (R481). -/
def execBootEnd (s : State) : Host.Outcome State Fault Refusal :=
  s.run (fun b =>
    if b.power.phase ≠ 1 || b.power.quiesce then b
    else
      let p := b.power
      let b := (b.modPower (fun p => { p with phase := 2 })).completeHeld.lateQuote
      if p.warm || p.patchLen > 262144 then b
      else { b with out := b.out ++ patchReads 2049 0 p.patchAddr p.patchLen })

/-- The header check of R481. -/
def patchOk (len : Nat) (image : List Byte) : Bool :=
  decide (len ≤ 262144) && leNat (image.take 4) == 0x544C414D && leNat (image.drop 4 |>.take 4) == len &&
    leNat (image.drop 8 |>.take 2) == Config.romLevel.toNat % 2 ^ 16 && decide (10 ≤ image.length)

/-- The patch RAM is measured and Patch ends (R453, R480). -/
def Block.patchDone (b : Block) (state : Nat) (ram : List Byte) : Block :=
  ((b.modPower (fun p => { p with phase := 3, patchState := state })).modMeas (fun m => { m with patchRam := ram })
    ).firmwareEntry ram

/-- PATCH_FETCH_DONE (R453, R480, R481): the image is accepted or cleared, and measured; after a block reset the kept image
is measured again. DEDUCED, log entry 53. -/
def execPatchFetchDone (image : List Byte) (err : Bool) (s : State) : Host.Outcome State Fault Refusal :=
  s.run (fun b =>
    let p := b.power
    if p.phase ≠ 2 || p.quiesce then b
    else if p.warm then b.patchDone (if b.meas.patchRam.isEmpty then 0 else 1) b.meas.patchRam
    else if p.patchLen = 0 then b.patchDone 0 []
    else if p.patchLen > 262144 then b.patchDone 2 []
    else if err then b.patchDone 3 []
    else
      let img := padTo p.patchLen image
      if patchOk p.patchLen img then b.patchDone 1 img else b.patchDone 2 [])

/-- SELFTEST_END (R179, R480, R482): failed macros are fenced, failed Assay units held; a failure of the Mash array, the
sync watch tables or the working store stops start-up. DESIGN CHOICE, log entry 71. -/
def execSelftestEnd (macros : List (Fin 512)) (mash shadow store : Bool) (assay : BitVec 16) (s : State) :
    Host.Outcome State Fault Refusal :=
  s.run (fun b =>
    if b.power.phase ≠ 3 || b.power.quiesce || b.dead then b
    else
      let b := b.each macros (fun b m => b.fenceMacro m)
      b.modPower (fun p => { p with
        stMash := mash, stShadow := shadow, stStore := store, assayFailed := assay.toNat
        phase := if mash || shadow || store then 3 else 4 }))

/-- Every present tap whose engine is powered is among those measured (R480). -/
def Block.allTrips (b : Block) (trips : List (Fin 2048 × Nat)) : Bool :=
  (upto 2048).all (fun t => trips.any (fun x => x.1.val == t) || !b.present t || (b.tap t).drainAck)

/-- CALIBRATE_END (R33, R46, R298, R427, R480): the time base is locked, every tap whose engine is powered is measured and its
mirror loaded; hop ports train and discovery starts. DEDUCED, log entry 53. -/
def execCalibrateEnd (trips : List (Fin 2048 × Nat)) (s : State) : Host.Outcome State Fault Refusal :=
  s.run (fun b =>
    if b.power.phase ≠ 4 || b.power.quiesce || !b.time.locked || !b.allTrips trips then b
    else
      let b := b.each trips (fun b x =>
        let t := x.1.val
        if b.present t && !(b.tap t).drainAck then (b.measureTap t x.2).loadMirror t else b)
      let b := (b.modPower (fun p => { p with phase := 5, serveGt := b.gt })).modTime (fun t => { t with
        calEnd := b.gt, tcalDue := b.gt + ms t.tcalMs })
      (b.each allPorts (fun b p => b.train p)).startDiscovery 0)

/-- START_READY (R480): discovery is Ready, or 1 ms of Serve has passed with no link Up. -/
def execStartReady (s : State) : Host.Outcome State Fault Refusal :=
  s.run (fun b =>
    if b.power.phase = 5 && !b.power.quiesce && (b.hop.disc == 6 || (!b.anyUp && decide (b.power.serveGt + ms 1 ≤ b.gt))) then
      b.modPower (fun p => { p with phase := 6 })
    else b)

end Sys2Proof.Machine
end

