-- ==== Sys2Proof/Machine/CatSession.lean ====
section
/-! DEFINITION. The session, tap, context and station commands of the catalogue (R339 to R341), one entry each. -/

namespace Sys2Proof.Machine

/-! ### What the entries share -/

/-- `DONE` without result words. -/
def ok (b : Block) : Reply × Block := (.done stDone [], b)

/-- `DONE` with result words. -/
def okW (ws : List Word) (b : Block) : Reply × Block := (.done stDone ws, b)

/-- A status without effect. -/
def fails (st : Nat) (b : Block) : Reply × Block := (.done st [], b)

/-- The owner written in an operator's parameters is 0 to 64; a tenant's owner bits are ignored (R335). -/
def Call.ownerOk (c : Call) (o : Nat) : Bool := c.f != 64 || decide (o ≤ 64)

/-- The bits of `mask` taken from `new`, the others from `old` (R335). DEDUCED, log entry 54. -/
def mix (old new mask : Word) : Word := (old &&& ~~~mask) ||| (new &&& mask)

/-- The operator writes an owner field: it takes the resource from the old owner and names the new one (R462).
DEDUCED, log entry 54. -/
def Block.touchOwners (b : Block) (c : Call) (old new : Nat) : Block :=
  if c.f = 64 then (if old = new then b.cfgTouch new else (b.cfgTouch old).cfgTouch new) else b

/-- A `gt` as the three words of R338. -/
def gtWords (g : Gt) : List Word := [w32 g, w32 (g / 2 ^ 32), w32 (nfld g 64 8)]

/-! ### Session and version (R339) -/

/-- NEGOTIATE (R317). -/
def cmdNegotiate : Cmd where
  priv := .all
  lo := 1
  hi := 1
  res := fun _ => 2
  body := fun c b =>
    if c.fld 0 0 8 ≤ 4 && 4 ≤ c.fld 0 8 8 then
      okW [w32 0x040404, w32 (pack [(8, c.f), (12, b.hop.nodeId)])] (b.modPort c.f (fun p => { p with negotiated := true }))
    else fails stVersion b

/-- SESSION_SET (R325). -/
def cmdSessionSet : Cmd where
  priv := .all
  lo := 1
  hi := 1
  res := fun _ => 0
  body := fun c b => ok (b.modPort c.f (fun p => { p with stallNs := c.fld 0 0 16 }))

/-- Stations with a present tap. DEDUCED, log entry 55. -/
def Block.stationsPresent (b : Block) : Nat := (allStations.filter (fun st => (tapsOf st).any b.present)).length

/-- IDENTIFY (R339). DESIGN CHOICE, log entry 5. -/
def cmdIdentify : Cmd where
  priv := .all
  lo := 0
  hi := 0
  res := fun _ => 4
  body := fun _ b =>
    let level := if b.meas.patchRam.isEmpty then 0 else (Config.patchLevel b.meas.patchRam).toNat
    okW [w32 (pack [(16, 0xEC04), (8, Config.siliconStep.toNat)])
       , w32 (pack [(12, 2048 - b.absent.length), (6, b.stationsPresent)])
       , w32 b.usable
       , w32 (pack [(16, Config.romLevel.toNat), (16, level)])] b

/-- NOP (R339). -/
def cmdNop : Cmd where
  priv := .all
  lo := 0
  hi := 0
  res := fun _ => 0
  body := fun _ b => ok b

/-! ### Taps and contexts (R340) -/

/-- TAP_SET (R21, R92, R281): a tap that is not present has nothing to set. DEDUCED, log entry 55. -/
def cmdTapSet : Cmd where
  priv := .op
  lo := 2
  hi := 2
  res := fun _ => 0
  body := fun c b =>
    let n := c.fld 0 0 11
    if !b.present n then ok b
    else
      let on := bit (c.w 1) 1
      let b := b.modView n (fun v => { v with aEn := on })
      ok (b.modTap n (fun t => { t with
        use := bit (c.w 1) 0, cfg := t.cfg ++ [.aEnable on], badClass := t.badClass && !bit (c.w 1) 2 }))

/-- TAP_STATUS (R340); a tap that is not present reads zero. DEDUCED, log entry 55. -/
def cmdTapStatus : Cmd where
  priv := .op
  lo := 1
  hi := 1
  res := fun _ => 3
  body := fun c b =>
    let n := c.fld 0 0 11
    let t := b.tap n
    let w0 := pack [(1, b2n t.en), (1, b2n t.aEnable), (1, b2n t.badClass), (1, b2n (b.view n).down), (2, t.clk),
      (6, t.chain.length)]
    let b' := if c.clear then b.modTap n (fun t => { t with ledgerLost := 0 }) else b
    if b.present n then okW [w32 w0, w32 t.ledgerLost, w32 t.tapLost] b' else okW [0, 0, 0] b

/-- The context belongs to the caller (R340). -/
def ownsCtx (c : Call) (b : Block) : Bool := b.ctxTenant (c.fld 0 0 12) == some c.f

/-- The owner of a context entry: its tenant, or the operator's pool (64) while it is not mapped. -/
def ctxOwner (w : Word) : Nat := if ctxValid w then ctxTenantOf w else 64

/-- CTX_WRITE (R95, R335): with a new tenant `CLASSES` and `INTEREST` return to 0 (R369). DEDUCED, log entry 54. -/
def cmdCtxWrite : Cmd where
  priv := .own
  lo := 2
  hi := 2
  res := fun _ => 0
  owns := ownsCtx
  body := fun c b =>
    let n := c.fld 0 0 12
    let old := b.ctxEntry n
    let new := if c.f ≠ 64 then mix old (c.w 1) 0x00FF0000#32
      else if ctxTenantOf (c.w 1) = ctxTenantOf old then c.w 1 &&& 0xFFFF0000#32 else c.w 1 &&& 0xFF000000#32
    ok (({ b with ctxs := tset 0 b.ctxs n new } : Block).touchOwners c (ctxOwner old) (ctxOwner new))

/-- CTX_READ (R340). -/
def cmdCtxRead : Cmd where
  priv := .own
  lo := 1
  hi := 1
  res := fun _ => 1
  owns := ownsCtx
  body := fun c b => okW [b.ctxEntry (c.fld 0 0 12)] b

/-! ### Stations and triggers (R341) -/

/-- Station named in w0. -/
def Call.st (c : Call) : Nat := c.fld 0 0 5

/-- A Lauter rule (R101). -/
def Block.rule (b : Block) (st k : Nat) : List Word := tget ruleReset (b.station st).rules k

/-- Owner of a rule. -/
def ruleOwner (r : List Word) : Nat := fld (r.getD 0 0) 22 7

/-- The rule named in w0 belongs to the caller. -/
def ownsRule (c : Call) (b : Block) : Bool := ruleOwner (b.rule c.st (c.fld 0 8 4)) == c.f

/-- LAUTER_WRITE (R101, R335): with a new owner every other field of the rule returns to 0 (R369).
DEDUCED, log entry 54. -/
def cmdLauterWrite : Cmd where
  priv := .own
  lo := 6
  hi := 6
  res := fun _ => 0
  range := fun c => c.ownerOk (c.fld 1 22 7)
  owns := ownsRule
  body := fun c b =>
    let k := c.fld 0 8 4
    let old := b.rule c.st k
    let w0 := if c.f = 64 then c.w 1 &&& 0x1FFFFFFF#32 else mix (old.getD 0 0) (c.w 1) 0x003FFFFF#32
    let new := if fld w0 22 7 = ruleOwner old then [w0, c.w 2 &&& 0x00FFFFFF#32, c.w 3, c.w 4, c.w 5 &&& 0x003F003F#32]
      else [w0 &&& 0x1FC00000#32, 0, 0, 0, 0]
    let b := b.modStation c.st (fun s => { s with rules := tset ruleReset s.rules k new })
    ok (b.touchOwners c (ruleOwner old) (ruleOwner new))

/-- LAUTER_READ (R341). -/
def cmdLauterRead : Cmd where
  priv := .own
  lo := 1
  hi := 1
  res := fun _ => 5
  owns := ownsRule
  body := fun c b => okW (b.rule c.st (c.fld 0 8 4)) b

/-- LAUTER_DEFAULT (R103). -/
def cmdLauterDefault : Cmd where
  priv := .own
  lo := 1
  hi := 1
  res := fun _ => 0
  range := fun c => decide (c.fld 0 8 7 ≤ 64)
  owns := fun c _ => c.fld 0 8 7 == c.f
  body := fun c b =>
    let o := c.fld 0 8 7
    ok (b.modStation c.st (fun s => { s with
      defExclude := if bit (c.w 0) 16 then s.defExclude.filter (· != o)
        else if s.defExclude.contains o then s.defExclude else insertBy (fun x y => decide (x < y)) o s.defExclude }))

/-- The sequencer named in w0 belongs to the caller. -/
def ownsSeq (c : Call) (b : Block) : Bool := (b.station c.st).seq.owner == c.f

/-- The fields of a comparator are not reserved ones (R106, R107, R334): `MODE` 3, and `SOURCE` above 5. -/
def cmpRange (c : Call) : Bool :=
  decide (c.fld 1 2 2 ≤ 2) && decide (c.fld 1 4 4 ≤ 5) && !classReserved (c.fld 1 8 4)

/-- CMP_WRITE (R106, R108). -/
def cmdCmpWrite : Cmd where
  priv := .own
  lo := 7
  hi := 7
  res := fun _ => 0
  range := cmpRange
  owns := ownsSeq
  body := fun c b =>
    let ws := [c.w 1 &&& 0x0FFFFFFF#32, c.w 2 &&& 0x00FFFFFF#32, c.w 3, c.w 4, c.w 5, c.w 6 &&& 0x0000FFFF#32]
    ok (b.modSeq c.st (fun q => { q with comps := tset {} q.comps (c.fld 0 8 3) { w := ws } }))

/-- The sequencer with the control fields of SEQ_CONTROL (R109, R341). -/
def Sequencer.control (q : Sequencer) (c : Call) : Sequencer :=
  let m (k lo : Nat) : Nat × Bool := (c.fld k lo 8, bit (c.w k) (lo + 8))
  { q with
    en := bit (c.w 0) 8
    autoRearm := bit (c.w 0) 9
    idleCapture := bit (c.w 0) 10
    xtrigOut := bit (c.w 0) 11
    postInterest := c.fld 0 12 2
    postUnits := c.fld 0 16 16
    startMask := (m 1 0).1, startAnd := (m 1 0).2, trigMask := (m 1 16).1, trigAnd := (m 1 16).2
    stopMask := (m 2 0).1, stopAnd := (m 2 0).2, rearmMask := (m 2 16).1, rearmAnd := (m 2 16).2 }

/-- SEQ_CONTROL (R104, R109, R111, R166). DESIGN CHOICE, log entry 84. -/
def cmdSeqControl : Cmd where
  priv := .own
  lo := 3
  hi := 3
  res := fun _ => 0
  owns := ownsSeq
  body := fun c b =>
    let q := (b.station c.st).seq
    let q' := q.control c
    if q'.en && decide (b.quotaOf q.owner < cdiv q'.postUnits 63 + 1) then fails stBadParam b
    else if !q'.en then
      let b := b.modSeq c.st (fun _ => { q'.goto .idle with postLeft := 0 })
      ok (if q.st == .post then b.seqLeft q.owner else b)
    else if !q.en && q.st == .idle && q'.startMask = 0 then ok (b.modSeq c.st (fun _ => q'.goto .armed))
    else ok (b.modSeq c.st (fun _ => q'))

/-- SEQ_REARM (R111, R169). -/
def cmdSeqRearm : Cmd where
  priv := .own
  lo := 1
  hi := 1
  res := fun _ => 1
  owns := ownsSeq
  body := fun c b =>
    let b := if (b.station c.st).seq.st == .hold then b.rearm c.st else b
    okW [w32 (b.station c.st).seq.st.code] b

/-- SEQ_STATUS (R341). -/
def cmdSeqStatus : Cmd where
  priv := .own
  lo := 1
  hi := 1
  res := fun _ => 4
  owns := ownsSeq
  body := fun c b =>
    let q := (b.station c.st).seq
    let b := if c.clear then b.modSeq c.st (fun q => { q with trigCount := 0, trigIgnored := 0, suppress := 0 }) else b
    okW [w32 (pack [(2, q.st.code), (1, b2n q.en), (7, q.owner), (6, 0), (16, q.postLeft)]), w32 q.trigCount
       , w32 q.trigIgnored, w32 q.suppress] b

/-- SEQ_OWNER (R104, R369): a new owner finds nothing of the old one's settings. DEDUCED, log entry 54. -/
def cmdSeqOwner : Cmd where
  priv := .op
  lo := 1
  hi := 1
  res := fun _ => 0
  range := fun c => decide (c.fld 0 8 7 ≤ 64)
  body := fun c b =>
    let o := c.fld 0 8 7
    let old := (b.station c.st).seq.owner
    let b' := if o = old then b
      else (b.seqOff c.st).modSeq c.st (fun q => {
        owner := o, trigCount := q.trigCount, trigIgnored := q.trigIgnored, suppress := q.suppress })
    ok (b'.touchOwners c old o)

/-- STREAM_FORMAT (R149). -/
def cmdStreamFormat : Cmd where
  priv := .own
  lo := 1
  hi := 1
  res := fun _ => 0
  range := fun c => decide (c.fld 0 0 7 ≤ 64)
  owns := fun c _ => c.fld 0 0 7 == c.f
  body := fun c b => ok (b.setFormat (c.fld 0 0 7) (bit (c.w 0) 8))

/-- STATION_COUNTERS (R115, R341). -/
def cmdStationCounters : Cmd where
  priv := .own
  lo := 1
  hi := 1
  res := fun _ => 4
  range := fun c => decide (c.fld 0 8 7 ≤ 64)
  owns := fun c _ => c.fld 0 8 7 == c.f
  body := fun c b =>
    let s := b.station c.st
    let o := c.fld 0 8 7
    let b := if c.clear then
        b.modStation c.st (fun s => { s with reject := tdel s.reject o, noContext := 0, unitDrop := 0, wakeLost := 0 })
      else b
    okW (w32 (tget 0 s.reject o) ::
      (if c.f = 64 then [w32 s.noContext, w32 s.unitDrop, w32 s.wakeLost] else [0, 0, 0])) b

end Sys2Proof.Machine
end

