-- ==== Sys2Proof/Machine/CatCask.lean ====
section
/-! DEFINITION. The cask, sparge and tenant commands of the catalogue (R342, R343, R349 to R351), one entry each. -/

namespace Sys2Proof.Machine

/-! ### Cask (R342, R343) -/

/-- The owner in w0 [6:0] exists. -/
def owner0Ok (c : Call) : Bool := decide (c.fld 0 0 7 ≤ 64)

/-- The owner in w0 [6:0] is the caller. -/
def owner0Mine (c : Call) (_b : Block) : Bool := c.fld 0 0 7 == c.f

/-- CASK_MODE (R163): a `STREAM_FLUSH` of 0 keeps the value. -/
def cmdCaskMode : Cmd where
  priv := .own
  lo := 2
  hi := 2
  res := fun _ => 0
  range := fun c => owner0Ok c && c.fld 0 8 2 != 3 && decide (c.fld 1 0 14 ≤ 10000)
  owns := owner0Mine
  body := fun c b =>
    let o := c.fld 0 0 7
    let us := c.fld 1 0 14
    ok ((b.setMode o (c.fld 0 8 2)).modTenant o (fun t => { t with flushUs := if us = 0 then t.flushUs else us }))

/-- CASK_DRAIN (R343): a tenant names itself and a channel bound to it; a Disabled channel drains nothing of it (R409). -/
def cmdCaskDrain : Cmd where
  priv := .own
  long := fun _ => true
  lo := 3
  hi := 3
  res := fun _ => 2
  range := owner0Ok
  owns := fun c b => owner0Mine c b && (b.chan (c.fld 0 8 4)).owner == c.f
  body := fun c b =>
    let o := c.fld 0 0 7
    let named := (b.pagesOf o (fun p => p.epoch == b.epochOf o && (p.st == .full || p.st == .held) &&
      (bit (c.w 0) 12 || (decide ((c.w 1).toNat ≤ p.pageSeq) && decide (p.pageSeq ≤ (c.w 2).toNat))))).map (fun e => e.2.oseq)
    let k := c.fld 0 8 4
    if named.isEmpty then okW [0, 0] b
    else (.long (.caskDrain o (if (b.chan k).st == .disabled then drainNone else k) named 0 0), b)

/-- CASK_RELEASE (R169). -/
def cmdCaskRelease : Cmd where
  priv := .own
  lo := 1
  hi := 1
  res := fun _ => 0
  range := owner0Ok
  owns := owner0Mine
  body := fun c b => ok (b.holdEnd (c.fld 0 0 7))

/-- CASK_STATUS (R175, R342): w4 to w6 read zero for a tenant. DEDUCED, log entry 76. -/
def cmdCaskStatus : Cmd where
  priv := .own
  lo := 1
  hi := 1
  res := fun _ => 7
  range := owner0Ok
  owns := owner0Mine
  body := fun c b =>
    let o := c.fld 0 0 7
    let t := b.tenant o
    let ws := [w32 (pack [(14, b.heldOf o), (2, 0), (14, b.quotaOf o), (2, t.mode)])
      , w32 (pack [(14, t.trigTrunc), (2, 0), (1, b2n t.caskHold)]), w32 t.trigOldest, w32 t.rsvShort]
    let b := if c.clear then b.modTenant o (fun t => { t with rsvShort := 0, evicted := 0, refused := 0, pageLost := 0 }) else b
    okW (ws ++ (if c.f = 64 then [w32 t.evicted, w32 t.refused, w32 t.pageLost] else [0, 0, 0])) b

/-- Pages in the free pool. -/
def Block.freePages (b : Block) : Nat := 8192 - (b.cask.pages.filter (fun e => e.2.st != .free)).length

/-- CASK_POOL (R175, R342). -/
def cmdCaskPool : Cmd where
  priv := .op
  lo := 1
  hi := 1
  res := fun _ => 3
  body := fun c b =>
    let k := b.cask
    let b' := if c.clear then b.modCask (fun k => { k with epochDiscard := 0, uePages := 0 }) else b
    okW [w32 (pack [(14, b.freePages), (2, 0), (14, b.usable)]), w32 k.epochDiscard, w32 k.uePages] b'

/-- CASK_FENCE_READ (R179, R342). -/
def cmdCaskFenceRead : Cmd where
  priv := .op
  lo := 0
  hi := 0
  res := fun _ => 16
  body := fun _ b =>
    okW ((upto 16).map (fun k => w32 (maskOf ((b.cask.fence.filter (fun m => m / 32 == k)).map (fun m => m % 32))))) b

/-- CASK_MACRO (R176, R342). -/
def cmdCaskMacro : Cmd where
  priv := .op
  lo := 1
  hi := 1
  res := fun _ => 1
  body := fun c b =>
    let m := c.fld 0 0 9
    okW [w32 (tget 0 b.cask.ce m)] (if c.clear then b.modCask (fun k => { k with ce := tset 0 k.ce m 0 }) else b)

/-- CASK_PATROL (R177). -/
def cmdCaskPatrol : Cmd where
  priv := .op
  lo := 1
  hi := 1
  res := fun _ => 0
  range := fun c => decide (100 ≤ c.fld 0 0 16) && decide (c.fld 0 0 16 ≤ 60000)
  body := fun c b => ok (b.modCask (fun k => { k with patrolMs := c.fld 0 0 16 }))

/-! ### Sparge (R349) -/

/-- A page is Draining on the channel. -/
def Channel.draining (x : Channel) : Bool := x.page.isSome || !x.lagging.isEmpty

/-- SPARGE_BIND (R359, R413, R432). DEDUCED, log entry 60. -/
def cmdSpargeBind : Cmd where
  priv := .op
  lo := 2
  hi := 2
  res := fun _ => 0
  range := fun c => decide (c.fld 0 4 7 ≤ 64) && c.fld 0 12 2 != 3
  body := fun c b =>
    let k := c.fld 0 0 4
    let old := (b.chan k).owner
    let o := c.fld 0 4 7
    if (b.chan k).draining then fails stBusy b
    else
      let b := ((b.partialDrains k drainNone).modChan k (fun x => { x with
        owner := o, target := c.fld 0 12 2, sink := c.fld 1 0 12, sinkGen := b.hop.gen })).settleDrains
      ok (b.touchOwners c old o)

/-- SPARGE_STATUS (R396, R349). -/
def cmdSpargeStatus : Cmd where
  priv := .own
  lo := 1
  hi := 1
  res := fun _ => 4
  owns := fun c b => (b.chan (c.fld 0 0 4)).owner == c.f
  body := fun c b =>
    let k := c.fld 0 0 4
    let x := b.chan k
    let b := if c.clear then b.modChan k (fun x => { x with pagesMoved := 0, bytesMoved := 0 }) else b
    okW [w32 (pack [(2, x.st.code), (2, 0), (7, x.owner)]), w32 x.pagesMoved, w32 x.bytesMoved, w32 (x.bytesMoved / 2 ^ 32)] b

/-- SPARGE_RESUME (R408). -/
def cmdSpargeResume : Cmd where
  priv := .op
  lo := 1
  hi := 1
  res := fun _ => 0
  body := fun c b =>
    let k := c.fld 0 0 4
    if (b.chan k).st == .halted then
      ok (b.modChan k (fun x => { x with st := if (b.chanPages k).isEmpty then .idle else .running }))
    else fails stBadParam b

/-! ### Tenants (R350, R351) -/

/-- The owner and the field of TENANT_SET and TENANT_GET (R351). -/
def fieldOk (c : Call) : Bool :=
  let o := c.fld 0 0 7
  let k := c.fld 0 8 8
  decide (o ≤ 64) && decide (k ≤ 5) && (o != 64 || k == 0 || k == 2)

/-- The range of a field's value (R351, R371). -/
def fieldRange (c : Call) : Bool :=
  let v := (c.w 1).toNat
  match c.fld 0 8 8 with
  | 0 => decide (v ≤ 255)
  | 1 => decide (v ≤ 8192)
  | 2 => decide (v ≤ 320)
  | 3 => decide (v ≤ 256)
  | 4 => decide (1 ≤ v) && decide (v ≤ 256)
  | _ => decide (c.fld 1 0 16 ≤ 20000) && c.fld 1 16 8 != 0

/-- Writes a quota field (R171, R363, R364). -/
def Block.setField (b : Block) (o k : Nat) (w : Word) : Block :=
  let v := w.toNat
  match k with
  | 0 => b.modTenant o (fun t => { t with qos := v })
  | 1 =>
    let was := b.quotaOf o
    let opWas := b.quotaOf 64
    ((b.modTenant o (fun t => { t with quota := v })).quotaCut o was).quotaCut 64 opWas
  | 2 =>
    let was := (b.tenant o).budget
    let b := (b.modTenant o (fun t => { t with budget := v })).reallow
    if v < was then b.raise o 3 else b
  | 3 => b.modTenant o (fun t => { t with poolMin := v })
  | 4 => b.modTenant o (fun t => { t with poolMax := v })
  | _ => b.modTenant o (fun t =>
      let g := t.gain b.gt
      { t with tokens := min g.1 (1024 * fld w 16 8), tokenGt := g.2, intRate := fld w 0 16, intBurst := fld w 16 8 })

/-- TENANT_SET (R351, R363). -/
def cmdTenantSet : Cmd where
  priv := .op
  lo := 2
  hi := 2
  res := fun _ => 0
  range := fun c => fieldOk c && fieldRange c
  body := fun c b =>
    let o := c.fld 0 0 7
    let k := c.fld 0 8 8
    let v := (c.w 1).toNat
    if (k == 3 && decide ((b.tenant o).poolMax < v)) || (k == 4 && decide (v < (b.tenant o).poolMin)) then fails stBadParam b
    else ok ((b.setField o k (c.w 1)).cfgTouch o)

/-- A quota field (R351). -/
def Block.getField (b : Block) (o k : Nat) : Nat :=
  let t := b.tenant o
  match k with
  | 0 => t.qos
  | 1 => b.quotaOf o
  | 2 => t.budget
  | 3 => t.poolMin
  | 4 => t.poolMax
  | _ => pack [(16, t.intRate), (8, t.intBurst)]

/-- TENANT_GET (R351). -/
def cmdTenantGet : Cmd where
  priv := .op
  lo := 1
  hi := 1
  res := fun _ => 1
  range := fieldOk
  body := fun c b => okW [w32 (b.getField (c.fld 0 0 7) (c.fld 0 8 8))] b

/-- TENANT_RESET (R375, R390): joins a reset of the tenant that already runs. -/
def cmdTenantReset : Cmd where
  priv := .op
  long := fun _ => true
  lo := 1
  hi := 1
  res := fun _ => 2
  body := fun c b =>
    let n := c.fld 0 0 6
    let old := if (b.tenant n).resetting && !(b.tenant n).step2Due then (b.tenant n).oldEpoch else b.epochOf n
    (.long (.tenantReset n old (b.tenant n).rstScrub), b.beginReset n)

/-- VIOLATIONS (R362): function 0x7F names the sources 65 to 127. -/
def cmdViolations : Cmd where
  priv := .op
  lo := 1
  hi := 1
  res := fun _ => 1
  range := fun c => owner0Ok c || c.fld 0 0 7 == 0x7F
  body := fun c b =>
    let n := c.fld 0 0 7
    if n = 0x7F then
      okW [w32 b.power.violUnknown] (if c.clear then b.modPower (fun p => { p with violUnknown := 0 }) else b)
    else okW [w32 (b.tenant n).violations] (if c.clear then b.modTenant n (fun t => { t with violations := 0 }) else b)

/-- SCRUB_ABORT (R350, R387): the running scrub ends when its outstanding responses are in. DEDUCED, log entry 43. -/
def cmdScrubAbort : Cmd where
  priv := .op
  lo := 1
  hi := 1
  res := fun _ => 0
  body := fun c b =>
    match b.sparge.scrubs with
    | h :: rest =>
      if h.tenant = c.fld 0 0 6 then
        let h := { h with ending := some 2 }
        ok ((b.modSparge (fun s => { s with scrubs := h :: rest })).scrubCheck)
      else fails stBadParam b
    | [] => fails stBadParam b

/-- PORT_COUNTERS (R310, R324). -/
def cmdPortCounters : Cmd where
  priv := .op
  lo := 1
  hi := 1
  res := fun _ => 3
  range := owner0Ok
  body := fun c b =>
    let n := c.fld 0 0 7
    let p := b.port n
    let b := if c.clear then b.modPort n (fun p => { p with cmdOverrun := 0, cmdFraming := 0, rspEmpty := 0 }) else b
    okW [w32 p.cmdOverrun, w32 p.cmdFraming, w32 p.rspEmpty] b

end Sys2Proof.Machine
end

