-- ==== Sys2Proof/Machine/CatMash.lean ====
section
/-! DEFINITION. The Mash and Assay commands of the catalogue (R344, R345), one entry each. -/

namespace Sys2Proof.Machine

/-! ### Mash array (R344) -/

/-- A change of the Mash tables takes effect at the `gt` of the next brew cycle (R212): segments are cut there under the old
tables, and the taps re-resolve under the new. -/
def Block.retable (b : Block) (f : Block → Block) : Block :=
  (f (b.cutAll (b.gt + b.cycles 1))).resolveAll (b.gt + b.cycles 1)

/-- Writes `ws` to consecutive keys from `k` on. -/
def putRun {α β : Type} [DecidableEq α] (d : α) (g : β → α) : Tbl α → Nat → List β → Tbl α
  | t, _, [] => t
  | t, k, w :: ws => putRun d g (tset d t k (g w)) (k + 1) ws

/-- AGENT_MAP_WRITE (R180, R212, R336). -/
def cmdAgentMapWrite : Cmd where
  priv := .op
  lo := 2
  hi := 255
  res := fun _ => 0
  range := fun c => decide (c.fld 0 0 11 + (c.ws.length - 1) ≤ 2048)
  body := fun c b => ok (b.retable (fun b => b.modMash (fun m => { m with
    agentMap := putRun 0 (fun w => w &&& 0x7FFF#32) m.agentMap (c.fld 0 0 11) (c.ws.drop 1) })))

/-- The agent entry that AGENT_WRITE makes: a loop slot of an owner other than the agent's is not taken (R181), and what
the previous owner chose does not stay (R369). DEDUCED, log entry 57. -/
def Block.agentNew (b : Block) (c : Call) (old : Word) : Word :=
  if c.f ≠ 64 then mix old (c.w 1) 0x1F00#32
  else
    let w := c.w 1
    if (b.slot (aLoop w)).owner = aOwner w then w &&& 0x1FFF#32
    else if aOwner w = aOwner old then mix (w &&& 0xFF#32) old 0x1F00#32
    else w &&& 0xFF#32

/-- AGENT_WRITE (R181, R212, R335): a tenant names only its own loop slots. DEDUCED, log entries 54 and 57. -/
def cmdAgentWrite : Cmd where
  priv := .own
  lo := 2
  hi := 2
  res := fun _ => 0
  range := fun c => c.ownerOk (c.fld 1 1 7)
  owns := fun c b => aOwner (b.agent (c.fld 0 0 7)) == c.f && (b.slot (aLoop (c.w 1))).owner == c.f
  body := fun c b =>
    let a := c.fld 0 0 7
    let old := b.agent a
    let new := b.agentNew c old
    let b := b.retable (fun b =>
      let b := b.modMash (fun m => { m with agents := tset agentReset m.agents a new })
      if (aEn old && !aEn new) || old >>> 1 ≠ new >>> 1 then b.clearRows [a] else b)
    ok (b.touchOwners c (aOwner old) (aOwner new))

/-- The four entries of a reason map word. -/
def codesIn (w : Word) : List Nat := [fld w 0 8, fld w 8 8, fld w 16 8, fld w 24 8]

/-- REASON_MAP_WRITE (R184, R212). -/
def cmdReasonMapWrite : Cmd where
  priv := .op
  lo := 8
  hi := 8
  res := fun _ => 0
  range := fun c => c.ws.all (fun w => (codesIn w).all (fun k => decide (k ≤ 0x84)))
  body := fun c b => ok (b.retable (fun b => b.modMash (fun m => { m with
    reasons := putRun cUnresolved id m.reasons 0 ((c.ws.map codesIn).flatten) })))

/-- The open window of a slot is dropped without a record: its rows' active banks are cleared. DEDUCED, log entry 56. -/
def Block.dropWindow (b : Block) (slot : Nat) : Block :=
  if (b.slot slot).win.isNone then b.modSlot slot (fun s => { s with nextOpen := none })
  else
    let b := b.cutSlot slot (b.gt + b.cycles 1)
    let rows := b.rowsOf slot
    let act (r k : Nat) : Bool := rows.contains r && b.sel r == k
    (b.modMash (fun m => { m with
      stepQ := m.stepQ.map (fun s => { s with rows := s.rows.filter (fun r => !act r.1 r.2.1) })
      cells := m.cells.filter (fun e => !act (e.1 / 133 % 128) (e.1 / 133 / 128))
      halo := tmap [] m.halo (fun k l => l.filter (fun h => !act h.row k)) })).modSlot slot (fun s => { s with
        win := none, deferred := none, nextOpen := none, overDue := false, waitGt := none, token := false })

/-- The rows that an owner placed in a slot lose their queued steps and both banks. -/
def Block.clearSlotRows (b : Block) (slot owner : Nat) : Block :=
  let rows := (b.rowsOf slot).filter (fun a => aOwner (b.agent a) == owner)
  ((b.dropSteps rows).dropHeld rows).clearRows rows

/-- The agents of the previous owner of a slot no longer follow it (R369). -/
def Block.leaveSlot (b : Block) (slot owner : Nat) : Block :=
  b.modMash (fun m => { m with
    agents := tmap agentReset m.agents (fun _ w => if aOwner w = owner && aLoop w = slot then w &&& 0xFF#32 else w) })

/-- LOOP_WRITE (R193, R212, R335, R369): the slot's open window ends without a record when the slot is disabled or its
window source changes; a slot that is enabled starts its counts afresh, and with `WSRC` 1 its windows open at the next
multiple of `PERIOD_NS` (R195). With a new owner the owner-written fields return to their reset values (R213, R369).
DEDUCED, log entries 54 and 56. -/
def cmdLoopWrite : Cmd where
  priv := .own
  lo := 6
  hi := 6
  res := fun _ => 0
  range := fun c => decide (20000 ≤ (c.w 4).toNat) && decide (20000 ≤ (c.w 5).toNat) && c.ownerOk (c.fld 1 7 7)
  owns := fun c b => (b.slot (c.fld 0 0 4)).owner == c.f
  body := fun c b =>
    let k := c.fld 0 0 4
    let old := b.slot k
    let w0 := if c.f = 64 then c.w 1 &&& 0x3FFF#32 else mix (old.word 0) (c.w 1) 0x3F#32
    let moved := fld w0 7 7 != old.owner
    let new : List Word := if moved then [w0 &&& 0x3FC0#32, 0, 0, 0, 20000#32]
      else [w0, c.w 2 &&& 0x7FFFF#32, c.w 3, c.w 4, c.w 5]
    let resrc := bit w0 2 != old.wsrc
    let b := b.retable (fun b =>
      let b := if moved then ((b.clearSlotRows k old.owner).leaveSlot k old.owner).resetSlot k else if !bit w0 0 || resrc then b.dropWindow k else b
      let b := b.modSlot k (fun s => { s with w := new })
      if bit w0 0 && !moved && (!old.en || resrc) then
        let p := (c.w 4).toNat * 256
        b.modSlot k (fun s => { s with
          records := if old.en then s.records else 0, winCount := 0, nextOpen := if bit w0 2 then some (cdiv (b.gt + b.cycles 1) p * p) else none })
      else b)
    ok (b.touchOwners c old.owner (fld w0 7 7))

/-- MASH_READ (R344). -/
def cmdMashRead : Cmd where
  priv := .own
  lo := 2
  hi := 2
  res := fun _ => 5
  range := fun c =>
    decide ((c.w 1).toNat < (match c.fld 0 0 2 with | 0 => 2048 | 1 => 128 | 2 => 8 | _ => 16))
  owns := fun c b =>
    match c.fld 0 0 2 with
    | 1 => aOwner (b.agent (c.w 1).toNat) == c.f
    | 3 => (b.slot (c.w 1).toNat).owner == c.f
    | _ => false
  body := fun c b =>
    let i := (c.w 1).toNat
    let code (k : Nat) : Nat := tget cUnresolved b.mash.reasons (4 * i + k)
    let ws : List Word := match c.fld 0 0 2 with
      | 0 => [b.amap i]
      | 1 => [b.agent i]
      | 2 => [w32 (pack [(8, code 0), (8, code 1), (8, code 2), (8, code 3)])]
      | _ => (b.slot i).w
    okW (ws ++ List.replicate (5 - ws.length) 0) b

/-- LOOP_STATUS (R344). -/
def cmdLoopStatus : Cmd where
  priv := .own
  lo := 1
  hi := 1
  res := fun _ => 3
  owns := fun c b => (b.slot (c.fld 0 0 4)).owner == c.f
  body := fun c b =>
    let s := b.slot (c.fld 0 0 4)
    let n := match s.win with | some w => w.iterLast | none => 0
    okW [w32 (pack [(1, b2n s.win.isSome), (1, b2n (s.deferred.isSome || s.overDue)), (5, b.mash.tokens)]), w32 n
      , w32 s.records] b

/-! ### Assay units (R345) -/

/-- ASY_BIND (R215, R217, R246, R447). DEDUCED, log entry 61. -/
def cmdAsyBind : Cmd where
  priv := .op
  lo := 2
  hi := 2
  res := fun _ => 0
  body := fun c b =>
    let n := c.fld 0 0 11
    let w := c.w 1 &&& 0x3F#32
    let others := b.assay.binding.filter (fun e => e.1 != n && bit e.2 4 && asyUnitOf e.2 == asyUnitOf w)
    if bit w 4 && decide (4 ≤ others.length) then fails stBadParam b
    else if w = b.binding n then ok b
    else ok ((b.abortImage n).rebind n w)

/-- ASY_UNIT (R216, R246, R482): writes to a unit that failed its self-test are ignored. DEDUCED, log entry 31. -/
def cmdAsyUnit : Cmd where
  priv := .op
  lo := 2
  hi := 2
  res := fun _ => 0
  range := fun c => decide (c.fld 1 1 7 ≤ 64)
  body := fun c b =>
    let u := c.fld 0 0 4
    let w := c.w 1 &&& 0xFFFF#32
    let old := b.unit u
    if b.power.assayFailed.testBit u then ok b
    else
      let b := if old.owner ≠ fld w 1 7 || (old.en && !bit w 0) then b.closeUnitTensors u else b
      ok ((b.modUnit u (fun x => { x with ctl := w })).touchOwners c old.owner (fld w 1 7))

/-- `CAND_FMT` and `DRIFT_FACTOR` of PROFILE_WRITE, and, for the operator, its owner and reference range (R230, R234). -/
def profileRange (c : Call) : Bool :=
  let cand := c.fld 1 24 4
  let drift := c.fld 3 0 8
  (decide (cand ≤ 3) || cand == 15) && (drift == 0 || decide (16 ≤ drift)) && c.ownerOk (c.fld 1 1 7) &&
    (c.f != 64 || decide (c.fld 2 0 15 + c.fld 2 15 16 ≤ 32768))

/-- Owner of a profile. -/
def profOwner (p : List Word) : Nat := pfld p 0 1 7

/-- PROFILE_WRITE (R230, R335): with a new owner the owner-written fields return to their reset values (R369).
DEDUCED, log entries 31 and 54. -/
def cmdProfileWrite : Cmd where
  priv := .own
  lo := 4
  hi := 4
  res := fun _ => 0
  range := profileRange
  owns := fun c b => profOwner (b.profile (c.fld 0 0 6)) == c.f
  body := fun c b =>
    let k := c.fld 0 0 6
    let old := b.profile k
    let new := if c.f = 64 then [c.w 1, c.w 2 &&& 0x7FFFFFFF#32, c.w 3]
      else [mix (old.getD 0 0) (c.w 1) 0xFFFFFF01#32, old.getD 1 0, c.w 3]
    let moved := profOwner old != profOwner new
    let b := if moved then b.clearRefs old else b
    let new := if moved then profOwnerReset new else new
    ok ((b.modAssay (fun a => { a with profiles := tset profReset a.profiles k new })).touchOwners c (profOwner old)
      (profOwner new))

/-- A reference entry lies in the range of a profile of owner `f` (R232). -/
def Block.refMine (b : Block) (f i : Nat) : Bool :=
  (upto 64).any (fun k =>
    let p := b.profile k
    profOwner p == f && decide (pfld p 1 0 15 ≤ i) && decide (i < pfld p 1 0 15 + pfld p 1 15 16))

/-- REF_WRITE (R232, R336). -/
def cmdRefWrite : Cmd where
  priv := .own
  lo := 2
  hi := 255
  res := fun _ => 0
  range := fun c => decide (c.fld 0 0 15 + (c.ws.length - 1) ≤ 32768)
  owns := fun c b => (upto (c.ws.length - 1)).all (fun i => b.refMine c.f (c.fld 0 0 15 + i))
  body := fun c b => ok (b.modAssay (fun a => { a with refs := putRun refReset id a.refs (c.fld 0 0 15) (c.ws.drop 1) }))

/-- ASY_READ (R345, R245). -/
def cmdAsyRead : Cmd where
  priv := .own
  lo := 2
  hi := 2
  res := fun _ => 4
  range := fun c => decide ((c.w 1).toNat <
    (match c.fld 0 0 3 with | 0 => 2048 | 1 => 16 | 2 => 64 | 3 => 32768 | 4 => 16 | _ => 0))
  owns := fun c b =>
    match c.fld 0 0 3 with
    | 2 => profOwner (b.profile (c.w 1).toNat) == c.f
    | 3 => b.refMine c.f (c.w 1).toNat
    | _ => false
  body := fun c b =>
    let i := (c.w 1).toNat
    let u := b.unit i
    let ws : List Word := match c.fld 0 0 3 with
      | 0 => [b.binding i]
      | 1 => [u.ctl]
      | 2 => b.profile i
      | 3 => [b.ref i]
      | _ => [w32 u.rowsSkipped, w32 u.badFmt, w32 u.foreign, w32 u.beatsDropped]
    let b := if c.clear && c.fld 0 0 3 == 4 then
        b.modUnit i (fun u => { u with rowsSkipped := 0, badFmt := 0, foreign := 0, beatsDropped := 0 })
      else b
    okW (ws ++ List.replicate (4 - ws.length) 0) b

/-- ASY_FLUSH (R223, R345). DEDUCED, log entry 61. -/
def cmdAsyFlush : Cmd where
  priv := .own
  lo := 1
  hi := 1
  res := fun _ => 1
  owns := fun c b => (b.unit (c.fld 0 0 4)).owner == c.f
  body := fun c b =>
    let u := c.fld 0 0 4
    let ts := ((b.unit u).taps.filter (fun e => e.2.tensor.isSome)).map Prod.fst
    okW [w32 ts.length] (b.each ts (fun b t => b.closeTensor u t 3 b.gt))

end Sys2Proof.Machine
end

