-- ==== Sys2Proof/Machine/CatSync.lean ====
section
/-! DEFINITION. The sync watch, counter, freeze and time commands of the catalogue (R346 to R348), one entry each. -/

namespace Sys2Proof.Machine

/-! ### Sync watch (R346) -/

/-- Object named in w0. -/
def Call.objId (c : Call) : Nat := c.fld 0 0 14

/-- SYNC_DECLARE sets `KIND` or declares a signaller; a command that only clears `SIG_DECL` does neither (R254).
DEDUCED, log entry 59. -/
def declares (c : Call) : Bool := c.fld 0 14 2 != 0 || bit (c.w 0) 16

/-- SYNC_DECLARE (R254): a tenant may declare on its own objects, and takes an object that has no owner.
DEDUCED, log entry 59. -/
def cmdSyncDeclare : Cmd where
  priv := .own
  lo := 2
  hi := 2
  res := fun _ => 0
  range := fun c => c.fld 0 14 2 != 3 && !(bit (c.w 0) 16 && bit (c.w 0) 17)
  owns := fun c b => !(b.obj c.objId).ownValid || (b.obj c.objId).owner == c.f
  body := fun c b =>
    let kind := c.fld 0 14 2
    ok (b.modObj c.objId (fun x =>
      let x := if c.f < 64 && !x.ownValid && declares c then { x with owner := c.f, ownValid := true } else x
      let x := if kind != 0 && kind != x.kind then { x with kind := kind, count := 0, phase := false, sigArrived := false } else x
      let x := if bit (c.w 0) 16 then { x with sig := c.fld 1 0 11, sigValid := true, sigDecl := true } else x
      if bit (c.w 0) 17 then { x with sigDecl := false } else x))

/-- SYNC_READ (R249, R346): a tenant sees taps of other tenants as 0x7FF. -/
def cmdSyncRead : Cmd where
  priv := .own
  lo := 1
  hi := 1
  res := fun _ => 4
  owns := fun c b => (b.obj c.objId).ownValid && (b.obj c.objId).owner == c.f
  body := fun c b => okW (wordsOf 4 (b.redactObj c.f (b.obj c.objId)).bytes) b

/-- TAP_WAIT_READ (R250). -/
def cmdTapWaitRead : Cmd where
  priv := .op
  lo := 1
  hi := 1
  res := fun _ => 2
  body := fun c b => okW (wordsOf 2 (b.wait (c.fld 0 0 11)).bytes) b

/-- KNOT_WALK (R260): completes when the walk that it causes ends. -/
def cmdKnotWalk : Cmd where
  priv := .op
  long := fun _ => true
  lo := 0
  hi := 0
  res := fun _ => 2
  body := fun _ b => (.long (.knotWalk b.nextWalkSeq), b.startWalk)

/-- SNAPSHOT (R266, R299). DEDUCED, log entry 58. -/
def cmdSnapshot : Cmd where
  priv := .op
  lo := 4
  hi := 4
  res := fun _ => 1
  body := fun c b =>
    let lead := if b.sync.snap.lead = 0 then 4 else b.sync.snap.lead
    let t := if bit (c.w 0) 0 then c.gt 1 else b.gt + us lead
    if bit (c.w 0) 0 && decide (t < b.gt + us 1) then fails stBadParam b
    else
      let s := b.sync.snap
      let b := b.startSnap 0 t
      if s.st == .capturing || (s.st == .valid && !s.overwrite) then fails stBusy b
      else okW [w32 b.sync.snap.freezeId] b

/-- SYNC_SET (R255, R260). -/
def cmdSyncSet : Cmd where
  priv := .op
  lo := 1
  hi := 1
  res := fun _ => 0
  range := fun c => decide (c.fld 0 16 10 ≤ 1000)
  body := fun c b => ok (b.modSync (fun s => { s with npLimit := c.fld 0 0 15, knotMs := c.fld 0 16 10 })).armNoprog

/-- SYNC_COUNTERS (R273). -/
def cmdSyncCounters : Cmd where
  priv := .op
  lo := 1
  hi := 1
  res := fun _ => 10
  body := fun c b =>
    let s := b.sync
    let b := if c.clear then
        b.modSync (fun s => { s with
          drop := 0, implicitEnd := 0, unmatched := 0, kindMismatch := 0, walks := 0, transient := 0, repeats := 0
          unreported := 0, npReports := 0, snapRefused := 0 })
      else b
    okW [w32 s.drop, w32 s.implicitEnd, w32 s.unmatched, w32 s.kindMismatch, w32 s.walks, w32 s.transient, w32 s.repeats
      , w32 s.unreported, w32 s.npReports, w32 s.snapRefused] b

/-! ### Counters and freeze (R347) -/

/-- A descriptor at its reset value (R275). -/
def descReset : Word × Word := (0x80#32, 0)

/-- The descriptor that the station mirrors (R281). -/
def Block.descOfCnt (b : Block) (n k : Nat) : Word × Word := tget descReset (b.view n).desc k

/-- The station has not yet loaded the mirror of a tap (R298). -/
def Block.unloaded (b : Block) (n : Nat) : Bool := b.present n && !(b.view n).mirror

/-- Owner of a counter. -/
def Block.cntOwner (b : Block) (n k : Nat) : Nat := fld (b.descOfCnt n k).1 1 7

/-- The counter in w0 belongs to the caller, as far as the mirror can tell (R298). -/
def ownsCnt (c : Call) (b : Block) : Bool :=
  b.unloaded (c.fld 0 0 11) || b.cntOwner (c.fld 0 0 11) (c.fld 0 12 3) == c.f

/-- `EVSEL` of CNT_WRITE (R276): the tap's own selections are the operator's only; a `REPORT_LOG2` above 47 is outside its
range (R275, R334). -/
def cntRange (c : Call) : Bool :=
  let e := c.fld 1 8 8
  let o := c.fld 1 1 7
  decide (e ≤ 16) && decide (c.fld 2 24 6 ≤ 47) && !classReserved (c.fld 1 22 4) &&
    !reasonReserved (c.fld 1 16 6) && c.ownerOk o && (decide (e < 15) || (c.f == 64 && o == 64))

/-- CNT_WRITE (R275, R276, R281, R335): with a new owner the owner-written fields return to their reset values (R369).
DEDUCED, log entries 29, 54, 55 and 58. -/
def cmdCntWrite : Cmd where
  priv := .own
  lo := 3
  hi := 3
  res := fun _ => 0
  range := cntRange
  owns := ownsCnt
  body := fun c b =>
    let n := c.fld 0 0 11
    let k := c.fld 0 12 3
    if b.unloaded n then fails stBusy b
    else if !b.present n then ok b
    else
      let old := b.descOfCnt n k
      let w0 := if c.f = 64 then c.w 1 &&& 0x0FFFFFFF#32 else mix old.1 (c.w 1) 0x0FFFFF01#32
      let w1 := if c.f = 64 then c.w 2 &&& 0x3FFFFFFF#32 else mix old.2 (c.w 2) 0x3F000000#32
      let d := if fld w0 1 7 = fld old.1 1 7 then (w0, w1) else descOwnerReset w0 w1
      let b := b.modView n (fun v => { v with desc := tset descReset v.desc k d })
      let b := b.modTap n (fun t => { t with cfg := t.cfg ++ [.desc k d.1 d.2] })
      ok (b.touchOwners c (fld old.1 1 7) (fld w0 1 7))

/-- CNT_READ (R275, R298). -/
def cmdCntRead : Cmd where
  priv := .own
  lo := 1
  hi := 1
  res := fun _ => 2
  owns := ownsCnt
  body := fun c b =>
    let n := c.fld 0 0 11
    let d := b.descOfCnt n (c.fld 0 12 3)
    if b.unloaded n then fails stBusy b else if b.present n then okW [d.1, d.2] b else okW [0, 0] b

/-- CNT_SAMPLE (R294, R298): a powered-down tap answers at once with zeros, and a tap that is not present as well.
DEDUCED, log entry 55. -/
def cmdCntSample : Cmd where
  priv := .op
  long := fun _ => true
  lo := 1
  hi := 1
  res := fun _ => 19
  body := fun c b =>
    let n := c.fld 0 0 11
    if b.unloaded n then fails stBusy b
    else if !b.present n then okW (List.replicate 19 0) b
    else if (b.view n).down then okW (List.replicate 18 0 ++ [1]) b
    else (.long (.cntSample n), b)

/-- FREEZE (R284, R290, R436): with `FABRIC`, T is in root time and every other instance known is told.
DEDUCED, log entry 38. -/
def cmdFreeze : Cmd where
  priv := .op
  long := fun c => bit (c.w 0) 0
  lo := 4
  hi := 4
  res := fun _ => 2
  body := fun c b =>
    let fab := bit (c.w 0) 0
    let t := if fab then b.localOfRoot (c.gt 1) else c.gt 1
    if t < b.gt + us (if fab then 50 else 1) || b.freezesUsed.any (fun e => near2 e.2.t t) then fails stBadParam b
    else
      let f : Freeze :=
        { t := t, rootT := c.gt 1, fabric := fab, fixed := !fab, aoClear := bit (c.w 0) 1, tenantCopy := bit (c.w 0) 2
          node := if fab then b.hop.nodeId else 0xFFF }
      match b.takeFreeze f none with
      | none => fails stNoResource b
      | some (id, b) =>
        if !fab then okW [w32 id, 1] b
        else
          let others := (b.hop.routes.filter (fun e => decide (e.2 % 64 ≤ 32) && e.1 != b.hop.nodeId)).map Prod.fst
          let body := leBytes 9 (c.gt 1) ++ leBytes 2 b.hop.nodeId ++ leBytes 1 id ++
            leBytes 1 (pack [(1, b2n (bit (c.w 0) 1)), (1, b2n (bit (c.w 0) 2))])
          let b := b.noteSeen (b.hop.nodeId, id)
          let b := if b.hop.disc = 6 then b.sendAll b.up3 (b.newFrame 8 0xFFF body []) else b
          if others.isEmpty then okW [w32 id, 1] b else (.long (.freeze id 1 0 others b.gt), b)

/-- FREEZE_STATUS (R284, R347). -/
def cmdFreezeStatus : Cmd where
  priv := .op
  lo := 1
  hi := 1
  res := fun _ => 2
  body := fun c b =>
    match b.slotOf (c.fld 0 0 8) with
    | none => okW [0, 0] b
    | some i =>
      let f := b.freezeSlot i
      okW [w32 (pack [(2, f.code b.gt), (6, f.built)])
        , w32 (f.taps.filter (fun e => e.2.notLatched)).length] b

/-- The first strobe of a freeze is due or out (R285, R359): `gt` has reached T − `d_tap` of an enabled tap. -/
def Block.latching (b : Block) (f : Freeze) : Bool :=
  f.begun || !f.taps.isEmpty || f.reached b.gt || (f.fixed && b.enabledTaps.any (fun n => decide ((f.t : Int) ≤ b.gt + (b.view n).dTap)))

/-- FREEZE_CANCEL (R347, R359). -/
def cmdFreezeCancel : Cmd where
  priv := .op
  lo := 1
  hi := 1
  res := fun _ => 0
  body := fun c b =>
    match b.slotOf (c.fld 0 0 8) with
    | none => fails stBadParam b
    | some i =>
      let f := b.freezeSlot i
      if f.st == .scheduled && !b.latching f then ok (b.modFreeze i (fun _ => {})) else fails stBadParam b

/-- FREEZE_SET (R291). -/
def cmdFreezeSet : Cmd where
  priv := .op
  lo := 1
  hi := 1
  res := fun _ => 0
  range := fun c => decide (10 ≤ c.fld 0 0 16)
  body := fun c b => ok { b with freezeLimitUs := c.fld 0 0 16 }

/-- The entries of CNT_VIEW as (valid, tap, counter). -/
def viewEntries (c : Call) : List (Bool × Nat × Nat) := (c.ws.drop 1).map (fun w => (bit w 15, fld w 0 11, fld w 12 3))

/-- An entry of CNT_VIEW names a tap whose mirror is not loaded (R298). -/
def viewBusy (c : Call) (b : Block) : Bool := (viewEntries c).any (fun e => e.1 && b.unloaded e.2.1)

/-- Every valid entry of CNT_VIEW names a counter of the tenant. -/
def viewOwned (c : Call) (b : Block) : Bool := (viewEntries c).all (fun e => !e.1 || b.cntOwner e.2.1 e.2.2 == c.fld 0 8 7)

/-- CNT_VIEW (R336, R347, R392). DEDUCED, log entry 58. -/
def cmdCntView : Cmd where
  priv := .own
  lo := 2
  hi := 25
  res := fun _ => 0
  range := fun c => decide (c.fld 0 0 5 + (c.ws.length - 1) ≤ 24) && decide (c.fld 0 8 7 < 64)
  owns := fun c b => c.fld 0 8 7 == c.f && (viewBusy c b || viewOwned c b)
  body := fun c b =>
    if viewBusy c b then fails stBusy b
    else if !viewOwned c b then fails stBadParam b
    else ok (b.modTenant (c.fld 0 8 7) (fun t => { t with
      viewSel := putRun none (fun (e : Bool × Nat × Nat) => if e.1 then some e.2 else none) t.viewSel (c.fld 0 0 5)
        (viewEntries c) }))

/-! ### Time (R348) -/

/-- TIME_STATUS (R44, R56, R58). DEDUCED, log entry 41. -/
def cmdTimeStatus : Cmd where
  priv := .all
  lo := 0
  hi := 0
  res := fun _ => 8
  body := fun _ b =>
    let off := twos 64 b.time.fabOff
    let node := if b.hop.parent = 7 then 0xFFF else (b.hopPort b.hop.parent).node
    okW ([w32 (pack [(1, b2n b.time.locked), (1, b2n b.time.holdover), (1, b2n b.time.aligned), (5, 0), (8, b.alEpoch),
        (8, b.lbByte), (8, b.fbByte)])] ++ gtWords b.gt ++
      [w32 off, w32 (off / 2 ^ 32), w32 (twos 32 b.time.fabRate), w32 node]) b

/-- TIME_SET (R34, R36, R46): a change of `TIME_BUS_LATENCY` steps the time base; a new `TCAL_PERIOD` counts from the end of
Calibrate. -/
def cmdTimeSet : Cmd where
  priv := .op
  lo := 3
  hi := 3
  res := fun _ => 0
  range := fun c =>
    let inR (v lo hi : Nat) : Bool := decide (lo ≤ v) && decide (v ≤ hi)
    inR (c.fld 0 16 16) 1 1000 && inR (c.fld 1 0 13) 32 4096 && inR (c.fld 1 16 10) 1 1000 && inR (c.fld 2 0 17) 100 100000
  body := fun c b =>
    let old := b.time.latency
    let new := c.fld 0 0 16
    let p := ms (c.fld 1 16 10)
    let next := b.time.calEnd + ((b.gt - b.time.calEnd) / p + 1) * p
    let due := if c.fld 1 16 10 = b.time.tcalMs then b.time.tcalDue else next
    let b := b.modTime (fun t => { t with
      tcalDue := due, latency := new, holdPpm := c.fld 0 16 16, stretchPer := c.fld 1 0 13, tcalMs := c.fld 1 16 10, tsyncUs := c.fld 2 0 17 })
    ok (if new = old then b else b.stepTo (((b.time.tb : Int) + ((new : Int) - old) * 2 ^ 24).toNat))

/-- TCAL_READ (R46); a tap that is not present reads zero. -/
def cmdTcalRead : Cmd where
  priv := .op
  lo := 1
  hi := 1
  res := fun _ => 1
  body := fun c b =>
    let n := c.fld 0 0 11
    let v := b.view n
    okW [if b.present n then w32 (pack [(16, twos 16 v.dTap), (16, twos 16 v.aTap)]) else 0] b

/-- TSYNC_NOW (R55, R56): it starts a measurement, or waits for the one that runs. DEDUCED, log entry 41. -/
def cmdTsyncNow : Cmd where
  priv := .op
  long := fun _ => true
  lo := 0
  hi := 0
  res := fun _ => 3
  body := fun _ b =>
    if !b.hasParent then fails stNoResource b
    else (.long .tsyncNow, if b.hop.tsMeas.isSome then b else b.tsyncCall)

/-- PORT_ALPHA (R54, R444). -/
def cmdPortAlpha : Cmd where
  priv := .op
  lo := 1
  hi := 1
  res := fun _ => 0
  range := fun c => decide (c.fld 0 0 3 ≤ 5)
  body := fun c b => ok (b.modHopPort (c.fld 0 0 3) (fun x => { x with alpha := sfld (c.w 0).toNat 8 24 }))

end Sys2Proof.Machine
end

