-- ==== Sys2Proof/Machine/CatHop.lean ====
section
/-! DEFINITION. The fabric, measurement, power and diagnostic commands of the catalogue (R352 to R357), one entry each. -/

namespace Sys2Proof.Machine

/-! ### Fabric (R352) -/

/-- FABRIC_STATUS (R445). -/
def cmdFabricStatus : Cmd where
  priv := .op
  lo := 0
  hi := 0
  res := fun _ => 3
  body := fun _ b =>
    let h := b.hop
    okW [w32 (pack [(12, h.nodeId), (12, h.root), (6, h.depth)]), w32 (pack [(16, b.nodesKnown), (3, h.parent)])
      , w32 (pack [(8, h.disc)])] b

/-- The port in w0 [2:0] exists. -/
def port0Ok (c : Call) : Bool := decide (c.fld 0 0 3 ≤ 5)

/-- LINK_STATUS (R422, R444). -/
def cmdLinkStatus : Cmd where
  priv := .op
  lo := 1
  hi := 1
  res := fun _ => 4
  range := port0Ok
  body := fun c b =>
    let p := c.fld 0 0 3
    let x := b.hopPort p
    let b := if c.clear then b.modHopPort p (fun x => { x with hopLost := 0, phaseDrop := 0 }) else b
    okW [w32 (pack [(4, x.st.code), (4, x.version), (8, x.reason), (1, b2n x.compat), (1, b2n x.kph)]), w32 x.node
      , w32 x.hopLost, w32 x.phaseDrop] b

/-- A link starts again from Training at the operator's word (R352). -/
def Block.retrain (b : Block) (p : Nat) : Block :=
  let x := b.hopPort p
  if !x.adminUp then b
  else
    if x.st == .up then b.startClose p 1
    else if x.st == .closing then b
    else (if x.st == .down then b else b.linkDown p 1).train p

/-- LINK_CONTROL (R352, R424, R444). -/
def cmdLinkControl : Cmd where
  priv := .op
  lo := 1
  hi := 1
  res := fun _ => 0
  range := fun c => port0Ok c && c.fld 0 4 2 != 3
  body := fun c b =>
    let p := c.fld 0 0 3
    let b := b.modHopPort p (fun x => { x with v2Allow := bit (c.w 0) 8 })
    ok (match c.fld 0 4 2 with
      | 0 => b.adminSet p false
      | 1 => b.adminSet p true
      | _ => b.retrain p)

/-- ROUTE_READ (R430). -/
def cmdRouteRead : Cmd where
  priv := .op
  lo := 1
  hi := 1
  res := fun _ => 1
  body := fun c b => okW [b.routeRead (c.fld 0 0 12)] b

/-- REDISCOVER (R427): an instance without a version-3 link is Isolated at once. DEDUCED, log entry 36. -/
def cmdRediscover : Cmd where
  priv := .op
  long := fun _ => true
  lo := 0
  hi := 0
  res := fun _ => 2
  body := fun _ b =>
    let b := b.startDiscovery b.hop.gen
    if b.hop.disc = 0 then okW [w32 b.hop.nodeId, w32 b.nodesKnown] b else (.long .rediscover, b)

/-- KEY_ROTATE (R440). -/
def cmdKeyRotate : Cmd where
  priv := .op
  long := fun _ => true
  lo := 1
  hi := 1
  res := fun _ => 1
  range := port0Ok
  body := fun c b =>
    let p := c.fld 0 0 3
    let x := b.hopPort p
    if !(x.compat && x.st == .up) then fails stBadParam b
    else if x.rotating then fails stBusy b
    else (.long (.keyRotate p), b.startRotate p)

/-! ### Measurement (R353) -/

/-- A digest as 12 words. -/
def digestWords (d : List Byte) : List Word := wordsOf 12 (padTo 48 d)

/-- MEAS_STATUS (R453, R455). DEDUCED, log entry 62. -/
def cmdMeasStatus : Cmd where
  priv := .op
  lo := 0
  hi := 0
  res := fun _ => 3
  body := fun _ b => okW [w32 b.meas.built, w32 b.meas.taken, w32 (b2n !b.meas.patchDigest.isEmpty)] b

/-- MEAS_READ (R450). -/
def cmdMeasRead : Cmd where
  priv := .op
  lo := 1
  hi := 1
  res := fun _ => 14
  body := fun c b =>
    match tget none b.meas.table (2 * c.fld 0 0 11 + c.fld 0 11 1) with
    | some x => okW (digestWords x.2.2 ++ [w32 x.1, w32 (x.2.1 % 2048 + 2 ^ 31)]) b
    | none => okW (List.replicate 14 0) b

/-- PATCH_DIGEST (R453). -/
def cmdPatchDigest : Cmd where
  priv := .op
  lo := 0
  hi := 0
  res := fun _ => 13
  body := fun _ b => okW (digestWords b.meas.patchDigest ++ [w32 b.meas.patchBytes]) b

/-! ### Power (R354, R355) -/

/-- POWER_HOLD (R355): floor 3 ends the caller's hold. DEDUCED, log entries 58 and 62. -/
def cmdPowerHold : Cmd where
  priv := .all
  long := fun _ => true
  lo := 1
  hi := 1
  res := fun _ => 0
  range := fun c => decide (1 ≤ c.fld 0 16 16) && decide (c.fld 0 16 16 ≤ 10000)
  body := fun c b =>
    let fl := c.fld 0 0 2
    let b := b.modTenant c.f (fun t => { t with hold := if fl = 3 then none else some (fl, b.gt + ms (c.fld 0 16 16)) })
    if b.atFloor fl then ok b else (.long (.powerHold fl), b.requestWake 1)

/-- POWER_STATUS (R354, R466): the mean power is a measured value that the specification does not state.
DESIGN CHOICE, log entry 5; DEDUCED, log entry 62. -/
def cmdPowerStatus : Cmd where
  priv := .op
  lo := 0
  hi := 0
  res := fun _ => 4
  body := fun _ b =>
    let x := b.takeFree
    let fn := match b.floorHold with | some h => h.2 | none => 0x7F
    okW [w32 (pack [(2, b.power.st.code), (6, 0), (2, b.power.policy)]), w32 x.1, w32 b.power.wakes, w32 fn] x.2

/-- POWER_POLICY (R354). -/
def cmdPowerPolicy : Cmd where
  priv := .op
  lo := 1
  hi := 1
  res := fun _ => 0
  range := fun c => c.fld 0 0 2 != 0
  body := fun c b => ok (b.modPower (fun p => { p with policy := c.fld 0 0 2 }))

/-! ### Diagnostics (R356, R357) -/

/-- ECHO (R313, R356). -/
def cmdEcho : Cmd where
  priv := .all
  lo := 0
  hi := 255
  res := id
  body := fun c b =>
    let bs := ((c.ws.map (fun w => leBytes 4 w.toNat)).flatten).take c.bytes
    okW (wordsOf c.ws.length (padTo (4 * c.ws.length) bs)) b

/-- DIAG_MARK (R357). -/
def cmdDiagMark : Cmd where
  priv := .all
  lo := 4
  hi := 4
  res := fun _ => 0
  body := fun c b =>
    let bytes := leBytes 1 c.f ++ leBytes 1 c.tag ++ gtBytes b.gt ++ leBytes 1 b.alEpoch ++
      leBytes 4 (c.w 1).toNat ++ leBytes 4 (c.w 2).toNat ++ leBytes 4 (c.w 3).toNat
    ok (b.queueRec (b.mkRec 20 0 c.f (c.fld 0 0 2) bytes))

/-- FAULT_READ (R331, R357). -/
def cmdFaultRead : Cmd where
  priv := .op
  lo := 0
  hi := 0
  res := fun _ => 2
  body := fun _ b =>
    okW [w32 (pack [(8, b.power.faultCause), (8, 0), (16, b.power.restarts)]), w32 b.power.hwFaults] b

end Sys2Proof.Machine
end

