-- ==== Sys2Proof/Machine/Catalogue.lean ====
section
/-! DEFINITION. The command catalogue (R333, R334) as one table over its entries, and the rows of the 82 commands: a
complete packet of function `f` with the row's opcode reaches the Maltster (R316). -/

namespace Sys2Proof.Machine

/-- The catalogue: the entry of each opcode (R339 to R356). -/
def catalogue : Nat → Option Cmd
  | 0x00 => some cmdNegotiate
  | 0x01 => some cmdSessionSet
  | 0x02 => some cmdIdentify
  | 0x03 => some cmdNop
  | 0x10 => some cmdTapSet
  | 0x11 => some cmdTapStatus
  | 0x12 => some cmdCtxWrite
  | 0x13 => some cmdCtxRead
  | 0x20 => some cmdLauterWrite
  | 0x21 => some cmdLauterRead
  | 0x22 => some cmdLauterDefault
  | 0x23 => some cmdCmpWrite
  | 0x24 => some cmdSeqControl
  | 0x25 => some cmdSeqRearm
  | 0x26 => some cmdSeqStatus
  | 0x27 => some cmdSeqOwner
  | 0x28 => some cmdStreamFormat
  | 0x29 => some cmdStationCounters
  | 0x30 => some cmdCaskMode
  | 0x31 => some cmdCaskDrain
  | 0x32 => some cmdCaskRelease
  | 0x33 => some cmdCaskStatus
  | 0x34 => some cmdCaskPool
  | 0x35 => some cmdCaskFenceRead
  | 0x36 => some cmdCaskMacro
  | 0x37 => some cmdCaskPatrol
  | 0x40 => some cmdAgentMapWrite
  | 0x41 => some cmdAgentWrite
  | 0x42 => some cmdReasonMapWrite
  | 0x43 => some cmdLoopWrite
  | 0x44 => some cmdMashRead
  | 0x45 => some cmdLoopStatus
  | 0x50 => some cmdAsyBind
  | 0x51 => some cmdAsyUnit
  | 0x52 => some cmdProfileWrite
  | 0x53 => some cmdRefWrite
  | 0x54 => some cmdAsyRead
  | 0x55 => some cmdAsyFlush
  | 0x60 => some cmdSyncDeclare
  | 0x61 => some cmdSyncRead
  | 0x62 => some cmdTapWaitRead
  | 0x63 => some cmdKnotWalk
  | 0x64 => some cmdSnapshot
  | 0x65 => some cmdSyncSet
  | 0x66 => some cmdSyncCounters
  | 0x70 => some cmdCntWrite
  | 0x71 => some cmdCntRead
  | 0x72 => some cmdCntSample
  | 0x73 => some cmdFreeze
  | 0x74 => some cmdFreezeStatus
  | 0x75 => some cmdFreezeCancel
  | 0x76 => some cmdFreezeSet
  | 0x77 => some cmdCntView
  | 0x80 => some cmdTimeStatus
  | 0x81 => some cmdTimeSet
  | 0x82 => some cmdTcalRead
  | 0x83 => some cmdTsyncNow
  | 0x84 => some cmdPortAlpha
  | 0x90 => some cmdSpargeBind
  | 0x91 => some cmdSpargeStatus
  | 0x92 => some cmdSpargeResume
  | 0xA0 => some cmdTenantSet
  | 0xA1 => some cmdTenantGet
  | 0xA2 => some cmdTenantReset
  | 0xA3 => some cmdViolations
  | 0xA4 => some cmdScrubAbort
  | 0xA5 => some cmdPortCounters
  | 0xB0 => some cmdFabricStatus
  | 0xB1 => some cmdLinkStatus
  | 0xB2 => some cmdLinkControl
  | 0xB3 => some cmdRouteRead
  | 0xB4 => some cmdRediscover
  | 0xB5 => some cmdKeyRotate
  | 0xC0 => some cmdMeasStatus
  | 0xC1 => some cmdMeasRead
  | 0xC2 => some cmdPatchDigest
  | 0xD0 => some cmdPowerHold
  | 0xD1 => some cmdPowerStatus
  | 0xD2 => some cmdPowerPolicy
  | 0xF0 => some cmdEcho
  | 0xF1 => some cmdDiagMark
  | 0xF2 => some cmdFaultRead
  | _ => none

/-- NEGOTIATE (R317). -/
def execNegotiate (f : Fin 65) (p : Pkt) (s : State) : Host.Outcome State Fault Refusal :=
  s.run (fun b => b.submit catalogue 0x00 f p)

/-- SESSION_SET (R325). -/
def execSessionSet (f : Fin 65) (p : Pkt) (s : State) : Host.Outcome State Fault Refusal :=
  s.run (fun b => b.submit catalogue 0x01 f p)

/-- IDENTIFY (R339). -/
def execIdentify (f : Fin 65) (p : Pkt) (s : State) : Host.Outcome State Fault Refusal :=
  s.run (fun b => b.submit catalogue 0x02 f p)

/-- NOP (R339). -/
def execNop (f : Fin 65) (p : Pkt) (s : State) : Host.Outcome State Fault Refusal :=
  s.run (fun b => b.submit catalogue 0x03 f p)

/-- TAP_SET (R340). -/
def execTapSet (f : Fin 65) (p : Pkt) (s : State) : Host.Outcome State Fault Refusal :=
  s.run (fun b => b.submit catalogue 0x10 f p)

/-- TAP_STATUS (R340). -/
def execTapStatus (f : Fin 65) (p : Pkt) (s : State) : Host.Outcome State Fault Refusal :=
  s.run (fun b => b.submit catalogue 0x11 f p)

/-- CTX_WRITE (R95). -/
def execCtxWrite (f : Fin 65) (p : Pkt) (s : State) : Host.Outcome State Fault Refusal :=
  s.run (fun b => b.submit catalogue 0x12 f p)

/-- CTX_READ (R340). -/
def execCtxRead (f : Fin 65) (p : Pkt) (s : State) : Host.Outcome State Fault Refusal :=
  s.run (fun b => b.submit catalogue 0x13 f p)

/-- LAUTER_WRITE (R101). -/
def execLauterWrite (f : Fin 65) (p : Pkt) (s : State) : Host.Outcome State Fault Refusal :=
  s.run (fun b => b.submit catalogue 0x20 f p)

/-- LAUTER_READ (R341). -/
def execLauterRead (f : Fin 65) (p : Pkt) (s : State) : Host.Outcome State Fault Refusal :=
  s.run (fun b => b.submit catalogue 0x21 f p)

/-- LAUTER_DEFAULT (R103). -/
def execLauterDefault (f : Fin 65) (p : Pkt) (s : State) : Host.Outcome State Fault Refusal :=
  s.run (fun b => b.submit catalogue 0x22 f p)

/-- CMP_WRITE (R108). -/
def execCmpWrite (f : Fin 65) (p : Pkt) (s : State) : Host.Outcome State Fault Refusal :=
  s.run (fun b => b.submit catalogue 0x23 f p)

/-- SEQ_CONTROL (R109). -/
def execSeqControl (f : Fin 65) (p : Pkt) (s : State) : Host.Outcome State Fault Refusal :=
  s.run (fun b => b.submit catalogue 0x24 f p)

/-- SEQ_REARM (R111). -/
def execSeqRearm (f : Fin 65) (p : Pkt) (s : State) : Host.Outcome State Fault Refusal :=
  s.run (fun b => b.submit catalogue 0x25 f p)

/-- SEQ_STATUS (R341). -/
def execSeqStatus (f : Fin 65) (p : Pkt) (s : State) : Host.Outcome State Fault Refusal :=
  s.run (fun b => b.submit catalogue 0x26 f p)

/-- SEQ_OWNER (R104). -/
def execSeqOwner (f : Fin 65) (p : Pkt) (s : State) : Host.Outcome State Fault Refusal :=
  s.run (fun b => b.submit catalogue 0x27 f p)

/-- STREAM_FORMAT (R149). -/
def execStreamFormat (f : Fin 65) (p : Pkt) (s : State) : Host.Outcome State Fault Refusal :=
  s.run (fun b => b.submit catalogue 0x28 f p)

/-- STATION_COUNTERS (R341). -/
def execStationCounters (f : Fin 65) (p : Pkt) (s : State) : Host.Outcome State Fault Refusal :=
  s.run (fun b => b.submit catalogue 0x29 f p)

/-- CASK_MODE (R163). -/
def execCaskMode (f : Fin 65) (p : Pkt) (s : State) : Host.Outcome State Fault Refusal :=
  s.run (fun b => b.submit catalogue 0x30 f p)

/-- CASK_DRAIN (R343). -/
def execCaskDrain (f : Fin 65) (p : Pkt) (s : State) : Host.Outcome State Fault Refusal :=
  s.run (fun b => b.submit catalogue 0x31 f p)

/-- CASK_RELEASE (R169). -/
def execCaskRelease (f : Fin 65) (p : Pkt) (s : State) : Host.Outcome State Fault Refusal :=
  s.run (fun b => b.submit catalogue 0x32 f p)

/-- CASK_STATUS (R342). -/
def execCaskStatus (f : Fin 65) (p : Pkt) (s : State) : Host.Outcome State Fault Refusal :=
  s.run (fun b => b.submit catalogue 0x33 f p)

/-- CASK_POOL (R342). -/
def execCaskPool (f : Fin 65) (p : Pkt) (s : State) : Host.Outcome State Fault Refusal :=
  s.run (fun b => b.submit catalogue 0x34 f p)

/-- CASK_FENCE_READ (R342). -/
def execCaskFenceRead (f : Fin 65) (p : Pkt) (s : State) : Host.Outcome State Fault Refusal :=
  s.run (fun b => b.submit catalogue 0x35 f p)

/-- CASK_MACRO (R342). -/
def execCaskMacro (f : Fin 65) (p : Pkt) (s : State) : Host.Outcome State Fault Refusal :=
  s.run (fun b => b.submit catalogue 0x36 f p)

/-- CASK_PATROL (R177). -/
def execCaskPatrol (f : Fin 65) (p : Pkt) (s : State) : Host.Outcome State Fault Refusal :=
  s.run (fun b => b.submit catalogue 0x37 f p)

/-- AGENT_MAP_WRITE (R180). -/
def execAgentMapWrite (f : Fin 65) (p : Pkt) (s : State) : Host.Outcome State Fault Refusal :=
  s.run (fun b => b.submit catalogue 0x40 f p)

/-- AGENT_WRITE (R181). -/
def execAgentWrite (f : Fin 65) (p : Pkt) (s : State) : Host.Outcome State Fault Refusal :=
  s.run (fun b => b.submit catalogue 0x41 f p)

/-- REASON_MAP_WRITE (R184). -/
def execReasonMapWrite (f : Fin 65) (p : Pkt) (s : State) : Host.Outcome State Fault Refusal :=
  s.run (fun b => b.submit catalogue 0x42 f p)

/-- LOOP_WRITE (R193). -/
def execLoopWrite (f : Fin 65) (p : Pkt) (s : State) : Host.Outcome State Fault Refusal :=
  s.run (fun b => b.submit catalogue 0x43 f p)

/-- MASH_READ (R344). -/
def execMashRead (f : Fin 65) (p : Pkt) (s : State) : Host.Outcome State Fault Refusal :=
  s.run (fun b => b.submit catalogue 0x44 f p)

/-- LOOP_STATUS (R344). -/
def execLoopStatus (f : Fin 65) (p : Pkt) (s : State) : Host.Outcome State Fault Refusal :=
  s.run (fun b => b.submit catalogue 0x45 f p)

/-- ASY_BIND (R217). -/
def execAsyBind (f : Fin 65) (p : Pkt) (s : State) : Host.Outcome State Fault Refusal :=
  s.run (fun b => b.submit catalogue 0x50 f p)

/-- ASY_UNIT (R246). -/
def execAsyUnit (f : Fin 65) (p : Pkt) (s : State) : Host.Outcome State Fault Refusal :=
  s.run (fun b => b.submit catalogue 0x51 f p)

/-- PROFILE_WRITE (R230). -/
def execProfileWrite (f : Fin 65) (p : Pkt) (s : State) : Host.Outcome State Fault Refusal :=
  s.run (fun b => b.submit catalogue 0x52 f p)

/-- REF_WRITE (R232). -/
def execRefWrite (f : Fin 65) (p : Pkt) (s : State) : Host.Outcome State Fault Refusal :=
  s.run (fun b => b.submit catalogue 0x53 f p)

/-- ASY_READ (R345). -/
def execAsyRead (f : Fin 65) (p : Pkt) (s : State) : Host.Outcome State Fault Refusal :=
  s.run (fun b => b.submit catalogue 0x54 f p)

/-- ASY_FLUSH (R345). -/
def execAsyFlush (f : Fin 65) (p : Pkt) (s : State) : Host.Outcome State Fault Refusal :=
  s.run (fun b => b.submit catalogue 0x55 f p)

/-- SYNC_DECLARE (R254). -/
def execSyncDeclare (f : Fin 65) (p : Pkt) (s : State) : Host.Outcome State Fault Refusal :=
  s.run (fun b => b.submit catalogue 0x60 f p)

/-- SYNC_READ (R346). -/
def execSyncRead (f : Fin 65) (p : Pkt) (s : State) : Host.Outcome State Fault Refusal :=
  s.run (fun b => b.submit catalogue 0x61 f p)

/-- TAP_WAIT_READ (R346). -/
def execTapWaitRead (f : Fin 65) (p : Pkt) (s : State) : Host.Outcome State Fault Refusal :=
  s.run (fun b => b.submit catalogue 0x62 f p)

/-- KNOT_WALK (R260). -/
def execKnotWalk (f : Fin 65) (p : Pkt) (s : State) : Host.Outcome State Fault Refusal :=
  s.run (fun b => b.submit catalogue 0x63 f p)

/-- SNAPSHOT (R266). -/
def execSnapshot (f : Fin 65) (p : Pkt) (s : State) : Host.Outcome State Fault Refusal :=
  s.run (fun b => b.submit catalogue 0x64 f p)

/-- SYNC_SET (R255). -/
def execSyncSet (f : Fin 65) (p : Pkt) (s : State) : Host.Outcome State Fault Refusal :=
  s.run (fun b => b.submit catalogue 0x65 f p)

/-- SYNC_COUNTERS (R273). -/
def execSyncCounters (f : Fin 65) (p : Pkt) (s : State) : Host.Outcome State Fault Refusal :=
  s.run (fun b => b.submit catalogue 0x66 f p)

/-- CNT_WRITE (R281). -/
def execCntWrite (f : Fin 65) (p : Pkt) (s : State) : Host.Outcome State Fault Refusal :=
  s.run (fun b => b.submit catalogue 0x70 f p)

/-- CNT_READ (R347). -/
def execCntRead (f : Fin 65) (p : Pkt) (s : State) : Host.Outcome State Fault Refusal :=
  s.run (fun b => b.submit catalogue 0x71 f p)

/-- CNT_SAMPLE (R294). -/
def execCntSample (f : Fin 65) (p : Pkt) (s : State) : Host.Outcome State Fault Refusal :=
  s.run (fun b => b.submit catalogue 0x72 f p)

/-- FREEZE (R284). -/
def execFreeze (f : Fin 65) (p : Pkt) (s : State) : Host.Outcome State Fault Refusal :=
  s.run (fun b => b.submit catalogue 0x73 f p)

/-- FREEZE_STATUS (R347). -/
def execFreezeStatus (f : Fin 65) (p : Pkt) (s : State) : Host.Outcome State Fault Refusal :=
  s.run (fun b => b.submit catalogue 0x74 f p)

/-- FREEZE_CANCEL (R347). -/
def execFreezeCancel (f : Fin 65) (p : Pkt) (s : State) : Host.Outcome State Fault Refusal :=
  s.run (fun b => b.submit catalogue 0x75 f p)

/-- FREEZE_SET (R291). -/
def execFreezeSet (f : Fin 65) (p : Pkt) (s : State) : Host.Outcome State Fault Refusal :=
  s.run (fun b => b.submit catalogue 0x76 f p)

/-- CNT_VIEW (R295). -/
def execCntView (f : Fin 65) (p : Pkt) (s : State) : Host.Outcome State Fault Refusal :=
  s.run (fun b => b.submit catalogue 0x77 f p)

/-- TIME_STATUS (R348). -/
def execTimeStatus (f : Fin 65) (p : Pkt) (s : State) : Host.Outcome State Fault Refusal :=
  s.run (fun b => b.submit catalogue 0x80 f p)

/-- TIME_SET (R36). -/
def execTimeSet (f : Fin 65) (p : Pkt) (s : State) : Host.Outcome State Fault Refusal :=
  s.run (fun b => b.submit catalogue 0x81 f p)

/-- TCAL_READ (R348). -/
def execTcalRead (f : Fin 65) (p : Pkt) (s : State) : Host.Outcome State Fault Refusal :=
  s.run (fun b => b.submit catalogue 0x82 f p)

/-- TSYNC_NOW (R55). -/
def execTsyncNow (f : Fin 65) (p : Pkt) (s : State) : Host.Outcome State Fault Refusal :=
  s.run (fun b => b.submit catalogue 0x83 f p)

/-- PORT_ALPHA (R348). -/
def execPortAlpha (f : Fin 65) (p : Pkt) (s : State) : Host.Outcome State Fault Refusal :=
  s.run (fun b => b.submit catalogue 0x84 f p)

/-- SPARGE_BIND (R349). -/
def execSpargeBind (f : Fin 65) (p : Pkt) (s : State) : Host.Outcome State Fault Refusal :=
  s.run (fun b => b.submit catalogue 0x90 f p)

/-- SPARGE_STATUS (R349). -/
def execSpargeStatus (f : Fin 65) (p : Pkt) (s : State) : Host.Outcome State Fault Refusal :=
  s.run (fun b => b.submit catalogue 0x91 f p)

/-- SPARGE_RESUME (R408). -/
def execSpargeResume (f : Fin 65) (p : Pkt) (s : State) : Host.Outcome State Fault Refusal :=
  s.run (fun b => b.submit catalogue 0x92 f p)

/-- TENANT_SET (R351). -/
def execTenantSet (f : Fin 65) (p : Pkt) (s : State) : Host.Outcome State Fault Refusal :=
  s.run (fun b => b.submit catalogue 0xA0 f p)

/-- TENANT_GET (R350). -/
def execTenantGet (f : Fin 65) (p : Pkt) (s : State) : Host.Outcome State Fault Refusal :=
  s.run (fun b => b.submit catalogue 0xA1 f p)

/-- TENANT_RESET (R375). -/
def execTenantReset (f : Fin 65) (p : Pkt) (s : State) : Host.Outcome State Fault Refusal :=
  s.run (fun b => b.submit catalogue 0xA2 f p)

/-- VIOLATIONS (R362). -/
def execViolations (f : Fin 65) (p : Pkt) (s : State) : Host.Outcome State Fault Refusal :=
  s.run (fun b => b.submit catalogue 0xA3 f p)

/-- SCRUB_ABORT (R387). -/
def execScrubAbort (f : Fin 65) (p : Pkt) (s : State) : Host.Outcome State Fault Refusal :=
  s.run (fun b => b.submit catalogue 0xA4 f p)

/-- PORT_COUNTERS (R350). -/
def execPortCounters (f : Fin 65) (p : Pkt) (s : State) : Host.Outcome State Fault Refusal :=
  s.run (fun b => b.submit catalogue 0xA5 f p)

/-- FABRIC_STATUS (R352). -/
def execFabricStatus (f : Fin 65) (p : Pkt) (s : State) : Host.Outcome State Fault Refusal :=
  s.run (fun b => b.submit catalogue 0xB0 f p)

/-- LINK_STATUS (R352). -/
def execLinkStatus (f : Fin 65) (p : Pkt) (s : State) : Host.Outcome State Fault Refusal :=
  s.run (fun b => b.submit catalogue 0xB1 f p)

/-- LINK_CONTROL (R352). -/
def execLinkControl (f : Fin 65) (p : Pkt) (s : State) : Host.Outcome State Fault Refusal :=
  s.run (fun b => b.submit catalogue 0xB2 f p)

/-- ROUTE_READ (R352). -/
def execRouteRead (f : Fin 65) (p : Pkt) (s : State) : Host.Outcome State Fault Refusal :=
  s.run (fun b => b.submit catalogue 0xB3 f p)

/-- REDISCOVER (R427). -/
def execRediscover (f : Fin 65) (p : Pkt) (s : State) : Host.Outcome State Fault Refusal :=
  s.run (fun b => b.submit catalogue 0xB4 f p)

/-- KEY_ROTATE (R440). -/
def execKeyRotate (f : Fin 65) (p : Pkt) (s : State) : Host.Outcome State Fault Refusal :=
  s.run (fun b => b.submit catalogue 0xB5 f p)

/-- MEAS_STATUS (R353). -/
def execMeasStatus (f : Fin 65) (p : Pkt) (s : State) : Host.Outcome State Fault Refusal :=
  s.run (fun b => b.submit catalogue 0xC0 f p)

/-- MEAS_READ (R450). -/
def execMeasRead (f : Fin 65) (p : Pkt) (s : State) : Host.Outcome State Fault Refusal :=
  s.run (fun b => b.submit catalogue 0xC1 f p)

/-- PATCH_DIGEST (R453). -/
def execPatchDigest (f : Fin 65) (p : Pkt) (s : State) : Host.Outcome State Fault Refusal :=
  s.run (fun b => b.submit catalogue 0xC2 f p)

/-- POWER_HOLD (R355). -/
def execPowerHold (f : Fin 65) (p : Pkt) (s : State) : Host.Outcome State Fault Refusal :=
  s.run (fun b => b.submit catalogue 0xD0 f p)

/-- POWER_STATUS (R354). -/
def execPowerStatus (f : Fin 65) (p : Pkt) (s : State) : Host.Outcome State Fault Refusal :=
  s.run (fun b => b.submit catalogue 0xD1 f p)

/-- POWER_POLICY (R355). -/
def execPowerPolicy (f : Fin 65) (p : Pkt) (s : State) : Host.Outcome State Fault Refusal :=
  s.run (fun b => b.submit catalogue 0xD2 f p)

/-- ECHO (R356). -/
def execEcho (f : Fin 65) (p : Pkt) (s : State) : Host.Outcome State Fault Refusal :=
  s.run (fun b => b.submit catalogue 0xF0 f p)

/-- DIAG_MARK (R357). -/
def execDiagMark (f : Fin 65) (p : Pkt) (s : State) : Host.Outcome State Fault Refusal :=
  s.run (fun b => b.submit catalogue 0xF1 f p)

/-- FAULT_READ (R356). -/
def execFaultRead (f : Fin 65) (p : Pkt) (s : State) : Host.Outcome State Fault Refusal :=
  s.run (fun b => b.submit catalogue 0xF2 f p)

end Sys2Proof.Machine
end

