-- ==== Sys2Proof/Machine/Dispatch.lean ====
section
/-! DEFINITION. What each command does: one arm per constructor, one call of its meaning. -/

namespace Sys2Proof.Machine

def exec (i : Instr) (s : State) : Host.Outcome State Fault Refusal :=
  match i with
  | .negotiate f p => Sys2Proof.Machine.execNegotiate f p s
  | .sessionSet f p => Sys2Proof.Machine.execSessionSet f p s
  | .identify f p => Sys2Proof.Machine.execIdentify f p s
  | .nop f p => Sys2Proof.Machine.execNop f p s
  | .tapSet f p => Sys2Proof.Machine.execTapSet f p s
  | .tapStatus f p => Sys2Proof.Machine.execTapStatus f p s
  | .ctxWrite f p => Sys2Proof.Machine.execCtxWrite f p s
  | .ctxRead f p => Sys2Proof.Machine.execCtxRead f p s
  | .lauterWrite f p => Sys2Proof.Machine.execLauterWrite f p s
  | .lauterRead f p => Sys2Proof.Machine.execLauterRead f p s
  | .lauterDefault f p => Sys2Proof.Machine.execLauterDefault f p s
  | .cmpWrite f p => Sys2Proof.Machine.execCmpWrite f p s
  | .seqControl f p => Sys2Proof.Machine.execSeqControl f p s
  | .seqRearm f p => Sys2Proof.Machine.execSeqRearm f p s
  | .seqStatus f p => Sys2Proof.Machine.execSeqStatus f p s
  | .seqOwner f p => Sys2Proof.Machine.execSeqOwner f p s
  | .streamFormat f p => Sys2Proof.Machine.execStreamFormat f p s
  | .stationCounters f p => Sys2Proof.Machine.execStationCounters f p s
  | .caskMode f p => Sys2Proof.Machine.execCaskMode f p s
  | .caskDrain f p => Sys2Proof.Machine.execCaskDrain f p s
  | .caskRelease f p => Sys2Proof.Machine.execCaskRelease f p s
  | .caskStatus f p => Sys2Proof.Machine.execCaskStatus f p s
  | .caskPool f p => Sys2Proof.Machine.execCaskPool f p s
  | .caskFenceRead f p => Sys2Proof.Machine.execCaskFenceRead f p s
  | .caskMacro f p => Sys2Proof.Machine.execCaskMacro f p s
  | .caskPatrol f p => Sys2Proof.Machine.execCaskPatrol f p s
  | .agentMapWrite f p => Sys2Proof.Machine.execAgentMapWrite f p s
  | .agentWrite f p => Sys2Proof.Machine.execAgentWrite f p s
  | .reasonMapWrite f p => Sys2Proof.Machine.execReasonMapWrite f p s
  | .loopWrite f p => Sys2Proof.Machine.execLoopWrite f p s
  | .mashRead f p => Sys2Proof.Machine.execMashRead f p s
  | .loopStatus f p => Sys2Proof.Machine.execLoopStatus f p s
  | .asyBind f p => Sys2Proof.Machine.execAsyBind f p s
  | .asyUnit f p => Sys2Proof.Machine.execAsyUnit f p s
  | .profileWrite f p => Sys2Proof.Machine.execProfileWrite f p s
  | .refWrite f p => Sys2Proof.Machine.execRefWrite f p s
  | .asyRead f p => Sys2Proof.Machine.execAsyRead f p s
  | .asyFlush f p => Sys2Proof.Machine.execAsyFlush f p s
  | .syncDeclare f p => Sys2Proof.Machine.execSyncDeclare f p s
  | .syncRead f p => Sys2Proof.Machine.execSyncRead f p s
  | .tapWaitRead f p => Sys2Proof.Machine.execTapWaitRead f p s
  | .knotWalk f p => Sys2Proof.Machine.execKnotWalk f p s
  | .snapshot f p => Sys2Proof.Machine.execSnapshot f p s
  | .syncSet f p => Sys2Proof.Machine.execSyncSet f p s
  | .syncCounters f p => Sys2Proof.Machine.execSyncCounters f p s
  | .cntWrite f p => Sys2Proof.Machine.execCntWrite f p s
  | .cntRead f p => Sys2Proof.Machine.execCntRead f p s
  | .cntSample f p => Sys2Proof.Machine.execCntSample f p s
  | .freeze f p => Sys2Proof.Machine.execFreeze f p s
  | .freezeStatus f p => Sys2Proof.Machine.execFreezeStatus f p s
  | .freezeCancel f p => Sys2Proof.Machine.execFreezeCancel f p s
  | .freezeSet f p => Sys2Proof.Machine.execFreezeSet f p s
  | .cntView f p => Sys2Proof.Machine.execCntView f p s
  | .timeStatus f p => Sys2Proof.Machine.execTimeStatus f p s
  | .timeSet f p => Sys2Proof.Machine.execTimeSet f p s
  | .tcalRead f p => Sys2Proof.Machine.execTcalRead f p s
  | .tsyncNow f p => Sys2Proof.Machine.execTsyncNow f p s
  | .portAlpha f p => Sys2Proof.Machine.execPortAlpha f p s
  | .spargeBind f p => Sys2Proof.Machine.execSpargeBind f p s
  | .spargeStatus f p => Sys2Proof.Machine.execSpargeStatus f p s
  | .spargeResume f p => Sys2Proof.Machine.execSpargeResume f p s
  | .tenantSet f p => Sys2Proof.Machine.execTenantSet f p s
  | .tenantGet f p => Sys2Proof.Machine.execTenantGet f p s
  | .tenantReset f p => Sys2Proof.Machine.execTenantReset f p s
  | .violations f p => Sys2Proof.Machine.execViolations f p s
  | .scrubAbort f p => Sys2Proof.Machine.execScrubAbort f p s
  | .portCounters f p => Sys2Proof.Machine.execPortCounters f p s
  | .fabricStatus f p => Sys2Proof.Machine.execFabricStatus f p s
  | .linkStatus f p => Sys2Proof.Machine.execLinkStatus f p s
  | .linkControl f p => Sys2Proof.Machine.execLinkControl f p s
  | .routeRead f p => Sys2Proof.Machine.execRouteRead f p s
  | .rediscover f p => Sys2Proof.Machine.execRediscover f p s
  | .keyRotate f p => Sys2Proof.Machine.execKeyRotate f p s
  | .measStatus f p => Sys2Proof.Machine.execMeasStatus f p s
  | .measRead f p => Sys2Proof.Machine.execMeasRead f p s
  | .patchDigest f p => Sys2Proof.Machine.execPatchDigest f p s
  | .powerHold f p => Sys2Proof.Machine.execPowerHold f p s
  | .powerStatus f p => Sys2Proof.Machine.execPowerStatus f p s
  | .powerPolicy f p => Sys2Proof.Machine.execPowerPolicy f p s
  | .echo f p => Sys2Proof.Machine.execEcho f p s
  | .diagMark f p => Sys2Proof.Machine.execDiagMark f p s
  | .faultRead f p => Sys2Proof.Machine.execFaultRead f p s
  | .cmdDataWrite r => Sys2Proof.Machine.execCmdDataWrite r s
  | .abortOpen r => Sys2Proof.Machine.execAbortOpen r s
  | .abortQueued r => Sys2Proof.Machine.execAbortQueued r s
  | .rspDataRead r => Sys2Proof.Machine.execRspDataRead r s
  | .rspStallExpiry f => Sys2Proof.Machine.execRspStallExpiry f s
  | .rspMarkWrite r => Sys2Proof.Machine.execRspMarkWrite r s
  | .rspRewind r => Sys2Proof.Machine.execRspRewind r s
  | .rspRelease r => Sys2Proof.Machine.execRspRelease r s
  | .fnResetWrite r => Sys2Proof.Machine.execFnResetWrite r s
  | .intStatusClear r => Sys2Proof.Machine.execIntStatusClear r s
  | .intEnableWrite r => Sys2Proof.Machine.execIntEnableWrite r s
  | .doorbell ch r => Sys2Proof.Machine.execDoorbell ch r s
  | .ringReset ch r => Sys2Proof.Machine.execRingReset ch r s
  | .channelEnable ch r => Sys2Proof.Machine.execChannelEnable ch r s
  | .channelDisable ch r => Sys2Proof.Machine.execChannelDisable ch r s
  | .cntClearTime r => Sys2Proof.Machine.execCntClearTime r s
  | .cntClearMeas r => Sys2Proof.Machine.execCntClearMeas r s
  | .cntClearRec r => Sys2Proof.Machine.execCntClearRec r s
  | .cntClearBuserr r => Sys2Proof.Machine.execCntClearBuserr r s
  | .cntClearDefer r => Sys2Proof.Machine.execCntClearDefer r s
  | .snapRelease r => Sys2Proof.Machine.execSnapRelease r s
  | .splitLoRead a => Sys2Proof.Machine.execSplitLoRead a s
  | .accessOutsideRights we a => Sys2Proof.Machine.execAccessOutsideRights we a s
  | .registerWrite a => Sys2Proof.Machine.execRegisterWrite a s
  | .registerAccessHeld we a => Sys2Proof.Machine.execRegisterAccessHeld we a s
  | .tapAcceptItem tap cyc cls pay => Sys2Proof.Machine.execTapAcceptItem tap cyc cls pay s
  | .tapSlotWrite tap cyc => Sys2Proof.Machine.execTapSlotWrite tap cyc s
  | .tapClockStateChange tap cyc st => Sys2Proof.Machine.execTapClockStateChange tap cyc st s
  | .tapContextChange tap cyc ctx => Sys2Proof.Machine.execTapContextChange tap cyc ctx s
  | .tapDrainRequest tap cyc pwr => Sys2Proof.Machine.execTapDrainRequest tap cyc pwr s
  | .tapDrainAck tap cyc => Sys2Proof.Machine.execTapDrainAck tap cyc s
  | .tapDrainAbandon tap cyc => Sys2Proof.Machine.execTapDrainAbandon tap cyc s
  | .tapPowerUp tap retentionLost drainReq pwr ctx => Sys2Proof.Machine.execTapPowerUp tap retentionLost drainReq pwr ctx s
  | .tapEnableRise tap cyc ctx => Sys2Proof.Machine.execTapEnableRise tap cyc ctx s
  | .tapEnableFall tap cyc => Sys2Proof.Machine.execTapEnableFall tap cyc s
  | .tapStrobeArrival tap cyc phase => Sys2Proof.Machine.execTapStrobeArrival tap cyc phase s
  | .tapFreezeLatch tap cyc phase => Sys2Proof.Machine.execTapFreezeLatch tap cyc phase s
  | .tapConfigApply tap cyc => Sys2Proof.Machine.execTapConfigApply tap cyc s
  | .tapResyncRequest tap => Sys2Proof.Machine.execTapResyncRequest tap s
  | .tapAssayBeat tap beat => Sys2Proof.Machine.execTapAssayBeat tap beat s
  | .stationTakeItem st localTap => Sys2Proof.Machine.execStationTakeItem st localTap s
  | .periodStrobe st => Sys2Proof.Machine.execPeriodStrobe st s
  | .stretchTick st region => Sys2Proof.Machine.execStretchTick st region s
  | .wakeReqStrobe tap => Sys2Proof.Machine.execWakeReqStrobe tap s
  | .clockStateInputChange region state => Sys2Proof.Machine.execClockStateInputChange region state s
  | .tcalPeriodic trips => Sys2Proof.Machine.execTcalPeriodic trips s
  | .tcalIdle tap idleCycles roundTrip => Sys2Proof.Machine.execTcalIdle tap idleCycles roundTrip s
  | .crossTriggerArrival st => Sys2Proof.Machine.execCrossTriggerArrival st s
  | .assayEventArrival st => Sys2Proof.Machine.execAssayEventArrival st s
  | .seqTimerFire st cmp => Sys2Proof.Machine.execSeqTimerFire st cmp s
  | .quadrantGrant q => Sys2Proof.Machine.execQuadrantGrant q s
  | .recordOffer src => Sys2Proof.Machine.execRecordOffer src s
  | .recordFragmentEntry q => Sys2Proof.Machine.execRecordFragmentEntry q s
  | .streamFlushExpiry owner interest => Sys2Proof.Machine.execStreamFlushExpiry owner interest s
  | .patrolSlice macroNo page slot bitErrors => Sys2Proof.Machine.execPatrolSlice macroNo page slot bitErrors s
  | .syncItemApply q => Sys2Proof.Machine.execSyncItemApply q s
  | .stepQueueSpace => Sys2Proof.Machine.execStepQueueSpace s
  | .mashStepApply => Sys2Proof.Machine.execMashStepApply s
  | .loopPeriodExpiry slot => Sys2Proof.Machine.execLoopPeriodExpiry slot s
  | .windowOverlong slot => Sys2Proof.Machine.execWindowOverlong slot s
  | .recordTokenGain => Sys2Proof.Machine.execRecordTokenGain s
  | .mashScanStart => Sys2Proof.Machine.execMashScanStart s
  | .mashScanEnd => Sys2Proof.Machine.execMashScanEnd s
  | .loopRecordPlace => Sys2Proof.Machine.execLoopRecordPlace s
  | .deadlineMiss slot => Sys2Proof.Machine.execDeadlineMiss slot s
  | .noprogSweepEntry => Sys2Proof.Machine.execNoprogSweepEntry s
  | .noprogWake => Sys2Proof.Machine.execNoprogWake s
  | .knotPeriodExpiry => Sys2Proof.Machine.execKnotPeriodExpiry s
  | .knotWalkEnd => Sys2Proof.Machine.execKnotWalkEnd s
  | .snapshotCapture => Sys2Proof.Machine.execSnapshotCapture s
  | .snapshotCaptureDone => Sys2Proof.Machine.execSnapshotCaptureDone s
  | .assayBeatTake unit => Sys2Proof.Machine.execAssayBeatTake unit s
  | .rowCommit unit tap => Sys2Proof.Machine.execRowCommit unit tap s
  | .tensorGapExpiry unit tap => Sys2Proof.Machine.execTensorGapExpiry unit tap s
  | .tensorRecordPlace unit => Sys2Proof.Machine.execTensorRecordPlace unit s
  | .freezeStrobeIssue tap => Sys2Proof.Machine.execFreezeStrobeIssue tap s
  | .freezeAonStrobe => Sys2Proof.Machine.execFreezeAonStrobe s
  | .freezeLocalTFix freezeId => Sys2Proof.Machine.execFreezeLocalTFix freezeId s
  | .freezeCmdTimeout freezeId => Sys2Proof.Machine.execFreezeCmdTimeout freezeId s
  | .freezeCollect tap => Sys2Proof.Machine.execFreezeCollect tap s
  | .freezeCollectLimitExpiry tap => Sys2Proof.Machine.execFreezeCollectLimitExpiry tap s
  | .freezeResultPlace st => Sys2Proof.Machine.execFreezeResultPlace st s
  | .counterSampleReturn tap => Sys2Proof.Machine.execCounterSampleReturn tap s
  | .counterMirrorLoad tap => Sys2Proof.Machine.execCounterMirrorLoad tap s
  | .viewRefresh => Sys2Proof.Machine.execViewRefresh s
  | .timeBusSample cycles tbGt phase => Sys2Proof.Machine.execTimeBusSample cycles tbGt phase s
  | .holdoverEntry => Sys2Proof.Machine.execHoldoverEntry s
  | .ppsEdge backCycles => Sys2Proof.Machine.execPpsEdge backCycles s
  | .tsyncPeriodExpiry => Sys2Proof.Machine.execTsyncPeriodExpiry s
  | .tsyncIdleMeasure => Sys2Proof.Machine.execTsyncIdleMeasure s
  | .tsyncReqSend port t1 => Sys2Proof.Machine.execTsyncReqSend port t1 s
  | .tsyncFupTimeout => Sys2Proof.Machine.execTsyncFupTimeout s
  | .hopFrameSend port => Sys2Proof.Machine.execHopFrameSend port s
  | .idleSend port => Sys2Proof.Machine.execIdleSend port s
  | .idleReceive port fr => Sys2Proof.Machine.execIdleReceive port fr s
  | .helloReceive port fr => Sys2Proof.Machine.execHelloReceive port fr s
  | .helloSend port => Sys2Proof.Machine.execHelloSend port s
  | .helloTimeout port => Sys2Proof.Machine.execHelloTimeout port s
  | .byeReceive port fr => Sys2Proof.Machine.execByeReceive port fr s
  | .electReceive port fr => Sys2Proof.Machine.execElectReceive port fr s
  | .electQuiet => Sys2Proof.Machine.execElectQuiet s
  | .claimReceive port fr => Sys2Proof.Machine.execClaimReceive port fr s
  | .rootWaitExpiry => Sys2Proof.Machine.execRootWaitExpiry s
  | .countReqReceive port fr => Sys2Proof.Machine.execCountReqReceive port fr s
  | .countReceive port fr => Sys2Proof.Machine.execCountReceive port fr s
  | .assignReceive port fr => Sys2Proof.Machine.execAssignReceive port fr s
  | .vectorReceive port fr => Sys2Proof.Machine.execVectorReceive port fr s
  | .routingQuiet => Sys2Proof.Machine.execRoutingQuiet s
  | .tsyncCallReceive port fr => Sys2Proof.Machine.execTsyncCallReceive port fr s
  | .tsyncReqReceive port fr t2 t3 => Sys2Proof.Machine.execTsyncReqReceive port fr t2 t3 s
  | .tsyncRspReceive port fr t4 => Sys2Proof.Machine.execTsyncRspReceive port fr t4 s
  | .tsyncFupReceive port fr => Sys2Proof.Machine.execTsyncFupReceive port fr s
  | .scrubMarkReceive port fr => Sys2Proof.Machine.execScrubMarkReceive port fr s
  | .pageReqReceive port fr => Sys2Proof.Machine.execPageReqReceive port fr s
  | .pageGrantReceive port fr => Sys2Proof.Machine.execPageGrantReceive port fr s
  | .pageDataReceive port fr => Sys2Proof.Machine.execPageDataReceive port fr s
  | .pageReqRetry ch => Sys2Proof.Machine.execPageReqRetry ch s
  | .sinkSlotTimeout slot => Sys2Proof.Machine.execSinkSlotTimeout slot s
  | .freezeSchedReceive port fr => Sys2Proof.Machine.execFreezeSchedReceive port fr s
  | .freezeAckReceive port fr => Sys2Proof.Machine.execFreezeAckReceive port fr s
  | .rotateReceive port fr => Sys2Proof.Machine.execRotateReceive port fr s
  | .badTypeFrame port fr => Sys2Proof.Machine.execBadTypeFrame port fr s
  | .replayTimeout port => Sys2Proof.Machine.execReplayTimeout port s
  | .phyReady port => Sys2Proof.Machine.execPhyReady port s
  | .phyLost port => Sys2Proof.Machine.execPhyLost port s
  | .linkRetrainTimer port => Sys2Proof.Machine.execLinkRetrainTimer port s
  | .keyResponse port rxDir phase key salt err => Sys2Proof.Machine.execKeyResponse port rxDir phase key salt err s
  | .keyTimeout port => Sys2Proof.Machine.execKeyTimeout port s
  | .keyPeriodExpiry port => Sys2Proof.Machine.execKeyPeriodExpiry port s
  | .channelTakePage ch => Sys2Proof.Machine.execChannelTakePage ch s
  | .descriptorReadReturn ch data err => Sys2Proof.Machine.execDescriptorReadReturn ch data err s
  | .indexReadReturn ch data err => Sys2Proof.Machine.execIndexReadReturn ch data err s
  | .channelIssueBeat ch badUnits => Sys2Proof.Machine.execChannelIssueBeat ch badUnits s
  | .memWriteResponse id err => Sys2Proof.Machine.execMemWriteResponse id err s
  | .drainWindowStart => Sys2Proof.Machine.execDrainWindowStart s
  | .exportBeatAccept => Sys2Proof.Machine.execExportBeatAccept s
  | .scrubWrite => Sys2Proof.Machine.execScrubWrite s
  | .functionResetRequest fn => Sys2Proof.Machine.execFunctionResetRequest fn s
  | .operatorFunctionReset => Sys2Proof.Machine.execOperatorFunctionReset s
  | .resetEpoch fn => Sys2Proof.Machine.execResetEpoch fn s
  | .resetReady fn => Sys2Proof.Machine.execResetReady fn s
  | .interruptMessageSend => Sys2Proof.Machine.execInterruptMessageSend s
  | .powerStateChoose => Sys2Proof.Machine.execPowerStateChoose s
  | .activeUsExpiry => Sys2Proof.Machine.execActiveUsExpiry s
  | .wakeTimerExpiry => Sys2Proof.Machine.execWakeTimerExpiry s
  | .powerHoldExpiry f => Sys2Proof.Machine.execPowerHoldExpiry f s
  | .wakeRequest srcs => Sys2Proof.Machine.execWakeRequest srcs s
  | .blockWake => Sys2Proof.Machine.execBlockWake s
  | .powerGrant pair level => Sys2Proof.Machine.execPowerGrant pair level s
  | .clockSpeedAck => Sys2Proof.Machine.execClockSpeedAck s
  | .offRequest level => Sys2Proof.Machine.execOffRequest level s
  | .powerOnReset uid patchAddr patchLen => Sys2Proof.Machine.execPowerOnReset uid patchAddr patchLen s
  | .blockResetRequest => Sys2Proof.Machine.execBlockResetRequest s
  | .quiesceEnd => Sys2Proof.Machine.execQuiesceEnd s
  | .bootEnd => Sys2Proof.Machine.execBootEnd s
  | .patchFetchDone image err => Sys2Proof.Machine.execPatchFetchDone image err s
  | .selftestEnd macros mash shadow store assay => Sys2Proof.Machine.execSelftestEnd macros mash shadow store assay s
  | .calibrateEnd trips => Sys2Proof.Machine.execCalibrateEnd trips s
  | .startReady => Sys2Proof.Machine.execStartReady s
  | .maltsterWatchdog cause => Sys2Proof.Machine.execMaltsterWatchdog cause s
  | .imageBegin tap => Sys2Proof.Machine.execImageBegin tap s
  | .imageEnd tap => Sys2Proof.Machine.execImageEnd tap s
  | .weightLoadBeat tap => Sys2Proof.Machine.execWeightLoadBeat tap s
  | .logTake => Sys2Proof.Machine.execLogTake s
  | .quoteRequest => Sys2Proof.Machine.execQuoteRequest s
  | .ifrRequest fn => Sys2Proof.Machine.execIfrRequest fn s
  | .lockStateChange locked => Sys2Proof.Machine.execLockStateChange locked s
  | .alignmentLost => Sys2Proof.Machine.execAlignmentLost s
  | .tcalFirstMeasurement tap roundTrip => Sys2Proof.Machine.execTcalFirstMeasurement tap roundTrip s
  | .functionResetRelease fn => Sys2Proof.Machine.execFunctionResetRelease fn s
  | .blockResetRelease => Sys2Proof.Machine.execBlockResetRelease s
  | .quoteRelease => Sys2Proof.Machine.execQuoteRelease s
  | .ifrRelease => Sys2Proof.Machine.execIfrRelease s

end Sys2Proof.Machine
end

