-- ==== Sys2Proof/Machine/Tick.lean ====
section
/-! DEFINITION. What the block does in a brew cycle in which no command waits (DESIGN CHOICE, log entry 2): time passes,
and everything that the block does of its own accord without an event row of its own goes on. -/

namespace Sys2Proof.Machine

/-- One brew cycle, or one cycle of 40 ns of the always-on clock while the brew clock is stopped, passes (R31, R33).
DESIGN CHOICE, log entry 2. -/
def Block.passTime (b : Block) : Block :=
  let b := b.buildLog
  if b.timeRuns then b.passCycles 1
  else match b.power.st with
    | .nap | .kiln => (b.modTime (fun t => { t with aonGt := t.aonGt + 40 * 256 })).reachT
    | _ => b

/-- POWER_HOLD commands whose floor is reached complete (R354). DESIGN CHOICE, log entry 2. -/
def Block.settleHolds (b : Block) : Block :=
  b.finishLongs (fun _ k => match k with
    | .powerHold fl => if b.atFloor fl then some (stDone, []) else none
    | _ => none)

/-- The Maltster starts the next packet that may start (R316). DESIGN CHOICE, log entries 2 and 8. -/
def Block.serveNext (b : Block) : Block :=
  match b.nextFn catalogue with
  | some f => b.takePacket catalogue f
  | none => b

/-- An idle cycle of the block. DESIGN CHOICE, log entry 2. -/
def Block.tick (b : Block) : Block :=
  let b := b.passTime.offStep
  let b := if b.power.st == .off then b else b.irqRaise
  if !b.running then b
  else
    let b := b.pumpAll.routeLoss.grantAll.chooseSpeed.settleHolds.exRaise
    (b.each allFns (fun b f => drainParked 8 b f)).serveNext

end Sys2Proof.Machine
end

