-- ==== Sys2Proof/Machine/Step.lean ====
section
/-! DEFINITION. A step of the machine: the command at the front of the queue, or an idle cycle. -/

namespace Sys2Proof.Machine

/-- Takes the command at the front of the queue and gives `exec` on the state with the queue's rest; on an empty queue an
idle cycle passes. DESIGN CHOICE, log entries 2, 3 and 90. -/
def step (s : State) : Host.Outcome State Fault Refusal :=
  match s.pending with
  | c :: rest => exec c { s with pending := rest }
  | [] => s.run Block.tick

/-- The state with the command that a word spells put at the front of its queue; unchanged where it spells none.
DESIGN CHOICE, log entry 3. -/
def State.withFetchWord (s : State) (nbits w : Nat) : State :=
  match decodeTableWord nbits w with
  | some c => { s with pending := c :: s.pending }
  | none => s

end Sys2Proof.Machine
end

