-- ==== Sys2Proof/Safety.lean ====
section
/-! DEFINITION. What the statements speak of: the parts of the block, what an observer of all but some parts sees, the
parts that each command may change, and the ranges that the quota fields keep. -/

namespace Sys2Proof.Machine

/-! ### Parts of the block -/

/-- The parts of the block that a frame names. Five of them lie inside another part and are named apart from it: the
filter of a station (`lauter`), the agent map, agent table and reason map of the Mash array (`maps`), the bindings,
profiles and reference entries of the Assay side (`profiles`), the quota fields of the owners (`quotas`), and the ring
and window registers of the channels (`rings`). -/
inductive Area where
  | taps | views | stations | lauter | quads | ctxs | cask | mash | maps | assay | profiles | sync | freezes | ports
  | tenants | quotas | sparge | rings | hop | meas | power | time | recs | held | lo | straps | out | free
  deriving DecidableEq, Repr

/-- The filter of a station: its rules and default actions (R101, R103). -/
def Station.lauter (s : Station) : Tbl (List Word) × List Nat := (s.rules, s.defExclude)

/-- The agent map, agent table and reason map (R180, R181, R183). -/
def Mash.maps (m : Mash) : Tbl Word × Tbl Word × Tbl Nat := (m.agentMap, m.agents, m.reasons)

/-- The bindings, profiles and reference entries (R215, R230, R232). -/
def Assay.tables (a : Assay) : Tbl Word × Tbl (List Word) × Tbl Word := (a.binding, a.profiles, a.refs)

/-- The quota fields of an owner: `QOS_WEIGHT`, `CASK_QUOTA`, `DRAIN_BUDGET`, `POOL_MIN`, `POOL_MAX` and the two of
`INT_BUDGET` (R351). -/
def Tenant.quotas (t : Tenant) : Nat × Nat × Nat × Nat × Nat × Nat × Nat :=
  (t.qos, t.quota, t.budget, t.poolMin, t.poolMax, t.intRate, t.intBurst)

/-- The ring and window registers of a channel (R396). -/
def Channel.rings (c : Channel) : Nat × Nat × Nat × Nat := (c.ringBase, c.ringLog2, c.winBase, c.winSize)

/-- What is seen of a block by an observer who looks away from some of its parts. -/
structure Seen where
  taps : Option (Tbl Tap)
  views : Option (Tbl TapView)
  stations : Option (Tbl Station)
  lauter : Option (Nat → Tbl (List Word) × List Nat)
  quads : Option (Tbl Quadrant)
  ctxs : Option (Tbl Word)
  cask : Option Cask
  mash : Option Mash
  maps : Option (Tbl Word × Tbl Word × Tbl Nat)
  assay : Option Assay
  profiles : Option (Tbl Word × Tbl (List Word) × Tbl Word)
  sync : Option Sync
  freezes : Option (Tbl Freeze × Nat × Nat)
  ports : Option (Tbl Port)
  tenants : Option (Tbl Tenant)
  quotas : Option (Nat → Nat × Nat × Nat × Nat × Nat × Nat × Nat)
  sparge : Option Sparge
  rings : Option (Nat → Nat × Nat × Nat × Nat)
  hop : Option Hop
  meas : Option Meas
  power : Option Power
  time : Option Time
  recs : Option (List Rec)
  held : Option (List (Bool × Acc × Gt))
  lo : Option (Tbl (Nat × List Word))
  straps : Option (List Nat × Tbl Nat)
  out : Option (List Out)
  free : Option Nat

/-- `x`, unless part `p` is among those looked away from. -/
def Area.see {α : Type} (p : Area) (away : List Area) (x : α) : Option α := if p ∈ away then none else some x

/-- What is seen of the block when the parts `away` are left out. -/
def Block.seen (away : List Area) (b : Block) : Seen where
  taps := Area.taps.see away b.taps
  views := Area.views.see away b.views
  stations := Area.stations.see away b.stations
  lauter := Area.lauter.see away (fun n => (b.station n).lauter)
  quads := Area.quads.see away b.quads
  ctxs := Area.ctxs.see away b.ctxs
  cask := Area.cask.see away b.cask
  mash := Area.mash.see away b.mash
  maps := Area.maps.see away b.mash.maps
  assay := Area.assay.see away b.assay
  profiles := Area.profiles.see away b.assay.tables
  sync := Area.sync.see away b.sync
  freezes := Area.freezes.see away (b.freezes, b.freezeNext, b.freezeLimitUs)
  ports := Area.ports.see away b.ports
  tenants := Area.tenants.see away b.tenants
  quotas := Area.quotas.see away (fun n => (b.tenant n).quotas)
  sparge := Area.sparge.see away b.sparge
  rings := Area.rings.see away (fun n => (b.chan n).rings)
  hop := Area.hop.see away b.hop
  meas := Area.meas.see away b.meas
  power := Area.power.see away b.power
  time := Area.time.see away b.time
  recs := Area.recs.see away b.recs
  held := Area.held.see away b.held
  lo := Area.lo.see away b.lo
  straps := Area.straps.see away (b.absent, b.regionOf)
  out := Area.out.see away b.out
  free := Area.free.see away b.freeCtr

/-- Every part of the first list is in the second. -/
def Area.sub (xs ys : List Area) : Bool := xs.all (fun p => decide (p ∈ ys))

/-! ### What each command may change -/

/-- What a packet of a function may change whatever it commands: the ports with their rings, the owners' interrupt,
message and violation state, the round robin, the latch of split values, and the outputs. -/
def packetAreas : List Area := [.ports, .tenants, .power, .lo, .out]

/-- What an access of a register may change. -/
def accessAreas : List Area :=
  [.taps, .views, .stations, .cask, .sync, .ports, .tenants, .sparge, .rings, .hop, .meas, .power, .time, .held,
   .lo, .out]

/-- What a frame or a key on a hop link may change: the link, the fabric tree, fabric time, and what alignment steps. -/
def linkAreas : List Area := [.taps, .views, .stations, .cask, .ports, .tenants, .sparge, .hop, .power, .time, .out]

/-- The parts of the block that a command may change; everything else stays as it is. -/
def touches : Instr → List Area
  | .negotiate .. | .sessionSet .. | .identify .. | .nop .. | .ctxRead .. | .lauterRead .. | .caskDrain ..
  | .caskStatus .. | .caskFenceRead .. | .mashRead .. | .loopStatus .. | .syncRead .. | .tapWaitRead ..
  | .cntRead .. | .cntSample .. | .freezeStatus .. | .cntView .. | .timeStatus .. | .tcalRead .. | .tenantGet ..
  | .violations .. | .portCounters .. | .fabricStatus .. | .routeRead .. | .measStatus .. | .measRead ..
  | .patchDigest .. | .powerHold .. | .powerPolicy .. | .echo .. | .faultRead .. => packetAreas
  | .tapSet .. | .cntWrite .. => [.taps, .views] ++ packetAreas
  | .tapStatus .. => [.taps] ++ packetAreas
  | .ctxWrite .. => [.ctxs] ++ packetAreas
  | .lauterWrite .. | .lauterDefault .. => [.stations, .lauter] ++ packetAreas
  | .cmpWrite .. | .seqStatus .. | .stationCounters .. => [.stations] ++ packetAreas
  | .seqControl .. | .seqRearm .. | .seqOwner .. => [.stations, .cask] ++ packetAreas
  | .streamFormat .. => [.taps, .views, .stations, .cask] ++ packetAreas
  | .caskMode .. | .caskRelease .. | .caskPool .. | .caskMacro .. | .caskPatrol .. => [.cask] ++ packetAreas
  | .agentMapWrite .. | .agentWrite .. | .reasonMapWrite .. | .loopWrite .. => [.mash, .maps] ++ packetAreas
  | .asyBind .. => [.taps, .stations, .quads, .assay, .profiles, .meas] ++ packetAreas
  | .asyUnit .. | .asyFlush .. => [.stations, .quads, .assay] ++ packetAreas
  | .profileWrite .. | .refWrite .. => [.assay, .profiles] ++ packetAreas
  | .asyRead .. => [.assay] ++ packetAreas
  | .syncDeclare .. | .knotWalk .. | .syncSet .. | .syncCounters .. => [.sync] ++ packetAreas
  | .snapshot .. => [.sync, .freezes] ++ packetAreas
  | .freeze .. => [.freezes, .hop] ++ packetAreas
  | .freezeCancel .. | .freezeSet .. => [.freezes] ++ packetAreas
  | .timeSet .. => [.taps, .views, .stations, .quads, .cask, .mash, .sync, .time] ++ packetAreas
  | .tsyncNow .. | .portAlpha .. | .linkStatus .. | .keyRotate .. => [.hop] ++ packetAreas
  | .spargeBind .. | .spargeStatus .. | .spargeResume .. => [.sparge] ++ packetAreas
  | .tenantSet .. => [.quotas, .sparge] ++ packetAreas
  | .tenantReset .. => [.cask, .sparge, .hop] ++ packetAreas
  | .scrubAbort .. => [.taps, .views, .stations, .cask, .sparge, .hop] ++ packetAreas
  | .linkControl .. => [.taps, .views, .stations, .cask, .sparge, .hop, .time] ++ packetAreas
  | .rediscover .. => [.taps, .views, .stations, .cask, .hop, .time] ++ packetAreas
  | .powerStatus .. => [.free] ++ packetAreas
  | .diagMark .. => [.recs] ++ packetAreas
  | .cmdDataWrite .. | .abortOpen .. | .abortQueued .. | .rspDataRead .. | .rspMarkWrite .. | .rspRewind ..
  | .rspRelease .. | .fnResetWrite .. | .intStatusClear .. | .intEnableWrite .. | .doorbell .. | .ringReset ..
  | .channelEnable .. | .channelDisable .. | .cntClearTime .. | .cntClearMeas .. | .cntClearRec ..
  | .cntClearBuserr .. | .cntClearDefer .. | .snapRelease .. | .splitLoRead .. | .accessOutsideRights ..
  | .registerWrite .. | .registerAccessHeld .. => accessAreas
  | .bootEnd .. => .free :: accessAreas
  | .rspStallExpiry .. => [.ports, .out]
  | .tapAcceptItem .. | .tapSlotWrite .. | .tapClockStateChange .. => [.taps, .tenants, .meas, .power]
  | .tapContextChange .. | .tapDrainRequest .. | .tapDrainAbandon .. | .tapPowerUp ..
  | .tapStrobeArrival .. | .tapConfigApply .. | .tapResyncRequest .. => [.taps]
  | .tapDrainAck .. => [.taps, .views, .stations, .mash, .sync, .tenants, .power]
  | .tapEnableRise .. => [.taps, .views, .stations, .cask, .sync, .tenants, .power, .time]
  | .tapEnableFall .. => [.taps, .views, .stations, .cask, .mash, .sync, .tenants, .power, .time]
  | .tapFreezeLatch .. | .freezeStrobeIssue .. | .freezeAonStrobe .. | .freezeCollect ..
  | .freezeCollectLimitExpiry .. => [.taps, .freezes]
  | .tapAssayBeat .. => [.taps, .assay, .power]
  | .stationTakeItem .. => [.taps, .views, .stations, .quads, .cask, .mash, .assay, .sync, .tenants, .power, .time]
  | .periodStrobe .. | .stretchTick .. | .wakeReqStrobe .. | .clockStateInputChange .. | .tcalPeriodic ..
  | .tcalIdle .. | .holdoverEntry .. | .alignmentLost .. | .tcalFirstMeasurement .. =>
    [.taps, .views, .stations, .cask, .tenants, .power, .time]
  | .crossTriggerArrival .. | .assayEventArrival .. | .seqTimerFire .. =>
    [.taps, .views, .stations, .cask, .tenants, .power]
  | .quadrantGrant .. => [.stations, .quads, .cask, .freezes, .tenants, .power]
  | .recordOffer .. => [.quads, .tenants, .power, .recs]
  | .recordFragmentEntry .. => [.quads]
  | .streamFlushExpiry .. => [.cask]
  | .patrolSlice .. | .selftestEnd .. => [.cask, .tenants, .power]
  | .syncItemApply .. => [.views, .quads, .mash, .sync]
  | .stepQueueSpace .. | .mashStepApply .. | .loopPeriodExpiry .. | .windowOverlong .. | .recordTokenGain ..
  | .mashScanStart .. | .mashScanEnd .. => [.mash]
  | .loopRecordPlace .. => [.quads, .mash, .tenants, .power]
  | .deadlineMiss .. => [.taps, .views, .stations, .cask, .mash, .tenants, .power]
  | .noprogSweepEntry .. => [.taps, .views, .stations, .cask, .sync, .freezes, .tenants, .power, .recs]
  | .noprogWake .. => [.sync, .power]
  | .powerStateChoose .. | .activeUsExpiry .. | .wakeTimerExpiry .. | .wakeRequest ..
  | .startReady .. | .blockResetRelease .. => [.power]
  | .knotPeriodExpiry .. => [.sync, .power]
  | .knotWalkEnd .. => [.taps, .views, .stations, .cask, .sync, .freezes, .ports, .tenants, .power, .recs, .out]
  | .snapshotCapture .. => [.sync]
  | .snapshotCaptureDone .. => [.sync, .tenants, .recs, .free]
  | .assayBeatTake .. => [.taps, .stations, .quads, .assay, .tenants, .power]
  | .rowCommit .. | .tensorGapExpiry .. => [.stations, .quads, .assay, .tenants, .power]
  | .tensorRecordPlace .. => [.quads, .assay, .tenants, .power]
  | .freezeLocalTFix .. => [.freezes]
  | .freezeCmdTimeout .. | .counterSampleReturn .. | .operatorFunctionReset .. => [.ports, .tenants, .power, .out]
  | .freezeResultPlace .. => [.quads, .freezes, .tenants, .power]
  | .counterMirrorLoad .. => [.views]
  | .viewRefresh .. | .powerHoldExpiry .. | .lockStateChange .. | .functionResetRelease .. => [.tenants]
  | .timeBusSample .. =>
    [.taps, .views, .stations, .quads, .cask, .mash, .sync, .freezes, .tenants, .meas, .power, .time, .recs, .free]
  | .ppsEdge .. => [.tenants, .time]
  | .tsyncPeriodExpiry .. | .tsyncIdleMeasure .. | .tsyncReqSend .. | .electQuiet .. => [.hop]
  | .tsyncFupTimeout .. => [.ports, .tenants, .hop, .power, .time, .out]
  | .idleSend .. | .keyPeriodExpiry .. | .helloSend .. => [.hop, .out]
  | .hopFrameSend .. | .idleReceive .. | .helloReceive .. | .helloTimeout .. | .byeReceive .. | .electReceive .. | .claimReceive ..
  | .countReqReceive .. | .countReceive .. | .assignReceive .. | .vectorReceive .. | .tsyncCallReceive ..
  | .tsyncReqReceive .. | .tsyncRspReceive .. | .tsyncFupReceive .. | .scrubMarkReceive .. | .pageDataReceive ..
  | .freezeAckReceive .. | .rotateReceive .. | .badTypeFrame .. | .replayTimeout .. | .phyLost ..
  | .keyResponse .. | .keyTimeout .. => linkAreas
  | .calibrateEnd .. => [.taps, .views, .stations, .cask, .ports, .tenants, .hop, .power, .time, .out]
  | .rootWaitExpiry .. => [.taps, .views, .stations, .cask, .tenants, .hop, .power, .time]
  | .routingQuiet .. => [.ports, .tenants, .hop, .power, .out]
  | .pageReqReceive .. | .pageGrantReceive .. =>
    [.taps, .views, .stations, .cask, .ports, .tenants, .sparge, .hop, .power, .time, .out]
  | .pageReqRetry .. | .sinkSlotTimeout .. | .channelTakePage .. | .exportBeatAccept .. =>
    [.cask, .ports, .tenants, .sparge, .hop, .power, .out]
  | .freezeSchedReceive .. =>
    [.taps, .views, .stations, .cask, .freezes, .ports, .tenants, .sparge, .hop, .power, .time, .out]
  | .phyReady .. => [.tenants, .hop, .power]
  | .linkRetrainTimer .. => [.tenants, .hop, .out]
  | .descriptorReadReturn .. | .indexReadReturn .. | .channelIssueBeat .. | .functionResetRequest .. =>
    [.cask, .ports, .tenants, .sparge, .hop, .power, .out]
  | .drainWindowStart .. | .resetReady .. => [.cask, .ports, .tenants, .sparge, .power, .out]
  | .memWriteResponse .. => [.taps, .views, .stations, .cask, .ports, .tenants, .sparge, .hop, .power, .out]
  | .scrubWrite .. => [.taps, .views, .stations, .cask, .tenants, .sparge, .hop, .power, .out]
  | .resetEpoch .. =>
    [.taps, .views, .stations, .lauter, .ctxs, .cask, .mash, .maps, .assay, .profiles, .sync, .ports, .tenants,
     .sparge, .hop, .power, .out, .free]
  | .interruptMessageSend .. => [.tenants, .power, .out]
  | .blockWake .. =>
    [.taps, .views, .stations, .cask, .sync, .ports, .tenants, .sparge, .rings, .hop, .meas, .power, .time, .held,
     .lo, .out, .free]
  | .powerGrant .. => [.cask, .ports, .tenants, .sparge, .hop, .power, .time, .out]
  | .clockSpeedAck .. => [.cask, .sync, .ports, .tenants, .sparge, .hop, .power, .time, .out]
  | .offRequest .. =>
    [.taps, .views, .stations, .lauter, .quads, .ctxs, .cask, .mash, .maps, .assay, .profiles, .sync, .freezes,
     .ports, .tenants, .quotas, .sparge, .rings, .hop, .meas, .power, .time, .recs, .held, .lo, .out]
  | .powerOnReset .. | .quiesceEnd .. =>
    [.taps, .views, .stations, .lauter, .quads, .ctxs, .cask, .mash, .maps, .assay, .profiles, .sync, .freezes,
     .ports, .tenants, .quotas, .sparge, .rings, .hop, .meas, .power, .time, .recs, .held, .lo]
  | .blockResetRequest .. => [.taps, .views, .stations, .cask, .ports, .tenants, .sparge, .hop, .power, .time, .held, .out]
  | .patchFetchDone .. => [.tenants, .meas, .power, .recs]
  | .maltsterWatchdog .. => [.ports, .tenants, .power, .recs, .out]
  | .imageBegin .. | .imageEnd .. | .weightLoadBeat .. => [.taps, .meas]
  | .logTake .. => [.meas, .out]
  | .quoteRequest .. => [.meas, .power, .free]
  | .ifrRequest .. => [.meas, .free]
  | .quoteRelease .. | .ifrRelease .. => [.meas]

/-! ### A packet that starts at once, and its answer -/

/-- Function `f` has the turn, should its first packet be able to start (R316): no other function that the round robin reaches before
it, counting from the function served last, has a packet that can start. -/
def Block.hasTurn (b : Block) (f : Nat) : Bool :=
  ((upto 65).map (fun i => (b.power.lastServed + 1 + i) % 65)).find? (fun g => decide (g = f) || b.startable catalogue g) == some f

/-- A packet of function `f` that reaches the block now starts at once (R309, R316, R318, R319): the Maltster starts
commands and its self-test passed, the function has the turn, no reset of it is going on, no packet of it waits, pool and response ring
have room for it (`res` result words), and neither `ORDERED` nor, for a long command, the four long commands that a function
may have hold it back. -/
abbrev Block.takes (b : Block) (f : Nat) (p : Pkt) (res : Nat) (long : Bool) : Prop :=
  b.serving = true ∧ b.dead = false ∧ b.hasTurn f = true ∧ (b.tenant f).resetting = false ∧ (b.port f).queue = [] ∧
    (linesOf (1 + p.params.length) : Int) ≤ b.availLines f ∧
    (b.port f).usedLines + (if bit p.flags 1 then 1 else linesOf (1 + res)) ≤ 32 ∧
    (bit p.flags 0 = true → (b.port f).longs = []) ∧ (long = true → (b.port f).longs.length < 4)

/-- The packet starts at once, its port is negotiated, and all its bytes are valid (R313, R317). -/
abbrev Block.hears (b : Block) (f : Nat) (p : Pkt) (res : Nat) (long : Bool) : Prop :=
  b.takes f p res long ∧ (b.port f).negotiated = true ∧ (p.params = [] ∨ p.lastStrb = 15)

/-- The response to a packet of a function: the header word with `RSP_SEQ`, `TAG`, `LENGTH` and `STATUS`, and the result
words (R306, R320). -/
def Port.response (x : Port) (tag : BitVec 8) (status : Nat) (ws : List Word) : Rsp where
  start := x.wr
  words := w32 (pack [(8, x.rspSeq), (8, tag.toNat), (8, ws.length), (8, status)]) :: ws

/-- From `b` to `b'` the packet was answered: one response went into its function's ring, or none where `QUIET` was set and
the status is `DONE` (R320, R322). -/
abbrev Block.answered (b b' : Block) (f : Nat) (p : Pkt) (status : Nat) (ws : List Word) : Prop :=
  (b'.port f).ring = (b.port f).ring ++
    (if bit p.flags 1 = true ∧ status = stDone then [] else [(b.port f).response p.tag status ws])

/-- From `b` to `b'` the packet's command is in progress (R319, R333): function `f` has one more long command, with `n`
result words in its reserve, no response went into its ring, and the other ports are as they were. -/
abbrev Block.begins (b b' : Block) (f : Nat) (p : Pkt) (n : Nat) (kind : LongKind) : Prop :=
  (b'.port f).longs = (b.port f).longs ++
      [{ tag := p.tag.toNat, quiet := bit p.flags 1, lines := if bit p.flags 1 then 1 else linesOf (1 + n)
         order := b.power.longOrder, kind := kind }] ∧
    (b'.port f).ring = (b.port f).ring ∧ (∀ g, g ≠ f → b'.port g = b.port g)

/-- The call that a packet makes. -/
def callOf (f : Nat) (p : Pkt) : Call where
  f := f
  tag := p.tag.toNat
  ws := p.params
  bytes := 4 * p.params.length

/-- An access of source `n` acts at once when it is presented (R23, R300, R301, R478, R483): the front end takes and does not
hold it, and no read of the source is parked before it. -/
abbrev Block.admits (b : Block) (n : Nat) : Prop :=
  b.power.st ≠ .off ∧ b.power.quiesce = false ∧ b.outstanding n < 4 ∧ b.frontHolds = false ∧ (b.port n).parked = []

/-- From `b` to `b'` one response beat with this identifier and data went to source `n` (R300), and nothing changed but the
wake state, the latch of split values, and the parts `away`. -/
abbrev Block.beats (b b' : Block) (n : Nat) (id : BitVec 8) (d : Word) (away : List Area) : Prop :=
  b'.out = b.out ++ [.rt n id d] ∧ b'.seen (away ++ [.power, .out, .lo]) = b.seen (away ++ [.power, .out, .lo])

/-- From `b` to `b'` nothing changed but tap `n`, which is now `x`. -/
abbrev Block.onlyTap (b b' : Block) (n : Nat) (x : Tap) : Prop :=
  (∀ m, b'.tap m = if m = n then x else b.tap m) ∧ b'.seen [.taps] = b.seen [.taps]

/-- The tap writes items and has written none in this cycle, so that the tap slot takes one (R71, R87). -/
abbrev Tap.slotFree (t : Tap) : Prop := t.writes = true ∧ t.slotUsed = false ∧ t.engUsed = false

/-- From `b` to `b'` nothing changed but port `f`, what an answer does beside it (the round robin, and interrupt status
and due messages of function `f`: R316, R372; the busy mark and the latch: R471, R505), and the parts `away`. -/
abbrev Block.calm (b b' : Block) (f : Nat) (away : List Area) : Prop :=
  (∀ g, g ≠ f → b'.port g = b.port g) ∧ (∀ g, g ≠ f → b'.tenant g = b.tenant g) ∧
    b'.tenant f = { b.tenant f with intStatus := (b'.tenant f).intStatus, due := (b'.tenant f).due } ∧
    b'.power = b.power.served f b.gt ∧ b'.seen (away ++ packetAreas) = b.seen (away ++ packetAreas)

/-- From `b` to `b'` nothing changed but port `f`, what an answer does beside it, the configuration-change notes of owners
(R462), and the parts `away`. -/
abbrev Block.noted (b b' : Block) (f : Nat) (away : List Area) : Prop :=
  (∀ g, g ≠ f → b'.port g = b.port g) ∧
    (∀ g, g ≠ f → b'.tenant g = { b.tenant g with cfgChanged := (b'.tenant g).cfgChanged }) ∧
    b'.tenant f = { b.tenant f with
      intStatus := (b'.tenant f).intStatus, due := (b'.tenant f).due, cfgChanged := (b'.tenant f).cfgChanged } ∧
    b'.power = b.power.served f b.gt ∧ b'.seen (away ++ packetAreas) = b.seen (away ++ packetAreas)

/-! ### The commands that are packets -/

/-- The packet that a command row stands for: its opcode, its function and the packet (R304, R316); `none` for the other
rows. -/
def packetOf : Instr → Option (Nat × Fin 65 × Pkt)
  | .negotiate f p => some (0x00, f, p)
  | .sessionSet f p => some (0x01, f, p)
  | .identify f p => some (0x02, f, p)
  | .nop f p => some (0x03, f, p)
  | .tapSet f p => some (0x10, f, p)
  | .tapStatus f p => some (0x11, f, p)
  | .ctxWrite f p => some (0x12, f, p)
  | .ctxRead f p => some (0x13, f, p)
  | .lauterWrite f p => some (0x20, f, p)
  | .lauterRead f p => some (0x21, f, p)
  | .lauterDefault f p => some (0x22, f, p)
  | .cmpWrite f p => some (0x23, f, p)
  | .seqControl f p => some (0x24, f, p)
  | .seqRearm f p => some (0x25, f, p)
  | .seqStatus f p => some (0x26, f, p)
  | .seqOwner f p => some (0x27, f, p)
  | .streamFormat f p => some (0x28, f, p)
  | .stationCounters f p => some (0x29, f, p)
  | .caskMode f p => some (0x30, f, p)
  | .caskDrain f p => some (0x31, f, p)
  | .caskRelease f p => some (0x32, f, p)
  | .caskStatus f p => some (0x33, f, p)
  | .caskPool f p => some (0x34, f, p)
  | .caskFenceRead f p => some (0x35, f, p)
  | .caskMacro f p => some (0x36, f, p)
  | .caskPatrol f p => some (0x37, f, p)
  | .agentMapWrite f p => some (0x40, f, p)
  | .agentWrite f p => some (0x41, f, p)
  | .reasonMapWrite f p => some (0x42, f, p)
  | .loopWrite f p => some (0x43, f, p)
  | .mashRead f p => some (0x44, f, p)
  | .loopStatus f p => some (0x45, f, p)
  | .asyBind f p => some (0x50, f, p)
  | .asyUnit f p => some (0x51, f, p)
  | .profileWrite f p => some (0x52, f, p)
  | .refWrite f p => some (0x53, f, p)
  | .asyRead f p => some (0x54, f, p)
  | .asyFlush f p => some (0x55, f, p)
  | .syncDeclare f p => some (0x60, f, p)
  | .syncRead f p => some (0x61, f, p)
  | .tapWaitRead f p => some (0x62, f, p)
  | .knotWalk f p => some (0x63, f, p)
  | .snapshot f p => some (0x64, f, p)
  | .syncSet f p => some (0x65, f, p)
  | .syncCounters f p => some (0x66, f, p)
  | .cntWrite f p => some (0x70, f, p)
  | .cntRead f p => some (0x71, f, p)
  | .cntSample f p => some (0x72, f, p)
  | .freeze f p => some (0x73, f, p)
  | .freezeStatus f p => some (0x74, f, p)
  | .freezeCancel f p => some (0x75, f, p)
  | .freezeSet f p => some (0x76, f, p)
  | .cntView f p => some (0x77, f, p)
  | .timeStatus f p => some (0x80, f, p)
  | .timeSet f p => some (0x81, f, p)
  | .tcalRead f p => some (0x82, f, p)
  | .tsyncNow f p => some (0x83, f, p)
  | .portAlpha f p => some (0x84, f, p)
  | .spargeBind f p => some (0x90, f, p)
  | .spargeStatus f p => some (0x91, f, p)
  | .spargeResume f p => some (0x92, f, p)
  | .tenantSet f p => some (0xA0, f, p)
  | .tenantGet f p => some (0xA1, f, p)
  | .tenantReset f p => some (0xA2, f, p)
  | .violations f p => some (0xA3, f, p)
  | .scrubAbort f p => some (0xA4, f, p)
  | .portCounters f p => some (0xA5, f, p)
  | .fabricStatus f p => some (0xB0, f, p)
  | .linkStatus f p => some (0xB1, f, p)
  | .linkControl f p => some (0xB2, f, p)
  | .routeRead f p => some (0xB3, f, p)
  | .rediscover f p => some (0xB4, f, p)
  | .keyRotate f p => some (0xB5, f, p)
  | .measStatus f p => some (0xC0, f, p)
  | .measRead f p => some (0xC1, f, p)
  | .patchDigest f p => some (0xC2, f, p)
  | .powerHold f p => some (0xD0, f, p)
  | .powerStatus f p => some (0xD1, f, p)
  | .powerPolicy f p => some (0xD2, f, p)
  | .echo f p => some (0xF0, f, p)
  | .diagMark f p => some (0xF1, f, p)
  | .faultRead f p => some (0xF2, f, p)
  | _ => none

/-- The packet starts at once, with the response lines and the kind that the catalogue gives its opcode, and all its bytes
are valid (R313, R318, R319). -/
abbrev Block.starts (b : Block) (f : Nat) (p : Pkt) (e : Cmd) : Prop :=
  b.takes f p (e.res p.params.length) (e.long { f := f, tag := 0, ws := p.params, bytes := 0 }) ∧
    (p.params = [] ∨ p.lastStrb = 15)

/-- A long command is a CASK_DRAIN. -/
def LongKind.isDrain : LongKind → Bool
  | .caskDrain .. => true
  | _ => false

/-- No CASK_DRAIN is in progress. -/
abbrev Block.noDrain (b : Block) : Prop := (b.allLongs.all (fun e => !e.2.kind.isDrain)) = true

/-! ### Waiting commands and arriving frames -/

/-- The one long command in progress is `l` of function `n`; it is not `QUIET`, and no read of the port is parked (R319). -/
abbrev Block.waitsFor (b : Block) (n : Nat) (l : Long) : Prop :=
  b.allLongs = [(n, l)] ∧ l.quiet = false ∧ (b.port n).parked = []

/-- From `b` to `b'` long command `l` of function `n` completed: it left the port and its response went into the ring (R319,
R320, R322). -/
abbrev Block.finished (b b' : Block) (n : Nat) (l : Long) (status : Nat) (ws : List Word) : Prop :=
  b'.port n = { b.port n with longs := (b.port n).longs.erase l }.push l.tag status ws ∧
    (∀ g, g ≠ n → b'.port g = b.port g)

/-- Frame `f` arrives in sequence and intact on port `p`, whose link is Up with no frame unacknowledged or waiting to be resent
(R418, R420); opened it is `g`, of a type that the link's version defines (R419, R439). -/
def Block.hearsFrame (b : Block) (p : Nat) (f g : Frame) : Prop :=
  b.hopRuns = true ∧ (b.hopPort p).st = .up ∧ (b.hopPort p).replay = [] ∧ (b.hopPort p).resend = [] ∧ g.nak = false ∧
    unsequenced f.ftype.toNat = false ∧ f.crc.toNat = frameCrc f ∧ f.lseq.toNat = (b.hopPort p).rxNext ∧
    definedType (b.hopPort p).version f.ftype.toNat = true ∧
    (((b.hopPort p).compat = false ∧ g = f) ∨
      ∃ k, (b.hopPort p).compat = true ∧ (b.hopPort p).rxKeyOf f.kph = some k ∧ openFrame k f = some g)

/-- The block after an arriving frame was accepted and left the receive buffer, before its type takes effect: the next
sequence number, the neighbour, the credit returned and the flits to return (R418, R420). DEDUCED, log entry 40. -/
def Block.received (b : Block) (p : Nat) (f : Frame) : Block :=
  b.modHopPort p (fun x => { x with
    rxNext := (x.rxNext + 1) % 2 ^ 16
    node := if f.ftype.toNat ≤ 4 ∨ f.ftype.toNat = 0xA then f.src.toNat else x.node
    credits := min 1024 (x.credits + f.cred.toNat)
    credRet := x.credRet + flitsOf x.compat f }.stampAck)

/-! ### Quota ranges -/

/-- The ranges of an owner's quota fields (R351, R371): what TENANT_SET can leave in them. -/
def Tenant.quotasOk (t : Tenant) : Bool :=
  decide (t.qos ≤ 255) && decide (t.quota ≤ 8192) && decide (t.budget ≤ 320) && decide (t.poolMin ≤ t.poolMax) &&
    decide (1 ≤ t.poolMax) && decide (t.poolMax ≤ 256) && decide (t.intRate ≤ 20000) && decide (1 ≤ t.intBurst) &&
    decide (t.intBurst ≤ 255)

/-- The owner, the field and the value of a `TENANT_SET` that R351 and R371 allow. -/
abbrev quotaAdmits (o k : Nat) (v : Word) : Prop :=
  ((o < 64 ∧ k ≤ 5) ∨ (o = 64 ∧ (k = 0 ∨ k = 2))) ∧ (k = 0 → v.toNat ≤ 255) ∧ (k = 1 → v.toNat ≤ 8192) ∧
    (k = 2 → v.toNat ≤ 320) ∧ (k = 3 → v.toNat ≤ 256) ∧ (k = 4 → 1 ≤ v.toNat ∧ v.toNat ≤ 256) ∧
    (k = 5 → fld v 0 16 ≤ 20000 ∧ fld v 16 8 ≠ 0)

/-- Every owner's quota fields are in their ranges. -/
def Block.quotasOk (b : Block) : Prop := ∀ n, (b.tenant n).quotasOk = true

end Sys2Proof.Machine
end

