-- ==== Sys2Proof/Certificates/Slice0/Obligations.lean ====
section
/-! DEFINITION. The statements about the block. Most say what a command does: for every state and operands that meet the
hypotheses, `exec` answers a next state, and what that state holds. Log entries are named where a clause rests on one. -/

open Sys2Proof Sys2Proof.Machine

/-- A step takes the command at the front of the queue and is `exec` of it on the state with the queue's rest; no
command faults, refuses or changes the queue. -/
def Obligations.StepRunsTheFrontCommand : Prop :=
  ∀ (c : Instr) (rest : List Instr) (s : State), s.pending = c :: rest →
    step s = exec c { s with pending := rest } ∧ ∃ t, step s = .next t ∧ t.pending = rest

/-- On an empty queue a step is an idle cycle (DESIGN CHOICE, log entry 2): the queue stays empty and the straps stay;
in Doze, and while a block reset quiesces, the time base advances by one cycle and in Nap and Kiln the always-on time
keeper by 40 ns; with no entry of the measurement log closed in the cycle that ends, no freeze pending, no shutdown and
no message to present there is no other effect; in Off nothing changes (R31, R33, R35). What closed in the cycle is
built in the log (R464, DEDUCED, log entry 108). -/
def Obligations.IdleStepPassesOneCycle : Prop :=
  ∀ s : State, s.pending = [] →
    ∃ t, step s = .next t ∧ t.pending = [] ∧ t.block.absent = s.block.absent ∧ t.block.regionOf = s.block.regionOf ∧
      (s.block.power.st = .off → s.block.meas.closing = [] → t = s) ∧
      (s.block.running = false → s.block.power.st ≠ .off → s.block.power.goal ≠ .off → t.block.meas.closing = [] ∧
        t.block.meas.built = s.block.meas.built + s.block.meas.closing.length) ∧
      (s.block.meas.closing = [] → s.block.freezes = [] → s.block.power.goal ≠ .off →
        (s.block.power.irqUp.isSome = true ∨ ∀ n, n ≤ 64 → (s.block.tenant n).due = []) →
        (s.block.power.st = .nap ∨ s.block.power.st = .kiln →
          t.block = { s.block with time := { s.block.time with aonGt := s.block.time.aonGt + 40 * 256 } }) ∧
        (s.block.power.phase ≠ 0 → s.block.power.st = .doze ∨ (s.block.power.st = .run ∧ s.block.power.quiesce = true) →
          t.block = { s.block with time := { s.block.time with tb := s.block.time.tb + s.block.time.rate } }))

/-- The block changes no part outside those that `touches` names for the command, for each of the 255 commands; the
straps (`tl_present`, `tp_region`) are among them for none (R487, R489). -/
def Obligations.CommandsKeepTheirFrame : Prop :=
  ∀ (c : Instr) (s t : State), exec c s = .next t →
    t.block.seen (touches c) = s.block.seen (touches c) ∧ t.block.absent = s.block.absent ∧
      t.block.regionOf = s.block.regionOf

/-- The ranges of the quota fields (R351, R371), `POOL_MIN` never above `POOL_MAX`, are kept by every step, an idle
cycle among them. -/
def Obligations.QuotaRangesAreKept : Prop :=
  ∀ s t : State, s.block.quotasOk → step s = .next t → t.block.quotasOk

/-- What reset leaves: nothing commanded, a block that powers up with every port unnegotiated, no function reset going
on, nothing fenced and no page listed, and the quota fields at their reset values (R317, R351, R363, R476, R480), which
meet their ranges. -/
def Obligations.ResetLeavesPowerUp : Prop :=
  State.reset.pending = [] ∧ State.reset.block.quotasOk ∧ State.reset.block.power.st = .run ∧
    State.reset.block.power.phase = 0 ∧ State.reset.block.running = false ∧ State.reset.block.cask.pages = [] ∧
    State.reset.block.cask.fence = [] ∧ State.reset.block.out = [] ∧
    (∀ f, (State.reset.block.port f).negotiated = false ∧ (State.reset.block.port f).rspSeq = 1 ∧
      (State.reset.block.port f).stallNs = 4000 ∧ (State.reset.block.port f).ring = [] ∧
      (State.reset.block.port f).queue = []) ∧
    (∀ n, n ≠ 64 → (State.reset.block.tenant n).quotas = (16, 0, 0, 2, 32, 64, 8) ∧
      (State.reset.block.tenant n).resetting = false ∧ (State.reset.block.tenant n).epoch = 0) ∧
    (State.reset.block.tenant 64).qos = 16 ∧ (State.reset.block.tenant 64).budget = 32 ∧
    (State.reset.block.tenant 64).poolMin = 32 ∧ (State.reset.block.tenant 64).poolMax = 64 ∧
    State.reset.block.quotaOf 64 = 8192

/-- R31: `gt` is the local time base truncated to 1/256 ns, whenever the time base keeps it. -/
def Obligations.GtIsTruncated : Prop :=
  ∀ b : Block, b.power.st = .run ∨ b.power.st = .doze →
    b.gt * 2 ^ 24 ≤ b.time.tb ∧ b.time.tb < (b.gt + 1) * 2 ^ 24

/-- R317, for each command that is a packet: an unnegotiated port answers every packet but NEGOTIATE with
VERSION_MISMATCH, a NEGOTIATE whose range includes 4 makes the port negotiated, another one answers VERSION_MISMATCH and
leaves the port; ports are unnegotiated after a function reset, after power-on and after a block reset. A packet that
fails the byte checks of R313 is not meant. -/
def Obligations.PortsAreNegotiated : Prop :=
  (∀ (c : Instr) (op : Nat) (f : Fin 65) (p : Pkt) (e : Cmd) (s : State),
    packetOf c = some (op, f, p) → catalogue op = some e → s.block.starts f p e →
      (op ≠ 0 → (s.block.port f).negotiated = false →
        ∃ t, exec c s = .next t ∧ s.block.answered t.block f p stVersion [] ∧ s.block.calm t.block f [] ∧
          (t.block.port f).negotiated = false) ∧
      (∀ w, op = 0 → p.params = [w] → fld w 0 8 ≤ 4 ∧ 4 ≤ fld w 8 8 →
        ∃ t, exec c s = .next t ∧ (t.block.port f).negotiated = true) ∧
      (∀ w, op = 0 → p.params = [w] → ¬(fld w 0 8 ≤ 4 ∧ 4 ≤ fld w 8 8) →
        ∃ t, exec c s = .next t ∧ s.block.answered t.block f p stVersion [] ∧
          (t.block.port f).negotiated = (s.block.port f).negotiated)) ∧
  (∀ (n : Fin 64) (s : State), s.block.running = true → (s.block.tenant n).resetting = false →
    ∃ t, exec (.functionResetRequest n) s = .next t ∧ (t.block.port n).negotiated = false) ∧
  (∀ (uid : BitVec 48) (addr : BitVec 64) (len : BitVec 19) (s : State),
    ∃ t, exec (.powerOnReset uid addr len) s = .next t ∧ ∀ f, (t.block.port f).negotiated = false) ∧
  (∀ s : State, s.block.power.quiesce = true → (∀ e, e ∈ s.block.sparge.chans → e.2.flight = []) →
    (∀ h, h ∈ s.block.sparge.scrubs → h.flight = []) → s.block.sparge.orphans = [] →
    ∃ t, exec .quiesceEnd s = .next t ∧ ∀ f, (t.block.port f).negotiated = false)

/-- R308, R313, R333 and R362, for each command that is a packet: a wrong LENGTH answers BAD_LENGTH and a value out of
range BAD_PARAM, whoever sends it; a tenant without the privilege, or that does not own what it names, gets DONE with
zeros in every result word, one violation more, and no other effect. -/
def Obligations.PacketsAreCheckedBeforeTheyAct : Prop :=
  ∀ (c : Instr) (op : Nat) (f : Fin 65) (p : Pkt) (e : Cmd) (s : State),
    packetOf c = some (op, f, p) → catalogue op = some e → s.block.starts f p e →
    op = 0 ∨ (s.block.port f).negotiated = true →
      (p.params.length < e.lo ∨ e.hi < p.params.length →
        ∃ t, exec c s = .next t ∧ s.block.answered t.block f p stBadLength [] ∧ s.block.calm t.block f []) ∧
      (e.lo ≤ p.params.length → p.params.length ≤ e.hi → e.range (callOf f p) = false →
        ∃ t, exec c s = .next t ∧ s.block.answered t.block f p stBadParam [] ∧ s.block.calm t.block f []) ∧
      (e.lo ≤ p.params.length → p.params.length ≤ e.hi → e.range (callOf f p) = true → f.val < 64 →
        e.priv = .op ∨ (e.priv = .own ∧ e.owns (callOf f p) s.block = false) →
        ∃ t, exec c s = .next t ∧
          s.block.answered t.block f p stDone (List.replicate (e.res p.params.length) 0) ∧
          (t.block.tenant f).violations = satAdd 32 (s.block.tenant f).violations 1 ∧
          ((s.block.tenant 64).resetting = false → bit (t.block.tenant 64).intStatus 14 = true) ∧
          (∀ g, g ≠ f.val → t.block.port g = s.block.port g) ∧
          (∀ g, t.block.tenant g = { s.block.tenant g with
            violations := (t.block.tenant g).violations
            intStatus := (t.block.tenant g).intStatus, due := (t.block.tenant g).due }) ∧
          (∀ g, g ≠ f.val → (t.block.tenant g).violations = (s.block.tenant g).violations) ∧
          t.block.power = s.block.power.served f s.block.gt ∧
          t.block.seen packetAreas = s.block.seen packetAreas)

/-- R383: a function reset request for function 64 carries out the port actions of R330 on the operator's ports and is
acknowledged at once; its reads of RSP_DATA that wait keep their places and will answer the empty word (the model's way:
each becomes a read of an offset that no map assigns, log entry 34); no epoch advances, no scrub starts, and everything
else of the operator stays. -/
def Obligations.OperatorResetActsOnPortsOnly : Prop :=
  ∀ (s : State) (x : Port), x = s.block.port 64 → s.block.power.st ≠ .off →
    ∃ t, exec .operatorFunctionReset s = .next t ∧
      t.block.port 64 = { x with
        negotiated := false, hdr := none, words := [], ignore := 0, queue := [], framing := false, overrun := false
        emptyRead := false, ring := [], wr := 0, rd := 0, mark := 0, rel := 0, rspSeq := 1, stallNs := 4000, longs := []
        parked := x.parked.map (fun a => if isRspRead a then (false, { a.2.1 with addr := 0x6FFFC#19 }, a.2.2) else a) } ∧
      t.block.out = s.block.out ∧
      (∀ g, g ≠ 64 → t.block.port g = s.block.port g) ∧
      (∀ g, t.block.tenant g = if g = 64 then { s.block.tenant g with frAck := true } else s.block.tenant g) ∧
      t.block.seen [.ports, .tenants, .power, .out] = s.block.seen [.ports, .tenants, .power, .out]

/-- NEGOTIATE, SESSION_SET, IDENTIFY, NOP and ECHO (R317, R325, R339, R356), from any function. ECHO returns its string
with zeros in the bytes that were not strobed (R312, R313). -/
def Obligations.SessionCommandsAnswer : Prop :=
  ∀ (f : Fin 65) (p : Pkt) (s : State),
    (∀ w, p.params = [w] → p.lastStrb = 15 → s.block.takes f p 2 false → fld w 0 8 ≤ 4 → 4 ≤ fld w 8 8 →
      ∃ t, exec (.negotiate f p) s = .next t ∧ (t.block.port f).negotiated = true ∧
        s.block.answered t.block f p stDone [0x040404, w32 (pack [(8, f), (12, s.block.hop.nodeId)])] ∧
        s.block.calm t.block f []) ∧
    (∀ w, p.params = [w] → s.block.hears f p 0 false →
      ∃ t, exec (.sessionSet f p) s = .next t ∧ (t.block.port f).stallNs = fld w 0 16 ∧
        s.block.answered t.block f p stDone [] ∧ s.block.calm t.block f []) ∧
    (p.params = [] → s.block.hears f p 4 false →
      ∃ t, exec (.identify f p) s = .next t ∧ s.block.answered t.block f p stDone
          [w32 (pack [(16, 0xEC04), (8, Config.siliconStep.toNat)]),
           w32 (pack [(12, 2048 - s.block.absent.length), (6, s.block.stationsPresent)]), w32 s.block.usable,
           w32 (pack [(16, Config.romLevel.toNat), (16, if s.block.meas.patchRam = [] then 0
             else (Config.patchLevel s.block.meas.patchRam).toNat)])] ∧
        s.block.calm t.block f []) ∧
    (p.params = [] → s.block.hears f p 0 false →
      ∃ t, exec (.nop f p) s = .next t ∧ s.block.answered t.block f p stDone [] ∧ s.block.calm t.block f []) ∧
    (p.params = [] → s.block.hears f p 0 false →
      ∃ t, exec (.echo f p) s = .next t ∧ s.block.answered t.block f p stDone [] ∧ s.block.calm t.block f []) ∧
    (∀ ws w, p.params = ws ++ [w] → p.params.length ≤ 255 → p.lastStrb ∈ [1#4, 3#4, 7#4, 15#4] →
      s.block.takes f p p.params.length false → (s.block.port f).negotiated = true →
      ∃ t, exec (.echo f p) s = .next t ∧ s.block.answered t.block f p stDone (ws ++ [strobed w p.lastStrb]) ∧
        s.block.calm t.block f [])

/-- TAP_STATUS, CTX_READ, LAUTER_READ, SEQ_STATUS and STATION_COUNTERS (R337, R340, R341): what they read, and that only
the counters read are cleared, by the operator's `CLEAR`. That TAP_STATUS of an absent tap answers zeros is the model's
choice, log entry 55 (R340 and R487 state no answer). -/
def Obligations.TapAndStationReadsAnswer : Prop :=
  ∀ (f : Fin 65) (p : Pkt) (s : State) (w : Word), p.params = [w] →
    (f.val = 64 → s.block.hears f p 3 false → s.block.present (fld w 0 11) = true →
      ∃ t, exec (.tapStatus f p) s = .next t ∧
        s.block.answered t.block f p stDone
          [w32 (pack [(1, b2n (s.block.tap (fld w 0 11)).en), (1, b2n (s.block.tap (fld w 0 11)).aEnable),
              (1, b2n (s.block.tap (fld w 0 11)).badClass), (1, b2n (s.block.view (fld w 0 11)).down),
              (2, (s.block.tap (fld w 0 11)).clk), (6, (s.block.tap (fld w 0 11)).chain.length)]),
           w32 (s.block.tap (fld w 0 11)).ledgerLost, w32 (s.block.tap (fld w 0 11)).tapLost] ∧ s.block.calm t.block f [.taps] ∧
        (∀ n, t.block.tap n = if bit w 31 = true ∧ n = fld w 0 11 then { s.block.tap n with ledgerLost := 0 }
          else s.block.tap n)) ∧
    (f.val = 64 → s.block.hears f p 3 false → s.block.present (fld w 0 11) = false →
      ∃ t, exec (.tapStatus f p) s = .next t ∧ s.block.answered t.block f p stDone [0, 0, 0] ∧ s.block.calm t.block f [.taps]) ∧
    (f.val = 64 ∨ s.block.ctxTenant (fld w 0 12) = some f.val → s.block.hears f p 1 false →
      ∃ t, exec (.ctxRead f p) s = .next t ∧
        s.block.answered t.block f p stDone [s.block.ctxEntry (fld w 0 12)] ∧ s.block.calm t.block f []) ∧
    (f.val = 64 ∨ ruleOwner (s.block.rule (fld w 0 5) (fld w 8 4)) = f.val → s.block.hears f p 5 false →
      ∃ t, exec (.lauterRead f p) s = .next t ∧
        s.block.answered t.block f p stDone (s.block.rule (fld w 0 5) (fld w 8 4)) ∧ s.block.calm t.block f []) ∧
    (f.val = 64 ∨ (s.block.station (fld w 0 5)).seq.owner = f.val → s.block.hears f p 4 false →
      ∃ t, exec (.seqStatus f p) s = .next t ∧
        s.block.answered t.block f p stDone
          [w32 (pack [(2, (s.block.station (fld w 0 5)).seq.st.code), (1, b2n (s.block.station (fld w 0 5)).seq.en),
              (7, (s.block.station (fld w 0 5)).seq.owner), (6, 0), (16, (s.block.station (fld w 0 5)).seq.postLeft)]),
           w32 (s.block.station (fld w 0 5)).seq.trigCount, w32 (s.block.station (fld w 0 5)).seq.trigIgnored,
           w32 (s.block.station (fld w 0 5)).seq.suppress] ∧ s.block.calm t.block f [.stations] ∧
        (∀ n, t.block.station n = if f.val = 64 ∧ bit w 31 = true ∧ n = fld w 0 5 then { s.block.station n with
            seq := { (s.block.station n).seq with trigCount := 0, trigIgnored := 0, suppress := 0 } }
          else s.block.station n)) ∧
    (f.val = 64 → fld w 8 7 ≤ 64 → s.block.hears f p 4 false →
      ∃ t, exec (.stationCounters f p) s = .next t ∧
        s.block.answered t.block f p stDone
          [w32 (tget 0 (s.block.station (fld w 0 5)).reject (fld w 8 7)), w32 (s.block.station (fld w 0 5)).noContext,
           w32 (s.block.station (fld w 0 5)).unitDrop, w32 (s.block.station (fld w 0 5)).wakeLost] ∧ s.block.calm t.block f [.stations] ∧
        (∀ n, t.block.station n = if bit w 31 = true ∧ n = fld w 0 5 then { s.block.station n with
            reject := tdel (s.block.station n).reject (fld w 8 7), noContext := 0, unitDrop := 0, wakeLost := 0 }
          else s.block.station n)) ∧
    (f.val < 64 → fld w 8 7 = f.val → s.block.hears f p 4 false →
      ∃ t, exec (.stationCounters f p) s = .next t ∧
        s.block.answered t.block f p stDone [w32 (tget 0 (s.block.station (fld w 0 5)).reject f.val), 0, 0, 0] ∧ s.block.calm t.block f [])

/-- TAP_SET, CTX_WRITE, LAUTER_WRITE, LAUTER_DEFAULT and CMP_WRITE (R21, R92, R95, R101, R103, R106, R107, R108, R335,
R369): the entry that is named takes its new value, with a new owner the fields beside the owner return to 0, every
other entry stays, and a tenant writes only what is its own to write. That TAP_SET of an absent tap completes with no
effect is the model's choice, log entry 55; that a write with a new owner clears the fields beside it (R335 against
R369) is log entry 54. -/
def Obligations.TapAndFilterWritesAct : Prop :=
  ∀ (f : Fin 65) (p : Pkt) (s : State),
    (∀ w v, p.params = [w, v] → f.val = 64 → s.block.hears f p 0 false → s.block.present (fld w 0 11) = true →
      ∃ t, exec (.tapSet f p) s = .next t ∧ s.block.answered t.block f p stDone [] ∧ s.block.calm t.block f [.taps, .views] ∧
        (∀ n, t.block.tap n = if n = fld w 0 11 then { s.block.tap n with
            use := bit v 0, cfg := (s.block.tap n).cfg ++ [.aEnable (bit v 1)]
            badClass := (s.block.tap n).badClass && !bit v 2 } else s.block.tap n) ∧
        (∀ n, t.block.view n = if n = fld w 0 11 then { s.block.view n with aEn := bit v 1 } else s.block.view n)) ∧
    (∀ w v, p.params = [w, v] → f.val = 64 → s.block.hears f p 0 false → s.block.present (fld w 0 11) = false →
      ∃ t, exec (.tapSet f p) s = .next t ∧ s.block.answered t.block f p stDone [] ∧ s.block.calm t.block f []) ∧
    (∀ w v, p.params = [w, v] → f.val = 64 ∨ s.block.ctxTenant (fld w 0 12) = some f.val → s.block.hears f p 0 false →
      ∃ t, exec (.ctxWrite f p) s = .next t ∧ s.block.answered t.block f p stDone [] ∧ s.block.noted t.block f [.ctxs] ∧
        (∀ n, t.block.ctxEntry n = if n = fld w 0 12 then
            (if f.val ≠ 64 then mix (s.block.ctxEntry n) v 0x00FF0000#32
             else if fld v 25 6 = fld (s.block.ctxEntry n) 25 6 then v &&& 0xFFFF0000#32 else v &&& 0xFF000000#32)
          else s.block.ctxEntry n)) ∧
    (∀ w r0 r1 r2 r3 r4, p.params = [w, r0, r1, r2, r3, r4] → (f.val = 64 → fld r0 22 7 ≤ 64) →
      f.val = 64 ∨ ruleOwner (s.block.rule (fld w 0 5) (fld w 8 4)) = f.val → s.block.hears f p 0 false →
      ∃ t, exec (.lauterWrite f p) s = .next t ∧ s.block.answered t.block f p stDone [] ∧ s.block.noted t.block f [.stations, .lauter] ∧
        (∀ st k, t.block.rule st k = if st = fld w 0 5 ∧ k = fld w 8 4 then
            (if f.val = 64 ∧ fld r0 22 7 ≠ ruleOwner (s.block.rule st k) then [r0 &&& 0x1FC00000#32, 0, 0, 0, 0]
             else [if f.val = 64 then r0 &&& 0x1FFFFFFF#32 else mix ((s.block.rule st k).getD 0 0) r0 0x003FFFFF#32,
               r1 &&& 0x00FFFFFF#32, r2, r3, r4 &&& 0x003F003F#32])
          else s.block.rule st k) ∧
        (∀ st, t.block.station st = { s.block.station st with rules := (t.block.station st).rules })) ∧
    (∀ w, p.params = [w] → fld w 8 7 ≤ 64 → f.val = 64 ∨ fld w 8 7 = f.val → s.block.hears f p 0 false →
      ∃ t, exec (.lauterDefault f p) s = .next t ∧ s.block.answered t.block f p stDone [] ∧ s.block.calm t.block f [.stations, .lauter] ∧
        (fld w 8 7 ∈ (t.block.station (fld w 0 5)).defExclude ↔ bit w 16 = false) ∧
        (∀ st o, ¬(st = fld w 0 5 ∧ o = fld w 8 7) →
          (o ∈ (t.block.station st).defExclude ↔ o ∈ (s.block.station st).defExclude)) ∧
        (∀ st, t.block.station st = { s.block.station st with defExclude := (t.block.station st).defExclude })) ∧
    (∀ w c0 c1 c2 c3 c4 c5, p.params = [w, c0, c1, c2, c3, c4, c5] →
      f.val = 64 ∨ (s.block.station (fld w 0 5)).seq.owner = f.val → fld c0 2 2 ≤ 2 → fld c0 4 4 ≤ 5 →
      classReserved (fld c0 8 4) = false → s.block.hears f p 0 false →
      ∃ t, exec (.cmpWrite f p) s = .next t ∧ s.block.answered t.block f p stDone [] ∧ s.block.calm t.block f [.stations] ∧
        (∀ st, t.block.station st = if st = fld w 0 5 then { s.block.station st with
            seq := { (s.block.station st).seq with
                     comps := tset {} (s.block.station st).seq.comps (fld w 8 3)
                       { w := [c0 &&& 0x0FFFFFFF#32, c1 &&& 0x00FFFFFF#32, c2, c3, c4, c5 &&& 0x0000FFFF#32] } } }
          else s.block.station st))

/-- SEQ_CONTROL, SEQ_REARM, SEQ_OWNER and STREAM_FORMAT (R104, R109, R111, R149, R166, R369): what becomes of the
sequencer that is named, and of the owner's format version. That SEQ_EN 1 written while it is 1, in Idle and with an
empty START_MASK, leaves the sequencer in Idle is the model's choice, log entry 84. -/
def Obligations.SequencerCommandsAct : Prop :=
  ∀ (f : Fin 65) (p : Pkt) (s : State),
    (∀ w v x, p.params = [w, v, x] → f.val = 64 ∨ (s.block.station (fld w 0 5)).seq.owner = f.val →
      (bit w 8 = true →
        cdiv (fld w 16 16) 63 + 1 ≤ s.block.quotaOf (s.block.station (fld w 0 5)).seq.owner) →
      s.block.hears f p 0 false →
      ∃ t, exec (.seqControl f p) s = .next t ∧ s.block.answered t.block f p stDone [] ∧
        (∀ st, t.block.station st = if st = fld w 0 5 then { s.block.station st with
            seq :=
              if bit w 8 = false then { ((s.block.station st).seq.control (callOf f p)).goto .idle with postLeft := 0 }
              else if (s.block.station st).seq.en = false ∧ (s.block.station st).seq.st = .idle ∧ fld v 0 8 = 0 then
                ((s.block.station st).seq.control (callOf f p)).goto .armed
              else (s.block.station st).seq.control (callOf f p) } else s.block.station st)) ∧
    (∀ w, p.params = [w] → f.val = 64 ∨ (s.block.station (fld w 0 5)).seq.owner = f.val → s.block.hears f p 1 false →
      ∃ t, exec (.seqRearm f p) s = .next t ∧
        s.block.answered t.block f p stDone [w32 (if (s.block.station (fld w 0 5)).seq.st = .hold then SeqState.armed
          else (s.block.station (fld w 0 5)).seq.st).code] ∧
        (∀ st, t.block.station st = if st = fld w 0 5 ∧ (s.block.station st).seq.st = .hold then
          { s.block.station st with seq := (s.block.station st).seq.goto .armed } else s.block.station st)) ∧
    (∀ w, p.params = [w] → f.val = 64 → fld w 8 7 ≤ 64 → s.block.hears f p 0 false →
      ∃ t, exec (.seqOwner f p) s = .next t ∧ s.block.answered t.block f p stDone [] ∧
        (∀ st, t.block.station st = if st = fld w 0 5 ∧ (s.block.station st).seq.owner ≠ fld w 8 7 then
          { s.block.station st with seq := { owner := fld w 8 7, trigCount := (s.block.station st).seq.trigCount
                                             trigIgnored := (s.block.station st).seq.trigIgnored
                                             suppress := (s.block.station st).seq.suppress } }
          else s.block.station st)) ∧
    (∀ w, p.params = [w] → fld w 0 7 ≤ 64 → f.val = 64 ∨ fld w 0 7 = f.val → s.block.hears f p 0 false →
      ∃ t, exec (.streamFormat f p) s = .next t ∧ s.block.answered t.block f p stDone [] ∧
        (t.block.tenant (fld w 0 7)).fmt2 = bit w 8 ∧
        ((s.block.tenant (fld w 0 7)).fmt2 ≠ bit w 8 → (t.block.tenant (fld w 0 7)).verFirst = true))

/-- CASK_MODE, CASK_DRAIN, CASK_RELEASE and CASK_STATUS (R158, R163, R169, R337, R342, R343, R409), by the operator or
for the caller itself; a drain with no page to move is done at once, another is in progress afterwards, of the channel
named or, with that Disabled, of none. CASK_POOL, CASK_FENCE_READ, CASK_MACRO and CASK_PATROL (R175 to R179, R337,
R342), the operator's. -/
def Obligations.CaskCommandsAct : Prop :=
  (∀ (f : Fin 65) (p : Pkt) (s : State),
    (∀ w v, p.params = [w, v] → fld w 0 7 ≤ 64 → fld w 8 2 ≠ 3 → fld v 0 14 ≤ 10000 → f.val = 64 ∨ fld w 0 7 = f.val →
      s.block.hears f p 0 false →
      ∃ t, exec (.caskMode f p) s = .next t ∧ s.block.answered t.block f p stDone [] ∧
        (t.block.tenant (fld w 0 7)).mode = fld w 8 2 ∧
        (t.block.tenant (fld w 0 7)).flushUs =
          (if fld v 0 14 = 0 then (s.block.tenant (fld w 0 7)).flushUs else fld v 0 14)) ∧
    (∀ w lo hi, p.params = [w, lo, hi] → fld w 0 7 ≤ 64 →
      f.val = 64 ∨ (fld w 0 7 = f.val ∧ (s.block.chan (fld w 8 4)).owner = f.val) → s.block.hears f p 2 true →
      ∃ t pages, exec (.caskDrain f p) s = .next t ∧
        pages = (s.block.pagesOf (fld w 0 7) (fun g => g.epoch == s.block.epochOf (fld w 0 7) &&
          (g.st == .full || g.st == .held) &&
          (bit w 12 || (decide (lo.toNat ≤ g.pageSeq) && decide (g.pageSeq ≤ hi.toNat))))).map (fun e => e.2.oseq) ∧
        (pages = [] → s.block.answered t.block f p stDone [0, 0] ∧ s.block.calm t.block f []) ∧
        (pages ≠ [] → (t.block.port f).longs = (s.block.port f).longs ++
            [{ tag := p.tag.toNat, quiet := bit p.flags 1, lines := 1, order := s.block.power.longOrder
               kind := .caskDrain (fld w 0 7)
                 (if (s.block.chan (fld w 8 4)).st = .disabled then drainNone else fld w 8 4) pages 0 0 }] ∧
          (t.block.port f).ring = (s.block.port f).ring ∧ t.block.tenants = s.block.tenants ∧
          t.block.seen packetAreas = s.block.seen packetAreas)) ∧
    (∀ w, p.params = [w] → fld w 0 7 ≤ 64 → f.val = 64 ∨ fld w 0 7 = f.val → s.block.hears f p 0 false →
      ∃ t, exec (.caskRelease f p) s = .next t ∧ s.block.answered t.block f p stDone [] ∧
        (t.block.tenant (fld w 0 7)).caskHold = false ∧
        (∀ n, (s.block.page n).st = .held → (s.block.page n).owner = fld w 0 7 →
          t.block.page n = { s.block.page n with st := .full }) ∧
        (∀ n, (s.block.page n).st = .draining → (s.block.page n).back = .held → (s.block.page n).owner = fld w 0 7 →
          t.block.page n = { s.block.page n with back := .full }) ∧
        (∀ n, (∀ g, (n, g) ∈ s.block.cask.pages → ¬(g.isHeld = true ∧ g.owner = fld w 0 7)) →
          t.block.page n = s.block.page n)) ∧
    (∀ w, p.params = [w] → fld w 0 7 ≤ 64 → f.val = 64 ∨ fld w 0 7 = f.val → s.block.hears f p 7 false →
      ∃ t, exec (.caskStatus f p) s = .next t ∧ s.block.answered t.block f p stDone
          ([w32 (pack [(14, s.block.heldOf (fld w 0 7)), (2, 0), (14, s.block.quotaOf (fld w 0 7)),
              (2, (s.block.tenant (fld w 0 7)).mode)]),
            w32 (pack [(14, (s.block.tenant (fld w 0 7)).trigTrunc), (2, 0), (1, b2n (s.block.tenant (fld w 0 7)).caskHold)]),
            w32 (s.block.tenant (fld w 0 7)).trigOldest, w32 (s.block.tenant (fld w 0 7)).rsvShort] ++
          (if f.val = 64 then [w32 (s.block.tenant (fld w 0 7)).evicted, w32 (s.block.tenant (fld w 0 7)).refused,
              w32 (s.block.tenant (fld w 0 7)).pageLost] else [0, 0, 0])) ∧
        (f.val = 64 → bit w 31 = true → (t.block.tenant (fld w 0 7)).rsvShort = 0 ∧
          (t.block.tenant (fld w 0 7)).evicted = 0 ∧ (t.block.tenant (fld w 0 7)).refused = 0 ∧
          (t.block.tenant (fld w 0 7)).pageLost = 0) ∧
        (f.val ≠ 64 ∨ bit w 31 = false → s.block.calm t.block f []) ∧
        (∀ g, g ≠ f.val → g ≠ fld w 0 7 → t.block.tenant g = s.block.tenant g))) ∧
  (∀ (f : Fin 65) (p : Pkt) (s : State), f.val = 64 →
    (∀ w, p.params = [w] → s.block.hears f p 3 false →
      ∃ t, exec (.caskPool f p) s = .next t ∧ s.block.answered t.block f p stDone
          [w32 (pack [(14, s.block.freePages), (2, 0), (14, s.block.usable)]), w32 s.block.cask.epochDiscard,
           w32 s.block.cask.uePages] ∧ s.block.calm t.block f [.cask] ∧
        t.block.cask = if bit w 31 = true then { s.block.cask with epochDiscard := 0, uePages := 0 } else s.block.cask) ∧
    (p.params = [] → s.block.hears f p 16 false →
      ∃ t ws, exec (.caskFenceRead f p) s = .next t ∧ s.block.answered t.block f p stDone ws ∧
        s.block.calm t.block f [] ∧ ws.length = 16 ∧
        (∀ m, m < 512 → (bit (ws.getD (m / 32) 0) (m % 32) = true ↔ m ∈ s.block.cask.fence))) ∧
    (∀ w, p.params = [w] → s.block.hears f p 1 false →
      ∃ t, exec (.caskMacro f p) s = .next t ∧
        s.block.answered t.block f p stDone [w32 (tget 0 s.block.cask.ce (fld w 0 9))] ∧
        s.block.calm t.block f [.cask] ∧
        t.block.cask = { s.block.cask with ce := t.block.cask.ce } ∧
        (∀ n, tget 0 t.block.cask.ce n = if bit w 31 = true ∧ n = fld w 0 9 then 0 else tget 0 s.block.cask.ce n)) ∧
    (∀ w, p.params = [w] → 100 ≤ fld w 0 16 → fld w 0 16 ≤ 60000 → s.block.hears f p 0 false →
      ∃ t, exec (.caskPatrol f p) s = .next t ∧ s.block.answered t.block f p stDone [] ∧
        s.block.calm t.block f [.cask] ∧ t.block.cask = { s.block.cask with patrolMs := fld w 0 16 }))

/-- AGENT_MAP_WRITE, AGENT_WRITE, REASON_MAP_WRITE and LOOP_WRITE (R180, R181, R184, R193, R335, R336, R344, R369): the
entries that are named take their values, a loop slot of another owner than the agent's is not taken, what an owner
wrote into a slot that moves to another owner, and into its own agents that follow the slot, returns to its reset
values, and every other entry of the same table stays. What a slot of another owner does to the operator's write, and
what a write that brings a new owner does to the fields beside it, are the model's choice, log entries 54 and 57.
MASH_READ, LOOP_STATUS and ASY_READ (R182, R245, R337, R344, R345): an entry of a table, with zeros up to the length of
the answer. ASY_READ with CLEAR clears the counters of the unit; nothing else changes. -/
def Obligations.MashCommandsAct : Prop :=
  (∀ (f : Fin 65) (p : Pkt) (s : State),
    (∀ w ws, p.params = w :: ws → ws ≠ [] → ws.length ≤ 254 → fld w 0 11 + ws.length ≤ 2048 → f.val = 64 →
      s.block.hears f p 0 false →
      ∃ t, exec (.agentMapWrite f p) s = .next t ∧ s.block.answered t.block f p stDone [] ∧
        s.block.calm t.block f [.mash, .maps] ∧
        (∀ i, t.block.amap i = if fld w 0 11 ≤ i ∧ i < fld w 0 11 + ws.length then
          ws.getD (i - fld w 0 11) 0 &&& 0x7FFF#32 else s.block.amap i)) ∧
    (∀ w v, p.params = [w, v] → (f.val = 64 → fld v 1 7 ≤ 64) →
      f.val = 64 ∨ (aOwner (s.block.agent (fld w 0 7)) = f.val ∧ (s.block.slot (aLoop v)).owner = f.val) →
      s.block.hears f p 0 false →
      ∃ t, exec (.agentWrite f p) s = .next t ∧ s.block.answered t.block f p stDone [] ∧
        s.block.noted t.block f [.mash, .maps] ∧
        (∀ i, t.block.agent i = if i = fld w 0 7 then
          (if f.val ≠ 64 then mix (s.block.agent i) v 0x1F00#32
           else if (s.block.slot (aLoop v)).owner = aOwner v then v &&& 0x1FFF#32
           else if aOwner v = aOwner (s.block.agent i) then mix (v &&& 0xFF#32) (s.block.agent i) 0x1F00#32
           else v &&& 0xFF#32) else s.block.agent i)) ∧
    (∀ ws, p.params = ws → ws.length = 8 → (∀ w ∈ ws, ∀ k ∈ codesIn w, k ≤ 0x84) → f.val = 64 →
      s.block.hears f p 0 false →
      ∃ t, exec (.reasonMapWrite f p) s = .next t ∧ s.block.answered t.block f p stDone [] ∧
        s.block.calm t.block f [.mash, .maps] ∧
        (∀ i, i < 32 → tget cUnresolved t.block.mash.reasons i = fld (ws.getD (i / 4) 0) (8 * (i % 4)) 8)) ∧
    (∀ w x0 x1 x2 x3 x4, p.params = [w, x0, x1, x2, x3, x4] → 20000 ≤ x3.toNat → 20000 ≤ x4.toNat →
      (f.val = 64 → fld x0 7 7 ≤ 64) → f.val = 64 ∨ (s.block.slot (fld w 0 4)).owner = f.val →
      s.block.hears f p 0 false →
      ∃ t, exec (.loopWrite f p) s = .next t ∧ s.block.answered t.block f p stDone [] ∧
        s.block.noted t.block f [.mash, .maps] ∧
        (∀ i, t.block.agent i =
          if f.val = 64 ∧ fld x0 7 7 ≠ (s.block.slot (fld w 0 4)).owner ∧
              aOwner (s.block.agent i) = (s.block.slot (fld w 0 4)).owner ∧ aLoop (s.block.agent i) = fld w 0 4
          then s.block.agent i &&& 0xFF#32 else s.block.agent i) ∧
        t.block.mash.agentMap = s.block.mash.agentMap ∧ t.block.mash.reasons = s.block.mash.reasons ∧
        (t.block.slot (fld w 0 4)).w =
          (if f.val = 64 ∧ fld x0 7 7 ≠ (s.block.slot (fld w 0 4)).owner then [x0 &&& 0x3FC0#32, 0, 0, 0, 20000#32]
           else [if f.val = 64 then x0 &&& 0x3FFF#32 else mix ((s.block.slot (fld w 0 4)).word 0) x0 0x3F#32,
             x1 &&& 0x7FFFF#32, x2, x3, x4]) ∧
        (∀ m, m ≠ fld w 0 4 → (t.block.slot m).w = (s.block.slot m).w))) ∧
  (∀ (f : Fin 65) (p : Pkt) (s : State),
    (∀ w i, p.params = [w, i] → i.toNat < [2048, 128, 8, 16].getD (fld w 0 2) 0 →
      f.val = 64 ∨ (fld w 0 2 = 1 ∧ aOwner (s.block.agent i.toNat) = f.val) ∨
        (fld w 0 2 = 3 ∧ (s.block.slot i.toNat).owner = f.val) →
      s.block.hears f p 5 false →
      ∃ t ws, exec (.mashRead f p) s = .next t ∧
        s.block.answered t.block f p stDone (ws ++ List.replicate (5 - ws.length) 0) ∧ s.block.calm t.block f [] ∧
        (fld w 0 2 = 0 → ws = [s.block.amap i.toNat]) ∧ (fld w 0 2 = 1 → ws = [s.block.agent i.toNat]) ∧
        (fld w 0 2 = 2 → ws = [w32 (pack [(8, tget cUnresolved s.block.mash.reasons (4 * i.toNat)),
          (8, tget cUnresolved s.block.mash.reasons (4 * i.toNat + 1)),
          (8, tget cUnresolved s.block.mash.reasons (4 * i.toNat + 2)),
          (8, tget cUnresolved s.block.mash.reasons (4 * i.toNat + 3))])]) ∧
        (fld w 0 2 = 3 → ws = (s.block.slot i.toNat).w)) ∧
    (∀ w, p.params = [w] → f.val = 64 ∨ (s.block.slot (fld w 0 4)).owner = f.val → s.block.hears f p 3 false →
      ∃ t, exec (.loopStatus f p) s = .next t ∧ s.block.calm t.block f [] ∧
        s.block.answered t.block f p stDone
          [w32 (pack [(1, b2n (s.block.slot (fld w 0 4)).win.isSome),
              (1, b2n ((s.block.slot (fld w 0 4)).deferred.isSome || (s.block.slot (fld w 0 4)).overDue)),
              (5, s.block.mash.tokens)]),
            w32 (((s.block.slot (fld w 0 4)).win.map Window.iterLast).getD 0), w32 (s.block.slot (fld w 0 4)).records]) ∧
    (∀ w i, p.params = [w, i] → i.toNat < [2048, 16, 64, 32768, 16].getD (fld w 0 3) 0 →
      f.val = 64 ∨ (fld w 0 3 = 2 ∧ profOwner (s.block.profile i.toNat) = f.val) ∨
        (fld w 0 3 = 3 ∧ s.block.refMine f i.toNat = true) →
      s.block.hears f p 4 false →
      ∃ t ws, exec (.asyRead f p) s = .next t ∧
        s.block.answered t.block f p stDone (ws ++ List.replicate (4 - ws.length) 0) ∧
        (fld w 0 3 = 0 → ws = [s.block.binding i.toNat]) ∧ (fld w 0 3 = 1 → ws = [(s.block.unit i.toNat).ctl]) ∧
        (fld w 0 3 = 2 → ws = s.block.profile i.toNat) ∧ (fld w 0 3 = 3 → ws = [s.block.ref i.toNat]) ∧
        (fld w 0 3 = 4 → ws = [w32 (s.block.unit i.toNat).rowsSkipped, w32 (s.block.unit i.toNat).badFmt,
          w32 (s.block.unit i.toNat).foreign, w32 (s.block.unit i.toNat).beatsDropped]) ∧
        (¬(fld w 0 3 = 4 ∧ bit w 31 = true) → s.block.calm t.block f []) ∧
        (fld w 0 3 = 4 → bit w 31 = true → s.block.calm t.block f [.assay] ∧
          t.block.assay = { s.block.assay with units := t.block.assay.units } ∧
          ∀ u, t.block.unit u = if u = i.toNat then
            { s.block.unit u with rowsSkipped := 0, badFmt := 0, foreign := 0, beatsDropped := 0 }
            else s.block.unit u)))

/-- ASY_BIND, ASY_UNIT, PROFILE_WRITE, REF_WRITE and ASY_FLUSH (R215, R216, R217, R223, R230, R232, R335, R336, R345,
R369, R482): the entry named takes its value (a profile's new owner finds the owner-written fields at reset) and the
others of the table stay; a flush answers how many tensors it closes, and none of the unit is open afterwards. -/
def Obligations.AssayCommandsAct : Prop :=
  ∀ (f : Fin 65) (p : Pkt) (s : State),
    (∀ w v, p.params = [w, v] → f.val = 64 → s.block.hears f p 0 false →
      (bit v 4 = true → (s.block.assay.binding.filter (fun e => e.1 != fld w 0 11 && bit e.2 4 &&
        asyUnitOf e.2 == asyUnitOf (v &&& 0x3F#32))).length < 4) →
      ∃ t, exec (.asyBind f p) s = .next t ∧ s.block.answered t.block f p stDone [] ∧
        (∀ n, t.block.binding n = if n = fld w 0 11 then v &&& 0x3F#32 else s.block.binding n)) ∧
    (∀ w v, p.params = [w, v] → f.val = 64 → s.block.hears f p 0 false → bit v 4 = true →
      4 ≤ (s.block.assay.binding.filter (fun e => e.1 != fld w 0 11 && bit e.2 4 &&
        asyUnitOf e.2 == asyUnitOf (v &&& 0x3F#32))).length →
      ∃ t, exec (.asyBind f p) s = .next t ∧ s.block.answered t.block f p stBadParam [] ∧ s.block.calm t.block f []) ∧
    (∀ w v, p.params = [w, v] → f.val = 64 → fld v 1 7 ≤ 64 → s.block.hears f p 0 false →
      ∃ t, exec (.asyUnit f p) s = .next t ∧ s.block.answered t.block f p stDone [] ∧
        (∀ u, (t.block.unit u).ctl = if u = fld w 0 4 ∧ s.block.power.assayFailed.testBit u = false then v &&& 0xFFFF#32
          else (s.block.unit u).ctl)) ∧
    (∀ w x0 x1 x2, p.params = [w, x0, x1, x2] → profileRange (callOf f p) = true →
      f.val = 64 ∨ profOwner (s.block.profile (fld w 0 6)) = f.val → s.block.hears f p 0 false →
      ∃ t, exec (.profileWrite f p) s = .next t ∧ s.block.answered t.block f p stDone [] ∧
        s.block.noted t.block f [.assay, .profiles] ∧
        (∀ k, t.block.profile k = if k = fld w 0 6 then
            (if f.val = 64 then (if fld x0 1 7 = profOwner (s.block.profile k) then [x0, x1 &&& 0x7FFFFFFF#32, x2]
               else [(x0 &&& 0xFE#32) ||| 0x0F000000#32, x1 &&& 0x7FFFFFFF#32, 0x0010F100#32])
             else [mix ((s.block.profile k).getD 0 0) x0 0xFFFFFF01#32, (s.block.profile k).getD 1 0, x2])
          else s.block.profile k) ∧
        (∀ i, t.block.ref i = if profOwner (s.block.profile (fld w 0 6)) ≠ profOwner (t.block.profile (fld w 0 6)) ∧
            pfld (s.block.profile (fld w 0 6)) 1 0 15 ≤ i ∧
            i < pfld (s.block.profile (fld w 0 6)) 1 0 15 + pfld (s.block.profile (fld w 0 6)) 1 15 16
          then refReset else s.block.ref i)) ∧
    (∀ w ws, p.params = w :: ws → ws ≠ [] → ws.length ≤ 254 → fld w 0 15 + ws.length ≤ 32768 →
      f.val = 64 ∨ (∀ i, i < ws.length → s.block.refMine f (fld w 0 15 + i) = true) → s.block.hears f p 0 false →
      ∃ t, exec (.refWrite f p) s = .next t ∧ s.block.answered t.block f p stDone [] ∧
        s.block.calm t.block f [.assay, .profiles] ∧
        (∀ i, t.block.ref i = if fld w 0 15 ≤ i ∧ i < fld w 0 15 + ws.length then ws.getD (i - fld w 0 15) 0
          else s.block.ref i)) ∧
    (∀ w, p.params = [w] → f.val = 64 ∨ (s.block.unit (fld w 0 4)).owner = f.val → s.block.hears f p 1 false →
      ∃ t, exec (.asyFlush f p) s = .next t ∧
        s.block.answered t.block f p stDone
          [w32 ((s.block.unit (fld w 0 4)).taps.filter (fun e => e.2.tensor.isSome)).length] ∧
        (∀ n, (t.block.asyTap (fld w 0 4) n).tensor = none))

/-- SYNC_DECLARE (R254, R346): the operator, and a tenant for an object that it owns or that nobody owns, sets a kind
and declares or withdraws a signaller; a tenant that does either becomes owner (a command that only clears the
declaration gives no ownership: the model's reading, log entry 59). SYNC_READ, TAP_WAIT_READ, SYNC_SET and SYNC_COUNTERS
(R249, R250, R255, R260, R262, R273, R337, R346): an owner's copy of a shadow entry shows the taps of others as 0x7FF;
the sweep and walk settings are stored; the ten counters are read and, with CLEAR, cleared. -/
def Obligations.SyncCommandsAct : Prop :=
  (∀ (f : Fin 65) (p : Pkt) (s : State) (w v : Word), p.params = [w, v] → fld w 14 2 ≠ 3 →
    ¬(bit w 16 = true ∧ bit w 17 = true) →
    f.val = 64 ∨ (s.block.obj (fld w 0 14)).ownValid = false ∨ (s.block.obj (fld w 0 14)).owner = f.val →
    s.block.hears f p 0 false →
    ∃ t, exec (.syncDeclare f p) s = .next t ∧ s.block.answered t.block f p stDone [] ∧ s.block.calm t.block f [.sync] ∧
      t.block.sync = { s.block.sync with objs := t.block.sync.objs } ∧
      (∀ n, n ≠ fld w 0 14 → t.block.obj n = s.block.obj n) ∧
      (∀ x, x = s.block.obj (fld w 0 14) → ∀ claims : Bool,
        claims = (decide (f.val < 64) && !x.ownValid && (fld w 14 2 != 0 || bit w 16)) →
        t.block.obj (fld w 0 14) = { x with
          owner := if claims then f.val else x.owner
          ownValid := x.ownValid || claims
          kind := if fld w 14 2 = 0 then x.kind else fld w 14 2
          count := if fld w 14 2 = 0 ∨ fld w 14 2 = x.kind then x.count else 0
          phase := if fld w 14 2 = 0 ∨ fld w 14 2 = x.kind then x.phase else false
          sigArrived := if fld w 14 2 = 0 ∨ fld w 14 2 = x.kind then x.sigArrived else false
          sig := if bit w 16 then fld v 0 11 else x.sig
          sigValid := x.sigValid || bit w 16
          sigDecl := if bit w 16 then true else if bit w 17 then false else x.sigDecl })) ∧
  (∀ (f : Fin 65) (p : Pkt) (s : State),
    (∀ w, p.params = [w] → f.val = 64 ∨ ((s.block.obj (fld w 0 14)).ownValid = true ∧
      (s.block.obj (fld w 0 14)).owner = f.val) → s.block.hears f p 4 false →
      ∃ t, exec (.syncRead f p) s = .next t ∧ s.block.calm t.block f [] ∧
        s.block.answered t.block f p stDone (wordsOf 4 (s.block.redactObj f (s.block.obj (fld w 0 14))).bytes)) ∧
    (∀ w, p.params = [w] → f.val = 64 → s.block.hears f p 2 false →
      ∃ t, exec (.tapWaitRead f p) s = .next t ∧ s.block.calm t.block f [] ∧
        s.block.answered t.block f p stDone (wordsOf 2 (s.block.wait (fld w 0 11)).bytes)) ∧
    (∀ w, p.params = [w] → f.val = 64 → fld w 16 10 ≤ 1000 → s.block.hears f p 0 false →
      ∃ t, exec (.syncSet f p) s = .next t ∧ s.block.answered t.block f p stDone [] ∧ s.block.calm t.block f [.sync] ∧
        t.block.sync = { s.block.sync with
          npLimit := fld w 0 15, knotMs := fld w 16 10
          npNext := if s.block.sync.waiting = false ∨ fld w 0 15 = 0 then none
            else some (s.block.sync.npNext.getD (s.block.gt + fld w 0 15 * 16384 * 256 / 2)) }) ∧
    (∀ w x, p.params = [w] → x = s.block.sync → f.val = 64 → s.block.hears f p 10 false →
      ∃ t, exec (.syncCounters f p) s = .next t ∧ s.block.calm t.block f [.sync] ∧
        s.block.answered t.block f p stDone ([x.drop, x.implicitEnd, x.unmatched, x.kindMismatch, x.walks, x.transient,
          x.repeats, x.unreported, x.npReports, x.snapRefused].map w32) ∧
        t.block.sync = if bit w 31 then { x with
          drop := 0, implicitEnd := 0, unmatched := 0, kindMismatch := 0, walks := 0, transient := 0, repeats := 0
          unreported := 0, npReports := 0, snapRefused := 0 } else x))

/-- KNOT_WALK and SNAPSHOT (R260, R261, R266, R299, R346): a walk starts with the next walk number, or is noted behind
the one that runs, or until the clock runs at Full speed, and the command waits for it; a snapshot that can start takes
or makes its freeze, and one that cannot is counted and answered BUSY_RETRY. SNAPSHOT_CAPTURE and SNAPSHOT_CAPTURE_DONE
(R267, R269, R271): at T the tables are captured as they stand; the snapshot is then Valid, its number advances and the
operator's SNAPSHOT vector rises; the notice's bytes are free values. That a snapshot is Capturing from its start, T
included, and that a capture whose T passed below Run is taken in the first cycle in Run is the model's reading, log
entry 19; the free bytes of the notice are log entry 67. -/
def Obligations.WalksAndSnapshotsRun : Prop :=
  (∀ (f : Fin 65) (p : Pkt) (s : State), f.val = 64 →
    (p.params = [] → s.block.hears f p 2 true →
      ∃ t, exec (.knotWalk f p) s = .next t ∧ s.block.begins t.block f p 2 (.knotWalk s.block.sync.walkSeq) ∧
        t.block.tenants = s.block.tenants ∧ t.block.seen (.sync :: packetAreas) = s.block.seen (.sync :: packetAreas) ∧
        t.block.power.lowAsked = (s.block.power.lowAsked && !s.block.power.clkReq) ∧
        (s.block.sync.walk.isSome = true ∨ s.block.power.low = true →
          t.block.sync = { s.block.sync with walkAgain := true }) ∧
        (s.block.sync.walk = none → s.block.power.low = false → t.block.sync = { s.block.sync with
          walkAgain := false
          walk := some { seq := s.block.sync.walkSeq, gt := s.block.gt, epoch := s.block.alEpoch
                         bound := s.block.recBound, edges := s.block.allEdges }
          walkSeq := (s.block.sync.walkSeq + 1) % 2 ^ 16
          lastWalk := s.block.gt })) ∧
    (∀ w lo mi hi T, p.params = [w, lo, mi, hi] → s.block.hears f p 1 false →
      T = (if bit w 0 then (callOf f p).gt 1
        else s.block.gt + us (if s.block.sync.snap.lead = 0 then 4 else s.block.sync.snap.lead)) →
      s.block.gt + us 1 ≤ T →
      s.block.sync.snap.st ≠ .capturing → (s.block.sync.snap.st = .valid → s.block.sync.snap.overwrite = true) →
      ∃ t, exec (.snapshot f p) s = .next t ∧
        ({ s.block with power := { s.block.power with
          lowAsked := s.block.power.lowAsked && !s.block.power.clkReq } } : Block).calm t.block f [.sync, .freezes] ∧
        s.block.answered t.block f p stDone [w32 (s.block.snapFreeze T).1] ∧
        t.block.freezes = (s.block.snapFreeze T).2.freezes ∧
        t.block.sync.snap = { s.block.sync.snap with
          st := .capturing, cause := 0, freezeId := (s.block.snapFreeze T).1, t := some T
          walkSeq := s.block.sync.walkSeq, image := [] } ∧
        (s.block.power.low = false → t.block.sync.walk.isSome = true) ∧
        (s.block.power.low = true → t.block.sync.walkAgain = true)) ∧
    (∀ w lo mi hi, p.params = [w, lo, mi, hi] → s.block.hears f p 1 false →
      (bit w 0 = true → s.block.gt + us 1 ≤ (callOf f p).gt 1) →
      s.block.sync.snap.st = .capturing ∨ (s.block.sync.snap.st = .valid ∧ s.block.sync.snap.overwrite = false) →
      ∃ t, exec (.snapshot f p) s = .next t ∧ s.block.calm t.block f [.sync] ∧
        s.block.answered t.block f p stBusy [] ∧
        t.block.sync = { s.block.sync with snapRefused := satAdd 32 s.block.sync.snapRefused 1 })) ∧
  (∀ (s : State) (n : Snap), n = s.block.sync.snap → s.block.running = true → n.st = .capturing →
    (∀ g, n.t = some g → g ≤ s.block.gt →
      ∃ t, exec .snapshotCapture s = .next t ∧ t.block.seen [.sync] = s.block.seen [.sync] ∧
        t.block.sync = { s.block.sync with snap := { n with
          t := none, gt := max g s.block.power.wakeGt, epoch := s.block.alEpoch
          bound := s.block.recBound, aligned := s.block.time.aligned, image := s.block.snapImage
          tapsWaiting := (s.block.sync.waits.filter (fun e => e.2.valid)).length
          tapsStalled := t.block.sync.snap.tapsStalled
          objQual := (s.block.sync.objs.filter (fun e => decide (e.2.waits > 0) || e.2.stale)).length
          objListed := min 640 (s.block.sync.objs.filter (fun e => decide (e.2.waits > 0) || e.2.stale)).length
          inflight := (s.block.quads.map (fun e => e.2.syncQ.length)).foldl (· + ·) 0 } }) ∧
    (n.t = none → (s.block.tenant 64).resetting = false →
      ∃ t, exec .snapshotCaptureDone s = .next t ∧ t.block.sync = { s.block.sync with snap := { n with
          st := .valid, seq := (n.seq + 1) % 2 ^ 32 } } ∧
        bit (t.block.tenant 64).intStatus 10 = true ∧ t.block.freeCtr = s.block.freeCtr + 2 ∧
        ∃ bs, 1 ≤ bs.length ∧ bs.length ≤ 56 ∧ t.block.recs = s.block.recs ++ [s.block.mkRec 17 2 64 3 bs]))

/-- CNT_WRITE, CNT_READ and CNT_SAMPLE (R275, R276, R281, R294, R298, R335, R337, R347, R369): while the station's
mirror of a present tap is not loaded they answer BUSY_RETRY; otherwise a write sets the mirror and sends the descriptor
to the tap (a new owner finds the owner-written fields at reset), a read answers the mirror, and a sample is in progress
until the tap answers, or is answered with zeros where the tap is powered down. What an absent tap answers is the
model's choice, log entry 55. CNT_VIEW (R336, R347, R392): the entries named take their selections, and every other
stays; an entry of a tap whose mirror is not loaded answers BUSY_RETRY, and the operator's naming of another's counter
BAD_PARAM (the model's reading). That BUSY_RETRY of an unloaded mirror comes before ownership, and the BAD_PARAM of
CNT_VIEW, are the model's reading, log entry 58. -/
def Obligations.CounterCommandsAct : Prop :=
  (∀ (f : Fin 65) (p : Pkt) (s : State),
    (∀ w v x, p.params = [w, v, x] → s.block.unloaded (fld w 0 11) = true → cntRange (callOf f p) = true →
      s.block.hears f p 0 false →
      ∃ t, exec (.cntWrite f p) s = .next t ∧ s.block.answered t.block f p stBusy [] ∧ s.block.calm t.block f []) ∧
    (∀ w v x, p.params = [w, v, x] → s.block.unloaded (fld w 0 11) = false → cntRange (callOf f p) = true →
      f.val = 64 ∨ s.block.cntOwner (fld w 0 11) (fld w 12 3) = f.val → s.block.hears f p 0 false →
      ∃ t, exec (.cntWrite f p) s = .next t ∧ s.block.answered t.block f p stDone [] ∧
        (s.block.present (fld w 0 11) = false → s.block.calm t.block f []) ∧
        (s.block.present (fld w 0 11) = true → s.block.noted t.block f [.taps, .views] ∧
          ∀ old new, old = s.block.descOfCnt (fld w 0 11) (fld w 12 3) →
            new = (if f.val = 64 then
                (if fld v 1 7 = fld old.1 1 7 then (v &&& 0x0FFFFFFF#32, x &&& 0x3FFFFFFF#32)
                 else descOwnerReset (v &&& 0x0FFFFFFF#32) (x &&& 0x3FFFFFFF#32))
              else (mix old.1 v 0x0FFFFF01#32, mix old.2 x 0x3F000000#32)) →
            (∀ n k, t.block.descOfCnt n k = if n = fld w 0 11 ∧ k = fld w 12 3 then new else s.block.descOfCnt n k) ∧
            (∀ n, t.block.tap n = if n = fld w 0 11 then { s.block.tap n with
              cfg := (s.block.tap n).cfg ++ [.desc (fld w 12 3) new.1 new.2] } else s.block.tap n))) ∧
    (∀ w, p.params = [w] → s.block.hears f p 2 false →
      s.block.unloaded (fld w 0 11) = true ∨ f.val = 64 ∨ s.block.cntOwner (fld w 0 11) (fld w 12 3) = f.val →
      ∃ t, exec (.cntRead f p) s = .next t ∧ s.block.calm t.block f [] ∧
        (s.block.unloaded (fld w 0 11) = true → s.block.answered t.block f p stBusy []) ∧
        (s.block.unloaded (fld w 0 11) = false → s.block.answered t.block f p stDone
          (if s.block.present (fld w 0 11) then [(s.block.descOfCnt (fld w 0 11) (fld w 12 3)).1,
            (s.block.descOfCnt (fld w 0 11) (fld w 12 3)).2] else [0, 0]))) ∧
    (∀ w, p.params = [w] → f.val = 64 → s.block.hears f p 19 true →
      ∃ t, exec (.cntSample f p) s = .next t ∧
        (s.block.unloaded (fld w 0 11) = true → s.block.answered t.block f p stBusy [] ∧ s.block.calm t.block f []) ∧
        (s.block.present (fld w 0 11) = false →
          s.block.answered t.block f p stDone (List.replicate 19 0) ∧ s.block.calm t.block f []) ∧
        (s.block.present (fld w 0 11) = true → s.block.unloaded (fld w 0 11) = false →
          (s.block.view (fld w 0 11)).down = true →
          s.block.answered t.block f p stDone (List.replicate 18 0 ++ [1]) ∧ s.block.calm t.block f []) ∧
        (s.block.present (fld w 0 11) = true → s.block.unloaded (fld w 0 11) = false →
          (s.block.view (fld w 0 11)).down = false →
          s.block.begins t.block f p 19 (.cntSample (fld w 0 11)) ∧ t.block.tenants = s.block.tenants ∧
            t.block.seen packetAreas = s.block.seen packetAreas))) ∧
  (∀ (f : Fin 65) (p : Pkt) (s : State) (w : Word) (ws : List Word), p.params = w :: ws → ws ≠ [] → ws.length ≤ 24 →
    fld w 0 5 + ws.length ≤ 24 → fld w 8 7 < 64 →
    f.val = 64 ∨ (fld w 8 7 = f.val ∧ (viewBusy (callOf f p) s.block = true ∨ viewOwned (callOf f p) s.block = true)) →
    s.block.hears f p 0 false →
    ∃ t, exec (.cntView f p) s = .next t ∧
      (viewBusy (callOf f p) s.block = true → s.block.answered t.block f p stBusy [] ∧ s.block.calm t.block f []) ∧
      (viewBusy (callOf f p) s.block = false → viewOwned (callOf f p) s.block = false →
        s.block.answered t.block f p stBadParam [] ∧ s.block.calm t.block f []) ∧
      (viewBusy (callOf f p) s.block = false → viewOwned (callOf f p) s.block = true →
        s.block.answered t.block f p stDone [] ∧
        (∀ i, tget none (t.block.tenant (fld w 8 7)).viewSel i =
          if fld w 0 5 ≤ i ∧ i < fld w 0 5 + ws.length then
            (if bit (ws.getD (i - fld w 0 5) 0) 15 then some (fld (ws.getD (i - fld w 0 5) 0) 0 11,
              fld (ws.getD (i - fld w 0 5) 0) 12 3) else none)
          else tget none (s.block.tenant (fld w 8 7)).viewSel i) ∧
        (∀ g, g ≠ f.val → g ≠ fld w 8 7 → t.block.tenant g = s.block.tenant g) ∧
        t.block.seen packetAreas = s.block.seen packetAreas))

/-- FREEZE (R284, R290, R347, R436): T as given, or, with FABRIC, the local time of the root time given; the lowest Free
slot is scheduled with the next FREEZE_ID, and without a Free slot the answer is NO_RESOURCE. A local freeze is answered
at once; one of the fabric is in progress while other instances are known. FREEZE_STATUS, FREEZE_CANCEL and FREEZE_SET
(R291, R347, R359): the code and counts of the slot that holds the FREEZE_ID, zeros without one; a freeze none of whose
strobes is due yet is freed, any other is BAD_PARAM; the collection limit is stored. The checks on the converted T, who
is asked, and w1 of a freeze without FABRIC are the model's reading, log entry 38. -/
def Obligations.FreezeCommandsAct : Prop :=
  (∀ (f : Fin 65) (p : Pkt) (s : State) (w lo mi hi : Word) (T : Gt), p.params = [w, lo, mi, hi] → f.val = 64 →
    T = (if bit w 0 then s.block.localOfRoot ((callOf f p).gt 1) else (callOf f p).gt 1) →
    s.block.gt + us (if bit w 0 then 50 else 1) ≤ T → (∀ e, e ∈ s.block.freezesUsed → near2 e.2.t T = false) →
    s.block.hears f p 2 (bit w 0) →
    ∃ t, exec (.freeze f p) s = .next t ∧
      ((∀ i, i < 4 → (s.block.freezeSlot i).st ≠ .free) →
        s.block.answered t.block f p stNoResource [] ∧ s.block.calm t.block f []) ∧
      (∀ i id, i < 4 → (s.block.freezeSlot i).st = .free → (∀ j, j < i → (s.block.freezeSlot j).st ≠ .free) →
        id = nextFreezeId (s.block.freezesUsed.map (fun e => e.2.id)) 5 s.block.freezeNext →
        (∀ j, t.block.freezeSlot j = if j = i then
          { st := .scheduled, id := id, t := T, rootT := (callOf f p).gt 1, fabric := bit w 0, fixed := !bit w 0
            aoClear := bit w 1, tenantCopy := bit w 2, node := if bit w 0 then s.block.hop.nodeId else 0xFFF } else s.block.freezeSlot j) ∧
        t.block.freezeNext = (id + 1) % 255 ∧
        t.block.seen ([.freezes, .hop] ++ packetAreas) = s.block.seen ([.freezes, .hop] ++ packetAreas) ∧
        (bit w 0 = false → s.block.answered t.block f p stDone [w32 id, 1] ∧ s.block.calm t.block f [.freezes]) ∧
        (∀ others, bit w 0 = true → others =
          (s.block.hop.routes.filter (fun e => decide (e.2 % 64 ≤ 32) && e.1 != s.block.hop.nodeId)).map Prod.fst →
          (others = [] → s.block.answered t.block f p stDone [w32 id, 1]) ∧
          (others ≠ [] → s.block.begins t.block f p 2 (.freeze id 1 0 others s.block.gt))))) ∧
  (∀ (f : Fin 65) (p : Pkt) (s : State) (w : Word), p.params = [w] → f.val = 64 →
    (s.block.hears f p 2 false →
      ∃ t, exec (.freezeStatus f p) s = .next t ∧ s.block.calm t.block f [] ∧
        (s.block.slotOf (fld w 0 8) = none → s.block.answered t.block f p stDone [0, 0]) ∧
        (∀ i, s.block.slotOf (fld w 0 8) = some i → s.block.answered t.block f p stDone
          [w32 (pack [(2, (s.block.freezeSlot i).code s.block.gt), (6, (s.block.freezeSlot i).built)]),
           w32 ((s.block.freezeSlot i).taps.filter (fun e => e.2.notLatched)).length])) ∧
    (s.block.hears f p 0 false →
      ∃ t, exec (.freezeCancel f p) s = .next t ∧
        (∀ i, s.block.slotOf (fld w 0 8) = some i → (s.block.freezeSlot i).st = .scheduled →
          s.block.latching (s.block.freezeSlot i) = false →
          s.block.answered t.block f p stDone [] ∧ s.block.calm t.block f [.freezes] ∧
            ∀ j, t.block.freezeSlot j = if j = i then {} else s.block.freezeSlot j) ∧
        ((∀ i, s.block.slotOf (fld w 0 8) = some i → (s.block.freezeSlot i).st = .scheduled →
            s.block.latching (s.block.freezeSlot i) = true) →
          s.block.answered t.block f p stBadParam [] ∧ s.block.calm t.block f [])) ∧
    (10 ≤ fld w 0 16 → s.block.hears f p 0 false →
      ∃ t, exec (.freezeSet f p) s = .next t ∧ s.block.answered t.block f p stDone [] ∧
        s.block.calm t.block f [.freezes] ∧ t.block.freezeLimitUs = fld w 0 16 ∧ t.block.freezes = s.block.freezes ∧
        t.block.freezeNext = s.block.freezeNext))

/-- TIME_STATUS, TCAL_READ and PORT_ALPHA (R44, R46, R54, R56, R58, R348, R444): the state of local and fabric time, the
delays of a tap, and a port's asymmetry, which is stored. TIME_SET and TSYNC_NOW (R34, R36, R46, R55, R56, R348): the
settings are stored, a new TCAL_PERIOD counts from the end of Calibrate, and a new time-bus latency steps the time base
by the difference; a measurement of fabric time is in progress afterwards, a running one is joined, and without a parent
the answer is NO_RESOURCE. That TIME_STATUS shows the stored offset and that TSYNC_NOW joins a running measurement is
the model's reading, log entry 41; the zeros of TCAL_READ for an absent tap are its choice, log entry 55. -/
def Obligations.TimeCommandsAct : Prop :=
  (∀ (f : Fin 65) (p : Pkt) (s : State),
    (∀ x, p.params = [] → x = s.block.time → s.block.hears f p 8 false →
      ∃ t, exec (.timeStatus f p) s = .next t ∧ s.block.calm t.block f [] ∧
        s.block.answered t.block f p stDone
          ([w32 (pack [(1, b2n x.locked), (1, b2n x.holdover), (1, b2n x.aligned), (5, 0), (8, x.epoch % 256),
              (8, s.block.lbByte), (8, s.block.fbByte)])] ++ gtWords s.block.gt ++
            [w32 (twos 64 x.fabOff), w32 (twos 64 x.fabOff / 2 ^ 32), w32 (twos 32 x.fabRate),
             w32 (if s.block.hop.parent = 7 then 0xFFF else (s.block.hopPort s.block.hop.parent).node)])) ∧
    (∀ w, p.params = [w] → f.val = 64 → s.block.hears f p 1 false →
      ∃ t, exec (.tcalRead f p) s = .next t ∧ s.block.calm t.block f [] ∧
        s.block.answered t.block f p stDone [if s.block.present (fld w 0 11) then
          w32 (pack [(16, twos 16 (s.block.view (fld w 0 11)).dTap), (16, twos 16 (s.block.view (fld w 0 11)).aTap)])
          else 0]) ∧
    (∀ w, p.params = [w] → f.val = 64 → fld w 0 3 ≤ 5 → s.block.hears f p 0 false →
      ∃ t, exec (.portAlpha f p) s = .next t ∧ s.block.answered t.block f p stDone [] ∧ s.block.calm t.block f [.hop] ∧
        t.block.hop = { s.block.hop with ports := t.block.hop.ports } ∧
        (∀ k, t.block.hopPort k = if k = fld w 0 3 then { s.block.hopPort k with alpha := sfld w.toNat 8 24 }
          else s.block.hopPort k))) ∧
  (∀ (f : Fin 65) (p : Pkt) (s : State), f.val = 64 →
    (∀ w v x, p.params = [w, v, x] → 1 ≤ fld w 16 16 → fld w 16 16 ≤ 1000 → 32 ≤ fld v 0 13 → fld v 0 13 ≤ 4096 →
      1 ≤ fld v 16 10 → fld v 16 10 ≤ 1000 → 100 ≤ fld x 0 17 → fld x 0 17 ≤ 100000 → s.block.hears f p 0 false →
      ∃ t, exec (.timeSet f p) s = .next t ∧ s.block.answered t.block f p stDone [] ∧
        t.block.time.latency = fld w 0 16 ∧ t.block.time.holdPpm = fld w 16 16 ∧ t.block.time.stretchPer = fld v 0 13 ∧
        t.block.time.tcalMs = fld v 16 10 ∧ t.block.time.tsyncUs = fld x 0 17 ∧
        (fld w 0 16 = s.block.time.latency → s.block.calm t.block f [.time] ∧ t.block.time.tb = s.block.time.tb ∧
          (fld v 16 10 ≠ s.block.time.tcalMs → t.block.time.tcalDue = s.block.time.calEnd +
            ((s.block.gt - s.block.time.calEnd) / ms (fld v 16 10) + 1) * ms (fld v 16 10))) ∧
        (fld w 0 16 ≠ s.block.time.latency →
          t.block.time.tb = ((s.block.time.tb : Int) + ((fld w 0 16 : Int) - s.block.time.latency) * 2 ^ 24).toNat)) ∧
    (p.params = [] → s.block.hears f p 3 true →
      ∃ t, exec (.tsyncNow f p) s = .next t ∧
        (s.block.hasParent = false → s.block.answered t.block f p stNoResource [] ∧ s.block.calm t.block f []) ∧
        (s.block.hasParent = true → s.block.begins t.block f p 3 .tsyncNow ∧ t.block.tenants = s.block.tenants ∧
          t.block.seen (.hop :: packetAreas) = s.block.seen (.hop :: packetAreas) ∧
          t.block.hop.tsMeas.isSome = true ∧
          (s.block.hop.tsMeas.isSome = true → t.block.hop = s.block.hop))))

/-- SPARGE_BIND, SPARGE_STATUS and SPARGE_RESUME (R337, R349, R359, R396, R408, R413, R432): a channel between pages
takes its owner, target and sink, one with a page Draining answers BUSY_RETRY; status and counters are read, and cleared
with CLEAR; a Halted channel resumes, and any other answers BAD_PARAM. -/
def Obligations.SpargeCommandsAct : Prop :=
  ∀ (f : Fin 65) (p : Pkt) (s : State),
    (∀ w v, p.params = [w, v] → f.val = 64 → fld w 4 7 ≤ 64 → fld w 12 2 ≠ 3 → s.block.hears f p 0 false →
      ∃ t, exec (.spargeBind f p) s = .next t ∧
        ((s.block.chan (fld w 0 4)).draining = true →
          s.block.answered t.block f p stBusy [] ∧ s.block.calm t.block f []) ∧
        ((s.block.chan (fld w 0 4)).draining = false →
          (∀ c, t.block.chan c = if c = fld w 0 4 then { s.block.chan c with
            owner := fld w 4 7, target := fld w 12 2, sink := fld v 0 12, sinkGen := s.block.hop.gen }
            else s.block.chan c) ∧
          (s.block.noDrain →
            s.block.answered t.block f p stDone [] ∧ s.block.noted t.block f [.sparge]))) ∧
    (∀ w, p.params = [w] → f.val = 64 ∨ (s.block.chan (fld w 0 4)).owner = f.val → s.block.hears f p 4 false →
      ∃ t, exec (.spargeStatus f p) s = .next t ∧ s.block.calm t.block f [.sparge] ∧
        s.block.answered t.block f p stDone
          [w32 (pack [(2, (s.block.chan (fld w 0 4)).st.code), (2, 0), (7, (s.block.chan (fld w 0 4)).owner)]),
           w32 (s.block.chan (fld w 0 4)).pagesMoved, w32 (s.block.chan (fld w 0 4)).bytesMoved,
           w32 ((s.block.chan (fld w 0 4)).bytesMoved / 2 ^ 32)] ∧
        (∀ c, t.block.chan c = if f.val = 64 ∧ bit w 31 = true ∧ c = fld w 0 4 then
          { s.block.chan c with pagesMoved := 0, bytesMoved := 0 } else s.block.chan c)) ∧
    (∀ w, p.params = [w] → f.val = 64 → s.block.hears f p 0 false →
      ∃ t, exec (.spargeResume f p) s = .next t ∧
        ((s.block.chan (fld w 0 4)).st ≠ .halted →
          s.block.answered t.block f p stBadParam [] ∧ s.block.calm t.block f []) ∧
        ((s.block.chan (fld w 0 4)).st = .halted →
          s.block.answered t.block f p stDone [] ∧ s.block.calm t.block f [.sparge] ∧
          (∀ c, t.block.chan c = if c = fld w 0 4 then { s.block.chan c with
            st := if s.block.chanPages c = [] then .idle else .running } else s.block.chan c)))

/-- TENANT_SET and TENANT_GET (R351, R363): a field, owner and value that R351 and R371 allow are taken and every other
quota field of every owner stays, whatever the sums; anything else, and a POOL_MIN above POOL_MAX, is refused as
BAD_PARAM. -/
def Obligations.QuotaCommandsAct : Prop :=
  ∀ (f : Fin 65) (p : Pkt) (s : State), f.val = 64 →
    (∀ w v o k x, p.params = [w, v] → o = fld w 0 7 → k = fld w 8 8 → x = s.block.tenant o → s.block.hears f p 0 false →
      (quotaAdmits o k v → (k = 3 → v.toNat ≤ x.poolMax) → (k = 4 → x.poolMin ≤ v.toNat) →
        ∃ t, exec (.tenantSet f p) s = .next t ∧ s.block.answered t.block f p stDone [] ∧
          (t.block.tenant o).quotas =
            (if k = 0 then v.toNat else x.qos, if k = 1 then v.toNat else x.quota, if k = 2 then v.toNat else x.budget,
             if k = 3 then v.toNat else x.poolMin, if k = 4 then v.toNat else x.poolMax,
             if k = 5 then fld v 0 16 else x.intRate, if k = 5 then fld v 16 8 else x.intBurst) ∧
          (∀ g, g ≠ o → (t.block.tenant g).quotas = (s.block.tenant g).quotas)) ∧
      (¬quotaAdmits o k v ∨ (k = 3 ∧ x.poolMax < v.toNat) ∨ (k = 4 ∧ v.toNat < x.poolMin) →
        ∃ t, exec (.tenantSet f p) s = .next t ∧ s.block.answered t.block f p stBadParam [] ∧ s.block.calm t.block f [])) ∧
    (∀ w x, p.params = [w] → x = s.block.tenant (fld w 0 7) → fieldOk (callOf f p) = true → s.block.hears f p 1 false →
      ∃ t, exec (.tenantGet f p) s = .next t ∧ s.block.calm t.block f [] ∧
        s.block.answered t.block f p stDone [w32 ([x.qos, s.block.quotaOf (fld w 0 7), x.budget, x.poolMin, x.poolMax,
          pack [(16, x.intRate), (8, x.intBurst)]].getD (fld w 8 8) 0)])

/-- TENANT_RESET, VIOLATIONS, SCRUB_ABORT and PORT_COUNTERS (R310, R324, R350, R362, R375, R377, R387, R390): the reset
of a tenant has begun, or is joined, and the command waits for it; violation and port counters are read, and cleared
with CLEAR; the first scrub of the tenant named is to end, and any other tenant answers BAD_PARAM. That SCRUB_ABORT
takes the first scrub as the running one before its first write is the model's reading, log entry 43. -/
def Obligations.TenantCommandsAct : Prop :=
  ∀ (f : Fin 65) (p : Pkt) (s : State) (w : Word), p.params = [w] → f.val = 64 →
    (s.block.hears f p 2 true →
      ∃ t, exec (.tenantReset f p) s = .next t ∧ (t.block.tenant (fld w 0 6)).resetting = true ∧
        (∃ l, l ∈ (t.block.port f).longs ∧ l.tag = p.tag.toNat ∧ l.quiet = bit p.flags 1 ∧
          l.kind = .tenantReset (fld w 0 6) (if (s.block.tenant (fld w 0 6)).resetting = true ∧
              (s.block.tenant (fld w 0 6)).step2Due = false then (s.block.tenant (fld w 0 6)).oldEpoch
            else s.block.epochOf (fld w 0 6)) (s.block.tenant (fld w 0 6)).rstScrub) ∧
        ((s.block.tenant (fld w 0 6)).resetting = true → t.block.tenants = s.block.tenants ∧
          t.block.seen packetAreas = s.block.seen packetAreas) ∧
        ((s.block.tenant (fld w 0 6)).resetting = false → (t.block.tenant (fld w 0 6)).step2Due = true ∧
          (t.block.tenant (fld w 0 6)).intEnable = 0 ∧ (t.block.port (fld w 0 6)).negotiated = false ∧
          (t.block.port (fld w 0 6)).queue = [] ∧
          ((∀ c, c < 16 → (s.block.chan c).page = none ∧ (s.block.chan c).lagging = []) →
            (t.block.port (fld w 0 6)).ring = []))) ∧
    (fld w 0 7 ≤ 64 → s.block.hears f p 1 false →
      ∃ t, exec (.violations f p) s = .next t ∧
        s.block.answered t.block f p stDone [w32 (s.block.tenant (fld w 0 7)).violations] ∧
        (bit w 31 = false → s.block.calm t.block f []) ∧
        (bit w 31 = true → ∀ g, t.block.tenant g = { s.block.tenant g with
          violations := if g = fld w 0 7 then 0 else (s.block.tenant g).violations
          intStatus := if g = 64 then (t.block.tenant g).intStatus else (s.block.tenant g).intStatus
          due := if g = 64 then (t.block.tenant g).due else (s.block.tenant g).due })) ∧
    (fld w 0 7 = 0x7F → s.block.hears f p 1 false →
      ∃ t, exec (.violations f p) s = .next t ∧ s.block.answered t.block f p stDone [w32 s.block.power.violUnknown] ∧
        t.block.power = { s.block.power.served 64 s.block.gt with
          violUnknown := if bit w 31 then 0 else s.block.power.violUnknown } ∧
        (∀ g, g ≠ 64 → t.block.tenant g = s.block.tenant g)) ∧
    (s.block.hears f p 0 false →
      ∃ t, exec (.scrubAbort f p) s = .next t ∧
        ((∀ h, s.block.sparge.scrubs.head? = some h → h.tenant ≠ fld w 0 6) →
          s.block.answered t.block f p stBadParam [] ∧ s.block.calm t.block f []) ∧
        (∀ h rest, s.block.sparge.scrubs = h :: rest → h.tenant = fld w 0 6 → h.flight ≠ [] →
          s.block.answered t.block f p stDone [] ∧ s.block.calm t.block f [.sparge] ∧
          t.block.sparge = { s.block.sparge with scrubs := { h with ending := some 2 } :: rest }) ∧
        (∀ h rest, s.block.sparge.scrubs = h :: rest → h.tenant = fld w 0 6 → h.flight = [] →
          t.block.sparge.scrubs = rest ∧
          (t.block.tenant h.tenant).scrubResult = if h.wins = [] then 0 else 2)) ∧
    (fld w 0 7 ≤ 64 → s.block.hears f p 3 false →
      ∃ t, exec (.portCounters f p) s = .next t ∧
        s.block.answered t.block f p stDone [w32 (s.block.port (fld w 0 7)).cmdOverrun,
          w32 (s.block.port (fld w 0 7)).cmdFraming, w32 (s.block.port (fld w 0 7)).rspEmpty] ∧
        (bit w 31 = false → s.block.calm t.block f []) ∧
        (bit w 31 = true → (t.block.port (fld w 0 7)).cmdOverrun = 0 ∧ (t.block.port (fld w 0 7)).cmdFraming = 0 ∧
          (t.block.port (fld w 0 7)).rspEmpty = 0 ∧
          (∀ g, g ≠ f.val → g ≠ fld w 0 7 → t.block.port g = s.block.port g) ∧
          (∀ g, g ≠ f.val → t.block.tenant g = s.block.tenant g)))

/-- FABRIC_STATUS, ROUTE_READ and LINK_STATUS (R337, R352, R422, R430, R444, R445): what they read; with CLEAR,
LINK_STATUS clears the counters that it reads. LINK_CONTROL (R352, R422, R424, R444): a link that is to go down, or,
while ADMIN_UP, to start again from Training, is Closing first where it is Up, and is Down or in Training at once where
it is not; a link may come up; V2_ALLOW is stored with each. REDISCOVER and KEY_ROTATE (R352, R427, R440, R441):
discovery starts and, with no measurement of fabric time under way that it discards, the command waits for it, and is
answered at once where no version-3 link is Up; the keys of a version-2 link that is Up are asked for and the command
waits, and any other link answers BAD_PARAM, one that rotates BUSY_RETRY. That REDISCOVER keeps the generation and
completes at once in an isolated instance is the model's reading, log entry 36; that KEY_ROTATE asks for the transmit
key only (R440 asks for the keys of both ends) is log entry 39. -/
def Obligations.FabricCommandsAct : Prop :=
  (∀ (f : Fin 65) (p : Pkt) (s : State), f.val = 64 →
    (p.params = [] → s.block.hears f p 3 false →
      ∃ t, exec (.fabricStatus f p) s = .next t ∧ s.block.calm t.block f [] ∧
        s.block.answered t.block f p stDone
          [w32 (pack [(12, s.block.hop.nodeId), (12, s.block.hop.root), (6, s.block.hop.depth)]),
           w32 (pack [(16, s.block.nodesKnown), (3, s.block.hop.parent)]), w32 s.block.hop.disc]) ∧
    (∀ w, p.params = [w] → s.block.hears f p 1 false →
      ∃ t, exec (.routeRead f p) s = .next t ∧ s.block.calm t.block f [] ∧
        s.block.answered t.block f p stDone [if fld w 0 12 = 0xFFF then w32 (pack [(3, 7), (5, 0), (6, 0x3F)])
          else w32 (pack [(3, (s.block.route (fld w 0 12)).1), (5, 0), (6, (s.block.route (fld w 0 12)).2)])]) ∧
    (∀ w x, p.params = [w] → x = s.block.hopPort (fld w 0 3) → fld w 0 3 ≤ 5 → s.block.hears f p 4 false →
      ∃ t, exec (.linkStatus f p) s = .next t ∧ s.block.calm t.block f [.hop] ∧
        s.block.answered t.block f p stDone
          [w32 (pack [(4, x.st.code), (4, x.version), (8, x.reason), (1, b2n x.compat), (1, b2n x.kph)]), w32 x.node,
           w32 x.hopLost, w32 x.phaseDrop] ∧
        t.block.hop = { s.block.hop with ports := t.block.hop.ports } ∧
        (∀ k, t.block.hopPort k = if bit w 31 = true ∧ k = fld w 0 3 then
          { s.block.hopPort k with hopLost := 0, phaseDrop := 0 } else s.block.hopPort k))) ∧
  (∀ (f : Fin 65) (p : Pkt) (s : State) (w : Word) (x : HopPort), p.params = [w] → x = s.block.hopPort (fld w 0 3) →
    f.val = 64 → fld w 0 3 ≤ 5 → s.block.hears f p 0 false →
    (fld w 4 2 = 0 →
      ∃ t, exec (.linkControl f p) s = .next t ∧ (t.block.hopPort (fld w 0 3)).adminUp = false ∧
        (t.block.hopPort (fld w 0 3)).v2Allow = bit w 8 ∧
        (x.st = .up → (t.block.hopPort (fld w 0 3)).st = .closing ∧ (t.block.hopPort (fld w 0 3)).byeReason = 1) ∧
        (x.st = .closing → (t.block.hopPort (fld w 0 3)).st = .closing) ∧
        (x.st ≠ .up → x.st ≠ .closing → (t.block.hopPort (fld w 0 3)).st = .down ∧
          (t.block.hopPort (fld w 0 3)).reason = 1) ∧
        (x.st = .up ∨ x.st = .closing ∨ x.st = .down → s.block.answered t.block f p stDone [] ∧
          ∀ k, k ≠ fld w 0 3 → t.block.hopPort k = s.block.hopPort k)) ∧
    (fld w 4 2 = 1 →
      ∃ t, exec (.linkControl f p) s = .next t ∧ s.block.answered t.block f p stDone [] ∧
        (∀ k, k ≠ fld w 0 3 → t.block.hopPort k = s.block.hopPort k) ∧
        t.block.hopPort (fld w 0 3) = { x with
          adminUp := true, v2Allow := bit w 8
          st := if x.st = .down ∧ x.adminUp = false ∧ 5 ≤ s.block.power.phase then .training else x.st
          since := if x.st = .down ∧ x.adminUp = false ∧ 5 ≤ s.block.power.phase then s.block.gt else x.since }) ∧
    (fld w 4 2 = 2 →
      ∃ t, exec (.linkControl f p) s = .next t ∧ (t.block.hopPort (fld w 0 3)).v2Allow = bit w 8 ∧
        (t.block.hopPort (fld w 0 3)).adminUp = x.adminUp ∧
        (x.adminUp = true → x.st = .up → (t.block.hopPort (fld w 0 3)).st = .closing ∧
          (t.block.hopPort (fld w 0 3)).byeReason = 1) ∧
        (x.adminUp = true → x.st = .closing → (t.block.hopPort (fld w 0 3)).st = .closing) ∧
        (x.adminUp = true → x.st ≠ .up → x.st ≠ .closing → (t.block.hopPort (fld w 0 3)).st = .training) ∧
        (x.adminUp = false → (t.block.hopPort (fld w 0 3)).st = x.st ∧ s.block.answered t.block f p stDone [] ∧
          ∀ k, k ≠ fld w 0 3 → t.block.hopPort k = s.block.hopPort k))) ∧
  (∀ (f : Fin 65) (p : Pkt) (s : State), f.val = 64 →
    (p.params = [] → s.block.hears f p 2 true →
      ∃ t, exec (.rediscover f p) s = .next t ∧ t.block.hop.parent = 7 ∧ t.block.hop.bestHops = 0 ∧
        t.block.hop.bestKey = s.block.ownKey ∧ t.block.hop.gen = s.block.hop.gen % 256 ∧
        (s.block.up3 ≠ [] → t.block.hop.disc = 1 ∧
          (s.block.hop.tsMeas = none → s.block.begins t.block f p 2 .rediscover)) ∧
        (s.block.up3 = [] → t.block.hop.disc = 0 ∧
          (s.block.hop.tsMeas = none → (∀ e, e ∈ s.block.allLongs → e.2.kind ≠ .rediscover) →
            s.block.answered t.block f p stDone [w32 s.block.hop.nodeId, w32 s.block.nodesKnown]))) ∧
    (∀ w x, p.params = [w] → x = s.block.hopPort (fld w 0 3) → fld w 0 3 ≤ 5 → s.block.hears f p 1 true →
      ∃ t, exec (.keyRotate f p) s = .next t ∧
        (x.compat = false ∨ x.st ≠ .up → s.block.answered t.block f p stBadParam [] ∧ s.block.calm t.block f []) ∧
        (x.compat = true → x.st = .up → x.rotating = true →
          s.block.answered t.block f p stBusy [] ∧ s.block.calm t.block f []) ∧
        (x.compat = true → x.st = .up → x.rotating = false →
          s.block.begins t.block f p 1 (.keyRotate (fld w 0 3)) ∧ t.block.tenants = s.block.tenants ∧
          t.block.out = s.block.out ++ [.keyReq s.block.hop.nodeId (fld w 0 3) x.nuid (!x.kph) false] ∧
          (∀ k, t.block.hopPort k = if k = fld w 0 3 then { x with
            rotating := true, rotStep := 1, rotGt := s.block.gt, keyReq := x.keyReq ++ [(false, !x.kph, s.block.gt)] } else s.block.hopPort k))))

/-- MEAS_STATUS, MEAS_READ, PATCH_DIGEST, FAULT_READ and DIAG_MARK (R331, R353, R356, R357, R450, R453, R455): what they
read; the mark is one record more. POWER_HOLD, POWER_STATUS and POWER_POLICY (R354, R355, R466): the caller's hold is
set, or ended by floor 3, and is answered at once in Run, above every floor; the mean power is a free value; the policy
is stored. Word 2 of MEAS_STATUS and bits [9:8] of POWER_STATUS are the model's reading, log entry 62. -/
def Obligations.MeasAndPowerCommandsAct : Prop :=
  (∀ (f : Fin 65) (p : Pkt) (s : State),
    (p.params = [] → f.val = 64 → s.block.hears f p 3 false →
      ∃ t, exec (.measStatus f p) s = .next t ∧ s.block.calm t.block f [] ∧
        s.block.answered t.block f p stDone
          [w32 s.block.meas.built, w32 s.block.meas.taken, if s.block.meas.patchDigest = [] then 0 else 1]) ∧
    (∀ w, p.params = [w] → f.val = 64 → s.block.hears f p 14 false →
      ∃ t, exec (.measRead f p) s = .next t ∧ s.block.calm t.block f [] ∧
        (tget none s.block.meas.table (2 * fld w 0 11 + fld w 11 1) = none →
          s.block.answered t.block f p stDone (List.replicate 14 0)) ∧
        (∀ bytes tap d, tget none s.block.meas.table (2 * fld w 0 11 + fld w 11 1) = some (bytes, tap, d) →
          s.block.answered t.block f p stDone (digestWords d ++ [w32 bytes, w32 (tap % 2048 + 2 ^ 31)]))) ∧
    (p.params = [] → f.val = 64 → s.block.hears f p 13 false →
      ∃ t, exec (.patchDigest f p) s = .next t ∧ s.block.calm t.block f [] ∧
        s.block.answered t.block f p stDone (digestWords s.block.meas.patchDigest ++ [w32 s.block.meas.patchBytes])) ∧
    (p.params = [] → f.val = 64 → s.block.hears f p 2 false →
      ∃ t, exec (.faultRead f p) s = .next t ∧ s.block.calm t.block f [] ∧
        s.block.answered t.block f p stDone
          [w32 (pack [(8, s.block.power.faultCause), (8, 0), (16, s.block.power.restarts)]), w32 s.block.power.hwFaults]) ∧
    (∀ w x0 x1 x2, p.params = [w, x0, x1, x2] → s.block.hears f p 0 false →
      ∃ t r, exec (.diagMark f p) s = .next t ∧ s.block.answered t.block f p stDone [] ∧ s.block.calm t.block f [.recs] ∧
        t.block.recs = s.block.recs ++ [r] ∧ r.source = 20 ∧ r.owner = f.val ∧ r.interest = fld w 0 2 ∧
        r.bytes = leBytes 1 f ++ leBytes 1 p.tag.toNat ++ gtBytes s.block.gt ++ leBytes 1 s.block.alEpoch ++
          leBytes 4 x0.toNat ++ leBytes 4 x1.toNat ++ leBytes 4 x2.toNat)) ∧
  (∀ (f : Fin 65) (p : Pkt) (s : State),
    (∀ w, p.params = [w] → 1 ≤ fld w 16 16 → fld w 16 16 ≤ 10000 → s.block.hears f p 0 true →
      ∃ t, exec (.powerHold f p) s = .next t ∧
        (t.block.tenant f).hold = (if fld w 0 2 = 3 then none else some (fld w 0 2, s.block.gt + ms (fld w 16 16))) ∧
        (∀ g, g ≠ f.val → t.block.tenant g = s.block.tenant g) ∧
        s.block.answered t.block f p stDone []) ∧
    (p.params = [] → f.val = 64 → s.block.hears f p 4 false →
      ∃ t, exec (.powerStatus f p) s = .next t ∧ s.block.calm t.block f [.free] ∧
        s.block.answered t.block f p stDone
          [w32 (pack [(2, s.block.power.st.code), (6, 0), (2, s.block.power.policy)]), w32 s.block.takeFree.1,
           w32 s.block.power.wakes, w32 ((s.block.floorHold.map Prod.snd).getD 0x7F)] ∧
        t.block.freeCtr = s.block.takeFree.2.freeCtr) ∧
    (∀ w, p.params = [w] → f.val = 64 → fld w 0 2 ≠ 0 → s.block.hears f p 0 false →
      ∃ t, exec (.powerPolicy f p) s = .next t ∧ s.block.answered t.block f p stDone [] ∧
        t.block.power = { s.block.power.served f s.block.gt with policy := fld w 0 2 } ∧
        (∀ g, g ≠ f.val → t.block.tenant g = s.block.tenant g) ∧
        t.block.seen packetAreas = s.block.seen packetAreas))

/-- CMD_DATA_WRITE, ABORT_OPEN and ABORT_QUEUED (R309, R310, R311, R312, R315, R381, R504): a word written to `CMD_DATA`
counts toward an ignored packet, is a header or a parameter, or is counted as a framing error or an overrun; aborts
empty the partly written packet and the queue; a Resetting tenant's words are ignored, and an abort without a strobe
changes nothing. Each abort row sets its own bit of the word written (the model's reading, log entry 49). Only the
caller's port, the wake state, the latch and the response beat change. -/
def Obligations.CommandPortWritesAct : Prop :=
  ∀ (r : RtReq) (s : State) (n : Nat) (x : Port), n = r.src.val → x = s.block.port n → s.block.admits n →
    (∃ t, exec (.cmdDataWrite r) s = .next t ∧ s.block.beats t.block n r.id 0 [.ports] ∧
      (∀ g, g ≠ n → t.block.port g = s.block.port g) ∧
      ((s.block.tenant n).resetting = true → t.block.port n = x) ∧
      ((s.block.tenant n).resetting = false → 0 < x.ignore → t.block.port n = { x with ignore := x.ignore - 1 }) ∧
      ((s.block.tenant n).resetting = false → x.ignore = 0 → x.hdr = none → r.strb ≠ 15 →
        t.block.port n = { x with framing := true, cmdFraming := satAdd 32 x.cmdFraming 1 }) ∧
      ((s.block.tenant n).resetting = false → x.ignore = 0 → x.hdr = none → r.strb = 15 →
        t.block.port n =
          if s.block.availLines n < (linesOf (1 + hdrLen r.data) : Nat) then
            { x with overrun := true, cmdOverrun := satAdd 32 x.cmdOverrun (1 + hdrLen r.data), ignore := hdrLen r.data }
          else if hdrLen r.data = 0 then { x with queue := x.queue ++ [mkPoolPkt r.data []] }
          else { x with hdr := some r.data, words := [] }) ∧
      (∀ h, (s.block.tenant n).resetting = false → x.ignore = 0 → x.hdr = some h →
        t.block.port n =
          if x.words.length + 1 < hdrLen h then { x with words := x.words ++ [(strobed r.data r.strb, r.strb)] }
          else { x with hdr := none, words := []
                        queue := x.queue ++ [mkPoolPkt h (x.words ++ [(strobed r.data r.strb, r.strb)])] })) ∧
    (∃ t, exec (.abortOpen r) s = .next t ∧ s.block.beats t.block n r.id 0 [.ports] ∧
      (∀ g, g ≠ n → t.block.port g = s.block.port g) ∧
      t.block.port n = if r.strb = 0 then x else { x with
        hdr := none, words := [], ignore := 0, queue := if bit r.data 1 then [] else x.queue }) ∧
    (∃ t, exec (.abortQueued r) s = .next t ∧ s.block.beats t.block n r.id 0 [.ports] ∧
      (∀ g, g ≠ n → t.block.port g = s.block.port g) ∧
      t.block.port n = if r.strb = 0 then x else { x with
        hdr := if bit r.data 0 then none else x.hdr, words := if bit r.data 0 then [] else x.words
        ignore := if bit r.data 0 then 0 else x.ignore, queue := [] })

/-- RSP_DATA_READ, RSP_STALL_EXPIRY, RSP_MARK_WRITE, RSP_REWIND and RSP_RELEASE (R323 to R328, R381): a readable word is
returned and passed, the empty word is returned at once with a stall limit of 0, and otherwise the read parks; a parked
read at its limit returns the empty word; the mark, the read pointer and the release point move. RSP_STALL_EXPIRY
(R324): the parked read at the front of a port's line, at its stall limit, returns the empty word and is counted;
nothing else changes. -/
def Obligations.ResponsePortActs : Prop :=
  (∀ (r : RtReq) (s : State) (n : Nat) (x : Port), n = r.src.val → x = s.block.port n → s.block.admits n →
    (∃ t, exec (.rspDataRead r) s = .next t ∧ (∀ g, g ≠ n → t.block.port g = s.block.port g) ∧
      ((s.block.tenant n).resetting = true → s.block.beats t.block n r.id 0 [.ports] ∧ t.block.port n = x) ∧
      ((s.block.tenant n).resetting = false → 0 < x.readable →
        s.block.beats t.block n r.id x.takeWord.1 [.ports] ∧ t.block.port n = x.takeWord.2) ∧
      ((s.block.tenant n).resetting = false → x.readable = 0 → x.stallNs = 0 →
        s.block.beats t.block n r.id 0 [.ports] ∧
        t.block.port n = { x with emptyRead := true, rspEmpty := satAdd 32 x.rspEmpty 1 }) ∧
      ((s.block.tenant n).resetting = false → x.readable = 0 → 0 < x.stallNs →
        t.block.out = s.block.out ∧ ∃ a, isRspRead (false, a, s.block.gt) = true ∧ a.src.val = n ∧ a.id = r.id ∧
          t.block.port n = { x with parked := [(false, a, s.block.gt)] })) ∧
    (∃ t, exec (.rspMarkWrite r) s = .next t ∧ s.block.beats t.block n r.id 0 [.ports] ∧
      t.block.port n = if r.strb = 0 then x else { x with mark := x.rd }) ∧
    (∃ t, exec (.rspRewind r) s = .next t ∧ s.block.beats t.block n r.id 0 [.ports] ∧
      t.block.port n = if r.strb = 0 then x else { x with rd := x.mark }) ∧
    (∃ t, exec (.rspRelease r) s = .next t ∧ s.block.beats t.block n r.id 0 [.ports] ∧
      t.block.port n = if r.strb = 0 then x else { x with
        ring := (releaseList x.rd x.ring x.rel).1, rel := (releaseList x.rd x.ring x.rel).2
        mark := max x.mark (releaseList x.rd x.ring x.rel).2 })) ∧
  (∀ (f : Fin 65) (s : State) (a : Acc) (at0 : Gt) (rest : List (Bool × Acc × Gt)),
    (s.block.port f).parked = (false, a, at0) :: rest → isRspRead (false, a, at0) = true →
    at0 + (s.block.port f).stallNs * 256 ≤ s.block.gt →
    ∃ t, exec (.rspStallExpiry f) s = .next t ∧ t.block.out = s.block.out ++ [.rt a.src a.id 0] ∧
      (∀ g, t.block.port g = if g = f.val then { s.block.port g with
        emptyRead := true, rspEmpty := satAdd 32 (s.block.port g).rspEmpty 1, parked := rest } else s.block.port g) ∧
      t.block.seen [.ports, .out] = s.block.seen [.ports, .out])

/-- FN_RESET_WRITE, INT_STATUS_CLEAR and INT_ENABLE_WRITE (R330, R371, R372, R375, R376): a tenant's own reset begins in
Run; a status bit that is cleared and a vector that is disabled lose their due messages, and a vector that is enabled
while its status bit is 1 falls due. DOORBELL, RING_RESET, CHANNEL_ENABLE and CHANNEL_DISABLE (R395, R396, R399, R409)
by the operator: a starved channel reads the descriptor at HEAD again; a Disabled channel takes HEAD 0 and is enabled; a
channel without page, descriptor or write under way is Disabled at once, but a Halted one not in the cycle of its error
(R413). The read identifier of tag 0 is the model's choice, log entry 42; INT_ENABLE while Resetting is log entry 47,
and that a row forces its bit is log entry 49. -/
def Obligations.InterruptAndChannelRegistersAct : Prop :=
  (∀ (r : RtReq) (s : State) (n : Nat) (x : Tenant), n = r.src.val → x = s.block.tenant n → s.block.admits n →
    (n < 64 → r.strb ≠ 0 → s.block.running = true → x.resetting = false →
      ∃ t, exec (.fnResetWrite r) s = .next t ∧ (t.block.tenant n).resetting = true ∧
        (t.block.tenant n).step2Due = true ∧ (t.block.tenant n).intEnable = 0 ∧ (t.block.tenant n).viewSel = [] ∧
        (t.block.tenant n).hold = none ∧ (t.block.port n).negotiated = false ∧ (t.block.port n).queue = [] ∧
        (t.block.port n).stallNs = 4000 ∧
        ((∀ c, c < 16 → (s.block.chan c).page = none ∧ (s.block.chan c).lagging = []) →
          (t.block.port n).ring = [] ∧ (t.block.port n).rspSeq = 1 ∧ (t.block.port n).longs = [])) ∧
    (n < 64 → r.strb ≠ 0 → x.resetting = true →
      ∃ t, exec (.fnResetWrite r) s = .next t ∧ s.block.beats t.block n r.id 0 []) ∧
    (∃ t, exec (.intStatusClear r) s = .next t ∧ s.block.beats t.block n r.id 0 [.tenants] ∧
      (∀ g, g ≠ n → t.block.tenant g = s.block.tenant g) ∧
      t.block.tenant n = { x with
        intStatus := w1c x.intStatus r.data r.strb
        due := x.due.filter (fun k => bit (w1c x.intStatus r.data r.strb) k)
        deferring := (t.block.tenant n).deferring }) ∧
    (∃ t, exec (.intEnableWrite r) s = .next t ∧ s.block.beats t.block n r.id 0 [.tenants] ∧
      (∀ g, g ≠ n → t.block.tenant g = s.block.tenant g) ∧
      t.block.tenant n = { x with
        intEnable := merge x.intEnable r.data r.strb (if n = 64 then 0xFFFFFFFF#32 else 0xFF#32)
        due := (t.block.tenant n).due, deferring := (t.block.tenant n).deferring } ∧
      (∀ k, k ∈ (t.block.tenant n).due ↔ bit (t.block.tenant n).intEnable k = true ∧
        (k ∈ x.due ∨ (k < 32 ∧ bit x.intEnable k = false ∧ bit x.intStatus k = true))))) ∧
  (∀ (ch : Fin 16) (r : RtReq) (s : State) (x : Channel), x = s.block.chan ch → r.src.val = 64 → s.block.admits 64 →
    (r.strb ≠ 0 → x.starved = true → x.st = .running → x.enable = true → x.stop = .none → x.target = 0 → x.desc = none →
      x.descRead = false → x.idxRead = false → x.flight = [] → s.block.canSpend x.owner 64 = true → s.block.noDrain →
      s.block.power.goal ≠ .off →
      ∃ t, exec (.doorbell ch r) s = .next t ∧ (t.block.chan ch).descRead = true ∧ (t.block.chan ch).bell = false ∧
        t.block.out = s.block.out ++
          [.memRead (memPort ch) (64 * ch) (x.descAddr x.head) 32, .rt 64 r.id 0]) ∧
    (r.strb = 0 ∨ x.starved = false →
      ∃ t, exec (.doorbell ch r) s = .next t ∧ s.block.beats t.block 64 r.id 0 []) ∧
    (∃ t, exec (.ringReset ch r) s = .next t ∧ s.block.beats t.block 64 r.id 0 [.sparge, .rings] ∧
      (∀ c, t.block.chan c = if c = ch.val ∧ x.st = .disabled ∧ r.strb ≠ 0 then { s.block.chan c with head := 0 }
        else s.block.chan c)) ∧
    (bit r.strb 0 = true → x.st = .disabled → x.stop = .none →
      ∃ t, exec (.channelEnable ch r) s = .next t ∧ (t.block.chan ch).enable = true ∧
        (t.block.chan ch).swap = fld r.data 1 2 ∧ ((t.block.chan ch).st = .idle ∨ (t.block.chan ch).st = .running)) ∧
    (bit r.strb 0 = true → x.stop = .none → x.flight = [] → x.page = none → x.lagging = [] → x.desc = none →
      x.descRead = false → x.idxRead = false → (x.st = .halted → s.block.errNow x = false) →
      ∃ t, exec (.channelDisable ch r) s = .next t ∧ (t.block.chan ch).enable = false ∧
        (t.block.chan ch).swap = fld r.data 1 2 ∧ (t.block.chan ch).st = .disabled ∧
        (∀ c, c ≠ ch.val → t.block.chan c = s.block.chan c)))

/-- The five CNT_CLEAR rows (R508, R510) by the operator: with `m` the data, of which the row's bit is 1, each group of
counters whose bit in `m` is 1 is cleared and every other group stays. REGISTER_WRITE (R6, R304, R396, R444, R445, R475,
R504, R508, R516): the strobed bytes of the RW bits take the data; ring and window registers only while the channel is
Disabled; LOSS_SEEN clears the ones written, but not the bit of a loss counted at the same gt; a function clears the
flags of its own CMD_CREDITS and RSP_LEVEL by writing ones. That a CNT_CLEAR row forces its bit, and that reserved low
bits of bases are stored as written, is the model's choice, log entry 49. -/
def Obligations.CounterAndPlainRegistersAct : Prop :=
  (∀ (r : RtReq) (s : State) (i : Instr) (m : Word), r.src.val = 64 → s.block.admits 64 → r.strb ≠ 0 →
    (i, m) ∈ [(.cntClearTime r, r.data ||| 1), (.cntClearMeas r, r.data ||| 2), (.cntClearRec r, r.data ||| 4),
      (.cntClearBuserr r, r.data ||| 8), (.cntClearDefer r, r.data ||| 16)] →
    ∃ t, exec i s = .next t ∧ s.block.beats t.block 64 r.id 0 [.time, .meas, .tenants] ∧
      t.block.time = (if bit m 0 then
        { s.block.time with busLost := 0, ppsMismatch := 0, tsyncReject := 0, csGlitch := 0 } else s.block.time) ∧
      t.block.meas = (if bit m 1 then { s.block.meas with orphan := 0, ctrlDrop := 0, overflow := 0 }
        else s.block.meas) ∧
      t.block.power.recLost = (if bit m 2 then [] else s.block.power.recLost) ∧
      t.block.power.busErrors = (if bit m 3 then [] else s.block.power.busErrors) ∧
      (∀ n, t.block.tenant n = if bit m 4 = true ∧ n < 64 then { s.block.tenant n with deferred := 0 }
        else s.block.tenant n)) ∧
  (∀ (a : Acc) (s : State), a.src.val = 64 → s.block.admits 64 →
    (accOff a = 0x40104 →
      ∃ t, exec (.registerWrite a) s = .next t ∧ s.block.beats t.block 64 a.id 0 [] ∧
        ∀ v, v = merge (s.block.opRead 0x104) a.data a.strb 0xFFFF0001#32 →
          t.block.power.lowEn = bit v 0 ∧ t.block.power.activeUs = fld v 16 16) ∧
    (accOff a = 0x40114 →
      ∃ t, exec (.registerWrite a) s = .next t ∧ s.block.beats t.block 64 a.id 0 [] ∧
        t.block.power.lossSeen = w1c s.block.power.lossSeen a.data a.strb |||
          (if s.block.power.lossNow.2 = s.block.gt then s.block.power.lossNow.1 else 0)) ∧
    (accOff a = 0x66008 →
      ∃ t, exec (.registerWrite a) s = .next t ∧ s.block.beats t.block 64 a.id 0 [.hop] ∧
        t.block.hop = { s.block.hop with prio := (merge (w32 s.block.hop.prio) a.data a.strb 0xFF#32).toNat }) ∧
    (∀ p, p < 6 → accOff a = 0x60030 + 0x1000 * p →
      ∃ t, exec (.registerWrite a) s = .next t ∧ s.block.beats t.block 64 a.id 0 [.hop] ∧
        ∀ k, t.block.hopPort k = if k = p then { s.block.hopPort k with
          keyPeriod := (merge (w32 (s.block.hopPort k).keyPeriod) a.data a.strb 0xFFFF#32).toNat }
          else s.block.hopPort k) ∧
    (∀ c, c < 16 → accOff a = chanAddr c 0x010 →
      ∃ t, exec (.registerWrite a) s = .next t ∧ s.block.beats t.block 64 a.id 0 [.sparge, .rings] ∧
        ∀ k, t.block.chan k = if k = c ∧ (s.block.chan k).st = .disabled then { s.block.chan k with
          ringLog2 := (merge (w32 (s.block.chan k).ringLog2) a.data a.strb 0x1F#32).toNat } else s.block.chan k) ∧
    (∀ c hi, c < 16 → accOff a = chanAddr c (if hi then 0x00C else 0x008) →
      ∃ t, exec (.registerWrite a) s = .next t ∧ s.block.beats t.block 64 a.id 0 [.sparge, .rings] ∧
        ∀ k, t.block.chan k = if k = c ∧ (s.block.chan k).st = .disabled then { s.block.chan k with
          ringBase := merge64 (s.block.chan k).ringBase hi a.data a.strb } else s.block.chan k) ∧
    (∀ c hi, c < 16 → accOff a = chanAddr c (if hi then 0x024 else 0x020) →
      ∃ t, exec (.registerWrite a) s = .next t ∧ s.block.beats t.block 64 a.id 0 [.sparge, .rings] ∧
        ∀ k, t.block.chan k = if k = c ∧ (s.block.chan k).st = .disabled then { s.block.chan k with
          winBase := merge64 (s.block.chan k).winBase hi a.data a.strb } else s.block.chan k) ∧
    (∀ c hi, c < 16 → accOff a = chanAddr c (if hi then 0x02C else 0x028) →
      ∃ t, exec (.registerWrite a) s = .next t ∧ s.block.beats t.block 64 a.id 0 [.sparge, .rings] ∧
        ∀ k, t.block.chan k = if k = c ∧ (s.block.chan k).st = .disabled then { s.block.chan k with
          winSize := merge64 (s.block.chan k).winSize hi a.data a.strb } else s.block.chan k) ∧
    (regAt (accOff a) = none →
      ∃ t, exec (.registerWrite a) s = .next t ∧ s.block.beats t.block 64 a.id 0 []) ∧
    (∀ (v : Acc) (n : Nat) (x : Port) (m : Word), v.src.val = n → n ≤ 64 → s.block.admits n → x = s.block.port n →
      m = v.data &&& strbMask v.strb →
      (accOff v = ownBase n + 0x004 →
        ∃ t, exec (.registerWrite v) s = .next t ∧ s.block.beats t.block n v.id 0 [.ports] ∧
          ∀ g, t.block.port g = if g = n then { x with
            framing := x.framing && !bit m 30, overrun := x.overrun && !bit m 31 } else s.block.port g) ∧
      (accOff v = ownBase n + 0x014 →
        ∃ t, exec (.registerWrite v) s = .next t ∧ s.block.beats t.block n v.id 0 [.ports] ∧
          ∀ g, t.block.port g = if g = n then { x with emptyRead := x.emptyRead && !bit m 31 } else s.block.port g)))

/-- SNAP_RELEASE, SPLIT_LO_READ, ACCESS_OUTSIDE_RIGHTS and REGISTER_ACCESS_HELD (R23, R269, R361, R362, R483, R504,
R505): a Valid snapshot becomes Empty; a `_LO` register latches the rest of its value for the source, and the next read
of a part returns it; an access outside the rights reads zero and is counted; below Run an access is held and wakes the
block. That SNAP_RELEASE forces its bit and SPLIT_LO_READ is any register read is the model's reading, log entry 49. -/
def Obligations.RegisterAccessesAct : Prop :=
  (∀ (r : RtReq) (s : State), r.src.val = 64 → s.block.admits 64 → bit r.strb 0 = true →
    ∃ t, exec (.snapRelease r) s = .next t ∧ s.block.beats t.block 64 r.id 0 [.sync] ∧
      t.block.sync = { s.block.sync with snap := { s.block.sync.snap with
        overwrite := bit r.data 2
        st := if s.block.sync.snap.st = .valid then .empty else s.block.sync.snap.st
        image := if s.block.sync.snap.st = .valid then [] else s.block.sync.snap.image } }) ∧
  (∀ (a : Acc) (s : State) (g : Reg) (n : Nat), n = a.src.val → n ≤ 64 → s.block.admits n → regAt (accOff a) = some g →
    g.allowed n false = true → g ≠ .fn n 0x010 →
    ∃ t, exec (.splitLoRead a) s = .next t ∧
      (splitRest (accOff a) ≠ [] → s.block.beats t.block n a.id (s.block.regRead g) [] ∧
        tget (0, []) t.block.lo n = (accOff a, (splitRest (accOff a)).map s.block.live)) ∧
      (splitRest (accOff a) = [] → accOff a ∉ splitRest (tget (0, []) s.block.lo n).1 →
        s.block.beats t.block n a.id (s.block.regRead g) []) ∧
      (∀ lo w ws, tget (0, []) s.block.lo n = (lo, w :: ws) → accOff a = lo + 4 → accOff a ∈ splitRest lo →
        s.block.beats t.block n a.id w [])) ∧
  (∀ (we : Bool) (a : Acc) (s : State), a.src.val ≤ 64 → s.block.admits a.src → accOutside a we = true →
    (s.block.tenant 64).resetting = false →
    ∃ t, exec (.accessOutsideRights we a) s = .next t ∧ s.block.beats t.block a.src a.id 0 [.tenants] ∧
      (t.block.tenant a.src).violations = satAdd 32 (s.block.tenant a.src).violations 1 ∧
      bit (t.block.tenant 64).intStatus 14 = true) ∧
  (∀ (we : Bool) (a : Acc) (s : State), 64 < a.src.val → s.block.admits a.src → (s.block.tenant 64).resetting = false →
    ∃ t, exec (.accessOutsideRights we a) s = .next t ∧ s.block.beats t.block a.src a.id 0 [.tenants] ∧
      t.block.power.violUnknown = satAdd 32 s.block.power.violUnknown 1 ∧
      bit (t.block.tenant 64).intStatus 14 = true) ∧
  (∀ (we : Bool) (a : Acc) (s : State), s.block.frontHolds = true → s.block.power.st ≠ .off → s.block.power.quiesce = false →
    s.block.outstanding a.src < 4 →
    ∃ t, exec (.registerAccessHeld we a) s = .next t ∧ t.block.held = s.block.held ++ [(we, a, s.block.gt)] ∧
      t.block.out = s.block.out ∧ (s.block.power.st ≠ .run → s.block.power.goal ≠ .off → t.block.power.waking = true) ∧
      t.block.seen [.power, .held] = s.block.seen [.power, .held])

/-- TAP_ACCEPT_ITEM (R38, R39, R64, R65, R71, R72, R79, R80, R82, R83): an item of a defined class and kind enters the
chain with the cycles since the one before, behind a delta-extend after a gap above 4,095, and pushes the oldest item
out of a full chain, one in a tap cycle; a refused A item and an undefined kind store nothing. TAP_SLOT_WRITE (R73, R75,
R89, R282): the first pending item of the order clock mark, P UP, P DOWN, O CONTEXT, anchor mark and counter report
enters the chain and no longer pends; with none pending, or a cycle whose items are written (R71), nothing is. The
aligned windows of C reports are the model's reading, log entry 14, FULL on an A item that overwrites its choice, log
entry 25, and that one slot item goes a cycle ahead of the engine's item is log entry 7. -/
def Obligations.ItemsEnterTheChain : Prop :=
  (∀ (tap : Fin 2048) (cyc : Nat) (cls : BitVec 4) (p : Payload) (s : State) (u : Tap),
    u = (s.block.passTap tap cyc).tap tap →
    ∃ t, exec (.tapAcceptItem tap cyc cls p) s = .next t ∧ (∀ n, n ≠ tap.val → t.block.tap n = s.block.tap n) ∧
      (u.writes = false ∨ u.engUsed = true → t.block.tap tap = u) ∧
      (u.writes = true → u.engUsed = false → u.judge cls.toNat p = .refusedA → t.block.tap tap = u.countTap 0x10) ∧
      (u.writes = true → u.engUsed = false → u.judge cls.toNat p = .bad → t.block.tap tap = { u with badClass := true }) ∧
      (∀ q, u.writes = true → u.engUsed = false → u.judge cls.toNat p = .item q ∨ u.judge cls.toNat p = .itemBad q →
        (t.block.tap tap).since = 0 ∧ (t.block.tap tap).engUsed = true ∧
        (t.block.tap tap).badClass = (u.badClass || decide (u.judge cls.toNat p = .itemBad q)) ∧
        (t.block.tap tap).est =
          (if cls.toNat = clsE ∧ payKind q = 0 then some (fld q 42 2, fld q 36 6) else u.est) ∧
        (u.since ≤ 4095 → u.chain.length < 32 → (t.block.tap tap).tapLost = u.tapLost ∧
          (t.block.tap tap).chain = u.chain ++
            [{ cls := cls.toNat, delta := u.since, ctx := u.ctx,
               pay := if cls.toNat = clsA then setFld q 47 1 (b2n u.full) else q }]) ∧
        (u.since ≤ 4095 → u.chain.length = 32 → (t.block.tap tap).tapLost = satAdd 16 u.tapLost 1 ∧
          (t.block.tap tap).chain = u.chain.drop 1 ++
            [{ cls := cls.toNat, delta := u.since, ctx := u.ctx,
               pay := if cls.toNat = clsA then setFld q 47 1 1 else q }]) ∧
        (4095 < u.since → u.chain.length < 31 → (t.block.tap tap).tapLost = u.tapLost ∧
          (t.block.tap tap).chain = u.chain ++
            [{ cls := clsDx, delta := 0xFFF, ctx := u.ctx,
               pay := if 2 ^ 48 ≤ u.since then BitVec.allOnes 48 else pay u.since },
             { cls := cls.toNat, delta := 0, ctx := u.ctx,
               pay := if cls.toNat = clsA then setFld q 47 1 (b2n u.full) else q }]))) ∧
  (∀ (tap : Fin 2048) (cyc : Nat) (s : State) (u : Tap), u = (s.block.passTap tap cyc).tap tap → u.chain.length < 32 →
    ∃ t, exec (.tapSlotWrite tap cyc) s = .next t ∧ (∀ n, n ≠ tap.val → t.block.tap n = s.block.tap n) ∧
      (u.writes = false ∨ u.slotUsed = true ∨ u.engUsed = true → t.block.tap tap = u) ∧
      (∀ new old, u.slotFree → u.pClk = some (new, old) →
        (t.block.tap tap).chain = u.chain ++
          [{ cls := clsClock, delta := min u.since 4095, ctx := u.ctx,
             pay := pay (new * 2 ^ 42 + old * 2 ^ 40) }] ∧
        (t.block.tap tap).pClk = none ∧ (t.block.tap tap).lastMark = new ∧ (t.block.tap tap).slotUsed = true ∧
        (t.block.tap tap).full = (u.full || (new == 0 && old == 2))) ∧
      (∀ ab cl lost, u.slotFree → u.pClk = none → u.pUp = some (ab, cl, lost) →
        (t.block.tap tap).chain = u.chain ++
          [{ cls := clsP, delta := 0, ctx := u.ctx,
             pay := pay (2 ^ 44 + b2n ab * 2 ^ 43 + b2n cl * 2 ^ 42 + b2n lost * 2 ^ 38) }] ∧
        (t.block.tap tap).pUp = none ∧ (t.block.tap tap).anchorReq = true ∧ (t.block.tap tap).full = true ∧
        (t.block.tap tap).est = none ∧ (t.block.tap tap).pCtx = (u.mergeCtx 2 0).pCtx ∧
        (t.block.tap tap).pClk = (if ab && u.clk != u.lastMark then some (u.clk, u.lastMark) else none)) ∧
      (∀ pwr, u.slotFree → u.pClk = none → u.pUp = none → u.pDown = some pwr →
        (t.block.tap tap).chain = u.chain ++
          [{ cls := clsP, delta := min u.since 4095, ctx := u.ctx,
             pay := pay (pwr * 2 ^ 40) }] ∧ (t.block.tap tap).pDown = none) ∧
      (∀ cause old, u.slotFree → u.pClk = none → u.pUp = none → u.pDown = none → u.pCtx = some (cause, old) →
        (t.block.tap tap).chain = u.chain ++
          [{ cls := clsO, delta := min u.since 4095, ctx := u.ctx,
             pay := pay (u.ctx * 2 ^ 32 + old * 2 ^ 20 + cause * 2 ^ 18) }] ∧
        (t.block.tap tap).pCtx = none ∧ (t.block.tap tap).full = true) ∧
      (∀ num sq ph df, u.slotFree → u.pClk = none → u.pUp = none → u.pDown = none → u.pCtx = none →
        u.pAnchor = some (num, sq, ph, df) →
        (t.block.tap tap).chain = u.chain ++
          [{ cls := clsAnchor, delta := min u.since 4095, ctx := u.ctx,
             pay := pay (sq % 64 * 2 ^ 38 + ph % 64 * 2 ^ 32 + df * 2 ^ 28), strobe := num }] ∧
        (t.block.tap tap).pAnchor = none) ∧
      (∀ k c, u.slotFree → u.pClk = none → u.pUp = none → u.pDown = none → u.pCtx = none → u.pAnchor = none →
        u.dueC s.block.gt = some (k, c) →
        (t.block.tap tap).chain = u.chain ++
          [{ cls := clsC, delta := min u.since 4095, ctx := u.ctx,
             pay := pay (k * 2 ^ 44 + c.reported % 2 ^ 44) }] ∧
        (tget {} (t.block.tap tap).cnt k).pendC = false) ∧
      (u.pClk = none → u.pUp = none → u.pDown = none → u.pCtx = none → u.pAnchor = none → u.dueC s.block.gt = none →
        t.block.tap tap = u))

/-- TAP_CLOCK_STATE_CHANGE, TAP_CONTEXT_CHANGE, TAP_DRAIN_REQUEST, TAP_DRAIN_ABANDON, TAP_STROBE_ARRIVAL,
TAP_CONFIG_APPLY and TAP_RESYNC_REQUEST (R50, R73, R77, R79, R84, R86 to R89, R281, R517): what each leaves of the tap;
a change of clock state in the first cycle after a power-up writes P UP and leaves the mark pending, one that meets the
mark of an abandoned drain makes one mark with it; no other tap changes, and, but for the loss and the wake that the
write of an item may bring, no other part of the block. That a descriptor write always clears the value is the model's
reading, log entry 29, that it drops the counter's pending report log entry 94; that a change after the cycle's items
falls in the next cycle is its choice, log entry 7. -/
def Obligations.TapInputsAct : Prop :=
  ∀ (tap : Fin 2048) (cyc : Nat) (s : State) (x u : Tap), x = s.block.tap tap → u = x.advance cyc →
    (∀ (st : BitVec 2) (v w : Tap), v = (s.block.passToChange tap cyc st.toNat).tap tap →
      w = (if v.slotUsed || v.engUsed then v.advance 1 else v) →
      ∃ t, exec (.tapClockStateChange tap cyc st) s = .next t ∧ (∀ n, n ≠ tap.val → t.block.tap n = s.block.tap n) ∧
        (s.block.running = true → x.chain.length < 31 → t.block.seen [.taps] = s.block.seen [.taps]) ∧
        (st = 3 → t.block.tap tap = { v with badClass := true }) ∧
        (st ≠ 3 → st.toNat = v.clk → t.block.tap tap = v) ∧
        (st ≠ 3 → st.toNat ≠ v.clk → v.writes = false → t.block.tap tap = v.goesTo st.toNat) ∧
        (st ≠ 3 → st.toNat ≠ v.clk → v.writes = true → v.wakeFirst = false → v.chain.length < 32 →
          t.block.tap tap = { w.goesTo st.toNat with
            pClk := none, lastMark := st.toNat, slotUsed := true, since := 0
            full := w.full || (st.toNat == 0 && v.markFrom st.toNat == 2)
            chain := w.chain ++ [{ cls := clsClock, delta := min w.since 4095, ctx := w.ctx
                                   pay := pay (st.toNat * 2 ^ 42 + v.markFrom st.toNat * 2 ^ 40) }] }) ∧
        (∀ cl lost, st ≠ 3 → st.toNat ≠ v.clk → v.writes = true → v.slotUsed = false → v.engUsed = false →
          v.pUp = some (false, cl, lost) → v.pClk = none → v.chain.length < 32 →
          t.block.tap tap = { (v.goesTo st.toNat).mergeCtx 2 0 with
            pClk := some (st.toNat, v.clk), pUp := none, anchorReq := true, est := none, slotUsed := true, since := 0
            full := true
            chain := v.chain ++ [{ cls := clsP, delta := 0, ctx := v.ctx
                                   pay := pay (2 ^ 44 + b2n cl * 2 ^ 42 + b2n lost * 2 ^ 38) }] })) ∧
    (∀ ctx : BitVec 12, ∃ t, exec (.tapContextChange tap cyc ctx) s = .next t ∧
      s.block.onlyTap t.block tap
        (if u.ctxSeen = false ∨ u.writes = false ∨ ctx.toNat = u.ctx then { u with ctx := ctx.toNat, ctxSeen := true }
         else { u with ctx := ctx.toNat, pCtx := (u.mergeCtx 0 u.ctx).pCtx })) ∧
    (∀ pwr : BitVec 4, ∃ t, exec (.tapDrainRequest tap cyc pwr) s = .next t ∧
      s.block.onlyTap t.block tap
        (if u.drainReq && u.abandoned then { u with reqNext := some pwr.toNat }
         else if u.drainReq || u.reqNext.isSome then u else { u with
          drainReq := true, drainCyc := 0, pDown := if u.writes then some pwr.toNat else u.pDown })) ∧
    (∃ t, exec (.tapDrainAbandon tap cyc) s = .next t ∧
      s.block.onlyTap t.block tap { u with reqNext := none, abandoned := u.drainReq }) ∧
    (∀ phase : BitVec 6, ∃ t, exec (.tapStrobeArrival tap cyc phase) s = .next t ∧
      (u.strobes = [] → s.block.onlyTap t.block tap u) ∧
      (∀ num sq rest, u.strobes = (num, sq) :: rest → s.block.onlyTap t.block tap { u with
        strobes := rest
        pAnchor := if u.writes = true ∧ s.block.tapStopped tap = false then some (num, sq, phase.toNat, 0)
          else u.pAnchor })) ∧
    (∃ t, exec (.tapConfigApply tap cyc) s = .next t ∧
      (u.cfg = [] → s.block.onlyTap t.block tap u) ∧
      (∀ on rest, u.cfg = .aEnable on :: rest → s.block.onlyTap t.block tap { u with aEnable := on, cfg := rest }) ∧
      (∀ k w0 w1 rest, u.cfg = .desc k w0 w1 :: rest → s.block.onlyTap t.block tap { u with
        cfg := rest
        cnt := tmod {} u.cnt k (fun c => { c with w0 := w0, w1 := w1, value := 0, pendC := false }) })) ∧
    (∃ t, exec (.tapResyncRequest tap) s = .next t ∧
      s.block.onlyTap t.block tap (if x.resync then { x with resync := false, full := true } else x))

/-- TAP_DRAIN_ACK, TAP_POWER_UP, TAP_ENABLE_RISE and TAP_ENABLE_FALL (R24, R45, R86 to R92, R518): an acknowledge hands
what is left to the ledger, and a count that `W` marks to WAKE_LOST; a power-up, and a change of the enable, restart the
tap as the rules say (a request that is already high is sampled in the next cycle, R89). That P UP and a request that is
already high fall in the cycles stated is the model's reading, log entry 20. -/
def Obligations.TapDrainsAndRestarts : Prop :=
  ∀ (tap : Fin 2048) (cyc : Nat) (s : State) (x u : Tap), x = s.block.tap tap → u = x.advance cyc →
    (u.drainReq = true → u.drainAck = false → (u.chain = [] ∧ u.pDown = none) ∨ 256 ≤ u.drainCyc →
      ∃ t, exec (.tapDrainAck tap cyc) s = .next t ∧ (t.block.view tap).down = true ∧
        (∀ n, n ≠ tap.val → t.block.tap n = s.block.tap n ∧ t.block.view n = s.block.view n) ∧
        t.block.tap tap = { u.dropPending with
          chain := [], tapLost := 0, lossAt := [], w := false, drainAck := true
          ledgerLost := satAdd 32 u.ledgerLost (satAdd 16 u.tapLost u.chain.length)
          drainLost := decide (u.tapLost + u.chain.length ≠ 0) } ∧
        (u.tapLost + u.chain.length ≠ 0 → (s.block.view tap).loss = none →
          (t.block.view tap).loss = some (satAdd 16 u.tapLost u.chain.length, 1)) ∧
        (t.block.station (stOf tap)).wakeLost =
          (if u.w && u.tapLost != 0 then satAdd 32 (s.block.station (stOf tap)).wakeLost u.tapLost
           else (s.block.station (stOf tap)).wakeLost)) ∧
    (∀ (retLost drainReq : Bool) (pwr : BitVec 4) (ctx : BitVec 12),
      ∃ t, exec (.tapPowerUp tap retLost drainReq pwr ctx) s = .next t ∧
        (∀ n, n ≠ tap.val → t.block.tap n = s.block.tap n) ∧ t.block.seen [.taps] = s.block.seen [.taps] ∧
        ∀ y, y = t.block.tap tap → y.chain = [] ∧ y.tapLost = 0 ∧ y.since = 0 ∧ y.drainReq = false ∧ y.drainAck = false ∧
          y.reqNext = (if drainReq then some pwr.toNat else none) ∧
          y.ctx = ctx.toNat ∧ y.pUp = some (false, retLost, x.drainLost) ∧
          y.pDown = none ∧ y.pClk = none ∧ y.pCtx = none ∧ y.pAnchor = none ∧
          y.est = none ∧ y.ledgerLost = x.ledgerLost ∧ y.en = x.en ∧ y.cfg = x.cfg ∧
          y.clk = 0 ∧ y.lastMark = 0 ∧ y.aEnable = (x.aEnable && !retLost) ∧ (retLost = true → y.cnt = [] ∧ y.latch = none ∧ y.cntLost = true) ∧
          (retLost = false → y.aoCycles = x.aoCycles ∧ y.latch = x.latch ∧ y.cntLost = x.cntLost ∧
            ∀ k, (tget {} y.cnt k).value = (tget {} x.cnt k).value)) ∧
    (∀ ctx : BitVec 12, u.en = false → s.block.enableWanted tap = true →
      ∃ t, exec (.tapEnableRise tap cyc ctx) s = .next t ∧ (t.block.tap tap).en = true ∧ (t.block.tap tap).since = 0 ∧
        (t.block.tap tap).full = true ∧ (t.block.tap tap).ctx = ctx.toNat ∧
        (t.block.tap tap).pCtx = (u.mergeCtx 1 0).pCtx ∧ (t.block.view tap).mark = none ∧
        (t.block.tap tap).chain = u.chain) ∧
    (u.en = true → s.block.enableWanted tap = false →
      ∃ t, exec (.tapEnableFall tap cyc) s = .next t ∧ (t.block.tap tap).en = false ∧ (t.block.tap tap).pClk = none ∧
        (t.block.tap tap).pUp = none ∧ (t.block.tap tap).pDown = none ∧ (t.block.tap tap).pCtx = none ∧
        (t.block.tap tap).pAnchor = none ∧
        (t.block.tap tap).chain =
          if s.block.power.quiesce = true ∨ s.block.power.st = .off ∨ s.block.power.goal = .off then [] else u.chain)

/-- TAP_FREEZE_LATCH and TAP_ASSAY_BEAT (R85, R215, R219, R221, R285, R288, R449): a tap with an empty bank latches its
ten values and restarts the counters that clear at a freeze; a full bank and a drained tap do not latch; a beat enters
the crossing buffer of 4, or is discarded with the rest of its row and counted. -/
def Obligations.TapLatchesAndTakesBeats : Prop :=
  ∀ (tap : Fin 2048) (s : State),
    (∀ (cyc : Nat) (phase : BitVec 6) (u : Tap) (id i : Nat) (ao : Bool) (z : FzTap), u = (s.block.tap tap).advance cyc →
      u.frStrobe = some (id, ao) → u.frLater = [] → s.block.tapStopped tap = false → s.block.slotOf id = some i →
      (s.block.freezeSlot i).tap? tap = some z → z.done = false → u.en = true →
      ∃ t, exec (.tapFreezeLatch tap cyc phase) s = .next t ∧ (t.block.tap tap).frStrobe = none ∧ (t.block.tap tap).frStop = false ∧
        (∀ n, n ≠ tap.val → t.block.tap n = s.block.tap n) ∧
        (u.drainAck = false → u.latch = none →
          (t.block.tap tap).latch = some {
            freezeId := id, vals := u.values, cntLost := u.cntLost, stretched := z.stretched
            stopped := z.stopped || u.frStop
            ofs := s.block.latchOfs (s.block.freezeSlot i) { z with stopped := z.stopped || u.frStop } tap phase.toNat } ∧
          (t.block.tap tap).cntLost = false ∧ (ao = true → (t.block.tap tap).aoCycles = 0 ∧ (t.block.tap tap).aoActive = 0) ∧
          (ao = false → (t.block.tap tap).aoCycles = u.aoCycles ∧ (t.block.tap tap).aoActive = u.aoActive) ∧
          (∀ k, (tget {} (t.block.tap tap).cnt k).value =
            if (tget {} u.cnt k).clrOnFreeze then 0 else (tget {} u.cnt k).value) ∧ t.block.freezes = s.block.freezes) ∧
        (u.drainAck = true → (t.block.freezeSlot i).tap? tap = some { z with
            down := true, strobed := true, notLatched := true, done := true
            cntLost := u.cntLost || u.latch.any (fun l => l.freezeId == id && l.cntLost) } ∧
          (t.block.tap tap).latch = u.latch ∧ (t.block.tap tap).cntLost = false) ∧
        (u.drainAck = false → u.latch ≠ none →
          (t.block.freezeSlot i).tap? tap = some { z with
            busy := true, strobed := true, notLatched := true, done := true
            cntLost := u.cntLost || u.latch.any (fun l => l.freezeId == id && l.cntLost) } ∧
          (t.block.tap tap).latch = u.latch ∧ (t.block.tap tap).cntLost = false)) ∧
    (∀ (beat : Beat) (x : Tap), x = s.block.tap tap →
      ∃ t, exec (.tapAssayBeat tap beat) s = .next t ∧ (∀ n, n ≠ tap.val → t.block.tap n = s.block.tap n) ∧
        (s.block.portFeeds tap = false → t.block = s.block) ∧
        (s.block.portFeeds tap = true → bit (s.block.binding tap) 5 = true → x.asy.length < 4 →
          t.block.tap tap = { x with asy := x.asy ++ [{ beat := beat, ctx := x.ctx }] }) ∧
        (s.block.portFeeds tap = true → bit (s.block.binding tap) 5 = false → x.asyDrop = false → x.asy.length < 4 →
          (t.block.tap tap).asy.length = x.asy.length + 1 ∧ (t.block.tap tap).asyDrop = false ∧
          (t.block.tap tap).asy.getLast?.map AsyEntry.beat = some beat ∧ t.block.assay = s.block.assay) ∧
        (s.block.portFeeds tap = true → bit (s.block.binding tap) 5 = false → x.asyDrop = true →
          (t.block.tap tap).asy = x.asy ∧ (t.block.tap tap).asyDrop = !beat.last ∧
          (t.block.unit (asyUnitOf (s.block.binding tap))).beatsDropped =
            satAdd 32 (s.block.unit (asyUnitOf (s.block.binding tap))).beatsDropped 1))

/-- STATION_TAKE_ITEM (R12, R26, R27, R93, R94, R97, R104, R110, R121, R248): in Run the head of the tap's chain leaves
it, and TAP_LOST moves to the ledger, unless the brew cycle has passed the tap or has taken 8 items, or an event that
has arrived goes first; an S item goes to its quadrant's sync queue; an item without a valid context is counted; an item
that the context, or for a C report its counter, gives to an owner is placed in that owner's stream (which items R97 and
R283 exempt is the model's reading, log entry 74; what one brew cycle is, log entry 7). -/
def Obligations.StationTakesItems : Prop :=
  ∀ (st : Fin 32) (l : Fin 64) (s : State) (n : Nat) (e : Entry) (rest : List Entry), n = 64 * st.val + l.val →
    s.block.running = true → (s.block.tap n).chain = e :: rest →
    ((s.block.station st).mayTake l s.block.gt = false →
      ∃ t, exec (.stationTakeItem st l) s = .next t ∧ t.block = s.block) ∧
    ((s.block.station st).mayTake l s.block.gt = true →
    ∃ t, exec (.stationTakeItem st l) s = .next t ∧ (t.block.tap n).chain = rest ∧ (t.block.tap n).tapLost = 0 ∧
      (∀ m, m ≠ n → (t.block.tap m).chain = (s.block.tap m).chain) ∧
      ((s.block.tap n).tapLost = 0 → (t.block.tap n).ledgerLost = (s.block.tap n).ledgerLost) ∧
      ((s.block.tap n).tapLost ≠ 0 →
        (t.block.tap n).ledgerLost = satAdd 32 (s.block.tap n).ledgerLost (s.block.tap n).tapLost) ∧
      (e.cls = clsS → (s.block.quad (quadOf st)).syncQ.length < 256 →
        ∃ g, (t.block.quad (quadOf st)).syncQ = (s.block.quad (quadOf st)).syncQ ++
            [{ tap := n, gt := g, pay := e.pay, tenant := s.block.ctxTenant e.ctx }] ∧
          ((s.block.view n).mark = none → g = s.block.gt)) ∧
      (e.cls ≠ clsO → ctxValid (s.block.ctxEntry e.ctx) = false →
        (t.block.station st).noContext = satAdd 32 (s.block.station st).noContext 1) ∧
      (∀ o, ctxValid (s.block.ctxEntry e.ctx) = true →
        (isTiming e.cls = true ∧ o = ctxTenantOf (s.block.ctxEntry e.ctx)) ∨
        (e.cls = clsA ∧ ctxCapA (s.block.ctxEntry e.ctx) = true ∧ o = 64) ∨
        (e.cls = clsC ∧ o = (tget {} (s.block.tap n).cnt (payKind e.pay)).owner) ∨
        (isTiming e.cls = false ∧ e.cls ≠ clsA ∧ e.cls ≠ clsC ∧ (e.cls = clsO → fld e.pay 18 2 ≠ 0) ∧
          o = ctxTenantOf (s.block.ctxEntry e.ctx) ∧ (∀ i, classBit e.cls = some i →
            (ctxClasses (s.block.ctxEntry e.ctx)).testBit i = true)) →
        (s.block.station st).rules = [] → (s.block.station st).defExclude = [] → (s.block.station st).seq.en = false →
        ((t.block.station st).streamTap o l).seen = true ∧ ((t.block.station st).streamTap o l).sum = 0 ∧
          ((t.block.station st).streamTap o l).summed = false))

/-- PERIOD_STROBE, STRETCH_TICK, WAKE_REQ_STROBE and CLOCK_STATE_INPUT_CHANGE (R43, R44, R49, R52, R89, R123, R518): a
strobe carries the next strobe number and the station's sequence number to the taps that can take it; without one a
PERIOD interval restarts only; a region's change is taken in Run, latched below it, and counted where its value is 3.
The region timers count from strobes of causes 1 to 4 (the model's reading, log entry 13), and an interval restarts also
where no tap can take the strobe (the model's choice, log entry 80). That a change which reverses an entry is taken at
once is the model's choice, log entry 46. -/
def Obligations.StationsStrobe : Prop :=
  (∀ (s : State), s.block.running = true →
    (∀ (st : Fin 32) (ts : List Nat), (s.block.station st).lastPeriod + us 1 ≤ s.block.gt ∨
        4096 ≤ (s.block.station st).unitsSince →
      ts = (tapsOf st).filter (fun t => s.block.able t &&
        !((s.block.station st).regionStrobe.any (fun e => decide (s.block.gt ≤ e.2 + s.block.cycles 16) &&
          e.1 == s.block.regionOfTap t))) →
      ∃ t, exec (.periodStrobe st) s = .next t ∧ (t.block.station st).lastPeriod = s.block.gt ∧
        (ts = [] → t.block.seen [.stations] = s.block.seen [.stations]) ∧
        (ts ≠ [] → t.block.time.strobeNum = s.block.time.strobeNum + 1 ∧
          (t.block.station st).seqNo = ((s.block.station st).seqNo + 1) % 64 ∧ (t.block.station st).opens = [] ∧
          (∃ q, q ∈ (t.block.station st).pkts ∧ q.num = s.block.time.strobeNum ∧ q.seq = (s.block.station st).seqNo ∧
            q.cause = 0 ∧ q.gt = s.block.gt ∧ q.strobed = maskOf (ts.map (· % 64))) ∧
          (∀ n, (t.block.tap n).strobes = (s.block.tap n).strobes ++
            if n ∈ ts then [(s.block.time.strobeNum, (s.block.station st).seqNo)] else []))) ∧
    (∀ (st : Fin 32) (r : Fin 64) (n : Nat), s.block.regionState r = 1 → s.block.watches st r = true →
      tget 0 (s.block.station st).regionStrobe r + s.block.time.stretchPer * 160 ≤ s.block.gt →
      ∃ t, exec (.stretchTick st r) s = .next t ∧ tget 0 (t.block.station st).regionStrobe r = s.block.gt ∧
        (n ∈ tapsOf st → s.block.regionOfTap n = r.val → s.block.able n = true →
          t.block.time.strobeNum = s.block.time.strobeNum + 1 ∧
          (t.block.tap n).strobes = (s.block.tap n).strobes ++
            [(s.block.time.strobeNum, (s.block.station st).seqNo)])) ∧
    (∀ tap : Fin 2048, (s.block.tap tap).anchorReq = true → s.block.able tap = true →
      ∃ t, exec (.wakeReqStrobe tap) s = .next t ∧ t.block.time.strobeNum = s.block.time.strobeNum + 1 ∧
        (∀ n, t.block.tap n = if n = tap.val then { s.block.tap n with
          anchorReq := false
          strobes := (s.block.tap n).strobes ++ [(s.block.time.strobeNum, (s.block.station (stOf tap)).seqNo)] }
          else s.block.tap n)) ∧
    (∀ (r : Fin 64) (v : BitVec 2), v ≠ 3 →
      ∃ t, exec (.clockStateInputChange r v) s = .next t ∧
        (∀ k, t.block.regionState k = if k = r.val then v.toNat else s.block.regionState k) ∧
        (s.block.regionState r = v.toNat → t.block = s.block))) ∧
  (∀ (s : State) (r : Fin 64) (v : BitVec 2),
    (v = 3 → ∃ t, exec (.clockStateInputChange r v) s = .next t ∧
      t.block = { s.block with time := { s.block.time with csGlitch := satAdd 32 s.block.time.csGlitch 1 } }) ∧
    (v ≠ 3 → (s.block.requestWake 2).running = true → ∃ t, exec (.clockStateInputChange r v) s = .next t ∧
      ∀ k, t.block.regionState k = if k = r.val then v.toNat else s.block.regionState k) ∧
    (v ≠ 3 → (s.block.requestWake 2).running = false → ∃ t, exec (.clockStateInputChange r v) s = .next t ∧
      t.block.time = { s.block.time with regionAon := s.block.time.regionAon ++ [(r.val, v.toNat, s.block.gt)] } ∧
      (s.block.power.st ≠ .run → s.block.power.st ≠ .off → s.block.power.goal ≠ .off → t.block.power.waking = true) ∧
      t.block.seen [.time, .power] = s.block.seen [.time, .power]))

/-- CROSS_TRIGGER_ARRIVAL, ASSAY_EVENT_ARRIVAL and SEQ_TIMER_FIRE (R105, R108, R110, R111, R113, R238): of the waiting
events that have arrived, the first due leaves, and reaches the comparators of a sequencer that may see it; a TIMER
comparator is true once; and a start condition arms the sequencer. That a TIMER comparator is true in its own evaluation
only is the model's choice, log entry 83; that a cross-trigger reaches its owner's sequencer only, and the order of
events, log entry 64. -/
def Obligations.EventsReachComparators : Prop :=
  ∀ (s : State) (st : Fin 32) (q : Sequencer), q = (s.block.station st).seq → s.block.running = true →
    (∀ e, (s.block.station st).nextEvent 4 s.block.gt = some e →
      ∃ t, exec (.crossTriggerArrival st) s = .next t ∧
        (q.en = false ∨ q.owner ≠ e.owner → t.block.station st = { s.block.station st with
          events := (s.block.station st).events.erase e }) ∧
        (∀ r, q.en = true → q.owner = e.owner → r = q.update { source := 4, subsel := e.subsel, field := e.field } →
          r.2.choose r.1 = .none → t.block.station st = { s.block.station st with
            events := (s.block.station st).events.erase e, seq := r.2 }) ∧
        (∀ r, q.en = true → q.owner = e.owner → r = q.update { source := 4, subsel := e.subsel, field := e.field } →
          r.2.choose r.1 = .start → (t.block.station st).seq = r.2.goto .armed)) ∧
    (∀ e, (s.block.station st).nextEvent 1 s.block.gt = some e →
      ∃ t, exec (.assayEventArrival st) s = .next t ∧
        (q.en = false ∨ (q.owner ≠ e.owner ∧ q.owner ≠ 64) → t.block.station st = { s.block.station st with
          events := (s.block.station st).events.erase e }) ∧
        (∀ r, q.en = true → q.owner = e.owner ∨ q.owner = 64 →
          r = q.update { source := 1, subsel := e.subsel, field := e.field } →
          r.2.choose r.1 = .none → t.block.station st = { s.block.station st with
            events := (s.block.station st).events.erase e, seq := r.2 })) ∧
    (∀ (k : Fin 8) (c c' : Comp) (q' : Sequencer), c = tget {} q.comps k → q.en = true → c.timerDue s.block.gt = true →
      c' = { c with once := true, latched := c.latched || c.latchOn } → q' = { q with comps := tset {} q.comps k c' } →
      ∃ t, exec (.seqTimerFire st k) s = .next t ∧
        (q'.choose (q'.latchedMask ||| 2 ^ k.val) = .none → t.block.station st = { s.block.station st with seq := q' }) ∧
        (q'.choose (q'.latchedMask ||| 2 ^ k.val) = .start → (t.block.station st).seq = q'.goto .armed))

/-- QUADRANT_GRANT, RECORD_OFFER, RECORD_FRAGMENT_ENTRY, STREAM_FLUSH_EXPIRY and PATROL_SLICE (R16, R17, R28, R124,
R153, R157, R177, R178): the granted unit leaves its queue and is written in its owner's open page, or discarded for its
epoch; a record takes its source's next number and enters the record input, or is counted as lost; a quiet page closes;
the patrol reads a slot once in a pass: a single-bit error is counted and a double-bit error fences the macro. That a
lost record consumes its number is the model's reading, log entry 15; that a passed slot of the patrol is read no second
time, and ECC outcomes that come with their rows, are its choice, log entry 71. -/
def Obligations.RecordsReachTheCask : Prop :=
  ∀ (s : State) (q : Fin 4), s.block.running = true →
    (∀ (u : WUnit) (us : List WUnit), 4 ≤ s.block.power.phase → (s.block.quad q).recIn = u :: us →
      (∀ l, l < 8 → (s.block.station (8 * q + l)).uq = []) →
      ∃ t, exec (.quadrantGrant q) s = .next t ∧ (t.block.quad q).recIn = us ∧ t.block.stations = s.block.stations ∧
        (u.tagEpoch ≠ s.block.epochOf u.owner → t.block.cask = { s.block.cask with
          epochDiscard := satAdd 32 s.block.cask.epochDiscard 1 } ∧ bit t.block.power.lossSeen 6 = true) ∧
        (∀ p, u.tagEpoch = s.block.epochOf u.owner → s.block.openPage u.owner u.interest = some p →
          (s.block.page p).ver2 = u.fmt2 → (t.block.page p).slots = (s.block.page p).slots ++ [u.bytes] ∧
            ∀ k, k ≠ p → t.block.page k = s.block.page k)) ∧
    (∀ (l : Nat) (u : WUnit) (us : List WUnit), l < 8 → (s.block.quad q).recIn = [] →
      4 ≤ s.block.power.phase → (s.block.station (8 * q + l)).uq = u :: us →
      (∀ m, m < 8 → m ≠ l → (s.block.station (8 * q + m)).uq = []) →
      ∃ t, exec (.quadrantGrant q) s = .next t ∧ (t.block.station (8 * q + l)).uq = us ∧ (t.block.quad q).rr = l ∧
        (0 < (s.block.quad q).creditOf u.owner →
          (t.block.quad q).creditOf u.owner = (s.block.quad q).creditOf u.owner - 1)) ∧
    (∀ (src : RecSrc) (r : Rec) (x : Quadrant) (n : Nat), s.block.recs.find? (fun r => r.source == src.val) = some r →
      x = s.block.quad (recQuad r.source) → n = tget 0 (s.block.tenant r.owner).rseq r.source →
      ∃ t, exec (.recordOffer src) s = .next t ∧ t.block.recs = s.block.recs.erase r ∧
        tget 0 (t.block.tenant r.owner).rseq r.source = (n + 1) % 2 ^ 16 ∧
        (x.roomFor r = true → t.block.quad (recQuad r.source) = { x with
          recIn := x.recIn ++ (r.units n).take 64, recTail := (r.units n).drop 64 } ∧ t.block.power = s.block.power) ∧
        (x.roomFor r = false → t.block.quads = s.block.quads ∧ bit t.block.power.lossSeen 4 = true ∧
          tget 0 t.block.power.recLost r.source = satAdd 32 (tget 0 s.block.power.recLost r.source) 1)) ∧
    (∀ (x : Quadrant) (u : WUnit) (us : List WUnit), x = s.block.quad q → x.recTail = u :: us → x.recIn.length < 64 →
      ∃ t, exec (.recordFragmentEntry q) s = .next t ∧
        t.block.quad q = { x with recIn := x.recIn ++ [u], recTail := us } ∧ t.block.seen [.quads] = s.block.seen [.quads]) ∧
    (∀ (o : Fin 65) (lvl : Fin 4) (p : Nat) (g : Page), s.block.openPage o lvl = some p → g = s.block.page p →
      (s.block.tenant o).mode = 2 → g.lastUnit + us (s.block.tenant o).flushUs ≤ s.block.gt →
      ∃ t, exec (.streamFlushExpiry o lvl) s = .next t ∧
        ∀ k, t.block.page k = if k = p then { g with
          st := if (s.block.tenant g.owner).caskHold then .held else .full } else s.block.page k) ∧
    (∀ (m : Fin 512) (pg : Fin 16) (slot : Fin 64) (g : Page), g = s.block.page (16 * m.val + pg.val) → g.st ≠ .free →
      g.st ≠ .fenced → slot.val < g.slots.length →
      (s.block.gt < s.block.cask.patrolGt + ms s.block.cask.patrolMs → 64 * (16 * m.val + pg.val) + slot.val <
        s.block.cask.patrolPos → ∀ e, ∃ t, exec (.patrolSlice m pg slot e) s = .next t ∧ t.block = s.block) ∧
      (s.block.cask.patrolGt + ms s.block.cask.patrolMs ≤ s.block.gt ∨
        s.block.cask.patrolPos ≤ 64 * (16 * m.val + pg.val) + slot.val →
      (∃ t, exec (.patrolSlice m pg slot 1) s = .next t ∧ t.block.seen [.cask] = s.block.seen [.cask] ∧
        t.block.cask.patrolPos = 64 * (16 * m.val + pg.val) + slot.val + 1 ∧
        t.block.cask.pages = s.block.cask.pages ∧ tget 0 t.block.cask.ce m = satAdd 16 (tget 0 s.block.cask.ce m) 1) ∧
      (s.block.cask.fence.contains m.val = false →
        ∃ t, exec (.patrolSlice m pg slot 2) s = .next t ∧ t.block.cask.fence = insertMacro s.block.cask.fence m ∧
          t.block.cask.badSlots = insertMacro s.block.cask.badSlots (64 * (16 * m.val + pg.val) + slot.val) ∧
          (∀ i, i < 16 → (t.block.page (16 * m.val + i)).st = .fenced ∨
            ((t.block.page (16 * m.val + i)).st = .draining ∧ (t.block.page (16 * m.val + i)).fenceDue = true)) ∧
          (∀ k, k / 16 ≠ m.val → t.block.page k = s.block.page k))))

/-- SYNC_ITEM_APPLY (R188, R207, R214, R248, R251, R256): the oldest item leaves the sync queue; the tap counts as
blocked again, unless a loss followed the item; the known event of R256 is there while an object has waiters. A SIGNAL
adds to its object's count and names the signaller; an ARRIVE that completes a barrier flips its phase; a WAIT_BEGIN
opens the tap's wait; a WAIT_END ends it. -/
def Obligations.SyncItemsAct : Prop :=
  ∀ (s : State) (q : Fin 4) (i : SItem) (rest : List SItem) (n x v : Nat) (o : Obj), s.block.running = true →
    (s.block.quad q).syncQ = i :: rest → n = i.tap → x = fld i.pay 30 14 → v = fld i.pay 0 24 →
    o = (s.block.obj x).used i.tenant →
    ∃ t, exec (.syncItemApply q) s = .next t ∧ (t.block.quad q).syncQ = rest ∧
      (t.block.view n).quiet = (s.block.view n).lossAfter.contains 1 ∧
      (t.block.view n).lastSeen = max (s.block.view n).lastSeen i.gt ∧
      t.block.sync.npNext = (if t.block.sync.waiting = false ∨ s.block.sync.npLimit = 0 then none
        else some (if s.block.sync.waiting then s.block.sync.npNext.getD (s.block.gt + s.block.npInterval)
          else s.block.gt + s.block.npInterval)) ∧
      (payKind i.pay = 2 → (∀ k, k ≠ x → t.block.obj k = s.block.obj k) ∧ t.block.sync.waits = s.block.sync.waits ∧
        (o.kind = 2 → t.block.obj x = o.progress i.gt ∧
          t.block.sync.kindMismatch = satAdd 32 s.block.sync.kindMismatch 1) ∧
        (o.kind ≠ 2 → t.block.obj x = { o with
          kind := if o.kind = 0 then 1 else o.kind, count := (o.count + v) % 2 ^ 24
          sig := if o.sigDecl then o.sig else n, sigValid := o.sigValid || !o.sigDecl
          lastTouch := i.gt, npReported := false })) ∧
      (payKind i.pay = 3 → o.kind = 2 → o.count / 4096 ≠ 0 → (o.count % 4096 + 1) % 4096 = o.count / 4096 →
        (t.block.obj x).phase = !o.phase ∧ (t.block.obj x).count = o.count / 4096 * 4096 ∧
          (o.sigDecl = false → (t.block.obj x).sig = n ∧ (t.block.obj x).sigValid = true)) ∧
      (payKind i.pay = 3 → o.kind = 2 → o.count / 4096 = 0 ∨ (o.count % 4096 + 1) % 4096 ≠ o.count / 4096 →
        (t.block.obj x).phase = o.phase ∧
          (t.block.obj x).count = o.count / 4096 * 4096 + (o.count % 4096 + 1) % 4096) ∧
      (payKind i.pay = 0 → (s.block.wait n).valid = false →
        t.block.wait n = { obj := x, valid := true, phase := o.phase, await := v, since := i.gt } ∧
        (t.block.obj x).waits = min 2048 (o.waits + 1)) ∧
      (payKind i.pay = 1 → (s.block.wait n).valid = true → (s.block.wait n).obj = x →
        (t.block.wait n).valid = false ∧ (t.block.wait n).stale = false ∧ (t.block.obj x).waits = o.waits - 1) ∧
      (payKind i.pay = 1 → (s.block.wait n).valid = false ∨ (s.block.wait n).obj ≠ x → t.block.obj x = o ∧
        t.block.sync.waits = s.block.sync.waits ∧ t.block.sync.unmatched = satAdd 32 s.block.sync.unmatched 1)

/-- NOPROG_SWEEP_ENTRY, NOPROG_WAKE, KNOT_PERIOD_EXPIRY and KNOT_WALK_END (R255, R256, R258 to R261, R264, R346): the
sweep examines the next entry and reports one without progress, once; the half-limit interval and the walk period fall
due; a walk runs at Full speed only, reads every edge, and its end reports no cycle that the confirm pass does not find
again. -/
def Obligations.KnotAndNoprogEventsAct : Prop :=
  ∀ (s : State) (y : Sync), y = s.block.sync →
    (∀ (o : Obj), s.block.running = true → o = s.block.obj y.sweep →
      ∃ t, exec .noprogSweepEntry s = .next t ∧ t.block.sync.sweep = (y.sweep + 1) % 16384 ∧
        (o.waits = 0 ∨ o.npReported = true ∨ y.npLimit = 0 ∨ s.block.objAge o < y.npLimit →
          t.block = { s.block with sync := { y with
            sweep := (y.sweep + 1) % 16384, sweepLeft := y.sweepLeft - 1 } }) ∧
        (0 < o.waits → o.npReported = false → y.npLimit ≠ 0 → y.npLimit ≤ s.block.objAge o →
          t.block.obj y.sweep = { o with npReported := true } ∧
            t.block.sync.npReports = satAdd 32 y.npReports 1 ∧ t.block.recs ≠ s.block.recs)) ∧
    (∀ g, y.npNext.getD s.block.gt = g → g ≤ s.block.gt → y.npLimit ≠ 0 → y.waiting = true →
      ∃ t, exec .noprogWake s = .next t ∧
        t.block.sync = { y with sweepLeft := 16384, npNext := some (g + y.npLimit * 16384 * 256 / 2) } ∧
        (s.block.power.st ≠ .run → s.block.power.st ≠ .off → s.block.power.goal ≠ .off → t.block.power.waking = true) ∧ t.block.seen [.power, .sync] = s.block.seen [.power, .sync]) ∧
    (y.knotMs ≠ 0 → y.lastWalk + ms y.knotMs ≤ s.block.gt → y.walk = none → s.block.running = true →
      s.block.power.low = false → ∃ t, exec .knotPeriodExpiry s = .next t ∧ t.block = { s.block with
        power := { s.block.power with lowAsked := s.block.power.lowAsked && !s.block.power.clkReq }, sync := { y with
        walk := some
          { seq := y.walkSeq, gt := s.block.gt, epoch := s.block.alEpoch, bound := s.block.recBound
            edges := s.block.allEdges }
        walkAgain := false, walkSeq := (y.walkSeq + 1) % 2 ^ 16, lastWalk := s.block.gt } }) ∧
    (y.knotMs ≠ 0 → y.lastWalk + ms y.knotMs ≤ s.block.gt → s.block.running = true → s.block.power.low = true →
      ∃ t, exec .knotPeriodExpiry s = .next t ∧ t.block = { s.block with
        power := { s.block.power with lowAsked := s.block.power.lowAsked && !s.block.power.clkReq }
        sync := { y with walkAgain := true } }) ∧
    (y.knotMs ≠ 0 → y.lastWalk + ms y.knotMs ≤ s.block.gt → s.block.running = false → s.block.power.st ≠ .run →
      s.block.power.st ≠ .off → s.block.power.goal ≠ .off →
      ∃ t, exec .knotPeriodExpiry s = .next t ∧ t.block.power.waking = true ∧
        t.block.seen [.power] = s.block.seen [.power]) ∧
    (∀ (w : Walk) (r : List Cycle × Nat), s.block.running = true → s.block.power.low = false → y.walk = some w →
      r = s.block.confirmed w →
      ∃ t, exec .knotWalkEnd s = .next t ∧ t.block.sync.walks = satAdd 32 y.walks 1 ∧
        t.block.sync.transient = satAdd 32 y.transient r.2 ∧
        t.block.sync.repeats = satAdd 32 y.repeats (r.1.filter (fun c => y.known.contains (cycleId w c))).length ∧
        (r.1 = [] → y.walkAgain = false →
          t.block.sync.walk = none ∧ t.block.sync.known = [] ∧ t.block.recs = s.block.recs))

/-- LOOP_PERIOD_EXPIRY, WINDOW_OVERLONG, RECORD_TOKEN_GAIN, DEADLINE_MISS and LOOP_RECORD_PLACE (R195 to R197, R199,
R202, R203, R208, R210, R214, R368, R468): timed windows open and close, a window of 2²⁵ ticks closes, or waits for a
token where none is there, a token arrives and goes to the close that waits, a missed deadline is decided once and wakes
the block while a window of the loop is open, and the record of a finished scan is offered. That a deferred or OVERLONG
close waits for a token, and the token pool at reset, is the model's reading, log entry 16; that the wake is asked for
at the deadline itself while a window is open (R468 against R214) is log entry 95. -/
def Obligations.LoopWindowEventsAct : Prop :=
  ∀ (s : State) (k : Fin 16) (x : LoopSlot) (m : Mash), x = s.block.slot k → m = s.block.mash →
    (∀ g, s.block.running = true → x.en = true → x.wsrc = true → x.win = none → x.nextOpen = some g → g ≤ s.block.gt →
      ∃ t w, exec (.loopPeriodExpiry k) s = .next t ∧ (t.block.slot k).win = some w ∧ w.firstGt = g ∧ w.openGt = g ∧
        w.iterFirst = x.winCount ∧ w.iterLast = x.winCount ∧ w.deadline = x.deadlineAt g ∧ w.inIter = true ∧
        (t.block.slot k).nextOpen = none ∧ (t.block.slot k).winCount = (x.winCount + 1) % 2 ^ 32) ∧
    (∀ w e, s.block.running = true → x.en = true → x.wsrc = true → x.win = some w → e = w.openGt + x.periodNs * 256 →
      e ≤ s.block.gt →
      ∃ t w', exec (.loopPeriodExpiry k) s = .next t ∧ (t.block.slot k).win = some w' ∧ w'.openGt = e ∧
        w'.iterLast = x.winCount ∧ (t.block.slot k).winCount = (x.winCount + 1) % 2 ^ 32 ∧
        (0 < m.tokens ∨ x.token = true → x.minNs * 256 ≤ e - w.firstGt → w'.firstGt = e ∧ w'.iterFirst = x.winCount ∧
          t.block.mash.tokens = (if x.token then m.tokens else m.tokens - 1) ∧ (t.block.slot k).token = false ∧
          (t.block.slot k).past = w.spans e :: x.past ∧
          ∃ sc, t.block.mash.scans = addScan sc m.scans ∧ sc.slot = k.val ∧ sc.closeGt = e ∧ sc.overlong = false ∧
            sc.win.firstGt = w.firstGt) ∧
        ((m.tokens = 0 ∧ x.token = false) ∨ e - w.firstGt < x.minNs * 256 → w'.firstGt = w.firstGt ∧ w'.iterFirst = w.iterFirst ∧
          w'.merged = true ∧ t.block.mash.scans = m.scans ∧ t.block.mash.tokens = m.tokens)) ∧
    (∀ w, s.block.running = true → x.win = some w → w.firstGt + 2 ^ 25 * 320 ≤ s.block.gt →
      ∃ t, exec (.windowOverlong k) s = .next t ∧ t.block.seen [.mash] = s.block.seen [.mash] ∧
        (m.tokens = 0 → x.token = false → t.block.slot k = { x with
          overDue := true, waitGt := some (x.waitGt.getD (w.firstGt + 2 ^ 25 * 320)) } ∧
          t.block.mash.scans = m.scans) ∧
        (0 < m.tokens ∨ x.token = true → t.block.mash.tokens = (if x.token then m.tokens else m.tokens - 1) ∧
          (x.wsrc = false → (t.block.slot k).win = none) ∧
          ∃ sc, t.block.mash.scans = addScan sc m.scans ∧ sc.slot = k.val ∧ sc.overlong = true ∧
            sc.closeGt = w.firstGt + 2 ^ 25 * 320)) ∧
    (m.tokenGt + us 20 ≤ s.block.gt → s.block.deferredCloses = [] →
      ∃ t, exec .recordTokenGain s = .next t ∧ t.block = { s.block with mash := { m with
        tokens := min 16 (m.tokens + 1), tokenGt := m.tokenGt + us 20 } }) ∧
    (∀ (w : Window) (g g' : Gt) (b : Bool), m.tokenGt + us 20 ≤ s.block.gt → s.block.deferredCloses = [(g', k.val)] →
      x.win = some w → x.overDue = false → x.deferred = some (g, true, b) →
      ∃ t, exec .recordTokenGain s = .next t ∧ t.block.seen [.mash] = s.block.seen [.mash] ∧
        t.block.mash.tokens = m.tokens ∧ t.block.mash.tokenGt = m.tokenGt + us 20 ∧ (t.block.slot k).win = none ∧
        (t.block.slot k).token = false ∧ (t.block.slot k).past = w.iters :: x.past ∧
        ∃ sc, t.block.mash.scans = addScan sc m.scans ∧ sc.slot = k.val ∧ sc.closeGt = g ∧ sc.overlong = false ∧
          sc.epoch = x.closeCond.1 ∧ sc.bound = x.closeCond.2.1) ∧
    (∀ d, (∀ e, e ∈ s.block.stations → e.2.seq.en = false) → (s.block.tenant x.owner).resetting = false →
      x.dlPend.find? (fun d => decide (d + us 1 ≤ s.block.gt)) = some d →
      ∃ t, exec (.deadlineMiss k) s = .next t ∧ t.block.slot k = { x with dlPend := x.dlPend.erase d } ∧
        (x.dlInt = true → bit (t.block.tenant x.owner).intStatus 1 = true) ∧
        (x.win = none → t.block.power = s.block.power) ∧
        (x.win ≠ none → s.block.power.st ≠ .run → s.block.power.st ≠ .off → s.block.power.goal ≠ .off →
          t.block.power.waking = true) ∧
        t.block.seen [.mash, .tenants, .power] = s.block.seen [.mash, .tenants, .power]) ∧
    (∀ w d, (∀ e, e ∈ s.block.stations → e.2.seq.en = false) → (s.block.tenant x.owner).resetting = false →
      x.dlPend = [] → x.win = some w → w.deadline = some d → w.inIter = true → w.decided = false → d + us 1 ≤ s.block.gt →
      ∃ t, exec (.deadlineMiss k) s = .next t ∧ t.block.slot k = { x with win := some { w with decided := true } } ∧
        (x.dlInt = true → bit (t.block.tenant x.owner).intStatus 1 = true) ∧
        (s.block.power.st ≠ .run → s.block.power.st ≠ .off → s.block.power.goal ≠ .off → t.block.power.waking = true) ∧
        t.block.seen [.mash, .tenants, .power] = s.block.seen [.mash, .tenants, .power]) ∧
    (∀ (sc : Scan) (y : LoopSlot) (r : Rec), s.block.running = true → m.scans.find? (fun z => z.done) = some sc →
      y = s.block.slot sc.slot → r = s.block.mkRec 16 0 y.owner y.interest
        (s.block.loopRecord sc (if y.owner < 64 then some y.owner else none) false) →
      ∃ t, exec .loopRecordPlace s = .next t ∧ t.block.mash.scans = m.scans.erase sc ∧
        (t.block.slot sc.slot).records = satAdd 32 y.records 1 ∧
        (y.opCopy = false → (s.block.quad 0).roomFor r = true → (t.block.quad 0).recIn = (s.block.quad 0).recIn ++
          (r.units (tget 0 (s.block.tenant y.owner).rseq 16)).take 64))

/-- MASH_STEP_APPLY, STEP_QUEUE_SPACE, MASH_SCAN_START and MASH_SCAN_END (R187, R190 to R192, R199 to R201): the oldest
step adds its weighted ticks to the cell of each of its rows, in its own bank while that is active or unread and
otherwise late in the active one; a queue that was full issues each segment held open as one coarse step; and scans run
one at a time, each after the steps queued before its close. -/
def Obligations.MashStepsAndScansAct : Prop :=
  ∀ (s : State) (m : Mash), m = s.block.mash → s.block.running = true →
    (∀ (st : Step) (rest : List Step), m.stepQ = st :: rest →
      ∃ t, exec .mashStepApply s = .next t ∧ t.block.mash.stepQ = rest ∧ t.block.seen [.mash] = s.block.seen [.mash] ∧
        (∀ (own : Nat × Nat × Nat → Bool) (key n : Nat × Nat × Nat → Nat), (∀ x, x ∈ m.scans → x.readTo s.block.gt ≤ x.read) →
          (∀ r, own r = (r.2.1 == s.block.sel r.1 || m.scans.any (fun x =>
            x.bankOf r.1 == r.2.1 && decide (x.read ≤ r.1) && !x.done && x.rows.any (fun y => y.1 == r.1)))) →
          (∀ r, key r = cellKey (if own r then r.2.1 else s.block.sel r.1) r.1 st.cause) →
          (∀ r, n r = (if (s.block.slot (aLoop (s.block.agent r.1))).int8 then r.2.2 * 127 * st.ticks else st.ticks)) →
          (∀ j, tget (0, false) t.block.mash.cells j =
            (st.rows.filter (fun r => key r == j)).foldl (fun c r => cellAdd c (n r)) (tget (0, false) m.cells j)) ∧
          (∀ r w, st.rows = [r] → own r = false → (s.block.slot (aLoop (s.block.agent r.1))).win = some w →
            ∃ w', (t.block.slot (aLoop (s.block.agent r.1))).win = some w' ∧ w'.late = w.late + st.ticks))) ∧
    (m.stepFull = true → m.stepQ.length < 1024 →
      ∃ t, exec .stepQueueSpace s = .next t ∧ t.block.seen [.mash] = s.block.seen [.mash] ∧
        t.block.mash.stepFull = t.block.mash.segs.any (fun e => e.2.coarse) ∧ t.block.mash.stepQ.length ≤ 1024 ∧
        (∃ l, t.block.mash.stepQ = m.stepQ ++ l) ∧
        (∀ n g c l, m.segs = [(n, g)] → c = (if g.live then (s.block.resolve n).code else g.cause) →
          l = mergeParts [] (s.block.partsOf n { g with cause := c, coarse := true } s.block.gt) →
          m.stepQ.length + l.length ≤ 1024 →
          t.block.mash = { m with
            stepQ := m.stepQ ++ l.map Prod.snd
            segs := if g.live then [(n, { start := max g.start s.block.gt, cause := c })] else []
            stepFull := false })) ∧
    (∀ (a b : List Scan) (x : Scan), m.scans = a ++ x :: b → x.started = none →
      (∀ y, y ∈ a → y.started.isSome = true ∧ y.done = true) → (∀ y, y ∈ b → y.started.isSome = true → y.done = true) →
      ∃ t, exec .mashScanStart s = .next t ∧ t.block = { s.block with mash := { m with
        scans := a ++ (if x.steps = 0 then { x with started := some s.block.gt } else x) :: b } }) ∧
    (∀ (a b : List Scan) (x : Scan), m.scans = a ++ x :: b → x.started.isSome = true → x.done = false →
      (∀ y, y ∈ a → y.started.isSome = true → y.done = true) →
      ∃ t, exec .mashScanEnd s = .next t ∧
        t.block.mash.scans = a ++ { (s.block.scanAdvance x 128).1 with done := true } :: b ∧
        t.block.mash.cells = m.cells.filter (fun e => !((x.rows.map Prod.fst).filter
          (fun r => decide (x.read ≤ r) && decide (r < 128))).any (fun r => e.1 / 133 == x.bankOf r * 128 + r)))

/-- ASSAY_BEAT_TAKE, ROW_COMMIT, TENSOR_GAP_EXPIRY and TENSOR_RECORD_PLACE (R218, R222, R223, R227, R231, R239, R244): a
beat leaves the buffer of the next tap in turn; a first beat of the unit's owner opens its tensor, another's is counted;
a complete row enters its tensor; a silent tensor closes; its records are offered in order. That a foreign row does not
advance the row index of its tap is the model's choice, log entry 107. -/
def Obligations.AssayUnitsAct : Prop :=
  ∀ (s : State) (u : Fin 16), s.block.running = true →
    (∀ (n : Nat) (e : AsyEntry) (rest : List AsyEntry) (o : Nat), (s.block.unit u).en = true →
      s.block.nextAsyTap u = some n → (s.block.tap n).asy = e :: rest → o = (s.block.unit u).owner →
      ∃ t, exec (.assayBeatTake u) s = .next t ∧ (t.block.tap n).asy = rest ∧ (t.block.unit u).rr = n ∧
        (∀ k, k ≠ n → t.block.tap k = s.block.tap k) ∧
        ((s.block.asyTap u n).row = none → (s.block.asyTap u n).tensor = none → s.block.ctxTenant e.ctx ≠ none →
          (o = 64 ∨ s.block.ctxTenant e.ctx = some o) →
          ∃ z, (t.block.asyTap u n).tensor = some z ∧ z.tap = n ∧ z.tid = e.beat.tid.toNat ∧ z.fmt = e.beat.fmt.toNat ∧
            z.openGt = s.block.gt ∧ z.lastGt = s.block.gt ∧ z.profile = s.block.matchProfile o e.beat.tid.toNat) ∧
        ((s.block.asyTap u n).row = none → (s.block.ctxTenant e.ctx = none ∨
            (o ≠ 64 ∧ s.block.ctxTenant e.ctx ≠ some o)) →
          (t.block.unit u).foreign = satAdd 32 (s.block.unit u).foreign 1)) ∧
    (∀ (n : Fin 2048) (x : AsyTap) (r : Row) (z : Tensor), x = s.block.asyTap u n → x.row = some r → r.done = true →
      x.tensor = some z →
      ∃ t, exec (.rowCommit u n) s = .next t ∧ (t.block.asyTap u n).row = none ∧
        (t.block.asyTap u n).rowIndex = (x.rowIndex + 1) % 2 ^ 32 ∧
        (z.rows + 1 = 2 ^ 20 → (t.block.asyTap u n).tensor = none) ∧
        (z.rows + 1 ≠ 2 ^ 20 → ∃ y, (t.block.asyTap u n).tensor = some y ∧ y.rows = z.rows + 1 ∧
          y.elems = z.elems + r.elems ∧ y.nans = z.nans + r.nans ∧ y.infs = z.infs + r.infs ∧
          y.absKey = max z.absKey r.absKey)) ∧
    (∀ (n : Fin 2048) (z : Tensor) (g : Gt), (s.block.asyTap u n).tensor = some z → (s.block.asyTap u n).row = none →
      z.lastGt + us (s.block.unit u).gap ≤ s.block.gt →
      g = (if z.lastGt + us (s.block.unit u).gap ≤ s.block.power.wakeGt then s.block.power.wakeGt else s.block.gt) →
      ∃ t, exec (.tensorGapExpiry u n) s = .next t ∧ (t.block.asyTap u n).tensor = none ∧
        (t.block.asyTap u n).rowIndex = 0 ∧
        (t.block.unit u).closed = (s.block.unit u).closed ++ [s.block.tensorRecords u z 1 g] ∧
        t.block.seen [.assay] = s.block.seen [.assay]) ∧
    (∀ (r : Rec) (more : List Rec) (rest : List (List Rec)), (s.block.unit u).closed = (r :: more) :: rest →
      ∃ t, exec (.tensorRecordPlace u) s = .next t ∧
        (t.block.unit u).closed = (if more.isEmpty then rest else more :: rest) ∧
        (∀ x, x = s.block.quad (recQuad r.source) → x.roomFor r = true →
          t.block.quad (recQuad r.source) = { x with
            recIn := x.recIn ++ (r.units (tget 0 (s.block.tenant r.owner).rseq r.source)).take 64
            recTail := (r.units (tget 0 (s.block.tenant r.owner).rseq r.source)).drop 64 }))

/-- FREEZE_STROBE_ISSUE, FREEZE_AON_STROBE, FREEZE_LOCAL_T_FIX, FREEZE_COLLECT, FREEZE_COLLECT_LIMIT_EXPIRY and
FREEZE_RESULT_PLACE (R284, R285, R288 to R292, R443) with one freeze scheduled: its strobes go to the enabled taps at T
less their delays, by the time keeper below Run; the taps enabled at T are the listed ones, and the flags are those at
T; banks are collected; a tap past the limit is reported; a complete station places its record. What the flags are
judged from, and how the list of taps follows the enables up to T, is the model's reading, log entry 23. -/
def Obligations.FreezeEventsAct : Prop :=
  ∀ (s : State) (i : Nat) (f : Freeze), i < 4 → f = s.block.freezeSlot i → f.st = .scheduled →
    (∀ j, j < 4 → j ≠ i → (s.block.freezeSlot j).st ≠ .scheduled) →
    (∀ (n : Fin 2048) (x : FzTap), s.block.running = true → f.fixed = true → (s.block.tap n).en = true →
      (f.begun = true ∧ f.tap? n = some x) ∨ (s.block.gt < f.t ∧ f.begun = false ∧ x = tget {} f.taps n) →
      x.strobed = false → x.done = false → (f.t : Int) ≤ s.block.gt + (s.block.view n).dTap →
      ∃ t, exec (.freezeStrobeIssue n) s = .next t ∧ (∀ k, k ≠ n.val → t.block.tap k = s.block.tap k) ∧
        ((s.block.tap n).drainAck = false → (s.block.view n).down = false →
          t.block.tap n = (s.block.tap n).takeStrobe f.id f.aoClear ∧
          (t.block.freezeSlot i).tap? n = some { x with
            strobed := true, sgt := s.block.gt, dTap := (s.block.view n).dTap
            stopped := x.stopped || s.block.tapStopped n
            stretched := if f.begun then x.stretched else s.block.stretched n }) ∧
        ((s.block.tap n).drainAck = true ∨ (s.block.view n).down = true →
          t.block.tap n = { s.block.tap n with cntLost := false } ∧
          (t.block.freezeSlot i).tap? n = some { x with
            strobed := true, down := true, notLatched := true, done := true
            cntLost := (s.block.tap n).cntLost || (s.block.tap n).latch.any (fun l => l.freezeId == f.id && l.cntLost) })) ∧
    (s.block.running = false → s.block.power.st ≠ .off → f.fixed = true → f.t ≤ s.block.gt → f.aon = false →
      (∀ e, e ∈ f.taps → e.2.strobed = false) →
      ∃ t, exec .freezeAonStrobe s = .next t ∧ (t.block.freezeSlot i).aon = true ∧ (t.block.freezeSlot i).begun = true ∧
        (t.block.freezeSlot i).bound = min 255 ((if f.begun then f.bound else s.block.recBound) + 640) ∧
        (t.block.freezeSlot i).epoch = (if f.begun then f.epoch else s.block.alEpoch) ∧ t.block.seen [.taps, .freezes] = s.block.seen [.taps, .freezes]) ∧
    (∀ id : BitVec 8, f.id = id.toNat → f.fixed = false → s.block.localOfRoot f.rootT ≤ s.block.gt + us 2 →
      ∃ t, exec (.freezeLocalTFix id) s = .next t ∧ ∀ j, t.block.freezeSlot j = if j = i then { f with
        t := s.block.localOfRoot f.rootT, fixed := true
        unaligned := f.unaligned || !s.block.alignedNow ||
          decide (s.block.localOfRoot f.rootT + s.block.cycles 1 < s.block.gt + us 2) } else s.block.freezeSlot j) ∧
    (∀ (n : Fin 2048) (x : FzTap) (l : Latch), s.block.running = true → (s.block.tap n).latch = some l →
      (s.block.tap n).drainAck = false → s.block.slotOf l.freezeId = some i → f.tap? n = some x → x.done = false →
      ∃ t, exec (.freezeCollect n) s = .next t ∧ (∀ k, t.block.tap k = if k = n.val then
          { s.block.tap k with latch := none } else s.block.tap k) ∧
        (t.block.freezeSlot i).tap? n = some { x with
          vals := l.vals, ofs := l.ofs, stretched := l.stretched, stopped := l.stopped, cntLost := l.cntLost, done := true }) ∧
    (∀ (n : Fin 2048) (x : FzTap), f.fixed = true → f.begun = true → f.t + us s.block.freezeLimitUs ≤ s.block.gt →
      f.tap? n = some x → x.done = false →
      ∃ t, exec (.freezeCollectLimitExpiry n) s = .next t ∧
        (t.block.freezeSlot i).tap? n = some { x with
          strobed := true, notLatched := true, done := true
          cntLost := (s.block.tap n).cntLost || (s.block.tap n).latch.any (fun l => l.freezeId == f.id && l.cntLost) } ∧
        (∀ e, e ∈ (t.block.tap n).frStrobe.toList ++ (t.block.tap n).frLater → e.1 ≠ f.id) ∧
        (∀ l, (s.block.tap n).latch = some l → l.freezeId = f.id → (t.block.tap n).latch = none)) ∧
    (∀ (st : Fin 32) (es : Tbl FzTap) (r : Rec), s.block.running = true → f.fixed = true → f.t ≤ s.block.gt → f.begun = true →
      st.val ∉ f.stations → es = f.ofStation st → (∀ e, e ∈ es → e.2.done = true) → f.tenantCopy = false →
      r = s.block.mkRec 19 0 64 3 (s.block.fzRecord f st) →
      ∃ t, exec (.freezeResultPlace st) s = .next t ∧ (t.block.freezeSlot i).stations = f.stations ++ [st.val] ∧
        (es = [] → t.block.quads = s.block.quads ∧ (t.block.freezeSlot i).recs = f.recs) ∧
        (es ≠ [] → (t.block.freezeSlot i).recs = f.recs ++ [(64, tget 0 (s.block.tenant 64).rseq 19)]) ∧
        (es ≠ [] → (s.block.quad 3).roomFor r = true → (t.block.quad 3).recIn = (s.block.quad 3).recIn ++
          (r.units (tget 0 (s.block.tenant 64).rseq 19)).take 64) ∧
        ((∀ e, e ∈ f.taps → stOf e.1 ∈ f.stations ∨ stOf e.1 = st.val) → (s.block.tenant 64).resetting = false →
          (t.block.freezeSlot i).st = .done ∧ bit (t.block.tenant 64).intStatus 11 = true))

/-- FREEZE_CMD_TIMEOUT, COUNTER_SAMPLE_RETURN, COUNTER_MIRROR_LOAD and VIEW_REFRESH (R290, R294, R298, R347, R392,
R393): a command that waited completes with its result words, a mirror is loaded from its tile, and a tenant's view
takes the values of the moment. A view slot that names another counter while its tap is powered down reads 0 by the
model's choice, log entry 109. -/
def Obligations.CountersAreReturned : Prop :=
  ∀ (s : State),
    (∀ (n : Nat) (l : Long) (id : BitVec 8) (k ok bad : Nat) (waiting : List Nat) (sent : Gt), s.block.waitsFor n l →
      l.kind = .freeze id.toNat ok bad waiting sent → sent + us 100 ≤ s.block.gt → k = bad + waiting.length →
      ∃ t, exec (.freezeCmdTimeout id) s = .next t ∧ s.block.finished t.block n l (if k = 0 then stDone else stPartial)
        [w32 id.toNat, w32 (ok % 2 ^ 16 + k % 2 ^ 16 * 2 ^ 16)]) ∧
    (∀ (n : Nat) (l : Long) (tap : Fin 2048), s.block.running = true → s.block.waitsFor n l → l.kind = .cntSample tap →
      ∃ t, exec (.counterSampleReturn tap) s = .next t ∧ s.block.finished t.block n l stDone (s.block.sampleWords tap)) ∧
    (∀ (n : Fin 2048), s.block.running = true → (s.block.view n).mirror = false → (s.block.view n).upSeen = true →
      ∃ t, exec (.counterMirrorLoad n) s = .next t ∧ t.block.seen [.views] = s.block.seen [.views] ∧
        ∀ k, t.block.view k = if k = n.val then { s.block.view k with
          mirror := true, aEn := (s.block.tap n).aEnable
          desc := (s.block.tap n).cnt.map (fun e => (e.1, (e.2.w0, e.2.w1))) } else s.block.view k) ∧
    (s.block.timeRuns = true →
      ∃ t, exec .viewRefresh s = .next t ∧ t.block.seen [.tenants] = s.block.seen [.tenants] ∧
        ∀ n x, x = s.block.tenant n →
          (64 ≤ n ∨ s.block.gt / us 64 ≤ x.refreshGt / us 64 → t.block.tenant n = x) ∧
          (n < 64 → x.refreshGt / us 64 < s.block.gt / us 64 → t.block.tenant n = { x with
            viewVal := (t.block.tenant n).viewVal, viewOf := x.viewSel, viewRefused := coarse32 x.refused, viewLost := coarse32 x.pageLost
            viewAny := b2n (decide (0 < x.refused)) + 2 * b2n (decide (0 < x.pageLost))
            refreshGt := s.block.gt, refreshSeq := (x.refreshSeq + 1) % 2 ^ 32 } ∧
            ∀ k, k < 24 → tget (0, 0) (t.block.tenant n).viewVal k =
              s.block.viewSlot n (tget none x.viewSel k) (x.viewOld k)))

/-- TIME_BUS_SAMPLE, HOLDOVER_ENTRY, PPS_EDGE and ALIGNMENT_LOST (R31 to R37, R58, R59, R464): a sample more than 64 ns
off steps the time base and unlocks it, also on the way out of Nap and Kiln, 16 within 0.25 ns lock it, and the rate
word stays within 200 ppm of nominal; 1 µs without a sample is holdover; a second pulse off by more than 8 ns is
counted; and the log entries of the cycle that ends are built; the aligned state follows the bound. TCAL_PERIODIC,
TCAL_IDLE and TCAL_FIRST_MEASUREMENT (R46): half the mean of 16 round trips, whose sum is given; a delay that differs
from the one in use by more than 0.125 ns takes its place; the tap counts as measured; the period restarts, and below
Run the occasion wakes the block. That half the mean of 16 round trips rounds down is the model's choice, log entry 25;
that a sample off by 0.25 to 2 ns restarts the count of 16 is log entry 21, and that entries are built at the end of
their cycle log entry 108. -/
def Obligations.TimeEventsAct : Prop :=
  (∀ (s : State) (x : Time), x = s.block.time →
    (∀ (c : Nat) (v : BitVec 64) (ph : BitVec 8) (g : Gt) (e : Nat), s.block.timeRuns = true →
      g = v.toNat * 256 + x.latency + ph.toNat → e = ((g : Int) - (((x.tb + c * x.rate) / 2 ^ 24 : Nat) : Int)).natAbs →
      ∃ t, exec (.timeBusSample c v ph) s = .next t ∧ t.block.time.lastSample = g ∧ t.block.time.holdover = false ∧
        t.block.meas.closing = [] ∧ t.block.meas.built = s.block.meas.built + s.block.meas.closing.length ∧
        (x.loadNext = true → t.block.time.tb = g * 2 ^ 24 ∧ t.block.time.good = 0) ∧
        (x.loadNext = false → 16384 < e → t.block.time.tb = g * 2 ^ 24 ∧ t.block.time.locked = false ∧
          x.epoch < t.block.time.epoch) ∧
        (x.loadNext = false → e ≤ 16384 → t.block.time.tb = x.tb + c * x.rate ∧ (512 < e → t.block.time.locked = false) ∧
          (e < 64 → t.block.time.good = min 16 (x.good + 1) ∧ (15 ≤ x.good → t.block.time.locked = true)) ∧
          (64 ≤ e → t.block.time.good = 0 ∧ (e ≤ 512 → t.block.time.locked = x.locked)) ∧
          t.block.freeCtr = s.block.freeCtr + 1 ∧
          s.block.nominalRate - s.block.nominalRate / 5000 ≤ t.block.time.rate ∧
          t.block.time.rate ≤ s.block.nominalRate + s.block.nominalRate / 5000)) ∧
    (∀ (c : Nat) (v : BitVec 64) (ph : BitVec 8) (g : Gt) (e : Nat), s.block.wakingClock = true → s.block.power.phase ≠ 0 →
      x.loadNext = false → g = v.toNat * 256 + x.latency + ph.toNat →
      e = ((g : Int) - (((x.tb + c * x.rate) / 2 ^ 24 : Nat) : Int)).natAbs → 16384 < e →
      ∃ t, exec (.timeBusSample c v ph) s = .next t ∧ t.block.time.tb = g * 2 ^ 24 ∧ t.block.time.lastSample = g ∧
        t.block.time.locked = false ∧ x.epoch < t.block.time.epoch) ∧
    (s.block.timeRuns = true → x.holdover = false → x.lastSample + us 1 ≤ s.block.gt →
      (s.block.tenant 64).resetting = false →
      ∃ t, exec .holdoverEntry s = .next t ∧ t.block.time.holdover = true ∧ t.block.time.busLost = satAdd 32 x.busLost 1 ∧
        (t.block.time.aligned = x.aligned → bit (t.block.tenant 64).intStatus 8 = true)) ∧
    (∀ c r, s.block.timeRuns = true → (s.block.tenant 64).resetting = false →
      r = (s.block.gt - s.block.cycles c) % 256000000000 → 2048 < r → r < 255999997952 →
      ∃ t, exec (.ppsEdge c) s = .next t ∧ t.block.time = { x with ppsMismatch := satAdd 32 x.ppsMismatch 1 } ∧
        bit (t.block.tenant 64).intStatus 8 = true) ∧
    (s.block.running = true → x.aligned = true → s.block.alignedNow = false → (s.block.tenant 64).resetting = false →
      ∃ t, exec .alignmentLost s = .next t ∧ t.block.time.aligned = false ∧ t.block.time.epoch = x.epoch + 1 ∧
        bit (t.block.tenant 64).intStatus 18 = true)) ∧
  (∀ (s : State) (d : Nat → Nat → Int),
    (∀ n rt, d n rt = if 32 < (((rt / 32 : Nat) : Int) + (s.block.view n).aTap - (s.block.view n).dTap).natAbs
      then ((rt / 32 : Nat) : Int) + (s.block.view n).aTap else (s.block.view n).dTap) →
    (∀ trips, tripsWf trips = true → 5 ≤ s.block.power.phase → s.block.time.tcalDue ≤ s.block.gt →
      ∃ t, exec (.tcalPeriodic trips) s = .next t ∧
        (s.block.power.st ≠ .run → s.block.power.st ≠ .off → s.block.power.goal ≠ .off → t.block.power.waking = true) ∧
        ((s.block.requestWake 4).running = true → t.block.time.tcalDue = s.block.time.tcalDue + ms s.block.time.tcalMs ∧
          (∀ tap rt, (tap, rt) ∈ trips → (s.block.tap tap).en = true →
            (t.block.view tap).dTap = d tap rt ∧ (t.block.view tap).measured = true) ∧
          (∀ n, (∀ tap rt, (tap, rt) ∈ trips → tap.val ≠ n) → (t.block.view n).dTap = (s.block.view n).dTap))) ∧
    (∀ (tap : Fin 2048) (idle rt : Nat), s.block.running = true → (s.block.tap tap).en = true → 4096 ≤ idle →
      ∃ t, exec (.tcalIdle tap idle rt) s = .next t ∧ (t.block.view tap).measured = true ∧
        (∀ n, (t.block.view n).dTap = if n = tap.val then d n rt else (s.block.view n).dTap)) ∧
    (∀ (tap : Fin 2048) (rt : Nat), s.block.running = true → s.block.present tap = true →
      (s.block.view tap).measured = false → (s.block.view tap).upSeen = true →
      ∃ t, exec (.tcalFirstMeasurement tap rt) s = .next t ∧ (t.block.view tap).measured = true ∧
        (∀ n, (t.block.view n).dTap = if n = tap.val then d n rt else (s.block.view n).dTap)))

/-- HOP_FRAME_SEND, IDLE_SEND, HELLO_SEND, HELLO_TIMEOUT, PHY_READY, PHY_LOST, LINK_RETRAIN_TIMER and REPLAY_TIMEOUT
(R417, R418, R420, R422 to R424, R432): what a port sends and when, with credit and replay buffer, routed and flooded
frames in Ready only; and what its timers and its physical layer do. That a resend spends no credit and goes out as
stored, and that a link stays Closing until its BYE is sent, is the model's reading, log entry 35. -/
def Obligations.LinksSendAndTimeOut : Prop :=
  ∀ (s : State) (p : Fin 6) (x : HopPort), x = s.block.hopPort p →
    (s.block.hopRuns = true → x.st = .up →
      (∀ f rest, x.resend = f :: rest →
        ∃ t, exec (.hopFrameSend p) s = .next t ∧ t.block.out = s.block.out ++ [.hop p f] ∧
          t.block.hopPort p = x.resent f s.block.gt ∧ (t.block.hopPort p).resend = rest) ∧
      (∀ l f rest g, x.resend = [] → x.txq = l ++ (f, 7) :: rest →
        (s.block.hop.disc = 6 ∧ l = []) ∨ (s.block.hop.disc ≠ 6 ∧ routedType f.ftype.toNat = false ∧
          ∀ e, e ∈ l → routedType e.1.ftype.toNat = true) → f.ftype.toNat ≠ 0xA → flitsOf x.compat f ≤ x.credits →
        x.replay.length < 512 → g = x.dress f →
        ∃ t, exec (.hopFrameSend p) s = .next t ∧ t.block.out = s.block.out ++ [.hop p g] ∧
          t.block.hopPort p = { x.sent with
            txq := l ++ rest, credits := x.credits - flitsOf x.compat f, replay := x.replay ++ [g]
            txSeq := (x.txSeq + 1) % 2 ^ 16, sentGt := x.sentGt ++ [s.block.gt], ackGt := x.sentGt.headD s.block.gt
            traceGt := if f.ftype = 7 then s.block.gt else x.traceGt } ∧
          (∀ k, k ≠ p.val → t.block.hopPort k = s.block.hopPort k)) ∧
      (x.resend = [] → s.block.hop.disc ≠ 6 → (∀ e, e ∈ x.txq → routedType e.1.ftype.toNat = true) →
        ∃ t, exec (.hopFrameSend p) s = .next t ∧ t.block = s.block) ∧
      (∀ f v rest, x.resend = [] → x.txq = (f, v) :: rest → s.block.hop.disc = 6 ∨ routedType f.ftype.toNat = false →
        x.credits < flitsOf x.compat f ∨ 512 ≤ x.replay.length →
        ∃ t, exec (.hopFrameSend p) s = .next t ∧ t.block = s.block) ∧
      (x.maySend (s.block.hop.disc == 6) = false →
        ∃ t, exec (.idleSend p) s = .next t ∧ t.block.hopPort p = x.sent ∧
          t.block.out = s.block.out ++ [.hop p (x.dress (s.block.newFrame 0 0xFFF [] []))])) ∧
    (s.block.hopRuns = true → x.st = .closing →
      ∃ t, exec (.hopFrameSend p) s = .next t ∧ (t.block.hopPort p).reason = x.byeReason ∧
        (t.block.hopPort p).st = (if x.adminUp then .training else .down)) ∧
    (∀ g, s.block.hopRuns = true → x.st = .hello → x.helloGt = some g → s.block.gt < g + us 1 →
      ∃ t, exec (.helloSend p) s = .next t ∧ t.block = s.block) ∧
    (s.block.hopRuns = true → x.st = .hello → (∀ g, x.helloGt = some g → g + us 1 ≤ s.block.gt) →
      ∃ t, exec (.helloSend p) s = .next t ∧ t.block.seen [.out, .hop] = s.block.seen [.out, .hop] ∧
        (∀ k, t.block.hopPort k = if k = p.val then { x with helloGt := some s.block.gt } else s.block.hopPort k) ∧
        t.block.out = s.block.out ++ [.hop p (stampCrc (s.block.newFrame 1 0xFFF
          (leBytes 1 (if x.v2Allow then 2 else 3) ++ leBytes 1 3 ++ leBytes 6 s.block.hop.uid ++ leBytes 1 s.block.hop.prio ++
            leBytes 1 (p.val + 8 * b2n x.helloRx) ++ leBytes 1 x.reason) []))]) ∧
    (x.st = .hello → x.helloRx = false → x.since + ms 1 ≤ s.block.gt →
      ∃ t, exec (.helloTimeout p) s = .next t ∧ (t.block.hopPort p).st = .down ∧ (t.block.hopPort p).reason = 4 ∧
        (t.block.hopPort p).since = s.block.gt) ∧
    (s.block.power.st ≠ .off → x.st = .training →
      ∃ t, exec (.phyReady p) s = .next t ∧
        t.block.hopPort p = { x with helloGt := none, helloRx := false, seenRx := false, st := .hello, since := s.block.gt } ∧
        (s.block.power.st ≠ .run → s.block.power.goal ≠ .off → t.block.power.waking = true)) ∧
    (x.st ≠ .down →
      ∃ t, exec (.phyLost p) s = .next t ∧ (t.block.hopPort p).st = .down ∧ (t.block.hopPort p).reason = 2) ∧
    (s.block.hopRuns = true → x.st = .down → x.adminUp = true → x.reason ≠ 0 → x.reason ≠ 1 →
      x.since + ms 10 ≤ s.block.gt →
      ∃ t, exec (.linkRetrainTimer p) s = .next t ∧ t.block.hopPort p = { x with st := .training, since := s.block.gt } ∧
        t.block.out = s.block.out ++ [.train p]) ∧
    (s.block.hopRuns = true → x.st = .up → x.replay ≠ [] → x.ackGt + us 2 ≤ s.block.gt →
      ∃ t, exec (.replayTimeout p) s = .next t ∧
        (x.resends < 8 → t.block.hopPort p = { x with
          resend := x.replay, resends := x.resends + 1, replays := satAdd 32 x.replays 1
          sentGt := x.replay.map (fun _ => s.block.gt), ackGt := s.block.gt } ∧
          t.block.seen [.hop] = s.block.seen [.hop]) ∧
        (8 ≤ x.resends → (t.block.hopPort p).st = .down ∧ (t.block.hopPort p).reason = 5))

/-- KEY_RESPONSE, KEY_TIMEOUT and KEY_PERIOD_EXPIRY (R422, R425, R438, R440, R500): keys that were asked for are taken,
both make the link Up at version 2, and an error or a time-out takes it Down; a rotation asks for a transmit key of the
other phase, and a key that comes is answered with a ROTATE frame. That a rotation asks for the transmit key only, and
is answered when the receive key comes (R440 asks for the keys of both ends), is the model's reading, log entry 39. -/
def Obligations.LinkKeysAct : Prop :=
  ∀ (s : State) (p : Fin 6) (x : HopPort) (rx phase : Bool) (key : BitVec 256) (salt : BitVec 32), x = s.block.hopPort p →
    (s.block.hopRuns = true → x.asks rx phase = true →
      (∃ t, exec (.keyResponse p rx phase key salt true) s = .next t ∧
        (x.st ≠ .down → (t.block.hopPort p).st = .down ∧ (t.block.hopPort p).reason = 7)) ∧
      (∃ t, exec (.keyResponse p rx phase key salt false) s = .next t ∧
        (x.st = .keying → rx = true → x.txKey = none → t.block.hopPort p = { x with
          keyReq := x.keyReq.eraseP (keyFor rx phase), rxKey := some { key := key, salt := salt } }) ∧
        (x.st = .keying → rx = false → x.rxKey = none → t.block.hopPort p = { x with
          keyReq := x.keyReq.eraseP (keyFor rx phase), txKey := some { key := key, salt := salt } }) ∧
        (x.st = .keying → rx = true → x.txKey ≠ none → t.block.hopPort p = { x with
          keyReq := x.keyReq.eraseP (keyFor rx phase), rxKey := some { key := key, salt := salt }
          st := .up, version := 2, compat := true, credits := 1024, txSeq := 0, rxNext := 0
          linkUps := satAdd 32 x.linkUps 1, since := s.block.gt, ackGt := s.block.gt, rotGt := s.block.gt
          traceGt := s.block.gt }) ∧
        (x.st ≠ .keying → rx = true → ∃ g, fbody g 0 = 1 ∧ fbody g 1 = b2n phase ∧ g.ftype = 0xA ∧
          t.block.hopPort p = { x with
            keyReq := x.keyReq.eraseP (keyFor rx phase), rxOther := some { key := key, salt := salt }, rxIdleO := 0
            txq := x.txq ++ [(g, 7)] }) ∧
        (x.st ≠ .keying → rx = false → ∃ g, fbody g 0 = 0 ∧ fbody g 1 = b2n phase ∧ g.ftype = 0xA ∧
          t.block.hopPort p = { x with
            keyReq := x.keyReq.eraseP (keyFor rx phase), txOther := some { key := key, salt := salt }, rotStep := 2
            txq := x.txq ++ [(g, 7)] }))) ∧
    ((∃ k, k ∈ x.keyReq ∧ k.2.2 + ms 1 ≤ s.block.gt) → x.st ≠ .down →
      ∃ t, exec (.keyTimeout p) s = .next t ∧ (t.block.hopPort p).st = .down ∧ (t.block.hopPort p).reason = 7 ∧
        (t.block.hopPort p).keyReq = [] ∧ (t.block.hopPort p).txKey = none ∧ (t.block.hopPort p).rxKey = none) ∧
    (s.block.hopRuns = true → x.st = .up → x.compat = true → x.rotating = false →
      (x.keyPeriod ≠ 0 ∧ x.rotGt + ms (1000 * x.keyPeriod) ≤ s.block.gt) ∨ 2 ^ 48 ≤ x.txCtr →
      ∃ t, exec (.keyPeriodExpiry p) s = .next t ∧ t.block.hopPort p = { x with
          rotating := true, rotStep := 1, rotGt := s.block.gt, keyReq := x.keyReq ++ [(false, !x.kph, s.block.gt)] } ∧
        t.block.out = s.block.out ++ [.keyReq s.block.hop.nodeId p x.nuid (!x.kph) false])

/-- IDLE_RECEIVE, HELLO_RECEIVE, BYE_RECEIVE, ROTATE_RECEIVE, SCRUB_MARK_RECEIVE and BAD_TYPE_FRAME (R418 to R420, R422
to R425, R437, R440, R441, R500): an IDLE acknowledges frames and returns credit; a HELLO with SEEN brings a version-3
link Up, and the refusals take it Down with their reasons; a BYE takes a link Down; the other frames do what their types
say. The version check at each HELLO is the model's reading, log entry 36, the key asked for at ROTATE log entry 39, and
the neighbour's node from SRC log entry 40. -/
def Obligations.LinkFramesAct : Prop :=
  ∀ (s : State) (p : Fin 6) (f g : Frame) (x : HopPort), x = s.block.hopPort p →
    (∀ n, f.ftype = 0 → s.block.hopRuns = true → x.st = .up → x.compat = false → f.crc.toNat = frameCrc f → f.nak = false →
      x.resend = [] → x.rotStep ≠ 3 → n = x.acked f.lack.toNat →
      ∃ t, exec (.idleReceive p f) s = .next t ∧ t.block.hopPort p = { x with
        node := f.src.toNat, credits := min 1024 (x.credits + f.cred.toNat), replay := x.replay.drop n
        resends := if n = 0 then x.resends else 0, sentGt := x.sentGt.drop n
        ackGt := (x.sentGt.drop n).headD x.ackGt }) ∧
    (∀ y, f.ftype = 1 → s.block.hopRuns = true → x.st = .hello → f.crc.toNat = frameCrc f →
      y = { x with
        helloRx := true, seenRx := x.seenRx || (fbody f 9).testBit 3, peerMin := fbody f 0, peerMax := fbody f 1
        nuid := fbodyN f 2 6, nport := fbody f 9 % 8, node := f.src.toNat } →
      ∃ t, exec (.helloReceive p f) s = .next t ∧
        (fbodyN f 2 6 = s.block.hop.uid → (t.block.hopPort p).st = .down ∧ (t.block.hopPort p).reason = 9) ∧
        (fbodyN f 2 6 ≠ s.block.hop.uid → y.negotiated = none →
          (t.block.hopPort p).st = .down ∧ (t.block.hopPort p).reason = 3) ∧
        (fbodyN f 2 6 ≠ s.block.hop.uid → y.negotiated ≠ none → y.seenRx = false →
          t.block.hopPort p = y ∧ t.block.seen [.hop] = s.block.seen [.hop]) ∧
        (fbodyN f 2 6 ≠ s.block.hop.uid → y.negotiated = some 3 → y.seenRx = true →
          (t.block.hopPort p).st = .up ∧ (t.block.hopPort p).version = 3 ∧ (t.block.hopPort p).compat = false ∧
            (t.block.hopPort p).credits = 1024 ∧ (t.block.hopPort p).linkUps = satAdd 32 x.linkUps 1) ∧
        (fbodyN f 2 6 ≠ s.block.hop.uid → y.negotiated = some 2 → y.seenRx = true →
          t.block.hopPort p = { y with
            st := .keying, since := s.block.gt, compat := true
            keyReq := y.keyReq ++ [(false, false, s.block.gt), (true, false, s.block.gt)] })) ∧
    (f.ftype = 0xB → s.block.hopRuns = true → x.st ≠ .down → x.st ≠ .training → f.crc.toNat = frameCrc f →
      ∃ t, exec (.byeReceive p f) s = .next t ∧ (t.block.hopPort p).st = .down ∧ (t.block.hopPort p).reason = 8) ∧
    (∀ y, s.block.hearsFrame p f g → y = (s.block.received p f).hopPort p → f.ftype = 0xA →
      ∃ t, exec (.rotateReceive p f) s = .next t ∧
        (fbody g 0 = 0 → (fbody g 1).testBit 0 ≠ y.rxPhase → y.rxOther = none → y.asks true ((fbody g 1).testBit 0) = false →
          t.block.hopPort p = { y with keyReq := y.keyReq ++ [(true, (fbody g 1).testBit 0, s.block.gt)] } ∧
          t.block.out = s.block.out ++ [.keyReq s.block.hop.nodeId p x.nuid ((fbody g 1).testBit 0) true]) ∧
        (fbody g 0 = 0 → (fbody g 1).testBit 0 = y.rxPhase ∨ y.rxOther ≠ none ∨ y.asks true ((fbody g 1).testBit 0) = true →
          t.block.hopPort p = y ∧ t.block.out = s.block.out) ∧
        (fbody g 0 = 2 → ∀ k, x.rxOther = some k → t.block.hopPort p = { y with
          rxKey := some k, rxOther := none, rxPhase := !y.rxPhase, rxIdle := y.rxIdleO, rxIdleO := 0 })) ∧
    (s.block.hearsFrame p f g → f.ftype = 4 →
      ∃ t, exec (.scrubMarkReceive p f) s = .next t ∧ t.block.seen [.hop] = s.block.seen [.hop] ∧
        t.block.hopPort p = { (s.block.received p f).hopPort p with scrubRx := satAdd 32 x.scrubRx 1 }) ∧
    (s.block.hopRuns = true → x.st = .up → x.version = 3 → x.compat = false → x.replay = [] → x.resend = [] → f.nak = false →
      f.crc.toNat = frameCrc f → f.lseq.toNat = x.rxNext → f.ftype = 0xC →
      ∃ t, exec (.badTypeFrame p f) s = .next t ∧ t.block.seen [.hop] = s.block.seen [.hop] ∧
        t.block.hopPort p = { (s.block.received p f).hopPort p with badType := satAdd 32 x.badType 1 })

/-- ELECT_RECEIVE, ELECT_QUIET, ROOT_WAIT_EXPIRY, CLAIM_RECEIVE, COUNT_REQ_RECEIVE, COUNT_RECEIVE, ASSIGN_RECEIVE,
VECTOR_RECEIVE and ROUTING_QUIET (R427 to R431): a better root key is taken with its port as parent, after COUNT_REQ was
passed on in a new generation; quiet elections end in a claim or, at the root, a count; counts go up and bases come
down, and an instance beyond 32 hops stays Unaddressed; hop vectors are stored, unless the root route that they take
away starts a new discovery; quiet routing ends discovery. That COUNT_REQ and ASSIGN are taken from the parent port
only, the answer to a late CLAIM, and the generation that is not used are the model's reading, log entry 36. -/
def Obligations.DiscoveryAct : Prop :=
  ∀ (s : State) (p : Fin 6) (f g : Frame) (h : Hop) (y : HopPort), h = s.block.hop → y = (s.block.received p f).hopPort p →
    (s.block.hearsFrame p f g → f.ftype = 2 →
      (fbody g 0 = 0 → ∃ t, exec (.electReceive p f) s = .next t ∧
        (h.disc = 1 ∨ h.disc = 2 → h.countPassed = false → fbody g 8 < 32 → fbodyN g 1 7 < h.bestKey →
          t.block.hop.bestKey = fbodyN g 1 7 ∧ t.block.hop.bestHops = fbody g 8 + 1 ∧ t.block.hop.parent = p ∧
          t.block.hop.quietGt = s.block.gt ∧ t.block.hop.rootWait = false ∧ t.block.hop.disc = 1) ∧
        (h.disc = 2 ∨ h.disc = 3 → h.countPassed = true → h.parent ≠ p → p.val ∈ s.block.up3 → fbody g 8 < 32 →
          fbodyN g 1 7 < h.bestKey → t.block.hop.gen = (h.gen + 1) % 256 ∧ t.block.hop.disc = 1 ∧
          t.block.hop.countPassed = false ∧
          (fbodyN g 1 7 < s.block.ownKey → t.block.hop.bestKey = fbodyN g 1 7 ∧ t.block.hop.bestHops = fbody g 8 + 1 ∧
            t.block.hop.parent = p)) ∧
        (h.disc = 1 ∨ h.disc = 2 → h.bestKey < fbodyN g 1 7 →
          t.block.hop = { h with ports := t.block.hop.ports } ∧ t.block.hopPort p = y)) ∧
      (fbody g 0 = 1 → ∃ t, exec (.claimReceive p f) s = .next t ∧ (t.block.hopPort p).claimed = true ∧
        (t.block.hopPort p).count = none ∧
        (h.disc = 2 → h.countPassed = true → ∃ r, fbody r 0 = 2 ∧ (t.block.hopPort p).txq = y.txq ++ [(r, 7)]) ∧
        (h.disc ≠ 2 ∨ h.countPassed = false → t.block.hopPort p = { y with claimed := true, count := none })) ∧
      (fbody g 0 = 2 → h.parent = p → h.disc = 1 ∨ h.disc = 2 →
        ∃ t, exec (.countReqReceive p f) s = .next t ∧ t.block.hop.countPassed = true ∧
          ((∃ q, q < 6 ∧ (s.block.hopPort q).claimed = true) → t.block.hop.disc = 2) ∧
          ((∀ q, q < 6 → (s.block.hopPort q).claimed = false) → t.block.hop.disc = 3)) ∧
      (fbody g 0 = 3 → h.disc = 2 → h.countPassed = true → (s.block.hopPort p).claimed = true →
        ∃ t, exec (.countReceive p f) s = .next t ∧ (t.block.hopPort p).count = some (fbodyN g 1 2) ∧
          (h.parent ≠ 7 → (∀ q, q < 6 → q ≠ p.val → (s.block.hopPort q).claimed = true →
            (s.block.hopPort q).count ≠ none) → t.block.hop.disc = 3) ∧
          (∀ q, q < 6 → q ≠ p.val → (s.block.hopPort q).claimed = true → (s.block.hopPort q).count = none →
            t.block.hop.disc = 2)) ∧
      (fbody g 0 = 4 → h.parent = p → h.disc = 3 →
        ∃ t, exec (.assignReceive p f) s = .next t ∧
          t.block.hop.nodeId = (if 32 ≤ fbody g 4 then 0xFFF else min (fbodyN g 1 2) 0xFFF) ∧
          t.block.hop.gen = fbody g 3 ∧ t.block.hop.depth = fbody g 4 + 1 ∧
          t.block.hop.disc = (if fbodyN g 1 2 < 0xFFF ∧ fbody g 4 < 32 then 4 else 7)) ∧
      (fbody g 0 = 5 → ∃ t, exec (.vectorReceive p f) s = .next t ∧
        (h.disc < 4 ∨ h.disc = 7 ∨ fbody g 3 = h.gen →
          (4 ≤ h.disc ∧ h.disc ≠ 7 ∧ h.nodeId ≠ 0 ∧ t.block.hop.disc ≤ 1) ∨ ∀ i, i < 256 → fbodyN g 1 2 + i < 4096 →
          tget 0x3F (t.block.hopPort p).vec (fbodyN g 1 2 + i) =
            if 32 < (g.payload.getD i 0).toNat then 0x3F else (g.payload.getD i 0).toNat) ∧
        (4 ≤ h.disc → h.disc ≠ 7 → fbody g 3 ≠ h.gen → t.block.hopPort p = y ∧
          t.block.hop = { h with ports := t.block.hop.ports }))) ∧
    (s.block.hopRuns = true → h.disc = 1 → h.rootWait = false → h.quietGt + us 50 ≤ s.block.gt →
      ∃ t, exec .electQuiet s = .next t ∧ (h.parent = 7 → t.block = { s.block with hop := { h with rootWait := true } }) ∧
        (h.parent ≠ 7 → t.block.hop.disc = 2 ∧ ∃ r, fbody r 0 = 1 ∧
          (t.block.hopPort h.parent).txq = (s.block.hopPort h.parent).txq ++ [(r, 7)])) ∧
    (s.block.hopRuns = true → h.disc = 1 → h.rootWait = true → h.quietGt + us 70 ≤ s.block.gt →
      ∃ t, exec .rootWaitExpiry s = .next t ∧ t.block.hop.rootWait = false ∧ t.block.hop.countPassed = true ∧
        ((∃ q, q < 6 ∧ (s.block.hopPort q).claimed = true) → t.block.hop.disc = 2) ∧
        ((∀ q, q < 6 → (s.block.hopPort q).claimed = false) → h.parent = 7 → t.block.hop.nodeId = 0 ∧ t.block.hop.disc = 4)) ∧
    (s.block.hopRuns = true → h.disc = 4 → h.routeGt + us 50 ≤ s.block.gt →
      ∃ t, exec .routingQuiet s = .next t ∧ (h.nodeId = 0 → t.block.hop.disc = 6) ∧
        (h.nodeId ≠ 0 → t.block.hop.disc = 5 ∧ t.block.hop.tsMeas = some h.tsNext))

/-- TSYNC_PERIOD_EXPIRY, TSYNC_IDLE_MEASURE, TSYNC_FUP_TIMEOUT, TSYNC_REQ_SEND and the TSYNC receives (R54 to R56,
R435): a child calls its parent; 8 exchanges are stamped at both ends; the parent's follow-up gives the offset of the
best exchange, or the measurement is rejected and counted. That t0 is the gt at which a measurement is applied, and the
rate of the first two measurements, is the model's reading, log entry 41; that TSYNC_PERIOD counts from the end of the
last measurement is its choice, log entry 96. -/
def Obligations.OffsetMeasurementsAct : Prop :=
  ∀ (s : State) (p : Fin 6) (f g : Frame) (h : Hop) (x : HopPort) (m : Time), h = s.block.hop → x = s.block.hopPort p →
    m = s.block.time →
    (s.block.hopRuns = true → s.block.hasParent = true → h.tsMeas = none →
      (m.lastTsync + us m.tsyncUs ≤ s.block.gt → ∃ t, exec .tsyncPeriodExpiry s = .next t ∧
        t.block.hop.tsMeas = some h.tsNext ∧ t.block.hop.tsNext = (h.tsNext + 1) % 256 ∧ t.block.hop.tsStamps = [] ∧
        t.block.hop.callGt = s.block.gt) ∧
      (max (s.block.hopPort h.parent).traceGt m.lastTsync + us 10 ≤ s.block.gt →
        ∃ t, exec .tsyncIdleMeasure s = .next t ∧ t.block.hop.tsMeas = some h.tsNext ∧
        t.block.hop.tsNext = (h.tsNext + 1) % 256 ∧ t.block.hop.tsStamps = [] ∧ t.block.hop.callGt = s.block.gt)) ∧
    (h.tsMeas ≠ none → h.callGt + us 100 ≤ s.block.gt →
      ∃ t, exec .tsyncFupTimeout s = .next t ∧ t.block.hop = { h with tsMeas := none } ∧
        t.block.time = { m with tsyncReject := satAdd 32 m.tsyncReject 1, lastTsync := s.block.gt }) ∧
    (∀ (t1 n k : Nat), s.block.hopRuns = true → x.st = .up → x.tsMeas = some (n, k) → k < 8 → x.tsGt + us 1 ≤ s.block.gt →
      ∃ t r, exec (.tsyncReqSend p t1) s = .next t ∧ fbody r 0 = 1 ∧ fbody r 2 = k ∧ t.block.hopPort p = { x with
        tsMeas := some (n, k + 1), tsGt := s.block.gt, tsStamps := tput x.tsStamps k (t1, 0), txq := x.txq ++ [(r, 7)] }) ∧
    (∀ y, s.block.hearsFrame p f g → f.ftype = 3 → y = (s.block.received p f).hopPort p →
      (fbody g 0 = 0 → ∃ t, exec (.tsyncCallReceive p f) s = .next t ∧ t.block.hopPort p = { y with
        tsMeas := some (fbody g 1, 0), tsStamps := [], tsRsp := 0, tsGt := s.block.gt - us 1 }) ∧
      (∀ t2 t3, fbody g 0 = 1 → h.tsMeas = some (fbody g 1) → h.parent = p →
        ∃ t r, exec (.tsyncReqReceive p f t2 t3) s = .next t ∧ fbody r 0 = 2 ∧ fbody r 2 = fbody g 2 ∧
          t.block.hop.tsStamps = tput h.tsStamps (fbody g 2) (t2, t3) ∧
          t.block.hopPort p = { y with txq := y.txq ++ [(r, 7)] }) ∧
      (∀ t4 n, fbody g 0 = 2 → x.tsMeas = some (fbody g 1, n) → fbody g 2 < n →
        ∃ t, exec (.tsyncRspReceive p f t4) s = .next t ∧ (t.block.hopPort p).tsRsp = x.tsRsp + 1 ∧
          tget (0, 0) (t.block.hopPort p).tsStamps (fbody g 2) = ((tget (0, 0) x.tsStamps (fbody g 2)).1, t4) ∧
          (x.tsRsp < 7 → (t.block.hopPort p).tsMeas = x.tsMeas ∧ (t.block.hopPort p).txq = x.txq) ∧
          (7 ≤ x.tsRsp → (t.block.hopPort p).tsMeas = none ∧
            ∃ r, fbody r 0 = 3 ∧ fbody r 1 = fbody g 1 ∧ (t.block.hopPort p).txq = x.txq ++ [(r, 7)])) ∧
      (∀ b, fbody g 0 = 3 → h.tsMeas = some (fbody g 1) → h.parent = p →
        b = bestExchange (exchanges x.alpha h.tsStamps g.payload) →
        ∃ t, exec (.tsyncFupReceive p f) s = .next t ∧ t.block.hop.tsMeas = none ∧ t.block.time.lastTsync = s.block.gt ∧
          ((∀ k e, b = some (k, e) → k < 2) → t.block.time.tsyncReject = satAdd 32 m.tsyncReject 1 ∧
            t.block.time.fabOff = m.fabOff) ∧
          (∀ k e, b = some (k, e) → 2 ≤ k → t.block.time.fabOff = e.off - e.theta ∧ t.block.time.t0 = s.block.gt ∧
            t.block.time.chain = fbody g 2 ∧ t.block.time.tsyncReject = m.tsyncReject ∧
            (h.disc = 5 → t.block.hop.disc = 6) ∧
            (32 < (e.off - e.theta - s.block.fabOffAt s.block.gt).natAbs → m.epoch < t.block.time.epoch))))

/-- PAGE_REQ_RECEIVE, PAGE_GRANT_RECEIVE, PAGE_DATA_RECEIVE, PAGE_REQ_RETRY and SINK_SLOT_TIMEOUT (R421, R432 to R434):
a request joins the sink's queue of 256; a routed frame for another instance goes on with one hop less; a grant sends
the page's frames one after another, the last of which, once its port has accepted it, drains the page; a WAIT puts the
request off by 50 µs; frames fill a slot, which a full page or 1 ms of silence ends. FREEZE_SCHED_RECEIVE and
FREEZE_ACK_RECEIVE (R284, R290, R436): the first copy of a freeze takes a slot, or is refused with no slot taken, and a
second copy has no effect; an answer moves its instance from those waited for to those that agreed or refused. That
PAGE_DATA frames join the queue one after another is the model's reading, log entry 39; the TTL of a flood and frames of
a version-2 neighbour are log entry 40, the late frame counted in HOP_LOST log entry 91, and the order of refusal codes
log entry 38. -/
def Obligations.PagesAndFreezesCrossTheFabric : Prop :=
  (∀ (s : State) (p : Fin 6) (f g : Frame) (h : Hop) (x : HopPort), h = s.block.hop → x = s.block.hopPort p →
    (s.block.hearsFrame p f g → f.ftype = 5 → x.compat = true ∨ g.dst.toNat = h.nodeId →
      ∃ t, exec (.pageReqReceive p f) s = .next t ∧
        (h.reqs.length < 256 → h.sinkDest ≠ 1 → h.sinkDest ≠ 2 →
          t.block.hop.reqs = h.reqs ++ [(p.val, g.src.toNat, fbody g 0 % 16, fbodyN g 1 2)]) ∧
        (256 ≤ h.reqs.length → h.sinkDest ≠ 1 → h.sinkDest ≠ 2 → t.block.hop.reqs = h.reqs) ∧
        (256 ≤ h.reqs.length → h.disc ≠ 6 → h.sinkDest ≠ 1 → h.sinkDest ≠ 2 →
          t.block.hop.waitDue = h.waitDue ++ [(p.val, g.src.toNat, fbodyN g 1 2)]) ∧
        (256 ≤ h.reqs.length → h.disc = 6 → h.sinkDest ≠ 1 → h.sinkDest ≠ 2 → h.waitDue = [] → (x.compat = true →
          ∃ r, r.ftype = 6 ∧ fbody r 2 = 0x80 ∧ (t.block.hopPort p).txq = x.txq ++ [(r, 7)]))) ∧
    (s.block.hearsFrame p f g → f.ftype = 5 → x.compat = false → g.dst.toNat ≠ h.nodeId →
      ∃ t, exec (.pageReqReceive p f) s = .next t ∧ t.block.hop.reqs = h.reqs ∧
        (g.ttl.toNat ≤ 1 → (t.block.hopPort p).hopLost = satAdd 32 x.hopLost 1 ∧ bit t.block.power.lossSeen 9 = true) ∧
        (∀ r, 1 < g.ttl.toNat → h.disc = 6 → r = (s.block.route g.dst.toNat).1 → r < 6 →
          (t.block.hopPort r).txq = (s.block.hopPort r).txq ++ [({ g with ttl := g.ttl - 1, tag := [] }, p.val)] ∧
          (t.block.hopPort p).credRet = x.credRet)) ∧
    (∀ c, s.block.hearsFrame p f g → f.ftype = 6 → x.compat = true ∨ g.dst.toNat = h.nodeId →
      s.block.grantChan g.src.toNat (fbodyN g 0 2) = some c →
      ∃ t, exec (.pageGrantReceive p f) s = .next t ∧
        ((fbody g 2).testBit 7 = true → (∀ k, t.block.chan k = if k = c then
          { s.block.chan k with retryGt := some (s.block.gt + us 50) } else s.block.chan k)) ∧
        (∀ r, (fbody g 2).testBit 7 = false → r = s.block.route g.src.toNat → r.2 ≤ 32 → r.1 < 6 → h.disc = 6 →
          (s.block.chan c).sinkGen = h.gen → (s.block.chan c).frameOut = false →
          (t.block.chan c).grant = some (fbody g 2 % 32, 0) ∧ (t.block.chan c).frameOut = true ∧
          (t.block.chan c).page = (s.block.chan c).page ∧ ∃ q, q.ftype = 7 ∧ fbody q 0 = fbody g 2 % 32 ∧ fbody q 1 = 0 ∧
            (t.block.hopPort r.1).txq = (s.block.hopPort r.1).txq ++ [(q, 8 + c)])) ∧
    (∀ (c pg slot : Nat) (q : Frame) (rest : List (Frame × Nat)), s.block.hopRuns = true → x.st = .up → x.resend = [] →
      x.txq = (q, 8 + c) :: rest → h.disc = 6 ∨ routedType q.ftype.toNat = false → flitsOf x.compat q ≤ x.credits → x.replay.length < 512 →
      (s.block.chan c).page = some pg → (s.block.chan c).grant = some (slot, 15) →
      ∃ t, exec (.hopFrameSend p) s = .next t ∧ (t.block.chan c).page = none ∧ (t.block.chan c).reqNo = none ∧
        (t.block.chan c).pagesMoved = satAdd 32 (s.block.chan c).pagesMoved 1) ∧
    (∀ (n i : Nat) (e : SinkSlot), s.block.hearsFrame p f g → f.ftype = 7 → x.compat = true ∨ g.dst.toNat = h.nodeId →
      n = fbody g 0 % 32 → i = fbody g 1 % 16 → h.slots.find? (fun e => e.1 == n) = some (n, e) → n ∉ h.ready →
      e.src = g.src.toNat →
      ∃ t z, exec (.pageDataReceive p f) s = .next t ∧ t.block.hop.slots.find? (fun e => e.1 == n) = some (n, z) ∧
        z.frames = (if i ∈ e.frames then e.frames else e.frames ++ [i]) ∧ z.last = s.block.gt ∧
        (∀ j, j < 4 → tget [] z.units (4 * i + j) = padTo 64 (g.payload.drop (64 * j))) ∧
        t.block.hop.ready = (if z.frames.length < 16 then h.ready else h.ready ++ [n])) ∧
    (∀ (c : Fin 16) (y : Channel) (n r : Nat) (d : Gt), s.block.running = true → y = s.block.chan c → y.retryGt = some d →
      d ≤ s.block.gt → y.reqNo = some n → y.stop = .none → y.sinkGen = h.gen → (s.block.route y.sink).2 ≤ 32 → h.disc = 6 →
      r = (s.block.route y.sink).1 → r < 6 → y.sink ≠ h.nodeId → y.sink < 4096 →
      ∃ t q, exec (.pageReqRetry c) s = .next t ∧ (t.block.chan c).retryGt = none ∧ fbody q 0 = c.val ∧ q.ftype = 5 ∧
        fbodyN q 1 2 = n % 2 ^ 16 ∧ (t.block.hopPort r).txq = (s.block.hopPort r).txq ++ [(q, 7)]) ∧
    (∀ (n : Fin 32) (e : SinkSlot), s.block.hopRuns = true → h.slots.find? (fun e => e.1 == n.val) = some (n.val, e) →
      n.val ∉ h.ready → e.last + ms 1 ≤ s.block.gt →
      ∃ t, exec (.sinkSlotTimeout n) s = .next t ∧
        (e.frames ≠ [] → t.block = { s.block with hop := { h with
          sinkPageCut := satAdd 32 h.sinkPageCut 1, ready := h.ready ++ [n.val] } }) ∧
        (e.frames = [] → h.reqs = [] → t.block.hop.slots.find? (fun e => e.1 == n.val) = none ∧ t.block.hop.ready = h.ready))) ∧
  (∀ (s : State) (p : Fin 6) (f g : Frame) (h : Hop), h = s.block.hop → s.block.hearsFrame p f g →
    (∀ node id, f.ftype = 8 → node = fbodyN g 9 2 % 4096 → id = fbody g 11 →
      ∃ t, exec (.freezeSchedReceive p f) s = .next t ∧
        ((node, id) ∈ h.seen → t.block.freezes = s.block.freezes ∧ t.block.hop.seen = h.seen) ∧
        ((node, id) ∉ h.seen → t.block.hop.seen = (h.seen ++ [(node, id)]).drop (h.seen.length + 1 - 16) ∧
          (s.block.alignedNow = false → t.block.freezes = s.block.freezes) ∧
          (s.block.alignedNow = true → s.block.localOfRoot (fbodyN g 0 9) < s.block.gt + us 1 →
            t.block.freezes = s.block.freezes) ∧
          (∀ i, s.block.alignedNow = true → s.block.gt + us 1 ≤ s.block.localOfRoot (fbodyN g 0 9) →
            s.block.slotOf id = none → i < 4 → (s.block.freezeSlot i).st = .free →
            (∀ j, j < i → (s.block.freezeSlot j).st ≠ .free) →
            t.block.freezeSlot i = { ({} : Freeze) with
              st := .scheduled, id := id, node := node, rootT := fbodyN g 0 9, t := s.block.localOfRoot (fbodyN g 0 9)
              fabric := true, fixed := false, aoClear := (fbody g 12).testBit 0, tenantCopy := (fbody g 12).testBit 1 }))) ∧
    (∀ (n : Nat) (l : Long) (id ok bad src : Nat) (waiting : List Nat) (sent : Gt), f.ftype = 9 →
      (s.block.hopPort p).compat = false → g.dst.toNat = h.nodeId → s.block.waitsFor n l →
      l.kind = .freeze id ok bad waiting sent → id = fbody g 0 → src = g.src.toNat → src ∈ waiting →
      ∃ t, exec (.freezeAckReceive p f) s = .next t ∧ (waiting.erase src ≠ [] → t.block.allLongs = [(n, { l with
        kind := .freeze id (if fbody g 1 = 0 then ok + 1 else ok) (if fbody g 1 = 0 then bad else bad + 1)
          (waiting.erase src) sent })]) ∧
        (waiting.erase src = [] → ∃ r, (t.block.port n).ring = (s.block.port n).ring ++ [r] ∧ r.words.length = 3)))

/-- CHANNEL_TAKE_PAGE, CHANNEL_ISSUE_BEAT, DESCRIPTOR_READ_RETURN and INDEX_READ_RETURN (R395, R397, R399, R400, R402 to
R406, R411, R412, R492): a channel that may takes the oldest page, which is Draining from then on; a beat is one write
within a line, the segment and the page; a descriptor is taken, starves the channel, or halts it with its cause. The
lowest free write tag, the tags of reads, and that no descriptor is read ahead are the model's choice, log entry 42. -/
def Obligations.ChannelsMovePages : Prop :=
  ∀ (s : State) (ch : Fin 16) (x : Channel), x = s.block.chan ch → x.stop = .none → x.enable = true →
    s.block.power.quiesce = false → s.block.power.goal ≠ .off →
    (∀ p rest, s.block.running = true → x.st = .running → x.page = none → x.heldBy = [] → s.block.chanPages ch = p :: rest →
      (s.block.tenant x.owner).resetting = false →
      (x.target = 1 → x.desc = none → s.block.canTakeWhole x.owner = true →
        ∃ t, exec (.channelTakePage ch) s = .next t ∧ (t.block.chan ch).page = some p ∧ (t.block.chan ch).pos = 0 ∧
          (p < 8192 → (t.block.page p).st = .draining) ∧ (4096 ≤ s.block.allowLeft x.owner →
            tget 0 t.block.sparge.spent x.owner = tget 0 s.block.sparge.spent x.owner + 4096)) ∧
      (∀ d, x.target = 0 → x.desc = some d → d.isIndex = false → d.room = true → 0 < s.block.allowLeft x.owner →
        ∃ t, exec (.channelTakePage ch) s = .next t ∧ (t.block.chan ch).page = some p ∧ (t.block.chan ch).pos = 0 ∧
          (p < 8192 → (t.block.page p).st = .draining))) ∧
    (∀ p d a len dst n data, s.block.running = true → x.st = .running → x.target = 0 → x.page = some p → x.desc = some d →
      d.closing = false → d.isIndex = false → d.perPage = true → d.segs[d.segIdx]? = some (a, len, true) →
      d.segUsed ≠ 0 ∨ x.inWindow a len = true → dst = a + d.segUsed →
      n = min (min (128 - dst % 128) (len - d.segUsed)) (4096 - x.pos) → s.block.readTurn = some ch.val → x.owner ≠ 64 →
      data = ((swapBytes x.swap (s.block.pageBytes p [])).drop x.pos).take n →
      ∃ t, exec (.channelIssueBeat ch []) s = .next t ∧ (s.block.noDrain = true →
          t.block.out = s.block.out ++ [.memWrite (memPort ch) (64 * ch + s.block.freeTag ch) dst data]) ∧
        t.block.sparge.lastRead = ch.val ∧
        (t.block.chan ch).flight = x.flight ++ [{
          tag := s.block.freeTag ch, kind := 0, addr := dst, bytes := data.length, pages := [p] }] ∧
        (t.block.chan ch).page = (if x.pos + n = 4096 then none else some p) ∧
        (t.block.chan ch).pos = (if x.pos + n = 4096 then 0 else x.pos + n) ∧
        tget 0 t.block.sparge.spent x.owner = tget 0 s.block.sparge.spent x.owner + 64 * cdiv n 64) ∧
    (∀ data bs, x.descRead = true → bs = padTo 32 data →
      ((leNat (bs.drop 28)).testBit 31 = false →
        ∃ t, exec (.descriptorReadReturn ch data false) s = .next t ∧ t.block.seen [.sparge] = s.block.seen [.sparge] ∧
          t.block.chan ch = { x with descRead := false, starved := true }) ∧
      ((leNat (bs.drop 28)).testBit 31 = true → (descOf x.head bs).2 = true →
        ∃ t, exec (.descriptorReadReturn ch data false) s = .next t ∧ (t.block.chan ch).desc = some (descOf x.head bs).1 ∧
          (t.block.chan ch).starved = false) ∧
      ((leNat (bs.drop 28)).testBit 31 = true → (descOf x.head bs).2 = false →
        ∃ t, exec (.descriptorReadReturn ch data false) s = .next t ∧ (t.block.chan ch).haltCause = 5 ∧
          (t.block.chan ch).haltAddr = x.descAddr x.head) ∧
      (x.flight = [] → x.page = none → x.lagging = [] → x.idxRead = false → x.offAfter = false →
        ∃ t, exec (.descriptorReadReturn ch data true) s = .next t ∧ (t.block.chan ch).st = .halted ∧
          (t.block.chan ch).haltCause = 2 ∧ (t.block.chan ch).haltAddr = x.descAddr x.head ∧
          tget 0 t.block.power.busErrors ch = satAdd 32 (tget 0 s.block.power.busErrors ch) 1 ∧
          (s.block.allLongs = [] → (s.block.tenant x.owner).resetting = false → x.owner ≤ 64 →
            bit (t.block.tenant x.owner).intStatus 7 = true))) ∧
    (∀ data d a, x.idxRead = true → x.desc = some d → a = d.addr + 16 * d.segs.length →
      (∃ t d' n, exec (.indexReadReturn ch data false) s = .next t ∧ (t.block.chan ch).desc = some d' ∧
        n = min (min 8 (d.len - d.segs.length)) ((128 - a % 128) / 16) ∧
        d'.segs = d.segs ++ segsOf n (padTo (16 * n) data)) ∧
      (∃ t, exec (.indexReadReturn ch data true) s = .next t ∧ (t.block.chan ch).haltCause = 3 ∧
        (t.block.chan ch).haltAddr = a))

/-- MEM_WRITE_RESPONSE, DRAIN_WINDOW_START, EXPORT_BEAT_ACCEPT and SCRUB_WRITE (R384, R385, R387, R388, R401, R405 to
R407, R411, R412, R486, R492): a response frees its tag and counts its bytes, or halts the channel; allowances are set
each microsecond; units and markers leave at the export port, a beat that stands there as it is; a scrub writes 64 zero
bytes. The lowest free tags of beats and scrubs are the model's choice, log entry 42; that the first scrub of the queue
is the running one is log entry 43, and what stands at the export port log entry 69. -/
def Obligations.DrainsAndScrubsAct : Prop :=
  ∀ (s : State) (y : Sparge), y = s.block.sparge →
    (∀ (id : BitVec 11) (x : Channel) (c : Nat) (k : Inflight), bit id 10 = false → c = fld id 6 4 → x = s.block.chan c →
      x.flight.find? (fun k => k.tag == fld id 0 6) = some k → y.scrubs = [] → id.toNat ∉ y.orphans →
      x.stop = .none →
      (∀ d, k.kind = 0 → x.desc = some d → x.lagging = [] →
        ∃ t d', exec (.memWriteResponse id false) s = .next t ∧ (t.block.chan c).desc = some d' ∧
          d'.doneLen = d.doneLen + k.bytes ∧ (x.flight.filter (fun k => k.tag != fld id 0 6) ≠ [] →
            (t.block.chan c).flight = x.flight.filter (fun k => k.tag != fld id 0 6))) ∧
      (k.kind = 0 → ∃ t, exec (.memWriteResponse id true) s = .next t ∧ (t.block.chan c).haltCause = 1 ∧
        (t.block.chan c).haltAddr = k.addr) ∧
      (k.kind = 2 → ∃ t, exec (.memWriteResponse id false) s = .next t ∧ (t.block.chan c).desc = none) ∧
      (k.kind = 1 ∨ k.kind = 2 → ∃ t, exec (.memWriteResponse id true) s = .next t ∧ (t.block.chan c).haltCause = 4 ∧
        (t.block.chan c).haltAddr = k.addr ∧ (t.block.chan c).desc = none)) ∧
    (∀ (id : BitVec 11) (h : Scrub), bit id 10 = false → y.scrubs = [h] → id.toNat ∈ h.flight → h.wins ≠ [] → h.ending = none →
      id.toNat ∉ y.orphans → (∃ t, exec (.memWriteResponse id false) s = .next t ∧
        t.block.sparge.scrubs = [{ h with flight := h.flight.erase id.toNat }]) ∧
      (∃ t, exec (.memWriteResponse id true) s = .next t ∧ t.block.sparge.scrubs = [] ∧
        t.block.sparge.orphans = y.orphans ++ h.flight.erase id.toNat ∧ (t.block.tenant h.tenant).scrubResult = 1)) ∧
    (∀ (id : BitVec 11) (e : Bool), bit id 10 = false → id.toNat ∈ y.orphans → ∃ t, exec (.memWriteResponse id e) s = .next t ∧
      t.block = { s.block with sparge := { y with orphans := y.orphans.erase id.toNat } }) ∧
    (∀ (w sum : Nat) (own : List Nat), s.block.running = true → w = s.block.gt / 256000 * 256000 →
      w ≠ y.winStart ∨ y.winOn = false → own = s.block.pendingOwners →
      sum = (own.map (fun o => (s.block.tenant o).budget)).foldl (· + ·) 0 →
      ∃ t, exec .drainWindowStart s = .next t ∧ t.block.sparge.winStart = w ∧ t.block.sparge.inP = own ∧
        ∀ o a, o ∈ own → a = (if sum ≤ 320 then (s.block.tenant o).budget * 1000
            else 320000 * (s.block.tenant o).budget / sum) →
          tget 0 t.block.sparge.allow o = a - s.block.owedAfter o ∧
            tget 0 t.block.sparge.owed o = s.block.owedAfter o) ∧
    (∀ m rest, s.block.running = true → y.exUp = none → y.exSrc = none → y.exMarkers = m :: rest →
      ∃ t, exec .exportBeatAccept s = .next t ∧ t.block = { s.block with
        sparge := { y with exMarkers := rest }, out := s.block.out ++ [.exportBeat m true true true] }) ∧
    (∀ src p i, s.block.running = true → y.exUp = none → y.exSrc = some src ∨ (y.exSrc = none ∧ y.exMarkers = [] ∧ s.block.exNext = some src) →
      s.block.exPage src = some p → i = (if y.exSrc = none then 0 else y.exBeat) →
      ∃ t, exec .exportBeatAccept s = .next t ∧
        (i < 63 → t.block.out = s.block.out ++ [.exportBeat (padTo 64 (s.block.chanUnit p i)) (i == 0) false false] ∧
          t.block.sparge = { y with
            exSrc := some src, exBeat := i + 1, exLast := src, exHold := if src < 16 then none else some p
            lastRead := if src < 16 then src else y.lastRead }) ∧
        (i = 63 → t.block.sparge.exSrc = none ∧ t.block.sparge.exLast = src ∧
          (src < 16 → (t.block.chan src).page = none ∧
            (t.block.chan src).pagesMoved = satAdd 32 (s.block.chan src).pagesMoved 1) ∧
          (16 ≤ src → t.block.hop.ready = s.block.hop.ready.erase (p - landBase)))) ∧
    (∀ u, s.block.running = true → y.exUp = some u →
      ∃ t, exec .exportBeatAccept s = .next t ∧
        (u.marker = true ∨ u.unit ≠ 63 → t.block.out = s.block.out ++
          [.exportBeat u.data (u.marker || u.unit == 0) (u.marker || u.unit == 63) u.marker]) ∧
        (u.marker = true → t.block.sparge = { y with exUp := none, exMarkers := y.exMarkers.drop 1 }) ∧
        (u.marker = false → y.exSrc = some u.src → y.exBeat = u.unit → u.unit < 63 →
          t.block.sparge = { y with exUp := none, exBeat := u.unit + 1, exLast := u.src }) ∧
        (u.marker = false → y.exSrc ≠ some u.src ∨ y.exBeat ≠ u.unit → t.block.sparge = { y with exUp := none })) ∧
    (∀ h rest c base size more n, s.block.running = true → y.scrubs = h :: rest → h.wins = (c, base, size) :: more →
      h.ending = none → s.block.canSpend 64 64 = true → (s.block.tagsHeld c).length < 64 → s.block.operatorBeats = false →
      n = min 64 (size - h.pos) →
      ∃ t, exec .scrubWrite s = .next t ∧ t.block.out = s.block.out ++
          [.memWrite (memPort c) (64 * c + s.block.freeTag c) (base + h.pos) (List.replicate n 0)] ∧
        t.block.sparge.scrubs = { h with
          begun := true, written := h.written + n, flight := h.flight ++ [64 * c + s.block.freeTag c]
          wins := if size ≤ h.pos + n then more else h.wins, pos := if size ≤ h.pos + n then 0 else h.pos + n } :: rest ∧
        t.block.sparge.exMarkers.length = y.exMarkers.length + (if h.begun then 0 else 1))

/-- FUNCTION_RESET_REQUEST, RESET_EPOCH, RESET_READY and FUNCTION_RESET_RELEASE (R172, R174, R296, R330, R375, R377,
R499): the steps of a function reset. INTERRUPT_MESSAGE_SEND and MALTSTER_WATCHDOG (R331, R357, R373, R374, R486, R497):
a message that stands at the output goes out; else the operator's first due message goes out, or that of the tenant
whose turn it is against a token, and a message that waits for a token is counted; after a restart a command in progress
ends with HW_FAULT, and a FAULT record is built. Which row clears what is the model's reading, log entry 44; the order
of messages within a function and the count of deferred ones are log entry 47, the watchdog's causes log entry 48, and
the held message log entry 69. -/
def Obligations.ResetsAndMessagesAct : Prop :=
  (∀ (s : State) (n : Fin 64) (x : Tenant), x = s.block.tenant n →
    ((s.block.requestWake 3).running = true → x.resetting = false →
      ∃ t, exec (.functionResetRequest n) s = .next t ∧ (t.block.tenant n).frPend = true ∧
        (t.block.tenant n).resetting = true ∧ (t.block.tenant n).step2Due = true ∧ (t.block.tenant n).intStatus = 0 ∧
        (t.block.tenant n).intEnable = 0 ∧ (t.block.port n).negotiated = false ∧ (t.block.port n).queue = []) ∧
    ((s.block.requestWake 3).running = false → s.block.power.st ≠ .off → x.resetting = false →
      ∃ t, exec (.functionResetRequest n) s = .next t ∧ t.block.tenant n = { x with frPend := true, rstWait := true } ∧
        (s.block.power.st ≠ .run → s.block.power.goal ≠ .off → t.block.power.waking = true) ∧
        t.block.seen [.tenants, .power] = s.block.seen [.tenants, .power]) ∧
    (s.block.running = true → x.resetting = true → x.step2Due = true → s.block.epochFree n = true →
      ∃ t, exec (.resetEpoch n) s = .next t ∧ (t.block.tenant n).epoch = (x.epoch + 1) % 256 ∧
        (t.block.tenant n).oldEpoch = x.epoch ∧ (t.block.tenant n).step2Due = false ∧ (t.block.tenant n).mode = 0 ∧
        (t.block.tenant n).fmt2 = false ∧ (t.block.tenant n).pageSeq = 0 ∧ (t.block.tenant n).epochFirst = true ∧
        (∀ k, (s.block.page k).owner = n → (s.block.page k).st = .openP ∨ (s.block.page k).st = .full ∨
          (s.block.page k).st = .held → t.block.page k = {}) ∧
        (∀ c, tget 0 t.block.ctxs c = if ctxValid (s.block.ctxEntry c) ∧ ctxTenantOf (s.block.ctxEntry c) = n then
          s.block.ctxEntry c &&& 0xFF000000#32 else s.block.ctxEntry c) ∧
        (∀ k j, (tget {} (s.block.tap k).cnt j).owner = n → (tget {} (t.block.tap k).cnt j).value = 0)) ∧
    (s.block.running = true → x.resetting = true → x.step2Due = false →
      ∃ t, exec (.resetReady n) s = .next t ∧ (t.block.tenant n).resetting = false ∧
        (t.block.tenant n).frAck = (x.frAck || x.frPend) ∧ (t.block.tenant n).frPend = false ∧
        (∀ m l old scrub, s.block.waitsFor m l → l.kind = .tenantReset n old scrub →
          (∀ c, c < 16 → (s.block.chan c).stop = .none) →
          s.block.finished t.block m l stDone [w32 (old + 256 * x.epoch), w32 (b2n scrub)])) ∧
    (∀ f : Fin 65, ∃ t, exec (.functionResetRelease f) s = .next t ∧ t.block.seen [.tenants] = s.block.seen [.tenants] ∧
      ∀ k, t.block.tenant k = if k = f.val then { s.block.tenant k with frAck := false } else s.block.tenant k)) ∧
  (∀ (s : State),
    (∀ x, s.block.power.st ≠ .off → s.block.power.irqUp = some x →
      ∃ t, exec .interruptMessageSend s = .next t ∧ t.block = { s.block with
        power := { s.block.power with irqUp := none }, out := s.block.out ++ [.irq x.1 x.2] }) ∧
    (∀ v rest, s.block.power.st ≠ .off → s.block.power.irqUp = none → (s.block.tenant 64).due = v :: rest →
      ∃ t, exec .interruptMessageSend s = .next t ∧ t.block.out = s.block.out ++ [.irq 64 v] ∧
        t.block.seen [.tenants, .out] = s.block.seen [.tenants, .out] ∧
        ∀ k, t.block.tenant k = if k = 64 then { s.block.tenant k with due := rest } else s.block.tenant k) ∧
    (∀ n x v rest g, s.block.power.st ≠ .off → s.block.power.irqUp = none → (s.block.tenant 64).due = [] → s.block.irqOrder = [n] → x = s.block.tenant n →
      x.due = v :: rest → g = x.gain s.block.gt →
      ∃ t, exec .interruptMessageSend s = .next t ∧
        (1024 ≤ g.1 → t.block.out = s.block.out ++ [.irq n v] ∧ t.block.power = { s.block.power with lastTenant := n } ∧
          (t.block.tenant n).due = rest ∧ (t.block.tenant n).tokens = g.1 - 1024 ∧ (t.block.tenant n).tokenGt = g.2 ∧
          v ∉ (t.block.tenant n).deferring) ∧
        (g.1 < 1024 → t.block.out = s.block.out ∧ t.block.power = s.block.power ∧
          t.block.tenant n = { x with
            tokens := g.1, tokenGt := g.2, deferring := x.deferring ++ x.due.filter (fun k => !x.deferring.contains k)
            deferred := satAdd 32 x.deferred ((x.due.filter (fun k => !x.deferring.contains k)).length) })) ∧
    (∀ c : BitVec 8, s.block.running = true → c ≠ 0 → c.toNat ≤ 3 → (s.block.tenant 64).resetting = false →
      ∃ t r, exec (.maltsterWatchdog c) s = .next t ∧ t.block.power.faultCause = c.toNat ∧
        t.block.power.restarts = satAdd 16 s.block.power.restarts 1 ∧ bit (t.block.tenant 64).intStatus 12 = true ∧
        t.block.recs = s.block.recs ++ [r] ∧ r.source = 20 ∧ r.rtype = 1 ∧ r.owner = 64 ∧
        (∀ n l, s.block.waitsFor n l → s.block.finished t.block n l stHwFault [] ∧
          t.block.power.hwFaults = satAdd 32 s.block.power.hwFaults 1)))

/-- POWER_STATE_CHOOSE, ACTIVE_US_EXPIRY, WAKE_TIMER_EXPIRY, POWER_HOLD_EXPIRY, WAKE_REQUEST, BLOCK_WAKE, POWER_GRANT
and CLOCK_SPEED_ACK (R33, R35, R43, R355, R465 to R473, R480, R484, R498): the block enters the state chosen, wakes for
the first of its sources, follows the grants of the power controller, and strobes every station when it comes to Run.
That a grant which answers no request has no effect, the order of a Kiln entry and of its reversal, and the 64 idle
cycles counted in gt are the model's choice, log entry 46; the speed after a wake and the strobe of every station after
Doze are log entry 53. -/
def Obligations.PowerEventsAct : Prop :=
  ∀ (s : State) (p : Power) (w : Nat → Power), p = s.block.power →
    (∀ n, w n = if p.lowering then { p with waking := true, lastWake := n, wakes := satAdd 32 p.wakes 1 }
      else { p with
        waking := true, lastWake := n, wakes := satAdd 32 p.wakes 1, goal := .run, brewReq := true
        clkReq := p.clkReq || (p.brewReq && p.brewGnt)
        lowAsked := if p.brewReq && p.brewGnt then p.lowAsked && p.clkReq else p.lowAsked }) →
    (s.block.gt < p.busyGt + s.block.cycles 64 → ∃ t, exec .powerStateChoose s = .next t ∧ t.block = s.block) ∧
    (s.block.running = true → s.block.busy = false → p.goal = .run → p.busyGt + s.block.cycles 64 ≤ s.block.gt →
      ∃ t, exec .powerStateChoose s = .next t ∧ t.block.seen [.power] = s.block.seen [.power] ∧
        (s.block.choose = 0 → t.block.power.st = .run ∧ t.block.power.goal = .run) ∧
        (s.block.choose = 1 → t.block.power.st = .doze ∧ t.block.power.goal = .doze) ∧
        (s.block.choose = 2 → t.block.power.goal = .nap ∧ t.block.power.clkReq = false ∧ t.block.power.st = .run) ∧
        (s.block.choose = 3 → t.block.power.goal = .kiln ∧ t.block.power.retReq = !p.retGnt ∧ t.block.power.st = .run) ∧
        (s.block.deepest = 0 → t.block.power.st = .run)) ∧
    (s.block.dozing = true → s.block.busy = false → p.busyGt + s.block.cycles 64 ≤ s.block.gt →
      ∃ t, exec .powerStateChoose s = .next t ∧ t.block.seen [.power] = s.block.seen [.power] ∧
        t.block.power.st = .doze ∧ (s.block.choose < 2 → t.block = s.block) ∧
        (s.block.choose = 2 → t.block.power.goal = .nap ∧ t.block.power.clkReq = false) ∧
        (s.block.choose = 3 → t.block.power.goal = .kiln ∧ t.block.power.retReq = !p.retGnt)) ∧
    (p.st = .doze → s.block.active = false → p.waking = false → p.goal ≠ .off →
      ∃ t, exec .activeUsExpiry s = .next t ∧ t.block = { s.block with power := w 4 }) ∧
    (∀ g, p.wakeTimer = some g → g ≤ s.block.gt → p.st ≠ .run → p.st ≠ .off → p.waking = false → p.goal ≠ .off →
      ∃ t, exec .wakeTimerExpiry s = .next t ∧ t.block = { s.block with power := { w 4 with wakeTimer := none } }) ∧
    (∀ (f : Fin 65) fl g, (s.block.tenant f).hold = some (fl, g) → g ≤ s.block.gt →
      ∃ t, exec (.powerHoldExpiry f) s = .next t ∧ t.block.seen [.tenants] = s.block.seen [.tenants] ∧
        ∀ k, t.block.tenant k = if k = f.val then { s.block.tenant k with hold := none } else s.block.tenant k) ∧
    (∀ a rest, p.st ≠ .off → p.waking = false → p.goal ≠ .off →
      ∃ t, exec (.wakeRequest (a :: rest)) s = .next t ∧
        (p.st ≠ .run → t.block = { s.block with power := w ((rest.map wakeNo).foldl min (wakeNo a)) }) ∧
        (p.st = .run → p.goal ≠ .run → p.clkReq = true → t.block = { s.block with power := { p with
          goal := .run, retReq := p.retReq && !p.retGnt, wakeTimer := none } }) ∧
        (p.st = .run → p.goal ≠ .run → p.clkReq = false → t.block = { s.block with
          power := w ((rest.map wakeNo).foldl min (wakeNo a)) })) ∧
    (p.waking = true → p.goal = .run →
      p.st = .doze ∨ ((p.st = .nap ∨ p.st = .kiln) ∧ p.brewGnt = true ∧ p.clkGnt = true ∧ s.block.time.locked = true) →
      s.block.held = [] → p.blkPend = false → s.block.meas.quotePend = false → s.block.time.regionAon = [] →
      (∀ n, n < 64 → (s.block.tenant n).rstWait = false) →
      ∃ t, exec .blockWake s = .next t ∧ t.block.power = { p with
          st := .run, goal := .run, waking := false, retReq := p.retReq && !p.retGnt, wakeTimer := none, lowAsked := false
          wakeGt := t.block.time.tb / 2 ^ 24, lossSeen := t.block.power.lossSeen, lossNow := t.block.power.lossNow } ∧
        t.block.time.tb = (if p.st ≠ .doze ∧ s.block.time.loadNext = true then s.block.time.aonGt * 2 ^ 24
          else s.block.time.tb) ∧
        t.block.time.strobeNum = s.block.time.strobeNum + 32) ∧
    (∀ level, p.st ≠ .off →
      (∃ t, exec (.powerGrant .ret level) s = .next t ∧ (p.retReq ≠ level → t.block = s.block) ∧
        (p.retReq = level → t.block = { s.block with power := { p with
          retGnt := level, clkReq := if level = true ∧ p.goal = .kiln then false else p.clkReq
          retReq := if p.goal = .kiln then (if level then p.retReq else p.retReq || !p.waking)
            else p.retReq && (p.retGnt || !level) } })) ∧
      (∃ t, exec (.powerGrant .brew level) s = .next t ∧ (p.brewReq ≠ level → t.block = s.block) ∧
        (p.brewReq = level → t.block.power.brewGnt = level ∧ (level = true → p.waking = true → t.block.power.clkReq = true) ∧
          (p.phase = 0 → p.st = .run → p.clkGnt = true → p.low = false → level = true → t.block.power.phase = 1))) ∧
      (∃ t, exec (.powerGrant .clk level) s = .next t ∧ (p.clkReq ≠ level → t.block = s.block) ∧
        (p.clkReq = level → t.block.power.clkGnt = level ∧
          (level = true → p.clkGnt = false → t.block.power.low = p.lowAsked)) ∧
        (p.clkReq = false → level = false → p.st = .run → p.goal = .kiln → p.waking = false → t.block.power.brewReq = false) ∧
        (p.clkReq = false → level = false → p.st = .run → p.goal = .nap → p.waking = false → t.block.power.st = .nap ∧
          t.block.power.brewReq = p.brewReq ∧ t.block.time.aonGt = s.block.gt ∧ t.block.time.locked = false ∧ t.block.time.loadNext = true))) ∧
    (p.phase = 0 → p.st = .run → p.brewGnt = true → p.clkGnt = true → p.low = true → p.lowAsked = false →
      ∃ t, exec .clockSpeedAck s = .next t ∧ t.block.power.phase = 1 ∧ t.block.power.low = false) ∧
    (p.st ≠ .off → p.low ≠ p.lowAsked → p.phase ≠ 0 → s.block.running = false ∨ s.block.sync.walkAgain = false →
      ∃ t, exec .clockSpeedAck s = .next t ∧ t.block = { s.block with
        power := { p with low := p.lowAsked }
        time := { s.block.time with
          rate := if p.lowAsked then s.block.time.rate * 4 else s.block.time.rate / 4 } })

/-- OFF_REQUEST, POWER_ON_RESET, BLOCK_RESET_REQUEST, QUIESCE_END and BLOCK_RESET_RELEASE (R178, R435, R443, R474, R476
to R478, R499, R502): Off and power-on lose everything but straps; a block reset takes every link Down, quiesces, keeps
what R476 lists, and advances every tenant's epoch. What taps, snapshot and links keep over a block reset is the model's
reading, log entry 52; that the operator's units are discarded at once and counted is its choice, log entry 92. -/
def Obligations.BlockResetsAct : Prop :=
  ∀ (s : State) (p : Power), p = s.block.power →
    (∃ t, exec (.offRequest false) s = .next t ∧ t.block = { s.block with power := { p with offGnt := false } }) ∧
    (∃ t, exec (.offRequest true) s = .next t ∧ (p.st = .off → t.block = s.block) ∧
      (p.st ≠ .off → p.goal ≠ .off → ((∃ c, c < 16 ∧ (s.block.chan c).flight ≠ []) ∨ s.block.sparge.orphans ≠ []) →
        t.block.power.goal = .off ∧ t.block.power.st = p.st ∧ t.block.power.offGnt = p.offGnt ∧
        t.block.power.waking = false ∧ ∀ k, k < 6 → (t.block.hopPort k).st = .down) ∧
      (p.st ≠ .off → (∀ e, e ∈ s.block.sparge.chans → e.2.flight = [] ∧ e.2.descRead = false ∧ e.2.idxRead = false) →
        (∀ h, h ∈ s.block.sparge.scrubs → h.flight = []) → s.block.sparge.orphans = [] → t.block.power = { st := .off, goal := .off, brewReq := false, clkReq := false, offGnt := true } ∧
        t.block.cask = {} ∧ t.block.mash = {} ∧ t.block.assay = {} ∧ t.block.sync = {} ∧ t.block.sparge = {} ∧
        t.block.meas = {} ∧ t.block.hop = { uid := s.block.hop.uid } ∧ t.block.stations = [] ∧ t.block.quads = [] ∧
        t.block.ctxs = [] ∧ t.block.ports = [] ∧ t.block.seen (touches (.offRequest true)) =
          s.block.seen (touches (.offRequest true)))) ∧
    (∀ (uid : BitVec 48) (addr : BitVec 64) (len : BitVec 19),
      ∃ t, exec (.powerOnReset uid addr len) s = .next t ∧
        t.block.power = { patchAddr := addr.toNat, patchLen := len.toNat } ∧ t.block.hop = { uid := uid.toNat } ∧
        t.block.cask = {} ∧ t.block.mash = {} ∧ t.block.assay = {} ∧ t.block.sync = {} ∧ t.block.sparge = {} ∧
        t.block.meas = {} ∧ t.block.stations = [] ∧ t.block.ctxs = [] ∧ t.block.ports = [] ∧
        t.block.absent = s.block.absent ∧ t.block.regionOf = s.block.regionOf ∧ t.block.out = s.block.out) ∧
    (p.st = .run → p.goal = .run ∨ (p.clkReq = true ∧ p.waking = false ∧ p.goal ≠ .off) → p.quiesce = false → p.blkAck = false →
      ∃ t, exec .blockResetRequest s = .next t ∧ t.block.power.quiesce = true ∧ t.block.power.blkPend = false ∧
        t.block.held = [] ∧ ∀ k, k < 6 → (t.block.hopPort k).st = .down) ∧
    (p.st ≠ .run ∨ (p.goal ≠ .run ∧ p.clkReq = false ∧ p.clkGnt = true) → p.st ≠ .off → p.goal ≠ .off → p.quiesce = false →
      p.blkAck = false →
      ∃ t, exec .blockResetRequest s = .next t ∧ t.block.power.blkPend = true ∧ t.block.power.waking = true ∧
        t.block.seen [.power] = s.block.seen [.power]) ∧
    (p.quiesce = true → (∀ e, e ∈ s.block.sparge.chans → e.2.flight = []) →
      (∀ h, h ∈ s.block.sparge.scrubs → h.flight = []) → s.block.sparge.orphans = [] →
      ∃ t, exec .quiesceEnd s = .next t ∧ t.block.power.quiesce = false ∧ t.block.power.blkAck = (p.brewGnt && p.clkGnt && !p.low) ∧
        t.block.power.st = .run ∧ t.block.power.phase = (if p.brewGnt && p.clkGnt && !p.low then 1 else 0) ∧
        t.block.cask.pages = fencedPages s.block.cask.fence ∧ t.block.cask.fence = s.block.cask.fence ∧
        (∀ l, t.block.station l = { uq := tenantUnits (s.block.lastUnits.station l).uq }) ∧
        t.block.recs = s.block.lastUnits.waitingRecs.filter (fun r => decide (r.owner < 64)) ∧
        t.block.cask.epochDiscard = s.block.lastUnits.operatorLost ∧
        (s.block.lastUnits.operatorLost ≠ 0 → bit t.block.power.lossSeen 6 = true) ∧ t.block.ctxs = [] ∧ t.block.ports = [] ∧
        t.block.meas.ring = s.block.abortImages.buildLog.meas.ring ∧
        t.block.meas.logDigest = s.block.abortImages.buildLog.meas.logDigest ∧
        t.block.meas.built = s.block.abortImages.buildLog.meas.built ∧ t.block.meas.lanes = [] ∧ t.block.meas.patchRam = s.block.meas.patchRam ∧
        (∀ n, n < 64 → (t.block.tenant n).epoch = ((s.block.tenant n).epoch + 1) % 256) ∧
        (t.block.tenant 64).epoch = (s.block.tenant 64).epoch ∧ t.block.time.tb = s.block.time.tb) ∧
    (∃ t, exec .blockResetRelease s = .next t ∧ t.block = { s.block with power := { p with blkAck := false } })

/-- BOOT_END, PATCH_FETCH_DONE, SELFTEST_END, CALIBRATE_END and START_READY (R46, R179, R298, R424, R453, R456, R480 to
R483): start-up goes from Boot to Ready; a quote request that waited is answered; the patch image is accepted or cleared
and measured; what fails the self-test is fenced, held or stops it. PATCH_FETCH_DONE with a patch length of 0, the
identifiers of the patch reads, and the rows that end the phases are the model's reading, log entry 53. -/
def Obligations.StartUpAdvances : Prop :=
  ∀ (s : State) (p : Power), p = s.block.power → p.quiesce = false →
    (p.phase = 1 → s.block.held = [] → s.block.meas.quotePend = false →
      ∃ t, exec .bootEnd s = .next t ∧ t.block.power = { p with phase := 2 } ∧ t.block.out =
        (if p.warm = true ∨ 262144 < p.patchLen then s.block.out
          else s.block.out ++ patchReads 2049 0 p.patchAddr p.patchLen)) ∧
    (p.phase = 1 → s.block.held = [] → s.block.meas.quotePend = true → s.block.meas.built ≠ 0 →
      ∃ t, exec .bootEnd s = .next t ∧ t.block.power = { p with phase := 2 } ∧ t.block.meas = { s.block.meas with
        quotePend := false, quoteAck := true, quoteDigest := s.block.meas.logDigest
        quoteSeq := (s.block.meas.built - 1) % 2 ^ 32 }) ∧
    (∀ image err img, p.phase = 2 → p.warm = false → img = padTo p.patchLen image →
      ∃ t, exec (.patchFetchDone image err) s = .next t ∧ t.block.meas.built = s.block.meas.built + 1 ∧
        t.block.power.phase = 3 ∧
        (p.patchLen = 0 → t.block.power.patchState = 0 ∧ t.block.meas.patchRam = []) ∧
        (0 < p.patchLen → p.patchLen ≤ 262144 → err = true → t.block.power.patchState = 3 ∧ t.block.meas.patchRam = []) ∧
        (0 < p.patchLen → p.patchLen ≤ 262144 → err = false → patchOk p.patchLen img = true →
          t.block.power.patchState = 1 ∧ t.block.meas.patchRam = img ∧ t.block.meas.patchDigest = sha384 img) ∧
        (262144 < p.patchLen ∨ (0 < p.patchLen ∧ err = false ∧ patchOk p.patchLen img = false) →
          t.block.power.patchState = 2 ∧ t.block.meas.patchRam = [])) ∧
    (∀ macros mash shadow store assay, p.phase = 3 → s.block.dead = false →
      ∃ t, exec (.selftestEnd macros mash shadow store assay) s = .next t ∧
        t.block.power.assayFailed = assay.toNat ∧ t.block.power.stMash = mash ∧ t.block.power.stShadow = shadow ∧
        t.block.power.stStore = store ∧ (∀ m, m ∈ macros → m.val ∈ t.block.cask.fence) ∧
        t.block.power.phase = (if mash || shadow || store then 3 else 4)) ∧
    (∀ trips, p.phase = 4 → tripsWf trips = true → s.block.time.locked = true → s.block.allTrips trips = true →
      ∃ t, exec (.calibrateEnd trips) s = .next t ∧ t.block.power.phase = 5 ∧ t.block.power.serveGt = s.block.gt ∧
        t.block.time.tcalDue = s.block.gt + ms s.block.time.tcalMs ∧
        (∀ k, k < 6 → (s.block.hopPort k).adminUp = true → (t.block.hopPort k).st = .training) ∧
        (∀ n rt, (n, rt) ∈ trips → s.block.present n = true → (s.block.tap n).drainAck = false →
          (t.block.view n).measured = true ∧ (t.block.view n).mirror = true)) ∧
    (p.phase = 5 → s.block.hop.disc = 6 ∨ (s.block.anyUp = false ∧ p.serveGt + ms 1 ≤ s.block.gt) →
      ∃ t, exec .startReady s = .next t ∧ t.block = { s.block with power := { p with phase := 6 } })

/-- IMAGE_BEGIN, IMAGE_END, WEIGHT_LOAD_BEAT, LOG_TAKE, QUOTE_REQUEST, QUOTE_RELEASE, IFR_REQUEST, IFR_RELEASE and
LOCK_STATE_CHANGE (R447 to R449, R451, R455, R456, R461, R462, R464, R501): an image opens on the lowest free lane and
closes with a status; its log entry is built at the end of the brew cycle; a beat is staged, dropped or counted as
orphan; the log, quotes and reports go to the controller. That MISMATCH is checked before INCOMPLETE and the count, and
orphan bytes, are the model's reading, log entry 28; that entries are built at the end of their cycle, the lower lane
first, is log entry 108. -/
def Obligations.MeasurementEventsAct : Prop :=
  ∀ (s : State) (n : Fin 2048) (x : Tap) (m : Meas), x = s.block.tap n → m = s.block.meas →
    (∀ pl ctx k, s.block.running = true → x.ctrlHead = some (pl, ctx, 0, 0) → payKind pl = 0 → s.block.laneOf n = none →
      k < 8 → s.block.lane k = none → (∀ j, j < k → s.block.lane j ≠ none) →
      ∃ t, exec (.imageBegin n) s = .next t ∧ (t.block.tap n).ctrl = x.ctrl.drop 1 ∧ t.block.lane k = some
        { tap := n.val, stage := fld pl 43 1, image := fld pl 32 11, tenant := s.block.ctxTenant ctx
          stagedGt := s.block.gt }) ∧
    (∀ pl ctx k y, s.block.running = true → x.ctrlHead = some (pl, ctx, 0, 0) → payKind pl = 1 →
      s.block.laneOf n = some (k, y) →
      ∃ t e, exec (.imageEnd n) s = .next t ∧ (t.block.tap n).ctrl = x.ctrl.drop 1 ∧ t.block.lane k = none ∧
        t.block.meas.closing = insClosing (k, e) m.closing ∧ t.block.meas.built = m.built ∧ t.block.meas.ring = m.ring ∧
        e.image = y.image ∧ e.stage = y.stage ∧ e.fw = false ∧ e.tap = y.tap ∧ e.tenant = y.tenant ∧ e.bytes = y.count ∧
        e.gt = s.block.gt ∧ e.epoch = s.block.alEpoch ∧ (e.status = 0 → e.digest = sha384 y.bytes) ∧
        e.status = (if fld pl 32 11 ≠ y.image ∨ fld pl 43 1 ≠ y.stage then 2 else if y.incomplete then 3
          else if fld pl 0 32 ≠ y.count then 1 else 0)) ∧
    (∀ cycles tbGt phase l e z, m.closing = [(l, e)] → z = s.block.logBytes e (decide (m.ring.length < 256) && m.gap) →
      (s.block.tenant 64).resetting = false →
      ∃ t, exec (.timeBusSample cycles tbGt phase) s = .next t ∧ t.block.meas.closing = [] ∧
        t.block.meas.built = m.built + 1 ∧ t.block.meas.logDigest = sha384 (m.logDigest ++ z) ∧
        bit (t.block.tenant 64).intStatus 17 = true ∧
        (m.ring.length < 256 → t.block.meas.ring = m.ring ++ [z]) ∧
        (256 ≤ m.ring.length → t.block.meas.ring = m.ring ∧ t.block.meas.overflow = satAdd 32 m.overflow 1 ∧
          t.block.meas.gap = true)) ∧
    (∀ e rest k, s.block.running = true → s.block.weightLoad n = true → x.ctrlHead = none → x.asy = e :: rest → e.skip = 0 →
      k = (if e.beat.bytes = 0 then 64 else e.beat.bytes.toNat) →
      ∃ t, exec (.weightLoadBeat n) s = .next t ∧ (t.block.tap n).asy = rest ∧
        (s.block.laneOf n = none → t.block.meas = { m with orphan := satAdd 32 m.orphan k }) ∧
        (∀ l y z, s.block.laneOf n = some (l, y) → z = y.drain s.block.gt → z.incomplete = false →
          (z.staged + k ≤ 32768 → t.block.lane l = some { z with
            staged := z.staged + k, count := z.count + k, bytes := z.bytes ++ padTo k e.beat.data }) ∧
          (32768 < z.staged + k → t.block.lane l = some { z with incomplete := true, count := z.count + k }))) ∧
    (∀ e rest, s.block.running = true → m.ring = e :: rest →
      ∃ t, exec .logTake s = .next t ∧ t.block = { s.block with
        meas := { m with ring := rest, taken := satAdd 32 m.taken 1 }, out := s.block.out ++ [.log e] }) ∧
    (m.quoteAck = false →
      (s.block.running = true → m.built ≠ 0 → ∃ t, exec .quoteRequest s = .next t ∧ t.block = { s.block with meas := { m with
        quotePend := false, quoteAck := true, quoteDigest := m.logDigest, quoteSeq := (m.built - 1) % 2 ^ 32 } }) ∧
      ((s.block.requestWake 7).running = false → s.block.power.st ≠ .off → ∃ t, exec .quoteRequest s = .next t ∧
        t.block.meas = { m with quotePend := true } ∧
        (s.block.power.st ≠ .run → s.block.power.goal ≠ .off → t.block.power.waking = true))) ∧
    (∃ t, exec .quoteRelease s = .next t ∧ t.block = { s.block with meas := { m with
      quoteAck := false, quotePend := false } }) ∧
    (∀ f : Fin 64, m.ifrAck = false → s.block.power.st ≠ .off → m.built ≠ 0 →
      ∃ t, exec (.ifrRequest f) s = .next t ∧ t.block = { s.block with meas := { m with
        ifrAck := true, ifrData := s.block.ifrReport f ((m.built - 1) % 2 ^ 32) } }) ∧
    (∃ t, exec .ifrRelease s = .next t ∧ t.block = { s.block with meas := { m with ifrAck := false } }) ∧
    (∀ v : BitVec 64, ∃ t, exec (.lockStateChange v) s = .next t ∧ t.block.seen [.tenants] = s.block.seen [.tenants] ∧
      ∀ k, t.block.tenant k = if k < 64 then { s.block.tenant k with locked := bit v k } else s.block.tenant k)
end

