-- ==== Sys2Proof/Laws/Tables.lean ====
section
/-! SUPPORT. The laws of the sparse tables: reading after writing, and the canonical form of the keys. -/

namespace Sys2Proof.Machine

variable {α : Type} {t : Tbl α} {d v : α} {n m lo : Nat}

@[simp] theorem tget_tput : tget d (tput t n v) n = v := by
  induction t with
  | nil => simp [tput, tget]
  | cons e t ih => grind [tput, tget]

theorem tget_tput_of_ne (h : m ≠ n) : tget d (tput t n v) m = tget d t m := by
  induction t with
  | nil => simp [tput, tget, h]
  | cons e t ih => grind [tput, tget]

@[simp] theorem tget_tdel : tget d (tdel t n) n = d := by
  induction t with
  | nil => rfl
  | cons e t ih => grind [tdel, tget]

theorem tget_tdel_of_ne (h : m ≠ n) : tget d (tdel t n) m = tget d t m := by
  induction t with
  | nil => rfl
  | cons e t ih => grind [tdel, tget]

variable [DecidableEq α]

@[simp] theorem tget_tset : tget d (tset d t n v) n = v := by
  unfold tset; split <;> simp [*]

theorem tget_tset_of_ne {e : α} (h : m ≠ n) : tget d (tset e t n v) m = tget d t m := by
  unfold tset; split <;> simp [tget_tdel_of_ne h, tget_tput_of_ne h]

@[simp] theorem tget_tmod {f : α → α} : tget d (tmod d t n f) n = f (tget d t n) := by simp [tmod]

theorem tget_tmod_of_ne {e : α} {f : α → α} (h : m ≠ n) : tget d (tmod e t n f) m = tget d t m := by
  simp [tmod, tget_tset_of_ne h]

end Sys2Proof.Machine
end

