-- ==== Sys2Proof/Laws/State.lean ====
section
/-! SUPPORT. What each update of a part of the block leaves alone, and what it does to the part (one lemma per field per
update). -/

namespace Sys2Proof.Machine

variable {b : Block} {n : Nat}

@[simp] theorem State.run_eq (s : State) (f : Block → Block) : s.run f = .next { s with block := f s.block } := rfl

/-! ### modTap -/

@[simp] theorem Block.modTap_views {f : Tap → Tap} : (b.modTap n f).views = b.views := rfl
@[simp] theorem Block.modTap_stations {f : Tap → Tap} : (b.modTap n f).stations = b.stations := rfl
@[simp] theorem Block.modTap_quads {f : Tap → Tap} : (b.modTap n f).quads = b.quads := rfl
@[simp] theorem Block.modTap_ctxs {f : Tap → Tap} : (b.modTap n f).ctxs = b.ctxs := rfl
@[simp] theorem Block.modTap_cask {f : Tap → Tap} : (b.modTap n f).cask = b.cask := rfl
@[simp] theorem Block.modTap_mash {f : Tap → Tap} : (b.modTap n f).mash = b.mash := rfl
@[simp] theorem Block.modTap_assay {f : Tap → Tap} : (b.modTap n f).assay = b.assay := rfl
@[simp] theorem Block.modTap_sync {f : Tap → Tap} : (b.modTap n f).sync = b.sync := rfl
@[simp] theorem Block.modTap_freezes {f : Tap → Tap} : (b.modTap n f).freezes = b.freezes := rfl
@[simp] theorem Block.modTap_freezeNext {f : Tap → Tap} : (b.modTap n f).freezeNext = b.freezeNext := rfl
@[simp] theorem Block.modTap_freezeLimitUs {f : Tap → Tap} : (b.modTap n f).freezeLimitUs = b.freezeLimitUs := rfl
@[simp] theorem Block.modTap_ports {f : Tap → Tap} : (b.modTap n f).ports = b.ports := rfl
@[simp] theorem Block.modTap_tenants {f : Tap → Tap} : (b.modTap n f).tenants = b.tenants := rfl
@[simp] theorem Block.modTap_sparge {f : Tap → Tap} : (b.modTap n f).sparge = b.sparge := rfl
@[simp] theorem Block.modTap_hop {f : Tap → Tap} : (b.modTap n f).hop = b.hop := rfl
@[simp] theorem Block.modTap_meas {f : Tap → Tap} : (b.modTap n f).meas = b.meas := rfl
@[simp] theorem Block.modTap_power {f : Tap → Tap} : (b.modTap n f).power = b.power := rfl
@[simp] theorem Block.modTap_time {f : Tap → Tap} : (b.modTap n f).time = b.time := rfl
@[simp] theorem Block.modTap_recs {f : Tap → Tap} : (b.modTap n f).recs = b.recs := rfl
@[simp] theorem Block.modTap_held {f : Tap → Tap} : (b.modTap n f).held = b.held := rfl
@[simp] theorem Block.modTap_lo {f : Tap → Tap} : (b.modTap n f).lo = b.lo := rfl
@[simp] theorem Block.modTap_absent {f : Tap → Tap} : (b.modTap n f).absent = b.absent := rfl
@[simp] theorem Block.modTap_regionOf {f : Tap → Tap} : (b.modTap n f).regionOf = b.regionOf := rfl
@[simp] theorem Block.modTap_out {f : Tap → Tap} : (b.modTap n f).out = b.out := rfl
@[simp] theorem Block.modTap_freeCtr {f : Tap → Tap} : (b.modTap n f).freeCtr = b.freeCtr := rfl
@[simp] theorem Block.tap_modTap {f : Tap → Tap} : (b.modTap n f).tap n = f (b.tap n) := by
  simp [Block.tap, Block.modTap]
theorem Block.tap_modTap_of_ne {f : Tap → Tap} {m : Nat} (h : m ≠ n) : (b.modTap n f).tap m = b.tap m := by
  simp [Block.tap, Block.modTap, tget_tmod_of_ne h]

/-! ### modView -/

@[simp] theorem Block.modView_taps {f : TapView → TapView} : (b.modView n f).taps = b.taps := rfl
@[simp] theorem Block.modView_stations {f : TapView → TapView} : (b.modView n f).stations = b.stations := rfl
@[simp] theorem Block.modView_quads {f : TapView → TapView} : (b.modView n f).quads = b.quads := rfl
@[simp] theorem Block.modView_ctxs {f : TapView → TapView} : (b.modView n f).ctxs = b.ctxs := rfl
@[simp] theorem Block.modView_cask {f : TapView → TapView} : (b.modView n f).cask = b.cask := rfl
@[simp] theorem Block.modView_mash {f : TapView → TapView} : (b.modView n f).mash = b.mash := rfl
@[simp] theorem Block.modView_assay {f : TapView → TapView} : (b.modView n f).assay = b.assay := rfl
@[simp] theorem Block.modView_sync {f : TapView → TapView} : (b.modView n f).sync = b.sync := rfl
@[simp] theorem Block.modView_freezes {f : TapView → TapView} : (b.modView n f).freezes = b.freezes := rfl
@[simp] theorem Block.modView_freezeNext {f : TapView → TapView} : (b.modView n f).freezeNext = b.freezeNext := rfl
@[simp] theorem Block.modView_freezeLimitUs {f : TapView → TapView} : (b.modView n f).freezeLimitUs = b.freezeLimitUs := rfl
@[simp] theorem Block.modView_ports {f : TapView → TapView} : (b.modView n f).ports = b.ports := rfl
@[simp] theorem Block.modView_tenants {f : TapView → TapView} : (b.modView n f).tenants = b.tenants := rfl
@[simp] theorem Block.modView_sparge {f : TapView → TapView} : (b.modView n f).sparge = b.sparge := rfl
@[simp] theorem Block.modView_hop {f : TapView → TapView} : (b.modView n f).hop = b.hop := rfl
@[simp] theorem Block.modView_meas {f : TapView → TapView} : (b.modView n f).meas = b.meas := rfl
@[simp] theorem Block.modView_power {f : TapView → TapView} : (b.modView n f).power = b.power := rfl
@[simp] theorem Block.modView_time {f : TapView → TapView} : (b.modView n f).time = b.time := rfl
@[simp] theorem Block.modView_recs {f : TapView → TapView} : (b.modView n f).recs = b.recs := rfl
@[simp] theorem Block.modView_held {f : TapView → TapView} : (b.modView n f).held = b.held := rfl
@[simp] theorem Block.modView_lo {f : TapView → TapView} : (b.modView n f).lo = b.lo := rfl
@[simp] theorem Block.modView_absent {f : TapView → TapView} : (b.modView n f).absent = b.absent := rfl
@[simp] theorem Block.modView_regionOf {f : TapView → TapView} : (b.modView n f).regionOf = b.regionOf := rfl
@[simp] theorem Block.modView_out {f : TapView → TapView} : (b.modView n f).out = b.out := rfl
@[simp] theorem Block.modView_freeCtr {f : TapView → TapView} : (b.modView n f).freeCtr = b.freeCtr := rfl
@[simp] theorem Block.view_modView {f : TapView → TapView} : (b.modView n f).view n = f (b.view n) := by
  simp [Block.view, Block.modView]
theorem Block.view_modView_of_ne {f : TapView → TapView} {m : Nat} (h : m ≠ n) : (b.modView n f).view m = b.view m := by
  simp [Block.view, Block.modView, tget_tmod_of_ne h]

/-! ### modStation -/

@[simp] theorem Block.modStation_taps {f : Station → Station} : (b.modStation n f).taps = b.taps := rfl
@[simp] theorem Block.modStation_views {f : Station → Station} : (b.modStation n f).views = b.views := rfl
@[simp] theorem Block.modStation_quads {f : Station → Station} : (b.modStation n f).quads = b.quads := rfl
@[simp] theorem Block.modStation_ctxs {f : Station → Station} : (b.modStation n f).ctxs = b.ctxs := rfl
@[simp] theorem Block.modStation_cask {f : Station → Station} : (b.modStation n f).cask = b.cask := rfl
@[simp] theorem Block.modStation_mash {f : Station → Station} : (b.modStation n f).mash = b.mash := rfl
@[simp] theorem Block.modStation_assay {f : Station → Station} : (b.modStation n f).assay = b.assay := rfl
@[simp] theorem Block.modStation_sync {f : Station → Station} : (b.modStation n f).sync = b.sync := rfl
@[simp] theorem Block.modStation_freezes {f : Station → Station} : (b.modStation n f).freezes = b.freezes := rfl
@[simp] theorem Block.modStation_freezeNext {f : Station → Station} : (b.modStation n f).freezeNext = b.freezeNext := rfl
@[simp] theorem Block.modStation_freezeLimitUs {f : Station → Station} : (b.modStation n f).freezeLimitUs = b.freezeLimitUs := rfl
@[simp] theorem Block.modStation_ports {f : Station → Station} : (b.modStation n f).ports = b.ports := rfl
@[simp] theorem Block.modStation_tenants {f : Station → Station} : (b.modStation n f).tenants = b.tenants := rfl
@[simp] theorem Block.modStation_sparge {f : Station → Station} : (b.modStation n f).sparge = b.sparge := rfl
@[simp] theorem Block.modStation_hop {f : Station → Station} : (b.modStation n f).hop = b.hop := rfl
@[simp] theorem Block.modStation_meas {f : Station → Station} : (b.modStation n f).meas = b.meas := rfl
@[simp] theorem Block.modStation_power {f : Station → Station} : (b.modStation n f).power = b.power := rfl
@[simp] theorem Block.modStation_time {f : Station → Station} : (b.modStation n f).time = b.time := rfl
@[simp] theorem Block.modStation_recs {f : Station → Station} : (b.modStation n f).recs = b.recs := rfl
@[simp] theorem Block.modStation_held {f : Station → Station} : (b.modStation n f).held = b.held := rfl
@[simp] theorem Block.modStation_lo {f : Station → Station} : (b.modStation n f).lo = b.lo := rfl
@[simp] theorem Block.modStation_absent {f : Station → Station} : (b.modStation n f).absent = b.absent := rfl
@[simp] theorem Block.modStation_regionOf {f : Station → Station} : (b.modStation n f).regionOf = b.regionOf := rfl
@[simp] theorem Block.modStation_out {f : Station → Station} : (b.modStation n f).out = b.out := rfl
@[simp] theorem Block.modStation_freeCtr {f : Station → Station} : (b.modStation n f).freeCtr = b.freeCtr := rfl
@[simp] theorem Block.station_modStation {f : Station → Station} : (b.modStation n f).station n = f (b.station n) := by
  simp [Block.station, Block.modStation]
theorem Block.station_modStation_of_ne {f : Station → Station} {m : Nat} (h : m ≠ n) : (b.modStation n f).station m = b.station m := by
  simp [Block.station, Block.modStation, tget_tmod_of_ne h]

/-! ### modQuad -/

@[simp] theorem Block.modQuad_taps {f : Quadrant → Quadrant} : (b.modQuad n f).taps = b.taps := rfl
@[simp] theorem Block.modQuad_views {f : Quadrant → Quadrant} : (b.modQuad n f).views = b.views := rfl
@[simp] theorem Block.modQuad_stations {f : Quadrant → Quadrant} : (b.modQuad n f).stations = b.stations := rfl
@[simp] theorem Block.modQuad_ctxs {f : Quadrant → Quadrant} : (b.modQuad n f).ctxs = b.ctxs := rfl
@[simp] theorem Block.modQuad_cask {f : Quadrant → Quadrant} : (b.modQuad n f).cask = b.cask := rfl
@[simp] theorem Block.modQuad_mash {f : Quadrant → Quadrant} : (b.modQuad n f).mash = b.mash := rfl
@[simp] theorem Block.modQuad_assay {f : Quadrant → Quadrant} : (b.modQuad n f).assay = b.assay := rfl
@[simp] theorem Block.modQuad_sync {f : Quadrant → Quadrant} : (b.modQuad n f).sync = b.sync := rfl
@[simp] theorem Block.modQuad_freezes {f : Quadrant → Quadrant} : (b.modQuad n f).freezes = b.freezes := rfl
@[simp] theorem Block.modQuad_freezeNext {f : Quadrant → Quadrant} : (b.modQuad n f).freezeNext = b.freezeNext := rfl
@[simp] theorem Block.modQuad_freezeLimitUs {f : Quadrant → Quadrant} : (b.modQuad n f).freezeLimitUs = b.freezeLimitUs := rfl
@[simp] theorem Block.modQuad_ports {f : Quadrant → Quadrant} : (b.modQuad n f).ports = b.ports := rfl
@[simp] theorem Block.modQuad_tenants {f : Quadrant → Quadrant} : (b.modQuad n f).tenants = b.tenants := rfl
@[simp] theorem Block.modQuad_sparge {f : Quadrant → Quadrant} : (b.modQuad n f).sparge = b.sparge := rfl
@[simp] theorem Block.modQuad_hop {f : Quadrant → Quadrant} : (b.modQuad n f).hop = b.hop := rfl
@[simp] theorem Block.modQuad_meas {f : Quadrant → Quadrant} : (b.modQuad n f).meas = b.meas := rfl
@[simp] theorem Block.modQuad_power {f : Quadrant → Quadrant} : (b.modQuad n f).power = b.power := rfl
@[simp] theorem Block.modQuad_time {f : Quadrant → Quadrant} : (b.modQuad n f).time = b.time := rfl
@[simp] theorem Block.modQuad_recs {f : Quadrant → Quadrant} : (b.modQuad n f).recs = b.recs := rfl
@[simp] theorem Block.modQuad_held {f : Quadrant → Quadrant} : (b.modQuad n f).held = b.held := rfl
@[simp] theorem Block.modQuad_lo {f : Quadrant → Quadrant} : (b.modQuad n f).lo = b.lo := rfl
@[simp] theorem Block.modQuad_absent {f : Quadrant → Quadrant} : (b.modQuad n f).absent = b.absent := rfl
@[simp] theorem Block.modQuad_regionOf {f : Quadrant → Quadrant} : (b.modQuad n f).regionOf = b.regionOf := rfl
@[simp] theorem Block.modQuad_out {f : Quadrant → Quadrant} : (b.modQuad n f).out = b.out := rfl
@[simp] theorem Block.modQuad_freeCtr {f : Quadrant → Quadrant} : (b.modQuad n f).freeCtr = b.freeCtr := rfl
@[simp] theorem Block.quad_modQuad {f : Quadrant → Quadrant} : (b.modQuad n f).quad n = f (b.quad n) := by
  simp [Block.quad, Block.modQuad]
theorem Block.quad_modQuad_of_ne {f : Quadrant → Quadrant} {m : Nat} (h : m ≠ n) : (b.modQuad n f).quad m = b.quad m := by
  simp [Block.quad, Block.modQuad, tget_tmod_of_ne h]

/-! ### modTenant -/

@[simp] theorem Block.modTenant_taps {f : Tenant → Tenant} : (b.modTenant n f).taps = b.taps := rfl
@[simp] theorem Block.modTenant_views {f : Tenant → Tenant} : (b.modTenant n f).views = b.views := rfl
@[simp] theorem Block.modTenant_stations {f : Tenant → Tenant} : (b.modTenant n f).stations = b.stations := rfl
@[simp] theorem Block.modTenant_quads {f : Tenant → Tenant} : (b.modTenant n f).quads = b.quads := rfl
@[simp] theorem Block.modTenant_ctxs {f : Tenant → Tenant} : (b.modTenant n f).ctxs = b.ctxs := rfl
@[simp] theorem Block.modTenant_cask {f : Tenant → Tenant} : (b.modTenant n f).cask = b.cask := rfl
@[simp] theorem Block.modTenant_mash {f : Tenant → Tenant} : (b.modTenant n f).mash = b.mash := rfl
@[simp] theorem Block.modTenant_assay {f : Tenant → Tenant} : (b.modTenant n f).assay = b.assay := rfl
@[simp] theorem Block.modTenant_sync {f : Tenant → Tenant} : (b.modTenant n f).sync = b.sync := rfl
@[simp] theorem Block.modTenant_freezes {f : Tenant → Tenant} : (b.modTenant n f).freezes = b.freezes := rfl
@[simp] theorem Block.modTenant_freezeNext {f : Tenant → Tenant} : (b.modTenant n f).freezeNext = b.freezeNext := rfl
@[simp] theorem Block.modTenant_freezeLimitUs {f : Tenant → Tenant} : (b.modTenant n f).freezeLimitUs = b.freezeLimitUs := rfl
@[simp] theorem Block.modTenant_ports {f : Tenant → Tenant} : (b.modTenant n f).ports = b.ports := rfl
@[simp] theorem Block.modTenant_sparge {f : Tenant → Tenant} : (b.modTenant n f).sparge = b.sparge := rfl
@[simp] theorem Block.modTenant_hop {f : Tenant → Tenant} : (b.modTenant n f).hop = b.hop := rfl
@[simp] theorem Block.modTenant_meas {f : Tenant → Tenant} : (b.modTenant n f).meas = b.meas := rfl
@[simp] theorem Block.modTenant_power {f : Tenant → Tenant} : (b.modTenant n f).power = b.power := rfl
@[simp] theorem Block.modTenant_time {f : Tenant → Tenant} : (b.modTenant n f).time = b.time := rfl
@[simp] theorem Block.modTenant_recs {f : Tenant → Tenant} : (b.modTenant n f).recs = b.recs := rfl
@[simp] theorem Block.modTenant_held {f : Tenant → Tenant} : (b.modTenant n f).held = b.held := rfl
@[simp] theorem Block.modTenant_lo {f : Tenant → Tenant} : (b.modTenant n f).lo = b.lo := rfl
@[simp] theorem Block.modTenant_absent {f : Tenant → Tenant} : (b.modTenant n f).absent = b.absent := rfl
@[simp] theorem Block.modTenant_regionOf {f : Tenant → Tenant} : (b.modTenant n f).regionOf = b.regionOf := rfl
@[simp] theorem Block.modTenant_out {f : Tenant → Tenant} : (b.modTenant n f).out = b.out := rfl
@[simp] theorem Block.modTenant_freeCtr {f : Tenant → Tenant} : (b.modTenant n f).freeCtr = b.freeCtr := rfl
@[simp] theorem Block.tenant_modTenant {f : Tenant → Tenant} : (b.modTenant n f).tenant n = f (b.tenant n) := by
  simp [Block.tenant, Block.modTenant]
theorem Block.tenant_modTenant_of_ne {f : Tenant → Tenant} {m : Nat} (h : m ≠ n) : (b.modTenant n f).tenant m = b.tenant m := by
  simp [Block.tenant, Block.modTenant, tget_tmod_of_ne h]

/-! ### modPort -/

@[simp] theorem Block.modPort_taps {f : Port → Port} : (b.modPort n f).taps = b.taps := rfl
@[simp] theorem Block.modPort_views {f : Port → Port} : (b.modPort n f).views = b.views := rfl
@[simp] theorem Block.modPort_stations {f : Port → Port} : (b.modPort n f).stations = b.stations := rfl
@[simp] theorem Block.modPort_quads {f : Port → Port} : (b.modPort n f).quads = b.quads := rfl
@[simp] theorem Block.modPort_ctxs {f : Port → Port} : (b.modPort n f).ctxs = b.ctxs := rfl
@[simp] theorem Block.modPort_cask {f : Port → Port} : (b.modPort n f).cask = b.cask := rfl
@[simp] theorem Block.modPort_mash {f : Port → Port} : (b.modPort n f).mash = b.mash := rfl
@[simp] theorem Block.modPort_assay {f : Port → Port} : (b.modPort n f).assay = b.assay := rfl
@[simp] theorem Block.modPort_sync {f : Port → Port} : (b.modPort n f).sync = b.sync := rfl
@[simp] theorem Block.modPort_freezes {f : Port → Port} : (b.modPort n f).freezes = b.freezes := rfl
@[simp] theorem Block.modPort_freezeNext {f : Port → Port} : (b.modPort n f).freezeNext = b.freezeNext := rfl
@[simp] theorem Block.modPort_freezeLimitUs {f : Port → Port} : (b.modPort n f).freezeLimitUs = b.freezeLimitUs := rfl
@[simp] theorem Block.modPort_tenants {f : Port → Port} : (b.modPort n f).tenants = b.tenants := rfl
@[simp] theorem Block.modPort_sparge {f : Port → Port} : (b.modPort n f).sparge = b.sparge := rfl
@[simp] theorem Block.modPort_hop {f : Port → Port} : (b.modPort n f).hop = b.hop := rfl
@[simp] theorem Block.modPort_meas {f : Port → Port} : (b.modPort n f).meas = b.meas := rfl
@[simp] theorem Block.modPort_power {f : Port → Port} : (b.modPort n f).power = b.power := rfl
@[simp] theorem Block.modPort_time {f : Port → Port} : (b.modPort n f).time = b.time := rfl
@[simp] theorem Block.modPort_recs {f : Port → Port} : (b.modPort n f).recs = b.recs := rfl
@[simp] theorem Block.modPort_held {f : Port → Port} : (b.modPort n f).held = b.held := rfl
@[simp] theorem Block.modPort_lo {f : Port → Port} : (b.modPort n f).lo = b.lo := rfl
@[simp] theorem Block.modPort_absent {f : Port → Port} : (b.modPort n f).absent = b.absent := rfl
@[simp] theorem Block.modPort_regionOf {f : Port → Port} : (b.modPort n f).regionOf = b.regionOf := rfl
@[simp] theorem Block.modPort_out {f : Port → Port} : (b.modPort n f).out = b.out := rfl
@[simp] theorem Block.modPort_freeCtr {f : Port → Port} : (b.modPort n f).freeCtr = b.freeCtr := rfl
@[simp] theorem Block.port_modPort {f : Port → Port} : (b.modPort n f).port n = f (b.port n) := by
  simp [Block.port, Block.modPort]
theorem Block.port_modPort_of_ne {f : Port → Port} {m : Nat} (h : m ≠ n) : (b.modPort n f).port m = b.port m := by
  simp [Block.port, Block.modPort, tget_tmod_of_ne h]

/-! ### modFreeze -/

@[simp] theorem Block.modFreeze_taps {f : Freeze → Freeze} : (b.modFreeze n f).taps = b.taps := rfl
@[simp] theorem Block.modFreeze_views {f : Freeze → Freeze} : (b.modFreeze n f).views = b.views := rfl
@[simp] theorem Block.modFreeze_stations {f : Freeze → Freeze} : (b.modFreeze n f).stations = b.stations := rfl
@[simp] theorem Block.modFreeze_quads {f : Freeze → Freeze} : (b.modFreeze n f).quads = b.quads := rfl
@[simp] theorem Block.modFreeze_ctxs {f : Freeze → Freeze} : (b.modFreeze n f).ctxs = b.ctxs := rfl
@[simp] theorem Block.modFreeze_cask {f : Freeze → Freeze} : (b.modFreeze n f).cask = b.cask := rfl
@[simp] theorem Block.modFreeze_mash {f : Freeze → Freeze} : (b.modFreeze n f).mash = b.mash := rfl
@[simp] theorem Block.modFreeze_assay {f : Freeze → Freeze} : (b.modFreeze n f).assay = b.assay := rfl
@[simp] theorem Block.modFreeze_sync {f : Freeze → Freeze} : (b.modFreeze n f).sync = b.sync := rfl
@[simp] theorem Block.modFreeze_freezeNext {f : Freeze → Freeze} : (b.modFreeze n f).freezeNext = b.freezeNext := rfl
@[simp] theorem Block.modFreeze_freezeLimitUs {f : Freeze → Freeze} : (b.modFreeze n f).freezeLimitUs = b.freezeLimitUs := rfl
@[simp] theorem Block.modFreeze_ports {f : Freeze → Freeze} : (b.modFreeze n f).ports = b.ports := rfl
@[simp] theorem Block.modFreeze_tenants {f : Freeze → Freeze} : (b.modFreeze n f).tenants = b.tenants := rfl
@[simp] theorem Block.modFreeze_sparge {f : Freeze → Freeze} : (b.modFreeze n f).sparge = b.sparge := rfl
@[simp] theorem Block.modFreeze_hop {f : Freeze → Freeze} : (b.modFreeze n f).hop = b.hop := rfl
@[simp] theorem Block.modFreeze_meas {f : Freeze → Freeze} : (b.modFreeze n f).meas = b.meas := rfl
@[simp] theorem Block.modFreeze_power {f : Freeze → Freeze} : (b.modFreeze n f).power = b.power := rfl
@[simp] theorem Block.modFreeze_time {f : Freeze → Freeze} : (b.modFreeze n f).time = b.time := rfl
@[simp] theorem Block.modFreeze_recs {f : Freeze → Freeze} : (b.modFreeze n f).recs = b.recs := rfl
@[simp] theorem Block.modFreeze_held {f : Freeze → Freeze} : (b.modFreeze n f).held = b.held := rfl
@[simp] theorem Block.modFreeze_lo {f : Freeze → Freeze} : (b.modFreeze n f).lo = b.lo := rfl
@[simp] theorem Block.modFreeze_absent {f : Freeze → Freeze} : (b.modFreeze n f).absent = b.absent := rfl
@[simp] theorem Block.modFreeze_regionOf {f : Freeze → Freeze} : (b.modFreeze n f).regionOf = b.regionOf := rfl
@[simp] theorem Block.modFreeze_out {f : Freeze → Freeze} : (b.modFreeze n f).out = b.out := rfl
@[simp] theorem Block.modFreeze_freeCtr {f : Freeze → Freeze} : (b.modFreeze n f).freeCtr = b.freeCtr := rfl
@[simp] theorem Block.freezeSlot_modFreeze {f : Freeze → Freeze} : (b.modFreeze n f).freezeSlot n = f (b.freezeSlot n) := by
  simp [Block.freezeSlot, Block.modFreeze]
theorem Block.freezeSlot_modFreeze_of_ne {f : Freeze → Freeze} {m : Nat} (h : m ≠ n) : (b.modFreeze n f).freezeSlot m = b.freezeSlot m := by
  simp [Block.freezeSlot, Block.modFreeze, tget_tmod_of_ne h]

/-! ### modPage -/

@[simp] theorem Block.modPage_taps {f : Page → Page} : (b.modPage n f).taps = b.taps := rfl
@[simp] theorem Block.modPage_views {f : Page → Page} : (b.modPage n f).views = b.views := rfl
@[simp] theorem Block.modPage_stations {f : Page → Page} : (b.modPage n f).stations = b.stations := rfl
@[simp] theorem Block.modPage_quads {f : Page → Page} : (b.modPage n f).quads = b.quads := rfl
@[simp] theorem Block.modPage_ctxs {f : Page → Page} : (b.modPage n f).ctxs = b.ctxs := rfl
@[simp] theorem Block.modPage_mash {f : Page → Page} : (b.modPage n f).mash = b.mash := rfl
@[simp] theorem Block.modPage_assay {f : Page → Page} : (b.modPage n f).assay = b.assay := rfl
@[simp] theorem Block.modPage_sync {f : Page → Page} : (b.modPage n f).sync = b.sync := rfl
@[simp] theorem Block.modPage_freezes {f : Page → Page} : (b.modPage n f).freezes = b.freezes := rfl
@[simp] theorem Block.modPage_freezeNext {f : Page → Page} : (b.modPage n f).freezeNext = b.freezeNext := rfl
@[simp] theorem Block.modPage_freezeLimitUs {f : Page → Page} : (b.modPage n f).freezeLimitUs = b.freezeLimitUs := rfl
@[simp] theorem Block.modPage_ports {f : Page → Page} : (b.modPage n f).ports = b.ports := rfl
@[simp] theorem Block.modPage_tenants {f : Page → Page} : (b.modPage n f).tenants = b.tenants := rfl
@[simp] theorem Block.modPage_sparge {f : Page → Page} : (b.modPage n f).sparge = b.sparge := rfl
@[simp] theorem Block.modPage_hop {f : Page → Page} : (b.modPage n f).hop = b.hop := rfl
@[simp] theorem Block.modPage_meas {f : Page → Page} : (b.modPage n f).meas = b.meas := rfl
@[simp] theorem Block.modPage_power {f : Page → Page} : (b.modPage n f).power = b.power := rfl
@[simp] theorem Block.modPage_time {f : Page → Page} : (b.modPage n f).time = b.time := rfl
@[simp] theorem Block.modPage_recs {f : Page → Page} : (b.modPage n f).recs = b.recs := rfl
@[simp] theorem Block.modPage_held {f : Page → Page} : (b.modPage n f).held = b.held := rfl
@[simp] theorem Block.modPage_lo {f : Page → Page} : (b.modPage n f).lo = b.lo := rfl
@[simp] theorem Block.modPage_absent {f : Page → Page} : (b.modPage n f).absent = b.absent := rfl
@[simp] theorem Block.modPage_regionOf {f : Page → Page} : (b.modPage n f).regionOf = b.regionOf := rfl
@[simp] theorem Block.modPage_out {f : Page → Page} : (b.modPage n f).out = b.out := rfl
@[simp] theorem Block.modPage_freeCtr {f : Page → Page} : (b.modPage n f).freeCtr = b.freeCtr := rfl
@[simp] theorem Block.page_modPage {f : Page → Page} : (b.modPage n f).page n = f (b.page n) := by
  simp [Block.page, Block.modPage]
theorem Block.page_modPage_of_ne {f : Page → Page} {m : Nat} (h : m ≠ n) : (b.modPage n f).page m = b.page m := by
  simp [Block.page, Block.modPage, tget_tmod_of_ne h]

/-! ### modChan -/

@[simp] theorem Block.modChan_taps {f : Channel → Channel} : (b.modChan n f).taps = b.taps := rfl
@[simp] theorem Block.modChan_views {f : Channel → Channel} : (b.modChan n f).views = b.views := rfl
@[simp] theorem Block.modChan_stations {f : Channel → Channel} : (b.modChan n f).stations = b.stations := rfl
@[simp] theorem Block.modChan_quads {f : Channel → Channel} : (b.modChan n f).quads = b.quads := rfl
@[simp] theorem Block.modChan_ctxs {f : Channel → Channel} : (b.modChan n f).ctxs = b.ctxs := rfl
@[simp] theorem Block.modChan_cask {f : Channel → Channel} : (b.modChan n f).cask = b.cask := rfl
@[simp] theorem Block.modChan_mash {f : Channel → Channel} : (b.modChan n f).mash = b.mash := rfl
@[simp] theorem Block.modChan_assay {f : Channel → Channel} : (b.modChan n f).assay = b.assay := rfl
@[simp] theorem Block.modChan_sync {f : Channel → Channel} : (b.modChan n f).sync = b.sync := rfl
@[simp] theorem Block.modChan_freezes {f : Channel → Channel} : (b.modChan n f).freezes = b.freezes := rfl
@[simp] theorem Block.modChan_freezeNext {f : Channel → Channel} : (b.modChan n f).freezeNext = b.freezeNext := rfl
@[simp] theorem Block.modChan_freezeLimitUs {f : Channel → Channel} : (b.modChan n f).freezeLimitUs = b.freezeLimitUs := rfl
@[simp] theorem Block.modChan_ports {f : Channel → Channel} : (b.modChan n f).ports = b.ports := rfl
@[simp] theorem Block.modChan_tenants {f : Channel → Channel} : (b.modChan n f).tenants = b.tenants := rfl
@[simp] theorem Block.modChan_hop {f : Channel → Channel} : (b.modChan n f).hop = b.hop := rfl
@[simp] theorem Block.modChan_meas {f : Channel → Channel} : (b.modChan n f).meas = b.meas := rfl
@[simp] theorem Block.modChan_power {f : Channel → Channel} : (b.modChan n f).power = b.power := rfl
@[simp] theorem Block.modChan_time {f : Channel → Channel} : (b.modChan n f).time = b.time := rfl
@[simp] theorem Block.modChan_recs {f : Channel → Channel} : (b.modChan n f).recs = b.recs := rfl
@[simp] theorem Block.modChan_held {f : Channel → Channel} : (b.modChan n f).held = b.held := rfl
@[simp] theorem Block.modChan_lo {f : Channel → Channel} : (b.modChan n f).lo = b.lo := rfl
@[simp] theorem Block.modChan_absent {f : Channel → Channel} : (b.modChan n f).absent = b.absent := rfl
@[simp] theorem Block.modChan_regionOf {f : Channel → Channel} : (b.modChan n f).regionOf = b.regionOf := rfl
@[simp] theorem Block.modChan_out {f : Channel → Channel} : (b.modChan n f).out = b.out := rfl
@[simp] theorem Block.modChan_freeCtr {f : Channel → Channel} : (b.modChan n f).freeCtr = b.freeCtr := rfl
@[simp] theorem Block.chan_modChan {f : Channel → Channel} : (b.modChan n f).chan n = f (b.chan n) := by
  simp [Block.chan, Block.modChan, Block.modSparge]
theorem Block.chan_modChan_of_ne {f : Channel → Channel} {m : Nat} (h : m ≠ n) : (b.modChan n f).chan m = b.chan m := by
  simp [Block.chan, Block.modChan, Block.modSparge, tget_tmod_of_ne h]

/-! ### modHopPort -/

@[simp] theorem Block.modHopPort_taps {f : HopPort → HopPort} : (b.modHopPort n f).taps = b.taps := rfl
@[simp] theorem Block.modHopPort_views {f : HopPort → HopPort} : (b.modHopPort n f).views = b.views := rfl
@[simp] theorem Block.modHopPort_stations {f : HopPort → HopPort} : (b.modHopPort n f).stations = b.stations := rfl
@[simp] theorem Block.modHopPort_quads {f : HopPort → HopPort} : (b.modHopPort n f).quads = b.quads := rfl
@[simp] theorem Block.modHopPort_ctxs {f : HopPort → HopPort} : (b.modHopPort n f).ctxs = b.ctxs := rfl
@[simp] theorem Block.modHopPort_cask {f : HopPort → HopPort} : (b.modHopPort n f).cask = b.cask := rfl
@[simp] theorem Block.modHopPort_mash {f : HopPort → HopPort} : (b.modHopPort n f).mash = b.mash := rfl
@[simp] theorem Block.modHopPort_assay {f : HopPort → HopPort} : (b.modHopPort n f).assay = b.assay := rfl
@[simp] theorem Block.modHopPort_sync {f : HopPort → HopPort} : (b.modHopPort n f).sync = b.sync := rfl
@[simp] theorem Block.modHopPort_freezes {f : HopPort → HopPort} : (b.modHopPort n f).freezes = b.freezes := rfl
@[simp] theorem Block.modHopPort_freezeNext {f : HopPort → HopPort} : (b.modHopPort n f).freezeNext = b.freezeNext := rfl
@[simp] theorem Block.modHopPort_freezeLimitUs {f : HopPort → HopPort} : (b.modHopPort n f).freezeLimitUs = b.freezeLimitUs := rfl
@[simp] theorem Block.modHopPort_ports {f : HopPort → HopPort} : (b.modHopPort n f).ports = b.ports := rfl
@[simp] theorem Block.modHopPort_tenants {f : HopPort → HopPort} : (b.modHopPort n f).tenants = b.tenants := rfl
@[simp] theorem Block.modHopPort_sparge {f : HopPort → HopPort} : (b.modHopPort n f).sparge = b.sparge := rfl
@[simp] theorem Block.modHopPort_meas {f : HopPort → HopPort} : (b.modHopPort n f).meas = b.meas := rfl
@[simp] theorem Block.modHopPort_power {f : HopPort → HopPort} : (b.modHopPort n f).power = b.power := rfl
@[simp] theorem Block.modHopPort_time {f : HopPort → HopPort} : (b.modHopPort n f).time = b.time := rfl
@[simp] theorem Block.modHopPort_recs {f : HopPort → HopPort} : (b.modHopPort n f).recs = b.recs := rfl
@[simp] theorem Block.modHopPort_held {f : HopPort → HopPort} : (b.modHopPort n f).held = b.held := rfl
@[simp] theorem Block.modHopPort_lo {f : HopPort → HopPort} : (b.modHopPort n f).lo = b.lo := rfl
@[simp] theorem Block.modHopPort_absent {f : HopPort → HopPort} : (b.modHopPort n f).absent = b.absent := rfl
@[simp] theorem Block.modHopPort_regionOf {f : HopPort → HopPort} : (b.modHopPort n f).regionOf = b.regionOf := rfl
@[simp] theorem Block.modHopPort_out {f : HopPort → HopPort} : (b.modHopPort n f).out = b.out := rfl
@[simp] theorem Block.modHopPort_freeCtr {f : HopPort → HopPort} : (b.modHopPort n f).freeCtr = b.freeCtr := rfl
@[simp] theorem Block.hopPort_modHopPort {f : HopPort → HopPort} : (b.modHopPort n f).hopPort n = f (b.hopPort n) := by
  simp [Block.hopPort, Block.modHopPort, Block.modHop]
theorem Block.hopPort_modHopPort_of_ne {f : HopPort → HopPort} {m : Nat} (h : m ≠ n) : (b.modHopPort n f).hopPort m = b.hopPort m := by
  simp [Block.hopPort, Block.modHopPort, Block.modHop, tget_tmod_of_ne h]

/-! ### modUnit -/

@[simp] theorem Block.modUnit_taps {f : AsyUnit → AsyUnit} : (b.modUnit n f).taps = b.taps := rfl
@[simp] theorem Block.modUnit_views {f : AsyUnit → AsyUnit} : (b.modUnit n f).views = b.views := rfl
@[simp] theorem Block.modUnit_stations {f : AsyUnit → AsyUnit} : (b.modUnit n f).stations = b.stations := rfl
@[simp] theorem Block.modUnit_quads {f : AsyUnit → AsyUnit} : (b.modUnit n f).quads = b.quads := rfl
@[simp] theorem Block.modUnit_ctxs {f : AsyUnit → AsyUnit} : (b.modUnit n f).ctxs = b.ctxs := rfl
@[simp] theorem Block.modUnit_cask {f : AsyUnit → AsyUnit} : (b.modUnit n f).cask = b.cask := rfl
@[simp] theorem Block.modUnit_mash {f : AsyUnit → AsyUnit} : (b.modUnit n f).mash = b.mash := rfl
@[simp] theorem Block.modUnit_sync {f : AsyUnit → AsyUnit} : (b.modUnit n f).sync = b.sync := rfl
@[simp] theorem Block.modUnit_freezes {f : AsyUnit → AsyUnit} : (b.modUnit n f).freezes = b.freezes := rfl
@[simp] theorem Block.modUnit_freezeNext {f : AsyUnit → AsyUnit} : (b.modUnit n f).freezeNext = b.freezeNext := rfl
@[simp] theorem Block.modUnit_freezeLimitUs {f : AsyUnit → AsyUnit} : (b.modUnit n f).freezeLimitUs = b.freezeLimitUs := rfl
@[simp] theorem Block.modUnit_ports {f : AsyUnit → AsyUnit} : (b.modUnit n f).ports = b.ports := rfl
@[simp] theorem Block.modUnit_tenants {f : AsyUnit → AsyUnit} : (b.modUnit n f).tenants = b.tenants := rfl
@[simp] theorem Block.modUnit_sparge {f : AsyUnit → AsyUnit} : (b.modUnit n f).sparge = b.sparge := rfl
@[simp] theorem Block.modUnit_hop {f : AsyUnit → AsyUnit} : (b.modUnit n f).hop = b.hop := rfl
@[simp] theorem Block.modUnit_meas {f : AsyUnit → AsyUnit} : (b.modUnit n f).meas = b.meas := rfl
@[simp] theorem Block.modUnit_power {f : AsyUnit → AsyUnit} : (b.modUnit n f).power = b.power := rfl
@[simp] theorem Block.modUnit_time {f : AsyUnit → AsyUnit} : (b.modUnit n f).time = b.time := rfl
@[simp] theorem Block.modUnit_recs {f : AsyUnit → AsyUnit} : (b.modUnit n f).recs = b.recs := rfl
@[simp] theorem Block.modUnit_held {f : AsyUnit → AsyUnit} : (b.modUnit n f).held = b.held := rfl
@[simp] theorem Block.modUnit_lo {f : AsyUnit → AsyUnit} : (b.modUnit n f).lo = b.lo := rfl
@[simp] theorem Block.modUnit_absent {f : AsyUnit → AsyUnit} : (b.modUnit n f).absent = b.absent := rfl
@[simp] theorem Block.modUnit_regionOf {f : AsyUnit → AsyUnit} : (b.modUnit n f).regionOf = b.regionOf := rfl
@[simp] theorem Block.modUnit_out {f : AsyUnit → AsyUnit} : (b.modUnit n f).out = b.out := rfl
@[simp] theorem Block.modUnit_freeCtr {f : AsyUnit → AsyUnit} : (b.modUnit n f).freeCtr = b.freeCtr := rfl
@[simp] theorem Block.unit_modUnit {f : AsyUnit → AsyUnit} : (b.modUnit n f).unit n = f (b.unit n) := by
  simp [Block.unit, Block.modUnit, Block.modAssay]
theorem Block.unit_modUnit_of_ne {f : AsyUnit → AsyUnit} {m : Nat} (h : m ≠ n) : (b.modUnit n f).unit m = b.unit m := by
  simp [Block.unit, Block.modUnit, Block.modAssay, tget_tmod_of_ne h]

/-! ### modSlot -/

@[simp] theorem Block.modSlot_taps {f : LoopSlot → LoopSlot} : (b.modSlot n f).taps = b.taps := rfl
@[simp] theorem Block.modSlot_views {f : LoopSlot → LoopSlot} : (b.modSlot n f).views = b.views := rfl
@[simp] theorem Block.modSlot_stations {f : LoopSlot → LoopSlot} : (b.modSlot n f).stations = b.stations := rfl
@[simp] theorem Block.modSlot_quads {f : LoopSlot → LoopSlot} : (b.modSlot n f).quads = b.quads := rfl
@[simp] theorem Block.modSlot_ctxs {f : LoopSlot → LoopSlot} : (b.modSlot n f).ctxs = b.ctxs := rfl
@[simp] theorem Block.modSlot_cask {f : LoopSlot → LoopSlot} : (b.modSlot n f).cask = b.cask := rfl
@[simp] theorem Block.modSlot_assay {f : LoopSlot → LoopSlot} : (b.modSlot n f).assay = b.assay := rfl
@[simp] theorem Block.modSlot_sync {f : LoopSlot → LoopSlot} : (b.modSlot n f).sync = b.sync := rfl
@[simp] theorem Block.modSlot_freezes {f : LoopSlot → LoopSlot} : (b.modSlot n f).freezes = b.freezes := rfl
@[simp] theorem Block.modSlot_freezeNext {f : LoopSlot → LoopSlot} : (b.modSlot n f).freezeNext = b.freezeNext := rfl
@[simp] theorem Block.modSlot_freezeLimitUs {f : LoopSlot → LoopSlot} : (b.modSlot n f).freezeLimitUs = b.freezeLimitUs := rfl
@[simp] theorem Block.modSlot_ports {f : LoopSlot → LoopSlot} : (b.modSlot n f).ports = b.ports := rfl
@[simp] theorem Block.modSlot_tenants {f : LoopSlot → LoopSlot} : (b.modSlot n f).tenants = b.tenants := rfl
@[simp] theorem Block.modSlot_sparge {f : LoopSlot → LoopSlot} : (b.modSlot n f).sparge = b.sparge := rfl
@[simp] theorem Block.modSlot_hop {f : LoopSlot → LoopSlot} : (b.modSlot n f).hop = b.hop := rfl
@[simp] theorem Block.modSlot_meas {f : LoopSlot → LoopSlot} : (b.modSlot n f).meas = b.meas := rfl
@[simp] theorem Block.modSlot_power {f : LoopSlot → LoopSlot} : (b.modSlot n f).power = b.power := rfl
@[simp] theorem Block.modSlot_time {f : LoopSlot → LoopSlot} : (b.modSlot n f).time = b.time := rfl
@[simp] theorem Block.modSlot_recs {f : LoopSlot → LoopSlot} : (b.modSlot n f).recs = b.recs := rfl
@[simp] theorem Block.modSlot_held {f : LoopSlot → LoopSlot} : (b.modSlot n f).held = b.held := rfl
@[simp] theorem Block.modSlot_lo {f : LoopSlot → LoopSlot} : (b.modSlot n f).lo = b.lo := rfl
@[simp] theorem Block.modSlot_absent {f : LoopSlot → LoopSlot} : (b.modSlot n f).absent = b.absent := rfl
@[simp] theorem Block.modSlot_regionOf {f : LoopSlot → LoopSlot} : (b.modSlot n f).regionOf = b.regionOf := rfl
@[simp] theorem Block.modSlot_out {f : LoopSlot → LoopSlot} : (b.modSlot n f).out = b.out := rfl
@[simp] theorem Block.modSlot_freeCtr {f : LoopSlot → LoopSlot} : (b.modSlot n f).freeCtr = b.freeCtr := rfl
@[simp] theorem Block.slot_modSlot {f : LoopSlot → LoopSlot} : (b.modSlot n f).slot n = f (b.slot n) := by
  simp [Block.slot, Block.modSlot, Block.modMash]
theorem Block.slot_modSlot_of_ne {f : LoopSlot → LoopSlot} {m : Nat} (h : m ≠ n) : (b.modSlot n f).slot m = b.slot m := by
  simp [Block.slot, Block.modSlot, Block.modMash, tget_tmod_of_ne h]

/-! ### modObj -/

@[simp] theorem Block.modObj_taps {f : Obj → Obj} : (b.modObj n f).taps = b.taps := rfl
@[simp] theorem Block.modObj_views {f : Obj → Obj} : (b.modObj n f).views = b.views := rfl
@[simp] theorem Block.modObj_stations {f : Obj → Obj} : (b.modObj n f).stations = b.stations := rfl
@[simp] theorem Block.modObj_quads {f : Obj → Obj} : (b.modObj n f).quads = b.quads := rfl
@[simp] theorem Block.modObj_ctxs {f : Obj → Obj} : (b.modObj n f).ctxs = b.ctxs := rfl
@[simp] theorem Block.modObj_cask {f : Obj → Obj} : (b.modObj n f).cask = b.cask := rfl
@[simp] theorem Block.modObj_mash {f : Obj → Obj} : (b.modObj n f).mash = b.mash := rfl
@[simp] theorem Block.modObj_assay {f : Obj → Obj} : (b.modObj n f).assay = b.assay := rfl
@[simp] theorem Block.modObj_freezes {f : Obj → Obj} : (b.modObj n f).freezes = b.freezes := rfl
@[simp] theorem Block.modObj_freezeNext {f : Obj → Obj} : (b.modObj n f).freezeNext = b.freezeNext := rfl
@[simp] theorem Block.modObj_freezeLimitUs {f : Obj → Obj} : (b.modObj n f).freezeLimitUs = b.freezeLimitUs := rfl
@[simp] theorem Block.modObj_ports {f : Obj → Obj} : (b.modObj n f).ports = b.ports := rfl
@[simp] theorem Block.modObj_tenants {f : Obj → Obj} : (b.modObj n f).tenants = b.tenants := rfl
@[simp] theorem Block.modObj_sparge {f : Obj → Obj} : (b.modObj n f).sparge = b.sparge := rfl
@[simp] theorem Block.modObj_hop {f : Obj → Obj} : (b.modObj n f).hop = b.hop := rfl
@[simp] theorem Block.modObj_meas {f : Obj → Obj} : (b.modObj n f).meas = b.meas := rfl
@[simp] theorem Block.modObj_power {f : Obj → Obj} : (b.modObj n f).power = b.power := rfl
@[simp] theorem Block.modObj_time {f : Obj → Obj} : (b.modObj n f).time = b.time := rfl
@[simp] theorem Block.modObj_recs {f : Obj → Obj} : (b.modObj n f).recs = b.recs := rfl
@[simp] theorem Block.modObj_held {f : Obj → Obj} : (b.modObj n f).held = b.held := rfl
@[simp] theorem Block.modObj_lo {f : Obj → Obj} : (b.modObj n f).lo = b.lo := rfl
@[simp] theorem Block.modObj_absent {f : Obj → Obj} : (b.modObj n f).absent = b.absent := rfl
@[simp] theorem Block.modObj_regionOf {f : Obj → Obj} : (b.modObj n f).regionOf = b.regionOf := rfl
@[simp] theorem Block.modObj_out {f : Obj → Obj} : (b.modObj n f).out = b.out := rfl
@[simp] theorem Block.modObj_freeCtr {f : Obj → Obj} : (b.modObj n f).freeCtr = b.freeCtr := rfl
@[simp] theorem Block.obj_modObj {f : Obj → Obj} : (b.modObj n f).obj n = f (b.obj n) := by
  simp [Block.obj, Block.modObj, Block.modSync]
theorem Block.obj_modObj_of_ne {f : Obj → Obj} {m : Nat} (h : m ≠ n) : (b.modObj n f).obj m = b.obj m := by
  simp [Block.obj, Block.modObj, Block.modSync, tget_tmod_of_ne h]

/-! ### modCask -/

@[simp] theorem Block.modCask_taps {f : Cask → Cask} : (b.modCask f).taps = b.taps := rfl
@[simp] theorem Block.modCask_views {f : Cask → Cask} : (b.modCask f).views = b.views := rfl
@[simp] theorem Block.modCask_stations {f : Cask → Cask} : (b.modCask f).stations = b.stations := rfl
@[simp] theorem Block.modCask_quads {f : Cask → Cask} : (b.modCask f).quads = b.quads := rfl
@[simp] theorem Block.modCask_ctxs {f : Cask → Cask} : (b.modCask f).ctxs = b.ctxs := rfl
@[simp] theorem Block.modCask_cask {f : Cask → Cask} : (b.modCask f).cask = f b.cask := rfl
@[simp] theorem Block.modCask_mash {f : Cask → Cask} : (b.modCask f).mash = b.mash := rfl
@[simp] theorem Block.modCask_assay {f : Cask → Cask} : (b.modCask f).assay = b.assay := rfl
@[simp] theorem Block.modCask_sync {f : Cask → Cask} : (b.modCask f).sync = b.sync := rfl
@[simp] theorem Block.modCask_freezes {f : Cask → Cask} : (b.modCask f).freezes = b.freezes := rfl
@[simp] theorem Block.modCask_freezeNext {f : Cask → Cask} : (b.modCask f).freezeNext = b.freezeNext := rfl
@[simp] theorem Block.modCask_freezeLimitUs {f : Cask → Cask} : (b.modCask f).freezeLimitUs = b.freezeLimitUs := rfl
@[simp] theorem Block.modCask_ports {f : Cask → Cask} : (b.modCask f).ports = b.ports := rfl
@[simp] theorem Block.modCask_tenants {f : Cask → Cask} : (b.modCask f).tenants = b.tenants := rfl
@[simp] theorem Block.modCask_sparge {f : Cask → Cask} : (b.modCask f).sparge = b.sparge := rfl
@[simp] theorem Block.modCask_hop {f : Cask → Cask} : (b.modCask f).hop = b.hop := rfl
@[simp] theorem Block.modCask_meas {f : Cask → Cask} : (b.modCask f).meas = b.meas := rfl
@[simp] theorem Block.modCask_power {f : Cask → Cask} : (b.modCask f).power = b.power := rfl
@[simp] theorem Block.modCask_time {f : Cask → Cask} : (b.modCask f).time = b.time := rfl
@[simp] theorem Block.modCask_recs {f : Cask → Cask} : (b.modCask f).recs = b.recs := rfl
@[simp] theorem Block.modCask_held {f : Cask → Cask} : (b.modCask f).held = b.held := rfl
@[simp] theorem Block.modCask_lo {f : Cask → Cask} : (b.modCask f).lo = b.lo := rfl
@[simp] theorem Block.modCask_absent {f : Cask → Cask} : (b.modCask f).absent = b.absent := rfl
@[simp] theorem Block.modCask_regionOf {f : Cask → Cask} : (b.modCask f).regionOf = b.regionOf := rfl
@[simp] theorem Block.modCask_out {f : Cask → Cask} : (b.modCask f).out = b.out := rfl
@[simp] theorem Block.modCask_freeCtr {f : Cask → Cask} : (b.modCask f).freeCtr = b.freeCtr := rfl

/-! ### modMash -/

@[simp] theorem Block.modMash_taps {f : Mash → Mash} : (b.modMash f).taps = b.taps := rfl
@[simp] theorem Block.modMash_views {f : Mash → Mash} : (b.modMash f).views = b.views := rfl
@[simp] theorem Block.modMash_stations {f : Mash → Mash} : (b.modMash f).stations = b.stations := rfl
@[simp] theorem Block.modMash_quads {f : Mash → Mash} : (b.modMash f).quads = b.quads := rfl
@[simp] theorem Block.modMash_ctxs {f : Mash → Mash} : (b.modMash f).ctxs = b.ctxs := rfl
@[simp] theorem Block.modMash_cask {f : Mash → Mash} : (b.modMash f).cask = b.cask := rfl
@[simp] theorem Block.modMash_mash {f : Mash → Mash} : (b.modMash f).mash = f b.mash := rfl
@[simp] theorem Block.modMash_assay {f : Mash → Mash} : (b.modMash f).assay = b.assay := rfl
@[simp] theorem Block.modMash_sync {f : Mash → Mash} : (b.modMash f).sync = b.sync := rfl
@[simp] theorem Block.modMash_freezes {f : Mash → Mash} : (b.modMash f).freezes = b.freezes := rfl
@[simp] theorem Block.modMash_freezeNext {f : Mash → Mash} : (b.modMash f).freezeNext = b.freezeNext := rfl
@[simp] theorem Block.modMash_freezeLimitUs {f : Mash → Mash} : (b.modMash f).freezeLimitUs = b.freezeLimitUs := rfl
@[simp] theorem Block.modMash_ports {f : Mash → Mash} : (b.modMash f).ports = b.ports := rfl
@[simp] theorem Block.modMash_tenants {f : Mash → Mash} : (b.modMash f).tenants = b.tenants := rfl
@[simp] theorem Block.modMash_sparge {f : Mash → Mash} : (b.modMash f).sparge = b.sparge := rfl
@[simp] theorem Block.modMash_hop {f : Mash → Mash} : (b.modMash f).hop = b.hop := rfl
@[simp] theorem Block.modMash_meas {f : Mash → Mash} : (b.modMash f).meas = b.meas := rfl
@[simp] theorem Block.modMash_power {f : Mash → Mash} : (b.modMash f).power = b.power := rfl
@[simp] theorem Block.modMash_time {f : Mash → Mash} : (b.modMash f).time = b.time := rfl
@[simp] theorem Block.modMash_recs {f : Mash → Mash} : (b.modMash f).recs = b.recs := rfl
@[simp] theorem Block.modMash_held {f : Mash → Mash} : (b.modMash f).held = b.held := rfl
@[simp] theorem Block.modMash_lo {f : Mash → Mash} : (b.modMash f).lo = b.lo := rfl
@[simp] theorem Block.modMash_absent {f : Mash → Mash} : (b.modMash f).absent = b.absent := rfl
@[simp] theorem Block.modMash_regionOf {f : Mash → Mash} : (b.modMash f).regionOf = b.regionOf := rfl
@[simp] theorem Block.modMash_out {f : Mash → Mash} : (b.modMash f).out = b.out := rfl
@[simp] theorem Block.modMash_freeCtr {f : Mash → Mash} : (b.modMash f).freeCtr = b.freeCtr := rfl

/-! ### modSync -/

@[simp] theorem Block.modSync_taps {f : Sync → Sync} : (b.modSync f).taps = b.taps := rfl
@[simp] theorem Block.modSync_views {f : Sync → Sync} : (b.modSync f).views = b.views := rfl
@[simp] theorem Block.modSync_stations {f : Sync → Sync} : (b.modSync f).stations = b.stations := rfl
@[simp] theorem Block.modSync_quads {f : Sync → Sync} : (b.modSync f).quads = b.quads := rfl
@[simp] theorem Block.modSync_ctxs {f : Sync → Sync} : (b.modSync f).ctxs = b.ctxs := rfl
@[simp] theorem Block.modSync_cask {f : Sync → Sync} : (b.modSync f).cask = b.cask := rfl
@[simp] theorem Block.modSync_mash {f : Sync → Sync} : (b.modSync f).mash = b.mash := rfl
@[simp] theorem Block.modSync_assay {f : Sync → Sync} : (b.modSync f).assay = b.assay := rfl
@[simp] theorem Block.modSync_sync {f : Sync → Sync} : (b.modSync f).sync = f b.sync := rfl
@[simp] theorem Block.modSync_freezes {f : Sync → Sync} : (b.modSync f).freezes = b.freezes := rfl
@[simp] theorem Block.modSync_freezeNext {f : Sync → Sync} : (b.modSync f).freezeNext = b.freezeNext := rfl
@[simp] theorem Block.modSync_freezeLimitUs {f : Sync → Sync} : (b.modSync f).freezeLimitUs = b.freezeLimitUs := rfl
@[simp] theorem Block.modSync_ports {f : Sync → Sync} : (b.modSync f).ports = b.ports := rfl
@[simp] theorem Block.modSync_tenants {f : Sync → Sync} : (b.modSync f).tenants = b.tenants := rfl
@[simp] theorem Block.modSync_sparge {f : Sync → Sync} : (b.modSync f).sparge = b.sparge := rfl
@[simp] theorem Block.modSync_hop {f : Sync → Sync} : (b.modSync f).hop = b.hop := rfl
@[simp] theorem Block.modSync_meas {f : Sync → Sync} : (b.modSync f).meas = b.meas := rfl
@[simp] theorem Block.modSync_power {f : Sync → Sync} : (b.modSync f).power = b.power := rfl
@[simp] theorem Block.modSync_time {f : Sync → Sync} : (b.modSync f).time = b.time := rfl
@[simp] theorem Block.modSync_recs {f : Sync → Sync} : (b.modSync f).recs = b.recs := rfl
@[simp] theorem Block.modSync_held {f : Sync → Sync} : (b.modSync f).held = b.held := rfl
@[simp] theorem Block.modSync_lo {f : Sync → Sync} : (b.modSync f).lo = b.lo := rfl
@[simp] theorem Block.modSync_absent {f : Sync → Sync} : (b.modSync f).absent = b.absent := rfl
@[simp] theorem Block.modSync_regionOf {f : Sync → Sync} : (b.modSync f).regionOf = b.regionOf := rfl
@[simp] theorem Block.modSync_out {f : Sync → Sync} : (b.modSync f).out = b.out := rfl
@[simp] theorem Block.modSync_freeCtr {f : Sync → Sync} : (b.modSync f).freeCtr = b.freeCtr := rfl

/-! ### modTime -/

@[simp] theorem Block.modTime_taps {f : Time → Time} : (b.modTime f).taps = b.taps := rfl
@[simp] theorem Block.modTime_views {f : Time → Time} : (b.modTime f).views = b.views := rfl
@[simp] theorem Block.modTime_stations {f : Time → Time} : (b.modTime f).stations = b.stations := rfl
@[simp] theorem Block.modTime_quads {f : Time → Time} : (b.modTime f).quads = b.quads := rfl
@[simp] theorem Block.modTime_ctxs {f : Time → Time} : (b.modTime f).ctxs = b.ctxs := rfl
@[simp] theorem Block.modTime_cask {f : Time → Time} : (b.modTime f).cask = b.cask := rfl
@[simp] theorem Block.modTime_mash {f : Time → Time} : (b.modTime f).mash = b.mash := rfl
@[simp] theorem Block.modTime_assay {f : Time → Time} : (b.modTime f).assay = b.assay := rfl
@[simp] theorem Block.modTime_sync {f : Time → Time} : (b.modTime f).sync = b.sync := rfl
@[simp] theorem Block.modTime_freezes {f : Time → Time} : (b.modTime f).freezes = b.freezes := rfl
@[simp] theorem Block.modTime_freezeNext {f : Time → Time} : (b.modTime f).freezeNext = b.freezeNext := rfl
@[simp] theorem Block.modTime_freezeLimitUs {f : Time → Time} : (b.modTime f).freezeLimitUs = b.freezeLimitUs := rfl
@[simp] theorem Block.modTime_ports {f : Time → Time} : (b.modTime f).ports = b.ports := rfl
@[simp] theorem Block.modTime_tenants {f : Time → Time} : (b.modTime f).tenants = b.tenants := rfl
@[simp] theorem Block.modTime_sparge {f : Time → Time} : (b.modTime f).sparge = b.sparge := rfl
@[simp] theorem Block.modTime_hop {f : Time → Time} : (b.modTime f).hop = b.hop := rfl
@[simp] theorem Block.modTime_meas {f : Time → Time} : (b.modTime f).meas = b.meas := rfl
@[simp] theorem Block.modTime_power {f : Time → Time} : (b.modTime f).power = b.power := rfl
@[simp] theorem Block.modTime_time {f : Time → Time} : (b.modTime f).time = f b.time := rfl
@[simp] theorem Block.modTime_recs {f : Time → Time} : (b.modTime f).recs = b.recs := rfl
@[simp] theorem Block.modTime_held {f : Time → Time} : (b.modTime f).held = b.held := rfl
@[simp] theorem Block.modTime_lo {f : Time → Time} : (b.modTime f).lo = b.lo := rfl
@[simp] theorem Block.modTime_absent {f : Time → Time} : (b.modTime f).absent = b.absent := rfl
@[simp] theorem Block.modTime_regionOf {f : Time → Time} : (b.modTime f).regionOf = b.regionOf := rfl
@[simp] theorem Block.modTime_out {f : Time → Time} : (b.modTime f).out = b.out := rfl
@[simp] theorem Block.modTime_freeCtr {f : Time → Time} : (b.modTime f).freeCtr = b.freeCtr := rfl

/-! ### modPower -/

@[simp] theorem Block.modPower_taps {f : Power → Power} : (b.modPower f).taps = b.taps := rfl
@[simp] theorem Block.modPower_views {f : Power → Power} : (b.modPower f).views = b.views := rfl
@[simp] theorem Block.modPower_stations {f : Power → Power} : (b.modPower f).stations = b.stations := rfl
@[simp] theorem Block.modPower_quads {f : Power → Power} : (b.modPower f).quads = b.quads := rfl
@[simp] theorem Block.modPower_ctxs {f : Power → Power} : (b.modPower f).ctxs = b.ctxs := rfl
@[simp] theorem Block.modPower_cask {f : Power → Power} : (b.modPower f).cask = b.cask := rfl
@[simp] theorem Block.modPower_mash {f : Power → Power} : (b.modPower f).mash = b.mash := rfl
@[simp] theorem Block.modPower_assay {f : Power → Power} : (b.modPower f).assay = b.assay := rfl
@[simp] theorem Block.modPower_sync {f : Power → Power} : (b.modPower f).sync = b.sync := rfl
@[simp] theorem Block.modPower_freezes {f : Power → Power} : (b.modPower f).freezes = b.freezes := rfl
@[simp] theorem Block.modPower_freezeNext {f : Power → Power} : (b.modPower f).freezeNext = b.freezeNext := rfl
@[simp] theorem Block.modPower_freezeLimitUs {f : Power → Power} : (b.modPower f).freezeLimitUs = b.freezeLimitUs := rfl
@[simp] theorem Block.modPower_ports {f : Power → Power} : (b.modPower f).ports = b.ports := rfl
@[simp] theorem Block.modPower_tenants {f : Power → Power} : (b.modPower f).tenants = b.tenants := rfl
@[simp] theorem Block.modPower_sparge {f : Power → Power} : (b.modPower f).sparge = b.sparge := rfl
@[simp] theorem Block.modPower_hop {f : Power → Power} : (b.modPower f).hop = b.hop := rfl
@[simp] theorem Block.modPower_meas {f : Power → Power} : (b.modPower f).meas = b.meas := rfl
@[simp] theorem Block.modPower_power {f : Power → Power} : (b.modPower f).power = f b.power := rfl
@[simp] theorem Block.modPower_time {f : Power → Power} : (b.modPower f).time = b.time := rfl
@[simp] theorem Block.modPower_recs {f : Power → Power} : (b.modPower f).recs = b.recs := rfl
@[simp] theorem Block.modPower_held {f : Power → Power} : (b.modPower f).held = b.held := rfl
@[simp] theorem Block.modPower_lo {f : Power → Power} : (b.modPower f).lo = b.lo := rfl
@[simp] theorem Block.modPower_absent {f : Power → Power} : (b.modPower f).absent = b.absent := rfl
@[simp] theorem Block.modPower_regionOf {f : Power → Power} : (b.modPower f).regionOf = b.regionOf := rfl
@[simp] theorem Block.modPower_out {f : Power → Power} : (b.modPower f).out = b.out := rfl
@[simp] theorem Block.modPower_freeCtr {f : Power → Power} : (b.modPower f).freeCtr = b.freeCtr := rfl

/-! ### modHop -/

@[simp] theorem Block.modHop_taps {f : Hop → Hop} : (b.modHop f).taps = b.taps := rfl
@[simp] theorem Block.modHop_views {f : Hop → Hop} : (b.modHop f).views = b.views := rfl
@[simp] theorem Block.modHop_stations {f : Hop → Hop} : (b.modHop f).stations = b.stations := rfl
@[simp] theorem Block.modHop_quads {f : Hop → Hop} : (b.modHop f).quads = b.quads := rfl
@[simp] theorem Block.modHop_ctxs {f : Hop → Hop} : (b.modHop f).ctxs = b.ctxs := rfl
@[simp] theorem Block.modHop_cask {f : Hop → Hop} : (b.modHop f).cask = b.cask := rfl
@[simp] theorem Block.modHop_mash {f : Hop → Hop} : (b.modHop f).mash = b.mash := rfl
@[simp] theorem Block.modHop_assay {f : Hop → Hop} : (b.modHop f).assay = b.assay := rfl
@[simp] theorem Block.modHop_sync {f : Hop → Hop} : (b.modHop f).sync = b.sync := rfl
@[simp] theorem Block.modHop_freezes {f : Hop → Hop} : (b.modHop f).freezes = b.freezes := rfl
@[simp] theorem Block.modHop_freezeNext {f : Hop → Hop} : (b.modHop f).freezeNext = b.freezeNext := rfl
@[simp] theorem Block.modHop_freezeLimitUs {f : Hop → Hop} : (b.modHop f).freezeLimitUs = b.freezeLimitUs := rfl
@[simp] theorem Block.modHop_ports {f : Hop → Hop} : (b.modHop f).ports = b.ports := rfl
@[simp] theorem Block.modHop_tenants {f : Hop → Hop} : (b.modHop f).tenants = b.tenants := rfl
@[simp] theorem Block.modHop_sparge {f : Hop → Hop} : (b.modHop f).sparge = b.sparge := rfl
@[simp] theorem Block.modHop_hop {f : Hop → Hop} : (b.modHop f).hop = f b.hop := rfl
@[simp] theorem Block.modHop_meas {f : Hop → Hop} : (b.modHop f).meas = b.meas := rfl
@[simp] theorem Block.modHop_power {f : Hop → Hop} : (b.modHop f).power = b.power := rfl
@[simp] theorem Block.modHop_time {f : Hop → Hop} : (b.modHop f).time = b.time := rfl
@[simp] theorem Block.modHop_recs {f : Hop → Hop} : (b.modHop f).recs = b.recs := rfl
@[simp] theorem Block.modHop_held {f : Hop → Hop} : (b.modHop f).held = b.held := rfl
@[simp] theorem Block.modHop_lo {f : Hop → Hop} : (b.modHop f).lo = b.lo := rfl
@[simp] theorem Block.modHop_absent {f : Hop → Hop} : (b.modHop f).absent = b.absent := rfl
@[simp] theorem Block.modHop_regionOf {f : Hop → Hop} : (b.modHop f).regionOf = b.regionOf := rfl
@[simp] theorem Block.modHop_out {f : Hop → Hop} : (b.modHop f).out = b.out := rfl
@[simp] theorem Block.modHop_freeCtr {f : Hop → Hop} : (b.modHop f).freeCtr = b.freeCtr := rfl

/-! ### modMeas -/

@[simp] theorem Block.modMeas_taps {f : Meas → Meas} : (b.modMeas f).taps = b.taps := rfl
@[simp] theorem Block.modMeas_views {f : Meas → Meas} : (b.modMeas f).views = b.views := rfl
@[simp] theorem Block.modMeas_stations {f : Meas → Meas} : (b.modMeas f).stations = b.stations := rfl
@[simp] theorem Block.modMeas_quads {f : Meas → Meas} : (b.modMeas f).quads = b.quads := rfl
@[simp] theorem Block.modMeas_ctxs {f : Meas → Meas} : (b.modMeas f).ctxs = b.ctxs := rfl
@[simp] theorem Block.modMeas_cask {f : Meas → Meas} : (b.modMeas f).cask = b.cask := rfl
@[simp] theorem Block.modMeas_mash {f : Meas → Meas} : (b.modMeas f).mash = b.mash := rfl
@[simp] theorem Block.modMeas_assay {f : Meas → Meas} : (b.modMeas f).assay = b.assay := rfl
@[simp] theorem Block.modMeas_sync {f : Meas → Meas} : (b.modMeas f).sync = b.sync := rfl
@[simp] theorem Block.modMeas_freezes {f : Meas → Meas} : (b.modMeas f).freezes = b.freezes := rfl
@[simp] theorem Block.modMeas_freezeNext {f : Meas → Meas} : (b.modMeas f).freezeNext = b.freezeNext := rfl
@[simp] theorem Block.modMeas_freezeLimitUs {f : Meas → Meas} : (b.modMeas f).freezeLimitUs = b.freezeLimitUs := rfl
@[simp] theorem Block.modMeas_ports {f : Meas → Meas} : (b.modMeas f).ports = b.ports := rfl
@[simp] theorem Block.modMeas_tenants {f : Meas → Meas} : (b.modMeas f).tenants = b.tenants := rfl
@[simp] theorem Block.modMeas_sparge {f : Meas → Meas} : (b.modMeas f).sparge = b.sparge := rfl
@[simp] theorem Block.modMeas_hop {f : Meas → Meas} : (b.modMeas f).hop = b.hop := rfl
@[simp] theorem Block.modMeas_meas {f : Meas → Meas} : (b.modMeas f).meas = f b.meas := rfl
@[simp] theorem Block.modMeas_power {f : Meas → Meas} : (b.modMeas f).power = b.power := rfl
@[simp] theorem Block.modMeas_time {f : Meas → Meas} : (b.modMeas f).time = b.time := rfl
@[simp] theorem Block.modMeas_recs {f : Meas → Meas} : (b.modMeas f).recs = b.recs := rfl
@[simp] theorem Block.modMeas_held {f : Meas → Meas} : (b.modMeas f).held = b.held := rfl
@[simp] theorem Block.modMeas_lo {f : Meas → Meas} : (b.modMeas f).lo = b.lo := rfl
@[simp] theorem Block.modMeas_absent {f : Meas → Meas} : (b.modMeas f).absent = b.absent := rfl
@[simp] theorem Block.modMeas_regionOf {f : Meas → Meas} : (b.modMeas f).regionOf = b.regionOf := rfl
@[simp] theorem Block.modMeas_out {f : Meas → Meas} : (b.modMeas f).out = b.out := rfl
@[simp] theorem Block.modMeas_freeCtr {f : Meas → Meas} : (b.modMeas f).freeCtr = b.freeCtr := rfl

/-! ### modSparge -/

@[simp] theorem Block.modSparge_taps {f : Sparge → Sparge} : (b.modSparge f).taps = b.taps := rfl
@[simp] theorem Block.modSparge_views {f : Sparge → Sparge} : (b.modSparge f).views = b.views := rfl
@[simp] theorem Block.modSparge_stations {f : Sparge → Sparge} : (b.modSparge f).stations = b.stations := rfl
@[simp] theorem Block.modSparge_quads {f : Sparge → Sparge} : (b.modSparge f).quads = b.quads := rfl
@[simp] theorem Block.modSparge_ctxs {f : Sparge → Sparge} : (b.modSparge f).ctxs = b.ctxs := rfl
@[simp] theorem Block.modSparge_cask {f : Sparge → Sparge} : (b.modSparge f).cask = b.cask := rfl
@[simp] theorem Block.modSparge_mash {f : Sparge → Sparge} : (b.modSparge f).mash = b.mash := rfl
@[simp] theorem Block.modSparge_assay {f : Sparge → Sparge} : (b.modSparge f).assay = b.assay := rfl
@[simp] theorem Block.modSparge_sync {f : Sparge → Sparge} : (b.modSparge f).sync = b.sync := rfl
@[simp] theorem Block.modSparge_freezes {f : Sparge → Sparge} : (b.modSparge f).freezes = b.freezes := rfl
@[simp] theorem Block.modSparge_freezeNext {f : Sparge → Sparge} : (b.modSparge f).freezeNext = b.freezeNext := rfl
@[simp] theorem Block.modSparge_freezeLimitUs {f : Sparge → Sparge} : (b.modSparge f).freezeLimitUs = b.freezeLimitUs := rfl
@[simp] theorem Block.modSparge_ports {f : Sparge → Sparge} : (b.modSparge f).ports = b.ports := rfl
@[simp] theorem Block.modSparge_tenants {f : Sparge → Sparge} : (b.modSparge f).tenants = b.tenants := rfl
@[simp] theorem Block.modSparge_sparge {f : Sparge → Sparge} : (b.modSparge f).sparge = f b.sparge := rfl
@[simp] theorem Block.modSparge_hop {f : Sparge → Sparge} : (b.modSparge f).hop = b.hop := rfl
@[simp] theorem Block.modSparge_meas {f : Sparge → Sparge} : (b.modSparge f).meas = b.meas := rfl
@[simp] theorem Block.modSparge_power {f : Sparge → Sparge} : (b.modSparge f).power = b.power := rfl
@[simp] theorem Block.modSparge_time {f : Sparge → Sparge} : (b.modSparge f).time = b.time := rfl
@[simp] theorem Block.modSparge_recs {f : Sparge → Sparge} : (b.modSparge f).recs = b.recs := rfl
@[simp] theorem Block.modSparge_held {f : Sparge → Sparge} : (b.modSparge f).held = b.held := rfl
@[simp] theorem Block.modSparge_lo {f : Sparge → Sparge} : (b.modSparge f).lo = b.lo := rfl
@[simp] theorem Block.modSparge_absent {f : Sparge → Sparge} : (b.modSparge f).absent = b.absent := rfl
@[simp] theorem Block.modSparge_regionOf {f : Sparge → Sparge} : (b.modSparge f).regionOf = b.regionOf := rfl
@[simp] theorem Block.modSparge_out {f : Sparge → Sparge} : (b.modSparge f).out = b.out := rfl
@[simp] theorem Block.modSparge_freeCtr {f : Sparge → Sparge} : (b.modSparge f).freeCtr = b.freeCtr := rfl

/-! ### modAssay -/

@[simp] theorem Block.modAssay_taps {f : Assay → Assay} : (b.modAssay f).taps = b.taps := rfl
@[simp] theorem Block.modAssay_views {f : Assay → Assay} : (b.modAssay f).views = b.views := rfl
@[simp] theorem Block.modAssay_stations {f : Assay → Assay} : (b.modAssay f).stations = b.stations := rfl
@[simp] theorem Block.modAssay_quads {f : Assay → Assay} : (b.modAssay f).quads = b.quads := rfl
@[simp] theorem Block.modAssay_ctxs {f : Assay → Assay} : (b.modAssay f).ctxs = b.ctxs := rfl
@[simp] theorem Block.modAssay_cask {f : Assay → Assay} : (b.modAssay f).cask = b.cask := rfl
@[simp] theorem Block.modAssay_mash {f : Assay → Assay} : (b.modAssay f).mash = b.mash := rfl
@[simp] theorem Block.modAssay_assay {f : Assay → Assay} : (b.modAssay f).assay = f b.assay := rfl
@[simp] theorem Block.modAssay_sync {f : Assay → Assay} : (b.modAssay f).sync = b.sync := rfl
@[simp] theorem Block.modAssay_freezes {f : Assay → Assay} : (b.modAssay f).freezes = b.freezes := rfl
@[simp] theorem Block.modAssay_freezeNext {f : Assay → Assay} : (b.modAssay f).freezeNext = b.freezeNext := rfl
@[simp] theorem Block.modAssay_freezeLimitUs {f : Assay → Assay} : (b.modAssay f).freezeLimitUs = b.freezeLimitUs := rfl
@[simp] theorem Block.modAssay_ports {f : Assay → Assay} : (b.modAssay f).ports = b.ports := rfl
@[simp] theorem Block.modAssay_tenants {f : Assay → Assay} : (b.modAssay f).tenants = b.tenants := rfl
@[simp] theorem Block.modAssay_sparge {f : Assay → Assay} : (b.modAssay f).sparge = b.sparge := rfl
@[simp] theorem Block.modAssay_hop {f : Assay → Assay} : (b.modAssay f).hop = b.hop := rfl
@[simp] theorem Block.modAssay_meas {f : Assay → Assay} : (b.modAssay f).meas = b.meas := rfl
@[simp] theorem Block.modAssay_power {f : Assay → Assay} : (b.modAssay f).power = b.power := rfl
@[simp] theorem Block.modAssay_time {f : Assay → Assay} : (b.modAssay f).time = b.time := rfl
@[simp] theorem Block.modAssay_recs {f : Assay → Assay} : (b.modAssay f).recs = b.recs := rfl
@[simp] theorem Block.modAssay_held {f : Assay → Assay} : (b.modAssay f).held = b.held := rfl
@[simp] theorem Block.modAssay_lo {f : Assay → Assay} : (b.modAssay f).lo = b.lo := rfl
@[simp] theorem Block.modAssay_absent {f : Assay → Assay} : (b.modAssay f).absent = b.absent := rfl
@[simp] theorem Block.modAssay_regionOf {f : Assay → Assay} : (b.modAssay f).regionOf = b.regionOf := rfl
@[simp] theorem Block.modAssay_out {f : Assay → Assay} : (b.modAssay f).out = b.out := rfl
@[simp] theorem Block.modAssay_freeCtr {f : Assay → Assay} : (b.modAssay f).freeCtr = b.freeCtr := rfl

/-! ### Outputs -/

@[simp] theorem Block.emit_taps {x : Out} : (b.emit x).taps = b.taps := rfl
@[simp] theorem Block.emit_views {x : Out} : (b.emit x).views = b.views := rfl
@[simp] theorem Block.emit_stations {x : Out} : (b.emit x).stations = b.stations := rfl
@[simp] theorem Block.emit_quads {x : Out} : (b.emit x).quads = b.quads := rfl
@[simp] theorem Block.emit_ctxs {x : Out} : (b.emit x).ctxs = b.ctxs := rfl
@[simp] theorem Block.emit_cask {x : Out} : (b.emit x).cask = b.cask := rfl
@[simp] theorem Block.emit_mash {x : Out} : (b.emit x).mash = b.mash := rfl
@[simp] theorem Block.emit_assay {x : Out} : (b.emit x).assay = b.assay := rfl
@[simp] theorem Block.emit_sync {x : Out} : (b.emit x).sync = b.sync := rfl
@[simp] theorem Block.emit_freezes {x : Out} : (b.emit x).freezes = b.freezes := rfl
@[simp] theorem Block.emit_freezeNext {x : Out} : (b.emit x).freezeNext = b.freezeNext := rfl
@[simp] theorem Block.emit_freezeLimitUs {x : Out} : (b.emit x).freezeLimitUs = b.freezeLimitUs := rfl
@[simp] theorem Block.emit_ports {x : Out} : (b.emit x).ports = b.ports := rfl
@[simp] theorem Block.emit_tenants {x : Out} : (b.emit x).tenants = b.tenants := rfl
@[simp] theorem Block.emit_sparge {x : Out} : (b.emit x).sparge = b.sparge := rfl
@[simp] theorem Block.emit_hop {x : Out} : (b.emit x).hop = b.hop := rfl
@[simp] theorem Block.emit_meas {x : Out} : (b.emit x).meas = b.meas := rfl
@[simp] theorem Block.emit_power {x : Out} : (b.emit x).power = b.power := rfl
@[simp] theorem Block.emit_time {x : Out} : (b.emit x).time = b.time := rfl
@[simp] theorem Block.emit_recs {x : Out} : (b.emit x).recs = b.recs := rfl
@[simp] theorem Block.emit_held {x : Out} : (b.emit x).held = b.held := rfl
@[simp] theorem Block.emit_lo {x : Out} : (b.emit x).lo = b.lo := rfl
@[simp] theorem Block.emit_absent {x : Out} : (b.emit x).absent = b.absent := rfl
@[simp] theorem Block.emit_regionOf {x : Out} : (b.emit x).regionOf = b.regionOf := rfl
@[simp] theorem Block.emit_freeCtr {x : Out} : (b.emit x).freeCtr = b.freeCtr := rfl
@[simp] theorem Block.emit_out {x : Out} : (b.emit x).out = b.out ++ [x] := rfl

/-! ### The latch of split values -/

@[simp] theorem Block.unlatch_taps : (b.unlatch n).taps = b.taps := rfl
@[simp] theorem Block.unlatch_views : (b.unlatch n).views = b.views := rfl
@[simp] theorem Block.unlatch_stations : (b.unlatch n).stations = b.stations := rfl
@[simp] theorem Block.unlatch_quads : (b.unlatch n).quads = b.quads := rfl
@[simp] theorem Block.unlatch_ctxs : (b.unlatch n).ctxs = b.ctxs := rfl
@[simp] theorem Block.unlatch_cask : (b.unlatch n).cask = b.cask := rfl
@[simp] theorem Block.unlatch_mash : (b.unlatch n).mash = b.mash := rfl
@[simp] theorem Block.unlatch_assay : (b.unlatch n).assay = b.assay := rfl
@[simp] theorem Block.unlatch_sync : (b.unlatch n).sync = b.sync := rfl
@[simp] theorem Block.unlatch_freezes : (b.unlatch n).freezes = b.freezes := rfl
@[simp] theorem Block.unlatch_freezeNext : (b.unlatch n).freezeNext = b.freezeNext := rfl
@[simp] theorem Block.unlatch_freezeLimitUs : (b.unlatch n).freezeLimitUs = b.freezeLimitUs := rfl
@[simp] theorem Block.unlatch_ports : (b.unlatch n).ports = b.ports := rfl
@[simp] theorem Block.unlatch_tenants : (b.unlatch n).tenants = b.tenants := rfl
@[simp] theorem Block.unlatch_sparge : (b.unlatch n).sparge = b.sparge := rfl
@[simp] theorem Block.unlatch_hop : (b.unlatch n).hop = b.hop := rfl
@[simp] theorem Block.unlatch_meas : (b.unlatch n).meas = b.meas := rfl
@[simp] theorem Block.unlatch_power : (b.unlatch n).power = b.power := rfl
@[simp] theorem Block.unlatch_time : (b.unlatch n).time = b.time := rfl
@[simp] theorem Block.unlatch_recs : (b.unlatch n).recs = b.recs := rfl
@[simp] theorem Block.unlatch_held : (b.unlatch n).held = b.held := rfl
@[simp] theorem Block.unlatch_absent : (b.unlatch n).absent = b.absent := rfl
@[simp] theorem Block.unlatch_regionOf : (b.unlatch n).regionOf = b.regionOf := rfl
@[simp] theorem Block.unlatch_out : (b.unlatch n).out = b.out := rfl
@[simp] theorem Block.unlatch_freeCtr : (b.unlatch n).freeCtr = b.freeCtr := rfl
@[simp] theorem Block.tap_unlatch {m : Nat} : (b.unlatch n).tap m = b.tap m := rfl
@[simp] theorem Block.view_unlatch {m : Nat} : (b.unlatch n).view m = b.view m := rfl
@[simp] theorem Block.station_unlatch {m : Nat} : (b.unlatch n).station m = b.station m := rfl
@[simp] theorem Block.tenant_unlatch {m : Nat} : (b.unlatch n).tenant m = b.tenant m := rfl
@[simp] theorem Block.port_unlatch {m : Nat} : (b.unlatch n).port m = b.port m := rfl
@[simp] theorem Block.chan_unlatch {m : Nat} : (b.unlatch n).chan m = b.chan m := rfl

end Sys2Proof.Machine
end

