-- ==== Sys2Proof/Laws/Seen.lean ====
section
/-! SUPPORT. What each basic update of the block leaves to be seen when the areas that it touches are left out. -/

namespace Sys2Proof.Machine

variable {M : List Area} {b : Block} {n : Nat}

theorem Area.sub_iff {xs ys : List Area} : Area.sub xs ys = true ↔ ∀ p ∈ xs, p ∈ ys := by simp [Area.sub]

theorem Area.sub_refl (xs : List Area) : Area.sub xs xs = true := Area.sub_iff.2 (fun _ h => h)

theorem Area.sub_trans {xs ys zs : List Area} (h : Area.sub xs ys = true) (g : Area.sub ys zs = true) :
    Area.sub xs zs = true :=
  Area.sub_iff.2 (fun p hp => Area.sub_iff.1 g p (Area.sub_iff.1 h p hp))

theorem Area.mem_of_sub {p : Area} {xs : List Area} (h : Area.sub [p] xs = true) : p ∈ xs :=
  Area.sub_iff.1 h p (List.mem_singleton.2 rfl)

/-- An update `f` keeps what `p` reads. -/
def Keeps {α β : Type} (p : α → β) (f : α → α) : Prop := ∀ x, p (f x) = p x

theorem Keeps.of {α β : Type} {p : α → β} {f : α → α} (h : ∀ x, p (f x) = p x) : Keeps p f := h

theorem Block.seen_ite {c : Prop} [Decidable c] {x y : Block} {z : Seen} (hx : x.seen M = z) (hy : y.seen M = z) :
    (if c then x else y).seen M = z := by split <;> assumption

theorem Block.each_seen {α : Type} {l : List α} {f : Block → α → Block} (h : ∀ b x, (f b x).seen M = b.seen M) :
    (b.each l f).seen M = b.seen M := by
  unfold Block.each
  induction l generalizing b with
  | nil => rfl
  | cons x l ih => rw [List.foldl_cons, ih, h]

theorem Block.foldl_seen {α : Type} {l : List α} {f : Block → α → Block} (h : ∀ b x, (f b x).seen M = b.seen M) :
    (l.foldl f b).seen M = b.seen M := Block.each_seen (b := b) (l := l) h

theorem Block.foldl_snd_seen {α β : Type} {l : List α} {f : β × Block → α → β × Block} {y : β}
    (h : ∀ p x, (f p x).2.seen M = p.2.seen M) : (l.foldl f (y, b)).2.seen M = b.seen M := by
  induction l generalizing b y with
  | nil => rfl
  | cons x l ih => rw [List.foldl_cons, show f (y, b) x = ((f (y, b) x).1, (f (y, b) x).2) from rfl, ih, h]

theorem Block.modTap_seen {f : Tap → Tap} (h : Area.sub [.taps] M = true) :
    (b.modTap n f).seen M = b.seen M := by
  simp [Block.seen, Area.see, Area.mem_of_sub h, Block.modTap, Block.station, Block.tenant, Block.chan]

theorem Block.modView_seen {f : TapView → TapView} (h : Area.sub [.views] M = true) :
    (b.modView n f).seen M = b.seen M := by
  simp [Block.seen, Area.see, Area.mem_of_sub h, Block.modView, Block.station, Block.tenant, Block.chan]

theorem Block.modQuad_seen {f : Quadrant → Quadrant} (h : Area.sub [.quads] M = true) :
    (b.modQuad n f).seen M = b.seen M := by
  simp [Block.seen, Area.see, Area.mem_of_sub h, Block.modQuad, Block.station, Block.tenant, Block.chan]

theorem Block.modPort_seen {f : Port → Port} (h : Area.sub [.ports] M = true) :
    (b.modPort n f).seen M = b.seen M := by
  simp [Block.seen, Area.see, Area.mem_of_sub h, Block.modPort, Block.station, Block.tenant, Block.chan]

theorem Block.modCask_seen {f : Cask → Cask} (h : Area.sub [.cask] M = true) :
    (b.modCask f).seen M = b.seen M := by
  simp [Block.seen, Area.see, Area.mem_of_sub h, Block.modCask, Block.station, Block.tenant, Block.chan]

theorem Block.modPage_seen {f : Page → Page} (h : Area.sub [.cask] M = true) :
    (b.modPage n f).seen M = b.seen M := by
  simp [Block.seen, Area.see, Area.mem_of_sub h, Block.modPage, Block.station, Block.tenant, Block.chan]

theorem Block.modSync_seen {f : Sync → Sync} (h : Area.sub [.sync] M = true) :
    (b.modSync f).seen M = b.seen M := by
  simp [Block.seen, Area.see, Area.mem_of_sub h, Block.modSync, Block.station, Block.tenant, Block.chan]

theorem Block.modObj_seen {f : Obj → Obj} (h : Area.sub [.sync] M = true) :
    (b.modObj n f).seen M = b.seen M := Block.modSync_seen h

theorem Block.modTime_seen {f : Time → Time} (h : Area.sub [.time] M = true) :
    (b.modTime f).seen M = b.seen M := by
  simp [Block.seen, Area.see, Area.mem_of_sub h, Block.modTime, Block.station, Block.tenant, Block.chan]

theorem Block.modPower_seen {f : Power → Power} (h : Area.sub [.power] M = true) :
    (b.modPower f).seen M = b.seen M := by
  simp [Block.seen, Area.see, Area.mem_of_sub h, Block.modPower, Block.station, Block.tenant, Block.chan]

theorem Block.modHop_seen {f : Hop → Hop} (h : Area.sub [.hop] M = true) :
    (b.modHop f).seen M = b.seen M := by
  simp [Block.seen, Area.see, Area.mem_of_sub h, Block.modHop, Block.station, Block.tenant, Block.chan]

theorem Block.modHopPort_seen {f : HopPort → HopPort} (h : Area.sub [.hop] M = true) :
    (b.modHopPort n f).seen M = b.seen M := Block.modHop_seen h

theorem Block.modMeas_seen {f : Meas → Meas} (h : Area.sub [.meas] M = true) :
    (b.modMeas f).seen M = b.seen M := by
  simp [Block.seen, Area.see, Area.mem_of_sub h, Block.modMeas, Block.station, Block.tenant, Block.chan]

theorem Block.modFreeze_seen {f : Freeze → Freeze} (h : Area.sub [.freezes] M = true) :
    (b.modFreeze n f).seen M = b.seen M := by
  simp [Block.seen, Area.see, Area.mem_of_sub h, Block.modFreeze, Block.station, Block.tenant, Block.chan]

theorem Block.emit_seen {x : Out} (h : Area.sub [.out] M = true) : (b.emit x).seen M = b.seen M := by
  simp [Block.seen, Area.see, Area.mem_of_sub h, Block.emit, Block.station, Block.tenant, Block.chan]

/-- An update of a station that leaves its filter alone. -/
theorem Block.modStation_seen {f : Station → Station} (h : Area.sub [.stations] M = true)
    (hf : Keeps Station.lauter f) : (b.modStation n f).seen M = b.seen M := by
  have e : (fun m => ((b.modStation n f).station m).lauter) = fun m => (b.station m).lauter := by
    funext m
    by_cases hm : m = n
    · subst hm; simp [hf _]
    · simp [Block.station_modStation_of_ne hm]
  simp [Block.seen, Area.see, Area.mem_of_sub h, e, Block.tenant, Block.chan]

/-- Any update of a station. -/
theorem Block.modStation_seen_all {f : Station → Station} (h : Area.sub [.stations, .lauter] M = true) :
    (b.modStation n f).seen M = b.seen M := by
  have h1 := Area.sub_iff.1 h .stations (by simp)
  have h2 := Area.sub_iff.1 h .lauter (by simp)
  simp [Block.seen, Area.see, h1, h2, Block.tenant, Block.chan]

/-- An update of an owner that leaves its quota fields alone. -/
theorem Block.modTenant_seen {f : Tenant → Tenant} (h : Area.sub [.tenants] M = true)
    (hf : Keeps Tenant.quotas f) : (b.modTenant n f).seen M = b.seen M := by
  have e : (fun m => ((b.modTenant n f).tenant m).quotas) = fun m => (b.tenant m).quotas := by
    funext m
    by_cases hm : m = n
    · subst hm; simp [hf _]
    · simp [Block.tenant_modTenant_of_ne hm]
  simp [Block.seen, Area.see, Area.mem_of_sub h, e, Block.station, Block.chan]

/-- Any update of an owner. -/
theorem Block.modTenant_seen_all {f : Tenant → Tenant} (h : Area.sub [.tenants, .quotas] M = true) :
    (b.modTenant n f).seen M = b.seen M := by
  have h1 := Area.sub_iff.1 h .tenants (by simp)
  have h2 := Area.sub_iff.1 h .quotas (by simp)
  simp [Block.seen, Area.see, h1, h2, Block.station, Block.chan]

/-- An update of the Mash array that leaves its maps alone. -/
theorem Block.modMash_seen {f : Mash → Mash} (h : Area.sub [.mash] M = true)
    (hf : Keeps Mash.maps f) : (b.modMash f).seen M = b.seen M := by
  simp [Block.seen, Area.see, Area.mem_of_sub h, hf _, Block.station, Block.tenant, Block.chan]

/-- Any update of the Mash array. -/
theorem Block.modMash_seen_all {f : Mash → Mash} (h : Area.sub [.mash, .maps] M = true) :
    (b.modMash f).seen M = b.seen M := by
  have h1 := Area.sub_iff.1 h .mash (by simp)
  have h2 := Area.sub_iff.1 h .maps (by simp)
  simp [Block.seen, Area.see, h1, h2, Block.station, Block.tenant, Block.chan]

theorem Block.modSlot_seen {f : LoopSlot → LoopSlot} (h : Area.sub [.mash] M = true) :
    (b.modSlot n f).seen M = b.seen M := Block.modMash_seen h (fun _ => rfl)

/-- An update of the Assay side that leaves its tables alone. -/
theorem Block.modAssay_seen {f : Assay → Assay} (h : Area.sub [.assay] M = true)
    (hf : Keeps Assay.tables f) : (b.modAssay f).seen M = b.seen M := by
  simp [Block.seen, Area.see, Area.mem_of_sub h, hf _, Block.station, Block.tenant, Block.chan]

/-- Any update of the Assay side. -/
theorem Block.modAssay_seen_all {f : Assay → Assay} (h : Area.sub [.assay, .profiles] M = true) :
    (b.modAssay f).seen M = b.seen M := by
  have h1 := Area.sub_iff.1 h .assay (by simp)
  have h2 := Area.sub_iff.1 h .profiles (by simp)
  simp [Block.seen, Area.see, h1, h2, Block.station, Block.tenant, Block.chan]

theorem Block.modUnit_seen {f : AsyUnit → AsyUnit} (h : Area.sub [.assay] M = true) :
    (b.modUnit n f).seen M = b.seen M := Block.modAssay_seen h (fun _ => rfl)

/-- An update of the drain engine that leaves the rings and windows alone. -/
theorem Block.modSparge_seen {f : Sparge → Sparge} (h : Area.sub [.sparge] M = true)
    (hf : Keeps Sparge.chans f) : (b.modSparge f).seen M = b.seen M := by
  simp [Block.seen, Area.see, Area.mem_of_sub h, hf _, Block.station, Block.tenant, Block.chan]

/-- An update of a channel that leaves its ring and window alone. -/
theorem Block.modChan_seen {f : Channel → Channel} (h : Area.sub [.sparge] M = true)
    (hf : Keeps Channel.rings f) : (b.modChan n f).seen M = b.seen M := by
  have e : (fun m => ((b.modChan n f).chan m).rings) = fun m => (b.chan m).rings := by
    funext m
    by_cases hm : m = n
    · subst hm; simp [hf _]
    · simp [Block.chan_modChan_of_ne hm]
  simp [Block.seen, Area.see, Area.mem_of_sub h, e, Block.station, Block.tenant]

/-- Any update of a channel. -/
theorem Block.modChan_seen_all {f : Channel → Channel} (h : Area.sub [.sparge, .rings] M = true) :
    (b.modChan n f).seen M = b.seen M := by
  have h1 := Area.sub_iff.1 h .sparge (by simp)
  have h2 := Area.sub_iff.1 h .rings (by simp)
  simp [Block.seen, Area.see, h1, h2, Block.station, Block.tenant]

/-! ### Single fields -/

theorem Block.set_taps_seen {x : Tbl Tap} (h : Area.sub [.taps] M = true) :
    ({ b with taps := x } : Block).seen M = b.seen M := by
  simp [Block.seen, Area.see, Area.mem_of_sub h, Block.station, Block.tenant, Block.chan]

theorem Block.set_views_seen {x : Tbl TapView} (h : Area.sub [.views] M = true) :
    ({ b with views := x } : Block).seen M = b.seen M := by
  simp [Block.seen, Area.see, Area.mem_of_sub h, Block.station, Block.tenant, Block.chan]

theorem Block.set_quads_seen {x : Tbl Quadrant} (h : Area.sub [.quads] M = true) :
    ({ b with quads := x } : Block).seen M = b.seen M := by
  simp [Block.seen, Area.see, Area.mem_of_sub h, Block.station, Block.tenant, Block.chan]

theorem Block.set_ctxs_seen {x : Tbl Word} (h : Area.sub [.ctxs] M = true) :
    ({ b with ctxs := x } : Block).seen M = b.seen M := by
  simp [Block.seen, Area.see, Area.mem_of_sub h, Block.station, Block.tenant, Block.chan]

theorem Block.set_cask_seen {x : Cask} (h : Area.sub [.cask] M = true) :
    ({ b with cask := x } : Block).seen M = b.seen M := by
  simp [Block.seen, Area.see, Area.mem_of_sub h, Block.station, Block.tenant, Block.chan]

theorem Block.set_freezes_seen {x : Tbl Freeze} (h : Area.sub [.freezes] M = true) :
    ({ b with freezes := x } : Block).seen M = b.seen M := by
  simp [Block.seen, Area.see, Area.mem_of_sub h, Block.station, Block.tenant, Block.chan]

theorem Block.set_freezeNext_seen {x : Nat} (h : Area.sub [.freezes] M = true) :
    ({ b with freezeNext := x } : Block).seen M = b.seen M := by
  simp [Block.seen, Area.see, Area.mem_of_sub h, Block.station, Block.tenant, Block.chan]

theorem Block.set_freezeLimitUs_seen {x : Nat} (h : Area.sub [.freezes] M = true) :
    ({ b with freezeLimitUs := x } : Block).seen M = b.seen M := by
  simp [Block.seen, Area.see, Area.mem_of_sub h, Block.station, Block.tenant, Block.chan]

theorem Block.set_ports_seen {x : Tbl Port} (h : Area.sub [.ports] M = true) :
    ({ b with ports := x } : Block).seen M = b.seen M := by
  simp [Block.seen, Area.see, Area.mem_of_sub h, Block.station, Block.tenant, Block.chan]

theorem Block.set_hop_seen {x : Hop} (h : Area.sub [.hop] M = true) :
    ({ b with hop := x } : Block).seen M = b.seen M := by
  simp [Block.seen, Area.see, Area.mem_of_sub h, Block.station, Block.tenant, Block.chan]

theorem Block.set_meas_seen {x : Meas} (h : Area.sub [.meas] M = true) :
    ({ b with meas := x } : Block).seen M = b.seen M := by
  simp [Block.seen, Area.see, Area.mem_of_sub h, Block.station, Block.tenant, Block.chan]

theorem Block.set_power_seen {x : Power} (h : Area.sub [.power] M = true) :
    ({ b with power := x } : Block).seen M = b.seen M := by
  simp [Block.seen, Area.see, Area.mem_of_sub h, Block.station, Block.tenant, Block.chan]

theorem Block.set_time_seen {x : Time} (h : Area.sub [.time] M = true) :
    ({ b with time := x } : Block).seen M = b.seen M := by
  simp [Block.seen, Area.see, Area.mem_of_sub h, Block.station, Block.tenant, Block.chan]

theorem Block.set_recs_seen {x : List Rec} (h : Area.sub [.recs] M = true) :
    ({ b with recs := x } : Block).seen M = b.seen M := by
  simp [Block.seen, Area.see, Area.mem_of_sub h, Block.station, Block.tenant, Block.chan]

theorem Block.set_held_seen {x : List (Bool × Acc × Gt)} (h : Area.sub [.held] M = true) :
    ({ b with held := x } : Block).seen M = b.seen M := by
  simp [Block.seen, Area.see, Area.mem_of_sub h, Block.station, Block.tenant, Block.chan]

theorem Block.set_lo_seen {x : Tbl (Nat × List Word)} (h : Area.sub [.lo] M = true) :
    ({ b with lo := x } : Block).seen M = b.seen M := by
  simp [Block.seen, Area.see, Area.mem_of_sub h, Block.station, Block.tenant, Block.chan]

theorem Block.set_out_seen {x : List Out} (h : Area.sub [.out] M = true) :
    ({ b with out := x } : Block).seen M = b.seen M := by
  simp [Block.seen, Area.see, Area.mem_of_sub h, Block.station, Block.tenant, Block.chan]

theorem Block.set_freeCtr_seen {x : Nat} (h : Area.sub [.free] M = true) :
    ({ b with freeCtr := x } : Block).seen M = b.seen M := by
  simp [Block.seen, Area.see, Area.mem_of_sub h, Block.station, Block.tenant, Block.chan]

theorem Block.set_sync_seen {x : Sync} (h : Area.sub [.sync] M = true) :
    ({ b with sync := x } : Block).seen M = b.seen M := by
  simp [Block.seen, Area.see, Area.mem_of_sub h, Block.station, Block.tenant, Block.chan]

end Sys2Proof.Machine
end

