-- ==== Sys2Proof/Laws/Frames.lean ====
section
/-! SUPPORT. The frame of every operation on the block: what is left to be seen when the areas that it may change
are left out (one lemma per operation). -/

namespace Sys2Proof.Machine
variable {M : List Area}



theorem Block.raise_seen {b : Block} {x1 : ℕ} {x2 : ℕ} (h : Area.sub [.tenants] M = true) :
    (Block.raise b x1 x2).seen M = b.seen M := by
  unfold Block.raise
  repeat' first
    | ((with_reducible refine Keeps.of ?_); intro x; first | rfl | (repeat' split) <;> rfl | (dsimp only; (repeat'
        split) <;> rfl))
    | rw [Block.modTenant_seen (Area.sub_trans (by decide) h)]

theorem Block.loss_seen {b : Block} {x1 : Nat} (h : Area.sub [.tenants, .power] M = true) :
    (Block.loss b x1).seen M = b.seen M := by
  unfold Block.loss
  repeat' first
    | with_reducible rfl
    | (with_reducible intro _)
    | exact Keeps.of (fun _ => rfl)
    | ((with_reducible refine Keeps.of ?_); intro x; first | rfl | (repeat' split) <;> rfl | (dsimp only; (repeat'
        split) <;> rfl))
    | with_reducible refine Block.seen_ite ?_ ?_
    | rw [Block.raise_seen (Area.sub_trans (by decide) h)]
    | rw [Block.modPower_seen (Area.sub_trans (by decide) h)]
    | rw [Block.each_seen]
    | rw [Block.foldl_seen]
    | rw [Block.foldl_snd_seen]
    | dsimp only
    | split

theorem Block.requestWake_seen {b : Block} {x1 : Nat} (h : Area.sub [.power] M = true) :
    (Block.requestWake b x1).seen M = b.seen M := by
  unfold Block.requestWake
  repeat' first
    | with_reducible rfl
    | (with_reducible intro _)
    | exact Keeps.of (fun _ => rfl)
    | ((with_reducible refine Keeps.of ?_); intro x; first | rfl | (repeat' split) <;> rfl | (dsimp only; (repeat'
        split) <;> rfl))
    | with_reducible refine Block.seen_ite ?_ ?_
    | rw [Block.modPower_seen (Area.sub_trans (by decide) h)]
    | rw [Block.each_seen]
    | rw [Block.foldl_seen]
    | rw [Block.foldl_snd_seen]
    | dsimp only
    | split

theorem Block.takeFree_seen {b : Block} (h : Area.sub [.free] M = true) :
    (Block.takeFree b).2.seen M = b.seen M := by
  unfold Block.takeFree
  repeat' first
    | (rw [Block.set_freeCtr_seen (Area.sub_trans (by decide) h)])

theorem Block.takeFree_seen' {b : Block} {y : _} {b' : Block} (h : Area.sub [.free] M = true)
    (e : (Block.takeFree b) = (y, b')) : b'.seen M = b.seen M := by
  have g := Block.takeFree_seen (M := M) h (b := b)
  rwa [e] at g

theorem Block.violation_seen {b : Block} {x1 : ℕ} (h : Area.sub [.tenants, .power] M = true) :
    (Block.violation b x1).seen M = b.seen M := by
  unfold Block.violation
  repeat' first
    | exact Keeps.of (fun _ => rfl)
    | with_reducible refine Block.seen_ite ?_ ?_
    | rw [Block.raise_seen (Area.sub_trans (by decide) h)]
    | rw [Block.modPower_seen (Area.sub_trans (by decide) h)]
    | rw [Block.modTenant_seen (Area.sub_trans (by decide) h)]

theorem Block.reclaimExcess_seen {b : Block} {x1 : ℕ} {r : Nat × Block} (h : Area.sub [.tenants, .power] M = true) (e
    : (Block.reclaimExcess b x1) = some r) :
    r.2.seen M = b.seen M := by
  unfold Block.reclaimExcess at e
  split at e
  · cases e
  · obtain ⟨p, -, rfl⟩ := Option.map_eq_some_iff.1 e
    exact (Block.loss_seen (Area.sub_trans (by decide) h)).trans
      (Block.modTenant_seen (Area.sub_trans (by decide) h) (fun _ => rfl))

theorem Block.reclaimExcess_seen' {b : Block} {x1 : ℕ} {q : Nat} {b' : Block} (h : Area.sub [.tenants, .power] M =
    true) (e : (Block.reclaimExcess b x1) = some (q, b')) :
    b'.seen M = b.seen M := Block.reclaimExcess_seen h e

theorem Block.evictOwn_seen {b : Block} {x1 : ℕ} {x2 : ℕ} {r : Nat × Block} (h : Area.sub [.tenants] M = true) (e :
    (Block.evictOwn b x1 x2) = some r) :
    r.2.seen M = b.seen M := by
  unfold Block.evictOwn at e
  dsimp only at e
  split at e
  · cases e
  · obtain ⟨p, -, rfl⟩ := Option.map_eq_some_iff.1 e
    exact Block.modTenant_seen (Area.sub_trans (by decide) h) (fun _ => rfl)

theorem Block.evictOwn_seen' {b : Block} {x1 : ℕ} {x2 : ℕ} {q : Nat} {b' : Block} (h : Area.sub [.tenants] M = true)
    (e : (Block.evictOwn b x1 x2) = some (q, b')) :
    b'.seen M = b.seen M := Block.evictOwn_seen h e

theorem Block.pickPage_seen {b : Block} {x1 : ℕ} {x2 : ℕ} {r : Nat × Block} (h : Area.sub [.tenants, .power] M =
    true) (e : (Block.pickPage b x1 x2) = some r) :
    r.2.seen M = b.seen M := by
  unfold Block.pickPage at e
  split at e
  · split at e
    · cases e; rfl
    · split at e
      · cases e; exact Block.reclaimExcess_seen (Area.sub_trans (by decide) h) (by assumption)
      · exact Block.evictOwn_seen (Area.sub_trans (by decide) h) e
  · exact Block.evictOwn_seen (Area.sub_trans (by decide) h) e

theorem Block.pickPage_seen' {b : Block} {x1 : ℕ} {x2 : ℕ} {q : Nat} {b' : Block} (h : Area.sub [.tenants, .power] M
    = true) (e : (Block.pickPage b x1 x2) = some (q, b')) :
    b'.seen M = b.seen M := Block.pickPage_seen h e

theorem Block.openAt_seen {b : Block} {x1 : ℕ} {x2 : ℕ} {x3 : ℕ} {x4 : Bool} {x5 : Bool} (h : Area.sub [.cask,
    .tenants] M = true) :
    (Block.openAt b x1 x2 x3 x4 x5).seen M = b.seen M := by
  unfold Block.openAt
  repeat' first
    | exact Keeps.of (fun _ => rfl)
    | rw [Block.modPage_seen (Area.sub_trans (by decide) h)]
    | rw [Block.modTenant_seen (Area.sub_trans (by decide) h)]
    | rw [Block.modCask_seen (Area.sub_trans (by decide) h)]

theorem Block.obtainPage_seen {b : Block} {x1 : ℕ} {x2 : ℕ} {x3 : Bool} {x4 : Bool} {r : Nat × Block} (h : Area.sub
    [.cask, .tenants, .power] M = true) (e : (Block.obtainPage b x1 x2 x3 x4) = some r) :
    r.2.seen M = b.seen M := by
  unfold Block.obtainPage at e
  cases g : b.pickPage x1 x2 with
  | none => rw [g] at e; cases e
  | some p =>
    rw [g] at e
    cases e
    exact (Block.openAt_seen (Area.sub_trans (by decide) h)).trans (Block.pickPage_seen (Area.sub_trans (by decide)
        h) g)

theorem Block.obtainPage_seen' {b : Block} {x1 : ℕ} {x2 : ℕ} {x3 : Bool} {x4 : Bool} {q : Nat} {b' : Block} (h :
    Area.sub [.cask, .tenants, .power] M = true) (e : (Block.obtainPage b x1 x2 x3 x4) = some (q, b')) :
    b'.seen M = b.seen M := Block.obtainPage_seen h e

theorem Block.closePage_seen {b : Block} {x1 : ℕ} (h : Area.sub [.cask] M = true) :
    (Block.closePage b x1).seen M = b.seen M := by
  unfold Block.closePage
  repeat' first
    | (rw [Block.modPage_seen (Area.sub_trans (by decide) h)])

theorem Block.refuse_seen {b : Block} {x1 : ℕ} (h : Area.sub [.tenants, .power] M = true) :
    (Block.refuse b x1).seen M = b.seen M := by
  unfold Block.refuse
  repeat' first
    | exact Keeps.of (fun _ => rfl)
    | rw [Block.modTenant_seen (Area.sub_trans (by decide) h)]
    | rw [Block.loss_seen (Area.sub_trans (by decide) h)]

theorem Block.writeSlot_seen {b : Block} {x1 : ℕ} {x2 : WUnit} (h : Area.sub [.cask] M = true) :
    (Block.writeSlot b x1 x2).seen M = b.seen M := by
  unfold Block.writeSlot
  repeat' first
    | with_reducible refine Block.seen_ite ?_ ?_
    | rw [Block.modPage_seen (Area.sub_trans (by decide) h)]
    | rw [Block.closePage_seen (Area.sub_trans (by decide) h)]

theorem Block.admit_seen {b : Block} {x1 : WUnit} (h : Area.sub [.cask, .tenants, .power] M = true) :
    (Block.admitUnit b x1).seen M = b.seen M := by
  unfold Block.admitUnit
  repeat' first
    | (refine ((Block.obtainPage_seen (Area.sub_trans (by decide) h) (by assumption)).trans ?_))
    | (refine ((Block.obtainPage_seen' (Area.sub_trans (by decide) h) (by assumption)).trans ?_))
    | rw [Block.closePage_seen (Area.sub_trans (by decide) h)]
    | rw [Block.refuse_seen (Area.sub_trans (by decide) h)]
    | rw [Block.modCask_seen (Area.sub_trans (by decide) h)]
    | rw [Block.writeSlot_seen (Area.sub_trans (by decide) h)]
    | rw [Block.loss_seen (Area.sub_trans (by decide) h)]
    | rw [Block.each_seen]
    | rw [Block.foldl_seen]
    | rw [Block.foldl_snd_seen]
    | dsimp only
    | split

theorem Block.closeOpen_seen {b : Block} {x1 : ℕ} (h : Area.sub [.cask] M = true) :
    (Block.closeOpen b x1).seen M = b.seen M := by
  unfold Block.closeOpen
  repeat' first
    | (with_reducible intro _)
    | rw [Block.closePage_seen (Area.sub_trans (by decide) h)]
    | rw [Block.each_seen]

theorem Block.freePage_seen {b : Block} {x1 : ℕ} (h : Area.sub [.cask] M = true) :
    (Block.freePage b x1).seen M = b.seen M := by
  unfold Block.freePage
  repeat' first
    | (rw [Block.modPage_seen (Area.sub_trans (by decide) h)])

theorem truncatePre_seen {x0 : ℕ} {b : Block} {x2 : ℕ} (h : Area.sub [.cask, .tenants] M = true) :
    (truncatePre x0 b x2).seen M = b.seen M := by
  induction x0 generalizing b x2 with
  | zero => rfl
  | succ k ih =>
    unfold truncatePre
    repeat' first
      | rw [ih]
      | exact Keeps.of (fun _ => rfl)
      | rw [Block.modTenant_seen (Area.sub_trans (by decide) h)]
      | rw [Block.freePage_seen (Area.sub_trans (by decide) h)]
      | rw [Block.each_seen]
      | rw [Block.foldl_seen]
      | rw [Block.foldl_snd_seen]
      | dsimp only
      | split

theorem Block.caskTrigger_seen {b : Block} {x1 : ℕ} {x2 : ℕ} (h : Area.sub [.cask, .tenants] M = true) :
    (Block.caskTrigger b x1 x2).seen M = b.seen M := by
  unfold Block.caskTrigger
  repeat' first
    | (with_reducible intro _)
    | exact Keeps.of (fun _ => rfl)
    | rw [Block.modPage_seen (Area.sub_trans (by decide) h)]
    | rw [Block.modTenant_seen (Area.sub_trans (by decide) h)]
    | rw [Block.closeOpen_seen (Area.sub_trans (by decide) h)]
    | rw [truncatePre_seen (Area.sub_trans (by decide) h)]
    | rw [Block.each_seen]

theorem Block.drainDone_seen {b : Block} {x1 : Nat} (h : Area.sub [.cask, .tenants, .power] M = true) :
    (Block.drainDone b x1).seen M = b.seen M := by
  unfold Block.drainDone
  repeat' first
    | with_reducible rfl
    | (with_reducible intro _)
    | exact Keeps.of (fun _ => rfl)
    | ((with_reducible refine Keeps.of ?_); intro x; first | rfl | (repeat' split) <;> rfl | (dsimp only; (repeat'
        split) <;> rfl))
    | with_reducible refine Block.seen_ite ?_ ?_
    | rw [Block.modPage_seen (Area.sub_trans (by decide) h)]
    | rw [Block.freePage_seen (Area.sub_trans (by decide) h)]
    | rw [Block.modCask_seen (Area.sub_trans (by decide) h)]
    | rw [Block.loss_seen (Area.sub_trans (by decide) h)]
    | rw [Block.each_seen]
    | rw [Block.foldl_seen]
    | rw [Block.foldl_snd_seen]
    | dsimp only
    | split

theorem Block.drainUndo_seen {b : Block} {x1 : Nat} (h : Area.sub [.cask, .tenants, .power] M = true) :
    (Block.drainUndo b x1).seen M = b.seen M := by
  unfold Block.drainUndo
  repeat' first
    | (with_reducible intro _)
    | exact Keeps.of (fun _ => rfl)
    | ((with_reducible refine Keeps.of ?_); intro x; first | rfl | (repeat' split) <;> rfl | (dsimp only; (repeat'
        split) <;> rfl))
    | with_reducible rfl
    | with_reducible refine Block.seen_ite ?_ ?_
    | rw [Block.drainDone_seen (Area.sub_trans (by decide) h)]
    | rw [Block.modPage_seen (Area.sub_trans (by decide) h)]
    | rw [Block.each_seen]
    | rw [Block.foldl_seen]
    | rw [Block.foldl_snd_seen]
    | dsimp only
    | split

theorem Block.fencePage_seen {b : Block} {x1 : ℕ} (h : Area.sub [.cask, .tenants, .power] M = true) :
    (Block.fencePage b x1).seen M = b.seen M := by
  unfold Block.fencePage
  repeat' first
    | rw [Block.modPage_seen (Area.sub_trans (by decide) h)]
    | rw [Block.modCask_seen (Area.sub_trans (by decide) h)]
    | rw [Block.loss_seen (Area.sub_trans (by decide) h)]
    | rw [Block.each_seen]
    | rw [Block.foldl_seen]
    | rw [Block.foldl_snd_seen]
    | dsimp only
    | split

theorem Block.quotaCut_seen {b : Block} {x1 : ℕ} {x2 : ℕ} (h : Area.sub [.tenants] M = true) :
    (Block.quotaCut b x1 x2).seen M = b.seen M := by
  unfold Block.quotaCut
  repeat' first
    | with_reducible rfl
    | exact Keeps.of (fun _ => rfl)
    | with_reducible refine Block.seen_ite ?_ ?_
    | rw [Block.raise_seen (Area.sub_trans (by decide) h)]
    | rw [Block.modTenant_seen (Area.sub_trans (by decide) h)]

theorem Block.noteBad_seen {b : Block} {x1 x2 : Nat} (h : Area.sub [.cask] M = true) :
    (Block.noteBad b x1 x2).seen M = b.seen M := by
  unfold Block.noteBad
  rw [Block.modCask_seen (Area.sub_trans (by decide) h)]

theorem Block.fenceMacro_seen {b : Block} {x1 : ℕ} (h : Area.sub [.cask, .tenants, .power] M = true) :
    (Block.fenceMacro b x1).seen M = b.seen M := by
  unfold Block.fenceMacro
  repeat' first
    | with_reducible rfl
    | (with_reducible intro _)
    | with_reducible refine Block.seen_ite ?_ ?_
    | rw [Block.raise_seen (Area.sub_trans (by decide) h)]
    | rw [Block.fencePage_seen (Area.sub_trans (by decide) h)]
    | rw [Block.quotaCut_seen (Area.sub_trans (by decide) h)]
    | rw [Block.modCask_seen (Area.sub_trans (by decide) h)]
    | rw [Block.each_seen]

theorem Block.holdBegin_seen {b : Block} {x1 : ℕ} (h : Area.sub [.cask, .tenants] M = true) :
    (Block.holdBegin b x1).seen M = b.seen M := by
  unfold Block.holdBegin
  repeat' first
    | (with_reducible intro _)
    | exact Keeps.of (fun _ => rfl)
    | rw [Block.modPage_seen (Area.sub_trans (by decide) h)]
    | rw [Block.modTenant_seen (Area.sub_trans (by decide) h)]
    | rw [Block.closeOpen_seen (Area.sub_trans (by decide) h)]
    | rw [Block.each_seen]

theorem Block.holdEnd_seen {b : Block} {x1 : Nat} (h : Area.sub [.cask, .tenants] M = true) :
    (Block.holdEnd b x1).seen M = b.seen M := by
  unfold Block.holdEnd
  repeat' first
    | with_reducible rfl
    | ((with_reducible refine Keeps.of ?_); intro x; first | rfl | (repeat' split) <;> rfl | (dsimp only; (repeat'
        split) <;> rfl))
    | with_reducible refine Block.seen_ite ?_ ?_
    | (with_reducible intro _)
    | exact Keeps.of (fun _ => rfl)
    | rw [Block.modPage_seen (Area.sub_trans (by decide) h)]
    | rw [Block.modTenant_seen (Area.sub_trans (by decide) h)]
    | rw [Block.each_seen]
    | rw [Block.foldl_seen]
    | rw [Block.foldl_snd_seen]
    | dsimp only
    | split

theorem Block.seqLeft_seen {b : Block} {x1 : ℕ} (h : Area.sub [.cask, .tenants] M = true) :
    (Block.seqLeft b x1).seen M = b.seen M := by
  unfold Block.seqLeft
  repeat' first
    | with_reducible rfl
    | exact Keeps.of (fun _ => rfl)
    | with_reducible refine Block.seen_ite ?_ ?_
    | rw [Block.modTenant_seen (Area.sub_trans (by decide) h)]
    | rw [Block.holdBegin_seen (Area.sub_trans (by decide) h)]

theorem Block.takePage_seen {b : Block} {x1 : ℕ} {x2 : Bool} (h : Area.sub [.cask] M = true) :
    (Block.takePage b x1 x2).seen M = b.seen M := by
  unfold Block.takePage
  repeat' first
    | (rw [Block.modPage_seen (Area.sub_trans (by decide) h)])

theorem Block.needFull_seen {b : Block} {x1 : ℕ} {x2 : List ℕ} (h : Area.sub [.taps, .views] M = true) :
    (Block.needFull b x1 x2).seen M = b.seen M := by
  unfold Block.needFull
  repeat' first
    | (with_reducible intro _)
    | rw [Block.modTap_seen (Area.sub_trans (by decide) h)]
    | rw [Block.modView_seen (Area.sub_trans (by decide) h)]
    | rw [Block.each_seen]

theorem Block.enqueue_seen {b : Block} {x1 : ℕ} {x2 : WUnit} (h : Area.sub [.taps, .views, .stations, .tenants,
    .power] M = true) :
    (Block.enqueue b x1 x2).2.seen M = b.seen M := by
  unfold Block.enqueue
  repeat' first
    | exact Keeps.of (fun _ => rfl)
    | rw [Block.modStation_seen (Area.sub_trans (by decide) h)]
    | rw [Block.needFull_seen (Area.sub_trans (by decide) h)]
    | rw [Block.loss_seen (Area.sub_trans (by decide) h)]
    | rw [Block.each_seen]
    | rw [Block.foldl_seen]
    | rw [Block.foldl_snd_seen]
    | dsimp only
    | split

theorem Block.enqueue_seen' {b : Block} {x1 : ℕ} {x2 : WUnit} {y : _} {b' : Block} (h : Area.sub [.taps, .views,
    .stations, .tenants, .power] M = true)
    (e : (Block.enqueue b x1 x2) = (y, b')) : b'.seen M = b.seen M := by
  have g := Block.enqueue_seen (M := M) h (b := b) (x1 := x1) (x2 := x2)
  rwa [e] at g

theorem Block.closeRaw_seen {b : Block} {x1 : ℕ} {x2 : OpenUnit} {x3 : Bool} (h : Area.sub [.taps, .views, .stations,
    .tenants, .power] M = true) :
    (Block.closeRaw b x1 x2 x3).2.seen M = b.seen M := by
  unfold Block.closeRaw
  repeat' first
    | exact Keeps.of (fun _ => rfl)
    | rw [Block.modStation_seen (Area.sub_trans (by decide) h)]
    | rw [Block.enqueue_seen (Area.sub_trans (by decide) h)]

theorem Block.closeRaw_seen' {b : Block} {x1 : ℕ} {x2 : OpenUnit} {x3 : Bool} {y : _} {b' : Block} (h : Area.sub
    [.taps, .views, .stations, .tenants, .power] M = true)
    (e : (Block.closeRaw b x1 x2 x3) = (y, b')) : b'.seen M = b.seen M := by
  have g := Block.closeRaw_seen (M := M) h (b := b) (x1 := x1) (x2 := x2) (x3 := x3)
  rwa [e] at g

theorem Block.closeOwnerRaw_seen {b : Block} {x1 : ℕ} {x2 : ℕ} (h : Area.sub [.taps, .views, .stations, .tenants,
    .power] M = true) :
    (Block.closeOwnerRaw b x1 x2).seen M = b.seen M := by
  unfold Block.closeOwnerRaw
  repeat' first
    | (with_reducible intro _)
    | rw [Block.closeRaw_seen (Area.sub_trans (by decide) h)]
    | (refine ((Block.closeRaw_seen' (Area.sub_trans (by decide) h) (by assumption)).trans ?_))
    | rw [Block.each_seen]

theorem Block.enterHold_seen {b : Block} {x1 : ℕ} (h : Area.sub [.taps, .views, .stations, .cask, .tenants, .power] M
    = true) :
    (Block.enterHold b x1).seen M = b.seen M := by
  unfold Block.enterHold
  repeat' first
    | exact Keeps.of (fun _ => rfl)
    | rw [Block.seqLeft_seen (Area.sub_trans (by decide) h)]
    | rw [Block.raise_seen (Area.sub_trans (by decide) h)]
    | rw [Block.modStation_seen (Area.sub_trans (by decide) h)]
    | rw [Block.closeOwnerRaw_seen (Area.sub_trans (by decide) h)]

theorem Block.closeUnit_seen {b : Block} {x1 : ℕ} {x2 : OpenUnit} {x3 : Bool} (h : Area.sub [.taps, .views,
    .stations, .cask, .tenants, .power] M = true) :
    (Block.closeUnit b x1 x2 x3).seen M = b.seen M := by
  unfold Block.closeUnit
  repeat' first
    | exact Keeps.of (fun _ => rfl)
    | with_reducible refine Block.seen_ite ?_ ?_
    | rw [Block.modStation_seen (Area.sub_trans (by decide) h)]
    | rw [Block.enterHold_seen (Area.sub_trans (by decide) h)]
    | rw [Block.closeRaw_seen (Area.sub_trans (by decide) h)]

theorem Block.roomFor_seen {b : Block} {x1 : ℕ} (h : Area.sub [.taps, .views, .stations, .cask, .tenants, .power] M =
    true) :
    (Block.roomFor b x1).seen M = b.seen M := by
  unfold Block.roomFor
  repeat' first
    | rw [Block.closeUnit_seen (Area.sub_trans (by decide) h)]
    | rw [Block.each_seen]
    | rw [Block.foldl_seen]
    | rw [Block.foldl_snd_seen]
    | dsimp only
    | split

theorem Block.writeOpen_seen {b : Block} {x1 : ℕ} {x2 : OpenUnit} {x3 : List Byte} {x4 : Option ℕ} {x5 : Bool} (h :
    Area.sub [.taps, .views, .stations, .cask, .tenants, .power] M = true) :
    (Block.writeOpen b x1 x2 x3 x4 x5).seen M = b.seen M := by
  unfold Block.writeOpen
  repeat' first
    | exact Keeps.of (fun _ => rfl)
    | with_reducible refine Block.seen_ite ?_ ?_
    | rw [Block.modStation_seen (Area.sub_trans (by decide) h)]
    | rw [Block.closeUnit_seen (Area.sub_trans (by decide) h)]

theorem Block.place_seen {b : Block} {x1 : ℕ} {x2 : ℕ} {x3 : ℕ} {x4 : List Byte} {x5 : Option ℕ} {x6 : Bool} (h :
    Area.sub [.taps, .views, .stations, .cask, .tenants, .power] M = true) :
    (Block.place b x1 x2 x3 x4 x5 x6).seen M = b.seen M := by
  unfold Block.place
  repeat' first
    | rw [Block.roomFor_seen (Area.sub_trans (by decide) h)]
    | rw [Block.closeUnit_seen (Area.sub_trans (by decide) h)]
    | rw [Block.writeOpen_seen (Area.sub_trans (by decide) h)]
    | rw [Block.each_seen]
    | rw [Block.foldl_seen]
    | rw [Block.foldl_snd_seen]
    | split

theorem Block.alignTo_seen {b : Block} {x1 : ℕ} {x2 : ℕ} (h : Area.sub [.taps, .views, .stations, .cask, .tenants,
    .power] M = true) :
    (Block.alignTo b x1 x2).seen M = b.seen M := by
  unfold Block.alignTo
  repeat' first
    | with_reducible rfl
    | exact Keeps.of (fun _ => rfl)
    | with_reducible refine Block.seen_ite ?_ ?_
    | rw [Block.modStation_seen (Area.sub_trans (by decide) h)]
    | rw [Block.place_seen (Area.sub_trans (by decide) h)]

theorem Block.closeAll_seen {b : Block} {x1 : ℕ} (h : Area.sub [.taps, .views, .stations, .cask, .tenants, .power] M
    = true) :
    (Block.closeAll b x1).seen M = b.seen M := by
  unfold Block.closeAll
  repeat' first
    | (with_reducible intro _)
    | rw [Block.closeUnit_seen (Area.sub_trans (by decide) h)]
    | rw [Block.each_seen]
    | rw [Block.foldl_seen]
    | rw [Block.foldl_snd_seen]
    | dsimp only
    | split

theorem Block.closeOwner_seen {b : Block} {x1 : ℕ} {x2 : ℕ} (h : Area.sub [.taps, .views, .stations, .cask, .tenants,
    .power] M = true) :
    (Block.closeOwner b x1 x2).seen M = b.seen M := by
  unfold Block.closeOwner
  repeat' first
    | (with_reducible intro _)
    | rw [Block.closeUnit_seen (Area.sub_trans (by decide) h)]
    | rw [Block.each_seen]
    | rw [Block.foldl_seen]
    | rw [Block.foldl_snd_seen]
    | dsimp only
    | split

theorem Block.markLive_seen {b : Block} {x1 : ℕ} {x2 : ℕ} (h : Area.sub [.stations] M = true) :
    (Block.markLive b x1 x2).seen M = b.seen M := by
  unfold Block.markLive
  repeat' first
    | exact Keeps.of (fun _ => rfl)
    | rw [Block.modStation_seen (Area.sub_trans (by decide) h)]

theorem Block.markerTo_seen {b : Block} {x1 : ℕ} {x2 : ℕ} {x3 : List Byte} (h : Area.sub [.taps, .views, .stations,
    .cask, .tenants, .power] M = true) :
    (Block.markerTo b x1 x2 x3).seen M = b.seen M := by
  unfold Block.markerTo
  repeat' first
    | rw [Block.place_seen (Area.sub_trans (by decide) h)]
    | rw [Block.alignTo_seen (Area.sub_trans (by decide) h)]

theorem Block.advanceEpoch_seen {b : Block} {x1 : ℕ} (h : Area.sub [.taps, .views, .stations, .cask, .tenants,
    .power, .time] M = true) :
    (Block.advanceEpoch b x1).seen M = b.seen M := by
  unfold Block.advanceEpoch
  repeat' first
    | (with_reducible intro _)
    | rw [Block.modTime_seen (Area.sub_trans (by decide) h)]
    | rw [Block.alignTo_seen (Area.sub_trans (by decide) h)]
    | rw [Block.each_seen]

theorem Block.prunePkts_seen {b : Block} {x1 : ℕ} (h : Area.sub [.stations] M = true) :
    (Block.prunePkts b x1).seen M = b.seen M := by
  unfold Block.prunePkts
  repeat' first
    | exact Keeps.of (fun _ => rfl)
    | rw [Block.modStation_seen (Area.sub_trans (by decide) h)]

theorem Block.timeTo_seen {b : Block} {x1 : ℕ} {x2 : ℕ} {x3 : TimePkt} (h : Area.sub [.taps, .views, .stations,
    .cask, .tenants, .power] M = true) :
    (Block.timeTo b x1 x2 x3).seen M = b.seen M := by
  unfold Block.timeTo
  repeat' first
    | exact Keeps.of (fun _ => rfl)
    | rw [Block.modStation_seen (Area.sub_trans (by decide) h)]
    | rw [Block.markerTo_seen (Area.sub_trans (by decide) h)]

theorem Block.issueStrobe_seen {b : Block} {x1 : ℕ} {x2 : ℕ} {x3 : List ℕ} {x4 : ℤ} (h : Area.sub [.taps, .views,
    .stations, .cask, .tenants, .power, .time] M = true) :
    (Block.issueStrobe b x1 x2 x3 x4).seen M = b.seen M := by
  unfold Block.issueStrobe
  repeat' first
    | (with_reducible intro _)
    | exact Keeps.of (fun _ => rfl)
    | with_reducible refine Block.seen_ite ?_ ?_
    | rw [Block.prunePkts_seen (Area.sub_trans (by decide) h)]
    | rw [Block.modStation_seen (Area.sub_trans (by decide) h)]
    | rw [Block.modTap_seen (Area.sub_trans (by decide) h)]
    | rw [Block.modTime_seen (Area.sub_trans (by decide) h)]
    | rw [Block.timeTo_seen (Area.sub_trans (by decide) h)]
    | rw [Block.each_seen]

theorem Block.newInterval_seen {b : Block} {x1 : ℕ} (h : Area.sub [.stations] M = true) :
    (Block.newInterval b x1).seen M = b.seen M := by
  unfold Block.newInterval
  repeat' first
    | exact Keeps.of (fun _ => rfl)
    | rw [Block.modStation_seen (Area.sub_trans (by decide) h)]

theorem Block.strobe_seen {b : Block} {x1 : ℕ} {x2 : ℕ} {x3 : List ℕ} {x4 : ℤ} (h : Area.sub [.taps, .views,
    .stations, .cask, .tenants, .power, .time] M = true) :
    (Block.strobe b x1 x2 x3 x4).seen M = b.seen M := by
  unfold Block.strobe
  repeat' first
    | with_reducible rfl
    | with_reducible refine Block.seen_ite ?_ ?_
    | rw [Block.newInterval_seen (Area.sub_trans (by decide) h)]
    | rw [Block.issueStrobe_seen (Area.sub_trans (by decide) h)]

theorem Block.measureTap_seen {b : Block} {x1 : Nat} {x2 : Nat} (h : Area.sub [.taps, .views, .stations, .cask,
    .tenants, .power, .time] M = true) :
    (Block.measureTap b x1 x2).seen M = b.seen M := by
  unfold Block.measureTap
  repeat' first
    | with_reducible rfl
    | (with_reducible intro _)
    | ((with_reducible refine Keeps.of ?_); intro x; first | rfl | (repeat' split) <;> rfl | (dsimp only; (repeat'
        split) <;> rfl))
    | exact Keeps.of (fun _ => rfl)
    | with_reducible refine Block.seen_ite ?_ ?_
    | rw [Block.modStation_seen (Area.sub_trans (by decide) h)]
    | rw [Block.strobe_seen (Area.sub_trans (by decide) h)]
    | rw [Block.advanceEpoch_seen (Area.sub_trans (by decide) h)]
    | rw [Block.modView_seen (Area.sub_trans (by decide) h)]
    | rw [Block.each_seen]
    | rw [Block.foldl_seen]
    | rw [Block.foldl_snd_seen]
    | dsimp only
    | split

theorem Block.tcalRefresh_seen {b : Block} {x1 : ℕ} (h : Area.sub [.stations] M = true) :
    (Block.tcalRefresh b x1).seen M = b.seen M := by
  unfold Block.tcalRefresh
  repeat' first
    | exact Keeps.of (fun _ => rfl)
    | rw [Block.modStation_seen (Area.sub_trans (by decide) h)]

theorem Block.periodStrobe_seen {b : Block} {x1 : ℕ} (h : Area.sub [.taps, .views, .stations, .cask, .tenants,
    .power, .time] M = true) :
    (Block.periodStrobe b x1).seen M = b.seen M := by
  unfold Block.periodStrobe
  repeat' first
    | with_reducible refine Block.seen_ite ?_ ?_
    | rw [Block.newInterval_seen (Area.sub_trans (by decide) h)]
    | rw [Block.closeAll_seen (Area.sub_trans (by decide) h)]
    | rw [Block.tcalRefresh_seen (Area.sub_trans (by decide) h)]
    | rw [Block.issueStrobe_seen (Area.sub_trans (by decide) h)]

theorem Block.realign_seen {b : Block} (h : Area.sub [.taps, .views, .stations, .cask, .tenants, .power, .time] M =
    true) :
    (Block.realign b).seen M = b.seen M := by
  unfold Block.realign
  repeat' first
    | with_reducible rfl
    | with_reducible refine Block.seen_ite ?_ ?_
    | rw [Block.raise_seen (Area.sub_trans (by decide) h)]
    | rw [Block.modTime_seen (Area.sub_trans (by decide) h)]
    | rw [Block.advanceEpoch_seen (Area.sub_trans (by decide) h)]

theorem Block.regionStrobe_seen {b : Block} {x1 : ℕ} {x2 : ℕ} {x3 : ℕ} (h : Area.sub [.taps, .views, .stations,
    .cask, .tenants, .power, .time] M = true) :
    (Block.regionStrobe b x1 x2 x3).seen M = b.seen M := by
  unfold Block.regionStrobe
  repeat' first
    | exact Keeps.of (fun _ => rfl)
    | rw [Block.modStation_seen (Area.sub_trans (by decide) h)]
    | rw [Block.strobe_seen (Area.sub_trans (by decide) h)]

theorem Block.stepStrobes_seen {b : Block} {x1 : ℤ} (h : Area.sub [.taps, .views, .stations, .cask, .tenants, .power,
    .time] M = true) :
    (Block.stepStrobes b x1).seen M = b.seen M := by
  unfold Block.stepStrobes
  repeat' first
    | (with_reducible intro _)
    | rw [Block.strobe_seen (Area.sub_trans (by decide) h)]
    | rw [Block.each_seen]

theorem Block.wakeStrobes_seen {b : Block} (h : Area.sub [.taps, .views, .stations, .cask, .tenants, .power, .time] M
    = true) :
    (Block.wakeStrobes b).seen M = b.seen M := by
  unfold Block.wakeStrobes
  repeat' first
    | (with_reducible intro _)
    | rw [Block.strobe_seen (Area.sub_trans (by decide) h)]
    | rw [Block.each_seen]

theorem Block.modSeq_seen {b : Block} {x1 : ℕ} {x2 : Sequencer → Sequencer} (h : Area.sub [.stations] M = true) :
    (Block.modSeq b x1 x2).seen M = b.seen M := by
  unfold Block.modSeq
  repeat' first
    | exact Keeps.of (fun _ => rfl)
    | rw [Block.modStation_seen (Area.sub_trans (by decide) h)]

theorem Block.trigger_seen {b : Block} {x1 : Nat} {x2 : Nat} {x3 : Nat} {x4 : Nat} {x5 : Gt} (h : Area.sub [.taps,
    .views, .stations, .cask, .tenants, .power] M = true) :
    (Block.trigger b x1 x2 x3 x4 x5).seen M = b.seen M := by
  unfold Block.trigger
  repeat' first
    | with_reducible rfl
    | ((with_reducible refine Keeps.of ?_); intro x; first | rfl | (repeat' split) <;> rfl | (dsimp only; (repeat'
        split) <;> rfl))
    | (with_reducible intro _)
    | exact Keeps.of (fun _ => rfl)
    | with_reducible refine Block.seen_ite ?_ ?_
    | rw [Block.raise_seen (Area.sub_trans (by decide) h)]
    | rw [Block.modStation_seen (Area.sub_trans (by decide) h)]
    | rw [Block.closeOwner_seen (Area.sub_trans (by decide) h)]
    | rw [Block.place_seen (Area.sub_trans (by decide) h)]
    | rw [Block.caskTrigger_seen (Area.sub_trans (by decide) h)]
    | rw [Block.modSeq_seen (Area.sub_trans (by decide) h)]
    | rw [Block.alignTo_seen (Area.sub_trans (by decide) h)]
    | rw [Block.each_seen]
    | rw [Block.foldl_seen]
    | rw [Block.foldl_snd_seen]
    | dsimp only
    | split

theorem Block.rearm_seen {b : Block} {x1 : ℕ} (h : Area.sub [.stations, .cask, .tenants] M = true) :
    (Block.rearm b x1).seen M = b.seen M := by
  unfold Block.rearm
  repeat' first
    | rw [Block.holdEnd_seen (Area.sub_trans (by decide) h)]
    | rw [Block.modSeq_seen (Area.sub_trans (by decide) h)]

theorem Block.seqAct_seen {b : Block} {x1 : ℕ} {x2 : SeqAct} {x3 : SeqState} {x4 : ℕ} {x5 : ℕ} {x6 : ℕ} {x7 : Gt} (h
    : Area.sub [.taps, .views, .stations, .cask, .tenants, .power] M = true) :
    (Block.seqAct b x1 x2 x3 x4 x5 x6 x7).seen M = b.seen M := by
  unfold Block.seqAct
  repeat' first
    | rw [Block.trigger_seen (Area.sub_trans (by decide) h)]
    | rw [Block.modSeq_seen (Area.sub_trans (by decide) h)]
    | rw [Block.rearm_seen (Area.sub_trans (by decide) h)]
    | rw [Block.enterHold_seen (Area.sub_trans (by decide) h)]
    | rw [Block.each_seen]
    | rw [Block.foldl_seen]
    | rw [Block.foldl_snd_seen]
    | dsimp only
    | split

theorem Block.seqEvent_seen {b : Block} {x1 : ℕ} {x2 : CmpIn} {x3 : Gt} (h : Area.sub [.taps, .views, .stations,
    .cask, .tenants, .power] M = true) :
    (Block.seqEvent b x1 x2 x3).seen M = b.seen M := by
  unfold Block.seqEvent
  repeat' first
    | with_reducible rfl
    | with_reducible refine Block.seen_ite ?_ ?_
    | rw [Block.modSeq_seen (Area.sub_trans (by decide) h)]
    | rw [Block.seqAct_seen (Area.sub_trans (by decide) h)]

theorem Block.arrive_seen {b : Block} {x1 : Nat} {x2 : Nat} (h : Area.sub [.taps, .views, .stations, .cask,
    .tenants, .power] M = true) :
    (Block.arrive b x1 x2).seen M = b.seen M := by
  unfold Block.arrive
  repeat' first
    | with_reducible rfl
    | (with_reducible intro _)
    | ((with_reducible refine Keeps.of ?_); intro x; first | rfl | (repeat' split) <;> rfl | (dsimp only; (repeat'
        split) <;> rfl))
    | with_reducible refine Block.seen_ite ?_ ?_
    | exact Keeps.of (fun _ => rfl)
    | rw [Block.seqEvent_seen (Area.sub_trans (by decide) h)]
    | rw [Block.modStation_seen (Area.sub_trans (by decide) h)]
    | rw [Block.each_seen]
    | rw [Block.foldl_seen]
    | rw [Block.foldl_snd_seen]
    | dsimp only
    | split

theorem Block.offerEvent_seen {b : Block} {x1 : CmpIn} {x2 : Gt} {x3 : ℕ → Bool} (h : Area.sub [.taps, .views,
    .stations, .cask, .tenants, .power] M = true) :
    (Block.offerEvent b x1 x2 x3).seen M = b.seen M := by
  unfold Block.offerEvent
  repeat' first
    | (with_reducible intro _)
    | rw [Block.seqEvent_seen (Area.sub_trans (by decide) h)]
    | rw [Block.each_seen]

theorem Block.sendEvent_seen {b : Block} {x1 : CmpEvent} (h : Area.sub [.stations] M = true) :
    (Block.sendEvent b x1).seen M = b.seen M := by
  unfold Block.sendEvent
  repeat' first
    | (with_reducible intro _)
    | exact Keeps.of (fun _ => rfl)
    | rw [Block.modStation_seen (Area.sub_trans (by decide) h)]
    | rw [Block.each_seen]

theorem Block.freeFreezes_seen {b : Block} (h : Area.sub [.freezes] M = true) :
    (Block.freeFreezes b).seen M = b.seen M := by
  unfold Block.freeFreezes
  repeat' first
    | with_reducible rfl
    | (with_reducible intro _)
    | exact Keeps.of (fun _ => rfl)
    | ((with_reducible refine Keeps.of ?_); intro x; first | rfl | (repeat' split) <;> rfl | (dsimp only; (repeat'
        split) <;> rfl))
    | with_reducible refine Block.seen_ite ?_ ?_
    | rw [Block.set_freezes_seen (Area.sub_trans (by decide) h)]
    | (rw [Block.set_freezes_seen (Area.sub_trans (by decide) h)])
    | rw [Block.each_seen]
    | rw [Block.foldl_seen]
    | rw [Block.foldl_snd_seen]
    | dsimp only
    | split

theorem Block.offerRec_seen {b : Block} {x1 : Rec} (h : Area.sub [.quads, .tenants, .power] M = true) :
    (Block.offerRec b x1).seen M = b.seen M := by
  unfold Block.offerRec
  repeat' first
    | exact Keeps.of (fun _ => rfl)
    | with_reducible refine Block.seen_ite ?_ ?_
    | rw [Block.modPower_seen (Area.sub_trans (by decide) h)]
    | rw [Block.modTenant_seen (Area.sub_trans (by decide) h)]
    | rw [Block.modQuad_seen (Area.sub_trans (by decide) h)]
    | rw [Block.loss_seen (Area.sub_trans (by decide) h)]

theorem Block.queueRec_seen {b : Block} {x1 : Rec} (h : Area.sub [.recs] M = true) :
    (Block.queueRec b x1).seen M = b.seen M := by
  unfold Block.queueRec
  repeat' first
    | (rw [Block.set_recs_seen (Area.sub_trans (by decide) h)])

theorem Block.resetCredits_seen {b : Block} {x1 : ℕ} (h : Area.sub [.quads] M = true) :
    (Block.resetCredits b x1).seen M = b.seen M := by
  unfold Block.resetCredits
  repeat' first
    | (rw [Block.modQuad_seen (Area.sub_trans (by decide) h)])

theorem grantPorts_seen {x0 : ℕ} {b : Block} {x2 : ℕ} {x3 : List ℕ} (h : Area.sub [.stations, .quads, .cask,
    .tenants, .power] M = true) :
    (grantPorts x0 b x2 x3).seen M = b.seen M := by
  induction x0 generalizing b x2 x3 with
  | zero => rfl
  | succ k ih =>
    unfold grantPorts
    repeat' first
      | rw [ih]
      | exact Keeps.of (fun _ => rfl)
      | rw [Block.modStation_seen (Area.sub_trans (by decide) h)]
      | rw [Block.admit_seen (Area.sub_trans (by decide) h)]
      | rw [Block.modQuad_seen (Area.sub_trans (by decide) h)]
      | rw [Block.resetCredits_seen (Area.sub_trans (by decide) h)]
      | rw [Block.each_seen]
      | rw [Block.foldl_seen]
      | rw [Block.foldl_snd_seen]
      | dsimp only
      | split

theorem Block.scanAdvance_seen {b : Block} {x1 : Scan} {x2 : Nat} (h : Area.sub [.mash] M = true) :
    (Block.scanAdvance b x1 x2).2.seen M = b.seen M := by
  unfold Block.scanAdvance
  repeat' first
    | with_reducible rfl
    | (with_reducible intro _)
    | ((with_reducible refine Keeps.of ?_); intro x; first | rfl | (repeat' split) <;> rfl | (dsimp only; (repeat'
        split) <;> rfl))
    | with_reducible refine Block.seen_ite ?_ ?_
    | exact Keeps.of (fun _ => rfl)
    | rw [Block.modMash_seen (Area.sub_trans (by decide) h)]
    | rw [Block.each_seen]
    | rw [Block.foldl_seen]
    | rw [Block.foldl_snd_seen]
    | dsimp only
    | split

theorem Block.scanAdvance_seen' {b : Block} {x1 : Scan} {x2 : Nat} {y : _} {b' : Block} (h : Area.sub [.mash] M =
    true)
    (e : (Block.scanAdvance b x1 x2) = (y, b')) : b'.seen M = b.seen M := by
  have g := Block.scanAdvance_seen (M := M) h (b := b) (x1 := x1) (x2 := x2)
  rwa [e] at g

theorem Block.advanceScans_seen {b : Block} (h : Area.sub [.mash] M = true) :
    (Block.advanceScans b).seen M = b.seen M := by
  unfold Block.advanceScans
  repeat' first
    | (with_reducible intro _)
    | exact Keeps.of (fun _ => rfl)
    | rw [Block.scanAdvance_seen (Area.sub_trans (by decide) h)]
    | (refine ((Block.scanAdvance_seen' (Area.sub_trans (by decide) h) (by assumption)).trans ?_))
    | rw [Block.modMash_seen (Area.sub_trans (by decide) h)]
    | rw [Block.each_seen]
    | rw [Block.foldl_seen]
    | rw [Block.foldl_snd_seen]

theorem Block.applyRow_seen {b : Block} {x1 : Step} {x2 : Nat × Nat × Nat} (h : Area.sub [.mash] M = true) :
    (Block.applyRow b x1 x2).seen M = b.seen M := by
  unfold Block.applyRow
  repeat' first
    | with_reducible rfl
    | (with_reducible intro _)
    | ((with_reducible refine Keeps.of ?_); intro x; first | rfl | (repeat' split) <;> rfl | (dsimp only; (repeat'
        split) <;> rfl))
    | with_reducible refine Block.seen_ite ?_ ?_
    | exact Keeps.of (fun _ => rfl)
    | rw [Block.modSlot_seen (Area.sub_trans (by decide) h)]
    | rw [Block.modMash_seen (Area.sub_trans (by decide) h)]
    | rw [Block.each_seen]
    | rw [Block.foldl_seen]
    | rw [Block.foldl_snd_seen]
    | dsimp only
    | split

theorem Block.clearRows_seen {b : Block} {x1 : List Nat} (h : Area.sub [.mash] M = true) :
    (Block.clearRows b x1).seen M = b.seen M := by
  unfold Block.clearRows
  repeat' first
    | with_reducible rfl
    | (with_reducible intro _)
    | ((with_reducible refine Keeps.of ?_); intro x; first | rfl | (repeat' split) <;> rfl | (dsimp only; (repeat'
        split) <;> rfl))
    | with_reducible refine Block.seen_ite ?_ ?_
    | exact Keeps.of (fun _ => rfl)
    | rw [Block.modMash_seen (Area.sub_trans (by decide) h)]
    | rw [Block.each_seen]
    | rw [Block.foldl_seen]
    | rw [Block.foldl_snd_seen]
    | dsimp only
    | split

theorem Block.finishClose_seen {b : Block} {x1 : Nat} {x2 : Gt} {x3 : Bool} {x4 : Nat × Nat × Bool} (h : Area.sub
    [.mash] M = true) :
    (Block.finishClose b x1 x2 x3 x4).seen M = b.seen M := by
  unfold Block.finishClose
  repeat' first
    | with_reducible rfl
    | (with_reducible intro _)
    | ((with_reducible refine Keeps.of ?_); intro x; first | rfl | (repeat' split) <;> rfl | (dsimp only; (repeat'
        split) <;> rfl))
    | with_reducible refine Block.seen_ite ?_ ?_
    | exact Keeps.of (fun _ => rfl)
    | rw [Block.modSlot_seen (Area.sub_trans (by decide) h)]
    | rw [Block.modMash_seen (Area.sub_trans (by decide) h)]
    | rw [Block.each_seen]
    | rw [Block.foldl_seen]
    | rw [Block.foldl_snd_seen]
    | dsimp only
    | split

theorem Block.putSeg_seen {b : Block} {x1 : Nat} {x2 : Option Seg} (h : Area.sub [.mash] M = true) :
    (Block.putSeg b x1 x2).seen M = b.seen M := by
  unfold Block.putSeg
  repeat' first
    | with_reducible rfl
    | (with_reducible intro _)
    | exact Keeps.of (fun _ => rfl)
    | ((with_reducible refine Keeps.of ?_); intro x; first | rfl | (repeat' split) <;> rfl | (dsimp only; (repeat'
        split) <;> rfl))
    | with_reducible refine Block.seen_ite ?_ ?_
    | rw [Block.modMash_seen (Area.sub_trans (by decide) h)]
    | rw [Block.each_seen]
    | rw [Block.foldl_seen]
    | rw [Block.foldl_snd_seen]
    | dsimp only
    | split

theorem Block.noteEnd_seen {b : Block} {x1 : Nat} {x2 : Gt} (h : Area.sub [.mash] M = true) :
    (Block.noteEnd b x1 x2).seen M = b.seen M := by
  unfold Block.noteEnd
  repeat' first
    | with_reducible rfl
    | (with_reducible intro _)
    | exact Keeps.of (fun _ => rfl)
    | ((with_reducible refine Keeps.of ?_); intro x; first | rfl | (repeat' split) <;> rfl | (dsimp only; (repeat'
        split) <;> rfl))
    | with_reducible refine Block.seen_ite ?_ ?_
    | rw [Block.modMash_seen (Area.sub_trans (by decide) h)]
    | rw [Block.each_seen]
    | rw [Block.foldl_seen]
    | rw [Block.foldl_snd_seen]
    | dsimp only
    | split

theorem Block.holdSeg_seen {b : Block} {x1 : Nat} {x2 : Seg} {x3 : Gt} {x4 : Option Nat} (h : Area.sub [.mash] M =
    true) :
    (Block.holdSeg b x1 x2 x3 x4).seen M = b.seen M := by
  unfold Block.holdSeg
  repeat' first
    | with_reducible rfl
    | (with_reducible intro _)
    | exact Keeps.of (fun _ => rfl)
    | ((with_reducible refine Keeps.of ?_); intro x; first | rfl | (repeat' split) <;> rfl | (dsimp only; (repeat'
        split) <;> rfl))
    | with_reducible refine Block.seen_ite ?_ ?_
    | rw [Block.putSeg_seen (Area.sub_trans (by decide) h)]
    | rw [Block.modMash_seen (Area.sub_trans (by decide) h)]
    | rw [Block.noteEnd_seen (Area.sub_trans (by decide) h)]
    | rw [Block.each_seen]
    | rw [Block.foldl_seen]
    | rw [Block.foldl_snd_seen]
    | dsimp only
    | split

theorem Block.cutSeg_seen {b : Block} {x1 : List (Gt × Step)} {x2 : Nat} {x3 : Seg} {x4 : Gt} (h : Area.sub [.mash]
    M = true) :
    (Block.cutSeg b x1 x2 x3 x4).2.seen M = b.seen M := by
  unfold Block.cutSeg
  repeat' first
    | with_reducible rfl
    | (with_reducible intro _)
    | exact Keeps.of (fun _ => rfl)
    | ((with_reducible refine Keeps.of ?_); intro x; first | rfl | (repeat' split) <;> rfl | (dsimp only; (repeat'
        split) <;> rfl))
    | with_reducible refine Block.seen_ite ?_ ?_
    | rw [Block.putSeg_seen (Area.sub_trans (by decide) h)]
    | rw [Block.holdSeg_seen (Area.sub_trans (by decide) h)]
    | rw [Block.each_seen]
    | rw [Block.foldl_seen]
    | rw [Block.foldl_snd_seen]
    | dsimp only
    | split

theorem queueSteps_seen {x : List (Gt × Step) × Block} (h : Area.sub [.mash] M = true) :
    (queueSteps x).seen M = x.2.seen M := by
  unfold queueSteps
  exact Block.modMash_seen h (fun _ => rfl)

theorem Block.cutSegs_seen {b : Block} {x1 : Gt} {x2 : Nat → Bool} (h : Area.sub [.mash] M = true) :
    (Block.cutSegs b x1 x2).seen M = b.seen M := by
  unfold Block.cutSegs
  rw [queueSteps_seen h]
  exact Block.foldl_snd_seen (fun _ _ => Block.cutSeg_seen h)

theorem Block.addToHalo_seen {b : Block} {x1 : Nat} {x2 : Nat} {x3 : Option Nat} {x4 : Nat × Nat} (h : Area.sub
    [.mash] M = true) :
    (Block.addToHalo b x1 x2 x3 x4).seen M = b.seen M := by
  unfold Block.addToHalo
  repeat' first
    | with_reducible rfl
    | (with_reducible intro _)
    | exact Keeps.of (fun _ => rfl)
    | ((with_reducible refine Keeps.of ?_); intro x; first | rfl | (repeat' split) <;> rfl | (dsimp only; (repeat'
        split) <;> rfl))
    | with_reducible refine Block.seen_ite ?_ ?_
    | rw [Block.modMash_seen (Area.sub_trans (by decide) h)]
    | rw [Block.modSlot_seen (Area.sub_trans (by decide) h)]
    | rw [Block.each_seen]
    | rw [Block.foldl_seen]
    | rw [Block.foldl_snd_seen]
    | dsimp only
    | split

theorem Block.setHaloProducer_seen {b : Block} {x1 : Nat} {x2 : Nat} {x3 : Option Nat} (h : Area.sub [.mash] M =
    true) :
    (Block.setHaloProducer b x1 x2 x3).seen M = b.seen M := by
  unfold Block.setHaloProducer
  repeat' first
    | with_reducible rfl
    | (with_reducible intro _)
    | exact Keeps.of (fun _ => rfl)
    | ((with_reducible refine Keeps.of ?_); intro x; first | rfl | (repeat' split) <;> rfl | (dsimp only; (repeat'
        split) <;> rfl))
    | with_reducible refine Block.seen_ite ?_ ?_
    | rw [Block.modMash_seen (Area.sub_trans (by decide) h)]
    | rw [Block.each_seen]
    | rw [Block.foldl_seen]
    | rw [Block.foldl_snd_seen]
    | dsimp only
    | split

theorem Block.haloFlush_seen {b : Block} {x1 : Nat} {x2 : Gt} {x3 : Option Nat} (h : Area.sub [.mash] M = true) :
    (Block.haloFlush b x1 x2 x3).seen M = b.seen M := by
  unfold Block.haloFlush
  repeat' first
    | with_reducible rfl
    | ((with_reducible refine Keeps.of ?_); intro x; first | rfl | (repeat' split) <;> rfl | (dsimp only; (repeat'
        split) <;> rfl))
    | with_reducible refine Block.seen_ite ?_ ?_
    | (with_reducible intro _)
    | exact Keeps.of (fun _ => rfl)
    | rw [Block.modSlot_seen (Area.sub_trans (by decide) h)]
    | rw [Block.modMash_seen (Area.sub_trans (by decide) h)]
    | rw [Block.addToHalo_seen (Area.sub_trans (by decide) h)]
    | rw [Block.setHaloProducer_seen (Area.sub_trans (by decide) h)]
    | rw [Block.each_seen]
    | rw [Block.foldl_seen]
    | rw [Block.foldl_snd_seen]
    | dsimp only
    | split

theorem Block.haloCut_seen {b : Block} {x1 : Gt} {x2 : ℕ → Bool} (h : Area.sub [.mash] M = true) :
    (Block.haloCut b x1 x2).seen M = b.seen M := by
  unfold Block.haloCut
  repeat' first
    | (with_reducible intro _)
    | rw [Block.haloFlush_seen (Area.sub_trans (by decide) h)]
    | rw [Block.each_seen]

theorem Block.cutSlot_seen {b : Block} {x1 : ℕ} {x2 : Gt} (h : Area.sub [.mash] M = true) :
    (Block.cutSlot b x1 x2).seen M = b.seen M := by
  unfold Block.cutSlot
  repeat' first
    | rw [Block.cutSegs_seen (Area.sub_trans (by decide) h)]
    | rw [Block.haloCut_seen (Area.sub_trans (by decide) h)]

theorem Block.openWindow_seen {b : Block} {x1 : ℕ} {x2 : Gt} {x3 : ℕ} (h : Area.sub [.mash] M = true) :
    (Block.openWindow b x1 x2 x3).seen M = b.seen M := by
  unfold Block.openWindow
  repeat' first
    | exact Keeps.of (fun _ => rfl)
    | rw [Block.cutSlot_seen (Area.sub_trans (by decide) h)]
    | rw [Block.modSlot_seen (Area.sub_trans (by decide) h)]
    | rw [Block.modMash_seen (Area.sub_trans (by decide) h)]

theorem Block.closeOverlong_seen {b : Block} {x1 : Nat} {x2 : Gt} (h : Area.sub [.mash] M = true) :
    (Block.closeOverlong b x1 x2).seen M = b.seen M := by
  unfold Block.closeOverlong
  repeat' first
    | with_reducible rfl
    | (with_reducible intro _)
    | exact Keeps.of (fun _ => rfl)
    | ((with_reducible refine Keeps.of ?_); intro x; first | rfl | (repeat' split) <;> rfl | (dsimp only; (repeat'
        split) <;> rfl))
    | with_reducible refine Block.seen_ite ?_ ?_
    | rw [Block.finishClose_seen (Area.sub_trans (by decide) h)]
    | rw [Block.openWindow_seen (Area.sub_trans (by decide) h)]
    | rw [Block.cutSlot_seen (Area.sub_trans (by decide) h)]
    | rw [Block.modSlot_seen (Area.sub_trans (by decide) h)]
    | rw [Block.each_seen]
    | rw [Block.foldl_seen]
    | rw [Block.foldl_snd_seen]
    | dsimp only
    | split

theorem Block.closeWindow_seen {b : Block} {x1 : Nat} {x2 : Gt} {x3 : Bool} (h : Area.sub [.mash] M = true) :
    (Block.closeWindow b x1 x2 x3).seen M = b.seen M := by
  unfold Block.closeWindow
  repeat' first
    | with_reducible rfl
    | (with_reducible intro _)
    | exact Keeps.of (fun _ => rfl)
    | ((with_reducible refine Keeps.of ?_); intro x; first | rfl | (repeat' split) <;> rfl | (dsimp only; (repeat'
        split) <;> rfl))
    | with_reducible refine Block.seen_ite ?_ ?_
    | rw [Block.finishClose_seen (Area.sub_trans (by decide) h)]
    | rw [Block.cutSlot_seen (Area.sub_trans (by decide) h)]
    | rw [Block.modSlot_seen (Area.sub_trans (by decide) h)]
    | rw [Block.each_seen]
    | rw [Block.foldl_seen]
    | rw [Block.foldl_snd_seen]
    | dsimp only
    | split

theorem Block.cutAll_seen {b : Block} {x1 : Gt} (h : Area.sub [.mash] M = true) :
    (Block.cutAll b x1).seen M = b.seen M := by
  unfold Block.cutAll
  repeat' first
    | with_reducible rfl
    | (with_reducible intro _)
    | exact Keeps.of (fun _ => rfl)
    | ((with_reducible refine Keeps.of ?_); intro x; first | rfl | (repeat' split) <;> rfl | (dsimp only; (repeat'
        split) <;> rfl))
    | with_reducible refine Block.seen_ite ?_ ?_
    | rw [Block.cutSegs_seen (Area.sub_trans (by decide) h)]
    | rw [Block.haloCut_seen (Area.sub_trans (by decide) h)]
    | rw [Block.each_seen]
    | rw [Block.foldl_seen]
    | rw [Block.foldl_snd_seen]
    | dsimp only
    | split

theorem Block.dropSteps_seen {b : Block} {x1 : List ℕ} (h : Area.sub [.mash] M = true) :
    (Block.dropSteps b x1).seen M = b.seen M := by
  unfold Block.dropSteps
  repeat' first
    | exact Keeps.of (fun _ => rfl)
    | rw [Block.modMash_seen (Area.sub_trans (by decide) h)]

theorem Block.mergeWindow_seen {b : Block} {x1 : ℕ} {x2 : Gt} {x3 : ℕ} (h : Area.sub [.mash] M = true) :
    (Block.mergeWindow b x1 x2 x3).seen M = b.seen M := by
  unfold Block.mergeWindow
  repeat' first
    | rw [Block.cutSlot_seen (Area.sub_trans (by decide) h)]
    | rw [Block.modSlot_seen (Area.sub_trans (by decide) h)]

theorem Block.iterBegin_seen {b : Block} {x1 : ℕ} {x2 : Gt} {x3 : ℕ} (h : Area.sub [.mash] M = true) :
    (Block.iterBegin b x1 x2 x3).seen M = b.seen M := by
  unfold Block.iterBegin
  repeat' first
    | rw [Block.closeWindow_seen (Area.sub_trans (by decide) h)]
    | rw [Block.openWindow_seen (Area.sub_trans (by decide) h)]
    | rw [Block.mergeWindow_seen (Area.sub_trans (by decide) h)]
    | rw [Block.each_seen]
    | rw [Block.foldl_seen]
    | rw [Block.foldl_snd_seen]
    | dsimp only
    | split

theorem Block.loopItem_seen {b : Block} {x1 : ℕ} {x2 : Payload} {x3 : Gt} (h : Area.sub [.mash] M = true) :
    (Block.loopItem b x1 x2 x3).seen M = b.seen M := by
  unfold Block.loopItem
  repeat' first
    | (with_reducible intro _)
    | rw [Block.closeWindow_seen (Area.sub_trans (by decide) h)]
    | rw [Block.iterBegin_seen (Area.sub_trans (by decide) h)]
    | rw [Block.modSlot_seen (Area.sub_trans (by decide) h)]
    | rw [Block.each_seen]
    | rw [Block.foldl_seen]
    | rw [Block.foldl_snd_seen]
    | dsimp only
    | split

theorem Block.reseg_seen {b : Block} {x1 : List (Gt × Step)} {x2 : Nat} {x3 : Gt} {x4 : Option Nat} (h : Area.sub
    [.mash] M = true) :
    (Block.reseg b x1 x2 x3 x4).2.seen M = b.seen M := by
  unfold Block.reseg
  repeat' first
    | with_reducible rfl
    | (with_reducible intro _)
    | ((with_reducible refine Keeps.of ?_); intro x; first | rfl | (repeat' split) <;> rfl | (dsimp only; (repeat'
        split) <;> rfl))
    | with_reducible refine Block.seen_ite ?_ ?_
    | exact Keeps.of (fun _ => rfl)
    | rw [Block.modMash_seen (Area.sub_trans (by decide) h)]
    | rw [Block.putSeg_seen (Area.sub_trans (by decide) h)]
    | rw [Block.holdSeg_seen (Area.sub_trans (by decide) h)]
    | rw [Block.noteEnd_seen (Area.sub_trans (by decide) h)]
    | rw [Block.each_seen]
    | rw [Block.foldl_seen]
    | rw [Block.foldl_snd_seen]
    | dsimp only
    | split

theorem Block.reseg_seen' {b : Block} {x1 : List (Gt × Step)} {x2 : Nat} {x3 : Gt} {x4 : Option Nat} {y : _} {b' :
    Block} (h : Area.sub [.mash] M = true)
    (e : (Block.reseg b x1 x2 x3 x4) = (y, b')) : b'.seen M = b.seen M := by
  have g := Block.reseg_seen (M := M) h (b := b) (x1 := x1) (x2 := x2) (x3 := x3) (x4 := x4)
  rwa [e] at g

theorem Block.lossEnd_seen {b : Block} {x1 : Nat} (h : Area.sub [.views, .mash] M = true) :
    (Block.lossEnd b x1).seen M = b.seen M := by
  unfold Block.lossEnd
  repeat' first
    | with_reducible rfl
    | (with_reducible intro _)
    | exact Keeps.of (fun _ => rfl)
    | ((with_reducible refine Keeps.of ?_); intro x; first | rfl | (repeat' split) <;> rfl | (dsimp only; (repeat'
        split) <;> rfl))
    | with_reducible refine Block.seen_ite ?_ ?_
    | rw [Block.haloFlush_seen (Area.sub_trans (by decide) h)]
    | rw [Block.reseg_seen' (Area.sub_trans (by decide) h) (by assumption)]
    | rw [Block.reseg_seen (Area.sub_trans (by decide) h)]
    | rw [queueSteps_seen (Area.sub_trans (by decide) h)]
    | rw [Block.modView_seen (Area.sub_trans (by decide) h)]
    | rw [Block.each_seen]
    | rw [Block.foldl_seen]
    | rw [Block.foldl_snd_seen]
    | dsimp only
    | split

theorem Block.mashLoss_seen {b : Block} {x1 : Nat} {x2 : List (Gt × Bool)} (h : Area.sub [.views, .mash] M = true) :
    (Block.mashLoss b x1 x2).seen M = b.seen M := by
  unfold Block.mashLoss
  repeat' first
    | ((with_reducible refine Keeps.of ?_); intro x; first | rfl | (repeat' split) <;> rfl | (dsimp only; (repeat'
        split) <;> rfl))
    | with_reducible rfl
    | (with_reducible intro _)
    | exact Keeps.of (fun _ => rfl)
    | with_reducible refine Block.seen_ite ?_ ?_
    | rw [queueSteps_seen (Area.sub_trans (by decide) h)]
    | rw [Block.reseg_seen (Area.sub_trans (by decide) h)]
    | rw [Block.modSlot_seen (Area.sub_trans (by decide) h)]
    | rw [Block.modView_seen (Area.sub_trans (by decide) h)]
    | rw [Block.haloFlush_seen (Area.sub_trans (by decide) h)]
    | rw [Block.lossEnd_seen (Area.sub_trans (by decide) h)]
    | rw [Block.modMash_seen (Area.sub_trans (by decide) h)]
    | rw [Block.each_seen]
    | dsimp only
    | split
    | rw [Block.foldl_seen]
    | rw [Block.foldl_snd_seen]

theorem Block.missed_seen {b : Block} {x1 : ℕ} (h : Area.sub [.taps, .views, .stations, .cask, .tenants, .power] M =
    true) :
    (Block.missed b x1).seen M = b.seen M := by
  unfold Block.missed
  repeat' first
    | with_reducible rfl
    | with_reducible refine Block.seen_ite ?_ ?_
    | rw [Block.raise_seen (Area.sub_trans (by decide) h)]
    | rw [Block.offerEvent_seen (Area.sub_trans (by decide) h)]

theorem Block.noteCause_seen {b : Block} {x1 : ℕ} {x2 : Cause} (h : Area.sub [.mash] M = true) :
    (Block.noteCause b x1 x2).seen M = b.seen M := by
  unfold Block.noteCause
  repeat' first
    | rw [Block.modSlot_seen (Area.sub_trans (by decide) h)]
    | rw [Block.each_seen]
    | rw [Block.foldl_seen]
    | rw [Block.foldl_snd_seen]
    | dsimp only
    | split

theorem Block.resetSlot_seen {b : Block} {x1 : Nat} (h : Area.sub [.mash] M = true) :
    (Block.resetSlot b x1).seen M = b.seen M := by
  unfold Block.resetSlot
  repeat' first
    | with_reducible rfl
    | (with_reducible intro _)
    | ((with_reducible refine Keeps.of ?_); intro x; first | rfl | (repeat' split) <;> rfl | (dsimp only; (repeat'
        split) <;> rfl))
    | with_reducible refine Block.seen_ite ?_ ?_
    | exact Keeps.of (fun _ => rfl)
    | rw [Block.dropSteps_seen (Area.sub_trans (by decide) h)]
    | rw [Block.clearRows_seen (Area.sub_trans (by decide) h)]
    | rw [Block.modSlot_seen (Area.sub_trans (by decide) h)]
    | rw [Block.modMash_seen (Area.sub_trans (by decide) h)]
    | rw [Block.each_seen]
    | rw [Block.foldl_seen]
    | rw [Block.foldl_snd_seen]
    | dsimp only
    | split

theorem Block.resolveAll_seen {b : Block} {x1 : Gt} (h : Area.sub [.mash] M = true) :
    (Block.resolveAll b x1).seen M = b.seen M := by
  unfold Block.resolveAll
  rw [queueSteps_seen h]
  refine Block.foldl_snd_seen (fun _ _ => ?_)
  dsimp only
  rw [Block.reseg_seen h]
  exact Block.seen_ite (Block.noteCause_seen h) rfl

theorem Block.modWait_seen {b : Block} {x1 : ℕ} {x2 : TapWait → TapWait} (h : Area.sub [.sync] M = true) :
    (Block.modWait b x1 x2).seen M = b.seen M := by
  unfold Block.modWait
  repeat' first
    | (rw [Block.modSync_seen (Area.sub_trans (by decide) h)])

theorem Block.endWait_seen {b : Block} {x1 : ℕ} {x2 : Gt} (h : Area.sub [.mash, .sync] M = true) :
    (Block.endWait b x1 x2).seen M = b.seen M := by
  unfold Block.endWait
  repeat' first
    | exact Keeps.of (fun _ => rfl)
    | rw [Block.modWait_seen (Area.sub_trans (by decide) h)]
    | rw [Block.haloFlush_seen (Area.sub_trans (by decide) h)]
    | rw [Block.modMash_seen (Area.sub_trans (by decide) h)]
    | rw [Block.modObj_seen (Area.sub_trans (by decide) h)]

theorem Block.waitBegin_seen {b : Block} {x1 : ℕ} {x2 : ℕ} {x3 : ℕ} {x4 : ℕ} {x5 : Gt} (h : Area.sub [.mash, .sync] M
    = true) :
    (Block.waitBegin b x1 x2 x3 x4 x5).seen M = b.seen M := by
  unfold Block.waitBegin
  repeat' first
    | with_reducible rfl
    | exact Keeps.of (fun _ => rfl)
    | with_reducible refine Block.seen_ite ?_ ?_
    | rw [Block.modSync_seen (Area.sub_trans (by decide) h)]
    | rw [Block.modWait_seen (Area.sub_trans (by decide) h)]
    | rw [Block.endWait_seen (Area.sub_trans (by decide) h)]
    | rw [Block.haloFlush_seen (Area.sub_trans (by decide) h)]
    | rw [Block.modMash_seen (Area.sub_trans (by decide) h)]
    | rw [Block.modObj_seen (Area.sub_trans (by decide) h)]

theorem Block.arriveAt_seen {b : Block} {x1 : ℕ} {x2 : ℕ} {x3 : Gt} (h : Area.sub [.sync] M = true) :
    (Block.arriveAt b x1 x2 x3).seen M = b.seen M := by
  unfold Block.arriveAt
  repeat' first
    | with_reducible refine Block.seen_ite ?_ ?_
    | rw [Block.modSync_seen (Area.sub_trans (by decide) h)]
    | rw [Block.modObj_seen (Area.sub_trans (by decide) h)]

theorem Block.signal_seen {b : Block} {x1 : ℕ} {x2 : ℕ} {x3 : ℕ} {x4 : Gt} (h : Area.sub [.sync] M = true) :
    (Block.signal b x1 x2 x3 x4).seen M = b.seen M := by
  unfold Block.signal
  repeat' first
    | with_reducible refine Block.seen_ite ?_ ?_
    | rw [Block.modSync_seen (Area.sub_trans (by decide) h)]
    | rw [Block.modObj_seen (Area.sub_trans (by decide) h)]

theorem Block.unquiet_seen {b : Block} {x1 : Nat} {x2 : Gt} (h : Area.sub [.views, .mash] M = true) :
    (Block.unquiet b x1 x2).seen M = b.seen M := by
  unfold Block.unquiet
  repeat' first
    | with_reducible rfl
    | (with_reducible intro _)
    | exact Keeps.of (fun _ => rfl)
    | ((with_reducible refine Keeps.of ?_); intro x; first | rfl | (repeat' split) <;> rfl | (dsimp only; (repeat'
        split) <;> rfl))
    | with_reducible refine Block.seen_ite ?_ ?_
    | rw [Block.haloFlush_seen (Area.sub_trans (by decide) h)]
    | rw [Block.modView_seen (Area.sub_trans (by decide) h)]
    | rw [Block.each_seen]
    | rw [Block.foldl_seen]
    | rw [Block.foldl_snd_seen]
    | dsimp only
    | split

theorem Block.afterItem_seen {b : Block} {x1 : Nat} (h : Area.sub [.views, .mash] M = true) :
    (Block.afterItem b x1).seen M = b.seen M := by
  unfold Block.afterItem
  repeat' first
    | with_reducible rfl
    | (with_reducible intro _)
    | exact Keeps.of (fun _ => rfl)
    | ((with_reducible refine Keeps.of ?_); intro x; first | rfl | (repeat' split) <;> rfl | (dsimp only; (repeat'
        split) <;> rfl))
    | with_reducible refine Block.seen_ite ?_ ?_
    | rw [Block.lossEnd_seen (Area.sub_trans (by decide) h)]
    | rw [Block.modView_seen (Area.sub_trans (by decide) h)]
    | rw [Block.each_seen]
    | rw [Block.foldl_seen]
    | rw [Block.foldl_snd_seen]
    | dsimp only
    | split

theorem Block.applySItem_seen {b : Block} {x1 : SItem} (h : Area.sub [.views, .mash, .sync] M = true) :
    (Block.applySItem b x1).seen M = b.seen M := by
  unfold Block.applySItem
  repeat' first
    | with_reducible rfl
    | (with_reducible intro _)
    | exact Keeps.of (fun _ => rfl)
    | ((with_reducible refine Keeps.of ?_); intro x; first | rfl | (repeat' split) <;> rfl | (dsimp only; (repeat'
        split) <;> rfl))
    | with_reducible refine Block.seen_ite ?_ ?_
    | rw [Block.modSync_seen (Area.sub_trans (by decide) h)]
    | rw [Block.resolveAll_seen (Area.sub_trans (by decide) h)]
    | rw [Block.endWait_seen (Area.sub_trans (by decide) h)]
    | rw [Block.waitBegin_seen (Area.sub_trans (by decide) h)]
    | rw [Block.modView_seen (Area.sub_trans (by decide) h)]
    | rw [Block.arriveAt_seen (Area.sub_trans (by decide) h)]
    | rw [Block.signal_seen (Area.sub_trans (by decide) h)]
    | rw [Block.modObj_seen (Area.sub_trans (by decide) h)]
    | rw [Block.unquiet_seen (Area.sub_trans (by decide) h)]
    | rw [Block.afterItem_seen (Area.sub_trans (by decide) h)]
    | rw [Block.each_seen]
    | rw [Block.foldl_seen]
    | rw [Block.foldl_snd_seen]
    | split
    | dsimp only

theorem Block.startWalk_seen {b : Block} (h : Area.sub [.sync, .power] M = true) :
    (Block.startWalk b).seen M = b.seen M := by
  unfold Block.startWalk
  repeat' first
    | with_reducible rfl
    | (with_reducible intro _)
    | exact Keeps.of (fun _ => rfl)
    | ((with_reducible refine Keeps.of ?_); intro x; first | rfl | (repeat' split) <;> rfl | (dsimp only; (repeat'
        split) <;> rfl))
    | with_reducible refine Block.seen_ite ?_ ?_
    | rw [Block.modSync_seen (Area.sub_trans (by decide) h)]
    | rw [Block.modPower_seen (Area.sub_trans (by decide) h)]
    | rw [Block.each_seen]
    | rw [Block.foldl_seen]
    | rw [Block.foldl_snd_seen]
    | split
    | dsimp only

theorem Block.takeFreeze_seen {b : Block} {x1 : Freeze} {x2 : Option ℕ} {r : Nat × Block} (h : Area.sub [.freezes] M
    = true) (e : (Block.takeFreeze b x1 x2) = some r) :
    r.2.seen M = b.seen M := by
  unfold Block.takeFreeze at e
  split at e
  · cases e
  · cases e
    rw [Block.modFreeze_seen (Area.sub_trans (by decide) h), Block.set_freezeNext_seen (Area.sub_trans (by decide) h)]

theorem Block.takeFreeze_seen' {b : Block} {x1 : Freeze} {x2 : Option ℕ} {q : Nat} {b' : Block} (h : Area.sub
    [.freezes] M = true) (e : (Block.takeFreeze b x1 x2) = some (q, b')) :
    b'.seen M = b.seen M := Block.takeFreeze_seen h e

theorem Block.snapFreeze_seen {b : Block} {x1 : Gt} (h : Area.sub [.freezes] M = true) :
    (Block.snapFreeze b x1).2.seen M = b.seen M := by
  unfold Block.snapFreeze
  split
  · rfl
  · split
    · rename_i e
      exact Block.takeFreeze_seen h e
    · rfl

theorem Block.snapFreeze_seen' {b : Block} {x1 : Gt} {y : _} {b' : Block} (h : Area.sub [.freezes] M = true)
    (e : (Block.snapFreeze b x1) = (y, b')) : b'.seen M = b.seen M := by
  have g := Block.snapFreeze_seen (M := M) h (b := b) (x1 := x1)
  rwa [e] at g

theorem Block.startSnap_seen {b : Block} {x1 : ℕ} {x2 : Gt} (h : Area.sub [.sync, .freezes, .power] M = true) :
    (Block.startSnap b x1 x2).seen M = b.seen M := by
  unfold Block.startSnap
  repeat' first
    | with_reducible refine Block.seen_ite ?_ ?_
    | rw [Block.startWalk_seen (Area.sub_trans (by decide) h)]
    | rw [Block.modSync_seen (Area.sub_trans (by decide) h)]
    | rw [Block.snapFreeze_seen (Area.sub_trans (by decide) h)]

theorem Block.autoSnap_seen {b : Block} {x1 : ℕ} {x2 : Bool} (h : Area.sub [.sync, .freezes, .power] M = true) :
    (Block.autoSnap b x1 x2).seen M = b.seen M := by
  unfold Block.autoSnap
  repeat' first
    | with_reducible rfl
    | with_reducible refine Block.seen_ite ?_ ?_
    | rw [Block.startSnap_seen (Area.sub_trans (by decide) h)]

theorem Block.deliver_seen {b : Block} {x1 : Nat} {x2 : List Nat} {x3 : Nat → List Byte} {x4 : Nat} {x5 : Nat →
    Option Nat} (h : Area.sub [.taps, .views, .stations, .cask, .tenants, .power, .recs] M = true) :
    (Block.deliver b x1 x2 x3 x4 x5).seen M = b.seen M := by
  unfold Block.deliver
  repeat' first
    | with_reducible rfl
    | exact Keeps.of (fun _ => rfl)
    | ((with_reducible refine Keeps.of ?_); intro x; first | rfl | (repeat' split) <;> rfl | (dsimp only; (repeat'
        split) <;> rfl))
    | with_reducible refine Block.seen_ite ?_ ?_
    | (with_reducible intro _)
    | rw [Block.raise_seen (Area.sub_trans (by decide) h)]
    | rw [Block.queueRec_seen (Area.sub_trans (by decide) h)]
    | rw [Block.offerEvent_seen (Area.sub_trans (by decide) h)]
    | rw [Block.seqEvent_seen (Area.sub_trans (by decide) h)]
    | rw [Block.each_seen]
    | rw [Block.foldl_seen]
    | rw [Block.foldl_snd_seen]
    | dsimp only
    | split

theorem Block.knotReport_seen {b : Block} {x1 : Walk} {x2 : Cycle} (h : Area.sub [.taps, .views, .stations, .cask,
    .sync, .freezes, .tenants, .power, .recs] M = true) :
    (Block.knotReport b x1 x2).seen M = b.seen M := by
  unfold Block.knotReport
  repeat' first
    | with_reducible rfl
    | (with_reducible intro _)
    | exact Keeps.of (fun _ => rfl)
    | ((with_reducible refine Keeps.of ?_); intro x; first | rfl | (repeat' split) <;> rfl | (dsimp only; (repeat'
        split) <;> rfl))
    | with_reducible refine Block.seen_ite ?_ ?_
    | rw [Block.autoSnap_seen (Area.sub_trans (by decide) h)]
    | rw [Block.deliver_seen (Area.sub_trans (by decide) h)]
    | rw [Block.each_seen]
    | rw [Block.foldl_seen]
    | rw [Block.foldl_snd_seen]
    | dsimp only
    | split

theorem Block.markStale_seen {b : Block} {x1 : ℕ} (h : Area.sub [.sync] M = true) :
    (Block.markStale b x1).seen M = b.seen M := by
  unfold Block.markStale
  repeat' first
    | with_reducible refine Block.seen_ite ?_ ?_
    | rw [Block.modWait_seen (Area.sub_trans (by decide) h)]
    | rw [Block.modObj_seen (Area.sub_trans (by decide) h)]

theorem Block.lossSeen_seen {b : Block} {x1 : Nat} {x2 : List (Gt × Bool)} (h : Area.sub [.views, .mash, .sync] M =
    true) :
    (Block.lossSeen b x1 x2).seen M = b.seen M := by
  unfold Block.lossSeen
  repeat' first
    | with_reducible rfl
    | (with_reducible intro _)
    | exact Keeps.of (fun _ => rfl)
    | ((with_reducible refine Keeps.of ?_); intro x; first | rfl | (repeat' split) <;> rfl | (dsimp only; (repeat'
        split) <;> rfl))
    | with_reducible refine Block.seen_ite ?_ ?_
    | rw [Block.mashLoss_seen (Area.sub_trans (by decide) h)]
    | rw [Block.markStale_seen (Area.sub_trans (by decide) h)]
    | rw [Block.each_seen]
    | rw [Block.foldl_seen]
    | rw [Block.foldl_snd_seen]
    | dsimp only
    | split

theorem Block.nextWalk_seen {b : Block} (h : Area.sub [.sync, .power] M = true) :
    (Block.nextWalk b).seen M = b.seen M := by
  unfold Block.nextWalk
  repeat' first
    | with_reducible rfl
    | (with_reducible intro _)
    | exact Keeps.of (fun _ => rfl)
    | ((with_reducible refine Keeps.of ?_); intro x; first | rfl | (repeat' split) <;> rfl | (dsimp only; (repeat'
        split) <;> rfl))
    | with_reducible refine Block.seen_ite ?_ ?_
    | rw [Block.startWalk_seen (Area.sub_trans (by decide) h)]
    | rw [Block.each_seen]
    | rw [Block.foldl_seen]
    | rw [Block.foldl_snd_seen]
    | dsimp only
    | split

theorem Block.walkEnd_seen {b : Block} {x1 : Walk} (h : Area.sub [.taps, .views, .stations, .cask, .sync, .freezes,
    .tenants, .power, .recs] M = true) :
    (Block.walkEnd b x1).2.seen M = b.seen M := by
  unfold Block.walkEnd
  repeat' first
    | with_reducible rfl
    | exact Keeps.of (fun _ => rfl)
    | ((with_reducible refine Keeps.of ?_); intro x; first | rfl | (repeat' split) <;> rfl | (dsimp only; (repeat'
        split) <;> rfl))
    | (with_reducible intro _)
    | with_reducible refine Block.seen_ite ?_ ?_
    | rw [Block.startWalk_seen (Area.sub_trans (by decide) h)]
    | rw [Block.modSync_seen (Area.sub_trans (by decide) h)]
    | rw [Block.knotReport_seen (Area.sub_trans (by decide) h)]
    | rw [Block.nextWalk_seen (Area.sub_trans (by decide) h)]
    | rw [Block.each_seen]
    | rw [Block.foldl_seen]
    | rw [Block.foldl_snd_seen]
    | dsimp only
    | split

theorem Block.walkEnd_seen' {b : Block} {x1 : Walk} {y : _} {b' : Block} (h : Area.sub [.taps, .views, .stations,
    .cask, .sync, .freezes, .tenants, .power, .recs] M = true)
    (e : (Block.walkEnd b x1) = (y, b')) : b'.seen M = b.seen M := by
  have g := Block.walkEnd_seen (M := M) h (b := b) (x1 := x1)
  rwa [e] at g

theorem Block.logEntry_seen {b : Block} {x1 : LogInfo} (h : Area.sub [.tenants, .meas, .recs] M = true) :
    (Block.logEntry b x1).seen M = b.seen M := by
  unfold Block.logEntry
  repeat' first
    | rw [Block.raise_seen (Area.sub_trans (by decide) h)]
    | rw [Block.queueRec_seen (Area.sub_trans (by decide) h)]
    | rw [Block.modMeas_seen (Area.sub_trans (by decide) h)]
    | rw [Block.each_seen]
    | rw [Block.foldl_seen]
    | rw [Block.foldl_snd_seen]
    | split

theorem Block.setLane_seen {b : Block} {x1 : ℕ} {x2 : Option Lane} (h : Area.sub [.meas] M = true) :
    (Block.setLane b x1 x2).seen M = b.seen M := by
  unfold Block.setLane
  repeat' first
    | (rw [Block.modMeas_seen (Area.sub_trans (by decide) h)])

theorem Block.close_seen {b : Block} {x1 : Nat} {x2 : LogInfo} (h : Area.sub [.meas] M = true) :
    (Block.close b x1 x2).seen M = b.seen M := by
  unfold Block.close
  repeat' first
    | with_reducible rfl
    | (with_reducible intro _)
    | exact Keeps.of (fun _ => rfl)
    | ((with_reducible refine Keeps.of ?_); intro x; first | rfl | (repeat' split) <;> rfl | (dsimp only; (repeat'
        split) <;> rfl))
    | with_reducible refine Block.seen_ite ?_ ?_
    | rw [Block.modMeas_seen (Area.sub_trans (by decide) h)]
    | rw [Block.each_seen]
    | rw [Block.foldl_seen]
    | rw [Block.foldl_snd_seen]
    | dsimp only
    | split

theorem Block.closeLane_seen {b : Block} {x1 : Nat} {x2 : Lane} {x3 : Nat} (h : Area.sub [.meas] M = true) :
    (Block.closeLane b x1 x2 x3).seen M = b.seen M := by
  unfold Block.closeLane
  repeat' first
    | with_reducible rfl
    | (with_reducible intro _)
    | exact Keeps.of (fun _ => rfl)
    | ((with_reducible refine Keeps.of ?_); intro x; first | rfl | (repeat' split) <;> rfl | (dsimp only; (repeat'
        split) <;> rfl))
    | with_reducible refine Block.seen_ite ?_ ?_
    | rw [Block.logEntry_seen (Area.sub_trans (by decide) h)]
    | rw [Block.setLane_seen (Area.sub_trans (by decide) h)]
    | rw [Block.close_seen (Area.sub_trans (by decide) h)]
    | rw [Block.each_seen]
    | rw [Block.foldl_seen]
    | rw [Block.foldl_snd_seen]
    | dsimp only
    | split

theorem Block.abortImages_seen {b : Block} (h : Area.sub [.meas] M = true) :
    (Block.abortImages b).seen M = b.seen M := by
  unfold Block.abortImages
  refine Block.each_seen fun c l => ?_
  split
  · rw [Block.closeLane_seen (Area.sub_trans (by decide) h)]
  · rfl

theorem Block.abortImage_seen {b : Block} {x1 : ℕ} (h : Area.sub [.meas] M = true) :
    (Block.abortImage b x1).seen M = b.seen M := by
  unfold Block.abortImage
  repeat' first
    | rw [Block.closeLane_seen (Area.sub_trans (by decide) h)]
    | rw [Block.each_seen]
    | rw [Block.foldl_seen]
    | rw [Block.foldl_snd_seen]
    | dsimp only
    | split

theorem Block.cfgTouch_seen {b : Block} {x1 : ℕ} (h : Area.sub [.tenants, .out] M = true) :
    (Block.cfgTouch b x1).seen M = b.seen M := by
  unfold Block.cfgTouch
  repeat' first
    | with_reducible rfl
    | exact Keeps.of (fun _ => rfl)
    | with_reducible refine Block.seen_ite ?_ ?_
    | rw [Block.emit_seen (Area.sub_trans (by decide) h)]
    | rw [Block.modTenant_seen (Area.sub_trans (by decide) h)]

theorem Block.ctrlEntry_seen {b : Block} {x1 : ℕ} {x2 : Payload} {x3 : ℕ} (h : Area.sub [.taps, .meas, .power] M = true) :
    (Block.ctrlEntry b x1 x2 x3).seen M = b.seen M := by
  unfold Block.ctrlEntry
  repeat' first
    | with_reducible rfl
    | with_reducible refine Block.seen_ite ?_ ?_
    | rw [Block.modTap_seen (Area.sub_trans (by decide) h)]
    | rw [Block.requestWake_seen (Area.sub_trans (by decide) h)]
    | rw [Block.modMeas_seen (Area.sub_trans (by decide) h)]
    | rw [Block.abortImage_seen (Area.sub_trans (by decide) h)]

theorem Block.firmwareEntry_seen {b : Block} {x1 : List Byte} (h : Area.sub [.tenants, .meas, .recs] M = true) :
    (Block.firmwareEntry b x1).seen M = b.seen M := by
  unfold Block.firmwareEntry
  repeat' first
    | with_reducible rfl
    | (with_reducible intro _)
    | exact Keeps.of (fun _ => rfl)
    | ((with_reducible refine Keeps.of ?_); intro x; first | rfl | (repeat' split) <;> rfl | (dsimp only; (repeat'
        split) <;> rfl))
    | with_reducible refine Block.seen_ite ?_ ?_
    | rw [Block.logEntry_seen (Area.sub_trans (by decide) h)]
    | rw [Block.modMeas_seen (Area.sub_trans (by decide) h)]
    | rw [Block.each_seen]
    | rw [Block.foldl_seen]
    | rw [Block.foldl_snd_seen]
    | dsimp only
    | split

theorem Block.laneLost_seen {b : Block} {x1 : ℕ} {x2 : ℕ} (h : Area.sub [.meas] M = true) :
    (Block.laneLost b x1 x2).seen M = b.seen M := by
  unfold Block.laneLost
  repeat' first
    | rw [Block.modMeas_seen (Area.sub_trans (by decide) h)]
    | rw [Block.setLane_seen (Area.sub_trans (by decide) h)]
    | rw [Block.each_seen]
    | rw [Block.foldl_seen]
    | rw [Block.foldl_snd_seen]
    | dsimp only
    | split

theorem Block.lastLogSeq_seen {b : Block} (h : Area.sub [.free] M = true) :
    (Block.lastLogSeq b).2.seen M = b.seen M := by
  unfold Block.lastLogSeq
  repeat' first
    | rw [Block.takeFree_seen (Area.sub_trans (by decide) h)]
    | (refine ((Block.takeFree_seen' (Area.sub_trans (by decide) h) (by assumption)).trans ?_))
    | rw [Block.each_seen]
    | rw [Block.foldl_seen]
    | rw [Block.foldl_snd_seen]
    | dsimp only
    | split

theorem Block.lastLogSeq_seen' {b : Block} {y : _} {b' : Block} (h : Area.sub [.free] M = true)
    (e : (Block.lastLogSeq b) = (y, b')) : b'.seen M = b.seen M := by
  have g := Block.lastLogSeq_seen (M := M) h (b := b)
  rwa [e] at g

theorem Block.serveQuote_seen {b : Block} (h : Area.sub [.meas, .free] M = true) :
    (Block.serveQuote b).seen M = b.seen M := by
  unfold Block.serveQuote
  repeat' first
    | rw [Block.modMeas_seen (Area.sub_trans (by decide) h)]
    | rw [Block.lastLogSeq_seen (Area.sub_trans (by decide) h)]

theorem Block.activity_seen {b : Block} (h : Area.sub [.power] M = true) :
    (Block.activity b).seen M = b.seen M := by
  unfold Block.activity
  repeat' first
    | with_reducible rfl
    | (with_reducible intro _)
    | exact Keeps.of (fun _ => rfl)
    | ((with_reducible refine Keeps.of ?_); intro x; first | rfl | (repeat' split) <;> rfl | (dsimp only; (repeat'
        split) <;> rfl))
    | with_reducible refine Block.seen_ite ?_ ?_
    | (rw [Block.modPower_seen (Area.sub_trans (by decide) h)])
    | rw [Block.each_seen]
    | rw [Block.foldl_seen]
    | rw [Block.foldl_snd_seen]
    | dsimp only
    | split

theorem Block.foldLoss_seen {b : Block} {x1 : ℕ} {x2 : ℕ} {x3 : ℕ} (h : Area.sub [.views] M = true) :
    (Block.foldLoss b x1 x2 x3).seen M = b.seen M := by
  unfold Block.foldLoss
  repeat' first
    | with_reducible rfl
    | with_reducible refine Block.seen_ite ?_ ?_
    | rw [Block.modView_seen (Area.sub_trans (by decide) h)]

theorem Block.wakeLoss_seen {b : Block} {x1 : Nat} {x2 : Nat} {x3 : Bool} (h : Area.sub [.stations, .tenants,
    .power] M = true) :
    (Block.wakeLoss b x1 x2 x3).seen M = b.seen M := by
  unfold Block.wakeLoss
  repeat' first
    | with_reducible rfl
    | (with_reducible intro _)
    | exact Keeps.of (fun _ => rfl)
    | ((with_reducible refine Keeps.of ?_); intro x; first | rfl | (repeat' split) <;> rfl | (dsimp only; (repeat'
        split) <;> rfl))
    | with_reducible refine Block.seen_ite ?_ ?_
    | rw [Block.loss_seen (Area.sub_trans (by decide) h)]
    | rw [Block.modStation_seen (Area.sub_trans (by decide) h)]
    | rw [Block.each_seen]
    | rw [Block.foldl_seen]
    | rw [Block.foldl_snd_seen]
    | dsimp only
    | split

theorem Block.drainChain_seen {b : Block} {x1 : Nat} (h : Area.sub [.taps, .views, .stations, .mash, .sync,
    .tenants, .power] M = true) :
    (Block.drainChain b x1).seen M = b.seen M := by
  unfold Block.drainChain
  repeat' first
    | with_reducible rfl
    | (with_reducible intro _)
    | exact Keeps.of (fun _ => rfl)
    | ((with_reducible refine Keeps.of ?_); intro x; first | rfl | (repeat' split) <;> rfl | (dsimp only; (repeat'
        split) <;> rfl))
    | with_reducible refine Block.seen_ite ?_ ?_
    | rw [Block.modTap_seen (Area.sub_trans (by decide) h)]
    | rw [Block.lossSeen_seen (Area.sub_trans (by decide) h)]
    | rw [Block.foldLoss_seen (Area.sub_trans (by decide) h)]
    | rw [Block.loss_seen (Area.sub_trans (by decide) h)]
    | rw [Block.markStale_seen (Area.sub_trans (by decide) h)]
    | rw [Block.wakeLoss_seen (Area.sub_trans (by decide) h)]
    | rw [Block.each_seen]
    | rw [Block.foldl_seen]
    | rw [Block.foldl_snd_seen]
    | dsimp only
    | split

theorem Block.drainAckNow_seen {b : Block} {x1 : Nat} (h : Area.sub [.taps, .views, .stations, .mash, .sync, .tenants, .power]
    M = true) :
    (Block.drainAckNow b x1).seen M = b.seen M := by
  unfold Block.drainAckNow
  repeat' first
    | with_reducible rfl
    | (with_reducible intro _)
    | exact Keeps.of (fun _ => rfl)
    | ((with_reducible refine Keeps.of ?_); intro x; first | rfl | (repeat' split) <;> rfl | (dsimp only; (repeat'
        split) <;> rfl))
    | with_reducible refine Block.seen_ite ?_ ?_
    | rw [Block.modTap_seen (Area.sub_trans (by decide) h)]
    | rw [Block.drainChain_seen (Area.sub_trans (by decide) h)]
    | rw [Block.modView_seen (Area.sub_trans (by decide) h)]
    | rw [Block.each_seen]
    | rw [Block.foldl_seen]
    | rw [Block.foldl_snd_seen]
    | dsimp only
    | split

theorem Block.tapPush_seen {b : Block} {x1 : Nat} {x2 : Nat} {x3 : Payload} {x4 : Nat} {x5 : Nat} (h : Area.sub
    [.taps, .tenants, .power] M = true) :
    (Block.tapPush b x1 x2 x3 x4 x5).seen M = b.seen M := by
  unfold Block.tapPush
  repeat' first
    | with_reducible rfl
    | (with_reducible intro _)
    | exact Keeps.of (fun _ => rfl)
    | ((with_reducible refine Keeps.of ?_); intro x; first | rfl | (repeat' split) <;> rfl | (dsimp only; (repeat'
        split) <;> rfl))
    | with_reducible refine Block.seen_ite ?_ ?_
    | rw [Block.modTap_seen (Area.sub_trans (by decide) h)]
    | rw [Block.requestWake_seen (Area.sub_trans (by decide) h)]
    | rw [Block.loss_seen (Area.sub_trans (by decide) h)]
    | rw [Block.each_seen]
    | rw [Block.foldl_seen]
    | rw [Block.foldl_snd_seen]
    | dsimp only
    | split

theorem Block.slotPush_seen {b : Block} {x1 : Nat} {x2 : Nat} {x3 : Payload} {x4 : Nat} {x5 : Nat} (h : Area.sub
    [.taps, .tenants, .power] M = true) :
    (Block.slotPush b x1 x2 x3 x4 x5).seen M = b.seen M := by
  unfold Block.slotPush
  repeat' first
    | with_reducible rfl
    | (with_reducible intro _)
    | exact Keeps.of (fun _ => rfl)
    | ((with_reducible refine Keeps.of ?_); intro x; first | rfl | (repeat' split) <;> rfl | (dsimp only; (repeat'
        split) <;> rfl))
    | with_reducible refine Block.seen_ite ?_ ?_
    | rw [Block.tapPush_seen (Area.sub_trans (by decide) h)]
    | rw [Block.modTap_seen (Area.sub_trans (by decide) h)]
    | rw [Block.each_seen]
    | rw [Block.foldl_seen]
    | rw [Block.foldl_snd_seen]
    | dsimp only
    | split

theorem Block.clockMark_seen {b : Block} {x1 : Nat} {x2 : Nat} {x3 : Nat} (h : Area.sub [.taps, .tenants, .power] M
    = true) :
    (Block.clockMark b x1 x2 x3).seen M = b.seen M := by
  unfold Block.clockMark
  repeat' first
    | with_reducible rfl
    | (with_reducible intro _)
    | exact Keeps.of (fun _ => rfl)
    | ((with_reducible refine Keeps.of ?_); intro x; first | rfl | (repeat' split) <;> rfl | (dsimp only; (repeat'
        split) <;> rfl))
    | with_reducible refine Block.seen_ite ?_ ?_
    | rw [Block.slotPush_seen (Area.sub_trans (by decide) h)]
    | rw [Block.modTap_seen (Area.sub_trans (by decide) h)]
    | rw [Block.each_seen]
    | rw [Block.foldl_seen]
    | rw [Block.foldl_snd_seen]
    | dsimp only
    | split

theorem Block.slotWrite_seen {b : Block} {x1 : Nat} (h : Area.sub [.taps, .tenants, .meas, .power] M = true) :
    (Block.slotWrite b x1).seen M = b.seen M := by
  unfold Block.slotWrite
  repeat' first
    | with_reducible rfl
    | (with_reducible intro _)
    | exact Keeps.of (fun _ => rfl)
    | ((with_reducible refine Keeps.of ?_); intro x; first | rfl | (repeat' split) <;> rfl | (dsimp only; (repeat'
        split) <;> rfl))
    | with_reducible refine Block.seen_ite ?_ ?_
    | rw [Block.modTap_seen (Area.sub_trans (by decide) h)]
    | rw [Block.tapPush_seen (Area.sub_trans (by decide) h)]
    | rw [Block.abortImage_seen (Area.sub_trans (by decide) h)]
    | rw [Block.clockMark_seen (Area.sub_trans (by decide) h)]
    | rw [Block.slotPush_seen (Area.sub_trans (by decide) h)]
    | rw [Block.each_seen]
    | rw [Block.foldl_seen]
    | rw [Block.foldl_snd_seen]
    | dsimp only
    | split

theorem Block.storeItem_seen {b : Block} {x1 : Nat} {x2 : Nat} {x3 : Payload} (h : Area.sub [.taps, .tenants, .meas, .power] M = true) :
    (Block.storeItem b x1 x2 x3).seen M = b.seen M := by
  unfold Block.storeItem
  repeat' first
    | (with_reducible intro _)
    | exact Keeps.of (fun _ => rfl)
    | ((with_reducible refine Keeps.of ?_); intro x; first | rfl | (repeat' split) <;> rfl | (dsimp only; (repeat'
        split) <;> rfl))
    | with_reducible rfl
    | with_reducible refine Block.seen_ite ?_ ?_
    | rw [Block.ctrlEntry_seen (Area.sub_trans (by decide) h)]
    | rw [Block.modTap_seen (Area.sub_trans (by decide) h)]
    | rw [Block.tapPush_seen (Area.sub_trans (by decide) h)]
    | rw [Block.activity_seen (Area.sub_trans (by decide) h)]
    | rw [Block.slotPush_seen (Area.sub_trans (by decide) h)]
    | rw [Block.each_seen]
    | rw [Block.foldl_seen]
    | rw [Block.foldl_snd_seen]
    | dsimp only
    | split

theorem Block.beforeMark_seen {b : Block} {x1 : ℕ} {x2 : ℕ} {x3 : ℕ} {x4 : ℕ} {x5 : Entry} (h : Area.sub [.taps,
    .views, .stations, .cask, .tenants, .power] M = true) :
    (Block.beforeMark b x1 x2 x3 x4 x5).2.seen M = b.seen M := by
  unfold Block.beforeMark
  repeat' first
    | exact Keeps.of (fun _ => rfl)
    | rw [Block.modStation_seen (Area.sub_trans (by decide) h)]
    | rw [Block.place_seen (Area.sub_trans (by decide) h)]
    | rw [Block.each_seen]
    | rw [Block.foldl_seen]
    | rw [Block.foldl_snd_seen]
    | dsimp only
    | split

theorem Block.beforeMark_seen' {b : Block} {x1 : ℕ} {x2 : ℕ} {x3 : ℕ} {x4 : ℕ} {x5 : Entry} {y : _} {b' : Block} (h :
    Area.sub [.taps, .views, .stations, .cask, .tenants, .power] M = true)
    (e : (Block.beforeMark b x1 x2 x3 x4 x5) = (y, b')) : b'.seen M = b.seen M := by
  have g := Block.beforeMark_seen (M := M) h (b := b) (x1 := x1) (x2 := x2) (x3 := x3) (x4 := x4) (x5 := x5)
  rwa [e] at g

theorem Block.noContext_seen {b : Block} {x1 : ℕ} (h : Area.sub [.stations] M = true) :
    (Block.noContext b x1).seen M = b.seen M := by
  unfold Block.noContext
  repeat' first
    | exact Keeps.of (fun _ => rfl)
    | rw [Block.modStation_seen (Area.sub_trans (by decide) h)]

theorem Block.reject_seen {b : Block} {x1 : ℕ} {x2 : ℕ} (h : Area.sub [.stations] M = true) :
    (Block.reject b x1 x2).seen M = b.seen M := by
  unfold Block.reject
  repeat' first
    | exact Keeps.of (fun _ => rfl)
    | rw [Block.modStation_seen (Area.sub_trans (by decide) h)]

theorem Block.tenantDelivery_seen {b : Block} {x1 : ℕ} {x2 : ℕ} {x3 : ℕ} {x4 : Payload} (h : Area.sub [.stations] M =
    true) :
    (Block.tenantDelivery b x1 x2 x3 x4).2.seen M = b.seen M := by
  unfold Block.tenantDelivery
  repeat' first
    | rw [Block.noContext_seen (Area.sub_trans (by decide) h)]
    | rw [Block.reject_seen (Area.sub_trans (by decide) h)]
    | rw [Block.each_seen]
    | rw [Block.foldl_seen]
    | rw [Block.foldl_snd_seen]
    | dsimp only
    | split

theorem Block.tenantDelivery_seen' {b : Block} {x1 : ℕ} {x2 : ℕ} {x3 : ℕ} {x4 : Payload} {y : _} {b' : Block} (h :
    Area.sub [.stations] M = true)
    (e : (Block.tenantDelivery b x1 x2 x3 x4) = (y, b')) : b'.seen M = b.seen M := by
  have g := Block.tenantDelivery_seen (M := M) h (b := b) (x1 := x1) (x2 := x2) (x3 := x3) (x4 := x4)
  rwa [e] at g

theorem Block.contextCopies_seen {b : Block} {x1 : ℕ} {x2 : ℕ} {x3 : Payload} (h : Area.sub [.stations] M = true) :
    (Block.contextCopies b x1 x2 x3).2.seen M = b.seen M := by
  unfold Block.contextCopies
  repeat' first
    | rw [Block.tenantDelivery_seen (Area.sub_trans (by decide) h)]
    | (refine ((Block.tenantDelivery_seen' (Area.sub_trans (by decide) h) (by assumption)).trans ?_))
    | rw [Block.each_seen]
    | rw [Block.foldl_seen]
    | rw [Block.foldl_snd_seen]
    | dsimp only
    | split

theorem Block.contextCopies_seen' {b : Block} {x1 : ℕ} {x2 : ℕ} {x3 : Payload} {y : _} {b' : Block} (h : Area.sub
    [.stations] M = true)
    (e : (Block.contextCopies b x1 x2 x3) = (y, b')) : b'.seen M = b.seen M := by
  have g := Block.contextCopies_seen (M := M) h (b := b) (x1 := x1) (x2 := x2) (x3 := x3)
  rwa [e] at g

theorem Block.lossMarker_seen {b : Block} {x1 : ℕ} {x2 : ℕ} {x3 : ℕ} {x4 : ℕ} {x5 : ℕ → Bool} (h : Area.sub [.taps,
    .views, .stations, .cask, .tenants, .power] M = true) :
    (Block.lossMarker b x1 x2 x3 x4 x5).seen M = b.seen M := by
  unfold Block.lossMarker
  repeat' first
    | rw [Block.place_seen (Area.sub_trans (by decide) h)]
    | rw [Block.alignTo_seen (Area.sub_trans (by decide) h)]
    | rw [Block.modView_seen (Area.sub_trans (by decide) h)]
    | rw [Block.each_seen]
    | rw [Block.foldl_seen]
    | rw [Block.foldl_snd_seen]
    | dsimp only
    | split

theorem Block.placeItem_seen {b : Block} {x1 : Nat} {x2 : Nat} {x3 : Nat} {x4 : Entry} {x5 : Delivery} {x6 : Bool}
    (h : Area.sub [.taps, .views, .stations, .cask, .tenants, .power] M = true) :
    (Block.placeItem b x1 x2 x3 x4 x5 x6).seen M = b.seen M := by
  unfold Block.placeItem
  repeat' first
    | with_reducible rfl
    | (with_reducible intro _)
    | ((with_reducible refine Keeps.of ?_); intro x; first | rfl | (repeat' split) <;> rfl | (dsimp only; (repeat'
        split) <;> rfl))
    | with_reducible refine Block.seen_ite ?_ ?_
    | exact Keeps.of (fun _ => rfl)
    | rw [Block.modStation_seen (Area.sub_trans (by decide) h)]
    | rw [Block.place_seen (Area.sub_trans (by decide) h)]
    | rw [Block.alignTo_seen (Area.sub_trans (by decide) h)]
    | rw [Block.modView_seen (Area.sub_trans (by decide) h)]
    | rw [Block.markLive_seen (Area.sub_trans (by decide) h)]
    | rw [Block.beforeMark_seen (Area.sub_trans (by decide) h)]
    | (refine ((Block.beforeMark_seen' (Area.sub_trans (by decide) h) (by assumption)).trans ?_))
    | rw [Block.beforeMark_seen' (Area.sub_trans (by decide) h) (by assumption)]
    | rw [Block.needFull_seen (Area.sub_trans (by decide) h)]
    | rw [Block.each_seen]
    | rw [Block.foldl_seen]
    | rw [Block.foldl_snd_seen]
    | split
    | dsimp only

theorem Block.deliverItem_seen {b : Block} {x1 : ℕ} {x2 : ℕ} {x3 : Entry} {x4 : ℕ → Bool} {x5 : ℕ → ℕ} {x6 : Bool}
    {x7 : Delivery} (h : Area.sub [.taps, .views, .stations, .cask, .tenants, .power] M = true) :
    (Block.deliverItem b x1 x2 x3 x4 x5 x6 x7).2.seen M = b.seen M := by
  unfold Block.deliverItem
  repeat' first
    | rw [Block.lossMarker_seen (Area.sub_trans (by decide) h)]
    | rw [Block.needFull_seen (Area.sub_trans (by decide) h)]
    | rw [Block.modSeq_seen (Area.sub_trans (by decide) h)]
    | rw [Block.modView_seen (Area.sub_trans (by decide) h)]
    | rw [Block.reject_seen (Area.sub_trans (by decide) h)]
    | rw [Block.placeItem_seen (Area.sub_trans (by decide) h)]
    | rw [Block.each_seen]
    | rw [Block.foldl_seen]
    | rw [Block.foldl_snd_seen]
    | dsimp only
    | split

theorem Block.deliverItem_seen' {b : Block} {x1 : ℕ} {x2 : ℕ} {x3 : Entry} {x4 : ℕ → Bool} {x5 : ℕ → ℕ} {x6 : Bool}
    {x7 : Delivery} {y : _} {b' : Block} (h : Area.sub [.taps, .views, .stations, .cask, .tenants, .power] M = true)
    (e : (Block.deliverItem b x1 x2 x3 x4 x5 x6 x7) = (y, b')) : b'.seen M = b.seen M := by
  have g := Block.deliverItem_seen (M := M) h (b := b) (x1 := x1) (x2 := x2) (x3 := x3) (x4 := x4) (x5 := x5) (x6 :=
      x6) (x7 := x7)
  rwa [e] at g

theorem Block.ledgerMove_seen {b : Block} {x1 : Nat} (h : Area.sub [.taps, .views, .stations, .mash, .sync,
    .tenants, .power] M = true) :
    (Block.ledgerMove b x1).seen M = b.seen M := by
  unfold Block.ledgerMove
  repeat' first
    | with_reducible rfl
    | (with_reducible intro _)
    | ((with_reducible refine Keeps.of ?_); intro x; first | rfl | (repeat' split) <;> rfl | (dsimp only; (repeat'
        split) <;> rfl))
    | exact Keeps.of (fun _ => rfl)
    | with_reducible refine Block.seen_ite ?_ ?_
    | rw [Block.modStation_seen (Area.sub_trans (by decide) h)]
    | rw [Block.modTap_seen (Area.sub_trans (by decide) h)]
    | rw [Block.lossSeen_seen (Area.sub_trans (by decide) h)]
    | rw [Block.foldLoss_seen (Area.sub_trans (by decide) h)]
    | rw [Block.wakeLoss_seen (Area.sub_trans (by decide) h)]
    | rw [Block.each_seen]
    | rw [Block.foldl_seen]
    | rw [Block.foldl_snd_seen]
    | dsimp only
    | split

theorem Block.padCopy_seen {b : Block} {x1 : ℕ} {x2 : Payload} (h : Area.sub [.assay] M = true) :
    (Block.padCopy b x1 x2).seen M = b.seen M := by
  unfold Block.padCopy
  repeat' first
    | with_reducible rfl
    | with_reducible refine Block.seen_ite ?_ ?_
    | rw [Block.modUnit_seen (Area.sub_trans (by decide) h)]

theorem Block.rewriteCfg_seen {b : Block} {x1 : ℕ} (h : Area.sub [.taps] M = true) :
    (Block.rewriteCfg b x1).seen M = b.seen M := by
  unfold Block.rewriteCfg
  repeat' first
    | with_reducible rfl
    | with_reducible refine Block.seen_ite ?_ ?_
    | rw [Block.modTap_seen (Area.sub_trans (by decide) h)]

theorem Block.stage2_seen {b : Block} {x1 : ℕ} {x2 : Entry} (h : Area.sub [.taps, .views, .stations, .cask, .tenants,
    .power, .time] M = true) :
    (Block.stage2 b x1 x2).seen M = b.seen M := by
  unfold Block.stage2
  repeat' first
    | rw [Block.modView_seen (Area.sub_trans (by decide) h)]
    | rw [Block.realign_seen (Area.sub_trans (by decide) h)]
    | rw [Block.each_seen]
    | rw [Block.foldl_seen]
    | rw [Block.foldl_snd_seen]
    | dsimp only
    | split

theorem Block.syncAppend_seen {b : Block} {x1 : Nat} {x2 : SItem} (h : Area.sub [.views, .quads, .mash, .sync] M =
    true) :
    (Block.syncAppend b x1 x2).seen M = b.seen M := by
  unfold Block.syncAppend
  repeat' first
    | with_reducible rfl
    | (with_reducible intro _)
    | exact Keeps.of (fun _ => rfl)
    | ((with_reducible refine Keeps.of ?_); intro x; first | rfl | (repeat' split) <;> rfl | (dsimp only; (repeat'
        split) <;> rfl))
    | with_reducible refine Block.seen_ite ?_ ?_
    | rw [Block.modSync_seen (Area.sub_trans (by decide) h)]
    | rw [Block.lossSeen_seen (Area.sub_trans (by decide) h)]
    | rw [Block.modQuad_seen (Area.sub_trans (by decide) h)]
    | rw [Block.each_seen]
    | rw [Block.foldl_seen]
    | rw [Block.foldl_snd_seen]
    | dsimp only
    | split

theorem Block.setTenant_seen {b : Block} {x1 : Nat} {x2 : Option Nat} {x3 : Gt} (h : Area.sub [.views, .mash] M =
    true) :
    (Block.setTenant b x1 x2 x3).seen M = b.seen M := by
  unfold Block.setTenant
  repeat' first
    | with_reducible rfl
    | (with_reducible intro _)
    | exact Keeps.of (fun _ => rfl)
    | ((with_reducible refine Keeps.of ?_); intro x; first | rfl | (repeat' split) <;> rfl | (dsimp only; (repeat'
        split) <;> rfl))
    | with_reducible refine Block.seen_ite ?_ ?_
    | rw [Block.haloCut_seen (Area.sub_trans (by decide) h)]
    | rw [Block.cutSegs_seen (Area.sub_trans (by decide) h)]
    | rw [Block.modView_seen (Area.sub_trans (by decide) h)]
    | rw [Block.reseg_seen' (Area.sub_trans (by decide) h) (by assumption)]
    | rw [Block.reseg_seen (Area.sub_trans (by decide) h)]
    | rw [queueSteps_seen (Area.sub_trans (by decide) h)]
    | rw [Block.each_seen]
    | rw [Block.foldl_seen]
    | rw [Block.foldl_snd_seen]
    | dsimp only
    | split

theorem Block.pullLoss_seen {b : Block} {x1 : Nat} (h : Area.sub [.views, .mash] M = true) :
    (Block.pullLoss b x1).seen M = b.seen M := by
  unfold Block.pullLoss
  repeat' first
    | with_reducible rfl
    | (with_reducible intro _)
    | exact Keeps.of (fun _ => rfl)
    | ((with_reducible refine Keeps.of ?_); intro x; first | rfl | (repeat' split) <;> rfl | (dsimp only; (repeat'
        split) <;> rfl))
    | with_reducible refine Block.seen_ite ?_ ?_
    | rw [Block.lossEnd_seen (Area.sub_trans (by decide) h)]
    | rw [Block.modView_seen (Area.sub_trans (by decide) h)]
    | rw [Block.each_seen]
    | rw [Block.foldl_seen]
    | rw [Block.foldl_snd_seen]
    | dsimp only
    | split

theorem Block.stage3_seen {b : Block} {x1 : Nat} {x2 : Entry} {x3 : Gt} (h : Area.sub [.taps, .views, .quads, .mash,
    .assay, .sync] M = true) :
    (Block.stage3 b x1 x2 x3).seen M = b.seen M := by
  unfold Block.stage3
  repeat' first
    | (with_reducible intro _)
    | exact Keeps.of (fun _ => rfl)
    | ((with_reducible refine Keeps.of ?_); intro x; first | rfl | (repeat' split) <;> rfl | (dsimp only; (repeat'
        split) <;> rfl))
    | with_reducible rfl
    | with_reducible refine Block.seen_ite ?_ ?_
    | rw [Block.markStale_seen (Area.sub_trans (by decide) h)]
    | rw [Block.resolveAll_seen (Area.sub_trans (by decide) h)]
    | rw [Block.loopItem_seen (Area.sub_trans (by decide) h)]
    | rw [Block.modView_seen (Area.sub_trans (by decide) h)]
    | rw [Block.rewriteCfg_seen (Area.sub_trans (by decide) h)]
    | rw [Block.padCopy_seen (Area.sub_trans (by decide) h)]
    | rw [Block.syncAppend_seen (Area.sub_trans (by decide) h)]
    | rw [Block.setTenant_seen (Area.sub_trans (by decide) h)]
    | rw [Block.unquiet_seen (Area.sub_trans (by decide) h)]
    | rw [Block.pullLoss_seen (Area.sub_trans (by decide) h)]
    | rw [Block.each_seen]
    | rw [Block.foldl_seen]
    | rw [Block.foldl_snd_seen]
    | dsimp only
    | split

theorem Block.stage4_seen {b : Block} {x1 : Nat} {x2 : Nat} {x3 : Entry} (h : Area.sub [.taps, .views, .stations] M
    = true) :
    (Block.stage4 b x1 x2 x3).2.seen M = b.seen M := by
  unfold Block.stage4
  repeat' first
    | with_reducible rfl
    | (with_reducible intro _)
    | exact Keeps.of (fun _ => rfl)
    | ((with_reducible refine Keeps.of ?_); intro x; first | rfl | (repeat' split) <;> rfl | (dsimp only; (repeat'
        split) <;> rfl))
    | with_reducible refine Block.seen_ite ?_ ?_
    | rw [Block.contextCopies_seen (Area.sub_trans (by decide) h)]
    | (refine ((Block.contextCopies_seen' (Area.sub_trans (by decide) h) (by assumption)).trans ?_))
    | rw [Block.needFull_seen (Area.sub_trans (by decide) h)]
    | rw [Block.noContext_seen (Area.sub_trans (by decide) h)]
    | rw [Block.tenantDelivery_seen (Area.sub_trans (by decide) h)]
    | (refine ((Block.tenantDelivery_seen' (Area.sub_trans (by decide) h) (by assumption)).trans ?_))
    | rw [Block.contextCopies_seen' (Area.sub_trans (by decide) h) (by assumption)]
    | rw [Block.tenantDelivery_seen' (Area.sub_trans (by decide) h) (by assumption)]
    | rw [Block.each_seen]
    | rw [Block.foldl_seen]
    | rw [Block.foldl_snd_seen]
    | dsimp only
    | split

theorem Block.stage4_seen' {b : Block} {x1 : Nat} {x2 : Nat} {x3 : Entry} {y : _} {b' : Block} (h : Area.sub [.taps,
    .views, .stations] M = true)
    (e : (Block.stage4 b x1 x2 x3) = (y, b')) : b'.seen M = b.seen M := by
  have g := Block.stage4_seen (M := M) h (b := b) (x1 := x1) (x2 := x2) (x3 := x3)
  rwa [e] at g

theorem Block.stage5_seen {b : Block} {x1 : ℕ} {x2 : ℕ} {x3 : Entry} {x4 : Gt} {x5 : List Delivery} (h : Area.sub
    [.taps, .views, .stations, .cask, .tenants, .power] M = true) :
    (Block.stage5 b x1 x2 x3 x4 x5).2.seen M = b.seen M := by
  unfold Block.stage5
  repeat' first
    | (with_reducible intro _)
    | rw [Block.deliverItem_seen (Area.sub_trans (by decide) h)]
    | (refine ((Block.deliverItem_seen' (Area.sub_trans (by decide) h) (by assumption)).trans ?_))
    | rw [Block.modSeq_seen (Area.sub_trans (by decide) h)]
    | rw [Block.seqAct_seen (Area.sub_trans (by decide) h)]
    | rw [Block.each_seen]
    | rw [Block.foldl_seen]
    | rw [Block.foldl_snd_seen]
    | dsimp only
    | split

theorem Block.stage5_seen' {b : Block} {x1 : ℕ} {x2 : ℕ} {x3 : Entry} {x4 : Gt} {x5 : List Delivery} {y : _} {b' :
    Block} (h : Area.sub [.taps, .views, .stations, .cask, .tenants, .power] M = true)
    (e : (Block.stage5 b x1 x2 x3 x4 x5) = (y, b')) : b'.seen M = b.seen M := by
  have g := Block.stage5_seen (M := M) h (b := b) (x1 := x1) (x2 := x2) (x3 := x3) (x4 := x4) (x5 := x5)
  rwa [e] at g

theorem Block.sumSkipped_seen {b : Block} {x1 : ℕ} {x2 : ℕ} {x3 : Entry} {x4 : List ℕ} (h : Area.sub [.stations] M =
    true) :
    (Block.sumSkipped b x1 x2 x3 x4).seen M = b.seen M := by
  unfold Block.sumSkipped
  repeat' first
    | exact Keeps.of (fun _ => rfl)
    | rw [Block.modStation_seen (Area.sub_trans (by decide) h)]

theorem Block.modAsyTap_seen {b : Block} {x1 : ℕ} {x2 : ℕ} {x3 : AsyTap → AsyTap} (h : Area.sub [.assay] M = true) :
    (Block.modAsyTap b x1 x2 x3).seen M = b.seen M := by
  unfold Block.modAsyTap
  repeat' first
    | (rw [Block.modUnit_seen (Area.sub_trans (by decide) h)])

theorem Block.endTensor_seen {b : Block} {x1 : ℕ} {x2 : ℕ} {x3 : Tensor} {x4 : ℕ} {x5 : Gt} (h : Area.sub [.assay] M
    = true) :
    (Block.endTensor b x1 x2 x3 x4 x5).seen M = b.seen M := by
  unfold Block.endTensor
  repeat' first
    | rw [Block.modAsyTap_seen (Area.sub_trans (by decide) h)]
    | rw [Block.modUnit_seen (Area.sub_trans (by decide) h)]

theorem Block.skipRows_seen {b : Block} {x1 : ℕ} {x2 : ℕ} {x3 : ℕ} (h : Area.sub [.assay] M = true) :
    (Block.skipRows b x1 x2 x3).seen M = b.seen M := by
  unfold Block.skipRows
  repeat' first
    | rw [Block.modAsyTap_seen (Area.sub_trans (by decide) h)]
    | rw [Block.modUnit_seen (Area.sub_trans (by decide) h)]

theorem Block.rowEvents_seen {b : Block} {x1 : Nat} {x2 : Tensor} {x3 : Verdict} (h : Area.sub [.stations, .tenants]
    M = true) :
    (Block.rowEvents b x1 x2 x3).seen M = b.seen M := by
  unfold Block.rowEvents
  repeat' first
    | with_reducible rfl
    | exact Keeps.of (fun _ => rfl)
    | ((with_reducible refine Keeps.of ?_); intro x; first | rfl | (repeat' split) <;> rfl | (dsimp only; (repeat'
        split) <;> rfl))
    | with_reducible refine Block.seen_ite ?_ ?_
    | (with_reducible intro _)
    | rw [Block.raise_seen (Area.sub_trans (by decide) h)]
    | rw [Block.sendEvent_seen (Area.sub_trans (by decide) h)]
    | rw [Block.each_seen]
    | rw [Block.foldl_seen]
    | rw [Block.foldl_snd_seen]
    | dsimp only
    | split

theorem Block.commitRow_seen {b : Block} {x1 : ℕ} {x2 : ℕ} (h : Area.sub [.stations, .quads, .assay, .tenants,
    .power] M = true) :
    (Block.commitRow b x1 x2).seen M = b.seen M := by
  unfold Block.commitRow
  repeat' first
    | rw [Block.endTensor_seen (Area.sub_trans (by decide) h)]
    | rw [Block.offerRec_seen (Area.sub_trans (by decide) h)]
    | rw [Block.rowEvents_seen (Area.sub_trans (by decide) h)]
    | rw [Block.modAsyTap_seen (Area.sub_trans (by decide) h)]
    | rw [Block.each_seen]
    | rw [Block.foldl_seen]
    | rw [Block.foldl_snd_seen]
    | dsimp only
    | split

theorem Block.closeTensor_seen {b : Block} {x1 : ℕ} {x2 : ℕ} {x3 : ℕ} {x4 : Gt} (h : Area.sub [.stations, .quads,
    .assay, .tenants, .power] M = true) :
    (Block.closeTensor b x1 x2 x3 x4).seen M = b.seen M := by
  unfold Block.closeTensor
  repeat' first
    | rw [Block.endTensor_seen (Area.sub_trans (by decide) h)]
    | rw [Block.modAsyTap_seen (Area.sub_trans (by decide) h)]
    | rw [Block.skipRows_seen (Area.sub_trans (by decide) h)]
    | rw [Block.commitRow_seen (Area.sub_trans (by decide) h)]
    | rw [Block.each_seen]
    | rw [Block.foldl_seen]
    | rw [Block.foldl_snd_seen]
    | dsimp only
    | split

theorem Block.closeUnitTensors_seen {b : Block} {x1 : ℕ} (h : Area.sub [.stations, .quads, .assay, .tenants, .power]
    M = true) :
    (Block.closeUnitTensors b x1).seen M = b.seen M := by
  unfold Block.closeUnitTensors
  repeat' first
    | (with_reducible intro _)
    | rw [Block.modUnit_seen (Area.sub_trans (by decide) h)]
    | rw [Block.closeTensor_seen (Area.sub_trans (by decide) h)]
    | rw [Block.each_seen]

theorem Block.discardUnitTensors_seen {b : Block} {x1 : ℕ} (h : Area.sub [.assay] M = true) :
    (Block.discardUnitTensors b x1).seen M = b.seen M := by
  unfold Block.discardUnitTensors
  repeat' first
    | (rw [Block.modUnit_seen (Area.sub_trans (by decide) h)])

theorem Block.openTensor_seen {b : Block} {x1 : ℕ} {x2 : ℕ} {x3 : ℕ} {x4 : ℕ} (h : Area.sub [.assay] M = true) :
    (Block.openTensor b x1 x2 x3 x4).seen M = b.seen M := by
  unfold Block.openTensor
  repeat' first
    | (rw [Block.modAsyTap_seen (Area.sub_trans (by decide) h)])

theorem Block.firstBeat_seen {b : Block} {x1 : ℕ} {x2 : ℕ} {x3 : AsyEntry} (h : Area.sub [.stations, .quads, .assay,
    .tenants, .power] M = true) :
    (Block.firstBeat b x1 x2 x3).seen M = b.seen M := by
  unfold Block.firstBeat
  repeat' first
    | rw [Block.modAsyTap_seen (Area.sub_trans (by decide) h)]
    | rw [Block.modUnit_seen (Area.sub_trans (by decide) h)]
    | rw [Block.openTensor_seen (Area.sub_trans (by decide) h)]
    | rw [Block.skipRows_seen (Area.sub_trans (by decide) h)]
    | rw [Block.closeTensor_seen (Area.sub_trans (by decide) h)]
    | rw [Block.each_seen]
    | rw [Block.foldl_seen]
    | rw [Block.foldl_snd_seen]
    | dsimp only
    | split

theorem Block.dropCutRow_seen {b : Block} {x1 x2 x3 : Nat} (h : Area.sub [.assay] M = true) :
    (Block.dropCutRow b x1 x2 x3).seen M = b.seen M := by
  unfold Block.dropCutRow
  exact Block.seen_ite rfl (Block.modAsyTap_seen h)

theorem Block.processBeat_seen {b : Block} {x1 : Nat} {x2 : Nat} {x3 : AsyEntry} (h : Area.sub [.stations, .quads,
    .assay, .tenants, .power] M = true) :
    (Block.processBeat b x1 x2 x3).seen M = b.seen M := by
  unfold Block.processBeat
  repeat' first
    | with_reducible rfl
    | (with_reducible intro _)
    | exact Keeps.of (fun _ => rfl)
    | ((with_reducible refine Keeps.of ?_); intro x; first | rfl | (repeat' split) <;> rfl | (dsimp only; (repeat'
        split) <;> rfl))
    | with_reducible refine Block.seen_ite ?_ ?_
    | rw [Block.modAsyTap_seen (Area.sub_trans (by decide) h)]
    | rw [Block.modUnit_seen (Area.sub_trans (by decide) h)]
    | rw [Block.skipRows_seen (Area.sub_trans (by decide) h)]
    | rw [Block.commitRow_seen (Area.sub_trans (by decide) h)]
    | rw [Block.firstBeat_seen (Area.sub_trans (by decide) h)]
    | rw [Block.dropCutRow_seen (Area.sub_trans (by decide) h)]
    | rw [Block.each_seen]
    | rw [Block.foldl_seen]
    | rw [Block.foldl_snd_seen]
    | split
    | dsimp only

theorem Block.rebind_seen {b : Block} {x1 : Nat} {x2 : Word} (h : Area.sub [.taps, .stations, .quads, .assay,
    .profiles, .tenants, .power] M = true) :
    (Block.rebind b x1 x2).seen M = b.seen M := by
  unfold Block.rebind
  repeat' first
    | (with_reducible intro _)
    | exact Keeps.of (fun _ => rfl)
    | ((with_reducible refine Keeps.of ?_); intro x; first | rfl | (repeat' split) <;> rfl | (dsimp only; (repeat'
        split) <;> rfl))
    | with_reducible rfl
    | with_reducible refine Block.seen_ite ?_ ?_
    | rw [Block.modAssay_seen_all (Area.sub_trans (by decide) h)]
    | rw [Block.modTap_seen (Area.sub_trans (by decide) h)]
    | rw [Block.modUnit_seen (Area.sub_trans (by decide) h)]
    | rw [Block.closeTensor_seen (Area.sub_trans (by decide) h)]
    | rw [Block.each_seen]
    | rw [Block.foldl_seen]
    | rw [Block.foldl_snd_seen]
    | dsimp only
    | split

theorem Block.loadMirror_seen {b : Block} {x1 : ℕ} (h : Area.sub [.views] M = true) :
    (Block.loadMirror b x1).seen M = b.seen M := by
  unfold Block.loadMirror
  repeat' first
    | (rw [Block.modView_seen (Area.sub_trans (by decide) h)])

theorem Block.stopMarkers_seen {b : Block} {x1 : ℕ} {x2 : Bool} {x3 : Bool} {x4 : ℕ} {x5 : Gt} {x6 : ℕ} (h : Area.sub
    [.taps, .views, .stations, .cask, .tenants, .power] M = true) :
    (Block.stopMarkers b x1 x2 x3 x4 x5 x6).seen M = b.seen M := by
  unfold Block.stopMarkers
  repeat' first
    | (with_reducible intro _)
    | rw [Block.markerTo_seen (Area.sub_trans (by decide) h)]
    | rw [Block.each_seen]

theorem Block.stationRegion_seen {b : Block} {x1 : ℕ} {x2 : ℕ} {x3 : ℕ} {x4 : Gt} {x5 : Bool} {x6 : ℕ} (h : Area.sub
    [.taps, .views, .stations, .cask, .tenants, .power, .time] M = true) :
    (Block.stationRegion b x1 x2 x3 x4 x5 x6).seen M = b.seen M := by
  unfold Block.stationRegion
  repeat' first
    | with_reducible rfl
    | with_reducible refine Block.seen_ite ?_ ?_
    | rw [Block.regionStrobe_seen (Area.sub_trans (by decide) h)]
    | rw [Block.stopMarkers_seen (Area.sub_trans (by decide) h)]

theorem Block.stopsPending_seen {b : Block} {x1 : Nat} (h : Area.sub [.taps] M = true) :
    (Block.stopsPending b x1).seen M = b.seen M := by
  unfold Block.stopsPending
  repeat' first
    | with_reducible rfl
    | (with_reducible intro _)
    | exact Keeps.of (fun _ => rfl)
    | ((with_reducible refine Keeps.of ?_); intro x; first | rfl | (repeat' split) <;> rfl | (dsimp only; (repeat'
        split) <;> rfl))
    | with_reducible refine Block.seen_ite ?_ ?_
    | (rw [Block.set_taps_seen (Area.sub_trans (by decide) h)])
    | rw [Block.each_seen]
    | rw [Block.foldl_seen]
    | rw [Block.foldl_snd_seen]
    | dsimp only
    | split

theorem Block.regionChange_seen {b : Block} {x1 : Nat} {x2 : Nat} {x3 : Gt} {x4 : Bool} (h : Area.sub [.taps,
    .views, .stations, .cask, .tenants, .power, .time] M = true) :
    (Block.regionChange b x1 x2 x3 x4).seen M = b.seen M := by
  unfold Block.regionChange
  repeat' first
    | exact Keeps.of (fun _ => rfl)
    | ((with_reducible refine Keeps.of ?_); intro x; first | rfl | (repeat' split) <;> rfl | (dsimp only; (repeat'
        split) <;> rfl))
    | with_reducible rfl
    | (with_reducible intro _)
    | with_reducible refine Block.seen_ite ?_ ?_
    | rw [Block.stationRegion_seen (Area.sub_trans (by decide) h)]
    | rw [Block.modTime_seen (Area.sub_trans (by decide) h)]
    | rw [Block.stopsPending_seen (Area.sub_trans (by decide) h)]
    | rw [Block.each_seen]
    | rw [Block.foldl_seen]
    | rw [Block.foldl_snd_seen]
    | dsimp only
    | split

theorem Block.regionCatchUp_seen {b : Block} (h : Area.sub [.taps, .views, .stations, .cask, .tenants, .power, .time]
    M = true) :
    (Block.regionCatchUp b).seen M = b.seen M := by
  unfold Block.regionCatchUp
  repeat' first
    | (with_reducible intro _)
    | rw [Block.regionChange_seen (Area.sub_trans (by decide) h)]
    | rw [Block.modTime_seen (Area.sub_trans (by decide) h)]
    | rw [Block.each_seen]

theorem Block.atT_seen {b : Block} {x1 : Nat} (h : Area.sub [.freezes] M = true) :
    (Block.atT b x1).seen M = b.seen M := by
  unfold Block.atT
  repeat' first
    | with_reducible rfl
    | (with_reducible intro _)
    | exact Keeps.of (fun _ => rfl)
    | ((with_reducible refine Keeps.of ?_); intro x; first | rfl | (repeat' split) <;> rfl | (dsimp only; (repeat'
        split) <;> rfl))
    | with_reducible refine Block.seen_ite ?_ ?_
    | rw [Block.modFreeze_seen (Area.sub_trans (by decide) h)]
    | rw [Block.each_seen]
    | rw [Block.foldl_seen]
    | rw [Block.foldl_snd_seen]
    | dsimp only
    | split

theorem Block.reachT_seen {b : Block} (h : Area.sub [.freezes] M = true) :
    (Block.reachT b).seen M = b.seen M := by
  unfold Block.reachT
  repeat' first
    | with_reducible rfl
    | (with_reducible intro _)
    | exact Keeps.of (fun _ => rfl)
    | ((with_reducible refine Keeps.of ?_); intro x; first | rfl | (repeat' split) <;> rfl | (dsimp only; (repeat'
        split) <;> rfl))
    | with_reducible refine Block.seen_ite ?_ ?_
    | rw [Block.atT_seen (Area.sub_trans (by decide) h)]
    | rw [Block.each_seen]
    | rw [Block.foldl_seen]
    | rw [Block.foldl_snd_seen]
    | dsimp only
    | split

theorem Block.passCycles_seen {b : Block} {x1 : ℕ} (h : Area.sub [.freezes, .power, .time] M = true) :
    (Block.passCycles b x1).seen M = b.seen M := by
  unfold Block.passCycles
  dsimp only
  split
  · rw [Block.modPower_seen (Area.sub_trans (by decide) h), Block.reachT_seen (Area.sub_trans (by decide) h),
      Block.modTime_seen (Area.sub_trans (by decide) h)]
  · rw [Block.reachT_seen (Area.sub_trans (by decide) h), Block.modTime_seen (Area.sub_trans (by decide) h)]

theorem tget_map_keeps {α β : Type} {d : α} {q : α → β} {l : Tbl α} {f : α → α} (h : Keeps q f) (n : Nat) :
    q (tget d (l.map (fun e => (e.1, f e.2))) n) = q (tget d l n) := by
  induction l with
  | nil => rfl
  | cons e l ih =>
    obtain ⟨k, v⟩ := e
    simp only [List.map_cons, tget]
    split
    · exact h _
    · exact ih

theorem Block.shiftWaits_seen {b : Block} {x1 : Int} (h : Area.sub [.taps, .views, .stations, .quads, .mash, .sync, .tenants] M = true) :
    (Block.shiftWaits b x1).seen M = b.seen M := by
  have m := Area.sub_iff.1 h
  have g (c : Block) (x : Tbl Tap) (v : Tbl TapView) (q : Tbl Quadrant) (f : Station → Station) (k : Tenant → Tenant)
      (hf : Keeps Station.lauter f) (hk : Keeps Tenant.quotas k) :
      ({ c with taps := x, views := v, quads := q, stations := c.stations.map (fun e => (e.1, f e.2))
                tenants := c.tenants.map (fun e => (e.1, k e.2)) } : Block).seen M = c.seen M := by
    simp [Block.seen, Area.see, m .taps, m .views, m .quads, m .stations, m .tenants, Block.station, Block.tenant,
      Block.chan, tget_map_keeps hf, tget_map_keeps hk]
  unfold Block.shiftWaits
  dsimp only
  refine (g _ _ _ _ (fun s => { s with
      pkts := s.pkts.map (fun p => { p with adj := p.adj + x1 })
      regionStrobe := s.regionStrobe.map (fun r => (r.1, shiftGt x1 r.2)) })
    (fun t => { t with refreshGt := shiftGt x1 t.refreshGt }) (Keeps.of (fun _ => rfl)) (Keeps.of (fun _ => rfl))).trans ?_
  rw [Block.modSync_seen (Area.sub_trans (by decide) h), Block.modMash_seen (Area.sub_trans (by decide) h)]
  exact Keeps.of (fun _ => rfl)

theorem Block.stepTo_seen {b : Block} {x1 : ℕ} (h : Area.sub [.taps, .views, .stations, .quads, .cask, .mash, .sync, .tenants, .power, .time] M = true) :
    (Block.stepTo b x1).seen M = b.seen M := by
  unfold Block.stepTo
  repeat' first
    | with_reducible refine Block.seen_ite ?_ ?_
    | rw [Block.stepStrobes_seen (Area.sub_trans (by decide) h)]
    | rw [Block.shiftWaits_seen (Area.sub_trans (by decide) h)]
    | rw [Block.modTime_seen (Area.sub_trans (by decide) h)]
    | rw [Block.advanceEpoch_seen (Area.sub_trans (by decide) h)]

theorem Block.trim_seen {b : Block} (h : Area.sub [.time, .free] M = true) :
    (Block.trim b).seen M = b.seen M := by
  unfold Block.trim
  repeat' first
    | rw [Block.takeFree_seen (Area.sub_trans (by decide) h)]
    | (refine ((Block.takeFree_seen' (Area.sub_trans (by decide) h) (by assumption)).trans ?_))
    | rw [Block.modTime_seen (Area.sub_trans (by decide) h)]

theorem Block.finishFreeze_seen {b : Block} {x1 : ℕ} (h : Area.sub [.freezes, .tenants] M = true) :
    (Block.finishFreeze b x1).seen M = b.seen M := by
  unfold Block.finishFreeze
  repeat' first
    | with_reducible rfl
    | with_reducible refine Block.seen_ite ?_ ?_
    | rw [Block.raise_seen (Area.sub_trans (by decide) h)]
    | rw [Block.modFreeze_seen (Area.sub_trans (by decide) h)]

theorem Block.setFz_seen {b : Block} {x1 : ℕ} {x2 : ℕ} {x3 : FzTap} (h : Area.sub [.freezes] M = true) :
    (Block.setFz b x1 x2 x3).seen M = b.seen M := by
  unfold Block.setFz
  repeat' first
    | (rw [Block.modFreeze_seen (Area.sub_trans (by decide) h)])

theorem Block.lossTold_seen {b : Block} {x1 : Nat} (h : Area.sub [.taps] M = true) :
    (Block.lossTold b x1).seen M = b.seen M := by
  unfold Block.lossTold
  repeat' first
    | with_reducible rfl
    | (with_reducible intro _)
    | exact Keeps.of (fun _ => rfl)
    | ((with_reducible refine Keeps.of ?_); intro x; first | rfl | (repeat' split) <;> rfl | (dsimp only; (repeat'
        split) <;> rfl))
    | with_reducible refine Block.seen_ite ?_ ?_
    | rw [Block.modTap_seen (Area.sub_trans (by decide) h)]
    | rw [Block.each_seen]
    | rw [Block.foldl_seen]
    | rw [Block.foldl_snd_seen]
    | dsimp only
    | split

theorem Block.noLatch_seen {b : Block} {x1 : Nat} {x2 : Nat} {x3 : FzTap} (h : Area.sub [.taps, .freezes] M = true) :
    (Block.noLatch b x1 x2 x3).seen M = b.seen M := by
  unfold Block.noLatch
  repeat' first
    | with_reducible rfl
    | (with_reducible intro _)
    | exact Keeps.of (fun _ => rfl)
    | ((with_reducible refine Keeps.of ?_); intro x; first | rfl | (repeat' split) <;> rfl | (dsimp only; (repeat'
        split) <;> rfl))
    | with_reducible refine Block.seen_ite ?_ ?_
    | rw [Block.setFz_seen (Area.sub_trans (by decide) h)]
    | rw [Block.lossTold_seen (Area.sub_trans (by decide) h)]
    | rw [Block.each_seen]
    | rw [Block.foldl_seen]
    | rw [Block.foldl_snd_seen]
    | dsimp only
    | split

theorem Block.freezeStrobe_seen {b : Block} {x1 : Nat} {x2 : Nat} (h : Area.sub [.taps, .freezes] M = true) :
    (Block.freezeStrobe b x1 x2).seen M = b.seen M := by
  unfold Block.freezeStrobe
  repeat' first
    | with_reducible rfl
    | (with_reducible intro _)
    | exact Keeps.of (fun _ => rfl)
    | ((with_reducible refine Keeps.of ?_); intro x; first | rfl | (repeat' split) <;> rfl | (dsimp only; (repeat'
        split) <;> rfl))
    | with_reducible refine Block.seen_ite ?_ ?_
    | rw [Block.modTap_seen (Area.sub_trans (by decide) h)]
    | rw [Block.setFz_seen (Area.sub_trans (by decide) h)]
    | rw [Block.noLatch_seen (Area.sub_trans (by decide) h)]
    | rw [Block.each_seen]
    | rw [Block.foldl_seen]
    | rw [Block.foldl_snd_seen]
    | dsimp only
    | split

theorem Block.refreshView_seen {b : Block} {x1 : Nat} (h : Area.sub [.tenants] M = true) :
    (Block.refreshView b x1).seen M = b.seen M := by
  unfold Block.refreshView
  repeat' first
    | with_reducible rfl
    | (with_reducible intro _)
    | ((with_reducible refine Keeps.of ?_); intro x; first | rfl | (repeat' split) <;> rfl | (dsimp only; (repeat'
        split) <;> rfl))
    | with_reducible refine Block.seen_ite ?_ ?_
    | exact Keeps.of (fun _ => rfl)
    | rw [Block.modTenant_seen (Area.sub_trans (by decide) h)]
    | rw [Block.each_seen]
    | rw [Block.foldl_seen]
    | rw [Block.foldl_snd_seen]
    | dsimp only
    | split

theorem Block.cmdAbort_seen {b : Block} {x1 : ℕ} {x2 : Word} (h : Area.sub [.ports] M = true) :
    (Block.cmdAbort b x1 x2).seen M = b.seen M := by
  unfold Block.cmdAbort
  repeat' first
    | with_reducible rfl
    | with_reducible refine Block.seen_ite ?_ ?_
    | rw [Block.modPort_seen (Area.sub_trans (by decide) h)]

theorem Block.cmdData_seen {b : Block} {x1 : ℕ} {x2 : Word} {x3 : BitVec 4} (h : Area.sub [.ports] M = true) :
    (Block.cmdData b x1 x2 x3).seen M = b.seen M := by
  unfold Block.cmdData
  repeat' first
    | rw [Block.modPort_seen (Area.sub_trans (by decide) h)]
    | rw [Block.each_seen]
    | rw [Block.foldl_seen]
    | rw [Block.foldl_snd_seen]
    | dsimp only
    | split

theorem Block.emptyParked_seen {b : Block} {x1 : Nat} (h : Area.sub [.ports, .out] M = true) :
    (Block.emptyParked b x1).seen M = b.seen M := by
  unfold Block.emptyParked
  repeat' first
    | with_reducible rfl
    | exact Keeps.of (fun _ => rfl)
    | ((with_reducible refine Keeps.of ?_); intro x; first | rfl | (repeat' split) <;> rfl | (dsimp only; (repeat'
        split) <;> rfl))
    | with_reducible refine Block.seen_ite ?_ ?_
    | (with_reducible intro _)
    | rw [Block.emit_seen (Area.sub_trans (by decide) h)]
    | rw [Block.modPort_seen (Area.sub_trans (by decide) h)]
    | rw [Block.each_seen]
    | rw [Block.foldl_seen]
    | rw [Block.foldl_snd_seen]
    | dsimp only
    | split

theorem serveParked_seen {x0 : ℕ} {b : Block} {x2 : ℕ} (h : Area.sub [.ports, .out] M = true) :
    (serveParked x0 b x2).seen M = b.seen M := by
  induction x0 generalizing b x2 with
  | zero => rfl
  | succ k ih =>
    unfold serveParked
    repeat' first
      | rw [ih]
      | rw [Block.emit_seen (Area.sub_trans (by decide) h)]
      | rw [Block.modPort_seen (Area.sub_trans (by decide) h)]
      | rw [Block.each_seen]
      | rw [Block.foldl_seen]
      | rw [Block.foldl_snd_seen]
      | dsimp only
      | split

theorem Block.countFault_seen {b : Block} {x1 : ℕ} (h : Area.sub [.power] M = true) :
    (Block.countFault b x1).seen M = b.seen M := Block.modPower_seen h

theorem Block.respond_seen {b : Block} {x1 : ℕ} {x2 : ℕ} {x3 : Bool} {x4 : ℕ} {x5 : List Word} (h : Area.sub [.ports,
    .tenants, .power, .out] M = true) :
    (Block.respond b x1 x2 x3 x4 x5).seen M = b.seen M := by
  unfold Block.respond
  split
  · rfl
  · dsimp only
    rw [serveParked_seen (Area.sub_trans (by decide) h), Block.raise_seen (Area.sub_trans (by decide) h),
      Block.modPort_seen (Area.sub_trans (by decide) h), Block.countFault_seen (Area.sub_trans (by decide) h)]

theorem Block.finishLong_seen {b : Block} {x1 : ℕ} {x2 : Long} {x3 : ℕ} {x4 : List Word} (h : Area.sub [.ports,
    .tenants, .power, .out] M = true) :
    (Block.finishLong b x1 x2 x3 x4).seen M = b.seen M := by
  unfold Block.finishLong
  repeat' first
    | rw [Block.respond_seen (Area.sub_trans (by decide) h)]
    | rw [Block.modPort_seen (Area.sub_trans (by decide) h)]

theorem Block.finishLongs_seen {b : Block} {x1 : ℕ → LongKind → Option (ℕ × List Word)} (h : Area.sub [.ports,
    .tenants, .power, .out] M = true) :
    (Block.finishLongs b x1).seen M = b.seen M := by
  unfold Block.finishLongs
  repeat' first
    | (with_reducible intro _)
    | rw [Block.finishLong_seen (Area.sub_trans (by decide) h)]
    | rw [Block.each_seen]
    | rw [Block.foldl_seen]
    | rw [Block.foldl_snd_seen]
    | dsimp only
    | split

theorem Block.mapLongs_seen {b : Block} {x1 : LongKind → LongKind} (h : Area.sub [.ports] M = true) :
    (Block.mapLongs b x1).seen M = b.seen M := by
  unfold Block.mapLongs
  repeat' first
    | (rw [Block.set_ports_seen (Area.sub_trans (by decide) h)])

theorem Block.resetPort_seen {b : Block} {x1 : ℕ} (h : Area.sub [.ports, .out] M = true) :
    (Block.resetPort b x1).seen M = b.seen M := by
  unfold Block.resetPort
  repeat' first
    | rw [Block.modPort_seen (Area.sub_trans (by decide) h)]
    | rw [Block.emptyParked_seen (Area.sub_trans (by decide) h)]

theorem Block.setLink_seen {b : Block} {x1 : ℕ} {x2 : LinkState} (h : Area.sub [.tenants, .hop] M = true) :
    (Block.setLink b x1 x2).seen M = b.seen M := by
  unfold Block.setLink
  repeat' first
    | with_reducible rfl
    | with_reducible refine Block.seen_ite ?_ ?_
    | rw [Block.raise_seen (Area.sub_trans (by decide) h)]
    | rw [Block.modHopPort_seen (Area.sub_trans (by decide) h)]

theorem Block.train_seen {b : Block} {x1 : ℕ} (h : Area.sub [.tenants, .hop, .out] M = true) :
    (Block.train b x1).seen M = b.seen M := by
  unfold Block.train
  repeat' first
    | with_reducible rfl
    | with_reducible refine Block.seen_ite ?_ ?_
    | rw [Block.emit_seen (Area.sub_trans (by decide) h)]
    | rw [Block.setLink_seen (Area.sub_trans (by decide) h)]

theorem Block.sendOn_seen {b : Block} {x1 : ℕ} {x2 : Frame} {x3 : ℕ} (h : Area.sub [.hop] M = true) :
    (Block.sendOn b x1 x2 x3).seen M = b.seen M := by
  unfold Block.sendOn
  repeat' first
    | (rw [Block.modHopPort_seen (Area.sub_trans (by decide) h)])

theorem Block.recompute_seen {b : Block} {x1 : List ℕ} (h : Area.sub [.hop] M = true) :
    (Block.recompute b x1).seen M = b.seen M := by
  unfold Block.recompute
  repeat' first
    | with_reducible rfl
    | (with_reducible intro _)
    | with_reducible refine Block.seen_ite ?_ ?_
    | rw [Block.sendOn_seen (Area.sub_trans (by decide) h)]
    | rw [Block.modHop_seen (Area.sub_trans (by decide) h)]
    | rw [Block.each_seen]

theorem Block.selfRoot_seen {b : Block} (h : Area.sub [.taps, .views, .stations, .cask, .tenants, .power, .time] M =
    true) :
    (Block.selfRoot b).seen M = b.seen M := by
  unfold Block.selfRoot
  repeat' first
    | rw [Block.modTime_seen (Area.sub_trans (by decide) h)]
    | rw [Block.realign_seen (Area.sub_trans (by decide) h)]

theorem Block.finishRediscover_seen {b : Block} (h : Area.sub [.ports, .tenants, .power, .out] M = true) :
    (Block.finishRediscover b).seen M = b.seen M := by
  unfold Block.finishRediscover
  repeat' first
    | with_reducible rfl
    | (with_reducible intro _)
    | exact Keeps.of (fun _ => rfl)
    | ((with_reducible refine Keeps.of ?_); intro x; first | rfl | (repeat' split) <;> rfl | (dsimp only; (repeat'
        split) <;> rfl))
    | with_reducible refine Block.seen_ite ?_ ?_
    | (rw [Block.finishLongs_seen (Area.sub_trans (by decide) h)])
    | rw [Block.each_seen]
    | rw [Block.foldl_seen]
    | rw [Block.foldl_snd_seen]
    | dsimp only
    | split

theorem Block.sendAll_seen {b : Block} {x1 : List ℕ} {x2 : Frame} (h : Area.sub [.hop] M = true) :
    (Block.sendAll b x1 x2).seen M = b.seen M := by
  unfold Block.sendAll
  repeat' first
    | (with_reducible intro _)
    | rw [Block.sendOn_seen (Area.sub_trans (by decide) h)]
    | rw [Block.each_seen]

theorem Block.tsyncDrop_seen {b : Block} (h : Area.sub [.hop, .time] M = true) :
    (Block.tsyncDrop b).seen M = b.seen M := by
  unfold Block.tsyncDrop
  repeat' first
    | with_reducible rfl
    | (with_reducible intro _)
    | exact Keeps.of (fun _ => rfl)
    | ((with_reducible refine Keeps.of ?_); intro x; first | rfl | (repeat' split) <;> rfl | (dsimp only; (repeat'
        split) <;> rfl))
    | with_reducible refine Block.seen_ite ?_ ?_
    | rw [Block.modHop_seen (Area.sub_trans (by decide) h)]
    | rw [Block.modTime_seen (Area.sub_trans (by decide) h)]
    | rw [Block.each_seen]
    | rw [Block.foldl_seen]
    | rw [Block.foldl_snd_seen]
    | dsimp only
    | split

theorem Block.tsyncReject_seen {b : Block} {x1 : Nat} {x2 : Int} {x3 : Nat} (h : Area.sub [.ports, .tenants, .hop,
    .power, .time, .out] M = true) :
    (Block.tsyncReject b x1 x2 x3).seen M = b.seen M := by
  unfold Block.tsyncReject
  repeat' first
    | with_reducible rfl
    | (with_reducible intro _)
    | exact Keeps.of (fun _ => rfl)
    | ((with_reducible refine Keeps.of ?_); intro x; first | rfl | (repeat' split) <;> rfl | (dsimp only; (repeat'
        split) <;> rfl))
    | with_reducible refine Block.seen_ite ?_ ?_
    | rw [Block.modTime_seen (Area.sub_trans (by decide) h)]
    | rw [Block.modHop_seen (Area.sub_trans (by decide) h)]
    | rw [Block.finishLongs_seen (Area.sub_trans (by decide) h)]
    | rw [Block.tsyncDrop_seen (Area.sub_trans (by decide) h)]
    | rw [Block.each_seen]
    | rw [Block.foldl_seen]
    | rw [Block.foldl_snd_seen]
    | dsimp only
    | split

theorem Block.startDiscovery_seen {b : Block} {x1 : Nat} (h : Area.sub [.taps, .views, .stations, .cask, .ports,
    .tenants, .hop, .power, .time, .out] M = true) :
    (Block.startDiscovery b x1).seen M = b.seen M := by
  unfold Block.startDiscovery
  repeat' first
    | with_reducible rfl
    | (with_reducible intro _)
    | exact Keeps.of (fun _ => rfl)
    | ((with_reducible refine Keeps.of ?_); intro x; first | rfl | (repeat' split) <;> rfl | (dsimp only; (repeat'
        split) <;> rfl))
    | with_reducible refine Block.seen_ite ?_ ?_
    | rw [Block.selfRoot_seen (Area.sub_trans (by decide) h)]
    | rw [Block.modTime_seen (Area.sub_trans (by decide) h)]
    | rw [Block.modHop_seen (Area.sub_trans (by decide) h)]
    | rw [Block.finishRediscover_seen (Area.sub_trans (by decide) h)]
    | rw [Block.sendAll_seen (Area.sub_trans (by decide) h)]
    | rw [Block.tsyncReject_seen (Area.sub_trans (by decide) h)]
    | rw [Block.tsyncDrop_seen (Area.sub_trans (by decide) h)]
    | rw [Block.finishLongs_seen (Area.sub_trans (by decide) h)]
    | rw [Block.each_seen]
    | rw [Block.foldl_seen]
    | rw [Block.foldl_snd_seen]
    | dsimp only
    | split

theorem Block.returnHeld_seen {b : Block} {x1 : List (Frame × ℕ)} (h : Area.sub [.hop] M = true) :
    (Block.returnHeld b x1).seen M = b.seen M := by
  unfold Block.returnHeld
  repeat' first
    | with_reducible rfl
    | (with_reducible intro _)
    | with_reducible refine Block.seen_ite ?_ ?_
    | rw [Block.modHopPort_seen (Area.sub_trans (by decide) h)]
    | rw [Block.each_seen]

theorem Block.leaveQueues_seen {b : Block} {x1 : Nat} {x2 : List (Frame × Nat)} (h : Area.sub [.sparge, .hop] M =
    true) :
    (Block.leaveQueues b x1 x2).seen M = b.seen M := by
  unfold Block.leaveQueues
  repeat' first
    | with_reducible rfl
    | (with_reducible intro _)
    | exact Keeps.of (fun _ => rfl)
    | ((with_reducible refine Keeps.of ?_); intro x; first | rfl | (repeat' split) <;> rfl | (dsimp only; (repeat'
        split) <;> rfl))
    | with_reducible refine Block.seen_ite ?_ ?_
    | rw [Block.modChan_seen (Area.sub_trans (by decide) h)]
    | rw [Block.modHop_seen (Area.sub_trans (by decide) h)]
    | rw [Block.each_seen]
    | rw [Block.foldl_seen]
    | rw [Block.foldl_snd_seen]
    | dsimp only
    | split

theorem Block.dropRoutes_seen {b : Block} {x1 : Nat} (h : Area.sub [.hop] M = true) :
    (Block.dropRoutes b x1).seen M = b.seen M := by
  unfold Block.dropRoutes
  repeat' first
    | with_reducible rfl
    | (with_reducible intro _)
    | exact Keeps.of (fun _ => rfl)
    | ((with_reducible refine Keeps.of ?_); intro x; first | rfl | (repeat' split) <;> rfl | (dsimp only; (repeat'
        split) <;> rfl))
    | with_reducible refine Block.seen_ite ?_ ?_
    | rw [Block.modHop_seen (Area.sub_trans (by decide) h)]
    | rw [Block.each_seen]
    | rw [Block.foldl_seen]
    | rw [Block.foldl_snd_seen]
    | dsimp only
    | split

theorem Block.linkDown_seen {b : Block} {x1 : Nat} {x2 : Nat} (h : Area.sub [.taps, .views, .stations, .cask,
    .ports, .tenants, .sparge, .hop, .power, .time, .out] M = true) :
    (Block.linkDown b x1 x2).seen M = b.seen M := by
  unfold Block.linkDown
  repeat' first
    | with_reducible rfl
    | (with_reducible intro _)
    | exact Keeps.of (fun _ => rfl)
    | ((with_reducible refine Keeps.of ?_); intro x; first | rfl | (repeat' split) <;> rfl | (dsimp only; (repeat'
        split) <;> rfl))
    | with_reducible refine Block.seen_ite ?_ ?_
    | rw [Block.recompute_seen (Area.sub_trans (by decide) h)]
    | rw [Block.modHopPort_seen (Area.sub_trans (by decide) h)]
    | rw [Block.setLink_seen (Area.sub_trans (by decide) h)]
    | rw [Block.startDiscovery_seen (Area.sub_trans (by decide) h)]
    | rw [Block.finishLongs_seen (Area.sub_trans (by decide) h)]
    | rw [Block.returnHeld_seen (Area.sub_trans (by decide) h)]
    | rw [Block.loss_seen (Area.sub_trans (by decide) h)]
    | rw [Block.tsyncReject_seen (Area.sub_trans (by decide) h)]
    | rw [Block.leaveQueues_seen (Area.sub_trans (by decide) h)]
    | rw [Block.dropRoutes_seen (Area.sub_trans (by decide) h)]
    | rw [Block.each_seen]
    | rw [Block.foldl_seen]
    | rw [Block.foldl_snd_seen]
    | dsimp only
    | split

theorem Block.sendBye_seen {b : Block} {x1 : Nat} {x2 : Nat} (h : Area.sub [.out] M = true) :
    (Block.sendBye b x1 x2).seen M = b.seen M := by
  unfold Block.sendBye
  repeat' first
    | with_reducible rfl
    | (with_reducible intro _)
    | exact Keeps.of (fun _ => rfl)
    | ((with_reducible refine Keeps.of ?_); intro x; first | rfl | (repeat' split) <;> rfl | (dsimp only; (repeat'
        split) <;> rfl))
    | with_reducible refine Block.seen_ite ?_ ?_
    | (rw [Block.emit_seen (Area.sub_trans (by decide) h)])
    | rw [Block.each_seen]
    | rw [Block.foldl_seen]
    | rw [Block.foldl_snd_seen]
    | dsimp only
    | split

theorem Block.startClose_seen {b : Block} {x1 : Nat} {x2 : Nat} (h : Area.sub [.tenants, .hop] M = true) :
    (Block.startClose b x1 x2).seen M = b.seen M := by
  unfold Block.startClose
  repeat' first
    | with_reducible rfl
    | (with_reducible intro _)
    | exact Keeps.of (fun _ => rfl)
    | ((with_reducible refine Keeps.of ?_); intro x; first | rfl | (repeat' split) <;> rfl | (dsimp only; (repeat'
        split) <;> rfl))
    | with_reducible refine Block.seen_ite ?_ ?_
    | rw [Block.setLink_seen (Area.sub_trans (by decide) h)]
    | rw [Block.modHopPort_seen (Area.sub_trans (by decide) h)]
    | rw [Block.each_seen]
    | rw [Block.foldl_seen]
    | rw [Block.foldl_snd_seen]
    | dsimp only
    | split

theorem Block.adminSet_seen {b : Block} {x1 : Nat} {x2 : Bool} (h : Area.sub [.taps, .views, .stations, .cask,
    .ports, .tenants, .sparge, .hop, .power, .time, .out] M = true) :
    (Block.adminSet b x1 x2).seen M = b.seen M := by
  unfold Block.adminSet
  repeat' first
    | with_reducible rfl
    | (with_reducible intro _)
    | exact Keeps.of (fun _ => rfl)
    | ((with_reducible refine Keeps.of ?_); intro x; first | rfl | (repeat' split) <;> rfl | (dsimp only; (repeat'
        split) <;> rfl))
    | with_reducible refine Block.seen_ite ?_ ?_
    | rw [Block.modHopPort_seen (Area.sub_trans (by decide) h)]
    | rw [Block.train_seen (Area.sub_trans (by decide) h)]
    | rw [Block.linkDown_seen (Area.sub_trans (by decide) h)]
    | rw [Block.sendBye_seen (Area.sub_trans (by decide) h)]
    | rw [Block.startClose_seen (Area.sub_trans (by decide) h)]
    | rw [Block.each_seen]
    | rw [Block.foldl_seen]
    | rw [Block.foldl_snd_seen]
    | dsimp only
    | split

theorem Block.allDown_seen {b : Block} {x1 : Nat} (h : Area.sub [.taps, .views, .stations, .cask, .ports, .tenants,
    .sparge, .hop, .power, .time, .out] M = true) :
    (Block.allDown b x1).seen M = b.seen M := by
  unfold Block.allDown
  repeat' first
    | exact Keeps.of (fun _ => rfl)
    | ((with_reducible refine Keeps.of ?_); intro x; first | rfl | (repeat' split) <;> rfl | (dsimp only; (repeat'
        split) <;> rfl))
    | with_reducible rfl
    | (with_reducible intro _)
    | with_reducible refine Block.seen_ite ?_ ?_
    | rw [Block.linkDown_seen (Area.sub_trans (by decide) h)]
    | rw [Block.sendBye_seen (Area.sub_trans (by decide) h)]
    | rw [Block.each_seen]
    | rw [Block.foldl_seen]
    | rw [Block.foldl_snd_seen]
    | dsimp only
    | split

theorem Block.askKey_seen {b : Block} {x1 : Nat} {x2 : Bool} {x3 : Bool} (h : Area.sub [.hop, .out] M = true) :
    (Block.askKey b x1 x2 x3).seen M = b.seen M := by
  unfold Block.askKey
  repeat' first
    | with_reducible rfl
    | (with_reducible intro _)
    | exact Keeps.of (fun _ => rfl)
    | ((with_reducible refine Keeps.of ?_); intro x; first | rfl | (repeat' split) <;> rfl | (dsimp only; (repeat'
        split) <;> rfl))
    | with_reducible refine Block.seen_ite ?_ ?_
    | rw [Block.modHopPort_seen (Area.sub_trans (by decide) h)]
    | rw [Block.emit_seen (Area.sub_trans (by decide) h)]
    | rw [Block.each_seen]
    | rw [Block.foldl_seen]
    | rw [Block.foldl_snd_seen]
    | dsimp only
    | split

theorem Block.assignOn_seen {b : Block} {x1 : Nat} (h : Area.sub [.hop] M = true) :
    (Block.assignOn b x1).seen M = b.seen M := by
  unfold Block.assignOn
  repeat' first
    | with_reducible rfl
    | exact Keeps.of (fun _ => rfl)
    | ((with_reducible refine Keeps.of ?_); intro x; first | rfl | (repeat' split) <;> rfl | (dsimp only; (repeat'
        split) <;> rfl))
    | with_reducible refine Block.seen_ite ?_ ?_
    | (with_reducible intro _)
    | rw [Block.sendOn_seen (Area.sub_trans (by decide) h)]
    | rw [Block.each_seen]
    | rw [Block.foldl_seen]
    | rw [Block.foldl_snd_seen]
    | dsimp only
    | split

theorem Block.sendVectors_seen {b : Block} {x1 : ℕ} (h : Area.sub [.hop] M = true) :
    (Block.sendVectors b x1).seen M = b.seen M := by
  unfold Block.sendVectors
  repeat' first
    | (with_reducible intro _)
    | rw [Block.sendOn_seen (Area.sub_trans (by decide) h)]
    | rw [Block.each_seen]

theorem Block.startRouting_seen {b : Block} (h : Area.sub [.hop] M = true) :
    (Block.startRouting b).seen M = b.seen M := by
  unfold Block.startRouting
  repeat' first
    | (with_reducible intro _)
    | rw [Block.recompute_seen (Area.sub_trans (by decide) h)]
    | rw [Block.modHop_seen (Area.sub_trans (by decide) h)]
    | rw [Block.sendVectors_seen (Area.sub_trans (by decide) h)]
    | rw [Block.each_seen]

theorem Block.takeId_seen {b : Block} {x1 : Nat} {x2 : Nat} {x3 : Nat} (h : Area.sub [.hop] M = true) :
    (Block.takeId b x1 x2 x3).seen M = b.seen M := by
  unfold Block.takeId
  repeat' first
    | with_reducible rfl
    | (with_reducible intro _)
    | exact Keeps.of (fun _ => rfl)
    | ((with_reducible refine Keeps.of ?_); intro x; first | rfl | (repeat' split) <;> rfl | (dsimp only; (repeat'
        split) <;> rfl))
    | with_reducible refine Block.seen_ite ?_ ?_
    | rw [Block.modHop_seen (Area.sub_trans (by decide) h)]
    | rw [Block.assignOn_seen (Area.sub_trans (by decide) h)]
    | rw [Block.startRouting_seen (Area.sub_trans (by decide) h)]
    | rw [Block.each_seen]
    | rw [Block.foldl_seen]
    | rw [Block.foldl_snd_seen]
    | dsimp only
    | split

theorem Block.countsDone_seen {b : Block} (h : Area.sub [.taps, .views, .stations, .cask, .tenants, .hop, .power,
    .time] M = true) :
    (Block.countsDone b).seen M = b.seen M := by
  unfold Block.countsDone
  repeat' first
    | with_reducible rfl
    | with_reducible refine Block.seen_ite ?_ ?_
    | rw [Block.selfRoot_seen (Area.sub_trans (by decide) h)]
    | rw [Block.sendOn_seen (Area.sub_trans (by decide) h)]
    | rw [Block.takeId_seen (Area.sub_trans (by decide) h)]
    | rw [Block.modHop_seen (Area.sub_trans (by decide) h)]

theorem Block.countReqOn_seen {b : Block} (h : Area.sub [.taps, .views, .stations, .cask, .tenants, .hop, .power,
    .time] M = true) :
    (Block.countReqOn b).seen M = b.seen M := by
  unfold Block.countReqOn
  repeat' first
    | rw [Block.countsDone_seen (Area.sub_trans (by decide) h)]
    | rw [Block.modHop_seen (Area.sub_trans (by decide) h)]
    | rw [Block.sendAll_seen (Area.sub_trans (by decide) h)]

theorem Block.takeElect_seen {b : Block} {x1 : Nat} {x2 : Nat} {x3 : Nat} (h : Area.sub [.hop] M = true) :
    (Block.takeElect b x1 x2 x3).seen M = b.seen M := by
  unfold Block.takeElect
  repeat' first
    | with_reducible rfl
    | (with_reducible intro _)
    | exact Keeps.of (fun _ => rfl)
    | ((with_reducible refine Keeps.of ?_); intro x; first | rfl | (repeat' split) <;> rfl | (dsimp only; (repeat'
        split) <;> rfl))
    | with_reducible refine Block.seen_ite ?_ ?_
    | rw [Block.sendAll_seen (Area.sub_trans (by decide) h)]
    | rw [Block.modHop_seen (Area.sub_trans (by decide) h)]
    | rw [Block.each_seen]
    | rw [Block.foldl_seen]
    | rw [Block.foldl_snd_seen]
    | dsimp only
    | split

theorem Block.hearElect_seen {b : Block} {x1 : Nat} {x2 : Nat} {x3 : Nat} (h : Area.sub [.taps, .views, .stations,
    .cask, .ports, .tenants, .hop, .power, .time, .out] M = true) :
    (Block.hearElect b x1 x2 x3).seen M = b.seen M := by
  unfold Block.hearElect
  repeat' first
    | with_reducible rfl
    | (with_reducible intro _)
    | exact Keeps.of (fun _ => rfl)
    | ((with_reducible refine Keeps.of ?_); intro x; first | rfl | (repeat' split) <;> rfl | (dsimp only; (repeat'
        split) <;> rfl))
    | with_reducible refine Block.seen_ite ?_ ?_
    | rw [Block.startDiscovery_seen (Area.sub_trans (by decide) h)]
    | rw [Block.takeElect_seen (Area.sub_trans (by decide) h)]
    | rw [Block.modHop_seen (Area.sub_trans (by decide) h)]
    | rw [Block.each_seen]
    | rw [Block.foldl_seen]
    | rw [Block.foldl_snd_seen]
    | dsimp only
    | split

theorem Block.elect_seen {b : Block} {x1 : Nat} {x2 : Nat} {x3 : Nat} (h : Area.sub [.taps, .views, .stations,
    .cask, .ports, .tenants, .hop, .power, .time, .out] M = true) :
    (Block.elect b x1 x2 x3).seen M = b.seen M := by
  unfold Block.elect
  repeat' first
    | (with_reducible intro _)
    | exact Keeps.of (fun _ => rfl)
    | ((with_reducible refine Keeps.of ?_); intro x; first | rfl | (repeat' split) <;> rfl | (dsimp only; (repeat'
        split) <;> rfl))
    | with_reducible rfl
    | with_reducible refine Block.seen_ite ?_ ?_
    | rw [Block.startDiscovery_seen (Area.sub_trans (by decide) h)]
    | rw [Block.modHop_seen (Area.sub_trans (by decide) h)]
    | rw [Block.sendAll_seen (Area.sub_trans (by decide) h)]
    | rw [Block.hearElect_seen (Area.sub_trans (by decide) h)]
    | rw [Block.each_seen]
    | rw [Block.foldl_seen]
    | rw [Block.foldl_snd_seen]
    | dsimp only
    | split

theorem Block.linkUp_seen {b : Block} {x1 : ℕ} {x2 : ℕ} (h : Area.sub [.taps, .views, .stations, .cask, .ports,
    .tenants, .hop, .power, .time, .out] M = true) :
    (Block.linkUp b x1 x2).seen M = b.seen M := by
  unfold Block.linkUp
  repeat' first
    | with_reducible refine Block.seen_ite ?_ ?_
    | rw [Block.sendOn_seen (Area.sub_trans (by decide) h)]
    | rw [Block.modHopPort_seen (Area.sub_trans (by decide) h)]
    | rw [Block.setLink_seen (Area.sub_trans (by decide) h)]
    | rw [Block.startDiscovery_seen (Area.sub_trans (by decide) h)]
    | rw [Block.sendVectors_seen (Area.sub_trans (by decide) h)]

theorem Block.resendAll_seen {b : Block} {x1 : Nat} (h : Area.sub [.taps, .views, .stations, .cask, .ports,
    .tenants, .sparge, .hop, .power, .time, .out] M = true) :
    (Block.resendAll b x1).seen M = b.seen M := by
  unfold Block.resendAll
  repeat' first
    | (with_reducible intro _)
    | exact Keeps.of (fun _ => rfl)
    | ((with_reducible refine Keeps.of ?_); intro x; first | rfl | (repeat' split) <;> rfl | (dsimp only; (repeat'
        split) <;> rfl))
    | with_reducible rfl
    | with_reducible refine Block.seen_ite ?_ ?_
    | rw [Block.modHopPort_seen (Area.sub_trans (by decide) h)]
    | rw [Block.linkDown_seen (Area.sub_trans (by decide) h)]
    | rw [Block.each_seen]
    | rw [Block.foldl_seen]
    | rw [Block.foldl_snd_seen]
    | dsimp only
    | split

theorem Block.rotateCheck_seen {b : Block} {x1 : ℕ} (h : Area.sub [.ports, .tenants, .hop, .power, .out] M = true) :
    (Block.rotateCheck b x1).seen M = b.seen M := by
  unfold Block.rotateCheck
  repeat' first
    | with_reducible rfl
    | with_reducible refine Block.seen_ite ?_ ?_
    | rw [Block.sendOn_seen (Area.sub_trans (by decide) h)]
    | rw [Block.modHopPort_seen (Area.sub_trans (by decide) h)]
    | rw [Block.finishLongs_seen (Area.sub_trans (by decide) h)]

theorem Block.sendFrame_seen {b : Block} {x1 : Nat} (h : Area.sub [.hop, .out] M = true) :
    (Block.sendFrame b x1).seen M = b.seen M := by
  unfold Block.sendFrame
  repeat' first
    | with_reducible rfl
    | (with_reducible intro _)
    | exact Keeps.of (fun _ => rfl)
    | ((with_reducible refine Keeps.of ?_); intro x; first | rfl | (repeat' split) <;> rfl | (dsimp only; (repeat'
        split) <;> rfl))
    | with_reducible refine Block.seen_ite ?_ ?_
    | rw [Block.modHopPort_seen (Area.sub_trans (by decide) h)]
    | rw [Block.emit_seen (Area.sub_trans (by decide) h)]
    | rw [Block.each_seen]
    | rw [Block.foldl_seen]
    | rw [Block.foldl_snd_seen]
    | dsimp only
    | split

theorem Block.sendRouted_seen {b : Block} {x1 : Frame} {x2 : ℕ} (h : Area.sub [.tenants, .hop, .power] M = true) :
    (Block.sendRouted b x1 x2).seen M = b.seen M := by
  unfold Block.sendRouted
  repeat' first
    | with_reducible rfl
    | with_reducible refine Block.seen_ite ?_ ?_
    | rw [Block.sendOn_seen (Area.sub_trans (by decide) h)]
    | rw [Block.modHopPort_seen (Area.sub_trans (by decide) h)]
    | rw [Block.loss_seen (Area.sub_trans (by decide) h)]

theorem Block.startKeying_seen {b : Block} {x1 : Nat} (h : Area.sub [.tenants, .hop, .out] M = true) :
    (Block.startKeying b x1).seen M = b.seen M := by
  unfold Block.startKeying
  repeat' first
    | with_reducible rfl
    | (with_reducible intro _)
    | exact Keeps.of (fun _ => rfl)
    | ((with_reducible refine Keeps.of ?_); intro x; first | rfl | (repeat' split) <;> rfl | (dsimp only; (repeat'
        split) <;> rfl))
    | with_reducible refine Block.seen_ite ?_ ?_
    | rw [Block.askKey_seen (Area.sub_trans (by decide) h)]
    | rw [Block.modHopPort_seen (Area.sub_trans (by decide) h)]
    | rw [Block.setLink_seen (Area.sub_trans (by decide) h)]
    | rw [Block.each_seen]
    | rw [Block.foldl_seen]
    | rw [Block.foldl_snd_seen]
    | dsimp only
    | split

theorem Block.startRotate_seen {b : Block} {x1 : ℕ} (h : Area.sub [.hop, .out] M = true) :
    (Block.startRotate b x1).seen M = b.seen M := by
  unfold Block.startRotate
  repeat' first
    | rw [Block.askKey_seen (Area.sub_trans (by decide) h)]
    | rw [Block.modHopPort_seen (Area.sub_trans (by decide) h)]

theorem Block.tsyncCall_seen {b : Block} (h : Area.sub [.hop] M = true) :
    (Block.tsyncCall b).seen M = b.seen M := by
  unfold Block.tsyncCall
  repeat' first
    | rw [Block.sendOn_seen (Area.sub_trans (by decide) h)]
    | rw [Block.modHop_seen (Area.sub_trans (by decide) h)]

theorem Block.stopChan_seen {b : Block} {x1 : Nat} {x2 : ChStop} {x3 : Nat} {x4 : Bool} (h : Area.sub [.sparge,
    .hop] M = true) :
    (Block.stopChan b x1 x2 x3 x4).seen M = b.seen M := by
  unfold Block.stopChan
  repeat' first
    | with_reducible rfl
    | (with_reducible intro _)
    | ((with_reducible refine Keeps.of ?_); intro x; first | rfl | (repeat' split) <;> rfl | (dsimp only; (repeat'
        split) <;> rfl))
    | with_reducible refine Block.seen_ite ?_ ?_
    | exact Keeps.of (fun _ => rfl)
    | rw [Block.modChan_seen (Area.sub_trans (by decide) h)]
    | rw [Block.modHop_seen (Area.sub_trans (by decide) h)]
    | rw [Block.modSparge_seen (Area.sub_trans (by decide) h)]
    | rw [Block.each_seen]
    | rw [Block.foldl_seen]
    | rw [Block.foldl_snd_seen]
    | dsimp only
    | split

theorem Block.settleDrains_seen {b : Block} (h : Area.sub [.ports, .tenants, .power, .out] M = true) :
    (Block.settleDrains b).seen M = b.seen M := by
  unfold Block.settleDrains
  repeat' first
    | with_reducible rfl
    | (with_reducible intro _)
    | exact Keeps.of (fun _ => rfl)
    | ((with_reducible refine Keeps.of ?_); intro x; first | rfl | (repeat' split) <;> rfl | (dsimp only; (repeat'
        split) <;> rfl))
    | with_reducible refine Block.seen_ite ?_ ?_
    | rw [Block.finishLongs_seen (Area.sub_trans (by decide) h)]
    | rw [Block.mapLongs_seen (Area.sub_trans (by decide) h)]
    | rw [Block.each_seen]
    | rw [Block.foldl_seen]
    | rw [Block.foldl_snd_seen]
    | dsimp only
    | split

theorem Block.pageBack_seen {b : Block} {x1 : ℕ} (h : Area.sub [.cask, .tenants, .power] M = true) :
    (Block.pageBack b x1).seen M = b.seen M := by
  unfold Block.pageBack
  repeat' first
    | with_reducible rfl
    | with_reducible refine Block.seen_ite ?_ ?_
    | rw [Block.drainUndo_seen (Area.sub_trans (by decide) h)]

theorem Block.stopPages_seen {b : Block} {x1 : ℕ} (h : Area.sub [.cask, .tenants, .sparge, .power] M = true) :
    (Block.stopPages b x1).seen M = b.seen M := by
  unfold Block.stopPages
  repeat' first
    | (with_reducible intro _)
    | exact Keeps.of (fun _ => rfl)
    | rw [Block.pageBack_seen (Area.sub_trans (by decide) h)]
    | rw [Block.modChan_seen (Area.sub_trans (by decide) h)]
    | rw [Block.each_seen]

theorem Block.partialDrains_seen {b : Block} {x1 : Nat} {x2 : Nat} (h : Area.sub [.ports, .tenants, .power, .out] M
    = true) :
    (Block.partialDrains b x1 x2).seen M = b.seen M := by
  unfold Block.partialDrains
  repeat' first
    | with_reducible rfl
    | (with_reducible intro _)
    | exact Keeps.of (fun _ => rfl)
    | ((with_reducible refine Keeps.of ?_); intro x; first | rfl | (repeat' split) <;> rfl | (dsimp only; (repeat'
        split) <;> rfl))
    | with_reducible refine Block.seen_ite ?_ ?_
    | (rw [Block.finishLongs_seen (Area.sub_trans (by decide) h)])
    | rw [Block.mapLongs_seen (Area.sub_trans (by decide) h)]
    | rw [Block.each_seen]
    | rw [Block.foldl_seen]
    | rw [Block.foldl_snd_seen]
    | dsimp only
    | split

theorem Block.spend_seen {b : Block} {x1 : ℕ} {x2 : ℕ} (h : Area.sub [.sparge] M = true) :
    (Block.spend b x1 x2).seen M = b.seen M := by
  unfold Block.spend
  repeat' first
    | exact Keeps.of (fun _ => rfl)
    | rw [Block.modSparge_seen (Area.sub_trans (by decide) h)]

theorem Block.chanWrite_seen {b : Block} {x1 : ℕ} {x2 : ℕ} {x3 : ℕ} {x4 : List Byte} {x5 : List ℕ} (h : Area.sub
    [.sparge, .out] M = true) :
    (Block.chanWrite b x1 x2 x3 x4 x5).seen M = b.seen M := by
  unfold Block.chanWrite
  repeat' first
    | exact Keeps.of (fun _ => rfl)
    | rw [Block.emit_seen (Area.sub_trans (by decide) h)]
    | rw [Block.modChan_seen (Area.sub_trans (by decide) h)]

theorem Block.wbStep_seen {b : Block} {x1 : Nat} (h : Area.sub [.sparge, .out] M = true) :
    (Block.wbStep b x1).seen M = b.seen M := by
  unfold Block.wbStep
  repeat' first
    | with_reducible rfl
    | (with_reducible intro _)
    | ((with_reducible refine Keeps.of ?_); intro x; first | rfl | (repeat' split) <;> rfl | (dsimp only; (repeat'
        split) <;> rfl))
    | with_reducible refine Block.seen_ite ?_ ?_
    | exact Keeps.of (fun _ => rfl)
    | rw [Block.spend_seen (Area.sub_trans (by decide) h)]
    | rw [Block.chanWrite_seen (Area.sub_trans (by decide) h)]
    | rw [Block.modChan_seen (Area.sub_trans (by decide) h)]
    | rw [Block.each_seen]
    | rw [Block.foldl_seen]
    | rw [Block.foldl_snd_seen]
    | dsimp only
    | split

theorem Block.stopEnd_seen {b : Block} {x1 : Nat} (h : Area.sub [.ports, .tenants, .sparge, .power, .out] M = true) :
    (Block.stopEnd b x1).seen M = b.seen M := by
  unfold Block.stopEnd
  repeat' first
    | with_reducible rfl
    | (with_reducible intro _)
    | exact Keeps.of (fun _ => rfl)
    | ((with_reducible refine Keeps.of ?_); intro x; first | rfl | (repeat' split) <;> rfl | (dsimp only; (repeat'
        split) <;> rfl))
    | with_reducible refine Block.seen_ite ?_ ?_
    | rw [Block.raise_seen (Area.sub_trans (by decide) h)]
    | rw [Block.partialDrains_seen (Area.sub_trans (by decide) h)]
    | rw [Block.modChan_seen (Area.sub_trans (by decide) h)]
    | rw [Block.modPower_seen (Area.sub_trans (by decide) h)]
    | rw [Block.each_seen]
    | rw [Block.foldl_seen]
    | rw [Block.foldl_snd_seen]
    | dsimp only
    | split

theorem Block.stopStep_seen {b : Block} {x1 : Nat} (h : Area.sub [.cask, .ports, .tenants, .sparge, .power, .out] M
    = true) :
    (Block.stopStep b x1).seen M = b.seen M := by
  unfold Block.stopStep
  repeat' first
    | with_reducible rfl
    | (with_reducible intro _)
    | ((with_reducible refine Keeps.of ?_); intro x; first | rfl | (repeat' split) <;> rfl | (dsimp only; (repeat'
        split) <;> rfl))
    | with_reducible refine Block.seen_ite ?_ ?_
    | exact Keeps.of (fun _ => rfl)
    | rw [Block.settleDrains_seen (Area.sub_trans (by decide) h)]
    | rw [Block.stopPages_seen (Area.sub_trans (by decide) h)]
    | rw [Block.raise_seen (Area.sub_trans (by decide) h)]
    | rw [Block.modPower_seen (Area.sub_trans (by decide) h)]
    | rw [Block.partialDrains_seen (Area.sub_trans (by decide) h)]
    | rw [Block.wbStep_seen (Area.sub_trans (by decide) h)]
    | rw [Block.modChan_seen (Area.sub_trans (by decide) h)]
    | rw [Block.stopEnd_seen (Area.sub_trans (by decide) h)]
    | rw [Block.each_seen]
    | rw [Block.foldl_seen]
    | rw [Block.foldl_snd_seen]
    | dsimp only
    | split

theorem Block.abandonOld_seen {b : Block} {x1 : Nat} {x2 : Nat} (h : Area.sub [.cask, .ports, .tenants, .sparge,
    .hop, .power, .out] M = true) :
    (Block.abandonOld b x1 x2).seen M = b.seen M := by
  unfold Block.abandonOld
  repeat' first
    | (with_reducible intro _)
    | exact Keeps.of (fun _ => rfl)
    | ((with_reducible refine Keeps.of ?_); intro x; first | rfl | (repeat' split) <;> rfl | (dsimp only; (repeat'
        split) <;> rfl))
    | with_reducible rfl
    | with_reducible refine Block.seen_ite ?_ ?_
    | rw [Block.stopChan_seen (Area.sub_trans (by decide) h)]
    | rw [Block.stopStep_seen (Area.sub_trans (by decide) h)]
    | rw [Block.each_seen]
    | rw [Block.foldl_seen]
    | rw [Block.foldl_snd_seen]
    | dsimp only
    | split

theorem Block.chanEnable_seen {b : Block} {x1 : Nat} {x2 : Bool} (h : Area.sub [.cask, .ports, .tenants, .sparge,
    .hop, .power, .out] M = true) :
    (Block.chanEnable b x1 x2).seen M = b.seen M := by
  unfold Block.chanEnable
  repeat' first
    | with_reducible rfl
    | (with_reducible intro _)
    | ((with_reducible refine Keeps.of ?_); intro x; first | rfl | (repeat' split) <;> rfl | (dsimp only; (repeat'
        split) <;> rfl))
    | exact Keeps.of (fun _ => rfl)
    | with_reducible refine Block.seen_ite ?_ ?_
    | rw [Block.stopChan_seen (Area.sub_trans (by decide) h)]
    | rw [Block.stopStep_seen (Area.sub_trans (by decide) h)]
    | rw [Block.modChan_seen (Area.sub_trans (by decide) h)]
    | rw [Block.partialDrains_seen (Area.sub_trans (by decide) h)]
    | rw [Block.each_seen]
    | rw [Block.foldl_seen]
    | rw [Block.foldl_snd_seen]
    | dsimp only
    | split

theorem Block.drainNote_seen {b : Block} {x1 : ℕ} {x2 : ℕ} (h : Area.sub [.ports] M = true) :
    (Block.drainNote b x1 x2).seen M = b.seen M := by
  unfold Block.drainNote
  repeat' first
    | (rw [Block.mapLongs_seen (Area.sub_trans (by decide) h)])

theorem Block.pageMoved_seen {b : Block} {x1 : Nat} {x2 : Nat} (h : Area.sub [.cask, .ports, .tenants, .sparge,
    .hop, .power, .out] M = true) :
    (Block.pageMoved b x1 x2).seen M = b.seen M := by
  unfold Block.pageMoved
  repeat' first
    | with_reducible rfl
    | (with_reducible intro _)
    | ((with_reducible refine Keeps.of ?_); intro x; first | rfl | (repeat' split) <;> rfl | (dsimp only; (repeat'
        split) <;> rfl))
    | exact Keeps.of (fun _ => rfl)
    | with_reducible refine Block.seen_ite ?_ ?_
    | rw [Block.settleDrains_seen (Area.sub_trans (by decide) h)]
    | rw [Block.drainNote_seen (Area.sub_trans (by decide) h)]
    | rw [Block.drainDone_seen (Area.sub_trans (by decide) h)]
    | rw [Block.modHop_seen (Area.sub_trans (by decide) h)]
    | rw [Block.modChan_seen (Area.sub_trans (by decide) h)]
    | rw [Block.each_seen]
    | rw [Block.foldl_seen]
    | rw [Block.foldl_snd_seen]
    | dsimp only
    | split

theorem Block.finishLagging_seen {b : Block} {x1 : ℕ} (h : Area.sub [.cask, .ports, .tenants, .sparge, .hop, .power,
    .out] M = true) :
    (Block.finishLagging b x1).seen M = b.seen M := by
  unfold Block.finishLagging
  repeat' first
    | with_reducible rfl
    | (with_reducible intro _)
    | exact Keeps.of (fun _ => rfl)
    | with_reducible refine Block.seen_ite ?_ ?_
    | rw [Block.pageMoved_seen (Area.sub_trans (by decide) h)]
    | rw [Block.modChan_seen (Area.sub_trans (by decide) h)]
    | rw [Block.each_seen]

theorem Block.complete_seen {b : Block} {x1 : ℕ} (h : Area.sub [.sparge] M = true) :
    (Block.complete b x1).seen M = b.seen M := by
  unfold Block.complete
  repeat' first
    | exact Keeps.of (fun _ => rfl)
    | rw [Block.modChan_seen (Area.sub_trans (by decide) h)]

theorem Block.pumpStep_seen {b : Block} {x1 : Nat} (h : Area.sub [.cask, .ports, .tenants, .sparge, .power, .out] M
    = true) :
    (Block.pumpStep b x1).seen M = b.seen M := by
  unfold Block.pumpStep
  repeat' first
    | with_reducible rfl
    | (with_reducible intro _)
    | exact Keeps.of (fun _ => rfl)
    | ((with_reducible refine Keeps.of ?_); intro x; first | rfl | (repeat' split) <;> rfl | (dsimp only; (repeat'
        split) <;> rfl))
    | with_reducible refine Block.seen_ite ?_ ?_
    | rw [Block.stopStep_seen (Area.sub_trans (by decide) h)]
    | rw [Block.complete_seen (Area.sub_trans (by decide) h)]
    | rw [Block.wbStep_seen (Area.sub_trans (by decide) h)]
    | rw [Block.spend_seen (Area.sub_trans (by decide) h)]
    | rw [Block.modChan_seen (Area.sub_trans (by decide) h)]
    | rw [Block.emit_seen (Area.sub_trans (by decide) h)]
    | rw [Block.each_seen]
    | rw [Block.foldl_seen]
    | rw [Block.foldl_snd_seen]
    | dsimp only
    | split

theorem Block.pump_seen {b : Block} {x1 : Nat} (h : Area.sub [.cask, .ports, .tenants, .sparge, .power, .out] M =
    true) :
    (Block.pump b x1).seen M = b.seen M := by
  unfold Block.pump
  repeat' first
    | with_reducible rfl
    | (with_reducible intro _)
    | ((with_reducible refine Keeps.of ?_); intro x; first | rfl | (repeat' split) <;> rfl | (dsimp only; (repeat'
        split) <;> rfl))
    | exact Keeps.of (fun _ => rfl)
    | with_reducible refine Block.seen_ite ?_ ?_
    | rw [Block.complete_seen (Area.sub_trans (by decide) h)]
    | rw [Block.emit_seen (Area.sub_trans (by decide) h)]
    | rw [Block.spend_seen (Area.sub_trans (by decide) h)]
    | rw [Block.stopStep_seen (Area.sub_trans (by decide) h)]
    | rw [Block.wbStep_seen (Area.sub_trans (by decide) h)]
    | rw [Block.modChan_seen (Area.sub_trans (by decide) h)]
    | rw [Block.pumpStep_seen (Area.sub_trans (by decide) h)]
    | rw [Block.settleDrains_seen (Area.sub_trans (by decide) h)]
    | rw [Block.each_seen]
    | rw [Block.foldl_seen]
    | rw [Block.foldl_snd_seen]
    | dsimp only
    | split

theorem Block.haltChan_seen {b : Block} {x1 : ℕ} {x2 : ℕ} {x3 : ℕ} {x4 : ℕ} {x5 : Bool} {x6 : ℕ} (h : Area.sub [.sparge, .hop] M = true) :
    (Block.haltChan b x1 x2 x3 x4 x5 x6).seen M = b.seen M := by
  unfold Block.haltChan
  repeat' first
    | exact Keeps.of (fun _ => rfl)
    | rw [Block.stopChan_seen (Area.sub_trans (by decide) h)]
    | rw [Block.modChan_seen (Area.sub_trans (by decide) h)]

theorem Block.chanResponse_seen {b : Block} {x1 : Nat} {x2 : Nat} {x3 : Bool} (h : Area.sub [.cask, .ports,
    .tenants, .sparge, .hop, .power, .out] M = true) :
    (Block.chanResponse b x1 x2 x3).seen M = b.seen M := by
  unfold Block.chanResponse
  repeat' first
    | with_reducible rfl
    | (with_reducible intro _)
    | ((with_reducible refine Keeps.of ?_); intro x; first | rfl | (repeat' split) <;> rfl | (dsimp only; (repeat'
        split) <;> rfl))
    | with_reducible refine Block.seen_ite ?_ ?_
    | exact Keeps.of (fun _ => rfl)
    | rw [Block.finishLagging_seen (Area.sub_trans (by decide) h)]
    | rw [Block.pump_seen (Area.sub_trans (by decide) h)]
    | rw [Block.haltChan_seen (Area.sub_trans (by decide) h)]
    | rw [Block.modChan_seen (Area.sub_trans (by decide) h)]
    | rw [Block.each_seen]
    | rw [Block.foldl_seen]
    | rw [Block.foldl_snd_seen]
    | dsimp only
    | split

theorem Block.chanTake_seen {b : Block} {x1 : ℕ} {x2 : ℕ} (h : Area.sub [.cask, .sparge] M = true) :
    (Block.chanTake b x1 x2).seen M = b.seen M := by
  unfold Block.chanTake
  repeat' first
    | with_reducible rfl
    | exact Keeps.of (fun _ => rfl)
    | with_reducible refine Block.seen_ite ?_ ?_
    | rw [Block.modChan_seen (Area.sub_trans (by decide) h)]
    | rw [Block.takePage_seen (Area.sub_trans (by decide) h)]

theorem Block.pumpAll_seen {b : Block} (h : Area.sub [.cask, .ports, .tenants, .sparge, .power, .out] M = true) :
    (Block.pumpAll b).seen M = b.seen M := by
  unfold Block.pumpAll
  repeat' first
    | with_reducible rfl
    | exact Keeps.of (fun _ => rfl)
    | ((with_reducible refine Keeps.of ?_); intro x; first | rfl | (repeat' split) <;> rfl | (dsimp only; (repeat'
        split) <;> rfl))
    | with_reducible refine Block.seen_ite ?_ ?_
    | (with_reducible intro _)
    | rw [Block.pump_seen (Area.sub_trans (by decide) h)]
    | rw [Block.pumpStep_seen (Area.sub_trans (by decide) h)]
    | rw [Block.settleDrains_seen (Area.sub_trans (by decide) h)]
    | rw [Block.each_seen]
    | rw [Block.foldl_seen]
    | rw [Block.foldl_snd_seen]
    | dsimp only
    | split

theorem Block.scrubMark_seen {b : Block} {x1 : Scrub} {x2 : Bool} {x3 : Nat} (h : Area.sub [.taps, .views,
    .stations, .cask, .tenants, .sparge, .hop, .power] M = true) :
    (Block.scrubMark b x1 x2 x3).seen M = b.seen M := by
  unfold Block.scrubMark
  repeat' first
    | with_reducible rfl
    | (with_reducible intro _)
    | ((with_reducible refine Keeps.of ?_); intro x; first | rfl | (repeat' split) <;> rfl | (dsimp only; (repeat'
        split) <;> rfl))
    | with_reducible refine Block.seen_ite ?_ ?_
    | exact Keeps.of (fun _ => rfl)
    | rw [Block.modSparge_seen (Area.sub_trans (by decide) h)]
    | rw [Block.markerTo_seen (Area.sub_trans (by decide) h)]
    | rw [Block.sendAll_seen (Area.sub_trans (by decide) h)]
    | rw [Block.each_seen]
    | rw [Block.foldl_seen]
    | rw [Block.foldl_snd_seen]
    | dsimp only
    | split

theorem Block.endScrub_seen {b : Block} {x1 : Scrub} {x2 : Nat} (h : Area.sub [.taps, .views, .stations, .cask,
    .ports, .tenants, .sparge, .hop, .power, .out] M = true) :
    (Block.endScrub b x1 x2).seen M = b.seen M := by
  unfold Block.endScrub
  repeat' first
    | with_reducible rfl
    | ((with_reducible refine Keeps.of ?_); intro x; first | rfl | (repeat' split) <;> rfl | (dsimp only; (repeat'
        split) <;> rfl))
    | (with_reducible intro _)
    | exact Keeps.of (fun _ => rfl)
    | with_reducible refine Block.seen_ite ?_ ?_
    | rw [Block.raise_seen (Area.sub_trans (by decide) h)]
    | rw [Block.modTenant_seen (Area.sub_trans (by decide) h)]
    | rw [Block.modSparge_seen (Area.sub_trans (by decide) h)]
    | rw [Block.pumpAll_seen (Area.sub_trans (by decide) h)]
    | rw [Block.modChan_seen (Area.sub_trans (by decide) h)]
    | rw [Block.scrubMark_seen (Area.sub_trans (by decide) h)]
    | rw [Block.each_seen]
    | rw [Block.foldl_seen]
    | rw [Block.foldl_snd_seen]
    | dsimp only
    | split

theorem Block.hopDone_seen {b : Block} {x1 : Nat} {x2 : Nat} (h : Area.sub [.cask, .ports, .tenants, .sparge, .hop,
    .power, .out] M = true) :
    (Block.hopDone b x1 x2).seen M = b.seen M := by
  unfold Block.hopDone
  repeat' first
    | with_reducible rfl
    | (with_reducible intro _)
    | ((with_reducible refine Keeps.of ?_); intro x; first | rfl | (repeat' split) <;> rfl | (dsimp only; (repeat'
        split) <;> rfl))
    | with_reducible refine Block.seen_ite ?_ ?_
    | exact Keeps.of (fun _ => rfl)
    | rw [Block.pageMoved_seen (Area.sub_trans (by decide) h)]
    | rw [Block.pump_seen (Area.sub_trans (by decide) h)]
    | rw [Block.modChan_seen (Area.sub_trans (by decide) h)]
    | rw [Block.pumpStep_seen (Area.sub_trans (by decide) h)]
    | rw [Block.each_seen]
    | rw [Block.foldl_seen]
    | rw [Block.foldl_snd_seen]
    | dsimp only
    | split

theorem Block.countFixed_seen {b : Block} {x1 : Nat} (h : Area.sub [.cask] M = true) :
    (Block.countFixed b x1).seen M = b.seen M := by
  unfold Block.countFixed
  repeat' first
    | with_reducible rfl
    | (with_reducible intro _)
    | exact Keeps.of (fun _ => rfl)
    | ((with_reducible refine Keeps.of ?_); intro x; first | rfl | (repeat' split) <;> rfl | (dsimp only; (repeat'
        split) <;> rfl))
    | with_reducible refine Block.seen_ite ?_ ?_
    | rw [Block.modCask_seen (Area.sub_trans (by decide) h)]
    | rw [Block.each_seen]
    | rw [Block.foldl_seen]
    | rw [Block.foldl_snd_seen]
    | dsimp only
    | split

theorem Block.readError_seen {b : Block} {x1 x2 : Nat} {x3 : Bool} (h : Area.sub [.cask, .tenants, .power] M = true) :
    (Block.readError b x1 x2 x3).seen M = b.seen M := by
  unfold Block.readError
  repeat' first
    | with_reducible rfl
    | (with_reducible intro _)
    | exact Keeps.of (fun _ => rfl)
    | ((with_reducible refine Keeps.of ?_); intro x; first | rfl | (repeat' split) <;> rfl | (dsimp only; (repeat'
        split) <;> rfl))
    | with_reducible refine Block.seen_ite ?_ ?_
    | rw [Block.countFixed_seen (Area.sub_trans (by decide) h)]
    | rw [Block.fenceMacro_seen (Area.sub_trans (by decide) h)]
    | rw [Block.noteBad_seen (Area.sub_trans (by decide) h)]
    | rw [Block.each_seen]
    | rw [Block.foldl_seen]
    | rw [Block.foldl_snd_seen]
    | dsimp only
    | split

theorem Block.hopPush_seen {b : Block} {x1 : Nat} (h : Area.sub [.cask, .tenants, .sparge, .hop, .power] M = true) :
    (Block.hopPush b x1).seen M = b.seen M := by
  unfold Block.hopPush
  repeat' first
    | with_reducible rfl
    | (with_reducible intro _)
    | exact Keeps.of (fun _ => rfl)
    | ((with_reducible refine Keeps.of ?_); intro x; first | rfl | (repeat' split) <;> rfl | (dsimp only; (repeat'
        split) <;> rfl))
    | with_reducible refine Block.seen_ite ?_ ?_
    | rw [Block.sendOn_seen (Area.sub_trans (by decide) h)]
    | rw [Block.modChan_seen (Area.sub_trans (by decide) h)]
    | rw [Block.modSparge_seen (Area.sub_trans (by decide) h)]
    | rw [Block.each_seen]
    | rw [Block.foldl_seen]
    | rw [Block.foldl_snd_seen]
    | dsimp only
    | split

theorem Block.routeLoss_seen {b : Block} (h : Area.sub [.cask, .ports, .tenants, .sparge, .hop, .power, .out] M =
    true) :
    (Block.routeLoss b).seen M = b.seen M := by
  unfold Block.routeLoss
  repeat' first
    | exact Keeps.of (fun _ => rfl)
    | ((with_reducible refine Keeps.of ?_); intro x; first | rfl | (repeat' split) <;> rfl | (dsimp only; (repeat'
        split) <;> rfl))
    | with_reducible rfl
    | (with_reducible intro _)
    | with_reducible refine Block.seen_ite ?_ ?_
    | rw [Block.pump_seen (Area.sub_trans (by decide) h)]
    | rw [Block.haltChan_seen (Area.sub_trans (by decide) h)]
    | rw [Block.hopDone_seen (Area.sub_trans (by decide) h)]
    | rw [Block.hopPush_seen (Area.sub_trans (by decide) h)]
    | rw [Block.pumpStep_seen (Area.sub_trans (by decide) h)]
    | rw [Block.settleDrains_seen (Area.sub_trans (by decide) h)]
    | rw [Block.each_seen]
    | rw [Block.foldl_seen]
    | rw [Block.foldl_snd_seen]
    | dsimp only
    | split

theorem Block.scrubCheck_seen {b : Block} (h : Area.sub [.taps, .views, .stations, .cask, .ports, .tenants, .sparge,
    .hop, .power, .out] M = true) :
    (Block.scrubCheck b).seen M = b.seen M := by
  unfold Block.scrubCheck
  repeat' first
    | with_reducible rfl
    | (with_reducible intro _)
    | exact Keeps.of (fun _ => rfl)
    | ((with_reducible refine Keeps.of ?_); intro x; first | rfl | (repeat' split) <;> rfl | (dsimp only; (repeat'
        split) <;> rfl))
    | with_reducible refine Block.seen_ite ?_ ?_
    | rw [Block.endScrub_seen (Area.sub_trans (by decide) h)]
    | rw [Block.each_seen]
    | rw [Block.foldl_seen]
    | rw [Block.foldl_snd_seen]
    | dsimp only
    | split

theorem Block.spendWhole_seen {b : Block} {x1 : Nat} (h : Area.sub [.sparge] M = true) :
    (Block.spendWhole b x1).seen M = b.seen M := by
  unfold Block.spendWhole
  repeat' first
    | with_reducible rfl
    | (with_reducible intro _)
    | ((with_reducible refine Keeps.of ?_); intro x; first | rfl | (repeat' split) <;> rfl | (dsimp only; (repeat'
        split) <;> rfl))
    | exact Keeps.of (fun _ => rfl)
    | with_reducible refine Block.seen_ite ?_ ?_
    | rw [Block.modSparge_seen (Area.sub_trans (by decide) h)]
    | rw [Block.spend_seen (Area.sub_trans (by decide) h)]
    | rw [Block.each_seen]
    | rw [Block.foldl_seen]
    | rw [Block.foldl_snd_seen]
    | dsimp only
    | split

theorem gather_seen {x0 : ℕ} {b : Block} {x2 : ℕ} {x3 : ℕ} {x4 : List ℕ} (h : Area.sub [.cask, .sparge] M = true) :
    (gather x0 b x2 x3 x4).2.2.seen M = b.seen M := by
  induction x0 generalizing b x2 x3 x4 with
  | zero => rfl
  | succ k ih =>
    unfold gather
    repeat' first
    | with_reducible rfl
    | (with_reducible intro _)
    | ((with_reducible refine Keeps.of ?_); intro x; first | rfl | (repeat' split) <;> rfl | (dsimp only; (repeat'
        split) <;> rfl))
    | with_reducible refine Block.seen_ite ?_ ?_
    | rw [ih]
    | exact Keeps.of (fun _ => rfl)
    | rw [Block.chanTake_seen (Area.sub_trans (by decide) h)]
    | rw [Block.modChan_seen (Area.sub_trans (by decide) h)]
    | rw [Block.each_seen]
    | rw [Block.foldl_seen]
    | rw [Block.foldl_snd_seen]
    | dsimp only
    | split

theorem Block.linkAct_seen {b : Block} {x1 : Nat} {x2 : Frame} (h : Area.sub [.taps, .views, .stations, .cask,
    .ports, .tenants, .sparge, .hop, .power, .time, .out] M = true) :
    (Block.linkAct b x1 x2).seen M = b.seen M := by
  unfold Block.linkAct
  repeat' first
    | with_reducible rfl
    | (with_reducible intro _)
    | exact Keeps.of (fun _ => rfl)
    | ((with_reducible refine Keeps.of ?_); intro x; first | rfl | (repeat' split) <;> rfl | (dsimp only; (repeat'
        split) <;> rfl))
    | with_reducible refine Block.seen_ite ?_ ?_
    | rw [Block.resendAll_seen (Area.sub_trans (by decide) h)]
    | rw [Block.modHopPort_seen (Area.sub_trans (by decide) h)]
    | rw [Block.rotateCheck_seen (Area.sub_trans (by decide) h)]
    | rw [Block.each_seen]
    | rw [Block.foldl_seen]
    | rw [Block.foldl_snd_seen]
    | dsimp only
    | split

theorem Block.nakNext_seen {b : Block} {x1 : ℕ} (h : Area.sub [.hop] M = true) :
    (Block.nakNext b x1).seen M = b.seen M := by
  unfold Block.nakNext
  repeat' first
    | (rw [Block.modHopPort_seen (Area.sub_trans (by decide) h)])

theorem Block.consume_seen {b : Block} {x1 : ℕ} {x2 : Frame} (h : Area.sub [.hop] M = true) :
    (Block.consume b x1 x2).seen M = b.seen M := by
  unfold Block.consume
  repeat' first
    | (rw [Block.modHopPort_seen (Area.sub_trans (by decide) h)])

theorem Block.unseal_seen {b : Block} {x1 : ℕ} {x2 : Frame} (h : Area.sub [.taps, .views, .stations, .cask, .ports, .tenants, .sparge, .hop, .power, .time, .out] M = true) :
    (Block.unseal b x1 x2).2.seen M = b.seen M := by
  unfold Block.unseal
  repeat' first
    | rw [Block.modHopPort_seen (Area.sub_trans (by decide) h)]
    | rw [Block.linkDown_seen (Area.sub_trans (by decide) h)]
    | rw [Block.consume_seen (Area.sub_trans (by decide) h)]
    | rw [Block.loss_seen (Area.sub_trans (by decide) h)]
    | rw [Block.each_seen]
    | rw [Block.foldl_seen]
    | rw [Block.foldl_snd_seen]
    | dsimp only
    | split

theorem Block.unseal_seen' {b : Block} {x1 : ℕ} {x2 : Frame} {y : _} {b' : Block} (h : Area.sub [.taps, .views, .stations, .cask, .ports, .tenants, .sparge, .hop, .power, .time, .out] M = true)
    (e : (Block.unseal b x1 x2) = (y, b')) : b'.seen M = b.seen M := by
  have g := Block.unseal_seen (M := M) h (b := b) (x1 := x1) (x2 := x2)
  rwa [e] at g

theorem Block.accept_seen {b : Block} {x1 : Nat} {x2 : Frame} (h : Area.sub [.taps, .views, .stations, .cask,
    .ports, .tenants, .sparge, .hop, .power, .time, .out] M = true) :
    (Block.accept b x1 x2).2.seen M = b.seen M := by
  unfold Block.accept
  repeat' first
    | with_reducible rfl
    | (with_reducible intro _)
    | exact Keeps.of (fun _ => rfl)
    | ((with_reducible refine Keeps.of ?_); intro x; first | rfl | (repeat' split) <;> rfl | (dsimp only; (repeat'
        split) <;> rfl))
    | with_reducible refine Block.seen_ite ?_ ?_
    | rw [Block.modHopPort_seen (Area.sub_trans (by decide) h)]
    | rw [Block.linkAct_seen (Area.sub_trans (by decide) h)]
    | rw [Block.nakNext_seen (Area.sub_trans (by decide) h)]
    | rw [Block.unseal_seen (Area.sub_trans (by decide) h)]
    | (refine ((Block.unseal_seen' (Area.sub_trans (by decide) h) (by assumption)).trans ?_))
    | rw [Block.unseal_seen' (Area.sub_trans (by decide) h) (by assumption)]
    | rw [Block.each_seen]
    | rw [Block.foldl_seen]
    | rw [Block.foldl_snd_seen]
    | dsimp only
    | split

theorem Block.accept_seen' {b : Block} {x1 : Nat} {x2 : Frame} {y : _} {b' : Block} (h : Area.sub [.taps, .views,
    .stations, .cask, .ports, .tenants, .sparge, .hop, .power, .time, .out] M = true)
    (e : (Block.accept b x1 x2) = (y, b')) : b'.seen M = b.seen M := by
  have g := Block.accept_seen (M := M) h (b := b) (x1 := x1) (x2 := x2)
  rwa [e] at g

theorem Block.applyOffset_seen {b : Block} {x1 : Nat} {x2 : Exchange} {x3 : Nat} (h : Area.sub [.taps, .views,
    .stations, .cask, .ports, .tenants, .hop, .power, .time, .out] M = true) :
    (Block.applyOffset b x1 x2 x3).seen M = b.seen M := by
  unfold Block.applyOffset
  repeat' first
    | with_reducible rfl
    | (with_reducible intro _)
    | exact Keeps.of (fun _ => rfl)
    | ((with_reducible refine Keeps.of ?_); intro x; first | rfl | (repeat' split) <;> rfl | (dsimp only; (repeat'
        split) <;> rfl))
    | with_reducible refine Block.seen_ite ?_ ?_
    | rw [Block.modTime_seen (Area.sub_trans (by decide) h)]
    | rw [Block.modHop_seen (Area.sub_trans (by decide) h)]
    | rw [Block.advanceEpoch_seen (Area.sub_trans (by decide) h)]
    | rw [Block.finishLongs_seen (Area.sub_trans (by decide) h)]
    | rw [Block.finishRediscover_seen (Area.sub_trans (by decide) h)]
    | rw [Block.realign_seen (Area.sub_trans (by decide) h)]
    | rw [Block.each_seen]
    | rw [Block.foldl_seen]
    | rw [Block.foldl_snd_seen]
    | dsimp only
    | split

theorem Block.badType_seen {b : Block} {x1 : ℕ} (h : Area.sub [.hop] M = true) :
    (Block.badType b x1).seen M = b.seen M := by
  unfold Block.badType
  repeat' first
    | (rw [Block.modHopPort_seen (Area.sub_trans (by decide) h)])

theorem Block.finishFreezeCmds_seen {b : Block} {x1 : ℕ → Bool} (h : Area.sub [.ports, .tenants, .power, .out] M =
    true) :
    (Block.finishFreezeCmds b x1).seen M = b.seen M := by
  unfold Block.finishFreezeCmds
  repeat' first
    | (rw [Block.finishLongs_seen (Area.sub_trans (by decide) h)])

theorem Block.slotReady_seen {b : Block} {x1 : ℕ} (h : Area.sub [.hop] M = true) :
    (Block.slotReady b x1).seen M = b.seen M := by
  unfold Block.slotReady
  repeat' first
    | (rw [Block.modHop_seen (Area.sub_trans (by decide) h)])

theorem Block.sendGrant_seen {b : Block} {x1 : Nat} {x2 : Nat} {x3 : Nat} {x4 : Nat} (h : Area.sub [.tenants, .hop,
    .power] M = true) :
    (Block.sendGrant b x1 x2 x3 x4).seen M = b.seen M := by
  unfold Block.sendGrant
  repeat' first
    | with_reducible rfl
    | (with_reducible intro _)
    | exact Keeps.of (fun _ => rfl)
    | ((with_reducible refine Keeps.of ?_); intro x; first | rfl | (repeat' split) <;> rfl | (dsimp only; (repeat'
        split) <;> rfl))
    | with_reducible refine Block.seen_ite ?_ ?_
    | rw [Block.sendOn_seen (Area.sub_trans (by decide) h)]
    | rw [Block.sendRouted_seen (Area.sub_trans (by decide) h)]
    | rw [Block.each_seen]
    | rw [Block.foldl_seen]
    | rw [Block.foldl_snd_seen]
    | dsimp only
    | split

theorem Block.grantTo_seen {b : Block} {x1 : Nat × Nat × Nat × Nat} {x2 : Nat} (h : Area.sub [.cask, .ports,
    .tenants, .sparge, .hop, .power, .out] M = true) :
    (Block.grantTo b x1 x2).seen M = b.seen M := by
  unfold Block.grantTo
  repeat' first
    | with_reducible rfl
    | (with_reducible intro _)
    | exact Keeps.of (fun _ => rfl)
    | ((with_reducible refine Keeps.of ?_); intro x; first | rfl | (repeat' split) <;> rfl | (dsimp only; (repeat'
        split) <;> rfl))
    | with_reducible refine Block.seen_ite ?_ ?_
    | rw [Block.sendRouted_seen (Area.sub_trans (by decide) h)]
    | rw [Block.hopDone_seen (Area.sub_trans (by decide) h)]
    | rw [Block.sendOn_seen (Area.sub_trans (by decide) h)]
    | rw [Block.slotReady_seen (Area.sub_trans (by decide) h)]
    | rw [Block.modHop_seen (Area.sub_trans (by decide) h)]
    | rw [Block.sendGrant_seen (Area.sub_trans (by decide) h)]
    | rw [Block.each_seen]
    | rw [Block.foldl_seen]
    | rw [Block.foldl_snd_seen]
    | dsimp only
    | split

theorem Block.joinFreeze_seen {b : Block} {x1 : Freeze} {x2 : ℕ} (h : Area.sub [.freezes] M = true) :
    (Block.joinFreeze b x1 x2).2.seen M = b.seen M := by
  unfold Block.joinFreeze
  repeat' first
    | (refine ((Block.takeFreeze_seen (Area.sub_trans (by decide) h) (by assumption)).trans ?_))
    | (refine ((Block.takeFreeze_seen' (Area.sub_trans (by decide) h) (by assumption)).trans ?_))
    | rw [Block.each_seen]
    | rw [Block.foldl_seen]
    | rw [Block.foldl_snd_seen]
    | dsimp only
    | split

theorem Block.joinFreeze_seen' {b : Block} {x1 : Freeze} {x2 : ℕ} {y : _} {b' : Block} (h : Area.sub [.freezes] M =
    true)
    (e : (Block.joinFreeze b x1 x2) = (y, b')) : b'.seen M = b.seen M := by
  have g := Block.joinFreeze_seen (M := M) h (b := b) (x1 := x1) (x2 := x2)
  rwa [e] at g

theorem Block.noteSeen_seen {b : Block} {x1 : ℕ × ℕ} (h : Area.sub [.hop] M = true) :
    (Block.noteSeen b x1).seen M = b.seen M := by
  unfold Block.noteSeen
  repeat' first
    | (rw [Block.modHop_seen (Area.sub_trans (by decide) h)])

theorem Block.receive_seen {b : Block} {p : Nat} {f : Frame} {row : Bool} {keep : Block → Frame → Bool}
    {act : Block → Frame → Block} (h : Area.sub [.taps, .views, .stations, .cask, .ports, .tenants, .sparge, .hop, .power, .time, .out] M = true)
    (ha : ∀ b f, (act b f).seen M = b.seen M) : (b.receive p f row keep act).seen M = b.seen M := by
  unfold Block.receive
  split
  · rfl
  · split
    · exact Block.accept_seen' (Area.sub_trans (by decide) h) (by assumption)
    · rename_i g b' e
      have k := Block.accept_seen' (Area.sub_trans (by decide) h) e
      have c : (b'.consume p g).seen M = b'.seen M := Block.consume_seen (Area.sub_trans (by decide) h)
      split
      · exact k
      · split
        · rw [Block.badType_seen (Area.sub_trans (by decide) h), c, k]
        · split
          · rw [ha, k]
          · rw [ha, c, k]

theorem Block.routed_seen {b : Block} {p : Nat} {f : Frame} {t : Nat} {mine : Block → Frame → Block}
    (h : Area.sub [.taps, .views, .stations, .cask, .ports, .tenants, .sparge, .hop, .power, .time, .out] M = true) (ha : ∀ b
        f, (mine b f).seen M = b.seen M) :
    (b.routed p f t mine).seen M = b.seen M := by
  unfold Block.routed
  refine Block.receive_seen (Area.sub_trans (by decide) h) (fun b f => ?_)
  dsimp only
  repeat' first
    | with_reducible refine Block.seen_ite ?_ ?_
    | rw [ha]
    | rw [Block.loss_seen (Area.sub_trans (by decide) h)]
    | rw [Block.sendRouted_seen (Area.sub_trans (by decide) h)]
    | rw [Block.modHopPort_seen (Area.sub_trans (by decide) h)]
    | rw [Block.consume_seen (Area.sub_trans (by decide) h)]
    | with_reducible rfl
    | split

theorem grantSlots_seen {x0 : ℕ} {b : Block} (h : Area.sub [.cask, .ports, .tenants, .sparge, .hop, .power, .out] M =
    true) :
    (grantSlots x0 b).seen M = b.seen M := by
  induction x0 generalizing b with
  | zero => rfl
  | succ k ih =>
    unfold grantSlots
    repeat' first
    | with_reducible rfl
    | (with_reducible intro _)
    | exact Keeps.of (fun _ => rfl)
    | ((with_reducible refine Keeps.of ?_); intro x; first | rfl | (repeat' split) <;> rfl | (dsimp only; (repeat'
        split) <;> rfl))
    | with_reducible refine Block.seen_ite ?_ ?_
    | rw [ih]
    | rw [Block.modHop_seen (Area.sub_trans (by decide) h)]
    | rw [Block.grantTo_seen (Area.sub_trans (by decide) h)]
    | rw [Block.each_seen]
    | rw [Block.foldl_seen]
    | rw [Block.foldl_snd_seen]
    | dsimp only
    | split

theorem Block.holdChans_seen {b : Block} {x1 : Nat} {x2 : List Nat} (h : Area.sub [.sparge] M = true) :
    (Block.holdChans b x1 x2).seen M = b.seen M := by
  unfold Block.holdChans
  repeat' first
    | with_reducible rfl
    | (with_reducible intro _)
    | exact Keeps.of (fun _ => rfl)
    | ((with_reducible refine Keeps.of ?_); intro x; first | rfl | (repeat' split) <;> rfl | (dsimp only; (repeat'
        split) <;> rfl))
    | with_reducible refine Block.seen_ite ?_ ?_
    | rw [Block.modChan_seen (Area.sub_trans (by decide) h)]
    | rw [Block.each_seen]
    | rw [Block.foldl_seen]
    | rw [Block.foldl_snd_seen]
    | dsimp only
    | split

theorem Block.beginReset_seen {b : Block} {x1 : Nat} (h : Area.sub [.cask, .ports, .tenants, .sparge, .hop, .power,
    .out] M = true) :
    (Block.beginReset b x1).seen M = b.seen M := by
  unfold Block.beginReset
  repeat' first
    | ((with_reducible refine Keeps.of ?_); intro x; first | rfl | (repeat' split) <;> rfl | (dsimp only; (repeat'
        split) <;> rfl))
    | with_reducible rfl
    | (with_reducible intro _)
    | exact Keeps.of (fun _ => rfl)
    | with_reducible refine Block.seen_ite ?_ ?_
    | rw [Block.abandonOld_seen (Area.sub_trans (by decide) h)]
    | rw [Block.modTenant_seen (Area.sub_trans (by decide) h)]
    | rw [Block.requestWake_seen (Area.sub_trans (by decide) h)]
    | rw [Block.resetPort_seen (Area.sub_trans (by decide) h)]
    | rw [Block.holdChans_seen (Area.sub_trans (by decide) h)]
    | rw [Block.settleDrains_seen (Area.sub_trans (by decide) h)]
    | rw [Block.each_seen]
    | rw [Block.foldl_seen]
    | rw [Block.foldl_snd_seen]
    | dsimp only
    | split

theorem Block.clearRefs_seen {b : Block} {x1 : List Word} (h : Area.sub [.assay, .profiles] M = true) :
    (Block.clearRefs b x1).seen M = b.seen M := by
  unfold Block.clearRefs
  repeat' first
    | (rw [Block.modAssay_seen_all (Area.sub_trans (by decide) h)])

theorem Block.epochAssay_seen {b : Block} {x1 : ℕ} (h : Area.sub [.assay, .profiles] M = true) :
    (Block.epochAssay b x1).seen M = b.seen M := by
  unfold Block.epochAssay
  repeat' first
    | with_reducible rfl
    | (with_reducible intro _)
    | with_reducible refine Block.seen_ite ?_ ?_
    | rw [Block.modAssay_seen_all (Area.sub_trans (by decide) h)]
    | rw [Block.discardUnitTensors_seen (Area.sub_trans (by decide) h)]
    | rw [Block.clearRefs_seen (Area.sub_trans (by decide) h)]
    | rw [Block.each_seen]

theorem Block.epochCask_seen {b : Block} {x1 : ℕ} (h : Area.sub [.cask, .tenants] M = true) :
    (Block.epochCask b x1).seen M = b.seen M := by
  unfold Block.epochCask
  repeat' first
    | exact Keeps.of (fun _ => rfl)
    | rw [Block.modTenant_seen (Area.sub_trans (by decide) h)]
    | rw [Block.modCask_seen (Area.sub_trans (by decide) h)]

theorem Block.epochCounters_seen {b : Block} {x1 : ℕ} (h : Area.sub [.taps, .views] M = true) :
    (Block.epochCounters b x1).seen M = b.seen M := by
  have m := Area.sub_iff.1 h
  simp [Block.seen, Area.see, Block.epochCounters, m .taps, m .views, Block.station, Block.tenant, Block.chan]

theorem Block.dropHeld_seen {b : Block} {x1 : List Nat} (h : Area.sub [.mash] M = true) :
    (Block.dropHeld b x1).seen M = b.seen M := by
  unfold Block.dropHeld
  repeat' first
    | with_reducible rfl
    | (with_reducible intro _)
    | exact Keeps.of (fun _ => rfl)
    | ((with_reducible refine Keeps.of ?_); intro x; first | rfl | (repeat' split) <;> rfl | (dsimp only; (repeat'
        split) <;> rfl))
    | with_reducible refine Block.seen_ite ?_ ?_
    | rw [Block.modMash_seen (Area.sub_trans (by decide) h)]
    | rw [Block.each_seen]
    | rw [Block.foldl_seen]
    | rw [Block.foldl_snd_seen]
    | dsimp only
    | split

theorem Block.resetRows_seen {b : Block} {x1 : Nat} (h : Area.sub [.mash] M = true) :
    (Block.resetRows b x1).seen M = b.seen M := by
  unfold Block.resetRows
  repeat' first
    | with_reducible rfl
    | (with_reducible intro _)
    | exact Keeps.of (fun _ => rfl)
    | ((with_reducible refine Keeps.of ?_); intro x; first | rfl | (repeat' split) <;> rfl | (dsimp only; (repeat'
        split) <;> rfl))
    | with_reducible refine Block.seen_ite ?_ ?_
    | rw [Block.dropSteps_seen (Area.sub_trans (by decide) h)]
    | rw [Block.clearRows_seen (Area.sub_trans (by decide) h)]
    | rw [Block.dropHeld_seen (Area.sub_trans (by decide) h)]
    | rw [Block.each_seen]
    | rw [Block.foldl_seen]
    | rw [Block.foldl_snd_seen]
    | dsimp only
    | split

theorem Block.epochMash_seen {b : Block} {x1 : Nat} (h : Area.sub [.mash, .maps] M = true) :
    (Block.epochMash b x1).seen M = b.seen M := by
  unfold Block.epochMash
  repeat' first
    | exact Keeps.of (fun _ => rfl)
    | ((with_reducible refine Keeps.of ?_); intro x; first | rfl | (repeat' split) <;> rfl | (dsimp only; (repeat'
        split) <;> rfl))
    | with_reducible rfl
    | (with_reducible intro _)
    | with_reducible refine Block.seen_ite ?_ ?_
    | rw [Block.resetSlot_seen (Area.sub_trans (by decide) h)]
    | rw [Block.modMash_seen_all (Area.sub_trans (by decide) h)]
    | rw [Block.cutAll_seen (Area.sub_trans (by decide) h)]
    | rw [Block.resetRows_seen (Area.sub_trans (by decide) h)]
    | rw [Block.each_seen]
    | rw [Block.foldl_seen]
    | rw [Block.foldl_snd_seen]
    | dsimp only
    | split

theorem Block.seqOff_seen {b : Block} {x1 : ℕ} (h : Area.sub [.stations, .cask, .tenants] M = true) :
    (Block.seqOff b x1).seen M = b.seen M := by
  unfold Block.seqOff
  repeat' first
    | with_reducible refine Block.seen_ite ?_ ?_
    | rw [Block.seqLeft_seen (Area.sub_trans (by decide) h)]
    | rw [Block.modSeq_seen (Area.sub_trans (by decide) h)]

theorem Block.epochStation_seen {b : Block} {x1 : Nat} {x2 : Nat} (h : Area.sub [.taps, .views, .stations, .lauter,
    .cask, .tenants, .power] M = true) :
    (Block.epochStation b x1 x2).seen M = b.seen M := by
  unfold Block.epochStation
  repeat' first
    | (with_reducible intro _)
    | exact Keeps.of (fun _ => rfl)
    | ((with_reducible refine Keeps.of ?_); intro x; first | rfl | (repeat' split) <;> rfl | (dsimp only; (repeat'
        split) <;> rfl))
    | with_reducible rfl
    | with_reducible refine Block.seen_ite ?_ ?_
    | rw [Block.modStation_seen_all (Area.sub_trans (by decide) h)]
    | rw [Block.seqOff_seen (Area.sub_trans (by decide) h)]
    | rw [Block.closeOwnerRaw_seen (Area.sub_trans (by decide) h)]
    | rw [Block.each_seen]
    | rw [Block.foldl_seen]
    | rw [Block.foldl_snd_seen]
    | dsimp only
    | split

theorem Block.setMode_seen {b : Block} {x1 : ℕ} {x2 : ℕ} (h : Area.sub [.cask, .tenants] M = true) :
    (Block.setMode b x1 x2).seen M = b.seen M := by
  unfold Block.setMode
  repeat' first
    | with_reducible rfl
    | exact Keeps.of (fun _ => rfl)
    | with_reducible refine Block.seen_ite ?_ ?_
    | rw [Block.holdEnd_seen (Area.sub_trans (by decide) h)]
    | rw [Block.modTenant_seen (Area.sub_trans (by decide) h)]
    | rw [Block.closeOpen_seen (Area.sub_trans (by decide) h)]

theorem Block.freeChans_seen {b : Block} {x1 : Nat} {x2 : List Nat} (h : Area.sub [.sparge] M = true) :
    (Block.freeChans b x1 x2).seen M = b.seen M := by
  unfold Block.freeChans
  repeat' first
    | with_reducible rfl
    | (with_reducible intro _)
    | exact Keeps.of (fun _ => rfl)
    | ((with_reducible refine Keeps.of ?_); intro x; first | rfl | (repeat' split) <;> rfl | (dsimp only; (repeat'
        split) <;> rfl))
    | with_reducible refine Block.seen_ite ?_ ?_
    | rw [Block.modChan_seen (Area.sub_trans (by decide) h)]
    | rw [Block.each_seen]
    | rw [Block.foldl_seen]
    | rw [Block.foldl_snd_seen]
    | dsimp only
    | split

theorem Block.queueScrub_seen {b : Block} {x1 : Nat} {x2 : Nat} {x3 : Nat} (h : Area.sub [.taps, .views, .stations,
    .cask, .ports, .tenants, .sparge, .hop, .power, .out] M = true) :
    (Block.queueScrub b x1 x2 x3).seen M = b.seen M := by
  unfold Block.queueScrub
  repeat' first
    | with_reducible rfl
    | ((with_reducible refine Keeps.of ?_); intro x; first | rfl | (repeat' split) <;> rfl | (dsimp only; (repeat'
        split) <;> rfl))
    | with_reducible refine Block.seen_ite ?_ ?_
    | (with_reducible intro _)
    | exact Keeps.of (fun _ => rfl)
    | rw [Block.modTenant_seen (Area.sub_trans (by decide) h)]
    | rw [Block.modSparge_seen (Area.sub_trans (by decide) h)]
    | rw [Block.scrubCheck_seen (Area.sub_trans (by decide) h)]
    | rw [Block.modChan_seen (Area.sub_trans (by decide) h)]
    | rw [Block.freeChans_seen (Area.sub_trans (by decide) h)]
    | rw [Block.endScrub_seen (Area.sub_trans (by decide) h)]
    | rw [Block.each_seen]
    | rw [Block.foldl_seen]
    | rw [Block.foldl_snd_seen]
    | dsimp only
    | split

theorem Block.clearUncopied_seen {b : Block} {x1 : List Nat} (h : Area.sub [.sync, .free] M = true) :
    (Block.clearUncopied b x1).seen M = b.seen M := by
  unfold Block.clearUncopied
  repeat' first
    | with_reducible rfl
    | (with_reducible intro _)
    | exact Keeps.of (fun _ => rfl)
    | ((with_reducible refine Keeps.of ?_); intro x; first | rfl | (repeat' split) <;> rfl | (dsimp only; (repeat'
        split) <;> rfl))
    | with_reducible refine Block.seen_ite ?_ ?_
    | rw [Block.takeFree_seen' (Area.sub_trans (by decide) h) (by assumption)]
    | rw [Block.takeFree_seen (Area.sub_trans (by decide) h)]
    | rw [Block.modSync_seen (Area.sub_trans (by decide) h)]
    | rw [Block.each_seen]
    | rw [Block.foldl_seen]
    | rw [Block.foldl_snd_seen]
    | dsimp only
    | split

theorem Block.armNoprog_seen {b : Block} (h : Area.sub [.sync] M = true) :
    (Block.armNoprog b).seen M = b.seen M := by
  unfold Block.armNoprog
  repeat' first
    | with_reducible rfl
    | (with_reducible intro _)
    | exact Keeps.of (fun _ => rfl)
    | ((with_reducible refine Keeps.of ?_); intro x; first | rfl | (repeat' split) <;> rfl | (dsimp only; (repeat'
        split) <;> rfl))
    | with_reducible refine Block.seen_ite ?_ ?_
    | rw [Block.modSync_seen (Area.sub_trans (by decide) h)]
    | rw [Block.each_seen]
    | rw [Block.foldl_seen]
    | rw [Block.foldl_snd_seen]
    | dsimp only
    | split

theorem Block.epochSync_seen {b : Block} {x1 : Nat} (h : Area.sub [.sync, .free] M = true) :
    (Block.epochSync b x1).seen M = b.seen M := by
  unfold Block.epochSync
  repeat' first
    | with_reducible rfl
    | (with_reducible intro _)
    | exact Keeps.of (fun _ => rfl)
    | ((with_reducible refine Keeps.of ?_); intro x; first | rfl | (repeat' split) <;> rfl | (dsimp only; (repeat'
        split) <;> rfl))
    | with_reducible refine Block.seen_ite ?_ ?_
    | (rw [Block.modSync_seen (Area.sub_trans (by decide) h)])
    | rw [Block.clearUncopied_seen (Area.sub_trans (by decide) h)]
    | rw [Block.armNoprog_seen (Area.sub_trans (by decide) h)]
    | rw [Block.each_seen]
    | rw [Block.foldl_seen]
    | rw [Block.foldl_snd_seen]
    | dsimp only
    | split

theorem Block.epochStep_seen {b : Block} {x1 : ℕ} (h : Area.sub [.taps, .views, .stations, .lauter, .ctxs, .cask, .mash, .maps, .assay, .profiles, .sync, .ports, .tenants, .sparge, .hop, .power, .out, .free] M = true) :
    (Block.epochStep b x1).seen M = b.seen M := by
  unfold Block.epochStep
  dsimp only
  rw [Block.pumpAll_seen (Area.sub_trans (by decide) h)]
  rw [Block.settleDrains_seen (Area.sub_trans (by decide) h)]
  rw [Block.mapLongs_seen (Area.sub_trans (by decide) h)]
  rw [Block.queueScrub_seen (Area.sub_trans (by decide) h)]
  rw [Block.set_ctxs_seen (Area.sub_trans (by decide) h)]
  rw [Block.epochCounters_seen (Area.sub_trans (by decide) h)]
  rw [Block.epochSync_seen (Area.sub_trans (by decide) h)]
  rw [Block.epochAssay_seen (Area.sub_trans (by decide) h)]
  rw [Block.epochMash_seen (Area.sub_trans (by decide) h)]
  rw [Block.epochCask_seen (Area.sub_trans (by decide) h)]
  rw [Block.modTenant_seen (Area.sub_trans (by decide) h), Block.setMode_seen (Area.sub_trans (by decide) h)]
  · exact Block.each_seen (fun _ _ => Block.epochStation_seen (Area.sub_trans (by decide) h))
  · exact Keeps.of (fun _ => rfl)

theorem Block.setFormat_seen {b : Block} {x1 : Nat} {x2 : Bool} (h : Area.sub [.taps, .views, .stations, .cask,
    .tenants, .power] M = true) :
    (Block.setFormat b x1 x2).seen M = b.seen M := by
  unfold Block.setFormat
  repeat' first
    | ((with_reducible refine Keeps.of ?_); intro x; first | rfl | (repeat' split) <;> rfl | (dsimp only; (repeat'
        split) <;> rfl))
    | with_reducible rfl
    | (with_reducible intro _)
    | exact Keeps.of (fun _ => rfl)
    | with_reducible refine Block.seen_ite ?_ ?_
    | rw [Block.modTenant_seen (Area.sub_trans (by decide) h)]
    | rw [Block.closeOwner_seen (Area.sub_trans (by decide) h)]
    | rw [Block.modStation_seen (Area.sub_trans (by decide) h)]
    | rw [Block.each_seen]
    | rw [Block.foldl_seen]
    | rw [Block.foldl_snd_seen]
    | dsimp only
    | split

theorem Block.beginWaiting_seen {b : Block} (h : Area.sub [.cask, .ports, .tenants, .sparge, .hop, .power, .out] M =
    true) :
    (Block.beginWaiting b).seen M = b.seen M := by
  unfold Block.beginWaiting
  repeat' first
    | with_reducible rfl
    | (with_reducible intro _)
    | exact Keeps.of (fun _ => rfl)
    | ((with_reducible refine Keeps.of ?_); intro x; first | rfl | (repeat' split) <;> rfl | (dsimp only; (repeat'
        split) <;> rfl))
    | with_reducible refine Block.seen_ite ?_ ?_
    | rw [Block.beginReset_seen (Area.sub_trans (by decide) h)]
    | rw [Block.each_seen]
    | rw [Block.foldl_seen]
    | rw [Block.foldl_snd_seen]
    | dsimp only
    | split

theorem Block.bootBegins_seen {b : Block} (h : Area.sub [.cask, .ports, .tenants, .sparge, .hop, .power, .time,
    .out] M = true) :
    (Block.bootBegins b).seen M = b.seen M := by
  unfold Block.bootBegins
  repeat' first
    | (with_reducible intro _)
    | exact Keeps.of (fun _ => rfl)
    | ((with_reducible refine Keeps.of ?_); intro x; first | rfl | (repeat' split) <;> rfl | (dsimp only; (repeat'
        split) <;> rfl))
    | with_reducible rfl
    | with_reducible refine Block.seen_ite ?_ ?_
    | rw [Block.modTime_seen (Area.sub_trans (by decide) h)]
    | rw [Block.modPower_seen (Area.sub_trans (by decide) h)]
    | rw [Block.beginWaiting_seen (Area.sub_trans (by decide) h)]
    | rw [Block.each_seen]
    | rw [Block.foldl_seen]
    | rw [Block.foldl_snd_seen]
    | dsimp only
    | split

theorem Block.chooseSpeed_seen {b : Block} (h : Area.sub [.power] M = true) :
    (Block.chooseSpeed b).seen M = b.seen M := by
  unfold Block.chooseSpeed
  repeat' first
    | (with_reducible intro _)
    | exact Keeps.of (fun _ => rfl)
    | ((with_reducible refine Keeps.of ?_); intro x; first | rfl | (repeat' split) <;> rfl | (dsimp only; (repeat'
        split) <;> rfl))
    | with_reducible rfl
    | with_reducible refine Block.seen_ite ?_ ?_
    | rw [Block.modPower_seen (Area.sub_trans (by decide) h)]
    | rw [Block.each_seen]
    | rw [Block.foldl_seen]
    | rw [Block.foldl_snd_seen]
    | dsimp only
    | split

theorem Block.enterState_seen {b : Block} {x1 : Nat} (h : Area.sub [.power] M = true) :
    (Block.enterState b x1).seen M = b.seen M := by
  unfold Block.enterState
  repeat' first
    | with_reducible rfl
    | (with_reducible intro _)
    | exact Keeps.of (fun _ => rfl)
    | ((with_reducible refine Keeps.of ?_); intro x; first | rfl | (repeat' split) <;> rfl | (dsimp only; (repeat'
        split) <;> rfl))
    | with_reducible refine Block.seen_ite ?_ ?_
    | rw [Block.modPower_seen (Area.sub_trans (by decide) h)]
    | rw [Block.each_seen]
    | rw [Block.foldl_seen]
    | rw [Block.foldl_snd_seen]
    | dsimp only
    | split

theorem Block.gainTokens_seen {b : Block} {x1 : List Nat} (h : Area.sub [.tenants] M = true) :
    (Block.gainTokens b x1).seen M = b.seen M := by
  unfold Block.gainTokens
  repeat' first
    | with_reducible rfl
    | exact Keeps.of (fun _ => rfl)
    | with_reducible refine Block.seen_ite ?_ ?_
    | (with_reducible intro _)
    | ((with_reducible refine Keeps.of ?_); intro x; first | rfl | (repeat' split) <;> rfl | (dsimp only; (repeat'
        split) <;> rfl))
    | rw [Block.modTenant_seen (Area.sub_trans (by decide) h)]
    | rw [Block.each_seen]
    | rw [Block.foldl_seen]
    | rw [Block.foldl_snd_seen]
    | dsimp only
    | split

theorem Block.presentIrq_seen {b : Block} {x1 : Nat} (h : Area.sub [.tenants, .power] M = true) :
    (Block.presentIrq b x1).seen M = b.seen M := by
  unfold Block.presentIrq
  repeat' first
    | with_reducible rfl
    | (with_reducible intro _)
    | exact Keeps.of (fun _ => rfl)
    | ((with_reducible refine Keeps.of ?_); intro x; first | rfl | (repeat' split) <;> rfl | (dsimp only; (repeat'
        split) <;> rfl))
    | with_reducible refine Block.seen_ite ?_ ?_
    | rw [Block.modPower_seen (Area.sub_trans (by decide) h)]
    | rw [Block.modTenant_seen (Area.sub_trans (by decide) h)]
    | rw [Block.each_seen]
    | rw [Block.foldl_seen]
    | rw [Block.foldl_snd_seen]
    | dsimp only
    | split

theorem Block.sendNext_seen {b : Block} {x1 : List ℕ} (h : Area.sub [.tenants, .power] M = true) :
    (Block.sendNext b x1).seen M = b.seen M := by
  unfold Block.sendNext
  cases List.find? (fun n => decide (1024 ≤ (b.tenant n).tokens)) x1 with
  | none => rfl
  | some n =>
    refine (Block.presentIrq_seen (Area.sub_trans (by decide) h)).trans
      ((Block.modPower_seen (Area.sub_trans (by decide) h)).trans
        (Block.modTenant_seen (Area.sub_trans (by decide) h) (Keeps.of ?_)))
    intro x
    simp only [Tenant.quotas]

theorem Block.sleepStep_seen {b : Block} (h : Area.sub [.power, .time] M = true) :
    (Block.sleepStep b).seen M = b.seen M := by
  unfold Block.sleepStep
  repeat' first
    | (with_reducible intro _)
    | exact Keeps.of (fun _ => rfl)
    | ((with_reducible refine Keeps.of ?_); intro x; first | rfl | (repeat' split) <;> rfl | (dsimp only; (repeat'
        split) <;> rfl))
    | with_reducible rfl
    | with_reducible refine Block.seen_ite ?_ ?_
    | rw [Block.modTime_seen (Area.sub_trans (by decide) h)]
    | rw [Block.modPower_seen (Area.sub_trans (by decide) h)]
    | rw [Block.each_seen]
    | rw [Block.foldl_seen]
    | rw [Block.foldl_snd_seen]
    | dsimp only
    | split

theorem Block.unlatch_seen {b : Block} {x1 : ℕ} (h : Area.sub [.lo] M = true) :
    (Block.unlatch b x1).seen M = b.seen M := by
  unfold Block.unlatch
  repeat' first
    | (rw [Block.set_lo_seen (Area.sub_trans (by decide) h)])

theorem Block.splitRead_seen {b : Block} {x1 : ℕ} {x2 : ℕ} (h : Area.sub [.lo] M = true) :
    (Block.splitRead b x1 x2).2.seen M = b.seen M := by
  unfold Block.splitRead
  dsimp only
  split
  · exact Block.set_lo_seen (Area.sub_trans (by decide) h)
  · split
    · rfl
    · exact Block.set_lo_seen (Area.sub_trans (by decide) h)

theorem Block.splitRead_seen' {b : Block} {x1 : ℕ} {x2 : ℕ} {y : _} {b' : Block} (h : Area.sub [.lo] M = true)
    (e : (Block.splitRead b x1 x2) = (y, b')) : b'.seen M = b.seen M := by
  have g := Block.splitRead_seen (M := M) h (b := b) (x1 := x1) (x2 := x2)
  rwa [e] at g

theorem Block.hopReg_seen {b : Block} {x1 : ℕ} {x2 : ℕ} {x3 : Word} {x4 : BitVec 4} (h : Area.sub [.taps, .views, .stations, .cask, .ports, .tenants, .sparge, .hop, .power, .time, .out] M = true) :
    (Block.hopReg b x1 x2 x3 x4).seen M = b.seen M := by
  unfold Block.hopReg
  repeat' first
    | with_reducible rfl
    | with_reducible refine Block.seen_ite ?_ ?_
    | rw [Block.modHopPort_seen (Area.sub_trans (by decide) h)]
    | rw [Block.adminSet_seen (Area.sub_trans (by decide) h)]

theorem Block.snapReg_seen {b : Block} {x1 : ℕ} {x2 : Word} {x3 : BitVec 4} (h : Area.sub [.sync] M = true) :
    (Block.snapReg b x1 x2 x3).seen M = b.seen M := by
  unfold Block.snapReg
  repeat' first
    | with_reducible rfl
    | with_reducible refine Block.seen_ite ?_ ?_
    | rw [Block.modSync_seen (Area.sub_trans (by decide) h)]

theorem Block.chanReg_seen {b : Block} {x1 : ℕ} {x2 : ℕ} {x3 : Word} {x4 : BitVec 4} (h : Area.sub [.cask, .ports, .tenants, .sparge, .rings, .hop, .power, .out] M = true) :
    (Block.chanReg b x1 x2 x3 x4).seen M = b.seen M := by
  unfold Block.chanReg
  repeat' first
    | with_reducible rfl
    | with_reducible refine Block.seen_ite ?_ ?_
    | rw [Block.chanEnable_seen (Area.sub_trans (by decide) h)]
    | rw [Block.pump_seen (Area.sub_trans (by decide) h)]
    | rw [Block.modChan_seen_all (Area.sub_trans (by decide) h)]

theorem Block.cntClear_seen {b : Block} {x1 : Word} (h : Area.sub [.tenants, .meas, .power, .time] M = true) :
    (Block.cntClear b x1).seen M = b.seen M := by
  unfold Block.cntClear
  repeat' first
    | with_reducible rfl
    | (with_reducible intro _)
    | exact Keeps.of (fun _ => rfl)
    | with_reducible refine Block.seen_ite ?_ ?_
    | rw [Block.modTime_seen (Area.sub_trans (by decide) h)]
    | rw [Block.modPower_seen (Area.sub_trans (by decide) h)]
    | rw [Block.modTenant_seen (Area.sub_trans (by decide) h)]
    | rw [Block.modMeas_seen (Area.sub_trans (by decide) h)]
    | rw [Block.each_seen]

theorem Block.opWrite_seen {b : Block} {x1 : Nat} {x2 : Word} {x3 : BitVec 4} (h : Area.sub [.tenants, .meas,
    .power, .time] M = true) :
    (Block.opWrite b x1 x2 x3).seen M = b.seen M := by
  unfold Block.opWrite
  repeat' first
    | (with_reducible intro _)
    | exact Keeps.of (fun _ => rfl)
    | ((with_reducible refine Keeps.of ?_); intro x; first | rfl | (repeat' split) <;> rfl | (dsimp only; (repeat'
        split) <;> rfl))
    | with_reducible rfl
    | with_reducible refine Block.seen_ite ?_ ?_
    | rw [Block.modPower_seen (Area.sub_trans (by decide) h)]
    | rw [Block.cntClear_seen (Area.sub_trans (by decide) h)]
    | rw [Block.each_seen]
    | rw [Block.foldl_seen]
    | rw [Block.foldl_snd_seen]
    | dsimp only
    | split

theorem Block.fabReg_seen {b : Block} {x1 : Nat} {x2 : Word} {x3 : BitVec 4} (h : Area.sub [.cask, .ports, .tenants,
    .sparge, .hop, .power, .out] M = true) :
    (Block.fabReg b x1 x2 x3).seen M = b.seen M := by
  unfold Block.fabReg
  repeat' first
    | (with_reducible intro _)
    | exact Keeps.of (fun _ => rfl)
    | ((with_reducible refine Keeps.of ?_); intro x; first | rfl | (repeat' split) <;> rfl | (dsimp only; (repeat'
        split) <;> rfl))
    | with_reducible rfl
    | with_reducible refine Block.seen_ite ?_ ?_
    | rw [Block.modHop_seen (Area.sub_trans (by decide) h)]
    | rw [grantSlots_seen (Area.sub_trans (by decide) h)]
    | rw [Block.each_seen]
    | rw [Block.foldl_seen]
    | rw [Block.foldl_snd_seen]
    | dsimp only
    | split

theorem Block.fnWrite_seen {b : Block} {x1 : ℕ} {x2 : ℕ} {x3 : Word} {x4 : BitVec 4} (h : Area.sub [.cask, .ports, .tenants, .sparge, .hop, .power, .out] M = true) :
    (Block.fnWrite b x1 x2 x3 x4).seen M = b.seen M := by
  unfold Block.fnWrite
  repeat' first
    | with_reducible rfl
    | exact Keeps.of (fun _ => rfl)
    | with_reducible refine Block.seen_ite ?_ ?_
    | rw [Block.modTenant_seen (Area.sub_trans (by decide) h)]
    | rw [Block.cmdAbort_seen (Area.sub_trans (by decide) h)]
    | rw [Block.cmdData_seen (Area.sub_trans (by decide) h)]
    | rw [Block.beginReset_seen (Area.sub_trans (by decide) h)]
    | rw [Block.modPort_seen (Area.sub_trans (by decide) h)]

theorem Block.regWrite_seen {b : Block} {x1 : Reg} {x2 : Word} {x3 : BitVec 4} (h : Area.sub [.taps, .views,
    .stations, .cask, .sync, .ports, .tenants, .sparge, .rings, .hop, .meas, .power, .time, .out] M = true) :
    (Block.regWrite b x1 x2 x3).seen M = b.seen M := by
  unfold Block.regWrite
  repeat' first
    | rw [Block.hopReg_seen (Area.sub_trans (by decide) h)]
    | rw [Block.snapReg_seen (Area.sub_trans (by decide) h)]
    | rw [Block.chanReg_seen (Area.sub_trans (by decide) h)]
    | rw [Block.opWrite_seen (Area.sub_trans (by decide) h)]
    | rw [Block.fabReg_seen (Area.sub_trans (by decide) h)]
    | rw [Block.fnWrite_seen (Area.sub_trans (by decide) h)]
    | rw [Block.each_seen]
    | rw [Block.foldl_seen]
    | rw [Block.foldl_snd_seen]
    | dsimp only
    | split

theorem Block.beat_seen {b : Block} {x1 : Acc} {x2 : Word} (h : Area.sub [.out] M = true) :
    (Block.beat b x1 x2).seen M = b.seen M := by
  unfold Block.beat
  repeat' first
    | (rw [Block.emit_seen (Area.sub_trans (by decide) h)])

theorem Block.rspRead_seen {b : Block} {x1 : Acc} {x2 : Gt} (h : Area.sub [.ports, .out] M = true) :
    (Block.rspRead b x1 x2).seen M = b.seen M := by
  unfold Block.rspRead
  repeat' first
    | with_reducible refine Block.seen_ite ?_ ?_
    | rw [Block.modPort_seen (Area.sub_trans (by decide) h)]
    | rw [Block.beat_seen (Area.sub_trans (by decide) h)]

theorem Block.perform_seen {b : Block} {x1 : Bool} {x2 : Acc} {x3 : Gt} (h : Area.sub [.taps, .views, .stations,
    .cask, .sync, .ports, .tenants, .sparge, .rings, .hop, .meas, .power, .time, .lo, .out] M = true) :
    (Block.perform b x1 x2 x3).seen M = b.seen M := by
  unfold Block.perform
  repeat' first
    | with_reducible rfl
    | (with_reducible intro _)
    | exact Keeps.of (fun _ => rfl)
    | ((with_reducible refine Keeps.of ?_); intro x; first | rfl | (repeat' split) <;> rfl | (dsimp only; (repeat'
        split) <;> rfl))
    | with_reducible refine Block.seen_ite ?_ ?_
    | rw [Block.violation_seen (Area.sub_trans (by decide) h)]
    | rw [Block.unlatch_seen (Area.sub_trans (by decide) h)]
    | rw [Block.splitRead_seen (Area.sub_trans (by decide) h)]
    | (refine ((Block.splitRead_seen' (Area.sub_trans (by decide) h) (by assumption)).trans ?_))
    | rw [Block.regWrite_seen (Area.sub_trans (by decide) h)]
    | rw [Block.rspRead_seen (Area.sub_trans (by decide) h)]
    | rw [Block.beat_seen (Area.sub_trans (by decide) h)]
    | rw [Block.splitRead_seen' (Area.sub_trans (by decide) h) (by assumption)]
    | rw [Block.each_seen]
    | rw [Block.foldl_seen]
    | rw [Block.foldl_snd_seen]
    | dsimp only
    | split

theorem Block.admitAcc_seen {b : Block} {x1 : Bool × Acc × Gt} (h : Area.sub [.taps, .views, .stations, .cask, .sync,
    .ports, .tenants, .sparge, .rings, .hop, .meas, .power, .time, .lo, .out] M = true) :
    (Block.admitAcc b x1).seen M = b.seen M := by
  unfold Block.admitAcc
  repeat' first
    | with_reducible refine Block.seen_ite ?_ ?_
    | rw [Block.perform_seen (Area.sub_trans (by decide) h)]
    | rw [Block.modPort_seen (Area.sub_trans (by decide) h)]

theorem Block.quietAccess_seen {b : Block} {x1 : Bool} {x2 : Acc} (h : Area.sub [.out] M = true) :
    (Block.quietAccess b x1 x2).seen M = b.seen M := by
  unfold Block.quietAccess
  repeat' first
    | (rw [Block.beat_seen (Area.sub_trans (by decide) h)])

theorem Block.access_seen {b : Block} {x1 : Bool} {x2 : Acc} (h : Area.sub [.taps, .views, .stations, .cask, .sync,
    .ports, .tenants, .sparge, .rings, .hop, .meas, .power, .time, .held, .lo, .out] M = true) :
    (Block.access b x1 x2).seen M = b.seen M := by
  unfold Block.access
  repeat' first
    | with_reducible refine Block.seen_ite ?_ ?_
    | rw [Block.admitAcc_seen (Area.sub_trans (by decide) h)]
    | rw [Block.quietAccess_seen (Area.sub_trans (by decide) h)]
    | rw [Block.requestWake_seen (Area.sub_trans (by decide) h)]
    | rw [Block.set_held_seen (Area.sub_trans (by decide) h)]

theorem Block.completeHeld_seen {b : Block} (h : Area.sub [.taps, .views, .stations, .cask, .sync, .ports, .tenants,
    .sparge, .rings, .hop, .meas, .power, .time, .held, .lo, .out] M = true) :
    (Block.completeHeld b).seen M = b.seen M := by
  exact (Block.each_seen (fun _ _ => Block.admitAcc_seen (Area.sub_trans (by decide) h))).trans
    (Block.set_held_seen (Area.sub_trans (by decide) h))

theorem drainParked_seen {x0 : ℕ} {b : Block} {x2 : ℕ} (h : Area.sub [.taps, .views, .stations, .cask, .sync, .ports,
    .tenants, .sparge, .rings, .hop, .meas, .power, .time, .lo, .out] M = true) :
    (drainParked x0 b x2).seen M = b.seen M := by
  induction x0 generalizing b x2 with
  | zero => rfl
  | succ k ih =>
    unfold drainParked
    repeat' first
    | with_reducible rfl
    | (with_reducible intro _)
    | exact Keeps.of (fun _ => rfl)
    | ((with_reducible refine Keeps.of ?_); intro x; first | rfl | (repeat' split) <;> rfl | (dsimp only; (repeat'
        split) <;> rfl))
    | with_reducible refine Block.seen_ite ?_ ?_
    | rw [ih]
    | rw [Block.perform_seen (Area.sub_trans (by decide) h)]
    | rw [Block.modPort_seen (Area.sub_trans (by decide) h)]
    | rw [serveParked_seen (Area.sub_trans (by decide) h)]
    | rw [Block.unlatch_seen (Area.sub_trans (by decide) h)]
    | rw [Block.each_seen]
    | rw [Block.foldl_seen]
    | rw [Block.foldl_snd_seen]
    | dsimp only
    | split

theorem Block.buildLog_seen {b : Block} (h : Area.sub [.tenants, .meas, .recs] M = true) :
    (Block.buildLog b).seen M = b.seen M := by
  unfold Block.buildLog
  repeat' first
    | with_reducible rfl
    | (with_reducible intro _)
    | exact Keeps.of (fun _ => rfl)
    | ((with_reducible refine Keeps.of ?_); intro x; first | rfl | (repeat' split) <;> rfl | (dsimp only; (repeat'
        split) <;> rfl))
    | with_reducible refine Block.seen_ite ?_ ?_
    | rw [Block.logEntry_seen (Area.sub_trans (by decide) h)]
    | rw [Block.modMeas_seen (Area.sub_trans (by decide) h)]
    | rw [Block.each_seen]
    | rw [Block.foldl_seen]
    | rw [Block.foldl_snd_seen]
    | dsimp only
    | split

theorem Block.lastUnits_seen {b : Block} (h : Area.sub [.taps, .views, .stations, .mash, .sync, .tenants, .meas, .power, .recs] M = true) :
    (Block.lastUnits b).seen M = b.seen M := by
  unfold Block.lastUnits
  dsimp only
  rw [Block.each_seen (fun _ _ => Block.drainChain_seen (Area.sub_trans (by decide) h)),
    Block.each_seen (fun _ _ => Block.each_seen (fun _ _ => Block.closeOwnerRaw_seen (Area.sub_trans (by decide) h))),
    Block.buildLog_seen (Area.sub_trans (by decide) h), Block.abortImages_seen (Area.sub_trans (by decide) h)]

theorem Block.reborn_seen {b : Block} (h : Area.sub [.taps, .views, .stations, .lauter, .quads, .ctxs, .cask, .mash, .maps, .assay, .profiles, .sync, .freezes, .ports, .tenants, .quotas, .sparge, .rings, .hop, .meas, .power, .time, .recs, .held, .lo] M = true) :
    (Block.reborn b).seen M = b.seen M := by
  have m := Area.sub_iff.1 h
  simp [Block.seen, Area.see, Block.reborn, m .taps, m .views, m .stations, m .lauter, m .quads, m .ctxs, m
      .cask, m .mash, m .maps, m .assay,
    m .profiles, m .sync, m .freezes, m .ports, m .tenants, m .quotas, m .sparge, m .rings, m .hop, m .meas, m
        .power, m .time, m .recs, m .held, m .lo]

theorem Block.afterReset_seen {b : Block} (h : Area.sub [.taps, .views, .stations, .lauter, .quads, .ctxs, .cask, .mash, .maps, .assay, .profiles, .sync, .freezes, .ports, .tenants, .quotas, .sparge, .rings, .hop, .meas, .power, .time, .recs, .held, .lo] M = true) :
    (Block.afterReset b).seen M = b.seen M := by
  unfold Block.afterReset
  dsimp only
  split
  · exact (Block.reborn_seen (Area.sub_trans (by decide) h)).trans (Block.lastUnits_seen (Area.sub_trans (by decide) h))
  · rw [Block.loss_seen (Area.sub_trans (by decide) h)]
    exact (Block.reborn_seen (Area.sub_trans (by decide) h)).trans (Block.lastUnits_seen (Area.sub_trans (by decide) h))

theorem Block.quietAll_seen {b : Block} (h : Area.sub [.ports, .held, .out] M = true) :
    (Block.quietAll b).seen M = b.seen M := by
  refine (Block.each_seen (fun _ _ => ?_)).trans ((Block.each_seen (fun _ _ => ?_)).trans
    (Block.set_held_seen (Area.sub_trans (by decide) h)))
  · exact (Block.each_seen (fun _ _ => Block.quietAccess_seen (Area.sub_trans (by decide) h))).trans
      (Block.modPort_seen (Area.sub_trans (by decide) h))
  · exact Block.quietAccess_seen (Area.sub_trans (by decide) h)

theorem Block.beginQuiesce_seen {b : Block} (h : Area.sub [.taps, .views, .stations, .cask, .ports, .tenants, .sparge, .hop, .power, .time, .held, .out] M = true) :
    (Block.beginQuiesce b).seen M = b.seen M := by
  unfold Block.beginQuiesce
  repeat' first
    | rw [Block.modPower_seen (Area.sub_trans (by decide) h)]
    | rw [Block.quietAll_seen (Area.sub_trans (by decide) h)]
    | rw [Block.allDown_seen (Area.sub_trans (by decide) h)]

theorem Block.cold_seen {b : Block} {x1 : Power} {x2 : ℕ} (h : Area.sub [.taps, .views, .stations, .lauter, .quads,
    .ctxs, .cask, .mash, .maps, .assay, .profiles, .sync, .freezes, .ports, .tenants, .quotas, .sparge, .rings, .hop,
    .meas, .power, .time, .recs, .held, .lo] M = true) :
    (Block.cold b x1 x2).seen M = b.seen M := by
  have m := Area.sub_iff.1 h
  simp [Block.seen, Area.see, Block.cold, m .taps, m .views, m .stations, m .lauter, m .quads, m .ctxs, m .cask, m
      .mash, m .maps, m .assay,
    m .profiles, m .sync, m .freezes, m .ports, m .tenants, m .quotas, m .sparge, m .rings, m .hop, m .meas, m
        .power, m .time, m .recs, m .held, m .lo]

theorem Block.patchDone_seen {b : Block} {x1 : ℕ} {x2 : List Byte} (h : Area.sub [.tenants, .meas, .power, .recs] M =
    true) :
    (Block.patchDone b x1 x2).seen M = b.seen M := by
  unfold Block.patchDone
  repeat' first
    | rw [Block.modPower_seen (Area.sub_trans (by decide) h)]
    | rw [Block.modMeas_seen (Area.sub_trans (by decide) h)]
    | rw [Block.firmwareEntry_seen (Area.sub_trans (by decide) h)]

theorem Block.lateQuote_seen {b : Block} (h : Area.sub [.meas, .free] M = true) :
    (Block.lateQuote b).seen M = b.seen M := by
  unfold Block.lateQuote
  repeat' first
    | with_reducible rfl
    | (with_reducible intro _)
    | exact Keeps.of (fun _ => rfl)
    | ((with_reducible refine Keeps.of ?_); intro x; first | rfl | (repeat' split) <;> rfl | (dsimp only; (repeat'
        split) <;> rfl))
    | with_reducible refine Block.seen_ite ?_ ?_
    | rw [Block.serveQuote_seen (Area.sub_trans (by decide) h)]
    | rw [Block.each_seen]
    | rw [Block.foldl_seen]
    | rw [Block.foldl_snd_seen]
    | dsimp only
    | split

theorem Block.reachRun_seen {b : Block} (h : Area.sub [.taps, .views, .stations, .cask, .sync, .ports, .tenants,
    .sparge, .rings, .hop, .meas, .power, .time, .held, .lo, .out, .free] M = true) :
    (Block.reachRun b).seen M = b.seen M := by
  unfold Block.reachRun
  repeat' first
    | exact Keeps.of (fun _ => rfl)
    | ((with_reducible refine Keeps.of ?_); intro x; first | rfl | (repeat' split) <;> rfl | (dsimp only; (repeat'
        split) <;> rfl))
    | with_reducible rfl
    | with_reducible assumption
    | (with_reducible intro (_ : Block))
    | (with_reducible intro _)
    | with_reducible refine Block.seen_ite ?_ ?_
    | (rw [Block.serveQuote_seen (Area.sub_trans (by decide) h)])
    | (rw [Block.completeHeld_seen (Area.sub_trans (by decide) h)])
    | (rw [Block.beginQuiesce_seen (Area.sub_trans (by decide) h)])
    | (rw [Block.modTime_seen (Area.sub_trans (by decide) h)])
    | (rw [Block.modPower_seen (Area.sub_trans (by decide) h)])
    | (rw [Block.regionCatchUp_seen (Area.sub_trans (by decide) h)])
    | (rw [Block.beginReset_seen (Area.sub_trans (by decide) h)])
    | (rw [Block.realign_seen (Area.sub_trans (by decide) h)])
    | (rw [Block.wakeStrobes_seen (Area.sub_trans (by decide) h)])
    | (rw [Block.each_seen])
    | rw [Block.beginWaiting_seen (Area.sub_trans (by decide) h)]
    | rw [Block.lateQuote_seen (Area.sub_trans (by decide) h)]
    | rw [Block.each_seen]
    | rw [Block.foldl_seen]
    | rw [Block.foldl_snd_seen]
    | dsimp only
    | split

theorem Block.touchOwners_seen {b : Block} {x1 : Call} {x2 : ℕ} {x3 : ℕ} (h : Area.sub [.tenants, .out] M = true) :
    (Block.touchOwners b x1 x2 x3).seen M = b.seen M := by
  unfold Block.touchOwners
  repeat' first
    | with_reducible rfl
    | with_reducible assumption
    | (with_reducible intro (_ : Block))
    | (with_reducible intro _)
    | with_reducible refine Block.seen_ite ?_ ?_
    | (rw [Block.cfgTouch_seen (Area.sub_trans (by decide) h)])

theorem Block.reallow_seen {b : Block} (h : Area.sub [.sparge] M = true) :
    (Block.reallow b).seen M = b.seen M := by
  unfold Block.reallow
  repeat' first
    | with_reducible rfl
    | (with_reducible intro _)
    | exact Keeps.of (fun _ => rfl)
    | ((with_reducible refine Keeps.of ?_); intro x; first | rfl | (repeat' split) <;> rfl | (dsimp only; (repeat'
        split) <;> rfl))
    | with_reducible refine Block.seen_ite ?_ ?_
    | rw [Block.modSparge_seen (Area.sub_trans (by decide) h)]
    | rw [Block.each_seen]
    | rw [Block.foldl_seen]
    | rw [Block.foldl_snd_seen]
    | dsimp only
    | split

theorem Block.setField_seen {b : Block} {x1 : Nat} {x2 : Nat} {x3 : Word} (h : Area.sub [.tenants, .quotas, .sparge]
    M = true) :
    (Block.setField b x1 x2 x3).seen M = b.seen M := by
  unfold Block.setField
  repeat' first
    | with_reducible rfl
    | (with_reducible intro _)
    | exact Keeps.of (fun _ => rfl)
    | ((with_reducible refine Keeps.of ?_); intro x; first | rfl | (repeat' split) <;> rfl | (dsimp only; (repeat'
        split) <;> rfl))
    | with_reducible refine Block.seen_ite ?_ ?_
    | rw [Block.raise_seen (Area.sub_trans (by decide) h)]
    | rw [Block.modTenant_seen_all (Area.sub_trans (by decide) h)]
    | rw [Block.quotaCut_seen (Area.sub_trans (by decide) h)]
    | rw [Block.reallow_seen (Area.sub_trans (by decide) h)]
    | rw [Block.each_seen]
    | rw [Block.foldl_seen]
    | rw [Block.foldl_snd_seen]
    | dsimp only
    | split

theorem Block.dropWindow_seen {b : Block} {x1 : Nat} (h : Area.sub [.mash] M = true) :
    (Block.dropWindow b x1).seen M = b.seen M := by
  unfold Block.dropWindow
  repeat' first
    | ((with_reducible refine Keeps.of ?_); intro x; first | rfl | (repeat' split) <;> rfl | (dsimp only; (repeat'
        split) <;> rfl))
    | with_reducible rfl
    | with_reducible assumption
    | (with_reducible intro (_ : Block))
    | (with_reducible intro _)
    | exact Keeps.of (fun _ => rfl)
    | with_reducible refine Block.seen_ite ?_ ?_
    | (rw [Block.cutSlot_seen (Area.sub_trans (by decide) h)])
    | (rw [Block.modSlot_seen (Area.sub_trans (by decide) h)])
    | (rw [Block.modMash_seen (Area.sub_trans (by decide) h)])
    | rw [Block.each_seen]
    | rw [Block.foldl_seen]
    | rw [Block.foldl_snd_seen]
    | dsimp only
    | split

theorem Block.retable_seen {b : Block} {f : Block → Block} (h : Area.sub [.mash] M = true)
    (hf : ∀ b, (f b).seen M = b.seen M) : (b.retable f).seen M = b.seen M := by
  unfold Block.retable
  rw [Block.resolveAll_seen (Area.sub_trans (by decide) h), hf, Block.cutAll_seen (Area.sub_trans (by decide) h)]

theorem Block.retrain_seen {b : Block} {x1 : Nat} (h : Area.sub [.taps, .views, .stations, .cask, .ports, .tenants,
    .sparge, .hop, .power, .time, .out] M = true) :
    (Block.retrain b x1).seen M = b.seen M := by
  unfold Block.retrain
  repeat' first
    | exact Keeps.of (fun _ => rfl)
    | ((with_reducible refine Keeps.of ?_); intro x; first | rfl | (repeat' split) <;> rfl | (dsimp only; (repeat'
        split) <;> rfl))
    | with_reducible rfl
    | with_reducible assumption
    | (with_reducible intro (_ : Block))
    | (with_reducible intro _)
    | with_reducible refine Block.seen_ite ?_ ?_
    | (rw [Block.train_seen (Area.sub_trans (by decide) h)])
    | (rw [Block.linkDown_seen (Area.sub_trans (by decide) h)])
    | (rw [Block.sendBye_seen (Area.sub_trans (by decide) h)])
    | rw [Block.startClose_seen (Area.sub_trans (by decide) h)]
    | rw [Block.each_seen]
    | rw [Block.foldl_seen]
    | rw [Block.foldl_snd_seen]
    | dsimp only
    | split

theorem Block.passTime_seen {b : Block} (h : Area.sub [.freezes, .tenants, .meas, .power, .time, .recs] M = true) :
    (Block.passTime b).seen M = b.seen M := by
  unfold Block.passTime
  repeat' first
    | with_reducible rfl
    | (with_reducible intro _)
    | exact Keeps.of (fun _ => rfl)
    | ((with_reducible refine Keeps.of ?_); intro x; first | rfl | (repeat' split) <;> rfl | (dsimp only; (repeat'
        split) <;> rfl))
    | with_reducible refine Block.seen_ite ?_ ?_
    | rw [Block.modTime_seen (Area.sub_trans (by decide) h)]
    | rw [Block.passCycles_seen (Area.sub_trans (by decide) h)]
    | rw [Block.buildLog_seen (Area.sub_trans (by decide) h)]
    | rw [Block.reachT_seen (Area.sub_trans (by decide) h)]
    | rw [Block.each_seen]
    | rw [Block.foldl_seen]
    | rw [Block.foldl_snd_seen]
    | dsimp only
    | split

theorem Block.settleHolds_seen {b : Block} (h : Area.sub [.ports, .tenants, .power, .out] M = true) :
    (Block.settleHolds b).seen M = b.seen M := by
  unfold Block.settleHolds
  repeat' first
    | (rw [Block.finishLongs_seen (Area.sub_trans (by decide) h)])

theorem Block.clearSlotRows_seen {b : Block} {x1 : Nat} {x2 : Nat} (h : Area.sub [.mash] M = true) :
    (Block.clearSlotRows b x1 x2).seen M = b.seen M := by
  unfold Block.clearSlotRows
  repeat' first
    | with_reducible rfl
    | (with_reducible intro _)
    | exact Keeps.of (fun _ => rfl)
    | ((with_reducible refine Keeps.of ?_); intro x; first | rfl | (repeat' split) <;> rfl | (dsimp only; (repeat'
        split) <;> rfl))
    | with_reducible refine Block.seen_ite ?_ ?_
    | rw [Block.dropSteps_seen (Area.sub_trans (by decide) h)]
    | rw [Block.clearRows_seen (Area.sub_trans (by decide) h)]
    | rw [Block.dropHeld_seen (Area.sub_trans (by decide) h)]
    | rw [Block.each_seen]
    | rw [Block.foldl_seen]
    | rw [Block.foldl_snd_seen]
    | dsimp only
    | split

theorem Block.latchTap_seen {b : Block} {x1 : Nat} {x2 : Nat} {x3 : Bool} {x4 : Nat} (h : Area.sub [.taps, .freezes]
    M = true) :
    (Block.latchTap b x1 x2 x3 x4).seen M = b.seen M := by
  unfold Block.latchTap
  repeat' first
    | with_reducible rfl
    | (with_reducible intro _)
    | exact Keeps.of (fun _ => rfl)
    | ((with_reducible refine Keeps.of ?_); intro x; first | rfl | (repeat' split) <;> rfl | (dsimp only; (repeat'
        split) <;> rfl))
    | with_reducible refine Block.seen_ite ?_ ?_
    | rw [Block.noLatch_seen (Area.sub_trans (by decide) h)]
    | rw [Block.modTap_seen (Area.sub_trans (by decide) h)]
    | rw [Block.each_seen]
    | rw [Block.foldl_seen]
    | rw [Block.foldl_snd_seen]
    | dsimp only
    | split

theorem Block.closeEnd_seen {b : Block} {x1 : Nat} (h : Area.sub [.taps, .views, .stations, .cask, .ports, .tenants,
    .sparge, .hop, .power, .time, .out] M = true) :
    (Block.closeEnd b x1).seen M = b.seen M := by
  unfold Block.closeEnd
  repeat' first
    | with_reducible rfl
    | (with_reducible intro _)
    | exact Keeps.of (fun _ => rfl)
    | ((with_reducible refine Keeps.of ?_); intro x; first | rfl | (repeat' split) <;> rfl | (dsimp only; (repeat'
        split) <;> rfl))
    | with_reducible refine Block.seen_ite ?_ ?_
    | rw [Block.sendBye_seen (Area.sub_trans (by decide) h)]
    | rw [Block.linkDown_seen (Area.sub_trans (by decide) h)]
    | rw [Block.train_seen (Area.sub_trans (by decide) h)]
    | rw [Block.each_seen]
    | rw [Block.foldl_seen]
    | rw [Block.foldl_snd_seen]
    | dsimp only
    | split

theorem Block.grantAll_seen {b : Block} (h : Area.sub [.cask, .ports, .tenants, .sparge, .hop, .power, .out] M =
    true) :
    (Block.grantAll b).seen M = b.seen M := by
  unfold Block.grantAll
  repeat' first
    | with_reducible rfl
    | (with_reducible intro _)
    | exact Keeps.of (fun _ => rfl)
    | ((with_reducible refine Keeps.of ?_); intro x; first | rfl | (repeat' split) <;> rfl | (dsimp only; (repeat'
        split) <;> rfl))
    | with_reducible refine Block.seen_ite ?_ ?_
    | rw [Block.sendGrant_seen (Area.sub_trans (by decide) h)]
    | rw [Block.settleDrains_seen (Area.sub_trans (by decide) h)]
    | rw [grantSlots_seen (Area.sub_trans (by decide) h)]
    | rw [Block.modHop_seen (Area.sub_trans (by decide) h)]
    | rw [Block.each_seen]
    | rw [Block.foldl_seen]
    | rw [Block.foldl_snd_seen]
    | dsimp only
    | split

theorem Block.lateData_seen {b : Block} {x1 : Nat} (h : Area.sub [.tenants, .hop, .power] M = true) :
    (Block.lateData b x1).seen M = b.seen M := by
  unfold Block.lateData
  repeat' first
    | with_reducible rfl
    | (with_reducible intro _)
    | exact Keeps.of (fun _ => rfl)
    | ((with_reducible refine Keeps.of ?_); intro x; first | rfl | (repeat' split) <;> rfl | (dsimp only; (repeat'
        split) <;> rfl))
    | with_reducible refine Block.seen_ite ?_ ?_
    | rw [Block.loss_seen (Area.sub_trans (by decide) h)]
    | rw [Block.modHopPort_seen (Area.sub_trans (by decide) h)]
    | rw [Block.each_seen]
    | rw [Block.foldl_seen]
    | rw [Block.foldl_snd_seen]
    | dsimp only
    | split

theorem Block.tokenTo_seen {b : Block} {x1 : Nat} (h : Area.sub [.mash] M = true) :
    (Block.tokenTo b x1).seen M = b.seen M := by
  unfold Block.tokenTo
  repeat' first
    | with_reducible rfl
    | (with_reducible intro _)
    | exact Keeps.of (fun _ => rfl)
    | ((with_reducible refine Keeps.of ?_); intro x; first | rfl | (repeat' split) <;> rfl | (dsimp only; (repeat'
        split) <;> rfl))
    | with_reducible refine Block.seen_ite ?_ ?_
    | rw [Block.closeOverlong_seen (Area.sub_trans (by decide) h)]
    | rw [Block.finishClose_seen (Area.sub_trans (by decide) h)]
    | rw [Block.modSlot_seen (Area.sub_trans (by decide) h)]
    | rw [Block.each_seen]
    | rw [Block.foldl_seen]
    | rw [Block.foldl_snd_seen]
    | dsimp only
    | split

theorem Block.issueHeld_seen {b : Block} {x1 : List (Gt × Step)} {x2 : Nat} {x3 : Seg} (h : Area.sub [.mash] M =
    true) :
    (Block.issueHeld b x1 x2 x3).2.seen M = b.seen M := by
  unfold Block.issueHeld
  repeat' first
    | with_reducible rfl
    | (with_reducible intro _)
    | exact Keeps.of (fun _ => rfl)
    | ((with_reducible refine Keeps.of ?_); intro x; first | rfl | (repeat' split) <;> rfl | (dsimp only; (repeat'
        split) <;> rfl))
    | with_reducible refine Block.seen_ite ?_ ?_
    | rw [Block.putSeg_seen (Area.sub_trans (by decide) h)]
    | rw [Block.each_seen]
    | rw [Block.foldl_seen]
    | rw [Block.foldl_snd_seen]
    | dsimp only
    | split

theorem Block.patrolPass_seen {b : Block} (h : Area.sub [.cask] M = true) :
    (Block.patrolPass b).seen M = b.seen M := by
  unfold Block.patrolPass
  repeat' first
    | with_reducible rfl
    | (with_reducible intro _)
    | exact Keeps.of (fun _ => rfl)
    | ((with_reducible refine Keeps.of ?_); intro x; first | rfl | (repeat' split) <;> rfl | (dsimp only; (repeat'
        split) <;> rfl))
    | with_reducible refine Block.seen_ite ?_ ?_
    | rw [Block.modCask_seen (Area.sub_trans (by decide) h)]
    | rw [Block.each_seen]
    | rw [Block.foldl_seen]
    | rw [Block.foldl_snd_seen]
    | dsimp only
    | split

theorem Block.askSelf_seen {b : Block} {x1 : Nat} {x2 : Nat} (h : Area.sub [.sparge, .hop] M = true) :
    (Block.askSelf b x1 x2).seen M = b.seen M := by
  unfold Block.askSelf
  repeat' first
    | with_reducible rfl
    | (with_reducible intro _)
    | exact Keeps.of (fun _ => rfl)
    | ((with_reducible refine Keeps.of ?_); intro x; first | rfl | (repeat' split) <;> rfl | (dsimp only; (repeat'
        split) <;> rfl))
    | with_reducible refine Block.seen_ite ?_ ?_
    | rw [Block.modChan_seen (Area.sub_trans (by decide) h)]
    | rw [Block.modHop_seen (Area.sub_trans (by decide) h)]
    | rw [Block.each_seen]
    | rw [Block.foldl_seen]
    | rw [Block.foldl_snd_seen]
    | dsimp only
    | split

theorem Block.beatEnd_seen {b : Block} {x1 : Nat} {x2 : Nat} (h : Area.sub [.sparge] M = true) :
    (Block.beatEnd b x1 x2).seen M = b.seen M := by
  unfold Block.beatEnd
  repeat' first
    | with_reducible rfl
    | (with_reducible intro _)
    | exact Keeps.of (fun _ => rfl)
    | ((with_reducible refine Keeps.of ?_); intro x; first | rfl | (repeat' split) <;> rfl | (dsimp only; (repeat'
        split) <;> rfl))
    | with_reducible refine Block.seen_ite ?_ ?_
    | rw [Block.complete_seen (Area.sub_trans (by decide) h)]
    | rw [Block.modChan_seen (Area.sub_trans (by decide) h)]
    | rw [Block.each_seen]
    | rw [Block.foldl_seen]
    | rw [Block.foldl_snd_seen]
    | dsimp only
    | split

theorem Block.hopAccepted_seen {b : Block} {x1 : Nat} (h : Area.sub [.cask, .ports, .tenants, .sparge, .hop, .power,
    .out] M = true) :
    (Block.hopAccepted b x1).seen M = b.seen M := by
  unfold Block.hopAccepted
  repeat' first
    | with_reducible rfl
    | (with_reducible intro _)
    | exact Keeps.of (fun _ => rfl)
    | ((with_reducible refine Keeps.of ?_); intro x; first | rfl | (repeat' split) <;> rfl | (dsimp only; (repeat'
        split) <;> rfl))
    | with_reducible refine Block.seen_ite ?_ ?_
    | rw [Block.hopDone_seen (Area.sub_trans (by decide) h)]
    | rw [Block.hopPush_seen (Area.sub_trans (by decide) h)]
    | rw [Block.modChan_seen (Area.sub_trans (by decide) h)]
    | rw [Block.each_seen]
    | rw [Block.foldl_seen]
    | rw [Block.foldl_snd_seen]
    | dsimp only
    | split

theorem Block.passTap_seen {b : Block} {x1 : Nat} {x2 : Nat} (h : Area.sub [.taps, .tenants, .power] M = true) :
    (Block.passTap b x1 x2).seen M = b.seen M := by
  unfold Block.passTap
  repeat' first
    | with_reducible rfl
    | (with_reducible intro _)
    | exact Keeps.of (fun _ => rfl)
    | ((with_reducible refine Keeps.of ?_); intro x; first | rfl | (repeat' split) <;> rfl | (dsimp only; (repeat'
        split) <;> rfl))
    | with_reducible refine Block.seen_ite ?_ ?_
    | rw [Block.clockMark_seen (Area.sub_trans (by decide) h)]
    | rw [Block.modTap_seen (Area.sub_trans (by decide) h)]
    | rw [Block.each_seen]
    | rw [Block.foldl_seen]
    | rw [Block.foldl_snd_seen]
    | dsimp only
    | split

theorem Block.leaveSlot_seen {b : Block} {x1 : Nat} {x2 : Nat} (h : Area.sub [.mash, .maps] M = true) :
    (Block.leaveSlot b x1 x2).seen M = b.seen M := by
  unfold Block.leaveSlot
  repeat' first
    | with_reducible rfl
    | (with_reducible intro _)
    | exact Keeps.of (fun _ => rfl)
    | ((with_reducible refine Keeps.of ?_); intro x; first | rfl | (repeat' split) <;> rfl | (dsimp only; (repeat'
        split) <;> rfl))
    | with_reducible refine Block.seen_ite ?_ ?_
    | rw [Block.modMash_seen_all (Area.sub_trans (by decide) h)]
    | rw [Block.each_seen]
    | rw [Block.foldl_seen]
    | rw [Block.foldl_snd_seen]
    | dsimp only
    | split

theorem Block.lateFix_seen {b : Block} (h : Area.sub [.freezes] M = true) :
    (Block.lateFix b).seen M = b.seen M := by
  unfold Block.lateFix
  repeat' first
    | with_reducible rfl
    | (with_reducible intro _)
    | exact Keeps.of (fun _ => rfl)
    | ((with_reducible refine Keeps.of ?_); intro x; first | rfl | (repeat' split) <;> rfl | (dsimp only; (repeat'
        split) <;> rfl))
    | with_reducible refine Block.seen_ite ?_ ?_
    | rw [Block.modFreeze_seen (Area.sub_trans (by decide) h)]
    | rw [Block.each_seen]
    | rw [Block.foldl_seen]
    | rw [Block.foldl_snd_seen]
    | dsimp only
    | split

theorem Block.placeFz_seen {b : Block} {x1 : Nat} {x2 : Nat} {x3 : Nat} {x4 : List Byte} (h : Area.sub [.quads,
    .freezes, .tenants, .power] M = true) :
    (Block.placeFz b x1 x2 x3 x4).seen M = b.seen M := by
  unfold Block.placeFz
  repeat' first
    | with_reducible rfl
    | (with_reducible intro _)
    | exact Keeps.of (fun _ => rfl)
    | ((with_reducible refine Keeps.of ?_); intro x; first | rfl | (repeat' split) <;> rfl | (dsimp only; (repeat'
        split) <;> rfl))
    | with_reducible refine Block.seen_ite ?_ ?_
    | rw [Block.offerRec_seen (Area.sub_trans (by decide) h)]
    | rw [Block.modFreeze_seen (Area.sub_trans (by decide) h)]
    | rw [Block.each_seen]
    | rw [Block.foldl_seen]
    | rw [Block.foldl_snd_seen]
    | dsimp only
    | split

theorem Block.deadlineWake_seen {b : Block} {x1 : Nat} (h : Area.sub [.power] M = true) :
    (Block.deadlineWake b x1).seen M = b.seen M := by
  unfold Block.deadlineWake
  repeat' first
    | with_reducible rfl
    | (with_reducible intro _)
    | exact Keeps.of (fun _ => rfl)
    | ((with_reducible refine Keeps.of ?_); intro x; first | rfl | (repeat' split) <;> rfl | (dsimp only; (repeat'
        split) <;> rfl))
    | with_reducible refine Block.seen_ite ?_ ?_
    | rw [Block.requestWake_seen (Area.sub_trans (by decide) h)]
    | rw [Block.each_seen]
    | rw [Block.foldl_seen]
    | rw [Block.foldl_snd_seen]
    | dsimp only
    | split

theorem Block.newSpeed_seen {b : Block} (h : Area.sub [.power, .time] M = true) :
    (Block.newSpeed b).seen M = b.seen M := by
  unfold Block.newSpeed
  repeat' first
    | with_reducible rfl
    | (with_reducible intro _)
    | exact Keeps.of (fun _ => rfl)
    | ((with_reducible refine Keeps.of ?_); intro x; first | rfl | (repeat' split) <;> rfl | (dsimp only; (repeat'
        split) <;> rfl))
    | with_reducible refine Block.seen_ite ?_ ?_
    | rw [Block.modPower_seen (Area.sub_trans (by decide) h)]
    | rw [Block.modTime_seen (Area.sub_trans (by decide) h)]
    | rw [Block.each_seen]
    | rw [Block.foldl_seen]
    | rw [Block.foldl_snd_seen]
    | dsimp only
    | split

theorem Block.irqRaise_seen {b : Block} (h : Area.sub [.tenants, .power] M = true) :
    (Block.irqRaise b).seen M = b.seen M := by
  unfold Block.irqRaise
  repeat' first
    | with_reducible rfl
    | (with_reducible intro _)
    | exact Keeps.of (fun _ => rfl)
    | ((with_reducible refine Keeps.of ?_); intro x; first | rfl | (repeat' split) <;> rfl | (dsimp only; (repeat'
        split) <;> rfl))
    | with_reducible refine Block.seen_ite ?_ ?_
    | rw [Block.presentIrq_seen (Area.sub_trans (by decide) h)]
    | rw [Block.gainTokens_seen (Area.sub_trans (by decide) h)]
    | rw [Block.sendNext_seen (Area.sub_trans (by decide) h)]
    | rw [Block.each_seen]
    | rw [Block.foldl_seen]
    | rw [Block.foldl_snd_seen]
    | dsimp only
    | split

theorem Block.exPresent_seen {b : Block} {x1 : Nat} {x2 : Nat} (h : Area.sub [.sparge] M = true) :
    (Block.exPresent b x1 x2).seen M = b.seen M := by
  unfold Block.exPresent
  repeat' first
    | with_reducible rfl
    | (with_reducible intro _)
    | exact Keeps.of (fun _ => rfl)
    | ((with_reducible refine Keeps.of ?_); intro x; first | rfl | (repeat' split) <;> rfl | (dsimp only; (repeat'
        split) <;> rfl))
    | with_reducible refine Block.seen_ite ?_ ?_
    | rw [Block.modSparge_seen (Area.sub_trans (by decide) h)]
    | rw [Block.each_seen]
    | rw [Block.foldl_seen]
    | rw [Block.foldl_snd_seen]
    | dsimp only
    | split

theorem Block.exRaise_seen {b : Block} (h : Area.sub [.sparge] M = true) :
    (Block.exRaise b).seen M = b.seen M := by
  unfold Block.exRaise
  repeat' first
    | with_reducible rfl
    | (with_reducible intro _)
    | exact Keeps.of (fun _ => rfl)
    | ((with_reducible refine Keeps.of ?_); intro x; first | rfl | (repeat' split) <;> rfl | (dsimp only; (repeat'
        split) <;> rfl))
    | with_reducible refine Block.seen_ite ?_ ?_
    | rw [Block.exPresent_seen (Area.sub_trans (by decide) h)]
    | rw [Block.modSparge_seen (Area.sub_trans (by decide) h)]
    | rw [Block.each_seen]
    | rw [Block.foldl_seen]
    | rw [Block.foldl_snd_seen]
    | dsimp only
    | split

theorem Block.exAccepted_seen {b : Block} {x1 : Nat} {x2 : Nat} (h : Area.sub [.cask, .ports, .tenants, .sparge,
    .hop, .power, .out] M = true) :
    (Block.exAccepted b x1 x2).seen M = b.seen M := by
  unfold Block.exAccepted
  repeat' first
    | with_reducible rfl
    | (with_reducible intro _)
    | exact Keeps.of (fun _ => rfl)
    | ((with_reducible refine Keeps.of ?_); intro x; first | rfl | (repeat' split) <;> rfl | (dsimp only; (repeat'
        split) <;> rfl))
    | with_reducible refine Block.seen_ite ?_ ?_
    | rw [Block.pageMoved_seen (Area.sub_trans (by decide) h)]
    | rw [Block.pump_seen (Area.sub_trans (by decide) h)]
    | rw [Block.modChan_seen (Area.sub_trans (by decide) h)]
    | rw [Block.modHop_seen (Area.sub_trans (by decide) h)]
    | rw [Block.modSparge_seen (Area.sub_trans (by decide) h)]
    | rw [Block.each_seen]
    | rw [Block.foldl_seen]
    | rw [Block.foldl_snd_seen]
    | dsimp only
    | split

theorem Block.shutDown_seen {b : Block} (h : Area.sub [.taps, .views, .stations, .cask, .ports, .tenants, .sparge,
    .hop, .power, .time, .out] M = true) :
    (Block.shutDown b).seen M = b.seen M := by
  unfold Block.shutDown
  repeat' first
    | with_reducible rfl
    | (with_reducible intro _)
    | exact Keeps.of (fun _ => rfl)
    | ((with_reducible refine Keeps.of ?_); intro x; first | rfl | (repeat' split) <;> rfl | (dsimp only; (repeat'
        split) <;> rfl))
    | with_reducible refine Block.seen_ite ?_ ?_
    | rw [Block.stopChan_seen (Area.sub_trans (by decide) h)]
    | rw [Block.allDown_seen (Area.sub_trans (by decide) h)]
    | rw [Block.modPower_seen (Area.sub_trans (by decide) h)]
    | rw [Block.each_seen]
    | rw [Block.foldl_seen]
    | rw [Block.foldl_snd_seen]
    | dsimp only
    | split

theorem Block.offStep_seen {b : Block} (h : Area.sub [.taps, .views, .stations, .lauter, .quads, .ctxs, .cask,
    .mash, .maps, .assay, .profiles, .sync, .freezes, .ports, .tenants, .quotas, .sparge, .rings, .hop, .meas,
        .power, .time, .recs, .held, .lo] M = true) :
    (Block.offStep b).seen M = b.seen M := by
  unfold Block.offStep
  repeat' first
    | with_reducible rfl
    | (with_reducible intro _)
    | exact Keeps.of (fun _ => rfl)
    | ((with_reducible refine Keeps.of ?_); intro x; first | rfl | (repeat' split) <;> rfl | (dsimp only; (repeat'
        split) <;> rfl))
    | with_reducible refine Block.seen_ite ?_ ?_
    | rw [Block.cold_seen (Area.sub_trans (by decide) h)]
    | rw [Block.each_seen]
    | rw [Block.foldl_seen]
    | rw [Block.foldl_snd_seen]
    | dsimp only
    | split

theorem Block.passToChange_seen {b : Block} {x1 : Nat} {x2 : Nat} {x3 : Nat} (h : Area.sub [.taps, .tenants, .power]
    M = true) :
    (Block.passToChange b x1 x2 x3).seen M = b.seen M := by
  unfold Block.passToChange
  repeat' first
    | with_reducible rfl
    | (with_reducible intro _)
    | exact Keeps.of (fun _ => rfl)
    | ((with_reducible refine Keeps.of ?_); intro x; first | rfl | (repeat' split) <;> rfl | (dsimp only; (repeat'
        split) <;> rfl))
    | with_reducible refine Block.seen_ite ?_ ?_
    | rw [Block.passTap_seen (Area.sub_trans (by decide) h)]
    | rw [Block.modTap_seen (Area.sub_trans (by decide) h)]
    | rw [Block.each_seen]
    | rw [Block.foldl_seen]
    | rw [Block.foldl_snd_seen]
    | dsimp only
    | split

end Sys2Proof.Machine
end

