-- ==== Sys2Proof/Laws/FrameCmds.lean ====
section
/-! SUPPORT. The frame of every entry of the command catalogue, and of a packet that carries it out. -/

namespace Sys2Proof.Machine
variable {M : List Area}



/-! ### Packets -/

theorem Block.carryOut_seen {b : Block} {cat : Nat → Option Cmd} {f : Nat} {k : PoolPkt}
    (h : Area.sub [.tenants, .power] M = true)
    (hc : ∀ e, cat k.opcode = some e → ∀ c b, (e.body c b).2.seen M = b.seen M) :
    (b.carryOut cat f k).2.seen M = b.seen M := by
  unfold Block.carryOut
  split
  · rfl
  · split
    · rfl
    · split
      · rfl
      · split
        · rfl
        · rename_i e he
          dsimp only
          split
          · rfl
          · split
            · rfl
            · split
              · exact hc e he _ _
              · exact Block.violation_seen h

theorem Block.takePacket_seen {b : Block} {cat : Nat → Option Cmd} {f op : Nat}
    (h : Area.sub [.ports, .tenants, .power, .out] M = true)
    (hq : ∀ k rest, (b.port f).queue = k :: rest → k.opcode = op)
    (hc : ∀ e, cat op = some e → ∀ c b, (e.body c b).2.seen M = b.seen M) :
    (b.takePacket cat f).seen M = b.seen M := by
  unfold Block.takePacket
  split
  · rfl
  · rename_i k rest hk
    have g := Block.carryOut_seen (b := (b.modPort f (fun p => { p with queue := rest })).modPower
      (·.served f b.gt)) (cat := cat) (f := f) (k := k)
      (Area.sub_trans (by decide) h) (by rw [hq k rest hk]; exact hc)
    rw [Block.modPower_seen (Area.sub_trans (by decide) h), Block.modPort_seen (Area.sub_trans (by decide) h)] at g
    dsimp only
    split
    · rename_i e
      rw [e] at g
      rw [Block.respond_seen (Area.sub_trans (by decide) h)]
      exact g
    · rename_i e
      rw [e] at g
      rw [Block.modPower_seen (Area.sub_trans (by decide) h), Block.modPort_seen (Area.sub_trans (by decide) h)]
      exact g

/-- A packet changes the command ports, the owners, the power state, the outputs, and what its own command changes. -/
theorem Block.submit_seen {b : Block} {cat : Nat → Option Cmd} {op f : Nat} {p : Pkt}
    (h : Area.sub packetAreas M = true)
    (hc : ∀ e, cat op = some e → ∀ c b, (e.body c b).2.seen M = b.seen M) :
    (b.submit cat op f p).seen M = b.seen M := by
  unfold Block.submit
  dsimp only
  split
  · rfl
  · split
    · rw [Block.modPort_seen (Area.sub_trans (by decide) h)]
    · split
      · rw [Block.requestWake_seen (Area.sub_trans (by decide) h), Block.modPort_seen (Area.sub_trans (by decide) h),
          Block.unlatch_seen (Area.sub_trans (by decide) h)]
      · split
        · rename_i hl
          rw [Block.takePacket_seen (op := op) (Area.sub_trans (by decide) h) _ hc,
            Block.modPort_seen (Area.sub_trans (by decide) h), Block.unlatch_seen (Area.sub_trans (by decide) h)]
          intro k rest hk
          simp only [Block.port_modPort, Block.port_unlatch, Bool.and_eq_true, decide_eq_true_eq, List.length_append, List.length_cons,
            List.length_nil] at hl hk
          have : (b.port f).queue = [] := List.eq_nil_of_length_eq_zero (by omega)
          rw [this] at hk
          cases hk
          rfl
        · rw [Block.modPort_seen (Area.sub_trans (by decide) h), Block.unlatch_seen (Area.sub_trans (by decide) h)]

theorem cmdAgentMapWrite_seen {c : Call} {b : Block} (h : Area.sub [.mash, .maps] M = true) :
    (cmdAgentMapWrite.body c b).2.seen M = b.seen M := by
  unfold cmdAgentMapWrite
  dsimp only
  repeat' first
    | (with_reducible intro _)
    | rw [Block.modMash_seen_all (Area.sub_trans (by decide) h)]
    | rw [Block.retable_seen (Area.sub_trans (by decide) h)]
    | rw [Block.each_seen]
    | rw [Block.foldl_seen]
    | rw [Block.foldl_snd_seen]
    | (dsimp only [ok, okW, fails])

theorem cmdAgentWrite_seen {c : Call} {b : Block} (h : Area.sub [.mash, .maps, .tenants, .out] M = true) :
    (cmdAgentWrite.body c b).2.seen M = b.seen M := by
  unfold cmdAgentWrite
  dsimp only
  repeat' first
    | with_reducible rfl
    | exact Keeps.of (fun _ => rfl)
    | ((with_reducible refine Keeps.of ?_); intro x; first | rfl | (repeat' split) <;> rfl | (dsimp only; (repeat'
        split) <;> rfl))
    | (with_reducible intro _)
    | with_reducible refine Block.seen_ite ?_ ?_
    | rw [Block.touchOwners_seen (Area.sub_trans (by decide) h)]
    | rw [Block.clearRows_seen (Area.sub_trans (by decide) h)]
    | rw [Block.modMash_seen_all (Area.sub_trans (by decide) h)]
    | rw [Block.retable_seen (Area.sub_trans (by decide) h)]
    | rw [Block.each_seen]
    | rw [Block.foldl_seen]
    | rw [Block.foldl_snd_seen]
    | (dsimp only [ok, okW, fails])
    | dsimp only
    | split

theorem cmdAsyBind_seen {c : Call} {b : Block} (h : Area.sub [.taps, .stations, .quads, .assay, .profiles, .tenants, .meas, .power] M = true) :
    (cmdAsyBind.body c b).2.seen M = b.seen M := by
  unfold cmdAsyBind
  dsimp only
  repeat' first
    | rw [Block.rebind_seen (Area.sub_trans (by decide) h)]
    | rw [Block.abortImage_seen (Area.sub_trans (by decide) h)]
    | rw [Block.each_seen]
    | rw [Block.foldl_seen]
    | rw [Block.foldl_snd_seen]
    | (dsimp only [ok, okW, fails])
    | split

theorem cmdAsyFlush_seen {c : Call} {b : Block} (h : Area.sub [.stations, .quads, .assay, .tenants, .power] M = true)
    :
    (cmdAsyFlush.body c b).2.seen M = b.seen M := by
  unfold cmdAsyFlush
  dsimp only
  repeat' first
    | (with_reducible intro _)
    | rw [Block.closeTensor_seen (Area.sub_trans (by decide) h)]
    | rw [Block.each_seen]
    | rw [Block.foldl_seen]
    | rw [Block.foldl_snd_seen]
    | (dsimp only [ok, okW, fails])

theorem cmdAsyRead_seen {c : Call} {b : Block} (h : Area.sub [.assay] M = true) :
    (cmdAsyRead.body c b).2.seen M = b.seen M := by
  unfold cmdAsyRead
  dsimp only
  repeat' first
    | with_reducible refine Block.seen_ite ?_ ?_
    | rw [Block.modUnit_seen (Area.sub_trans (by decide) h)]
    | rw [Block.each_seen]
    | rw [Block.foldl_seen]
    | rw [Block.foldl_snd_seen]
    | (dsimp only [ok, okW, fails])

theorem cmdAsyUnit_seen {c : Call} {b : Block} (h : Area.sub [.stations, .quads, .assay, .tenants, .power, .out] M =
    true) :
    (cmdAsyUnit.body c b).2.seen M = b.seen M := by
  unfold cmdAsyUnit
  dsimp only
  repeat' first
    | rw [Block.touchOwners_seen (Area.sub_trans (by decide) h)]
    | rw [Block.modUnit_seen (Area.sub_trans (by decide) h)]
    | rw [Block.closeUnitTensors_seen (Area.sub_trans (by decide) h)]
    | rw [Block.each_seen]
    | rw [Block.foldl_seen]
    | rw [Block.foldl_snd_seen]
    | (dsimp only [ok, okW, fails])
    | split

theorem cmdCaskDrain_seen {c : Call} {b : Block} (h : Area.sub [] M = true) :
    (cmdCaskDrain.body c b).2.seen M = b.seen M := by
  unfold cmdCaskDrain
  dsimp only
  repeat' first
    | with_reducible rfl
    | (with_reducible intro _)
    | exact Keeps.of (fun _ => rfl)
    | ((with_reducible refine Keeps.of ?_); intro x; first | rfl | (repeat' split) <;> rfl | (dsimp only; (repeat'
        split) <;> rfl))
    | with_reducible refine Block.seen_ite ?_ ?_
    | rw [Block.each_seen]
    | rw [Block.foldl_seen]
    | rw [Block.foldl_snd_seen]
    | (dsimp only [ok, okW, fails])
    | split
    | dsimp only

theorem cmdCaskFenceRead_seen {c : Call} {b : Block} (h : Area.sub [] M = true) :
    (cmdCaskFenceRead.body c b).2.seen M = b.seen M := by
  unfold cmdCaskFenceRead
  dsimp only
  repeat' first
    | rw [Block.each_seen]
    | rw [Block.foldl_seen]
    | rw [Block.foldl_snd_seen]
    | (dsimp only [ok, okW, fails])

theorem cmdCaskMacro_seen {c : Call} {b : Block} (h : Area.sub [.cask] M = true) :
    (cmdCaskMacro.body c b).2.seen M = b.seen M := by
  unfold cmdCaskMacro
  dsimp only
  repeat' first
    | with_reducible refine Block.seen_ite ?_ ?_
    | rw [Block.modCask_seen (Area.sub_trans (by decide) h)]
    | rw [Block.each_seen]
    | rw [Block.foldl_seen]
    | rw [Block.foldl_snd_seen]
    | (dsimp only [ok, okW, fails])

theorem cmdCaskMode_seen {c : Call} {b : Block} (h : Area.sub [.cask, .tenants] M = true) :
    (cmdCaskMode.body c b).2.seen M = b.seen M := by
  unfold cmdCaskMode
  dsimp only
  repeat' first
    | exact Keeps.of (fun _ => rfl)
    | rw [Block.setMode_seen (Area.sub_trans (by decide) h)]
    | rw [Block.modTenant_seen (Area.sub_trans (by decide) h)]
    | rw [Block.each_seen]
    | rw [Block.foldl_seen]
    | rw [Block.foldl_snd_seen]
    | (dsimp only [ok, okW, fails])

theorem cmdCaskPatrol_seen {c : Call} {b : Block} (h : Area.sub [.cask] M = true) :
    (cmdCaskPatrol.body c b).2.seen M = b.seen M := by
  unfold cmdCaskPatrol
  dsimp only
  repeat' first
    | rw [Block.modCask_seen (Area.sub_trans (by decide) h)]
    | rw [Block.each_seen]
    | rw [Block.foldl_seen]
    | rw [Block.foldl_snd_seen]
    | (dsimp only [ok, okW, fails])

theorem cmdCaskPool_seen {c : Call} {b : Block} (h : Area.sub [.cask] M = true) :
    (cmdCaskPool.body c b).2.seen M = b.seen M := by
  unfold cmdCaskPool
  dsimp only
  repeat' first
    | with_reducible refine Block.seen_ite ?_ ?_
    | rw [Block.modCask_seen (Area.sub_trans (by decide) h)]
    | rw [Block.each_seen]
    | rw [Block.foldl_seen]
    | rw [Block.foldl_snd_seen]
    | (dsimp only [ok, okW, fails])

theorem cmdCaskRelease_seen {c : Call} {b : Block} (h : Area.sub [.cask, .tenants] M = true) :
    (cmdCaskRelease.body c b).2.seen M = b.seen M := by
  unfold cmdCaskRelease
  dsimp only
  repeat' first
    | rw [Block.holdEnd_seen (Area.sub_trans (by decide) h)]
    | rw [Block.each_seen]
    | rw [Block.foldl_seen]
    | rw [Block.foldl_snd_seen]
    | (dsimp only [ok, okW, fails])

theorem cmdCaskStatus_seen {c : Call} {b : Block} (h : Area.sub [.tenants] M = true) :
    (cmdCaskStatus.body c b).2.seen M = b.seen M := by
  unfold cmdCaskStatus
  dsimp only
  repeat' first
    | exact Keeps.of (fun _ => rfl)
    | with_reducible refine Block.seen_ite ?_ ?_
    | rw [Block.modTenant_seen (Area.sub_trans (by decide) h)]
    | rw [Block.each_seen]
    | rw [Block.foldl_seen]
    | rw [Block.foldl_snd_seen]
    | (dsimp only [ok, okW, fails])

theorem cmdCmpWrite_seen {c : Call} {b : Block} (h : Area.sub [.stations] M = true) :
    (cmdCmpWrite.body c b).2.seen M = b.seen M := by
  unfold cmdCmpWrite
  dsimp only
  repeat' first
    | with_reducible rfl
    | (with_reducible intro _)
    | exact Keeps.of (fun _ => rfl)
    | ((with_reducible refine Keeps.of ?_); intro x; first | rfl | (repeat' split) <;> rfl | (dsimp only; (repeat'
        split) <;> rfl))
    | with_reducible refine Block.seen_ite ?_ ?_
    | rw [Block.modSeq_seen (Area.sub_trans (by decide) h)]
    | rw [Block.each_seen]
    | rw [Block.foldl_seen]
    | rw [Block.foldl_snd_seen]
    | (dsimp only [ok, okW, fails])
    | dsimp only
    | split

theorem cmdCntRead_seen {c : Call} {b : Block} (h : Area.sub [] M = true) :
    (cmdCntRead.body c b).2.seen M = b.seen M := by
  unfold cmdCntRead
  dsimp only
  repeat' first
    | rw [Block.each_seen]
    | rw [Block.foldl_seen]
    | rw [Block.foldl_snd_seen]
    | (dsimp only [ok, okW, fails])
    | split

theorem cmdCntSample_seen {c : Call} {b : Block} (h : Area.sub [] M = true) :
    (cmdCntSample.body c b).2.seen M = b.seen M := by
  unfold cmdCntSample
  dsimp only
  repeat' first
    | rw [Block.each_seen]
    | rw [Block.foldl_seen]
    | rw [Block.foldl_snd_seen]
    | (dsimp only [ok, okW, fails])
    | split

theorem cmdCntView_seen {c : Call} {b : Block} (h : Area.sub [.tenants] M = true) :
    (cmdCntView.body c b).2.seen M = b.seen M := by
  unfold cmdCntView
  dsimp only
  repeat' first
    | exact Keeps.of (fun _ => rfl)
    | rw [Block.modTenant_seen (Area.sub_trans (by decide) h)]
    | rw [Block.each_seen]
    | rw [Block.foldl_seen]
    | rw [Block.foldl_snd_seen]
    | (dsimp only [ok, okW, fails])
    | split

theorem cmdCntWrite_seen {c : Call} {b : Block} (h : Area.sub [.taps, .views, .tenants, .out] M = true) :
    (cmdCntWrite.body c b).2.seen M = b.seen M := by
  unfold cmdCntWrite
  dsimp only
  repeat' first
    | with_reducible rfl
    | (with_reducible intro _)
    | exact Keeps.of (fun _ => rfl)
    | ((with_reducible refine Keeps.of ?_); intro x; first | rfl | (repeat' split) <;> rfl | (dsimp only; (repeat'
        split) <;> rfl))
    | with_reducible refine Block.seen_ite ?_ ?_
    | rw [Block.modTap_seen (Area.sub_trans (by decide) h)]
    | rw [Block.touchOwners_seen (Area.sub_trans (by decide) h)]
    | rw [Block.modView_seen (Area.sub_trans (by decide) h)]
    | rw [Block.each_seen]
    | rw [Block.foldl_seen]
    | rw [Block.foldl_snd_seen]
    | (dsimp only [ok, okW, fails])
    | split
    | dsimp only

theorem cmdCtxRead_seen {c : Call} {b : Block} (h : Area.sub [] M = true) :
    (cmdCtxRead.body c b).2.seen M = b.seen M := by
  unfold cmdCtxRead
  dsimp only
  repeat' first
    | rw [Block.each_seen]
    | rw [Block.foldl_seen]
    | rw [Block.foldl_snd_seen]
    | (dsimp only [ok, okW, fails])

theorem cmdCtxWrite_seen {c : Call} {b : Block} (h : Area.sub [.ctxs, .tenants, .out] M = true) :
    (cmdCtxWrite.body c b).2.seen M = b.seen M :=
  (Block.touchOwners_seen (Area.sub_trans (by decide) h)).trans (Block.set_ctxs_seen (Area.sub_trans (by decide) h))

theorem cmdDiagMark_seen {c : Call} {b : Block} (h : Area.sub [.recs] M = true) :
    (cmdDiagMark.body c b).2.seen M = b.seen M := by
  unfold cmdDiagMark
  dsimp only
  repeat' first
    | rw [Block.queueRec_seen (Area.sub_trans (by decide) h)]
    | rw [Block.each_seen]
    | rw [Block.foldl_seen]
    | rw [Block.foldl_snd_seen]
    | (dsimp only [ok, okW, fails])

theorem cmdEcho_seen {c : Call} {b : Block} (h : Area.sub [] M = true) :
    (cmdEcho.body c b).2.seen M = b.seen M := by
  unfold cmdEcho
  dsimp only
  repeat' first
    | rw [Block.each_seen]
    | rw [Block.foldl_seen]
    | rw [Block.foldl_snd_seen]
    | (dsimp only [ok, okW, fails])

theorem cmdFabricStatus_seen {c : Call} {b : Block} (h : Area.sub [] M = true) :
    (cmdFabricStatus.body c b).2.seen M = b.seen M := by
  unfold cmdFabricStatus
  dsimp only
  repeat' first
    | rw [Block.each_seen]
    | rw [Block.foldl_seen]
    | rw [Block.foldl_snd_seen]
    | (dsimp only [ok, okW, fails])

theorem cmdFaultRead_seen {c : Call} {b : Block} (h : Area.sub [] M = true) :
    (cmdFaultRead.body c b).2.seen M = b.seen M := by
  unfold cmdFaultRead
  dsimp only
  repeat' first
    | rw [Block.each_seen]
    | rw [Block.foldl_seen]
    | rw [Block.foldl_snd_seen]
    | (dsimp only [ok, okW, fails])

theorem cmdFreeze_seen {c : Call} {b : Block} (h : Area.sub [.freezes, .hop] M = true) :
    (cmdFreeze.body c b).2.seen M = b.seen M := by
  unfold cmdFreeze
  dsimp only
  repeat' first
    | with_reducible rfl
    | (with_reducible intro _)
    | exact Keeps.of (fun _ => rfl)
    | ((with_reducible refine Keeps.of ?_); intro x; first | rfl | (repeat' split) <;> rfl | (dsimp only; (repeat'
        split) <;> rfl))
    | with_reducible refine Block.seen_ite ?_ ?_
    | (refine ((Block.takeFreeze_seen (Area.sub_trans (by decide) h) (by assumption)).trans ?_))
    | (refine ((Block.takeFreeze_seen' (Area.sub_trans (by decide) h) (by assumption)).trans ?_))
    | rw [Block.noteSeen_seen (Area.sub_trans (by decide) h)]
    | rw [Block.sendAll_seen (Area.sub_trans (by decide) h)]
    | rw [Block.takeFreeze_seen (Area.sub_trans (by decide) h)]
    | rw [Block.each_seen]
    | rw [Block.foldl_seen]
    | rw [Block.foldl_snd_seen]
    | (dsimp only [ok, okW, fails])
    | split
    | dsimp only

theorem cmdFreezeCancel_seen {c : Call} {b : Block} (h : Area.sub [.freezes] M = true) :
    (cmdFreezeCancel.body c b).2.seen M = b.seen M := by
  unfold cmdFreezeCancel
  dsimp only
  repeat' first
    | with_reducible rfl
    | (with_reducible intro _)
    | exact Keeps.of (fun _ => rfl)
    | ((with_reducible refine Keeps.of ?_); intro x; first | rfl | (repeat' split) <;> rfl | (dsimp only; (repeat'
        split) <;> rfl))
    | with_reducible refine Block.seen_ite ?_ ?_
    | rw [Block.modFreeze_seen (Area.sub_trans (by decide) h)]
    | rw [Block.each_seen]
    | rw [Block.foldl_seen]
    | rw [Block.foldl_snd_seen]
    | (dsimp only [ok, okW, fails])
    | split
    | dsimp only

theorem cmdFreezeSet_seen {c : Call} {b : Block} (h : Area.sub [.freezes] M = true) :
    (cmdFreezeSet.body c b).2.seen M = b.seen M :=
  Block.set_freezeLimitUs_seen h

theorem cmdFreezeStatus_seen {c : Call} {b : Block} (h : Area.sub [] M = true) :
    (cmdFreezeStatus.body c b).2.seen M = b.seen M := by
  unfold cmdFreezeStatus
  dsimp only
  repeat' first
    | with_reducible rfl
    | (with_reducible intro _)
    | exact Keeps.of (fun _ => rfl)
    | ((with_reducible refine Keeps.of ?_); intro x; first | rfl | (repeat' split) <;> rfl | (dsimp only; (repeat'
        split) <;> rfl))
    | with_reducible refine Block.seen_ite ?_ ?_
    | rw [Block.each_seen]
    | rw [Block.foldl_seen]
    | rw [Block.foldl_snd_seen]
    | (dsimp only [ok, okW, fails])
    | split
    | dsimp only

theorem cmdIdentify_seen {c : Call} {b : Block} (h : Area.sub [] M = true) :
    (cmdIdentify.body c b).2.seen M = b.seen M := by
  unfold cmdIdentify
  dsimp only
  repeat' first
    | rw [Block.each_seen]
    | rw [Block.foldl_seen]
    | rw [Block.foldl_snd_seen]
    | (dsimp only [ok, okW, fails])

theorem cmdKeyRotate_seen {c : Call} {b : Block} (h : Area.sub [.hop, .out] M = true) :
    (cmdKeyRotate.body c b).2.seen M = b.seen M := by
  unfold cmdKeyRotate
  dsimp only
  repeat' first
    | rw [Block.startRotate_seen (Area.sub_trans (by decide) h)]
    | rw [Block.each_seen]
    | rw [Block.foldl_seen]
    | rw [Block.foldl_snd_seen]
    | (dsimp only [ok, okW, fails])
    | split

theorem cmdKnotWalk_seen {c : Call} {b : Block} (h : Area.sub [.sync, .power] M = true) :
    (cmdKnotWalk.body c b).2.seen M = b.seen M := by
  unfold cmdKnotWalk
  dsimp only
  repeat' first
    | (rw [Block.startWalk_seen (Area.sub_trans (by decide) h)])

theorem cmdLauterDefault_seen {c : Call} {b : Block} (h : Area.sub [.stations, .lauter] M = true) :
    (cmdLauterDefault.body c b).2.seen M = b.seen M := by
  unfold cmdLauterDefault
  dsimp only
  repeat' first
    | rw [Block.modStation_seen_all (Area.sub_trans (by decide) h)]
    | rw [Block.each_seen]
    | rw [Block.foldl_seen]
    | rw [Block.foldl_snd_seen]
    | (dsimp only [ok, okW, fails])

theorem cmdLauterRead_seen {c : Call} {b : Block} (h : Area.sub [] M = true) :
    (cmdLauterRead.body c b).2.seen M = b.seen M := by
  unfold cmdLauterRead
  dsimp only
  repeat' first
    | rw [Block.each_seen]
    | rw [Block.foldl_seen]
    | rw [Block.foldl_snd_seen]
    | (dsimp only [ok, okW, fails])

theorem cmdLauterWrite_seen {c : Call} {b : Block} (h : Area.sub [.stations, .lauter, .tenants, .out] M = true) :
    (cmdLauterWrite.body c b).2.seen M = b.seen M := by
  unfold cmdLauterWrite
  dsimp only
  repeat' first
    | with_reducible rfl
    | (with_reducible intro _)
    | exact Keeps.of (fun _ => rfl)
    | ((with_reducible refine Keeps.of ?_); intro x; first | rfl | (repeat' split) <;> rfl | (dsimp only; (repeat'
        split) <;> rfl))
    | with_reducible refine Block.seen_ite ?_ ?_
    | rw [Block.modStation_seen_all (Area.sub_trans (by decide) h)]
    | rw [Block.touchOwners_seen (Area.sub_trans (by decide) h)]
    | rw [Block.each_seen]
    | rw [Block.foldl_seen]
    | rw [Block.foldl_snd_seen]
    | (dsimp only [ok, okW, fails])
    | dsimp only
    | split

theorem cmdLinkControl_seen {c : Call} {b : Block} (h : Area.sub [.taps, .views, .stations, .cask, .ports, .tenants, .sparge, .hop, .power, .time, .out] M = true) :
    (cmdLinkControl.body c b).2.seen M = b.seen M := by
  unfold cmdLinkControl
  dsimp only
  repeat' first
    | rw [Block.modHopPort_seen (Area.sub_trans (by decide) h)]
    | rw [Block.adminSet_seen (Area.sub_trans (by decide) h)]
    | rw [Block.retrain_seen (Area.sub_trans (by decide) h)]
    | rw [Block.each_seen]
    | rw [Block.foldl_seen]
    | rw [Block.foldl_snd_seen]
    | (dsimp only [ok, okW, fails])
    | split

theorem cmdLinkStatus_seen {c : Call} {b : Block} (h : Area.sub [.hop] M = true) :
    (cmdLinkStatus.body c b).2.seen M = b.seen M := by
  unfold cmdLinkStatus
  dsimp only
  repeat' first
    | with_reducible refine Block.seen_ite ?_ ?_
    | rw [Block.modHopPort_seen (Area.sub_trans (by decide) h)]
    | rw [Block.each_seen]
    | rw [Block.foldl_seen]
    | rw [Block.foldl_snd_seen]
    | (dsimp only [ok, okW, fails])

theorem cmdLoopStatus_seen {c : Call} {b : Block} (h : Area.sub [] M = true) :
    (cmdLoopStatus.body c b).2.seen M = b.seen M := by
  unfold cmdLoopStatus
  dsimp only
  repeat' first
    | rw [Block.each_seen]
    | rw [Block.foldl_seen]
    | rw [Block.foldl_snd_seen]
    | (dsimp only [ok, okW, fails])

theorem cmdLoopWrite_seen {c : Call} {b : Block} (h : Area.sub [.mash, .maps, .tenants, .out] M = true) :
    (cmdLoopWrite.body c b).2.seen M = b.seen M := by
  unfold cmdLoopWrite
  dsimp only
  repeat' first
    | with_reducible rfl
    | exact Keeps.of (fun _ => rfl)
    | ((with_reducible refine Keeps.of ?_); intro x; first | rfl | (repeat' split) <;> rfl | (dsimp only; (repeat'
        split) <;> rfl))
    | (with_reducible intro _)
    | with_reducible refine Block.seen_ite ?_ ?_
    | rw [Block.touchOwners_seen (Area.sub_trans (by decide) h)]
    | rw [Block.dropWindow_seen (Area.sub_trans (by decide) h)]
    | rw [Block.resetSlot_seen (Area.sub_trans (by decide) h)]
    | rw [Block.modSlot_seen (Area.sub_trans (by decide) h)]
    | rw [Block.retable_seen (Area.sub_trans (by decide) h)]
    | rw [Block.clearSlotRows_seen (Area.sub_trans (by decide) h)]
    | rw [Block.leaveSlot_seen (Area.sub_trans (by decide) h)]
    | rw [Block.each_seen]
    | rw [Block.foldl_seen]
    | rw [Block.foldl_snd_seen]
    | (dsimp only [ok, okW, fails])
    | dsimp only
    | split

theorem cmdMashRead_seen {c : Call} {b : Block} (h : Area.sub [] M = true) :
    (cmdMashRead.body c b).2.seen M = b.seen M := by
  unfold cmdMashRead
  dsimp only
  repeat' first
    | rw [Block.each_seen]
    | rw [Block.foldl_seen]
    | rw [Block.foldl_snd_seen]
    | (dsimp only [ok, okW, fails])

theorem cmdMeasRead_seen {c : Call} {b : Block} (h : Area.sub [] M = true) :
    (cmdMeasRead.body c b).2.seen M = b.seen M := by
  unfold cmdMeasRead
  dsimp only
  repeat' first
    | rw [Block.each_seen]
    | rw [Block.foldl_seen]
    | rw [Block.foldl_snd_seen]
    | (dsimp only [ok, okW, fails])
    | split

theorem cmdMeasStatus_seen {c : Call} {b : Block} (h : Area.sub [] M = true) :
    (cmdMeasStatus.body c b).2.seen M = b.seen M := by
  unfold cmdMeasStatus
  dsimp only
  repeat' first
    | rw [Block.each_seen]
    | rw [Block.foldl_seen]
    | rw [Block.foldl_snd_seen]
    | (dsimp only [ok, okW, fails])

theorem cmdNegotiate_seen {c : Call} {b : Block} (h : Area.sub [.ports] M = true) :
    (cmdNegotiate.body c b).2.seen M = b.seen M := by
  unfold cmdNegotiate
  dsimp only
  repeat' first
    | rw [Block.modPort_seen (Area.sub_trans (by decide) h)]
    | rw [Block.each_seen]
    | rw [Block.foldl_seen]
    | rw [Block.foldl_snd_seen]
    | (dsimp only [ok, okW, fails])
    | split

theorem cmdNop_seen {c : Call} {b : Block} (h : Area.sub [] M = true) :
    (cmdNop.body c b).2.seen M = b.seen M := by
  unfold cmdNop
  dsimp only
  repeat' first
    | rw [Block.each_seen]
    | rw [Block.foldl_seen]
    | rw [Block.foldl_snd_seen]
    | (dsimp only [ok, okW, fails])

theorem cmdPatchDigest_seen {c : Call} {b : Block} (h : Area.sub [] M = true) :
    (cmdPatchDigest.body c b).2.seen M = b.seen M := by
  unfold cmdPatchDigest
  dsimp only
  repeat' first
    | rw [Block.each_seen]
    | rw [Block.foldl_seen]
    | rw [Block.foldl_snd_seen]
    | (dsimp only [ok, okW, fails])

theorem cmdPortAlpha_seen {c : Call} {b : Block} (h : Area.sub [.hop] M = true) :
    (cmdPortAlpha.body c b).2.seen M = b.seen M := by
  unfold cmdPortAlpha
  dsimp only
  repeat' first
    | rw [Block.modHopPort_seen (Area.sub_trans (by decide) h)]
    | rw [Block.each_seen]
    | rw [Block.foldl_seen]
    | rw [Block.foldl_snd_seen]
    | (dsimp only [ok, okW, fails])

theorem cmdPortCounters_seen {c : Call} {b : Block} (h : Area.sub [.ports] M = true) :
    (cmdPortCounters.body c b).2.seen M = b.seen M := by
  unfold cmdPortCounters
  dsimp only
  repeat' first
    | with_reducible refine Block.seen_ite ?_ ?_
    | rw [Block.modPort_seen (Area.sub_trans (by decide) h)]
    | rw [Block.each_seen]
    | rw [Block.foldl_seen]
    | rw [Block.foldl_snd_seen]
    | (dsimp only [ok, okW, fails])

theorem cmdPowerHold_seen {c : Call} {b : Block} (h : Area.sub [.tenants, .power] M = true) :
    (cmdPowerHold.body c b).2.seen M = b.seen M := by
  unfold cmdPowerHold
  dsimp only
  repeat' first
    | exact Keeps.of (fun _ => rfl)
    | rw [Block.modTenant_seen (Area.sub_trans (by decide) h)]
    | rw [Block.requestWake_seen (Area.sub_trans (by decide) h)]
    | rw [Block.each_seen]
    | rw [Block.foldl_seen]
    | rw [Block.foldl_snd_seen]
    | (dsimp only [ok, okW, fails])
    | split

theorem cmdPowerPolicy_seen {c : Call} {b : Block} (h : Area.sub [.power] M = true) :
    (cmdPowerPolicy.body c b).2.seen M = b.seen M := by
  unfold cmdPowerPolicy
  dsimp only
  repeat' first
    | rw [Block.modPower_seen (Area.sub_trans (by decide) h)]
    | rw [Block.each_seen]
    | rw [Block.foldl_seen]
    | rw [Block.foldl_snd_seen]
    | (dsimp only [ok, okW, fails])

theorem cmdPowerStatus_seen {c : Call} {b : Block} (h : Area.sub [.free] M = true) :
    (cmdPowerStatus.body c b).2.seen M = b.seen M := by
  unfold cmdPowerStatus
  dsimp only
  repeat' first
    | rw [Block.takeFree_seen (Area.sub_trans (by decide) h)]
    | (refine ((Block.takeFree_seen' (Area.sub_trans (by decide) h) (by assumption)).trans ?_))
    | rw [Block.each_seen]
    | rw [Block.foldl_seen]
    | rw [Block.foldl_snd_seen]
    | (dsimp only [ok, okW, fails])

theorem cmdProfileWrite_seen {c : Call} {b : Block} (h : Area.sub [.assay, .profiles, .tenants, .out] M = true) :
    (cmdProfileWrite.body c b).2.seen M = b.seen M := by
  unfold cmdProfileWrite
  dsimp only
  repeat' first
    | with_reducible rfl
    | (with_reducible intro _)
    | exact Keeps.of (fun _ => rfl)
    | ((with_reducible refine Keeps.of ?_); intro x; first | rfl | (repeat' split) <;> rfl | (dsimp only; (repeat'
        split) <;> rfl))
    | with_reducible refine Block.seen_ite ?_ ?_
    | rw [Block.modAssay_seen_all (Area.sub_trans (by decide) h)]
    | rw [Block.touchOwners_seen (Area.sub_trans (by decide) h)]
    | rw [Block.clearRefs_seen (Area.sub_trans (by decide) h)]
    | rw [Block.each_seen]
    | rw [Block.foldl_seen]
    | rw [Block.foldl_snd_seen]
    | (dsimp only [ok, okW, fails])
    | dsimp only
    | split

theorem cmdReasonMapWrite_seen {c : Call} {b : Block} (h : Area.sub [.mash, .maps] M = true) :
    (cmdReasonMapWrite.body c b).2.seen M = b.seen M := by
  unfold cmdReasonMapWrite
  dsimp only
  repeat' first
    | (with_reducible intro _)
    | rw [Block.modMash_seen_all (Area.sub_trans (by decide) h)]
    | rw [Block.retable_seen (Area.sub_trans (by decide) h)]
    | rw [Block.each_seen]
    | rw [Block.foldl_seen]
    | rw [Block.foldl_snd_seen]
    | (dsimp only [ok, okW, fails])

theorem cmdRediscover_seen {c : Call} {b : Block} (h : Area.sub [.taps, .views, .stations, .cask, .ports, .tenants,
    .hop, .power, .time, .out] M = true) :
    (cmdRediscover.body c b).2.seen M = b.seen M := by
  unfold cmdRediscover
  dsimp only
  repeat' first
    | rw [Block.startDiscovery_seen (Area.sub_trans (by decide) h)]
    | rw [Block.each_seen]
    | rw [Block.foldl_seen]
    | rw [Block.foldl_snd_seen]
    | (dsimp only [ok, okW, fails])
    | split

theorem cmdRefWrite_seen {c : Call} {b : Block} (h : Area.sub [.assay, .profiles] M = true) :
    (cmdRefWrite.body c b).2.seen M = b.seen M := by
  unfold cmdRefWrite
  dsimp only
  repeat' first
    | rw [Block.modAssay_seen_all (Area.sub_trans (by decide) h)]
    | rw [Block.each_seen]
    | rw [Block.foldl_seen]
    | rw [Block.foldl_snd_seen]
    | (dsimp only [ok, okW, fails])

theorem cmdRouteRead_seen {c : Call} {b : Block} (h : Area.sub [] M = true) :
    (cmdRouteRead.body c b).2.seen M = b.seen M := by
  unfold cmdRouteRead
  dsimp only
  repeat' first
    | rw [Block.each_seen]
    | rw [Block.foldl_seen]
    | rw [Block.foldl_snd_seen]
    | (dsimp only [ok, okW, fails])

theorem cmdScrubAbort_seen {c : Call} {b : Block} (h : Area.sub [.taps, .views, .stations, .cask, .ports, .tenants,
    .sparge, .hop, .power, .out] M = true) :
    (cmdScrubAbort.body c b).2.seen M = b.seen M := by
  unfold cmdScrubAbort
  dsimp only
  repeat' first
    | with_reducible rfl
    | (with_reducible intro _)
    | ((with_reducible refine Keeps.of ?_); intro x; first | rfl | (repeat' split) <;> rfl | (dsimp only; (repeat'
        split) <;> rfl))
    | with_reducible refine Block.seen_ite ?_ ?_
    | exact Keeps.of (fun _ => rfl)
    | rw [Block.modSparge_seen (Area.sub_trans (by decide) h)]
    | rw [Block.scrubCheck_seen (Area.sub_trans (by decide) h)]
    | rw [Block.each_seen]
    | rw [Block.foldl_seen]
    | rw [Block.foldl_snd_seen]
    | (dsimp only [ok, okW, fails])
    | split
    | dsimp only

theorem cmdSeqControl_seen {c : Call} {b : Block} (h : Area.sub [.stations, .cask, .tenants] M = true) :
    (cmdSeqControl.body c b).2.seen M = b.seen M := by
  unfold cmdSeqControl
  dsimp only
  repeat' first
    | rw [Block.seqLeft_seen (Area.sub_trans (by decide) h)]
    | rw [Block.modSeq_seen (Area.sub_trans (by decide) h)]
    | rw [Block.each_seen]
    | rw [Block.foldl_seen]
    | rw [Block.foldl_snd_seen]
    | (dsimp only [ok, okW, fails])
    | split

theorem cmdSeqOwner_seen {c : Call} {b : Block} (h : Area.sub [.stations, .cask, .tenants, .out] M = true) :
    (cmdSeqOwner.body c b).2.seen M = b.seen M := by
  unfold cmdSeqOwner
  dsimp only
  repeat' first
    | with_reducible refine Block.seen_ite ?_ ?_
    | rw [Block.touchOwners_seen (Area.sub_trans (by decide) h)]
    | rw [Block.seqOff_seen (Area.sub_trans (by decide) h)]
    | rw [Block.modSeq_seen (Area.sub_trans (by decide) h)]
    | rw [Block.each_seen]
    | rw [Block.foldl_seen]
    | rw [Block.foldl_snd_seen]
    | (dsimp only [ok, okW, fails])

theorem cmdSeqRearm_seen {c : Call} {b : Block} (h : Area.sub [.stations, .cask, .tenants] M = true) :
    (cmdSeqRearm.body c b).2.seen M = b.seen M := by
  unfold cmdSeqRearm
  dsimp only
  repeat' first
    | with_reducible refine Block.seen_ite ?_ ?_
    | rw [Block.rearm_seen (Area.sub_trans (by decide) h)]
    | rw [Block.each_seen]
    | rw [Block.foldl_seen]
    | rw [Block.foldl_snd_seen]
    | (dsimp only [ok, okW, fails])

theorem cmdSeqStatus_seen {c : Call} {b : Block} (h : Area.sub [.stations] M = true) :
    (cmdSeqStatus.body c b).2.seen M = b.seen M := by
  unfold cmdSeqStatus
  dsimp only
  repeat' first
    | with_reducible refine Block.seen_ite ?_ ?_
    | rw [Block.modSeq_seen (Area.sub_trans (by decide) h)]
    | rw [Block.each_seen]
    | rw [Block.foldl_seen]
    | rw [Block.foldl_snd_seen]
    | (dsimp only [ok, okW, fails])

theorem cmdSessionSet_seen {c : Call} {b : Block} (h : Area.sub [.ports] M = true) :
    (cmdSessionSet.body c b).2.seen M = b.seen M := by
  unfold cmdSessionSet
  dsimp only
  repeat' first
    | rw [Block.modPort_seen (Area.sub_trans (by decide) h)]
    | rw [Block.each_seen]
    | rw [Block.foldl_seen]
    | rw [Block.foldl_snd_seen]
    | (dsimp only [ok, okW, fails])

theorem cmdSnapshot_seen {c : Call} {b : Block} (h : Area.sub [.sync, .freezes, .power] M = true) :
    (cmdSnapshot.body c b).2.seen M = b.seen M := by
  unfold cmdSnapshot
  dsimp only
  repeat' first
    | rw [Block.startSnap_seen (Area.sub_trans (by decide) h)]
    | rw [Block.each_seen]
    | rw [Block.foldl_seen]
    | rw [Block.foldl_snd_seen]
    | (dsimp only [ok, okW, fails])
    | split

theorem cmdSpargeBind_seen {c : Call} {b : Block} (h : Area.sub [.ports, .tenants, .sparge, .power, .out] M = true) :
    (cmdSpargeBind.body c b).2.seen M = b.seen M := by
  unfold cmdSpargeBind
  dsimp only
  repeat' first
    | with_reducible rfl
    | (with_reducible intro _)
    | ((with_reducible refine Keeps.of ?_); intro x; first | rfl | (repeat' split) <;> rfl | (dsimp only; (repeat'
        split) <;> rfl))
    | with_reducible refine Block.seen_ite ?_ ?_
    | exact Keeps.of (fun _ => rfl)
    | rw [Block.touchOwners_seen (Area.sub_trans (by decide) h)]
    | rw [Block.partialDrains_seen (Area.sub_trans (by decide) h)]
    | rw [Block.modChan_seen (Area.sub_trans (by decide) h)]
    | rw [Block.settleDrains_seen (Area.sub_trans (by decide) h)]
    | rw [Block.each_seen]
    | rw [Block.foldl_seen]
    | rw [Block.foldl_snd_seen]
    | (dsimp only [ok, okW, fails])
    | split
    | dsimp only

theorem cmdSpargeResume_seen {c : Call} {b : Block} (h : Area.sub [.sparge] M = true) :
    (cmdSpargeResume.body c b).2.seen M = b.seen M := by
  unfold cmdSpargeResume
  dsimp only
  repeat' first
    | exact Keeps.of (fun _ => rfl)
    | rw [Block.modChan_seen (Area.sub_trans (by decide) h)]
    | rw [Block.each_seen]
    | rw [Block.foldl_seen]
    | rw [Block.foldl_snd_seen]
    | (dsimp only [ok, okW, fails])
    | split

theorem cmdSpargeStatus_seen {c : Call} {b : Block} (h : Area.sub [.sparge] M = true) :
    (cmdSpargeStatus.body c b).2.seen M = b.seen M := by
  unfold cmdSpargeStatus
  dsimp only
  repeat' first
    | exact Keeps.of (fun _ => rfl)
    | with_reducible refine Block.seen_ite ?_ ?_
    | rw [Block.modChan_seen (Area.sub_trans (by decide) h)]
    | rw [Block.each_seen]
    | rw [Block.foldl_seen]
    | rw [Block.foldl_snd_seen]
    | (dsimp only [ok, okW, fails])

theorem cmdStationCounters_seen {c : Call} {b : Block} (h : Area.sub [.stations] M = true) :
    (cmdStationCounters.body c b).2.seen M = b.seen M := by
  unfold cmdStationCounters
  dsimp only
  repeat' first
    | exact Keeps.of (fun _ => rfl)
    | with_reducible refine Block.seen_ite ?_ ?_
    | rw [Block.modStation_seen (Area.sub_trans (by decide) h)]
    | rw [Block.each_seen]
    | rw [Block.foldl_seen]
    | rw [Block.foldl_snd_seen]
    | (dsimp only [ok, okW, fails])

theorem cmdStreamFormat_seen {c : Call} {b : Block} (h : Area.sub [.taps, .views, .stations, .cask, .tenants, .power]
    M = true) :
    (cmdStreamFormat.body c b).2.seen M = b.seen M := by
  unfold cmdStreamFormat
  dsimp only
  repeat' first
    | rw [Block.setFormat_seen (Area.sub_trans (by decide) h)]
    | rw [Block.each_seen]
    | rw [Block.foldl_seen]
    | rw [Block.foldl_snd_seen]
    | (dsimp only [ok, okW, fails])

theorem cmdSyncCounters_seen {c : Call} {b : Block} (h : Area.sub [.sync] M = true) :
    (cmdSyncCounters.body c b).2.seen M = b.seen M := by
  unfold cmdSyncCounters
  dsimp only
  repeat' first
    | with_reducible refine Block.seen_ite ?_ ?_
    | rw [Block.modSync_seen (Area.sub_trans (by decide) h)]
    | rw [Block.each_seen]
    | rw [Block.foldl_seen]
    | rw [Block.foldl_snd_seen]
    | (dsimp only [ok, okW, fails])

theorem cmdSyncDeclare_seen {c : Call} {b : Block} (h : Area.sub [.sync] M = true) :
    (cmdSyncDeclare.body c b).2.seen M = b.seen M := by
  unfold cmdSyncDeclare
  dsimp only
  repeat' first
    | rw [Block.modObj_seen (Area.sub_trans (by decide) h)]
    | rw [Block.each_seen]
    | rw [Block.foldl_seen]
    | rw [Block.foldl_snd_seen]
    | (dsimp only [ok, okW, fails])

theorem cmdSyncRead_seen {c : Call} {b : Block} (h : Area.sub [] M = true) :
    (cmdSyncRead.body c b).2.seen M = b.seen M := by
  unfold cmdSyncRead
  dsimp only
  repeat' first
    | rw [Block.each_seen]
    | rw [Block.foldl_seen]
    | rw [Block.foldl_snd_seen]
    | (dsimp only [ok, okW, fails])

theorem cmdSyncSet_seen {c : Call} {b : Block} (h : Area.sub [.sync] M = true) :
    (cmdSyncSet.body c b).2.seen M = b.seen M := by
  unfold cmdSyncSet
  dsimp only
  repeat' first
    | with_reducible rfl
    | (with_reducible intro _)
    | exact Keeps.of (fun _ => rfl)
    | ((with_reducible refine Keeps.of ?_); intro x; first | rfl | (repeat' split) <;> rfl | (dsimp only; (repeat'
        split) <;> rfl))
    | with_reducible refine Block.seen_ite ?_ ?_
    | rw [Block.modSync_seen (Area.sub_trans (by decide) h)]
    | rw [Block.armNoprog_seen (Area.sub_trans (by decide) h)]
    | rw [Block.each_seen]
    | rw [Block.foldl_seen]
    | rw [Block.foldl_snd_seen]
    | (dsimp only [ok, okW, fails])
    | dsimp only
    | split

theorem cmdTapSet_seen {c : Call} {b : Block} (h : Area.sub [.taps, .views] M = true) :
    (cmdTapSet.body c b).2.seen M = b.seen M := by
  unfold cmdTapSet
  dsimp only
  repeat' first
    | rw [Block.modTap_seen (Area.sub_trans (by decide) h)]
    | rw [Block.modView_seen (Area.sub_trans (by decide) h)]
    | rw [Block.each_seen]
    | rw [Block.foldl_seen]
    | rw [Block.foldl_snd_seen]
    | (dsimp only [ok, okW, fails])
    | split

theorem cmdTapStatus_seen {c : Call} {b : Block} (h : Area.sub [.taps] M = true) :
    (cmdTapStatus.body c b).2.seen M = b.seen M := by
  unfold cmdTapStatus
  dsimp only
  repeat' first
    | rw [Block.modTap_seen (Area.sub_trans (by decide) h)]
    | rw [Block.each_seen]
    | rw [Block.foldl_seen]
    | rw [Block.foldl_snd_seen]
    | (dsimp only [ok, okW, fails])
    | split

theorem cmdTapWaitRead_seen {c : Call} {b : Block} (h : Area.sub [] M = true) :
    (cmdTapWaitRead.body c b).2.seen M = b.seen M := by
  unfold cmdTapWaitRead
  dsimp only
  repeat' first
    | rw [Block.each_seen]
    | rw [Block.foldl_seen]
    | rw [Block.foldl_snd_seen]
    | (dsimp only [ok, okW, fails])

theorem cmdTcalRead_seen {c : Call} {b : Block} (h : Area.sub [] M = true) :
    (cmdTcalRead.body c b).2.seen M = b.seen M := by
  unfold cmdTcalRead
  dsimp only
  repeat' first
    | rw [Block.each_seen]
    | rw [Block.foldl_seen]
    | rw [Block.foldl_snd_seen]
    | (dsimp only [ok, okW, fails])

theorem cmdTenantGet_seen {c : Call} {b : Block} (h : Area.sub [] M = true) :
    (cmdTenantGet.body c b).2.seen M = b.seen M := by
  unfold cmdTenantGet
  dsimp only
  repeat' first
    | rw [Block.each_seen]
    | rw [Block.foldl_seen]
    | rw [Block.foldl_snd_seen]
    | (dsimp only [ok, okW, fails])

theorem cmdTenantReset_seen {c : Call} {b : Block} (h : Area.sub [.cask, .ports, .tenants, .sparge, .hop, .power,
    .out] M =
    true) :
    (cmdTenantReset.body c b).2.seen M = b.seen M := by
  unfold cmdTenantReset
  dsimp only
  repeat' first
    | with_reducible rfl
    | (with_reducible intro _)
    | exact Keeps.of (fun _ => rfl)
    | ((with_reducible refine Keeps.of ?_); intro x; first | rfl | (repeat' split) <;> rfl | (dsimp only; (repeat'
        split) <;> rfl))
    | with_reducible refine Block.seen_ite ?_ ?_
    | (rw [Block.beginReset_seen (Area.sub_trans (by decide) h)])
    | rw [Block.each_seen]
    | rw [Block.foldl_seen]
    | rw [Block.foldl_snd_seen]
    | dsimp only
    | split

theorem cmdTenantSet_seen {c : Call} {b : Block} (h : Area.sub [.tenants, .quotas, .sparge, .out] M = true) :
    (cmdTenantSet.body c b).2.seen M = b.seen M := by
  unfold cmdTenantSet
  dsimp only
  repeat' first
    | rw [Block.setField_seen (Area.sub_trans (by decide) h)]
    | rw [Block.cfgTouch_seen (Area.sub_trans (by decide) h)]
    | rw [Block.each_seen]
    | rw [Block.foldl_seen]
    | rw [Block.foldl_snd_seen]
    | (dsimp only [ok, okW, fails])
    | split

theorem cmdTimeSet_seen {c : Call} {b : Block} (h : Area.sub [.taps, .views, .stations, .quads, .cask, .mash, .sync,
    .tenants, .power, .time] M = true) :
    (cmdTimeSet.body c b).2.seen M = b.seen M := by
  unfold cmdTimeSet
  dsimp only
  repeat' first
    | with_reducible rfl
    | (with_reducible intro _)
    | exact Keeps.of (fun _ => rfl)
    | ((with_reducible refine Keeps.of ?_); intro x; first | rfl | (repeat' split) <;> rfl | (dsimp only; (repeat'
        split) <;> rfl))
    | with_reducible refine Block.seen_ite ?_ ?_
    | rw [Block.stepTo_seen (Area.sub_trans (by decide) h)]
    | rw [Block.modTime_seen (Area.sub_trans (by decide) h)]
    | rw [Block.each_seen]
    | rw [Block.foldl_seen]
    | rw [Block.foldl_snd_seen]
    | (dsimp only [ok, okW, fails])
    | dsimp only
    | split

theorem cmdTimeStatus_seen {c : Call} {b : Block} (h : Area.sub [] M = true) :
    (cmdTimeStatus.body c b).2.seen M = b.seen M := by
  unfold cmdTimeStatus
  dsimp only
  repeat' first
    | rw [Block.each_seen]
    | rw [Block.foldl_seen]
    | rw [Block.foldl_snd_seen]
    | (dsimp only [ok, okW, fails])

theorem cmdTsyncNow_seen {c : Call} {b : Block} (h : Area.sub [.hop] M = true) :
    (cmdTsyncNow.body c b).2.seen M = b.seen M := by
  unfold cmdTsyncNow
  dsimp only
  repeat' first
    | rw [Block.tsyncCall_seen (Area.sub_trans (by decide) h)]
    | rw [Block.each_seen]
    | rw [Block.foldl_seen]
    | rw [Block.foldl_snd_seen]
    | (dsimp only [ok, okW, fails])
    | split

theorem cmdViolations_seen {c : Call} {b : Block} (h : Area.sub [.tenants, .power] M = true) :
    (cmdViolations.body c b).2.seen M = b.seen M := by
  unfold cmdViolations
  dsimp only
  repeat' first
    | exact Keeps.of (fun _ => rfl)
    | rw [Block.modPower_seen (Area.sub_trans (by decide) h)]
    | rw [Block.modTenant_seen (Area.sub_trans (by decide) h)]
    | rw [Block.each_seen]
    | rw [Block.foldl_seen]
    | rw [Block.foldl_snd_seen]
    | (dsimp only [ok, okW, fails])
    | split

end Sys2Proof.Machine
end

