-- ==== Sys2Proof/Laws/Getters.lean ====
section
/-! SUPPORT. An entry after an update: of the same table (the updated entry, or an untouched one), and of another table
(untouched). -/

namespace Sys2Proof.Machine

variable {b : Block} {n m : Nat}

theorem Block.tap_modTap_ite {x : Tap → Tap} :
    (b.modTap n x).tap m = if m = n then x (b.tap m) else b.tap m := by
  split
  · rename_i h; subst h; simp
  · exact Block.tap_modTap_of_ne ‹_›

theorem Block.view_modView_ite {x : TapView → TapView} :
    (b.modView n x).view m = if m = n then x (b.view m) else b.view m := by
  split
  · rename_i h; subst h; simp
  · exact Block.view_modView_of_ne ‹_›

theorem Block.station_modStation_ite {x : Station → Station} :
    (b.modStation n x).station m = if m = n then x (b.station m) else b.station m := by
  split
  · rename_i h; subst h; simp
  · exact Block.station_modStation_of_ne ‹_›

theorem Block.quad_modQuad_ite {x : Quadrant → Quadrant} :
    (b.modQuad n x).quad m = if m = n then x (b.quad m) else b.quad m := by
  split
  · rename_i h; subst h; simp
  · exact Block.quad_modQuad_of_ne ‹_›

theorem Block.tenant_modTenant_ite {x : Tenant → Tenant} :
    (b.modTenant n x).tenant m = if m = n then x (b.tenant m) else b.tenant m := by
  split
  · rename_i h; subst h; simp
  · exact Block.tenant_modTenant_of_ne ‹_›

theorem Block.port_modPort_ite {x : Port → Port} :
    (b.modPort n x).port m = if m = n then x (b.port m) else b.port m := by
  split
  · rename_i h; subst h; simp
  · exact Block.port_modPort_of_ne ‹_›

theorem Block.page_modPage_ite {x : Page → Page} :
    (b.modPage n x).page m = if m = n then x (b.page m) else b.page m := by
  split
  · rename_i h; subst h; simp
  · exact Block.page_modPage_of_ne ‹_›

theorem Block.chan_modChan_ite {x : Channel → Channel} :
    (b.modChan n x).chan m = if m = n then x (b.chan m) else b.chan m := by
  split
  · rename_i h; subst h; simp
  · exact Block.chan_modChan_of_ne ‹_›

theorem Block.hopPort_modHopPort_ite {x : HopPort → HopPort} :
    (b.modHopPort n x).hopPort m = if m = n then x (b.hopPort m) else b.hopPort m := by
  split
  · rename_i h; subst h; simp
  · exact Block.hopPort_modHopPort_of_ne ‹_›

theorem Block.unit_modUnit_ite {x : AsyUnit → AsyUnit} :
    (b.modUnit n x).unit m = if m = n then x (b.unit m) else b.unit m := by
  split
  · rename_i h; subst h; simp
  · exact Block.unit_modUnit_of_ne ‹_›

theorem Block.slot_modSlot_ite {x : LoopSlot → LoopSlot} :
    (b.modSlot n x).slot m = if m = n then x (b.slot m) else b.slot m := by
  split
  · rename_i h; subst h; simp
  · exact Block.slot_modSlot_of_ne ‹_›

theorem Block.obj_modObj_ite {x : Obj → Obj} :
    (b.modObj n x).obj m = if m = n then x (b.obj m) else b.obj m := by
  split
  · rename_i h; subst h; simp
  · exact Block.obj_modObj_of_ne ‹_›

theorem Block.freezeSlot_modFreeze_ite {x : Freeze → Freeze} :
    (b.modFreeze n x).freezeSlot m = if m = n then x (b.freezeSlot m) else b.freezeSlot m := by
  split
  · rename_i h; subst h; simp
  · exact Block.freezeSlot_modFreeze_of_ne ‹_›

@[simp] theorem Block.tap_modView {x : TapView → TapView} : (b.modView n x).tap m = b.tap m := rfl
@[simp] theorem Block.tap_modStation {x : Station → Station} : (b.modStation n x).tap m = b.tap m := rfl
@[simp] theorem Block.tap_modQuad {x : Quadrant → Quadrant} : (b.modQuad n x).tap m = b.tap m := rfl
@[simp] theorem Block.tap_modTenant {x : Tenant → Tenant} : (b.modTenant n x).tap m = b.tap m := rfl
@[simp] theorem Block.tap_modPort {x : Port → Port} : (b.modPort n x).tap m = b.tap m := rfl
@[simp] theorem Block.tap_modPage {x : Page → Page} : (b.modPage n x).tap m = b.tap m := rfl
@[simp] theorem Block.tap_modChan {x : Channel → Channel} : (b.modChan n x).tap m = b.tap m := rfl
@[simp] theorem Block.tap_modHopPort {x : HopPort → HopPort} : (b.modHopPort n x).tap m = b.tap m := rfl
@[simp] theorem Block.tap_modUnit {x : AsyUnit → AsyUnit} : (b.modUnit n x).tap m = b.tap m := rfl
@[simp] theorem Block.tap_modSlot {x : LoopSlot → LoopSlot} : (b.modSlot n x).tap m = b.tap m := rfl
@[simp] theorem Block.tap_modObj {x : Obj → Obj} : (b.modObj n x).tap m = b.tap m := rfl
@[simp] theorem Block.tap_modFreeze {x : Freeze → Freeze} : (b.modFreeze n x).tap m = b.tap m := rfl
@[simp] theorem Block.tap_modCask {x : Cask → Cask} : (b.modCask x).tap m = b.tap m := rfl
@[simp] theorem Block.tap_modMash {x : Mash → Mash} : (b.modMash x).tap m = b.tap m := rfl
@[simp] theorem Block.tap_modSync {x : Sync → Sync} : (b.modSync x).tap m = b.tap m := rfl
@[simp] theorem Block.tap_modTime {x : Time → Time} : (b.modTime x).tap m = b.tap m := rfl
@[simp] theorem Block.tap_modPower {x : Power → Power} : (b.modPower x).tap m = b.tap m := rfl
@[simp] theorem Block.tap_modHop {x : Hop → Hop} : (b.modHop x).tap m = b.tap m := rfl
@[simp] theorem Block.tap_modMeas {x : Meas → Meas} : (b.modMeas x).tap m = b.tap m := rfl
@[simp] theorem Block.tap_modSparge {x : Sparge → Sparge} : (b.modSparge x).tap m = b.tap m := rfl
@[simp] theorem Block.tap_modAssay {x : Assay → Assay} : (b.modAssay x).tap m = b.tap m := rfl
@[simp] theorem Block.tap_emit {x : Out} : (b.emit x).tap m = b.tap m := rfl
@[simp] theorem Block.view_modTap {x : Tap → Tap} : (b.modTap n x).view m = b.view m := rfl
@[simp] theorem Block.view_modStation {x : Station → Station} : (b.modStation n x).view m = b.view m := rfl
@[simp] theorem Block.view_modQuad {x : Quadrant → Quadrant} : (b.modQuad n x).view m = b.view m := rfl
@[simp] theorem Block.view_modTenant {x : Tenant → Tenant} : (b.modTenant n x).view m = b.view m := rfl
@[simp] theorem Block.view_modPort {x : Port → Port} : (b.modPort n x).view m = b.view m := rfl
@[simp] theorem Block.view_modPage {x : Page → Page} : (b.modPage n x).view m = b.view m := rfl
@[simp] theorem Block.view_modChan {x : Channel → Channel} : (b.modChan n x).view m = b.view m := rfl
@[simp] theorem Block.view_modHopPort {x : HopPort → HopPort} : (b.modHopPort n x).view m = b.view m := rfl
@[simp] theorem Block.view_modUnit {x : AsyUnit → AsyUnit} : (b.modUnit n x).view m = b.view m := rfl
@[simp] theorem Block.view_modSlot {x : LoopSlot → LoopSlot} : (b.modSlot n x).view m = b.view m := rfl
@[simp] theorem Block.view_modObj {x : Obj → Obj} : (b.modObj n x).view m = b.view m := rfl
@[simp] theorem Block.view_modFreeze {x : Freeze → Freeze} : (b.modFreeze n x).view m = b.view m := rfl
@[simp] theorem Block.view_modCask {x : Cask → Cask} : (b.modCask x).view m = b.view m := rfl
@[simp] theorem Block.view_modMash {x : Mash → Mash} : (b.modMash x).view m = b.view m := rfl
@[simp] theorem Block.view_modSync {x : Sync → Sync} : (b.modSync x).view m = b.view m := rfl
@[simp] theorem Block.view_modTime {x : Time → Time} : (b.modTime x).view m = b.view m := rfl
@[simp] theorem Block.view_modPower {x : Power → Power} : (b.modPower x).view m = b.view m := rfl
@[simp] theorem Block.view_modHop {x : Hop → Hop} : (b.modHop x).view m = b.view m := rfl
@[simp] theorem Block.view_modMeas {x : Meas → Meas} : (b.modMeas x).view m = b.view m := rfl
@[simp] theorem Block.view_modSparge {x : Sparge → Sparge} : (b.modSparge x).view m = b.view m := rfl
@[simp] theorem Block.view_modAssay {x : Assay → Assay} : (b.modAssay x).view m = b.view m := rfl
@[simp] theorem Block.view_emit {x : Out} : (b.emit x).view m = b.view m := rfl
@[simp] theorem Block.station_modTap {x : Tap → Tap} : (b.modTap n x).station m = b.station m := rfl
@[simp] theorem Block.station_modView {x : TapView → TapView} : (b.modView n x).station m = b.station m := rfl
@[simp] theorem Block.station_modQuad {x : Quadrant → Quadrant} : (b.modQuad n x).station m = b.station m := rfl
@[simp] theorem Block.station_modTenant {x : Tenant → Tenant} : (b.modTenant n x).station m = b.station m := rfl
@[simp] theorem Block.station_modPort {x : Port → Port} : (b.modPort n x).station m = b.station m := rfl
@[simp] theorem Block.station_modPage {x : Page → Page} : (b.modPage n x).station m = b.station m := rfl
@[simp] theorem Block.station_modChan {x : Channel → Channel} : (b.modChan n x).station m = b.station m := rfl
@[simp] theorem Block.station_modHopPort {x : HopPort → HopPort} : (b.modHopPort n x).station m = b.station m := rfl
@[simp] theorem Block.station_modUnit {x : AsyUnit → AsyUnit} : (b.modUnit n x).station m = b.station m := rfl
@[simp] theorem Block.station_modSlot {x : LoopSlot → LoopSlot} : (b.modSlot n x).station m = b.station m := rfl
@[simp] theorem Block.station_modObj {x : Obj → Obj} : (b.modObj n x).station m = b.station m := rfl
@[simp] theorem Block.station_modFreeze {x : Freeze → Freeze} : (b.modFreeze n x).station m = b.station m := rfl
@[simp] theorem Block.station_modCask {x : Cask → Cask} : (b.modCask x).station m = b.station m := rfl
@[simp] theorem Block.station_modMash {x : Mash → Mash} : (b.modMash x).station m = b.station m := rfl
@[simp] theorem Block.station_modSync {x : Sync → Sync} : (b.modSync x).station m = b.station m := rfl
@[simp] theorem Block.station_modTime {x : Time → Time} : (b.modTime x).station m = b.station m := rfl
@[simp] theorem Block.station_modPower {x : Power → Power} : (b.modPower x).station m = b.station m := rfl
@[simp] theorem Block.station_modHop {x : Hop → Hop} : (b.modHop x).station m = b.station m := rfl
@[simp] theorem Block.station_modMeas {x : Meas → Meas} : (b.modMeas x).station m = b.station m := rfl
@[simp] theorem Block.station_modSparge {x : Sparge → Sparge} : (b.modSparge x).station m = b.station m := rfl
@[simp] theorem Block.station_modAssay {x : Assay → Assay} : (b.modAssay x).station m = b.station m := rfl
@[simp] theorem Block.station_emit {x : Out} : (b.emit x).station m = b.station m := rfl
@[simp] theorem Block.quad_modTap {x : Tap → Tap} : (b.modTap n x).quad m = b.quad m := rfl
@[simp] theorem Block.quad_modView {x : TapView → TapView} : (b.modView n x).quad m = b.quad m := rfl
@[simp] theorem Block.quad_modStation {x : Station → Station} : (b.modStation n x).quad m = b.quad m := rfl
@[simp] theorem Block.quad_modTenant {x : Tenant → Tenant} : (b.modTenant n x).quad m = b.quad m := rfl
@[simp] theorem Block.quad_modPort {x : Port → Port} : (b.modPort n x).quad m = b.quad m := rfl
@[simp] theorem Block.quad_modPage {x : Page → Page} : (b.modPage n x).quad m = b.quad m := rfl
@[simp] theorem Block.quad_modChan {x : Channel → Channel} : (b.modChan n x).quad m = b.quad m := rfl
@[simp] theorem Block.quad_modHopPort {x : HopPort → HopPort} : (b.modHopPort n x).quad m = b.quad m := rfl
@[simp] theorem Block.quad_modUnit {x : AsyUnit → AsyUnit} : (b.modUnit n x).quad m = b.quad m := rfl
@[simp] theorem Block.quad_modSlot {x : LoopSlot → LoopSlot} : (b.modSlot n x).quad m = b.quad m := rfl
@[simp] theorem Block.quad_modObj {x : Obj → Obj} : (b.modObj n x).quad m = b.quad m := rfl
@[simp] theorem Block.quad_modFreeze {x : Freeze → Freeze} : (b.modFreeze n x).quad m = b.quad m := rfl
@[simp] theorem Block.quad_modCask {x : Cask → Cask} : (b.modCask x).quad m = b.quad m := rfl
@[simp] theorem Block.quad_modMash {x : Mash → Mash} : (b.modMash x).quad m = b.quad m := rfl
@[simp] theorem Block.quad_modSync {x : Sync → Sync} : (b.modSync x).quad m = b.quad m := rfl
@[simp] theorem Block.quad_modTime {x : Time → Time} : (b.modTime x).quad m = b.quad m := rfl
@[simp] theorem Block.quad_modPower {x : Power → Power} : (b.modPower x).quad m = b.quad m := rfl
@[simp] theorem Block.quad_modHop {x : Hop → Hop} : (b.modHop x).quad m = b.quad m := rfl
@[simp] theorem Block.quad_modMeas {x : Meas → Meas} : (b.modMeas x).quad m = b.quad m := rfl
@[simp] theorem Block.quad_modSparge {x : Sparge → Sparge} : (b.modSparge x).quad m = b.quad m := rfl
@[simp] theorem Block.quad_modAssay {x : Assay → Assay} : (b.modAssay x).quad m = b.quad m := rfl
@[simp] theorem Block.quad_emit {x : Out} : (b.emit x).quad m = b.quad m := rfl
@[simp] theorem Block.tenant_modTap {x : Tap → Tap} : (b.modTap n x).tenant m = b.tenant m := rfl
@[simp] theorem Block.tenant_modView {x : TapView → TapView} : (b.modView n x).tenant m = b.tenant m := rfl
@[simp] theorem Block.tenant_modStation {x : Station → Station} : (b.modStation n x).tenant m = b.tenant m := rfl
@[simp] theorem Block.tenant_modQuad {x : Quadrant → Quadrant} : (b.modQuad n x).tenant m = b.tenant m := rfl
@[simp] theorem Block.tenant_modPort {x : Port → Port} : (b.modPort n x).tenant m = b.tenant m := rfl
@[simp] theorem Block.tenant_modPage {x : Page → Page} : (b.modPage n x).tenant m = b.tenant m := rfl
@[simp] theorem Block.tenant_modChan {x : Channel → Channel} : (b.modChan n x).tenant m = b.tenant m := rfl
@[simp] theorem Block.tenant_modHopPort {x : HopPort → HopPort} : (b.modHopPort n x).tenant m = b.tenant m := rfl
@[simp] theorem Block.tenant_modUnit {x : AsyUnit → AsyUnit} : (b.modUnit n x).tenant m = b.tenant m := rfl
@[simp] theorem Block.tenant_modSlot {x : LoopSlot → LoopSlot} : (b.modSlot n x).tenant m = b.tenant m := rfl
@[simp] theorem Block.tenant_modObj {x : Obj → Obj} : (b.modObj n x).tenant m = b.tenant m := rfl
@[simp] theorem Block.tenant_modFreeze {x : Freeze → Freeze} : (b.modFreeze n x).tenant m = b.tenant m := rfl
@[simp] theorem Block.tenant_modCask {x : Cask → Cask} : (b.modCask x).tenant m = b.tenant m := rfl
@[simp] theorem Block.tenant_modMash {x : Mash → Mash} : (b.modMash x).tenant m = b.tenant m := rfl
@[simp] theorem Block.tenant_modSync {x : Sync → Sync} : (b.modSync x).tenant m = b.tenant m := rfl
@[simp] theorem Block.tenant_modTime {x : Time → Time} : (b.modTime x).tenant m = b.tenant m := rfl
@[simp] theorem Block.tenant_modPower {x : Power → Power} : (b.modPower x).tenant m = b.tenant m := rfl
@[simp] theorem Block.tenant_modHop {x : Hop → Hop} : (b.modHop x).tenant m = b.tenant m := rfl
@[simp] theorem Block.tenant_modMeas {x : Meas → Meas} : (b.modMeas x).tenant m = b.tenant m := rfl
@[simp] theorem Block.tenant_modSparge {x : Sparge → Sparge} : (b.modSparge x).tenant m = b.tenant m := rfl
@[simp] theorem Block.tenant_modAssay {x : Assay → Assay} : (b.modAssay x).tenant m = b.tenant m := rfl
@[simp] theorem Block.tenant_emit {x : Out} : (b.emit x).tenant m = b.tenant m := rfl
@[simp] theorem Block.port_modTap {x : Tap → Tap} : (b.modTap n x).port m = b.port m := rfl
@[simp] theorem Block.port_modView {x : TapView → TapView} : (b.modView n x).port m = b.port m := rfl
@[simp] theorem Block.port_modStation {x : Station → Station} : (b.modStation n x).port m = b.port m := rfl
@[simp] theorem Block.port_modQuad {x : Quadrant → Quadrant} : (b.modQuad n x).port m = b.port m := rfl
@[simp] theorem Block.port_modTenant {x : Tenant → Tenant} : (b.modTenant n x).port m = b.port m := rfl
@[simp] theorem Block.port_modPage {x : Page → Page} : (b.modPage n x).port m = b.port m := rfl
@[simp] theorem Block.port_modChan {x : Channel → Channel} : (b.modChan n x).port m = b.port m := rfl
@[simp] theorem Block.port_modHopPort {x : HopPort → HopPort} : (b.modHopPort n x).port m = b.port m := rfl
@[simp] theorem Block.port_modUnit {x : AsyUnit → AsyUnit} : (b.modUnit n x).port m = b.port m := rfl
@[simp] theorem Block.port_modSlot {x : LoopSlot → LoopSlot} : (b.modSlot n x).port m = b.port m := rfl
@[simp] theorem Block.port_modObj {x : Obj → Obj} : (b.modObj n x).port m = b.port m := rfl
@[simp] theorem Block.port_modFreeze {x : Freeze → Freeze} : (b.modFreeze n x).port m = b.port m := rfl
@[simp] theorem Block.port_modCask {x : Cask → Cask} : (b.modCask x).port m = b.port m := rfl
@[simp] theorem Block.port_modMash {x : Mash → Mash} : (b.modMash x).port m = b.port m := rfl
@[simp] theorem Block.port_modSync {x : Sync → Sync} : (b.modSync x).port m = b.port m := rfl
@[simp] theorem Block.port_modTime {x : Time → Time} : (b.modTime x).port m = b.port m := rfl
@[simp] theorem Block.port_modPower {x : Power → Power} : (b.modPower x).port m = b.port m := rfl
@[simp] theorem Block.port_modHop {x : Hop → Hop} : (b.modHop x).port m = b.port m := rfl
@[simp] theorem Block.port_modMeas {x : Meas → Meas} : (b.modMeas x).port m = b.port m := rfl
@[simp] theorem Block.port_modSparge {x : Sparge → Sparge} : (b.modSparge x).port m = b.port m := rfl
@[simp] theorem Block.port_modAssay {x : Assay → Assay} : (b.modAssay x).port m = b.port m := rfl
@[simp] theorem Block.port_emit {x : Out} : (b.emit x).port m = b.port m := rfl
@[simp] theorem Block.page_modTap {x : Tap → Tap} : (b.modTap n x).page m = b.page m := rfl
@[simp] theorem Block.page_modView {x : TapView → TapView} : (b.modView n x).page m = b.page m := rfl
@[simp] theorem Block.page_modStation {x : Station → Station} : (b.modStation n x).page m = b.page m := rfl
@[simp] theorem Block.page_modQuad {x : Quadrant → Quadrant} : (b.modQuad n x).page m = b.page m := rfl
@[simp] theorem Block.page_modTenant {x : Tenant → Tenant} : (b.modTenant n x).page m = b.page m := rfl
@[simp] theorem Block.page_modPort {x : Port → Port} : (b.modPort n x).page m = b.page m := rfl
@[simp] theorem Block.page_modChan {x : Channel → Channel} : (b.modChan n x).page m = b.page m := rfl
@[simp] theorem Block.page_modHopPort {x : HopPort → HopPort} : (b.modHopPort n x).page m = b.page m := rfl
@[simp] theorem Block.page_modUnit {x : AsyUnit → AsyUnit} : (b.modUnit n x).page m = b.page m := rfl
@[simp] theorem Block.page_modSlot {x : LoopSlot → LoopSlot} : (b.modSlot n x).page m = b.page m := rfl
@[simp] theorem Block.page_modObj {x : Obj → Obj} : (b.modObj n x).page m = b.page m := rfl
@[simp] theorem Block.page_modFreeze {x : Freeze → Freeze} : (b.modFreeze n x).page m = b.page m := rfl
@[simp] theorem Block.page_modMash {x : Mash → Mash} : (b.modMash x).page m = b.page m := rfl
@[simp] theorem Block.page_modSync {x : Sync → Sync} : (b.modSync x).page m = b.page m := rfl
@[simp] theorem Block.page_modTime {x : Time → Time} : (b.modTime x).page m = b.page m := rfl
@[simp] theorem Block.page_modPower {x : Power → Power} : (b.modPower x).page m = b.page m := rfl
@[simp] theorem Block.page_modHop {x : Hop → Hop} : (b.modHop x).page m = b.page m := rfl
@[simp] theorem Block.page_modMeas {x : Meas → Meas} : (b.modMeas x).page m = b.page m := rfl
@[simp] theorem Block.page_modSparge {x : Sparge → Sparge} : (b.modSparge x).page m = b.page m := rfl
@[simp] theorem Block.page_modAssay {x : Assay → Assay} : (b.modAssay x).page m = b.page m := rfl
@[simp] theorem Block.page_emit {x : Out} : (b.emit x).page m = b.page m := rfl
@[simp] theorem Block.chan_modTap {x : Tap → Tap} : (b.modTap n x).chan m = b.chan m := rfl
@[simp] theorem Block.chan_modView {x : TapView → TapView} : (b.modView n x).chan m = b.chan m := rfl
@[simp] theorem Block.chan_modStation {x : Station → Station} : (b.modStation n x).chan m = b.chan m := rfl
@[simp] theorem Block.chan_modQuad {x : Quadrant → Quadrant} : (b.modQuad n x).chan m = b.chan m := rfl
@[simp] theorem Block.chan_modTenant {x : Tenant → Tenant} : (b.modTenant n x).chan m = b.chan m := rfl
@[simp] theorem Block.chan_modPort {x : Port → Port} : (b.modPort n x).chan m = b.chan m := rfl
@[simp] theorem Block.chan_modPage {x : Page → Page} : (b.modPage n x).chan m = b.chan m := rfl
@[simp] theorem Block.chan_modHopPort {x : HopPort → HopPort} : (b.modHopPort n x).chan m = b.chan m := rfl
@[simp] theorem Block.chan_modUnit {x : AsyUnit → AsyUnit} : (b.modUnit n x).chan m = b.chan m := rfl
@[simp] theorem Block.chan_modSlot {x : LoopSlot → LoopSlot} : (b.modSlot n x).chan m = b.chan m := rfl
@[simp] theorem Block.chan_modObj {x : Obj → Obj} : (b.modObj n x).chan m = b.chan m := rfl
@[simp] theorem Block.chan_modFreeze {x : Freeze → Freeze} : (b.modFreeze n x).chan m = b.chan m := rfl
@[simp] theorem Block.chan_modCask {x : Cask → Cask} : (b.modCask x).chan m = b.chan m := rfl
@[simp] theorem Block.chan_modMash {x : Mash → Mash} : (b.modMash x).chan m = b.chan m := rfl
@[simp] theorem Block.chan_modSync {x : Sync → Sync} : (b.modSync x).chan m = b.chan m := rfl
@[simp] theorem Block.chan_modTime {x : Time → Time} : (b.modTime x).chan m = b.chan m := rfl
@[simp] theorem Block.chan_modPower {x : Power → Power} : (b.modPower x).chan m = b.chan m := rfl
@[simp] theorem Block.chan_modHop {x : Hop → Hop} : (b.modHop x).chan m = b.chan m := rfl
@[simp] theorem Block.chan_modMeas {x : Meas → Meas} : (b.modMeas x).chan m = b.chan m := rfl
@[simp] theorem Block.chan_modAssay {x : Assay → Assay} : (b.modAssay x).chan m = b.chan m := rfl
@[simp] theorem Block.chan_emit {x : Out} : (b.emit x).chan m = b.chan m := rfl
@[simp] theorem Block.hopPort_modTap {x : Tap → Tap} : (b.modTap n x).hopPort m = b.hopPort m := rfl
@[simp] theorem Block.hopPort_modView {x : TapView → TapView} : (b.modView n x).hopPort m = b.hopPort m := rfl
@[simp] theorem Block.hopPort_modStation {x : Station → Station} : (b.modStation n x).hopPort m = b.hopPort m := rfl
@[simp] theorem Block.hopPort_modQuad {x : Quadrant → Quadrant} : (b.modQuad n x).hopPort m = b.hopPort m := rfl
@[simp] theorem Block.hopPort_modTenant {x : Tenant → Tenant} : (b.modTenant n x).hopPort m = b.hopPort m := rfl
@[simp] theorem Block.hopPort_modPort {x : Port → Port} : (b.modPort n x).hopPort m = b.hopPort m := rfl
@[simp] theorem Block.hopPort_modPage {x : Page → Page} : (b.modPage n x).hopPort m = b.hopPort m := rfl
@[simp] theorem Block.hopPort_modChan {x : Channel → Channel} : (b.modChan n x).hopPort m = b.hopPort m := rfl
@[simp] theorem Block.hopPort_modUnit {x : AsyUnit → AsyUnit} : (b.modUnit n x).hopPort m = b.hopPort m := rfl
@[simp] theorem Block.hopPort_modSlot {x : LoopSlot → LoopSlot} : (b.modSlot n x).hopPort m = b.hopPort m := rfl
@[simp] theorem Block.hopPort_modObj {x : Obj → Obj} : (b.modObj n x).hopPort m = b.hopPort m := rfl
@[simp] theorem Block.hopPort_modFreeze {x : Freeze → Freeze} : (b.modFreeze n x).hopPort m = b.hopPort m := rfl
@[simp] theorem Block.hopPort_modCask {x : Cask → Cask} : (b.modCask x).hopPort m = b.hopPort m := rfl
@[simp] theorem Block.hopPort_modMash {x : Mash → Mash} : (b.modMash x).hopPort m = b.hopPort m := rfl
@[simp] theorem Block.hopPort_modSync {x : Sync → Sync} : (b.modSync x).hopPort m = b.hopPort m := rfl
@[simp] theorem Block.hopPort_modTime {x : Time → Time} : (b.modTime x).hopPort m = b.hopPort m := rfl
@[simp] theorem Block.hopPort_modPower {x : Power → Power} : (b.modPower x).hopPort m = b.hopPort m := rfl
@[simp] theorem Block.hopPort_modMeas {x : Meas → Meas} : (b.modMeas x).hopPort m = b.hopPort m := rfl
@[simp] theorem Block.hopPort_modSparge {x : Sparge → Sparge} : (b.modSparge x).hopPort m = b.hopPort m := rfl
@[simp] theorem Block.hopPort_modAssay {x : Assay → Assay} : (b.modAssay x).hopPort m = b.hopPort m := rfl
@[simp] theorem Block.hopPort_emit {x : Out} : (b.emit x).hopPort m = b.hopPort m := rfl
@[simp] theorem Block.unit_modTap {x : Tap → Tap} : (b.modTap n x).unit m = b.unit m := rfl
@[simp] theorem Block.unit_modView {x : TapView → TapView} : (b.modView n x).unit m = b.unit m := rfl
@[simp] theorem Block.unit_modStation {x : Station → Station} : (b.modStation n x).unit m = b.unit m := rfl
@[simp] theorem Block.unit_modQuad {x : Quadrant → Quadrant} : (b.modQuad n x).unit m = b.unit m := rfl
@[simp] theorem Block.unit_modTenant {x : Tenant → Tenant} : (b.modTenant n x).unit m = b.unit m := rfl
@[simp] theorem Block.unit_modPort {x : Port → Port} : (b.modPort n x).unit m = b.unit m := rfl
@[simp] theorem Block.unit_modPage {x : Page → Page} : (b.modPage n x).unit m = b.unit m := rfl
@[simp] theorem Block.unit_modChan {x : Channel → Channel} : (b.modChan n x).unit m = b.unit m := rfl
@[simp] theorem Block.unit_modHopPort {x : HopPort → HopPort} : (b.modHopPort n x).unit m = b.unit m := rfl
@[simp] theorem Block.unit_modSlot {x : LoopSlot → LoopSlot} : (b.modSlot n x).unit m = b.unit m := rfl
@[simp] theorem Block.unit_modObj {x : Obj → Obj} : (b.modObj n x).unit m = b.unit m := rfl
@[simp] theorem Block.unit_modFreeze {x : Freeze → Freeze} : (b.modFreeze n x).unit m = b.unit m := rfl
@[simp] theorem Block.unit_modCask {x : Cask → Cask} : (b.modCask x).unit m = b.unit m := rfl
@[simp] theorem Block.unit_modMash {x : Mash → Mash} : (b.modMash x).unit m = b.unit m := rfl
@[simp] theorem Block.unit_modSync {x : Sync → Sync} : (b.modSync x).unit m = b.unit m := rfl
@[simp] theorem Block.unit_modTime {x : Time → Time} : (b.modTime x).unit m = b.unit m := rfl
@[simp] theorem Block.unit_modPower {x : Power → Power} : (b.modPower x).unit m = b.unit m := rfl
@[simp] theorem Block.unit_modHop {x : Hop → Hop} : (b.modHop x).unit m = b.unit m := rfl
@[simp] theorem Block.unit_modMeas {x : Meas → Meas} : (b.modMeas x).unit m = b.unit m := rfl
@[simp] theorem Block.unit_modSparge {x : Sparge → Sparge} : (b.modSparge x).unit m = b.unit m := rfl
@[simp] theorem Block.unit_emit {x : Out} : (b.emit x).unit m = b.unit m := rfl
@[simp] theorem Block.slot_modTap {x : Tap → Tap} : (b.modTap n x).slot m = b.slot m := rfl
@[simp] theorem Block.slot_modView {x : TapView → TapView} : (b.modView n x).slot m = b.slot m := rfl
@[simp] theorem Block.slot_modStation {x : Station → Station} : (b.modStation n x).slot m = b.slot m := rfl
@[simp] theorem Block.slot_modQuad {x : Quadrant → Quadrant} : (b.modQuad n x).slot m = b.slot m := rfl
@[simp] theorem Block.slot_modTenant {x : Tenant → Tenant} : (b.modTenant n x).slot m = b.slot m := rfl
@[simp] theorem Block.slot_modPort {x : Port → Port} : (b.modPort n x).slot m = b.slot m := rfl
@[simp] theorem Block.slot_modPage {x : Page → Page} : (b.modPage n x).slot m = b.slot m := rfl
@[simp] theorem Block.slot_modChan {x : Channel → Channel} : (b.modChan n x).slot m = b.slot m := rfl
@[simp] theorem Block.slot_modHopPort {x : HopPort → HopPort} : (b.modHopPort n x).slot m = b.slot m := rfl
@[simp] theorem Block.slot_modUnit {x : AsyUnit → AsyUnit} : (b.modUnit n x).slot m = b.slot m := rfl
@[simp] theorem Block.slot_modObj {x : Obj → Obj} : (b.modObj n x).slot m = b.slot m := rfl
@[simp] theorem Block.slot_modFreeze {x : Freeze → Freeze} : (b.modFreeze n x).slot m = b.slot m := rfl
@[simp] theorem Block.slot_modCask {x : Cask → Cask} : (b.modCask x).slot m = b.slot m := rfl
@[simp] theorem Block.slot_modSync {x : Sync → Sync} : (b.modSync x).slot m = b.slot m := rfl
@[simp] theorem Block.slot_modTime {x : Time → Time} : (b.modTime x).slot m = b.slot m := rfl
@[simp] theorem Block.slot_modPower {x : Power → Power} : (b.modPower x).slot m = b.slot m := rfl
@[simp] theorem Block.slot_modHop {x : Hop → Hop} : (b.modHop x).slot m = b.slot m := rfl
@[simp] theorem Block.slot_modMeas {x : Meas → Meas} : (b.modMeas x).slot m = b.slot m := rfl
@[simp] theorem Block.slot_modSparge {x : Sparge → Sparge} : (b.modSparge x).slot m = b.slot m := rfl
@[simp] theorem Block.slot_modAssay {x : Assay → Assay} : (b.modAssay x).slot m = b.slot m := rfl
@[simp] theorem Block.slot_emit {x : Out} : (b.emit x).slot m = b.slot m := rfl
@[simp] theorem Block.obj_modTap {x : Tap → Tap} : (b.modTap n x).obj m = b.obj m := rfl
@[simp] theorem Block.obj_modView {x : TapView → TapView} : (b.modView n x).obj m = b.obj m := rfl
@[simp] theorem Block.obj_modStation {x : Station → Station} : (b.modStation n x).obj m = b.obj m := rfl
@[simp] theorem Block.obj_modQuad {x : Quadrant → Quadrant} : (b.modQuad n x).obj m = b.obj m := rfl
@[simp] theorem Block.obj_modTenant {x : Tenant → Tenant} : (b.modTenant n x).obj m = b.obj m := rfl
@[simp] theorem Block.obj_modPort {x : Port → Port} : (b.modPort n x).obj m = b.obj m := rfl
@[simp] theorem Block.obj_modPage {x : Page → Page} : (b.modPage n x).obj m = b.obj m := rfl
@[simp] theorem Block.obj_modChan {x : Channel → Channel} : (b.modChan n x).obj m = b.obj m := rfl
@[simp] theorem Block.obj_modHopPort {x : HopPort → HopPort} : (b.modHopPort n x).obj m = b.obj m := rfl
@[simp] theorem Block.obj_modUnit {x : AsyUnit → AsyUnit} : (b.modUnit n x).obj m = b.obj m := rfl
@[simp] theorem Block.obj_modSlot {x : LoopSlot → LoopSlot} : (b.modSlot n x).obj m = b.obj m := rfl
@[simp] theorem Block.obj_modFreeze {x : Freeze → Freeze} : (b.modFreeze n x).obj m = b.obj m := rfl
@[simp] theorem Block.obj_modCask {x : Cask → Cask} : (b.modCask x).obj m = b.obj m := rfl
@[simp] theorem Block.obj_modMash {x : Mash → Mash} : (b.modMash x).obj m = b.obj m := rfl
@[simp] theorem Block.obj_modTime {x : Time → Time} : (b.modTime x).obj m = b.obj m := rfl
@[simp] theorem Block.obj_modPower {x : Power → Power} : (b.modPower x).obj m = b.obj m := rfl
@[simp] theorem Block.obj_modHop {x : Hop → Hop} : (b.modHop x).obj m = b.obj m := rfl
@[simp] theorem Block.obj_modMeas {x : Meas → Meas} : (b.modMeas x).obj m = b.obj m := rfl
@[simp] theorem Block.obj_modSparge {x : Sparge → Sparge} : (b.modSparge x).obj m = b.obj m := rfl
@[simp] theorem Block.obj_modAssay {x : Assay → Assay} : (b.modAssay x).obj m = b.obj m := rfl
@[simp] theorem Block.obj_emit {x : Out} : (b.emit x).obj m = b.obj m := rfl
@[simp] theorem Block.freezeSlot_modTap {x : Tap → Tap} : (b.modTap n x).freezeSlot m = b.freezeSlot m := rfl
@[simp] theorem Block.freezeSlot_modView {x : TapView → TapView} : (b.modView n x).freezeSlot m = b.freezeSlot m := rfl
@[simp] theorem Block.freezeSlot_modStation {x : Station → Station} : (b.modStation n x).freezeSlot m = b.freezeSlot m := rfl
@[simp] theorem Block.freezeSlot_modQuad {x : Quadrant → Quadrant} : (b.modQuad n x).freezeSlot m = b.freezeSlot m := rfl
@[simp] theorem Block.freezeSlot_modTenant {x : Tenant → Tenant} : (b.modTenant n x).freezeSlot m = b.freezeSlot m := rfl
@[simp] theorem Block.freezeSlot_modPort {x : Port → Port} : (b.modPort n x).freezeSlot m = b.freezeSlot m := rfl
@[simp] theorem Block.freezeSlot_modPage {x : Page → Page} : (b.modPage n x).freezeSlot m = b.freezeSlot m := rfl
@[simp] theorem Block.freezeSlot_modChan {x : Channel → Channel} : (b.modChan n x).freezeSlot m = b.freezeSlot m := rfl
@[simp] theorem Block.freezeSlot_modHopPort {x : HopPort → HopPort} : (b.modHopPort n x).freezeSlot m = b.freezeSlot m := rfl
@[simp] theorem Block.freezeSlot_modUnit {x : AsyUnit → AsyUnit} : (b.modUnit n x).freezeSlot m = b.freezeSlot m := rfl
@[simp] theorem Block.freezeSlot_modSlot {x : LoopSlot → LoopSlot} : (b.modSlot n x).freezeSlot m = b.freezeSlot m := rfl
@[simp] theorem Block.freezeSlot_modObj {x : Obj → Obj} : (b.modObj n x).freezeSlot m = b.freezeSlot m := rfl
@[simp] theorem Block.freezeSlot_modCask {x : Cask → Cask} : (b.modCask x).freezeSlot m = b.freezeSlot m := rfl
@[simp] theorem Block.freezeSlot_modMash {x : Mash → Mash} : (b.modMash x).freezeSlot m = b.freezeSlot m := rfl
@[simp] theorem Block.freezeSlot_modSync {x : Sync → Sync} : (b.modSync x).freezeSlot m = b.freezeSlot m := rfl
@[simp] theorem Block.freezeSlot_modTime {x : Time → Time} : (b.modTime x).freezeSlot m = b.freezeSlot m := rfl
@[simp] theorem Block.freezeSlot_modPower {x : Power → Power} : (b.modPower x).freezeSlot m = b.freezeSlot m := rfl
@[simp] theorem Block.freezeSlot_modHop {x : Hop → Hop} : (b.modHop x).freezeSlot m = b.freezeSlot m := rfl
@[simp] theorem Block.freezeSlot_modMeas {x : Meas → Meas} : (b.modMeas x).freezeSlot m = b.freezeSlot m := rfl
@[simp] theorem Block.freezeSlot_modSparge {x : Sparge → Sparge} : (b.modSparge x).freezeSlot m = b.freezeSlot m := rfl
@[simp] theorem Block.freezeSlot_modAssay {x : Assay → Assay} : (b.modAssay x).freezeSlot m = b.freezeSlot m := rfl
@[simp] theorem Block.freezeSlot_emit {x : Out} : (b.emit x).freezeSlot m = b.freezeSlot m := rfl
@[simp] theorem Block.gt_modTap {x : Tap → Tap} : (b.modTap n x).gt = b.gt := rfl
@[simp] theorem Block.gt_modView {x : TapView → TapView} : (b.modView n x).gt = b.gt := rfl
@[simp] theorem Block.gt_modStation {x : Station → Station} : (b.modStation n x).gt = b.gt := rfl
@[simp] theorem Block.gt_modQuad {x : Quadrant → Quadrant} : (b.modQuad n x).gt = b.gt := rfl
@[simp] theorem Block.gt_modTenant {x : Tenant → Tenant} : (b.modTenant n x).gt = b.gt := rfl
@[simp] theorem Block.gt_modPort {x : Port → Port} : (b.modPort n x).gt = b.gt := rfl
@[simp] theorem Block.gt_modPage {x : Page → Page} : (b.modPage n x).gt = b.gt := rfl
@[simp] theorem Block.gt_modChan {x : Channel → Channel} : (b.modChan n x).gt = b.gt := rfl
@[simp] theorem Block.gt_modHopPort {x : HopPort → HopPort} : (b.modHopPort n x).gt = b.gt := rfl
@[simp] theorem Block.gt_modUnit {x : AsyUnit → AsyUnit} : (b.modUnit n x).gt = b.gt := rfl
@[simp] theorem Block.gt_modSlot {x : LoopSlot → LoopSlot} : (b.modSlot n x).gt = b.gt := rfl
@[simp] theorem Block.gt_modObj {x : Obj → Obj} : (b.modObj n x).gt = b.gt := rfl
@[simp] theorem Block.gt_modFreeze {x : Freeze → Freeze} : (b.modFreeze n x).gt = b.gt := rfl
@[simp] theorem Block.gt_modCask {x : Cask → Cask} : (b.modCask x).gt = b.gt := rfl
@[simp] theorem Block.gt_modMash {x : Mash → Mash} : (b.modMash x).gt = b.gt := rfl
@[simp] theorem Block.gt_modSync {x : Sync → Sync} : (b.modSync x).gt = b.gt := rfl
@[simp] theorem Block.gt_modHop {x : Hop → Hop} : (b.modHop x).gt = b.gt := rfl
@[simp] theorem Block.gt_modMeas {x : Meas → Meas} : (b.modMeas x).gt = b.gt := rfl
@[simp] theorem Block.gt_modSparge {x : Sparge → Sparge} : (b.modSparge x).gt = b.gt := rfl
@[simp] theorem Block.gt_modAssay {x : Assay → Assay} : (b.modAssay x).gt = b.gt := rfl

end Sys2Proof.Machine
end

