-- ==== Sys2Proof/Laws/Answer.lean ====
section
/-! SUPPORT. What an answer does to the block, and that a packet which the block hears is carried out and answered at
once. -/

namespace Sys2Proof.Machine

variable {b : Block} {f tag st : Nat} {quiet : Bool} {ws : List Word}

/-! ### What is seen, part by part -/

theorem Block.taps_of_seen {M : List Area} {b c : Block} (h : b.seen M = c.seen M) (n : Area.taps ∉ M) :
    b.taps = c.taps := by
  simpa [Block.seen, Area.see, n] using congrArg Seen.taps h

theorem Block.views_of_seen {M : List Area} {b c : Block} (h : b.seen M = c.seen M) (n : Area.views ∉ M) :
    b.views = c.views := by
  simpa [Block.seen, Area.see, n] using congrArg Seen.views h

theorem Block.stations_of_seen {M : List Area} {b c : Block} (h : b.seen M = c.seen M) (n : Area.stations ∉ M) :
    b.stations = c.stations := by
  simpa [Block.seen, Area.see, n] using congrArg Seen.stations h

theorem Block.quads_of_seen {M : List Area} {b c : Block} (h : b.seen M = c.seen M) (n : Area.quads ∉ M) :
    b.quads = c.quads := by
  simpa [Block.seen, Area.see, n] using congrArg Seen.quads h

theorem Block.ctxs_of_seen {M : List Area} {b c : Block} (h : b.seen M = c.seen M) (n : Area.ctxs ∉ M) :
    b.ctxs = c.ctxs := by
  simpa [Block.seen, Area.see, n] using congrArg Seen.ctxs h

theorem Block.cask_of_seen {M : List Area} {b c : Block} (h : b.seen M = c.seen M) (n : Area.cask ∉ M) :
    b.cask = c.cask := by
  simpa [Block.seen, Area.see, n] using congrArg Seen.cask h

theorem Block.mash_of_seen {M : List Area} {b c : Block} (h : b.seen M = c.seen M) (n : Area.mash ∉ M) :
    b.mash = c.mash := by
  simpa [Block.seen, Area.see, n] using congrArg Seen.mash h

theorem Block.assay_of_seen {M : List Area} {b c : Block} (h : b.seen M = c.seen M) (n : Area.assay ∉ M) :
    b.assay = c.assay := by
  simpa [Block.seen, Area.see, n] using congrArg Seen.assay h

theorem Block.sync_of_seen {M : List Area} {b c : Block} (h : b.seen M = c.seen M) (n : Area.sync ∉ M) :
    b.sync = c.sync := by
  simpa [Block.seen, Area.see, n] using congrArg Seen.sync h

theorem Block.ports_of_seen {M : List Area} {b c : Block} (h : b.seen M = c.seen M) (n : Area.ports ∉ M) :
    b.ports = c.ports := by
  simpa [Block.seen, Area.see, n] using congrArg Seen.ports h

theorem Block.tenants_of_seen {M : List Area} {b c : Block} (h : b.seen M = c.seen M) (n : Area.tenants ∉ M) :
    b.tenants = c.tenants := by
  simpa [Block.seen, Area.see, n] using congrArg Seen.tenants h

theorem Block.sparge_of_seen {M : List Area} {b c : Block} (h : b.seen M = c.seen M) (n : Area.sparge ∉ M) :
    b.sparge = c.sparge := by
  simpa [Block.seen, Area.see, n] using congrArg Seen.sparge h

theorem Block.hop_of_seen {M : List Area} {b c : Block} (h : b.seen M = c.seen M) (n : Area.hop ∉ M) :
    b.hop = c.hop := by
  simpa [Block.seen, Area.see, n] using congrArg Seen.hop h

theorem Block.meas_of_seen {M : List Area} {b c : Block} (h : b.seen M = c.seen M) (n : Area.meas ∉ M) :
    b.meas = c.meas := by
  simpa [Block.seen, Area.see, n] using congrArg Seen.meas h

theorem Block.power_of_seen {M : List Area} {b c : Block} (h : b.seen M = c.seen M) (n : Area.power ∉ M) :
    b.power = c.power := by
  simpa [Block.seen, Area.see, n] using congrArg Seen.power h

theorem Block.time_of_seen {M : List Area} {b c : Block} (h : b.seen M = c.seen M) (n : Area.time ∉ M) :
    b.time = c.time := by
  simpa [Block.seen, Area.see, n] using congrArg Seen.time h

theorem Block.recs_of_seen {M : List Area} {b c : Block} (h : b.seen M = c.seen M) (n : Area.recs ∉ M) :
    b.recs = c.recs := by
  simpa [Block.seen, Area.see, n] using congrArg Seen.recs h

theorem Block.held_of_seen {M : List Area} {b c : Block} (h : b.seen M = c.seen M) (n : Area.held ∉ M) :
    b.held = c.held := by
  simpa [Block.seen, Area.see, n] using congrArg Seen.held h

theorem Block.lo_of_seen {M : List Area} {b c : Block} (h : b.seen M = c.seen M) (n : Area.lo ∉ M) :
    b.lo = c.lo := by
  simpa [Block.seen, Area.see, n] using congrArg Seen.lo h

theorem Block.out_of_seen {M : List Area} {b c : Block} (h : b.seen M = c.seen M) (n : Area.out ∉ M) :
    b.out = c.out := by
  simpa [Block.seen, Area.see, n] using congrArg Seen.out h

theorem Block.freeCtr_of_seen {M : List Area} {b c : Block} (h : b.seen M = c.seen M) (n : Area.free ∉ M) :
    b.freeCtr = c.freeCtr := by
  simpa [Block.seen, Area.see, n] using congrArg Seen.free h

theorem Block.freezes_of_seen {M : List Area} {b c : Block} (h : b.seen M = c.seen M) (n : Area.freezes ∉ M) :
    b.freezes = c.freezes ∧ b.freezeNext = c.freezeNext ∧ b.freezeLimitUs = c.freezeLimitUs := by
  simpa [Block.seen, Area.see, n] using congrArg Seen.freezes h

theorem Block.straps_of_seen {M : List Area} {b c : Block} (h : b.seen M = c.seen M) (n : Area.straps ∉ M) :
    b.absent = c.absent ∧ b.regionOf = c.regionOf := by
  simpa [Block.seen, Area.see, n] using congrArg Seen.straps h

/-! ### Parked reads -/


@[simp] theorem serveParked_taps (n : Nat) : (serveParked n b f).taps = b.taps :=
  Block.taps_of_seen (serveParked_seen (M := [.ports, .out]) (by decide)) (by decide)
@[simp] theorem serveParked_views (n : Nat) : (serveParked n b f).views = b.views :=
  Block.views_of_seen (serveParked_seen (M := [.ports, .out]) (by decide)) (by decide)
@[simp] theorem serveParked_stations (n : Nat) : (serveParked n b f).stations = b.stations :=
  Block.stations_of_seen (serveParked_seen (M := [.ports, .out]) (by decide)) (by decide)
@[simp] theorem serveParked_quads (n : Nat) : (serveParked n b f).quads = b.quads :=
  Block.quads_of_seen (serveParked_seen (M := [.ports, .out]) (by decide)) (by decide)
@[simp] theorem serveParked_ctxs (n : Nat) : (serveParked n b f).ctxs = b.ctxs :=
  Block.ctxs_of_seen (serveParked_seen (M := [.ports, .out]) (by decide)) (by decide)
@[simp] theorem serveParked_cask (n : Nat) : (serveParked n b f).cask = b.cask :=
  Block.cask_of_seen (serveParked_seen (M := [.ports, .out]) (by decide)) (by decide)
@[simp] theorem serveParked_mash (n : Nat) : (serveParked n b f).mash = b.mash :=
  Block.mash_of_seen (serveParked_seen (M := [.ports, .out]) (by decide)) (by decide)
@[simp] theorem serveParked_assay (n : Nat) : (serveParked n b f).assay = b.assay :=
  Block.assay_of_seen (serveParked_seen (M := [.ports, .out]) (by decide)) (by decide)
@[simp] theorem serveParked_sync (n : Nat) : (serveParked n b f).sync = b.sync :=
  Block.sync_of_seen (serveParked_seen (M := [.ports, .out]) (by decide)) (by decide)
@[simp] theorem serveParked_tenants (n : Nat) : (serveParked n b f).tenants = b.tenants :=
  Block.tenants_of_seen (serveParked_seen (M := [.ports, .out]) (by decide)) (by decide)
@[simp] theorem serveParked_sparge (n : Nat) : (serveParked n b f).sparge = b.sparge :=
  Block.sparge_of_seen (serveParked_seen (M := [.ports, .out]) (by decide)) (by decide)
@[simp] theorem serveParked_hop (n : Nat) : (serveParked n b f).hop = b.hop :=
  Block.hop_of_seen (serveParked_seen (M := [.ports, .out]) (by decide)) (by decide)
@[simp] theorem serveParked_meas (n : Nat) : (serveParked n b f).meas = b.meas :=
  Block.meas_of_seen (serveParked_seen (M := [.ports, .out]) (by decide)) (by decide)
@[simp] theorem serveParked_power (n : Nat) : (serveParked n b f).power = b.power :=
  Block.power_of_seen (serveParked_seen (M := [.ports, .out]) (by decide)) (by decide)
@[simp] theorem serveParked_time (n : Nat) : (serveParked n b f).time = b.time :=
  Block.time_of_seen (serveParked_seen (M := [.ports, .out]) (by decide)) (by decide)
@[simp] theorem serveParked_recs (n : Nat) : (serveParked n b f).recs = b.recs :=
  Block.recs_of_seen (serveParked_seen (M := [.ports, .out]) (by decide)) (by decide)
@[simp] theorem serveParked_held (n : Nat) : (serveParked n b f).held = b.held :=
  Block.held_of_seen (serveParked_seen (M := [.ports, .out]) (by decide)) (by decide)
@[simp] theorem serveParked_lo (n : Nat) : (serveParked n b f).lo = b.lo :=
  Block.lo_of_seen (serveParked_seen (M := [.ports, .out]) (by decide)) (by decide)

theorem serveParked_port_of_ne {g : Nat} (h : g ≠ f) (n : Nat) : (serveParked n b f).port g = b.port g := by
  induction n generalizing b with
  | zero => rfl
  | succ n ih =>
    unfold serveParked
    split
    · split
      · rw [ih, Block.port_emit, Block.port_modPort_of_ne h]
      · rfl
    · rfl

/-- What serving parked reads leaves of a port: all but the read pointer and the reads. -/
theorem serveParked_port (n : Nat) : ∃ rd parked, (serveParked n b f).port f = { b.port f with rd := rd, parked := parked } := by
  induction n generalizing b with
  | zero => exact ⟨_, _, rfl⟩
  | succ n ih =>
    unfold serveParked
    split
    · split
      · refine (ih (b := _)).imp (fun rd h => h.imp (fun pk h => h.trans ?_))
        rw [Block.port_emit, Block.port_modPort]
        unfold Port.takeWord
        split <;> rfl
      · exact ⟨_, _, rfl⟩
    · exact ⟨_, _, rfl⟩

/-! ### The answer -/

theorem Block.raise_tenant_of_ne {g n v : Nat} (h : g ≠ n) : (b.raise n v).tenant g = b.tenant g :=
  Block.tenant_modTenant_of_ne h

/-- A cause changes the interrupt status and the due messages of its function, nothing else. -/
theorem Block.raise_tenant {n v : Nat} : ∃ is due, (b.raise n v).tenant n = { b.tenant n with intStatus := is, due := due } := by
  unfold Block.raise
  rw [Block.tenant_modTenant]
  split
  · exact ⟨_, _, rfl⟩
  · split <;> exact ⟨_, _, rfl⟩

@[simp] theorem Block.port_raise {n v g : Nat} : (b.raise n v).port g = b.port g := rfl
@[simp] theorem Block.power_raise {n v : Nat} : (b.raise n v).power = b.power := rfl
@[simp] theorem Block.port_countFault {g : Nat} : (b.countFault st).port g = b.port g := rfl
@[simp] theorem Block.tenant_countFault {g : Nat} : (b.countFault st).tenant g = b.tenant g := rfl
@[simp] theorem serveParked_tenant (n g : Nat) : (serveParked n b f).tenant g = b.tenant g := by
  simp [Block.tenant]

/-- The response goes behind those of the ring; without a response nothing changes. -/
theorem Block.respond_ring (tag : BitVec 8) (h : st ≤ 1 ∨ ws = []) :
    ((b.respond f tag.toNat quiet st ws).port f).ring = (b.port f).ring ++
      (if quiet = true ∧ st = stDone then [] else [(b.port f).response tag st ws]) := by
  have hw : (if st ≤ 1 then ws else []) = ws := by rcases h with h | h <;> simp [h]
  unfold Block.respond
  by_cases hq : quiet = true ∧ st = stDone
  · simp [hq]
  · have hq' : (quiet && st == stDone) = false := by cases quiet <;> simp_all
    simp only [hq', hq, if_false, Bool.false_eq_true, hw]
    obtain ⟨rd, pk, e⟩ := serveParked_port (f := f)
      (b := ((b.countFault st).modPort f (fun p => p.push tag.toNat st ws)).raise f 0) 8
    rw [e, Block.port_raise, Block.port_modPort]
    rfl

/-- An answer leaves the other ports alone. -/
theorem Block.respond_port_of_ne {g : Nat} (h : g ≠ f) : (b.respond f tag quiet st ws).port g = b.port g := by
  unfold Block.respond
  split
  · rfl
  · dsimp only
    rw [serveParked_port_of_ne h, Block.port_raise, Block.port_modPort_of_ne h, Block.port_countFault]

/-- What an answer leaves of its function's port: what belongs to no response. -/
theorem Block.respond_port : ∃ ring wr rspSeq rd parked, (b.respond f tag quiet st ws).port f =
    { b.port f with ring := ring, wr := wr, rspSeq := rspSeq, rd := rd, parked := parked } := by
  unfold Block.respond
  split
  · exact ⟨_, _, _, _, _, rfl⟩
  · dsimp only
    obtain ⟨rd, pk, e⟩ := serveParked_port (f := f)
      (b := ((b.countFault st).modPort f (fun p => p.push tag st (if st ≤ 1 then ws else []))).raise f 0) 8
    rw [e, Block.port_raise, Block.port_modPort]
    exact ⟨_, _, _, _, _, rfl⟩

theorem Block.respond_tenant_of_ne {g : Nat} (h : g ≠ f) : (b.respond f tag quiet st ws).tenant g = b.tenant g := by
  unfold Block.respond
  split
  · rfl
  · dsimp only
    rw [serveParked_tenant, Block.raise_tenant_of_ne h, Block.tenant_modPort, Block.tenant_countFault]

/-- What an answer leaves of its function's owner state: all but the interrupt status and the due messages. -/
theorem Block.respond_tenant : ∃ is due, (b.respond f tag quiet st ws).tenant f =
    { b.tenant f with intStatus := is, due := due } := by
  unfold Block.respond
  split
  · exact ⟨_, _, rfl⟩
  · dsimp only
    obtain ⟨is, due, h⟩ := Block.raise_tenant (b := (b.countFault st).modPort f
      (fun p => p.push tag st (if st ≤ 1 then ws else []))) (n := f) (v := 0)
    exact ⟨is, due, by rw [serveParked_tenant, h, Block.tenant_modPort, Block.tenant_countFault]⟩

theorem Block.respond_power (h : st ≠ stHwFault) : (b.respond f tag quiet st ws).power = b.power := by
  unfold Block.respond
  split
  · rfl
  · simp [h, Block.countFault]

@[simp] theorem Block.respond_taps : (b.respond f tag quiet st ws).taps = b.taps :=
  Block.taps_of_seen (Block.respond_seen (M := packetAreas) (by decide)) (by decide)
@[simp] theorem Block.respond_views : (b.respond f tag quiet st ws).views = b.views :=
  Block.views_of_seen (Block.respond_seen (M := packetAreas) (by decide)) (by decide)
@[simp] theorem Block.respond_stations : (b.respond f tag quiet st ws).stations = b.stations :=
  Block.stations_of_seen (Block.respond_seen (M := packetAreas) (by decide)) (by decide)
@[simp] theorem Block.respond_quads : (b.respond f tag quiet st ws).quads = b.quads :=
  Block.quads_of_seen (Block.respond_seen (M := packetAreas) (by decide)) (by decide)
@[simp] theorem Block.respond_ctxs : (b.respond f tag quiet st ws).ctxs = b.ctxs :=
  Block.ctxs_of_seen (Block.respond_seen (M := packetAreas) (by decide)) (by decide)
@[simp] theorem Block.respond_cask : (b.respond f tag quiet st ws).cask = b.cask :=
  Block.cask_of_seen (Block.respond_seen (M := packetAreas) (by decide)) (by decide)
@[simp] theorem Block.respond_mash : (b.respond f tag quiet st ws).mash = b.mash :=
  Block.mash_of_seen (Block.respond_seen (M := packetAreas) (by decide)) (by decide)
@[simp] theorem Block.respond_assay : (b.respond f tag quiet st ws).assay = b.assay :=
  Block.assay_of_seen (Block.respond_seen (M := packetAreas) (by decide)) (by decide)
@[simp] theorem Block.respond_sync : (b.respond f tag quiet st ws).sync = b.sync :=
  Block.sync_of_seen (Block.respond_seen (M := packetAreas) (by decide)) (by decide)
@[simp] theorem Block.respond_sparge : (b.respond f tag quiet st ws).sparge = b.sparge :=
  Block.sparge_of_seen (Block.respond_seen (M := packetAreas) (by decide)) (by decide)
@[simp] theorem Block.respond_hop : (b.respond f tag quiet st ws).hop = b.hop :=
  Block.hop_of_seen (Block.respond_seen (M := packetAreas) (by decide)) (by decide)
@[simp] theorem Block.respond_meas : (b.respond f tag quiet st ws).meas = b.meas :=
  Block.meas_of_seen (Block.respond_seen (M := packetAreas) (by decide)) (by decide)
@[simp] theorem Block.respond_time : (b.respond f tag quiet st ws).time = b.time :=
  Block.time_of_seen (Block.respond_seen (M := packetAreas) (by decide)) (by decide)
@[simp] theorem Block.respond_recs : (b.respond f tag quiet st ws).recs = b.recs :=
  Block.recs_of_seen (Block.respond_seen (M := packetAreas) (by decide)) (by decide)
@[simp] theorem Block.respond_held : (b.respond f tag quiet st ws).held = b.held :=
  Block.held_of_seen (Block.respond_seen (M := packetAreas) (by decide)) (by decide)
@[simp] theorem Block.respond_lo : (b.respond f tag quiet st ws).lo = b.lo :=
  Block.lo_of_seen (Block.respond_seen (M := [.ports, .tenants, .power, .out]) (by decide)) (by decide)
@[simp] theorem Block.respond_freeCtr : (b.respond f tag quiet st ws).freeCtr = b.freeCtr :=
  Block.freeCtr_of_seen (Block.respond_seen (M := packetAreas) (by decide)) (by decide)
@[simp] theorem Block.respond_freezes : (b.respond f tag quiet st ws).freezes = b.freezes :=
  (Block.freezes_of_seen (Block.respond_seen (M := packetAreas) (by decide)) (by decide)).1
@[simp] theorem Block.respond_freezeNext : (b.respond f tag quiet st ws).freezeNext = b.freezeNext :=
  (Block.freezes_of_seen (Block.respond_seen (M := packetAreas) (by decide)) (by decide)).2.1
@[simp] theorem Block.respond_freezeLimitUs : (b.respond f tag quiet st ws).freezeLimitUs = b.freezeLimitUs :=
  (Block.freezes_of_seen (Block.respond_seen (M := packetAreas) (by decide)) (by decide)).2.2
@[simp] theorem Block.respond_negotiated {g : Nat} : ((b.respond f tag quiet st ws).port g).negotiated = (b.port g).negotiated := by
  by_cases e : g = f
  · subst e; obtain ⟨_, _, _, _, _, e⟩ := Block.respond_port (b := b) (f := g) (tag := tag) (quiet := quiet) (st := st) (ws := ws); rw [e]
  · rw [Block.respond_port_of_ne e]
@[simp] theorem Block.respond_hdr {g : Nat} : ((b.respond f tag quiet st ws).port g).hdr = (b.port g).hdr := by
  by_cases e : g = f
  · subst e; obtain ⟨_, _, _, _, _, e⟩ := Block.respond_port (b := b) (f := g) (tag := tag) (quiet := quiet) (st := st) (ws := ws); rw [e]
  · rw [Block.respond_port_of_ne e]
@[simp] theorem Block.respond_words {g : Nat} : ((b.respond f tag quiet st ws).port g).words = (b.port g).words := by
  by_cases e : g = f
  · subst e; obtain ⟨_, _, _, _, _, e⟩ := Block.respond_port (b := b) (f := g) (tag := tag) (quiet := quiet) (st := st) (ws := ws); rw [e]
  · rw [Block.respond_port_of_ne e]
@[simp] theorem Block.respond_ignore {g : Nat} : ((b.respond f tag quiet st ws).port g).ignore = (b.port g).ignore := by
  by_cases e : g = f
  · subst e; obtain ⟨_, _, _, _, _, e⟩ := Block.respond_port (b := b) (f := g) (tag := tag) (quiet := quiet) (st := st) (ws := ws); rw [e]
  · rw [Block.respond_port_of_ne e]
@[simp] theorem Block.respond_queue {g : Nat} : ((b.respond f tag quiet st ws).port g).queue = (b.port g).queue := by
  by_cases e : g = f
  · subst e; obtain ⟨_, _, _, _, _, e⟩ := Block.respond_port (b := b) (f := g) (tag := tag) (quiet := quiet) (st := st) (ws := ws); rw [e]
  · rw [Block.respond_port_of_ne e]
@[simp] theorem Block.respond_framing {g : Nat} : ((b.respond f tag quiet st ws).port g).framing = (b.port g).framing := by
  by_cases e : g = f
  · subst e; obtain ⟨_, _, _, _, _, e⟩ := Block.respond_port (b := b) (f := g) (tag := tag) (quiet := quiet) (st := st) (ws := ws); rw [e]
  · rw [Block.respond_port_of_ne e]
@[simp] theorem Block.respond_overrun {g : Nat} : ((b.respond f tag quiet st ws).port g).overrun = (b.port g).overrun := by
  by_cases e : g = f
  · subst e; obtain ⟨_, _, _, _, _, e⟩ := Block.respond_port (b := b) (f := g) (tag := tag) (quiet := quiet) (st := st) (ws := ws); rw [e]
  · rw [Block.respond_port_of_ne e]
@[simp] theorem Block.respond_emptyRead {g : Nat} : ((b.respond f tag quiet st ws).port g).emptyRead = (b.port g).emptyRead := by
  by_cases e : g = f
  · subst e; obtain ⟨_, _, _, _, _, e⟩ := Block.respond_port (b := b) (f := g) (tag := tag) (quiet := quiet) (st := st) (ws := ws); rw [e]
  · rw [Block.respond_port_of_ne e]
@[simp] theorem Block.respond_cmdOverrun {g : Nat} : ((b.respond f tag quiet st ws).port g).cmdOverrun = (b.port g).cmdOverrun := by
  by_cases e : g = f
  · subst e; obtain ⟨_, _, _, _, _, e⟩ := Block.respond_port (b := b) (f := g) (tag := tag) (quiet := quiet) (st := st) (ws := ws); rw [e]
  · rw [Block.respond_port_of_ne e]
@[simp] theorem Block.respond_cmdFraming {g : Nat} : ((b.respond f tag quiet st ws).port g).cmdFraming = (b.port g).cmdFraming := by
  by_cases e : g = f
  · subst e; obtain ⟨_, _, _, _, _, e⟩ := Block.respond_port (b := b) (f := g) (tag := tag) (quiet := quiet) (st := st) (ws := ws); rw [e]
  · rw [Block.respond_port_of_ne e]
@[simp] theorem Block.respond_rspEmpty {g : Nat} : ((b.respond f tag quiet st ws).port g).rspEmpty = (b.port g).rspEmpty := by
  by_cases e : g = f
  · subst e; obtain ⟨_, _, _, _, _, e⟩ := Block.respond_port (b := b) (f := g) (tag := tag) (quiet := quiet) (st := st) (ws := ws); rw [e]
  · rw [Block.respond_port_of_ne e]
@[simp] theorem Block.respond_mark {g : Nat} : ((b.respond f tag quiet st ws).port g).mark = (b.port g).mark := by
  by_cases e : g = f
  · subst e; obtain ⟨_, _, _, _, _, e⟩ := Block.respond_port (b := b) (f := g) (tag := tag) (quiet := quiet) (st := st) (ws := ws); rw [e]
  · rw [Block.respond_port_of_ne e]
@[simp] theorem Block.respond_rel {g : Nat} : ((b.respond f tag quiet st ws).port g).rel = (b.port g).rel := by
  by_cases e : g = f
  · subst e; obtain ⟨_, _, _, _, _, e⟩ := Block.respond_port (b := b) (f := g) (tag := tag) (quiet := quiet) (st := st) (ws := ws); rw [e]
  · rw [Block.respond_port_of_ne e]
@[simp] theorem Block.respond_stallNs {g : Nat} : ((b.respond f tag quiet st ws).port g).stallNs = (b.port g).stallNs := by
  by_cases e : g = f
  · subst e; obtain ⟨_, _, _, _, _, e⟩ := Block.respond_port (b := b) (f := g) (tag := tag) (quiet := quiet) (st := st) (ws := ws); rw [e]
  · rw [Block.respond_port_of_ne e]
@[simp] theorem Block.respond_longs {g : Nat} : ((b.respond f tag quiet st ws).port g).longs = (b.port g).longs := by
  by_cases e : g = f
  · subst e; obtain ⟨_, _, _, _, _, e⟩ := Block.respond_port (b := b) (f := g) (tag := tag) (quiet := quiet) (st := st) (ws := ws); rw [e]
  · rw [Block.respond_port_of_ne e]

@[simp] theorem Block.respond_tenant_epoch {g : Nat} : ((b.respond f tag quiet st ws).tenant g).epoch = (b.tenant g).epoch := by
  by_cases e : g = f
  · subst e; obtain ⟨_, _, e⟩ := Block.respond_tenant (b := b) (f := g) (tag := tag) (quiet := quiet) (st := st) (ws := ws); rw [e]
  · rw [Block.respond_tenant_of_ne e]
@[simp] theorem Block.respond_tenant_resetting {g : Nat} : ((b.respond f tag quiet st ws).tenant g).resetting = (b.tenant g).resetting := by
  by_cases e : g = f
  · subst e; obtain ⟨_, _, e⟩ := Block.respond_tenant (b := b) (f := g) (tag := tag) (quiet := quiet) (st := st) (ws := ws); rw [e]
  · rw [Block.respond_tenant_of_ne e]
@[simp] theorem Block.respond_tenant_step2Due {g : Nat} : ((b.respond f tag quiet st ws).tenant g).step2Due = (b.tenant g).step2Due := by
  by_cases e : g = f
  · subst e; obtain ⟨_, _, e⟩ := Block.respond_tenant (b := b) (f := g) (tag := tag) (quiet := quiet) (st := st) (ws := ws); rw [e]
  · rw [Block.respond_tenant_of_ne e]
@[simp] theorem Block.respond_tenant_oldEpoch {g : Nat} : ((b.respond f tag quiet st ws).tenant g).oldEpoch = (b.tenant g).oldEpoch := by
  by_cases e : g = f
  · subst e; obtain ⟨_, _, e⟩ := Block.respond_tenant (b := b) (f := g) (tag := tag) (quiet := quiet) (st := st) (ws := ws); rw [e]
  · rw [Block.respond_tenant_of_ne e]
@[simp] theorem Block.respond_tenant_scrubCh {g : Nat} : ((b.respond f tag quiet st ws).tenant g).scrubCh = (b.tenant g).scrubCh := by
  by_cases e : g = f
  · subst e; obtain ⟨_, _, e⟩ := Block.respond_tenant (b := b) (f := g) (tag := tag) (quiet := quiet) (st := st) (ws := ws); rw [e]
  · rw [Block.respond_tenant_of_ne e]
@[simp] theorem Block.respond_tenant_frPend {g : Nat} : ((b.respond f tag quiet st ws).tenant g).frPend = (b.tenant g).frPend := by
  by_cases e : g = f
  · subst e; obtain ⟨_, _, e⟩ := Block.respond_tenant (b := b) (f := g) (tag := tag) (quiet := quiet) (st := st) (ws := ws); rw [e]
  · rw [Block.respond_tenant_of_ne e]
@[simp] theorem Block.respond_tenant_rstWait {g : Nat} : ((b.respond f tag quiet st ws).tenant g).rstWait = (b.tenant g).rstWait := by
  by_cases e : g = f
  · subst e; obtain ⟨_, _, e⟩ := Block.respond_tenant (b := b) (f := g) (tag := tag) (quiet := quiet) (st := st) (ws := ws); rw [e]
  · rw [Block.respond_tenant_of_ne e]
@[simp] theorem Block.respond_tenant_frAck {g : Nat} : ((b.respond f tag quiet st ws).tenant g).frAck = (b.tenant g).frAck := by
  by_cases e : g = f
  · subst e; obtain ⟨_, _, e⟩ := Block.respond_tenant (b := b) (f := g) (tag := tag) (quiet := quiet) (st := st) (ws := ws); rw [e]
  · rw [Block.respond_tenant_of_ne e]
@[simp] theorem Block.respond_tenant_scrubQ {g : Nat} : ((b.respond f tag quiet st ws).tenant g).scrubQ = (b.tenant g).scrubQ := by
  by_cases e : g = f
  · subst e; obtain ⟨_, _, e⟩ := Block.respond_tenant (b := b) (f := g) (tag := tag) (quiet := quiet) (st := st) (ws := ws); rw [e]
  · rw [Block.respond_tenant_of_ne e]
@[simp] theorem Block.respond_tenant_scrubResult {g : Nat} : ((b.respond f tag quiet st ws).tenant g).scrubResult = (b.tenant g).scrubResult := by
  by_cases e : g = f
  · subst e; obtain ⟨_, _, e⟩ := Block.respond_tenant (b := b) (f := g) (tag := tag) (quiet := quiet) (st := st) (ws := ws); rw [e]
  · rw [Block.respond_tenant_of_ne e]
@[simp] theorem Block.respond_tenant_qos {g : Nat} : ((b.respond f tag quiet st ws).tenant g).qos = (b.tenant g).qos := by
  by_cases e : g = f
  · subst e; obtain ⟨_, _, e⟩ := Block.respond_tenant (b := b) (f := g) (tag := tag) (quiet := quiet) (st := st) (ws := ws); rw [e]
  · rw [Block.respond_tenant_of_ne e]
@[simp] theorem Block.respond_tenant_quota {g : Nat} : ((b.respond f tag quiet st ws).tenant g).quota = (b.tenant g).quota := by
  by_cases e : g = f
  · subst e; obtain ⟨_, _, e⟩ := Block.respond_tenant (b := b) (f := g) (tag := tag) (quiet := quiet) (st := st) (ws := ws); rw [e]
  · rw [Block.respond_tenant_of_ne e]
@[simp] theorem Block.respond_tenant_budget {g : Nat} : ((b.respond f tag quiet st ws).tenant g).budget = (b.tenant g).budget := by
  by_cases e : g = f
  · subst e; obtain ⟨_, _, e⟩ := Block.respond_tenant (b := b) (f := g) (tag := tag) (quiet := quiet) (st := st) (ws := ws); rw [e]
  · rw [Block.respond_tenant_of_ne e]
@[simp] theorem Block.respond_tenant_poolMin {g : Nat} : ((b.respond f tag quiet st ws).tenant g).poolMin = (b.tenant g).poolMin := by
  by_cases e : g = f
  · subst e; obtain ⟨_, _, e⟩ := Block.respond_tenant (b := b) (f := g) (tag := tag) (quiet := quiet) (st := st) (ws := ws); rw [e]
  · rw [Block.respond_tenant_of_ne e]
@[simp] theorem Block.respond_tenant_poolMax {g : Nat} : ((b.respond f tag quiet st ws).tenant g).poolMax = (b.tenant g).poolMax := by
  by_cases e : g = f
  · subst e; obtain ⟨_, _, e⟩ := Block.respond_tenant (b := b) (f := g) (tag := tag) (quiet := quiet) (st := st) (ws := ws); rw [e]
  · rw [Block.respond_tenant_of_ne e]
@[simp] theorem Block.respond_tenant_intRate {g : Nat} : ((b.respond f tag quiet st ws).tenant g).intRate = (b.tenant g).intRate := by
  by_cases e : g = f
  · subst e; obtain ⟨_, _, e⟩ := Block.respond_tenant (b := b) (f := g) (tag := tag) (quiet := quiet) (st := st) (ws := ws); rw [e]
  · rw [Block.respond_tenant_of_ne e]
@[simp] theorem Block.respond_tenant_intBurst {g : Nat} : ((b.respond f tag quiet st ws).tenant g).intBurst = (b.tenant g).intBurst := by
  by_cases e : g = f
  · subst e; obtain ⟨_, _, e⟩ := Block.respond_tenant (b := b) (f := g) (tag := tag) (quiet := quiet) (st := st) (ws := ws); rw [e]
  · rw [Block.respond_tenant_of_ne e]
@[simp] theorem Block.respond_tenant_tokens {g : Nat} : ((b.respond f tag quiet st ws).tenant g).tokens = (b.tenant g).tokens := by
  by_cases e : g = f
  · subst e; obtain ⟨_, _, e⟩ := Block.respond_tenant (b := b) (f := g) (tag := tag) (quiet := quiet) (st := st) (ws := ws); rw [e]
  · rw [Block.respond_tenant_of_ne e]
@[simp] theorem Block.respond_tenant_tokenGt {g : Nat} : ((b.respond f tag quiet st ws).tenant g).tokenGt = (b.tenant g).tokenGt := by
  by_cases e : g = f
  · subst e; obtain ⟨_, _, e⟩ := Block.respond_tenant (b := b) (f := g) (tag := tag) (quiet := quiet) (st := st) (ws := ws); rw [e]
  · rw [Block.respond_tenant_of_ne e]
@[simp] theorem Block.respond_tenant_intEnable {g : Nat} : ((b.respond f tag quiet st ws).tenant g).intEnable = (b.tenant g).intEnable := by
  by_cases e : g = f
  · subst e; obtain ⟨_, _, e⟩ := Block.respond_tenant (b := b) (f := g) (tag := tag) (quiet := quiet) (st := st) (ws := ws); rw [e]
  · rw [Block.respond_tenant_of_ne e]
@[simp] theorem Block.respond_tenant_deferred {g : Nat} : ((b.respond f tag quiet st ws).tenant g).deferred = (b.tenant g).deferred := by
  by_cases e : g = f
  · subst e; obtain ⟨_, _, e⟩ := Block.respond_tenant (b := b) (f := g) (tag := tag) (quiet := quiet) (st := st) (ws := ws); rw [e]
  · rw [Block.respond_tenant_of_ne e]
@[simp] theorem Block.respond_tenant_deferring {g : Nat} : ((b.respond f tag quiet st ws).tenant g).deferring = (b.tenant g).deferring := by
  by_cases e : g = f
  · subst e; obtain ⟨_, _, e⟩ := Block.respond_tenant (b := b) (f := g) (tag := tag) (quiet := quiet) (st := st) (ws := ws); rw [e]
  · rw [Block.respond_tenant_of_ne e]
@[simp] theorem Block.respond_tenant_violations {g : Nat} : ((b.respond f tag quiet st ws).tenant g).violations = (b.tenant g).violations := by
  by_cases e : g = f
  · subst e; obtain ⟨_, _, e⟩ := Block.respond_tenant (b := b) (f := g) (tag := tag) (quiet := quiet) (st := st) (ws := ws); rw [e]
  · rw [Block.respond_tenant_of_ne e]
@[simp] theorem Block.respond_tenant_viewSel {g : Nat} : ((b.respond f tag quiet st ws).tenant g).viewSel = (b.tenant g).viewSel := by
  by_cases e : g = f
  · subst e; obtain ⟨_, _, e⟩ := Block.respond_tenant (b := b) (f := g) (tag := tag) (quiet := quiet) (st := st) (ws := ws); rw [e]
  · rw [Block.respond_tenant_of_ne e]
@[simp] theorem Block.respond_tenant_viewVal {g : Nat} : ((b.respond f tag quiet st ws).tenant g).viewVal = (b.tenant g).viewVal := by
  by_cases e : g = f
  · subst e; obtain ⟨_, _, e⟩ := Block.respond_tenant (b := b) (f := g) (tag := tag) (quiet := quiet) (st := st) (ws := ws); rw [e]
  · rw [Block.respond_tenant_of_ne e]
@[simp] theorem Block.respond_tenant_viewRefused {g : Nat} : ((b.respond f tag quiet st ws).tenant g).viewRefused = (b.tenant g).viewRefused := by
  by_cases e : g = f
  · subst e; obtain ⟨_, _, e⟩ := Block.respond_tenant (b := b) (f := g) (tag := tag) (quiet := quiet) (st := st) (ws := ws); rw [e]
  · rw [Block.respond_tenant_of_ne e]
@[simp] theorem Block.respond_tenant_viewLost {g : Nat} : ((b.respond f tag quiet st ws).tenant g).viewLost = (b.tenant g).viewLost := by
  by_cases e : g = f
  · subst e; obtain ⟨_, _, e⟩ := Block.respond_tenant (b := b) (f := g) (tag := tag) (quiet := quiet) (st := st) (ws := ws); rw [e]
  · rw [Block.respond_tenant_of_ne e]
@[simp] theorem Block.respond_tenant_viewAny {g : Nat} : ((b.respond f tag quiet st ws).tenant g).viewAny = (b.tenant g).viewAny := by
  by_cases e : g = f
  · subst e; obtain ⟨_, _, e⟩ := Block.respond_tenant (b := b) (f := g) (tag := tag) (quiet := quiet) (st := st) (ws := ws); rw [e]
  · rw [Block.respond_tenant_of_ne e]
@[simp] theorem Block.respond_tenant_refreshGt {g : Nat} : ((b.respond f tag quiet st ws).tenant g).refreshGt = (b.tenant g).refreshGt := by
  by_cases e : g = f
  · subst e; obtain ⟨_, _, e⟩ := Block.respond_tenant (b := b) (f := g) (tag := tag) (quiet := quiet) (st := st) (ws := ws); rw [e]
  · rw [Block.respond_tenant_of_ne e]
@[simp] theorem Block.respond_tenant_refreshSeq {g : Nat} : ((b.respond f tag quiet st ws).tenant g).refreshSeq = (b.tenant g).refreshSeq := by
  by_cases e : g = f
  · subst e; obtain ⟨_, _, e⟩ := Block.respond_tenant (b := b) (f := g) (tag := tag) (quiet := quiet) (st := st) (ws := ws); rw [e]
  · rw [Block.respond_tenant_of_ne e]
@[simp] theorem Block.respond_tenant_hold {g : Nat} : ((b.respond f tag quiet st ws).tenant g).hold = (b.tenant g).hold := by
  by_cases e : g = f
  · subst e; obtain ⟨_, _, e⟩ := Block.respond_tenant (b := b) (f := g) (tag := tag) (quiet := quiet) (st := st) (ws := ws); rw [e]
  · rw [Block.respond_tenant_of_ne e]
@[simp] theorem Block.respond_tenant_locked {g : Nat} : ((b.respond f tag quiet st ws).tenant g).locked = (b.tenant g).locked := by
  by_cases e : g = f
  · subst e; obtain ⟨_, _, e⟩ := Block.respond_tenant (b := b) (f := g) (tag := tag) (quiet := quiet) (st := st) (ws := ws); rw [e]
  · rw [Block.respond_tenant_of_ne e]
@[simp] theorem Block.respond_tenant_cfgChanged {g : Nat} : ((b.respond f tag quiet st ws).tenant g).cfgChanged = (b.tenant g).cfgChanged := by
  by_cases e : g = f
  · subst e; obtain ⟨_, _, e⟩ := Block.respond_tenant (b := b) (f := g) (tag := tag) (quiet := quiet) (st := st) (ws := ws); rw [e]
  · rw [Block.respond_tenant_of_ne e]
@[simp] theorem Block.respond_tenant_fmt2 {g : Nat} : ((b.respond f tag quiet st ws).tenant g).fmt2 = (b.tenant g).fmt2 := by
  by_cases e : g = f
  · subst e; obtain ⟨_, _, e⟩ := Block.respond_tenant (b := b) (f := g) (tag := tag) (quiet := quiet) (st := st) (ws := ws); rw [e]
  · rw [Block.respond_tenant_of_ne e]
@[simp] theorem Block.respond_tenant_mode {g : Nat} : ((b.respond f tag quiet st ws).tenant g).mode = (b.tenant g).mode := by
  by_cases e : g = f
  · subst e; obtain ⟨_, _, e⟩ := Block.respond_tenant (b := b) (f := g) (tag := tag) (quiet := quiet) (st := st) (ws := ws); rw [e]
  · rw [Block.respond_tenant_of_ne e]
@[simp] theorem Block.respond_tenant_flushUs {g : Nat} : ((b.respond f tag quiet st ws).tenant g).flushUs = (b.tenant g).flushUs := by
  by_cases e : g = f
  · subst e; obtain ⟨_, _, e⟩ := Block.respond_tenant (b := b) (f := g) (tag := tag) (quiet := quiet) (st := st) (ws := ws); rw [e]
  · rw [Block.respond_tenant_of_ne e]
@[simp] theorem Block.respond_tenant_rsv {g : Nat} : ((b.respond f tag quiet st ws).tenant g).rsv = (b.tenant g).rsv := by
  by_cases e : g = f
  · subst e; obtain ⟨_, _, e⟩ := Block.respond_tenant (b := b) (f := g) (tag := tag) (quiet := quiet) (st := st) (ws := ws); rw [e]
  · rw [Block.respond_tenant_of_ne e]
@[simp] theorem Block.respond_tenant_caskHold {g : Nat} : ((b.respond f tag quiet st ws).tenant g).caskHold = (b.tenant g).caskHold := by
  by_cases e : g = f
  · subst e; obtain ⟨_, _, e⟩ := Block.respond_tenant (b := b) (f := g) (tag := tag) (quiet := quiet) (st := st) (ws := ws); rw [e]
  · rw [Block.respond_tenant_of_ne e]
@[simp] theorem Block.respond_tenant_trigTrunc {g : Nat} : ((b.respond f tag quiet st ws).tenant g).trigTrunc = (b.tenant g).trigTrunc := by
  by_cases e : g = f
  · subst e; obtain ⟨_, _, e⟩ := Block.respond_tenant (b := b) (f := g) (tag := tag) (quiet := quiet) (st := st) (ws := ws); rw [e]
  · rw [Block.respond_tenant_of_ne e]
@[simp] theorem Block.respond_tenant_trigOldest {g : Nat} : ((b.respond f tag quiet st ws).tenant g).trigOldest = (b.tenant g).trigOldest := by
  by_cases e : g = f
  · subst e; obtain ⟨_, _, e⟩ := Block.respond_tenant (b := b) (f := g) (tag := tag) (quiet := quiet) (st := st) (ws := ws); rw [e]
  · rw [Block.respond_tenant_of_ne e]
@[simp] theorem Block.respond_tenant_rsvShort {g : Nat} : ((b.respond f tag quiet st ws).tenant g).rsvShort = (b.tenant g).rsvShort := by
  by_cases e : g = f
  · subst e; obtain ⟨_, _, e⟩ := Block.respond_tenant (b := b) (f := g) (tag := tag) (quiet := quiet) (st := st) (ws := ws); rw [e]
  · rw [Block.respond_tenant_of_ne e]
@[simp] theorem Block.respond_tenant_rsvCut {g : Nat} : ((b.respond f tag quiet st ws).tenant g).rsvCut = (b.tenant g).rsvCut := by
  by_cases e : g = f
  · subst e; obtain ⟨_, _, e⟩ := Block.respond_tenant (b := b) (f := g) (tag := tag) (quiet := quiet) (st := st) (ws := ws); rw [e]
  · rw [Block.respond_tenant_of_ne e]
@[simp] theorem Block.respond_tenant_evicted {g : Nat} : ((b.respond f tag quiet st ws).tenant g).evicted = (b.tenant g).evicted := by
  by_cases e : g = f
  · subst e; obtain ⟨_, _, e⟩ := Block.respond_tenant (b := b) (f := g) (tag := tag) (quiet := quiet) (st := st) (ws := ws); rw [e]
  · rw [Block.respond_tenant_of_ne e]
@[simp] theorem Block.respond_tenant_refused {g : Nat} : ((b.respond f tag quiet st ws).tenant g).refused = (b.tenant g).refused := by
  by_cases e : g = f
  · subst e; obtain ⟨_, _, e⟩ := Block.respond_tenant (b := b) (f := g) (tag := tag) (quiet := quiet) (st := st) (ws := ws); rw [e]
  · rw [Block.respond_tenant_of_ne e]
@[simp] theorem Block.respond_tenant_pageLost {g : Nat} : ((b.respond f tag quiet st ws).tenant g).pageLost = (b.tenant g).pageLost := by
  by_cases e : g = f
  · subst e; obtain ⟨_, _, e⟩ := Block.respond_tenant (b := b) (f := g) (tag := tag) (quiet := quiet) (st := st) (ws := ws); rw [e]
  · rw [Block.respond_tenant_of_ne e]
@[simp] theorem Block.respond_tenant_pageSeq {g : Nat} : ((b.respond f tag quiet st ws).tenant g).pageSeq = (b.tenant g).pageSeq := by
  by_cases e : g = f
  · subst e; obtain ⟨_, _, e⟩ := Block.respond_tenant (b := b) (f := g) (tag := tag) (quiet := quiet) (st := st) (ws := ws); rw [e]
  · rw [Block.respond_tenant_of_ne e]
@[simp] theorem Block.respond_tenant_epochFirst {g : Nat} : ((b.respond f tag quiet st ws).tenant g).epochFirst = (b.tenant g).epochFirst := by
  by_cases e : g = f
  · subst e; obtain ⟨_, _, e⟩ := Block.respond_tenant (b := b) (f := g) (tag := tag) (quiet := quiet) (st := st) (ws := ws); rw [e]
  · rw [Block.respond_tenant_of_ne e]
@[simp] theorem Block.respond_tenant_verFirst {g : Nat} : ((b.respond f tag quiet st ws).tenant g).verFirst = (b.tenant g).verFirst := by
  by_cases e : g = f
  · subst e; obtain ⟨_, _, e⟩ := Block.respond_tenant (b := b) (f := g) (tag := tag) (quiet := quiet) (st := st) (ws := ws); rw [e]
  · rw [Block.respond_tenant_of_ne e]
@[simp] theorem Block.respond_tenant_rseq {g : Nat} : ((b.respond f tag quiet st ws).tenant g).rseq = (b.tenant g).rseq := by
  by_cases e : g = f
  · subst e; obtain ⟨_, _, e⟩ := Block.respond_tenant (b := b) (f := g) (tag := tag) (quiet := quiet) (st := st) (ws := ws); rw [e]
  · rw [Block.respond_tenant_of_ne e]
@[simp] theorem Block.respond_tap {n : Nat} : (b.respond f tag quiet st ws).tap n = b.tap n := by simp [Block.tap]
@[simp] theorem Block.respond_view {n : Nat} : (b.respond f tag quiet st ws).view n = b.view n := by simp [Block.view]
@[simp] theorem Block.respond_station {n : Nat} : (b.respond f tag quiet st ws).station n = b.station n := by simp [Block.station]
@[simp] theorem Block.respond_quad {n : Nat} : (b.respond f tag quiet st ws).quad n = b.quad n := by simp [Block.quad]
@[simp] theorem Block.respond_page {n : Nat} : (b.respond f tag quiet st ws).page n = b.page n := by simp [Block.page]
@[simp] theorem Block.respond_chan {n : Nat} : (b.respond f tag quiet st ws).chan n = b.chan n := by simp [Block.chan]
@[simp] theorem Block.respond_hopPort {n : Nat} : (b.respond f tag quiet st ws).hopPort n = b.hopPort n := by simp [Block.hopPort]
@[simp] theorem Block.respond_unit {n : Nat} : (b.respond f tag quiet st ws).unit n = b.unit n := by simp [Block.unit]
@[simp] theorem Block.respond_slot {n : Nat} : (b.respond f tag quiet st ws).slot n = b.slot n := by simp [Block.slot]
@[simp] theorem Block.respond_obj {n : Nat} : (b.respond f tag quiet st ws).obj n = b.obj n := by simp [Block.obj]
@[simp] theorem Block.respond_freezeSlot {n : Nat} : (b.respond f tag quiet st ws).freezeSlot n = b.freezeSlot n := by simp [Block.freezeSlot]

/-! ### A packet that is heard -/

/-- The block as the body of a packet finds it: the packet has gone through the queue, and its function was served last. -/
def Block.begun (b : Block) (op f : Nat) (p : Pkt) : Block :=
  (((b.unlatch f).modPort f (fun x => { x with queue := x.queue ++ [{ opcode := op, pkt := p, bytesOk := true }] })).modPort f
    (fun x => { x with queue := [] })).modPower (·.served f b.gt)

variable {op : Nat} {p : Pkt}

theorem Block.begun_port (h : (b.port f).queue = []) (g : Nat) : (b.begun op f p).port g = b.port g := by
  unfold Block.begun
  rw [Block.port_modPower]
  by_cases e : g = f
  · subst e
    rw [Block.port_modPort, Block.port_modPort, Block.port_unlatch]
    cases x : b.port g
    simp_all
  · rw [Block.port_modPort_of_ne e, Block.port_modPort_of_ne e, Block.port_unlatch]

theorem Block.begun_power : (b.begun op f p).power = b.power.served f b.gt := rfl

@[simp] theorem Block.begun_taps : (b.begun op f p).taps = b.taps := rfl
@[simp] theorem Block.begun_views : (b.begun op f p).views = b.views := rfl
@[simp] theorem Block.begun_stations : (b.begun op f p).stations = b.stations := rfl
@[simp] theorem Block.begun_quads : (b.begun op f p).quads = b.quads := rfl
@[simp] theorem Block.begun_ctxs : (b.begun op f p).ctxs = b.ctxs := rfl
@[simp] theorem Block.begun_cask : (b.begun op f p).cask = b.cask := rfl
@[simp] theorem Block.begun_mash : (b.begun op f p).mash = b.mash := rfl
@[simp] theorem Block.begun_assay : (b.begun op f p).assay = b.assay := rfl
@[simp] theorem Block.begun_sync : (b.begun op f p).sync = b.sync := rfl
@[simp] theorem Block.begun_freezes : (b.begun op f p).freezes = b.freezes := rfl
@[simp] theorem Block.begun_freezeNext : (b.begun op f p).freezeNext = b.freezeNext := rfl
@[simp] theorem Block.begun_freezeLimitUs : (b.begun op f p).freezeLimitUs = b.freezeLimitUs := rfl
@[simp] theorem Block.begun_tenants : (b.begun op f p).tenants = b.tenants := rfl
@[simp] theorem Block.begun_sparge : (b.begun op f p).sparge = b.sparge := rfl
@[simp] theorem Block.begun_hop : (b.begun op f p).hop = b.hop := rfl
@[simp] theorem Block.begun_meas : (b.begun op f p).meas = b.meas := rfl
@[simp] theorem Block.begun_time : (b.begun op f p).time = b.time := rfl
@[simp] theorem Block.begun_recs : (b.begun op f p).recs = b.recs := rfl
@[simp] theorem Block.begun_held : (b.begun op f p).held = b.held := rfl
@[simp] theorem Block.begun_lo : (b.begun op f p).lo = tdel b.lo f := rfl
@[simp] theorem Block.begun_absent : (b.begun op f p).absent = b.absent := rfl
@[simp] theorem Block.begun_regionOf : (b.begun op f p).regionOf = b.regionOf := rfl
@[simp] theorem Block.begun_out : (b.begun op f p).out = b.out := rfl
@[simp] theorem Block.begun_freeCtr : (b.begun op f p).freeCtr = b.freeCtr := rfl
@[simp] theorem Block.begun_tap {n : Nat} : (b.begun op f p).tap n = b.tap n := rfl
@[simp] theorem Block.begun_view {n : Nat} : (b.begun op f p).view n = b.view n := rfl
@[simp] theorem Block.begun_station {n : Nat} : (b.begun op f p).station n = b.station n := rfl
@[simp] theorem Block.begun_quad {n : Nat} : (b.begun op f p).quad n = b.quad n := rfl
@[simp] theorem Block.begun_tenant {n : Nat} : (b.begun op f p).tenant n = b.tenant n := rfl
@[simp] theorem Block.begun_page {n : Nat} : (b.begun op f p).page n = b.page n := rfl
@[simp] theorem Block.begun_chan {n : Nat} : (b.begun op f p).chan n = b.chan n := rfl
@[simp] theorem Block.begun_hopPort {n : Nat} : (b.begun op f p).hopPort n = b.hopPort n := rfl
@[simp] theorem Block.begun_unit {n : Nat} : (b.begun op f p).unit n = b.unit n := rfl
@[simp] theorem Block.begun_slot {n : Nat} : (b.begun op f p).slot n = b.slot n := rfl
@[simp] theorem Block.begun_obj {n : Nat} : (b.begun op f p).obj n = b.obj n := rfl
@[simp] theorem Block.begun_freezeSlot {n : Nat} : (b.begun op f p).freezeSlot n = b.freezeSlot n := rfl
@[simp] theorem Block.begun_gt : (b.begun op f p).gt = b.gt := rfl

theorem Block.begun_seen {away : List Area} :
    (b.begun op f p).seen (away ++ packetAreas) = b.seen (away ++ packetAreas) := by
  have h : ∀ x, x ∈ packetAreas → Area.sub [x] (away ++ packetAreas) = true := fun x hx =>
    Area.sub_iff.2 (fun y hy => by rw [List.mem_singleton.1 hy]; exact List.mem_append_right _ hx)
  unfold Block.begun
  rw [Block.modPower_seen (h _ (by decide)), Block.modPort_seen (h _ (by decide)), Block.modPort_seen (h _ (by decide)),
    Block.unlatch_seen (h _ (by decide))]

/-- What holds back nothing starts: the packet is taken at once. -/
theorem Block.submit_takes {res : Nat} {long : Bool} (h : b.takes f p res long)
    (hr : ∀ e, catalogue op = some e → e.res p.params.length ≤ res)
    (hl : ∀ e, catalogue op = some e → e.long { f := f, tag := 0, ws := p.params, bytes := 0 } = true → long = true) :
    b.submit catalogue op f p =
      match (b.begun op f p).carryOut catalogue f { opcode := op, pkt := p, bytesOk := true } with
      | (.done st ws, b) => b.respond f p.tag.toNat (bit p.flags 1) st ws
      | (.long kind, b) =>
        (b.modPort f (fun x => { x with longs := x.longs ++
          [{ tag := p.tag.toNat, quiet := bit p.flags 1, lines := rsvLines catalogue { opcode := op, pkt := p, bytesOk := true }
             order := b.power.longOrder, kind := kind }] })).modPower (fun x => { x with longOrder := x.longOrder + 1 }) := by
  obtain ⟨h1, h2, ht, h3, h4, h5, h6, h7, h8⟩ := h
  have hrun : b.running = true := by
    revert h1; unfold Block.serving; cases b.running <;> simp
  have hdeaf : b.deaf = false := by
    simp only [Block.running, Bool.and_eq_true, beq_iff_eq, Bool.not_eq_true'] at hrun
    simp [Block.deaf, hrun]
  have hrsv : (b.port f).usedLines + rsvLines catalogue { opcode := op, pkt := p, bytesOk := true } ≤ 32 := by
    refine Nat.le_trans (Nat.add_le_add_left ?_ _) h6
    unfold rsvLines
    dsimp only
    split
    · exact Nat.le_refl _
    · split
      · rename_i e he
        have := hr e he
        unfold linesOf cdiv
        omega
      · unfold linesOf cdiv
        omega
  unfold Block.submit
  simp only [hdeaf, h3, Bool.or_self, Bool.false_eq_true, if_false, Int.not_lt.2 h5]
  have hp : ((b.unlatch f).modPort f (fun x => { x with queue := x.queue ++ [{ opcode := op, pkt := p, bytesOk := true }] })).port f =
      { b.port f with queue := [{ opcode := op, pkt := p, bytesOk := true }] } := by
    rw [Block.port_modPort, Block.port_unlatch, h4]; rfl
  have hr2 : ((b.unlatch f).modPort f (fun x => { x with queue := x.queue ++ [{ opcode := op, pkt := p, bytesOk := true }] })).running = true := hrun
  have hs : ((b.unlatch f).modPort f (fun x => { x with queue := x.queue ++ [{ opcode := op, pkt := p, bytesOk := true }] })).startable catalogue f = true := by
    unfold Block.startable
    rw [hp]
    have h1' : ((b.unlatch f).modPort f (fun x => { x with queue := x.queue ++ [{ opcode := op, pkt := p, bytesOk := true }] })).serving = true := h1
    have h2' : ((b.unlatch f).modPort f (fun x => { x with queue := x.queue ++ [{ opcode := op, pkt := p, bytesOk := true }] })).dead = false := h2
    have hu : ({ b.port f with queue := [{ opcode := op, pkt := p, bytesOk := true }] } : Port).usedLines = (b.port f).usedLines := rfl
    simp only [h1', h2', hu, hrsv, decide_true, Bool.true_and, Bool.false_or, Bool.and_eq_true, Bool.or_eq_true,
      Bool.not_eq_true', List.isEmpty_iff, decide_eq_true_eq]
    refine ⟨?_, ?_⟩
    · cases hb : bit p.flags 0
      · exact .inl rfl
      · exact .inr (h7 hb)
    · cases he : catalogue op with
      | none => exact .inr rfl
      | some e =>
        dsimp only
        cases hlg : e.long { f := f, tag := 0, ws := p.params, bytes := 0 }
        · exact .inr rfl
        · exact .inl (h8 (hl e he hlg))
  have hx : ((b.unlatch f).modPort f (fun x => { x with queue := x.queue ++ [{ opcode := op, pkt := p, bytesOk := true }] })).nextFn catalogue =
      some f := by
    refine Eq.trans ?_ (beq_iff_eq.1 ht)
    unfold Block.nextFn
    refine congrArg (fun q => List.find? q _) (funext (fun g => ?_))
    by_cases hg : g = f
    · subst hg; simp [hs]
    · simp only [hg, decide_false, Bool.false_or, Block.startable, Block.port_modPort_of_ne hg, Block.port_unlatch]
      rfl
  simp only [hr2, Bool.not_true, Bool.false_eq_true, if_false, hp, hx, List.length_singleton, decide_true, Bool.and_self, if_true]
  unfold Block.takePacket
  rw [hp]
  rfl

/-- The checks let a whole packet of a negotiated port through to the body (R313, R317, R333). -/
theorem Block.carryOut_ok {B : Block} {cat : Nat → Option Cmd} {e : Cmd} (hd : B.dead = false)
    (hn : (B.port f).negotiated = true ∨ op = 0) (hv : p.params = [] ∨ p.lastStrb = 15) (he : cat op = some e)
    (hlo : e.lo ≤ p.params.length) (hhi : p.params.length ≤ e.hi) (hr : e.range (callOf f p) = true)
    (hp : f = 64 ∨ e.priv = .all ∨ (e.priv = .own ∧ e.owns (callOf f p) B = true)) :
    B.carryOut cat f { opcode := op, pkt := p, bytesOk := true } = e.body (callOf f p) B := by
  have hb : PoolPkt.validBytes { opcode := op, pkt := p, bytesOk := true } = some (4 * p.params.length) := by
    unfold PoolPkt.validBytes
    rcases hv with h | h <;> simp [h]
  have hp' : (decide (f = 64) || decide (e.priv = .all) || (decide (e.priv = .own) && e.owns (callOf f p) B)) = true := by
    rcases hp with h | h | ⟨h, g⟩ <;> simp [*]
  unfold Block.carryOut
  simp only [hd, hb, he, Bool.false_eq_true, if_false]
  have c1 : ({ f := f, tag := p.tag.toNat, ws := p.params, bytes := 4 * p.params.length } : Call) = callOf f p := rfl
  simp only [c1, hr, Bool.not_true]
  have hl : ¬(p.params.length < e.lo ∨ e.hi < p.params.length) := by omega
  have hn2 : ¬((B.port f).negotiated = false ∧ ¬op = 0) := by rcases hn with h | h <;> simp [h]
  simp only [hp', if_true, Bool.or_eq_true, Bool.and_eq_true, decide_eq_true_eq, Bool.not_eq_true', ne_eq, hl, hn2,
    if_false, Bool.false_eq_true]

/-- A command that is heard and passes its checks is carried out and answered at once. -/
theorem Block.submit_done {e : Cmd} {res : Nat} {long : Bool} {c : Block} (h : b.hears f p res long)
    (he : catalogue op = some e) (hres : e.res p.params.length ≤ res) (hl : e.long { f := f, tag := 0, ws := p.params, bytes := 0 } = true → long = true)
    (hlo : e.lo ≤ p.params.length) (hhi : p.params.length ≤ e.hi) (hr : e.range (callOf f p) = true)
    (hp : f = 64 ∨ e.priv = .all ∨ (e.priv = .own ∧ e.owns (callOf f p) (b.begun op f p) = true))
    (hb : e.body (callOf f p) (b.begun op f p) = (.done st ws, c)) :
    b.submit catalogue op f p = c.respond f p.tag.toNat (bit p.flags 1) st ws := by
  have hd : (b.begun op f p).dead = false := h.1.2.1
  have hn : ((b.begun op f p).port f).negotiated = true := by rw [Block.begun_port h.1.2.2.2.2.1]; exact h.2.1
  rw [Block.submit_takes h.1 (fun x hx => by rw [he] at hx; cases hx; exact hres)
    (fun x hx => by rw [he] at hx; cases hx; exact hl), Block.carryOut_ok hd (.inl hn) h.2.2 he hlo hhi hr hp, hb]

/-- A long command that is heard and passes its checks is taken up. -/
theorem Block.submit_long {e : Cmd} {res : Nat} {long : Bool} {c : Block} {k : LongKind}
    (h : b.hears f p res long)
    (he : catalogue op = some e) (hres : e.res p.params.length ≤ res) (hl : e.long { f := f, tag := 0, ws := p.params, bytes := 0 } = true → long = true)
    (hlo : e.lo ≤ p.params.length) (hhi : p.params.length ≤ e.hi) (hr : e.range (callOf f p) = true)
    (hp : f = 64 ∨ e.priv = .all ∨ (e.priv = .own ∧ e.owns (callOf f p) (b.begun op f p) = true))
    (hb : e.body (callOf f p) (b.begun op f p) = (.long k, c)) :
    b.submit catalogue op f p = (c.modPort f (fun x => { x with longs := x.longs ++
      [{ tag := p.tag.toNat, quiet := bit p.flags 1, lines := if bit p.flags 1 then 1 else linesOf (1 + e.res p.params.length)
         order := c.power.longOrder, kind := k }] })).modPower (fun x => { x with longOrder := x.longOrder + 1 }) := by
  have hd : (b.begun op f p).dead = false := h.1.2.1
  have hn : ((b.begun op f p).port f).negotiated = true := by rw [Block.begun_port h.1.2.2.2.2.1]; exact h.2.1
  rw [Block.submit_takes h.1 (fun x hx => by rw [he] at hx; cases hx; exact hres)
    (fun x hx => by rw [he] at hx; cases hx; exact hl), Block.carryOut_ok hd (.inl hn) h.2.2 he hlo hhi hr hp, hb]
  simp only [rsvLines, he]

/-- The answer of a command whose body left the ring alone. -/
theorem Block.answered_respond {c : Block} {tag : BitVec 8} {p : Pkt} (hp : p.tag = tag)
    (h1 : (c.port f).ring = (b.port f).ring) (h2 : (c.port f).wr = (b.port f).wr)
    (h3 : (c.port f).rspSeq = (b.port f).rspSeq) (h : st ≤ 1 ∨ ws = []) :
    b.answered (c.respond f tag.toNat (bit p.flags 1) st ws) f p st ws := by
  subst hp
  show ((c.respond f p.tag.toNat (bit p.flags 1) st ws).port f).ring = _
  rw [Block.respond_ring _ h, h1, Port.response, Port.response, h2, h3]

/-- An answer to a command whose body changed nothing outside its own port and the parts `away`. -/
theorem Block.calm_respond {c : Block} {tag : Nat} {away : List Area} (h1 : ∀ g, g ≠ f → c.port g = b.port g)
    (h2 : ∀ g, c.tenant g = b.tenant g) (h3 : c.power = b.power.served f b.gt)
    (h4 : c.seen (away ++ packetAreas) = b.seen (away ++ packetAreas)) (h : st ≠ stHwFault) :
    b.calm (c.respond f tag quiet st ws) f away := by
  refine ⟨fun g hg => (Block.respond_port_of_ne hg).trans (h1 g hg), fun g hg => (Block.respond_tenant_of_ne hg).trans (h2 g),
    ?_, (Block.respond_power h).trans h3,
    (Block.respond_seen (Area.sub_trans (by decide)
      (Area.sub_iff.2 (fun x (hx : x ∈ packetAreas) => List.mem_append_right away hx)))).trans h4⟩
  obtain ⟨is, due, e⟩ := Block.respond_tenant (b := c) (f := f) (tag := tag) (quiet := quiet) (st := st) (ws := ws)
  rw [e, h2]

/-- A command that is heard answers a next state, which holds what the answered body holds. -/
theorem heard_done {e : Cmd} {res : Nat} {long : Bool} {c : Block} {s : State} {P : State → Prop}
    (h : s.block.hears f p res long)
    (he : catalogue op = some e) (hres : e.res p.params.length ≤ res) (hl : e.long { f := f, tag := 0, ws := p.params, bytes := 0 } = true → long = true)
    (hlo : e.lo ≤ p.params.length) (hhi : p.params.length ≤ e.hi) (hr : e.range (callOf f p) = true)
    (hp : f = 64 ∨ e.priv = .all ∨ (e.priv = .own ∧ e.owns (callOf f p) (s.block.begun op f p) = true))
    (hb : e.body (callOf f p) (s.block.begun op f p) = (.done st ws, c))
    (g : P { s with block := c.respond f p.tag.toNat (bit p.flags 1) st ws }) :
    ∃ t, s.run (fun b => b.submit catalogue op f p) = .next t ∧ P t :=
  ⟨_, by rw [State.run_eq, Block.submit_done h he hres hl hlo hhi hr hp hb], g⟩

/-- A long command that is heard answers a next state, in which it is in progress. -/
theorem heard_long {e : Cmd} {res : Nat} {long : Bool} {c : Block} {k : LongKind} {s : State}
    {P : State → Prop} (h : s.block.hears f p res long)
    (he : catalogue op = some e) (hres : e.res p.params.length ≤ res) (hl : e.long { f := f, tag := 0, ws := p.params, bytes := 0 } = true → long = true)
    (hlo : e.lo ≤ p.params.length) (hhi : p.params.length ≤ e.hi) (hr : e.range (callOf f p) = true)
    (hp : f = 64 ∨ e.priv = .all ∨ (e.priv = .own ∧ e.owns (callOf f p) (s.block.begun op f p) = true))
    (hb : e.body (callOf f p) (s.block.begun op f p) = (.long k, c))
    (g : P { s with block := (c.modPort f (fun x => { x with longs := x.longs ++
      [{ tag := p.tag.toNat, quiet := bit p.flags 1, lines := if bit p.flags 1 then 1 else linesOf (1 + e.res p.params.length)
         order := c.power.longOrder, kind := k }] })).modPower (fun x => { x with longOrder := x.longOrder + 1 }) }) :
    ∃ t, s.run (fun b => b.submit catalogue op f p) = .next t ∧ P t :=
  ⟨_, by rw [State.run_eq, Block.submit_long h he hres hl hlo hhi hr hp hb], g⟩

/-- A command that is heard and whose body leaves ports, owners and power alone: it is answered, nothing else changes
outside the parts that the body touches, and the next state holds what the body makes. -/
theorem heard_calm {e : Cmd} {res : Nat} {long : Bool} {s : State} {P : State → Prop}
    {away : List Area} (h : s.block.hears f p res long)
    (he : catalogue op = some e) (hres : e.res p.params.length ≤ res) (hl : e.long { f := f, tag := 0, ws := p.params, bytes := 0 } = true → long = true)
    (hlo : e.lo ≤ p.params.length) (hhi : p.params.length ≤ e.hi) (hr : e.range (callOf f p) = true)
    (hp : f = 64 ∨ e.priv = .all ∨ (e.priv = .own ∧ e.owns (callOf f p) (s.block.begun op f p) = true))
    (hb : (e.body (callOf f p) (s.block.begun op f p)).1 = .done st ws) (hst : st ≤ 1 ∨ ws = [] ∧ st ≠ stHwFault)
    (hs : ∀ M, Area.sub away M = true → (e.body (callOf f p) (s.block.begun op f p)).2.seen M = (s.block.begun op f p).seen M)
    (ha : Area.ports ∉ away ∧ Area.tenants ∉ away ∧ Area.power ∉ away)
    (hP : P { s with
      block := (e.body (callOf f p) (s.block.begun op f p)).2.respond f p.tag.toNat (bit p.flags 1) st ws }) :
    ∃ t, s.run (fun b => b.submit catalogue op f p) = .next t ∧ s.block.answered t.block f p st ws ∧
      s.block.calm t.block f away ∧ P t := by
  have hq := h.1.2.2.2.2.1
  generalize hc : (e.body (callOf f p) (s.block.begun op f p)).2 = c at *
  have hb' : e.body (callOf f p) (s.block.begun op f p) = (.done st ws, c) := Prod.ext hb hc
  have h0 := hs away (Area.sub_refl _)
  have p0 : ∀ g, c.port g = s.block.port g := fun g => by
    show tget {} c.ports g = _
    rw [Block.ports_of_seen h0 ha.1]
    exact Block.begun_port hq g
  refine heard_done h he hres hl hlo hhi hr hp hb' ⟨?_, ?_, hP⟩
  · refine Block.answered_respond rfl (by rw [p0]) (by rw [p0]) (by rw [p0]) ?_
    rcases hst with h | h
    · exact .inl h
    · exact .inr h.1
  · refine Block.calm_respond (fun g _ => p0 g) (fun g => ?_) ?_ ?_ ?_
    · show tget _ c.tenants g = _
      rw [Block.tenants_of_seen h0 ha.2.1]
      rfl
    · rw [Block.power_of_seen h0 ha.2.2]
      rfl
    · rw [hs _ (Area.sub_iff.2 (fun x hx => List.mem_append_left _ hx)), Block.begun_seen]
    · rcases hst with h | h
      · intro e; rw [e] at h; exact absurd h (by decide)
      · exact h.2

/-- The same for a command whose body may also note configuration changes of owners (R462). -/
theorem heard_noted {e : Cmd} {res : Nat} {long : Bool} {s : State} {P : State → Prop}
    {away : List Area} (h : s.block.hears f p res long)
    (he : catalogue op = some e) (hres : e.res p.params.length ≤ res) (hl : e.long { f := f, tag := 0, ws := p.params, bytes := 0 } = true → long = true)
    (hlo : e.lo ≤ p.params.length) (hhi : p.params.length ≤ e.hi) (hr : e.range (callOf f p) = true)
    (hp : f = 64 ∨ e.priv = .all ∨ (e.priv = .own ∧ e.owns (callOf f p) (s.block.begun op f p) = true))
    (hb : (e.body (callOf f p) (s.block.begun op f p)).1 = .done st ws) (hst : st ≤ 1 ∨ ws = [] ∧ st ≠ stHwFault)
    (hs : ∀ M, Area.sub (away ++ [.tenants, .out]) M = true →
      (e.body (callOf f p) (s.block.begun op f p)).2.seen M = (s.block.begun op f p).seen M)
    (ht : ∀ g, ∃ x, (e.body (callOf f p) (s.block.begun op f p)).2.tenant g = { s.block.tenant g with cfgChanged := x })
    (ha : Area.ports ∉ away ∧ Area.power ∉ away)
    (hP : P { s with
      block := (e.body (callOf f p) (s.block.begun op f p)).2.respond f p.tag.toNat (bit p.flags 1) st ws }) :
    ∃ t, s.run (fun b => b.submit catalogue op f p) = .next t ∧ s.block.answered t.block f p st ws ∧
      s.block.noted t.block f away ∧ P t := by
  have hq := h.1.2.2.2.2.1
  generalize hc : (e.body (callOf f p) (s.block.begun op f p)).2 = c at *
  have hb' : e.body (callOf f p) (s.block.begun op f p) = (.done st ws, c) := Prod.ext hb hc
  have h0 := hs _ (Area.sub_refl _)
  have p0 : ∀ g, c.port g = s.block.port g := fun g => by
    show tget {} c.ports g = _
    rw [Block.ports_of_seen h0 (by simp [ha.1])]
    exact Block.begun_port hq g
  have hf : st ≠ stHwFault := by
    rcases hst with h | h
    · intro e; rw [e] at h; exact absurd h (by decide)
    · exact h.2
  refine heard_done h he hres hl hlo hhi hr hp hb' ⟨?_, ⟨?_, ?_, ?_, ?_, ?_⟩, hP⟩
  · refine Block.answered_respond rfl (by rw [p0]) (by rw [p0]) (by rw [p0]) ?_
    rcases hst with h | h
    · exact .inl h
    · exact .inr h.1
  · exact fun g hg => (Block.respond_port_of_ne hg).trans (p0 g)
  · intro g hg
    obtain ⟨x, e⟩ := ht g
    rw [Block.respond_tenant_of_ne hg, e]
  · dsimp only
    obtain ⟨is, due, e⟩ := Block.respond_tenant (b := c) (f := f) (tag := p.tag.toNat) (quiet := bit p.flags 1) (st := st) (ws := ws)
    obtain ⟨x, e'⟩ := ht f
    rw [e, e']
  · rw [Block.respond_power hf, Block.power_of_seen h0 (by simp [ha.2])]
    rfl
  · refine (Block.respond_seen (Area.sub_trans (by decide)
      (Area.sub_iff.2 (fun x (hx : x ∈ packetAreas) => List.mem_append_right away hx)))).trans ((hs _ ?_).trans Block.begun_seen)
    refine Area.sub_iff.2 (fun x hx => ?_)
    rcases List.mem_append.1 hx with h | h
    · exact List.mem_append_left _ h
    · refine List.mem_append_right _ ?_
      simp only [List.mem_cons, List.not_mem_nil, or_false] at h
      rcases h with h | h <;> subst h <;> decide


/-- The same for a command whose body leaves the ports alone. -/
theorem heard_ans {e : Cmd} {res : Nat} {long : Bool} {s : State} {P : State → Prop}
    {away : List Area} (h : s.block.hears f p res long)
    (he : catalogue op = some e) (hres : e.res p.params.length ≤ res) (hl : e.long { f := f, tag := 0, ws := p.params, bytes := 0 } = true → long = true)
    (hlo : e.lo ≤ p.params.length) (hhi : p.params.length ≤ e.hi) (hr : e.range (callOf f p) = true)
    (hp : f = 64 ∨ e.priv = .all ∨ (e.priv = .own ∧ e.owns (callOf f p) (s.block.begun op f p) = true))
    (hb : (e.body (callOf f p) (s.block.begun op f p)).1 = .done st ws) (hst : st ≤ 1 ∨ ws = [])
    (hs : ∀ M, Area.sub away M = true → (e.body (callOf f p) (s.block.begun op f p)).2.seen M = (s.block.begun op f p).seen M)
    (ha : Area.ports ∉ away)
    (hP : P { s with
      block := (e.body (callOf f p) (s.block.begun op f p)).2.respond f p.tag.toNat (bit p.flags 1) st ws }) :
    ∃ t, s.run (fun b => b.submit catalogue op f p) = .next t ∧ s.block.answered t.block f p st ws ∧ P t := by
  have hq := h.1.2.2.2.2.1
  generalize hc : (e.body (callOf f p) (s.block.begun op f p)).2 = c at *
  have hb' : e.body (callOf f p) (s.block.begun op f p) = (.done st ws, c) := Prod.ext hb hc
  have h0 := hs away (Area.sub_refl _)
  have p0 : ∀ g, c.port g = s.block.port g := fun g => by
    show tget {} c.ports g = _
    rw [Block.ports_of_seen h0 ha]
    exact Block.begun_port hq g
  exact heard_done h he hres hl hlo hhi hr hp hb'
    ⟨Block.answered_respond rfl (by rw [p0]) (by rw [p0]) (by rw [p0]) hst, hP⟩

/-- What noting configuration changes leaves of the owners. -/
theorem Block.cfgTouch_tenant {n g : Nat} : ∃ x, (b.cfgTouch n).tenant g = { b.tenant g with cfgChanged := x } := by
  unfold Block.cfgTouch
  split
  · rw [Block.tenant_emit, Block.tenant_modTenant_ite]
    split
    · exact ⟨_, rfl⟩
    · exact ⟨_, rfl⟩
  · exact ⟨_, rfl⟩

theorem Block.touchOwners_tenant {c : Call} {o n g : Nat} :
    ∃ x, (b.touchOwners c o n).tenant g = { b.tenant g with cfgChanged := x } := by
  unfold Block.touchOwners
  split
  · split
    · exact Block.cfgTouch_tenant
    · obtain ⟨x, e⟩ := Block.cfgTouch_tenant (b := b.cfgTouch o) (n := n) (g := g)
      obtain ⟨y, e'⟩ := Block.cfgTouch_tenant (b := b) (n := o) (g := g)
      exact ⟨x, by rw [e, e']⟩
  · exact ⟨_, rfl⟩

end Sys2Proof.Machine
end

