-- ==== Sys2Proof/Laws/FrameExecs.lean ====
section
/-! SUPPORT. The frame of every command: it is answered with a next state in which only the block has changed, and of the block only
what the lemma's list names. -/

namespace Sys2Proof.Machine
variable {M : List Area}



theorem execNegotiate_seen {x0 : Fin 65} {x1 : Pkt} {s : State} (h : Area.sub [.ports, .tenants, .power, .lo, .out] M =
    true) :
    ∃ g, execNegotiate x0 x1 s = .next { s with block := g } ∧ g.seen M = s.block.seen M :=
  ⟨_, rfl, Block.submit_seen (op := 0x00) (Area.sub_trans (by decide) h) (fun _ e c b => by
    cases e; exact cmdNegotiate_seen (Area.sub_trans (by decide) h))⟩

theorem execSessionSet_seen {x0 : Fin 65} {x1 : Pkt} {s : State} (h : Area.sub [.ports, .tenants, .power, .lo, .out] M =
    true) :
    ∃ g, execSessionSet x0 x1 s = .next { s with block := g } ∧ g.seen M = s.block.seen M :=
  ⟨_, rfl, Block.submit_seen (op := 0x01) (Area.sub_trans (by decide) h) (fun _ e c b => by
    cases e; exact cmdSessionSet_seen (Area.sub_trans (by decide) h))⟩

theorem execIdentify_seen {x0 : Fin 65} {x1 : Pkt} {s : State} (h : Area.sub [.ports, .tenants, .power, .lo, .out] M =
    true) :
    ∃ g, execIdentify x0 x1 s = .next { s with block := g } ∧ g.seen M = s.block.seen M :=
  ⟨_, rfl, Block.submit_seen (op := 0x02) (Area.sub_trans (by decide) h) (fun _ e c b => by
    cases e; exact cmdIdentify_seen (Area.sub_trans (by decide) h))⟩

theorem execNop_seen {x0 : Fin 65} {x1 : Pkt} {s : State} (h : Area.sub [.ports, .tenants, .power, .lo, .out] M = true) :
    ∃ g, execNop x0 x1 s = .next { s with block := g } ∧ g.seen M = s.block.seen M :=
  ⟨_, rfl, Block.submit_seen (op := 0x03) (Area.sub_trans (by decide) h) (fun _ e c b => by
    cases e; exact cmdNop_seen (Area.sub_trans (by decide) h))⟩

theorem execTapSet_seen {x0 : Fin 65} {x1 : Pkt} {s : State} (h : Area.sub [.taps, .views, .ports, .tenants, .power, .lo, .out] M = true) :
    ∃ g, execTapSet x0 x1 s = .next { s with block := g } ∧ g.seen M = s.block.seen M :=
  ⟨_, rfl, Block.submit_seen (op := 0x10) (Area.sub_trans (by decide) h) (fun _ e c b => by
    cases e; exact cmdTapSet_seen (Area.sub_trans (by decide) h))⟩

theorem execTapStatus_seen {x0 : Fin 65} {x1 : Pkt} {s : State} (h : Area.sub [.taps, .ports, .tenants, .power, .lo, .out]
    M = true) :
    ∃ g, execTapStatus x0 x1 s = .next { s with block := g } ∧ g.seen M = s.block.seen M :=
  ⟨_, rfl, Block.submit_seen (op := 0x11) (Area.sub_trans (by decide) h) (fun _ e c b => by
    cases e; exact cmdTapStatus_seen (Area.sub_trans (by decide) h))⟩

theorem execCtxWrite_seen {x0 : Fin 65} {x1 : Pkt} {s : State} (h : Area.sub [.ctxs, .ports, .tenants, .power, .lo, .out]
    M = true) :
    ∃ g, execCtxWrite x0 x1 s = .next { s with block := g } ∧ g.seen M = s.block.seen M :=
  ⟨_, rfl, Block.submit_seen (op := 0x12) (Area.sub_trans (by decide) h) (fun _ e c b => by
    cases e; exact cmdCtxWrite_seen (Area.sub_trans (by decide) h))⟩

theorem execCtxRead_seen {x0 : Fin 65} {x1 : Pkt} {s : State} (h : Area.sub [.ports, .tenants, .power, .lo, .out] M =
    true) :
    ∃ g, execCtxRead x0 x1 s = .next { s with block := g } ∧ g.seen M = s.block.seen M :=
  ⟨_, rfl, Block.submit_seen (op := 0x13) (Area.sub_trans (by decide) h) (fun _ e c b => by
    cases e; exact cmdCtxRead_seen (Area.sub_trans (by decide) h))⟩

theorem execLauterWrite_seen {x0 : Fin 65} {x1 : Pkt} {s : State} (h : Area.sub [.stations, .lauter, .ports, .tenants, .power, .lo, .out] M = true) :
    ∃ g, execLauterWrite x0 x1 s = .next { s with block := g } ∧ g.seen M = s.block.seen M :=
  ⟨_, rfl, Block.submit_seen (op := 0x20) (Area.sub_trans (by decide) h) (fun _ e c b => by
    cases e; exact cmdLauterWrite_seen (Area.sub_trans (by decide) h))⟩

theorem execLauterRead_seen {x0 : Fin 65} {x1 : Pkt} {s : State} (h : Area.sub [.ports, .tenants, .power, .lo, .out] M =
    true) :
    ∃ g, execLauterRead x0 x1 s = .next { s with block := g } ∧ g.seen M = s.block.seen M :=
  ⟨_, rfl, Block.submit_seen (op := 0x21) (Area.sub_trans (by decide) h) (fun _ e c b => by
    cases e; exact cmdLauterRead_seen (Area.sub_trans (by decide) h))⟩

theorem execLauterDefault_seen {x0 : Fin 65} {x1 : Pkt} {s : State} (h : Area.sub [.stations, .lauter, .ports, .tenants, .power, .lo, .out] M = true) :
    ∃ g, execLauterDefault x0 x1 s = .next { s with block := g } ∧ g.seen M = s.block.seen M :=
  ⟨_, rfl, Block.submit_seen (op := 0x22) (Area.sub_trans (by decide) h) (fun _ e c b => by
    cases e; exact cmdLauterDefault_seen (Area.sub_trans (by decide) h))⟩

theorem execCmpWrite_seen {x0 : Fin 65} {x1 : Pkt} {s : State} (h : Area.sub [.stations, .ports, .tenants, .power, .lo, .out] M = true) :
    ∃ g, execCmpWrite x0 x1 s = .next { s with block := g } ∧ g.seen M = s.block.seen M :=
  ⟨_, rfl, Block.submit_seen (op := 0x23) (Area.sub_trans (by decide) h) (fun _ e c b => by
    cases e; exact cmdCmpWrite_seen (Area.sub_trans (by decide) h))⟩

theorem execSeqControl_seen {x0 : Fin 65} {x1 : Pkt} {s : State} (h : Area.sub [.stations, .cask, .ports, .tenants, .power, .lo, .out] M = true) :
    ∃ g, execSeqControl x0 x1 s = .next { s with block := g } ∧ g.seen M = s.block.seen M :=
  ⟨_, rfl, Block.submit_seen (op := 0x24) (Area.sub_trans (by decide) h) (fun _ e c b => by
    cases e; exact cmdSeqControl_seen (Area.sub_trans (by decide) h))⟩

theorem execSeqRearm_seen {x0 : Fin 65} {x1 : Pkt} {s : State} (h : Area.sub [.stations, .cask, .ports, .tenants, .power, .lo, .out] M = true) :
    ∃ g, execSeqRearm x0 x1 s = .next { s with block := g } ∧ g.seen M = s.block.seen M :=
  ⟨_, rfl, Block.submit_seen (op := 0x25) (Area.sub_trans (by decide) h) (fun _ e c b => by
    cases e; exact cmdSeqRearm_seen (Area.sub_trans (by decide) h))⟩

theorem execSeqStatus_seen {x0 : Fin 65} {x1 : Pkt} {s : State} (h : Area.sub [.stations, .ports, .tenants, .power, .lo, .out] M = true) :
    ∃ g, execSeqStatus x0 x1 s = .next { s with block := g } ∧ g.seen M = s.block.seen M :=
  ⟨_, rfl, Block.submit_seen (op := 0x26) (Area.sub_trans (by decide) h) (fun _ e c b => by
    cases e; exact cmdSeqStatus_seen (Area.sub_trans (by decide) h))⟩

theorem execSeqOwner_seen {x0 : Fin 65} {x1 : Pkt} {s : State} (h : Area.sub [.stations, .cask, .ports, .tenants, .power, .lo, .out] M = true) :
    ∃ g, execSeqOwner x0 x1 s = .next { s with block := g } ∧ g.seen M = s.block.seen M :=
  ⟨_, rfl, Block.submit_seen (op := 0x27) (Area.sub_trans (by decide) h) (fun _ e c b => by
    cases e; exact cmdSeqOwner_seen (Area.sub_trans (by decide) h))⟩

theorem execStreamFormat_seen {x0 : Fin 65} {x1 : Pkt} {s : State} (h : Area.sub [.taps, .views, .stations, .cask, .ports, .tenants, .power, .lo, .out] M = true) :
    ∃ g, execStreamFormat x0 x1 s = .next { s with block := g } ∧ g.seen M = s.block.seen M :=
  ⟨_, rfl, Block.submit_seen (op := 0x28) (Area.sub_trans (by decide) h) (fun _ e c b => by
    cases e; exact cmdStreamFormat_seen (Area.sub_trans (by decide) h))⟩

theorem execStationCounters_seen {x0 : Fin 65} {x1 : Pkt} {s : State} (h : Area.sub [.stations, .ports, .tenants, .power, .lo, .out] M = true) :
    ∃ g, execStationCounters x0 x1 s = .next { s with block := g } ∧ g.seen M = s.block.seen M :=
  ⟨_, rfl, Block.submit_seen (op := 0x29) (Area.sub_trans (by decide) h) (fun _ e c b => by
    cases e; exact cmdStationCounters_seen (Area.sub_trans (by decide) h))⟩

theorem execCaskMode_seen {x0 : Fin 65} {x1 : Pkt} {s : State} (h : Area.sub [.cask, .ports, .tenants, .power, .lo, .out]
    M = true) :
    ∃ g, execCaskMode x0 x1 s = .next { s with block := g } ∧ g.seen M = s.block.seen M :=
  ⟨_, rfl, Block.submit_seen (op := 0x30) (Area.sub_trans (by decide) h) (fun _ e c b => by
    cases e; exact cmdCaskMode_seen (Area.sub_trans (by decide) h))⟩

theorem execCaskDrain_seen {x0 : Fin 65} {x1 : Pkt} {s : State} (h : Area.sub [.ports, .tenants, .power, .lo, .out] M =
    true) :
    ∃ g, execCaskDrain x0 x1 s = .next { s with block := g } ∧ g.seen M = s.block.seen M :=
  ⟨_, rfl, Block.submit_seen (op := 0x31) (Area.sub_trans (by decide) h) (fun _ e c b => by
    cases e; exact cmdCaskDrain_seen (Area.sub_trans (by decide) h))⟩

theorem execCaskRelease_seen {x0 : Fin 65} {x1 : Pkt} {s : State} (h : Area.sub [.cask, .ports, .tenants, .power, .lo, .out] M = true) :
    ∃ g, execCaskRelease x0 x1 s = .next { s with block := g } ∧ g.seen M = s.block.seen M :=
  ⟨_, rfl, Block.submit_seen (op := 0x32) (Area.sub_trans (by decide) h) (fun _ e c b => by
    cases e; exact cmdCaskRelease_seen (Area.sub_trans (by decide) h))⟩

theorem execCaskStatus_seen {x0 : Fin 65} {x1 : Pkt} {s : State} (h : Area.sub [.ports, .tenants, .power, .lo, .out] M =
    true) :
    ∃ g, execCaskStatus x0 x1 s = .next { s with block := g } ∧ g.seen M = s.block.seen M :=
  ⟨_, rfl, Block.submit_seen (op := 0x33) (Area.sub_trans (by decide) h) (fun _ e c b => by
    cases e; exact cmdCaskStatus_seen (Area.sub_trans (by decide) h))⟩

theorem execCaskPool_seen {x0 : Fin 65} {x1 : Pkt} {s : State} (h : Area.sub [.cask, .ports, .tenants, .power, .lo, .out]
    M = true) :
    ∃ g, execCaskPool x0 x1 s = .next { s with block := g } ∧ g.seen M = s.block.seen M :=
  ⟨_, rfl, Block.submit_seen (op := 0x34) (Area.sub_trans (by decide) h) (fun _ e c b => by
    cases e; exact cmdCaskPool_seen (Area.sub_trans (by decide) h))⟩

theorem execCaskFenceRead_seen {x0 : Fin 65} {x1 : Pkt} {s : State} (h : Area.sub [.ports, .tenants, .power, .lo, .out] M
    = true) :
    ∃ g, execCaskFenceRead x0 x1 s = .next { s with block := g } ∧ g.seen M = s.block.seen M :=
  ⟨_, rfl, Block.submit_seen (op := 0x35) (Area.sub_trans (by decide) h) (fun _ e c b => by
    cases e; exact cmdCaskFenceRead_seen (Area.sub_trans (by decide) h))⟩

theorem execCaskMacro_seen {x0 : Fin 65} {x1 : Pkt} {s : State} (h : Area.sub [.cask, .ports, .tenants, .power, .lo, .out]
    M = true) :
    ∃ g, execCaskMacro x0 x1 s = .next { s with block := g } ∧ g.seen M = s.block.seen M :=
  ⟨_, rfl, Block.submit_seen (op := 0x36) (Area.sub_trans (by decide) h) (fun _ e c b => by
    cases e; exact cmdCaskMacro_seen (Area.sub_trans (by decide) h))⟩

theorem execCaskPatrol_seen {x0 : Fin 65} {x1 : Pkt} {s : State} (h : Area.sub [.cask, .ports, .tenants, .power, .lo, .out] M = true) :
    ∃ g, execCaskPatrol x0 x1 s = .next { s with block := g } ∧ g.seen M = s.block.seen M :=
  ⟨_, rfl, Block.submit_seen (op := 0x37) (Area.sub_trans (by decide) h) (fun _ e c b => by
    cases e; exact cmdCaskPatrol_seen (Area.sub_trans (by decide) h))⟩

theorem execAgentMapWrite_seen {x0 : Fin 65} {x1 : Pkt} {s : State} (h : Area.sub [.mash, .maps, .ports, .tenants, .power, .lo, .out] M = true) :
    ∃ g, execAgentMapWrite x0 x1 s = .next { s with block := g } ∧ g.seen M = s.block.seen M :=
  ⟨_, rfl, Block.submit_seen (op := 0x40) (Area.sub_trans (by decide) h) (fun _ e c b => by
    cases e; exact cmdAgentMapWrite_seen (Area.sub_trans (by decide) h))⟩

theorem execAgentWrite_seen {x0 : Fin 65} {x1 : Pkt} {s : State} (h : Area.sub [.mash, .maps, .ports, .tenants, .power, .lo, .out] M = true) :
    ∃ g, execAgentWrite x0 x1 s = .next { s with block := g } ∧ g.seen M = s.block.seen M :=
  ⟨_, rfl, Block.submit_seen (op := 0x41) (Area.sub_trans (by decide) h) (fun _ e c b => by
    cases e; exact cmdAgentWrite_seen (Area.sub_trans (by decide) h))⟩

theorem execReasonMapWrite_seen {x0 : Fin 65} {x1 : Pkt} {s : State} (h : Area.sub [.mash, .maps, .ports, .tenants, .power, .lo, .out] M = true) :
    ∃ g, execReasonMapWrite x0 x1 s = .next { s with block := g } ∧ g.seen M = s.block.seen M :=
  ⟨_, rfl, Block.submit_seen (op := 0x42) (Area.sub_trans (by decide) h) (fun _ e c b => by
    cases e; exact cmdReasonMapWrite_seen (Area.sub_trans (by decide) h))⟩

theorem execLoopWrite_seen {x0 : Fin 65} {x1 : Pkt} {s : State} (h : Area.sub [.mash, .maps, .ports, .tenants, .power, .lo, .out]
    M = true) :
    ∃ g, execLoopWrite x0 x1 s = .next { s with block := g } ∧ g.seen M = s.block.seen M :=
  ⟨_, rfl, Block.submit_seen (op := 0x43) (Area.sub_trans (by decide) h) (fun _ e c b => by
    cases e; exact cmdLoopWrite_seen (Area.sub_trans (by decide) h))⟩

theorem execMashRead_seen {x0 : Fin 65} {x1 : Pkt} {s : State} (h : Area.sub [.ports, .tenants, .power, .lo, .out] M =
    true) :
    ∃ g, execMashRead x0 x1 s = .next { s with block := g } ∧ g.seen M = s.block.seen M :=
  ⟨_, rfl, Block.submit_seen (op := 0x44) (Area.sub_trans (by decide) h) (fun _ e c b => by
    cases e; exact cmdMashRead_seen (Area.sub_trans (by decide) h))⟩

theorem execLoopStatus_seen {x0 : Fin 65} {x1 : Pkt} {s : State} (h : Area.sub [.ports, .tenants, .power, .lo, .out] M =
    true) :
    ∃ g, execLoopStatus x0 x1 s = .next { s with block := g } ∧ g.seen M = s.block.seen M :=
  ⟨_, rfl, Block.submit_seen (op := 0x45) (Area.sub_trans (by decide) h) (fun _ e c b => by
    cases e; exact cmdLoopStatus_seen (Area.sub_trans (by decide) h))⟩

theorem execAsyBind_seen {x0 : Fin 65} {x1 : Pkt} {s : State} (h : Area.sub [.taps, .stations, .quads, .assay, .profiles, .ports, .tenants, .meas, .power, .lo, .out] M = true) :
    ∃ g, execAsyBind x0 x1 s = .next { s with block := g } ∧ g.seen M = s.block.seen M :=
  ⟨_, rfl, Block.submit_seen (op := 0x50) (Area.sub_trans (by decide) h) (fun _ e c b => by
    cases e; exact cmdAsyBind_seen (Area.sub_trans (by decide) h))⟩

theorem execAsyUnit_seen {x0 : Fin 65} {x1 : Pkt} {s : State} (h : Area.sub [.stations, .quads, .assay, .ports, .tenants, .power, .lo, .out] M = true) :
    ∃ g, execAsyUnit x0 x1 s = .next { s with block := g } ∧ g.seen M = s.block.seen M :=
  ⟨_, rfl, Block.submit_seen (op := 0x51) (Area.sub_trans (by decide) h) (fun _ e c b => by
    cases e; exact cmdAsyUnit_seen (Area.sub_trans (by decide) h))⟩

theorem execProfileWrite_seen {x0 : Fin 65} {x1 : Pkt} {s : State} (h : Area.sub [.assay, .profiles, .ports, .tenants, .power, .lo, .out] M = true) :
    ∃ g, execProfileWrite x0 x1 s = .next { s with block := g } ∧ g.seen M = s.block.seen M :=
  ⟨_, rfl, Block.submit_seen (op := 0x52) (Area.sub_trans (by decide) h) (fun _ e c b => by
    cases e; exact cmdProfileWrite_seen (Area.sub_trans (by decide) h))⟩

theorem execRefWrite_seen {x0 : Fin 65} {x1 : Pkt} {s : State} (h : Area.sub [.assay, .profiles, .ports, .tenants, .power, .lo, .out] M = true) :
    ∃ g, execRefWrite x0 x1 s = .next { s with block := g } ∧ g.seen M = s.block.seen M :=
  ⟨_, rfl, Block.submit_seen (op := 0x53) (Area.sub_trans (by decide) h) (fun _ e c b => by
    cases e; exact cmdRefWrite_seen (Area.sub_trans (by decide) h))⟩

theorem execAsyRead_seen {x0 : Fin 65} {x1 : Pkt} {s : State} (h : Area.sub [.assay, .ports, .tenants, .power, .lo, .out]
    M = true) :
    ∃ g, execAsyRead x0 x1 s = .next { s with block := g } ∧ g.seen M = s.block.seen M :=
  ⟨_, rfl, Block.submit_seen (op := 0x54) (Area.sub_trans (by decide) h) (fun _ e c b => by
    cases e; exact cmdAsyRead_seen (Area.sub_trans (by decide) h))⟩

theorem execAsyFlush_seen {x0 : Fin 65} {x1 : Pkt} {s : State} (h : Area.sub [.stations, .quads, .assay, .ports, .tenants, .power, .lo, .out] M = true) :
    ∃ g, execAsyFlush x0 x1 s = .next { s with block := g } ∧ g.seen M = s.block.seen M :=
  ⟨_, rfl, Block.submit_seen (op := 0x55) (Area.sub_trans (by decide) h) (fun _ e c b => by
    cases e; exact cmdAsyFlush_seen (Area.sub_trans (by decide) h))⟩

theorem execSyncDeclare_seen {x0 : Fin 65} {x1 : Pkt} {s : State} (h : Area.sub [.sync, .ports, .tenants, .power, .lo, .out] M = true) :
    ∃ g, execSyncDeclare x0 x1 s = .next { s with block := g } ∧ g.seen M = s.block.seen M :=
  ⟨_, rfl, Block.submit_seen (op := 0x60) (Area.sub_trans (by decide) h) (fun _ e c b => by
    cases e; exact cmdSyncDeclare_seen (Area.sub_trans (by decide) h))⟩

theorem execSyncRead_seen {x0 : Fin 65} {x1 : Pkt} {s : State} (h : Area.sub [.ports, .tenants, .power, .lo, .out] M =
    true) :
    ∃ g, execSyncRead x0 x1 s = .next { s with block := g } ∧ g.seen M = s.block.seen M :=
  ⟨_, rfl, Block.submit_seen (op := 0x61) (Area.sub_trans (by decide) h) (fun _ e c b => by
    cases e; exact cmdSyncRead_seen (Area.sub_trans (by decide) h))⟩

theorem execTapWaitRead_seen {x0 : Fin 65} {x1 : Pkt} {s : State} (h : Area.sub [.ports, .tenants, .power, .lo, .out] M =
    true) :
    ∃ g, execTapWaitRead x0 x1 s = .next { s with block := g } ∧ g.seen M = s.block.seen M :=
  ⟨_, rfl, Block.submit_seen (op := 0x62) (Area.sub_trans (by decide) h) (fun _ e c b => by
    cases e; exact cmdTapWaitRead_seen (Area.sub_trans (by decide) h))⟩

theorem execKnotWalk_seen {x0 : Fin 65} {x1 : Pkt} {s : State} (h : Area.sub [.sync, .ports, .tenants, .power, .lo, .out]
    M = true) :
    ∃ g, execKnotWalk x0 x1 s = .next { s with block := g } ∧ g.seen M = s.block.seen M :=
  ⟨_, rfl, Block.submit_seen (op := 0x63) (Area.sub_trans (by decide) h) (fun _ e c b => by
    cases e; exact cmdKnotWalk_seen (Area.sub_trans (by decide) h))⟩

theorem execSnapshot_seen {x0 : Fin 65} {x1 : Pkt} {s : State} (h : Area.sub [.sync, .freezes, .ports, .tenants, .power, .lo, .out] M = true) :
    ∃ g, execSnapshot x0 x1 s = .next { s with block := g } ∧ g.seen M = s.block.seen M :=
  ⟨_, rfl, Block.submit_seen (op := 0x64) (Area.sub_trans (by decide) h) (fun _ e c b => by
    cases e; exact cmdSnapshot_seen (Area.sub_trans (by decide) h))⟩

theorem execSyncSet_seen {x0 : Fin 65} {x1 : Pkt} {s : State} (h : Area.sub [.sync, .ports, .tenants, .power, .lo, .out] M
    = true) :
    ∃ g, execSyncSet x0 x1 s = .next { s with block := g } ∧ g.seen M = s.block.seen M :=
  ⟨_, rfl, Block.submit_seen (op := 0x65) (Area.sub_trans (by decide) h) (fun _ e c b => by
    cases e; exact cmdSyncSet_seen (Area.sub_trans (by decide) h))⟩

theorem execSyncCounters_seen {x0 : Fin 65} {x1 : Pkt} {s : State} (h : Area.sub [.sync, .ports, .tenants, .power, .lo, .out] M = true) :
    ∃ g, execSyncCounters x0 x1 s = .next { s with block := g } ∧ g.seen M = s.block.seen M :=
  ⟨_, rfl, Block.submit_seen (op := 0x66) (Area.sub_trans (by decide) h) (fun _ e c b => by
    cases e; exact cmdSyncCounters_seen (Area.sub_trans (by decide) h))⟩

theorem execCntWrite_seen {x0 : Fin 65} {x1 : Pkt} {s : State} (h : Area.sub [.taps, .views, .ports, .tenants, .power, .lo, .out] M = true) :
    ∃ g, execCntWrite x0 x1 s = .next { s with block := g } ∧ g.seen M = s.block.seen M :=
  ⟨_, rfl, Block.submit_seen (op := 0x70) (Area.sub_trans (by decide) h) (fun _ e c b => by
    cases e; exact cmdCntWrite_seen (Area.sub_trans (by decide) h))⟩

theorem execCntRead_seen {x0 : Fin 65} {x1 : Pkt} {s : State} (h : Area.sub [.ports, .tenants, .power, .lo, .out] M =
    true) :
    ∃ g, execCntRead x0 x1 s = .next { s with block := g } ∧ g.seen M = s.block.seen M :=
  ⟨_, rfl, Block.submit_seen (op := 0x71) (Area.sub_trans (by decide) h) (fun _ e c b => by
    cases e; exact cmdCntRead_seen (Area.sub_trans (by decide) h))⟩

theorem execCntSample_seen {x0 : Fin 65} {x1 : Pkt} {s : State} (h : Area.sub [.ports, .tenants, .power, .lo, .out] M =
    true) :
    ∃ g, execCntSample x0 x1 s = .next { s with block := g } ∧ g.seen M = s.block.seen M :=
  ⟨_, rfl, Block.submit_seen (op := 0x72) (Area.sub_trans (by decide) h) (fun _ e c b => by
    cases e; exact cmdCntSample_seen (Area.sub_trans (by decide) h))⟩

theorem execFreeze_seen {x0 : Fin 65} {x1 : Pkt} {s : State} (h : Area.sub [.freezes, .ports, .tenants, .hop, .power, .lo, .out] M = true) :
    ∃ g, execFreeze x0 x1 s = .next { s with block := g } ∧ g.seen M = s.block.seen M :=
  ⟨_, rfl, Block.submit_seen (op := 0x73) (Area.sub_trans (by decide) h) (fun _ e c b => by
    cases e; exact cmdFreeze_seen (Area.sub_trans (by decide) h))⟩

theorem execFreezeStatus_seen {x0 : Fin 65} {x1 : Pkt} {s : State} (h : Area.sub [.ports, .tenants, .power, .lo, .out] M =
    true) :
    ∃ g, execFreezeStatus x0 x1 s = .next { s with block := g } ∧ g.seen M = s.block.seen M :=
  ⟨_, rfl, Block.submit_seen (op := 0x74) (Area.sub_trans (by decide) h) (fun _ e c b => by
    cases e; exact cmdFreezeStatus_seen (Area.sub_trans (by decide) h))⟩

theorem execFreezeCancel_seen {x0 : Fin 65} {x1 : Pkt} {s : State} (h : Area.sub [.freezes, .ports, .tenants, .power, .lo, .out] M = true) :
    ∃ g, execFreezeCancel x0 x1 s = .next { s with block := g } ∧ g.seen M = s.block.seen M :=
  ⟨_, rfl, Block.submit_seen (op := 0x75) (Area.sub_trans (by decide) h) (fun _ e c b => by
    cases e; exact cmdFreezeCancel_seen (Area.sub_trans (by decide) h))⟩

theorem execFreezeSet_seen {x0 : Fin 65} {x1 : Pkt} {s : State} (h : Area.sub [.freezes, .ports, .tenants, .power, .lo, .out] M = true) :
    ∃ g, execFreezeSet x0 x1 s = .next { s with block := g } ∧ g.seen M = s.block.seen M :=
  ⟨_, rfl, Block.submit_seen (op := 0x76) (Area.sub_trans (by decide) h) (fun _ e c b => by
    cases e; exact cmdFreezeSet_seen (Area.sub_trans (by decide) h))⟩

theorem execCntView_seen {x0 : Fin 65} {x1 : Pkt} {s : State} (h : Area.sub [.ports, .tenants, .power, .lo, .out] M =
    true) :
    ∃ g, execCntView x0 x1 s = .next { s with block := g } ∧ g.seen M = s.block.seen M :=
  ⟨_, rfl, Block.submit_seen (op := 0x77) (Area.sub_trans (by decide) h) (fun _ e c b => by
    cases e; exact cmdCntView_seen (Area.sub_trans (by decide) h))⟩

theorem execTimeStatus_seen {x0 : Fin 65} {x1 : Pkt} {s : State} (h : Area.sub [.ports, .tenants, .power, .lo, .out] M =
    true) :
    ∃ g, execTimeStatus x0 x1 s = .next { s with block := g } ∧ g.seen M = s.block.seen M :=
  ⟨_, rfl, Block.submit_seen (op := 0x80) (Area.sub_trans (by decide) h) (fun _ e c b => by
    cases e; exact cmdTimeStatus_seen (Area.sub_trans (by decide) h))⟩

theorem execTimeSet_seen {x0 : Fin 65} {x1 : Pkt} {s : State} (h : Area.sub [.taps, .views, .stations, .quads, .cask, .mash, .sync, .ports, .tenants, .power, .time, .lo, .out] M = true) :
    ∃ g, execTimeSet x0 x1 s = .next { s with block := g } ∧ g.seen M = s.block.seen M :=
  ⟨_, rfl, Block.submit_seen (op := 0x81) (Area.sub_trans (by decide) h) (fun _ e c b => by
    cases e; exact cmdTimeSet_seen (Area.sub_trans (by decide) h))⟩

theorem execTcalRead_seen {x0 : Fin 65} {x1 : Pkt} {s : State} (h : Area.sub [.ports, .tenants, .power, .lo, .out] M =
    true) :
    ∃ g, execTcalRead x0 x1 s = .next { s with block := g } ∧ g.seen M = s.block.seen M :=
  ⟨_, rfl, Block.submit_seen (op := 0x82) (Area.sub_trans (by decide) h) (fun _ e c b => by
    cases e; exact cmdTcalRead_seen (Area.sub_trans (by decide) h))⟩

theorem execTsyncNow_seen {x0 : Fin 65} {x1 : Pkt} {s : State} (h : Area.sub [.ports, .tenants, .hop, .power, .lo, .out] M
    = true) :
    ∃ g, execTsyncNow x0 x1 s = .next { s with block := g } ∧ g.seen M = s.block.seen M :=
  ⟨_, rfl, Block.submit_seen (op := 0x83) (Area.sub_trans (by decide) h) (fun _ e c b => by
    cases e; exact cmdTsyncNow_seen (Area.sub_trans (by decide) h))⟩

theorem execPortAlpha_seen {x0 : Fin 65} {x1 : Pkt} {s : State} (h : Area.sub [.ports, .tenants, .hop, .power, .lo, .out]
    M = true) :
    ∃ g, execPortAlpha x0 x1 s = .next { s with block := g } ∧ g.seen M = s.block.seen M :=
  ⟨_, rfl, Block.submit_seen (op := 0x84) (Area.sub_trans (by decide) h) (fun _ e c b => by
    cases e; exact cmdPortAlpha_seen (Area.sub_trans (by decide) h))⟩

theorem execSpargeBind_seen {x0 : Fin 65} {x1 : Pkt} {s : State} (h : Area.sub [.ports, .tenants, .sparge, .power, .lo, .out] M = true) :
    ∃ g, execSpargeBind x0 x1 s = .next { s with block := g } ∧ g.seen M = s.block.seen M :=
  ⟨_, rfl, Block.submit_seen (op := 0x90) (Area.sub_trans (by decide) h) (fun _ e c b => by
    cases e; exact cmdSpargeBind_seen (Area.sub_trans (by decide) h))⟩

theorem execSpargeStatus_seen {x0 : Fin 65} {x1 : Pkt} {s : State} (h : Area.sub [.ports, .tenants, .sparge, .power, .lo, .out] M = true) :
    ∃ g, execSpargeStatus x0 x1 s = .next { s with block := g } ∧ g.seen M = s.block.seen M :=
  ⟨_, rfl, Block.submit_seen (op := 0x91) (Area.sub_trans (by decide) h) (fun _ e c b => by
    cases e; exact cmdSpargeStatus_seen (Area.sub_trans (by decide) h))⟩

theorem execSpargeResume_seen {x0 : Fin 65} {x1 : Pkt} {s : State} (h : Area.sub [.ports, .tenants, .sparge, .power, .lo, .out] M = true) :
    ∃ g, execSpargeResume x0 x1 s = .next { s with block := g } ∧ g.seen M = s.block.seen M :=
  ⟨_, rfl, Block.submit_seen (op := 0x92) (Area.sub_trans (by decide) h) (fun _ e c b => by
    cases e; exact cmdSpargeResume_seen (Area.sub_trans (by decide) h))⟩

theorem execTenantSet_seen {x0 : Fin 65} {x1 : Pkt} {s : State} (h : Area.sub [.ports, .tenants, .quotas, .sparge, .power, .lo, .out] M = true) :
    ∃ g, execTenantSet x0 x1 s = .next { s with block := g } ∧ g.seen M = s.block.seen M :=
  ⟨_, rfl, Block.submit_seen (op := 0xA0) (Area.sub_trans (by decide) h) (fun _ e c b => by
    cases e; exact cmdTenantSet_seen (Area.sub_trans (by decide) h))⟩

theorem execTenantGet_seen {x0 : Fin 65} {x1 : Pkt} {s : State} (h : Area.sub [.ports, .tenants, .power, .lo, .out] M =
    true) :
    ∃ g, execTenantGet x0 x1 s = .next { s with block := g } ∧ g.seen M = s.block.seen M :=
  ⟨_, rfl, Block.submit_seen (op := 0xA1) (Area.sub_trans (by decide) h) (fun _ e c b => by
    cases e; exact cmdTenantGet_seen (Area.sub_trans (by decide) h))⟩

theorem execTenantReset_seen {x0 : Fin 65} {x1 : Pkt} {s : State} (h : Area.sub [.cask, .ports, .tenants, .sparge, .hop, .power, .lo, .out] M = true) :
    ∃ g, execTenantReset x0 x1 s = .next { s with block := g } ∧ g.seen M = s.block.seen M :=
  ⟨_, rfl, Block.submit_seen (op := 0xA2) (Area.sub_trans (by decide) h) (fun _ e c b => by
    cases e; exact cmdTenantReset_seen (Area.sub_trans (by decide) h))⟩

theorem execViolations_seen {x0 : Fin 65} {x1 : Pkt} {s : State} (h : Area.sub [.ports, .tenants, .power, .lo, .out] M =
    true) :
    ∃ g, execViolations x0 x1 s = .next { s with block := g } ∧ g.seen M = s.block.seen M :=
  ⟨_, rfl, Block.submit_seen (op := 0xA3) (Area.sub_trans (by decide) h) (fun _ e c b => by
    cases e; exact cmdViolations_seen (Area.sub_trans (by decide) h))⟩

theorem execScrubAbort_seen {x0 : Fin 65} {x1 : Pkt} {s : State} (h : Area.sub [.taps, .views, .stations, .cask, .ports, .tenants, .sparge, .hop, .power, .lo, .out] M = true) :
    ∃ g, execScrubAbort x0 x1 s = .next { s with block := g } ∧ g.seen M = s.block.seen M :=
  ⟨_, rfl, Block.submit_seen (op := 0xA4) (Area.sub_trans (by decide) h) (fun _ e c b => by
    cases e; exact cmdScrubAbort_seen (Area.sub_trans (by decide) h))⟩

theorem execPortCounters_seen {x0 : Fin 65} {x1 : Pkt} {s : State} (h : Area.sub [.ports, .tenants, .power, .lo, .out] M =
    true) :
    ∃ g, execPortCounters x0 x1 s = .next { s with block := g } ∧ g.seen M = s.block.seen M :=
  ⟨_, rfl, Block.submit_seen (op := 0xA5) (Area.sub_trans (by decide) h) (fun _ e c b => by
    cases e; exact cmdPortCounters_seen (Area.sub_trans (by decide) h))⟩

theorem execFabricStatus_seen {x0 : Fin 65} {x1 : Pkt} {s : State} (h : Area.sub [.ports, .tenants, .power, .lo, .out] M =
    true) :
    ∃ g, execFabricStatus x0 x1 s = .next { s with block := g } ∧ g.seen M = s.block.seen M :=
  ⟨_, rfl, Block.submit_seen (op := 0xB0) (Area.sub_trans (by decide) h) (fun _ e c b => by
    cases e; exact cmdFabricStatus_seen (Area.sub_trans (by decide) h))⟩

theorem execLinkStatus_seen {x0 : Fin 65} {x1 : Pkt} {s : State} (h : Area.sub [.ports, .tenants, .hop, .power, .lo, .out]
    M = true) :
    ∃ g, execLinkStatus x0 x1 s = .next { s with block := g } ∧ g.seen M = s.block.seen M :=
  ⟨_, rfl, Block.submit_seen (op := 0xB1) (Area.sub_trans (by decide) h) (fun _ e c b => by
    cases e; exact cmdLinkStatus_seen (Area.sub_trans (by decide) h))⟩

theorem execLinkControl_seen {x0 : Fin 65} {x1 : Pkt} {s : State} (h : Area.sub [.taps, .views, .stations, .cask, .ports, .tenants, .sparge, .hop, .power, .time, .lo, .out] M = true) :
    ∃ g, execLinkControl x0 x1 s = .next { s with block := g } ∧ g.seen M = s.block.seen M :=
  ⟨_, rfl, Block.submit_seen (op := 0xB2) (Area.sub_trans (by decide) h) (fun _ e c b => by
    cases e; exact cmdLinkControl_seen (Area.sub_trans (by decide) h))⟩

theorem execRouteRead_seen {x0 : Fin 65} {x1 : Pkt} {s : State} (h : Area.sub [.ports, .tenants, .power, .lo, .out] M =
    true) :
    ∃ g, execRouteRead x0 x1 s = .next { s with block := g } ∧ g.seen M = s.block.seen M :=
  ⟨_, rfl, Block.submit_seen (op := 0xB3) (Area.sub_trans (by decide) h) (fun _ e c b => by
    cases e; exact cmdRouteRead_seen (Area.sub_trans (by decide) h))⟩

theorem execRediscover_seen {x0 : Fin 65} {x1 : Pkt} {s : State} (h : Area.sub [.taps, .views, .stations, .cask, .ports, .tenants, .hop, .power, .time, .lo, .out] M = true) :
    ∃ g, execRediscover x0 x1 s = .next { s with block := g } ∧ g.seen M = s.block.seen M :=
  ⟨_, rfl, Block.submit_seen (op := 0xB4) (Area.sub_trans (by decide) h) (fun _ e c b => by
    cases e; exact cmdRediscover_seen (Area.sub_trans (by decide) h))⟩

theorem execKeyRotate_seen {x0 : Fin 65} {x1 : Pkt} {s : State} (h : Area.sub [.ports, .tenants, .hop, .power, .lo, .out]
    M = true) :
    ∃ g, execKeyRotate x0 x1 s = .next { s with block := g } ∧ g.seen M = s.block.seen M :=
  ⟨_, rfl, Block.submit_seen (op := 0xB5) (Area.sub_trans (by decide) h) (fun _ e c b => by
    cases e; exact cmdKeyRotate_seen (Area.sub_trans (by decide) h))⟩

theorem execMeasStatus_seen {x0 : Fin 65} {x1 : Pkt} {s : State} (h : Area.sub [.ports, .tenants, .power, .lo, .out] M =
    true) :
    ∃ g, execMeasStatus x0 x1 s = .next { s with block := g } ∧ g.seen M = s.block.seen M :=
  ⟨_, rfl, Block.submit_seen (op := 0xC0) (Area.sub_trans (by decide) h) (fun _ e c b => by
    cases e; exact cmdMeasStatus_seen (Area.sub_trans (by decide) h))⟩

theorem execMeasRead_seen {x0 : Fin 65} {x1 : Pkt} {s : State} (h : Area.sub [.ports, .tenants, .power, .lo, .out] M =
    true) :
    ∃ g, execMeasRead x0 x1 s = .next { s with block := g } ∧ g.seen M = s.block.seen M :=
  ⟨_, rfl, Block.submit_seen (op := 0xC1) (Area.sub_trans (by decide) h) (fun _ e c b => by
    cases e; exact cmdMeasRead_seen (Area.sub_trans (by decide) h))⟩

theorem execPatchDigest_seen {x0 : Fin 65} {x1 : Pkt} {s : State} (h : Area.sub [.ports, .tenants, .power, .lo, .out] M =
    true) :
    ∃ g, execPatchDigest x0 x1 s = .next { s with block := g } ∧ g.seen M = s.block.seen M :=
  ⟨_, rfl, Block.submit_seen (op := 0xC2) (Area.sub_trans (by decide) h) (fun _ e c b => by
    cases e; exact cmdPatchDigest_seen (Area.sub_trans (by decide) h))⟩

theorem execPowerHold_seen {x0 : Fin 65} {x1 : Pkt} {s : State} (h : Area.sub [.ports, .tenants, .power, .lo, .out] M =
    true) :
    ∃ g, execPowerHold x0 x1 s = .next { s with block := g } ∧ g.seen M = s.block.seen M :=
  ⟨_, rfl, Block.submit_seen (op := 0xD0) (Area.sub_trans (by decide) h) (fun _ e c b => by
    cases e; exact cmdPowerHold_seen (Area.sub_trans (by decide) h))⟩

theorem execPowerStatus_seen {x0 : Fin 65} {x1 : Pkt} {s : State} (h : Area.sub [.ports, .tenants, .power, .lo, .out, .free] M = true) :
    ∃ g, execPowerStatus x0 x1 s = .next { s with block := g } ∧ g.seen M = s.block.seen M :=
  ⟨_, rfl, Block.submit_seen (op := 0xD1) (Area.sub_trans (by decide) h) (fun _ e c b => by
    cases e; exact cmdPowerStatus_seen (Area.sub_trans (by decide) h))⟩

theorem execPowerPolicy_seen {x0 : Fin 65} {x1 : Pkt} {s : State} (h : Area.sub [.ports, .tenants, .power, .lo, .out] M =
    true) :
    ∃ g, execPowerPolicy x0 x1 s = .next { s with block := g } ∧ g.seen M = s.block.seen M :=
  ⟨_, rfl, Block.submit_seen (op := 0xD2) (Area.sub_trans (by decide) h) (fun _ e c b => by
    cases e; exact cmdPowerPolicy_seen (Area.sub_trans (by decide) h))⟩

theorem execEcho_seen {x0 : Fin 65} {x1 : Pkt} {s : State} (h : Area.sub [.ports, .tenants, .power, .lo, .out] M = true) :
    ∃ g, execEcho x0 x1 s = .next { s with block := g } ∧ g.seen M = s.block.seen M :=
  ⟨_, rfl, Block.submit_seen (op := 0xF0) (Area.sub_trans (by decide) h) (fun _ e c b => by
    cases e; exact cmdEcho_seen (Area.sub_trans (by decide) h))⟩

theorem execDiagMark_seen {x0 : Fin 65} {x1 : Pkt} {s : State} (h : Area.sub [.ports, .tenants, .power, .recs, .lo, .out]
    M = true) :
    ∃ g, execDiagMark x0 x1 s = .next { s with block := g } ∧ g.seen M = s.block.seen M :=
  ⟨_, rfl, Block.submit_seen (op := 0xF1) (Area.sub_trans (by decide) h) (fun _ e c b => by
    cases e; exact cmdDiagMark_seen (Area.sub_trans (by decide) h))⟩

theorem execFaultRead_seen {x0 : Fin 65} {x1 : Pkt} {s : State} (h : Area.sub [.ports, .tenants, .power, .lo, .out] M =
    true) :
    ∃ g, execFaultRead x0 x1 s = .next { s with block := g } ∧ g.seen M = s.block.seen M :=
  ⟨_, rfl, Block.submit_seen (op := 0xF2) (Area.sub_trans (by decide) h) (fun _ e c b => by
    cases e; exact cmdFaultRead_seen (Area.sub_trans (by decide) h))⟩

theorem execCmdDataWrite_seen {x0 : RtReq} {s : State} (h : Area.sub [.taps, .views, .stations, .cask, .sync, .ports,
    .tenants, .sparge, .rings, .hop, .meas, .power, .time, .held, .lo, .out] M = true) :
    ∃ g, execCmdDataWrite x0 s = .next { s with block := g } ∧ g.seen M = s.block.seen M := by
  refine ⟨_, rfl, ?_⟩
  dsimp only
  repeat' first
    | (rw [Block.access_seen (Area.sub_trans (by decide) h)])

theorem execAbortOpen_seen {x0 : RtReq} {s : State} (h : Area.sub [.taps, .views, .stations, .cask, .sync, .ports,
    .tenants, .sparge, .rings, .hop, .meas, .power, .time, .held, .lo, .out] M = true) :
    ∃ g, execAbortOpen x0 s = .next { s with block := g } ∧ g.seen M = s.block.seen M := by
  refine ⟨_, rfl, ?_⟩
  dsimp only
  repeat' first
    | (rw [Block.access_seen (Area.sub_trans (by decide) h)])

theorem execAbortQueued_seen {x0 : RtReq} {s : State} (h : Area.sub [.taps, .views, .stations, .cask, .sync, .ports,
    .tenants, .sparge, .rings, .hop, .meas, .power, .time, .held, .lo, .out] M = true) :
    ∃ g, execAbortQueued x0 s = .next { s with block := g } ∧ g.seen M = s.block.seen M := by
  refine ⟨_, rfl, ?_⟩
  dsimp only
  repeat' first
    | (rw [Block.access_seen (Area.sub_trans (by decide) h)])

theorem execRspDataRead_seen {x0 : RtReq} {s : State} (h : Area.sub [.taps, .views, .stations, .cask, .sync, .ports,
    .tenants, .sparge, .rings, .hop, .meas, .power, .time, .held, .lo, .out] M = true) :
    ∃ g, execRspDataRead x0 s = .next { s with block := g } ∧ g.seen M = s.block.seen M := by
  refine ⟨_, rfl, ?_⟩
  dsimp only
  repeat' first
    | (rw [Block.access_seen (Area.sub_trans (by decide) h)])

theorem execRspStallExpiry_seen {x0 : Fin 65} {s : State} (h : Area.sub [.ports, .out] M = true) :
    ∃ g, execRspStallExpiry x0 s = .next { s with block := g } ∧ g.seen M = s.block.seen M := by
  refine ⟨_, rfl, ?_⟩
  dsimp only
  repeat' first
    | rw [Block.emit_seen (Area.sub_trans (by decide) h)]
    | rw [Block.modPort_seen (Area.sub_trans (by decide) h)]
    | rw [Block.each_seen]
    | rw [Block.foldl_seen]
    | rw [Block.foldl_snd_seen]
    | dsimp only
    | split

theorem execRspMarkWrite_seen {x0 : RtReq} {s : State} (h : Area.sub [.taps, .views, .stations, .cask, .sync, .ports,
    .tenants, .sparge, .rings, .hop, .meas, .power, .time, .held, .lo, .out] M = true) :
    ∃ g, execRspMarkWrite x0 s = .next { s with block := g } ∧ g.seen M = s.block.seen M := by
  refine ⟨_, rfl, ?_⟩
  dsimp only
  repeat' first
    | (rw [Block.access_seen (Area.sub_trans (by decide) h)])

theorem execRspRewind_seen {x0 : RtReq} {s : State} (h : Area.sub [.taps, .views, .stations, .cask, .sync, .ports,
    .tenants, .sparge, .rings, .hop, .meas, .power, .time, .held, .lo, .out] M = true) :
    ∃ g, execRspRewind x0 s = .next { s with block := g } ∧ g.seen M = s.block.seen M := by
  refine ⟨_, rfl, ?_⟩
  dsimp only
  repeat' first
    | (rw [Block.access_seen (Area.sub_trans (by decide) h)])

theorem execRspRelease_seen {x0 : RtReq} {s : State} (h : Area.sub [.taps, .views, .stations, .cask, .sync, .ports,
    .tenants, .sparge, .rings, .hop, .meas, .power, .time, .held, .lo, .out] M = true) :
    ∃ g, execRspRelease x0 s = .next { s with block := g } ∧ g.seen M = s.block.seen M := by
  refine ⟨_, rfl, ?_⟩
  dsimp only
  repeat' first
    | (rw [Block.access_seen (Area.sub_trans (by decide) h)])

theorem execFnResetWrite_seen {x0 : RtReq} {s : State} (h : Area.sub [.taps, .views, .stations, .cask, .sync, .ports,
    .tenants, .sparge, .rings, .hop, .meas, .power, .time, .held, .lo, .out] M = true) :
    ∃ g, execFnResetWrite x0 s = .next { s with block := g } ∧ g.seen M = s.block.seen M := by
  refine ⟨_, rfl, ?_⟩
  dsimp only
  repeat' first
    | (rw [Block.access_seen (Area.sub_trans (by decide) h)])

theorem execIntStatusClear_seen {x0 : RtReq} {s : State} (h : Area.sub [.taps, .views, .stations, .cask, .sync,
    .ports, .tenants, .sparge, .rings, .hop, .meas, .power, .time, .held, .lo, .out] M = true) :
    ∃ g, execIntStatusClear x0 s = .next { s with block := g } ∧ g.seen M = s.block.seen M := by
  refine ⟨_, rfl, ?_⟩
  dsimp only
  repeat' first
    | (rw [Block.access_seen (Area.sub_trans (by decide) h)])

theorem execIntEnableWrite_seen {x0 : RtReq} {s : State} (h : Area.sub [.taps, .views, .stations, .cask, .sync,
    .ports, .tenants, .sparge, .rings, .hop, .meas, .power, .time, .held, .lo, .out] M = true) :
    ∃ g, execIntEnableWrite x0 s = .next { s with block := g } ∧ g.seen M = s.block.seen M := by
  refine ⟨_, rfl, ?_⟩
  dsimp only
  repeat' first
    | (rw [Block.access_seen (Area.sub_trans (by decide) h)])

theorem execDoorbell_seen {x0 : Fin 16} {x1 : RtReq} {s : State} (h : Area.sub [.taps, .views, .stations, .cask,
    .sync, .ports, .tenants, .sparge, .rings, .hop, .meas, .power, .time, .held, .lo, .out] M = true) :
    ∃ g, execDoorbell x0 x1 s = .next { s with block := g } ∧ g.seen M = s.block.seen M := by
  refine ⟨_, rfl, ?_⟩
  dsimp only
  repeat' first
    | (rw [Block.access_seen (Area.sub_trans (by decide) h)])

theorem execRingReset_seen {x0 : Fin 16} {x1 : RtReq} {s : State} (h : Area.sub [.taps, .views, .stations, .cask,
    .sync, .ports, .tenants, .sparge, .rings, .hop, .meas, .power, .time, .held, .lo, .out] M = true) :
    ∃ g, execRingReset x0 x1 s = .next { s with block := g } ∧ g.seen M = s.block.seen M := by
  refine ⟨_, rfl, ?_⟩
  dsimp only
  repeat' first
    | (rw [Block.access_seen (Area.sub_trans (by decide) h)])

theorem execChannelEnable_seen {x0 : Fin 16} {x1 : RtReq} {s : State} (h : Area.sub [.taps, .views, .stations, .cask,
    .sync, .ports, .tenants, .sparge, .rings, .hop, .meas, .power, .time, .held, .lo, .out] M = true) :
    ∃ g, execChannelEnable x0 x1 s = .next { s with block := g } ∧ g.seen M = s.block.seen M := by
  refine ⟨_, rfl, ?_⟩
  dsimp only
  repeat' first
    | (rw [Block.access_seen (Area.sub_trans (by decide) h)])

theorem execChannelDisable_seen {x0 : Fin 16} {x1 : RtReq} {s : State} (h : Area.sub [.taps, .views, .stations,
    .cask, .sync, .ports, .tenants, .sparge, .rings, .hop, .meas, .power, .time, .held, .lo, .out] M = true) :
    ∃ g, execChannelDisable x0 x1 s = .next { s with block := g } ∧ g.seen M = s.block.seen M := by
  refine ⟨_, rfl, ?_⟩
  dsimp only
  repeat' first
    | (rw [Block.access_seen (Area.sub_trans (by decide) h)])

theorem execCntClearTime_seen {x0 : RtReq} {s : State} (h : Area.sub [.taps, .views, .stations, .cask, .sync, .ports,
    .tenants, .sparge, .rings, .hop, .meas, .power, .time, .held, .lo, .out] M = true) :
    ∃ g, execCntClearTime x0 s = .next { s with block := g } ∧ g.seen M = s.block.seen M := by
  refine ⟨_, rfl, ?_⟩
  dsimp only
  repeat' first
    | (rw [Block.access_seen (Area.sub_trans (by decide) h)])

theorem execCntClearMeas_seen {x0 : RtReq} {s : State} (h : Area.sub [.taps, .views, .stations, .cask, .sync, .ports,
    .tenants, .sparge, .rings, .hop, .meas, .power, .time, .held, .lo, .out] M = true) :
    ∃ g, execCntClearMeas x0 s = .next { s with block := g } ∧ g.seen M = s.block.seen M := by
  refine ⟨_, rfl, ?_⟩
  dsimp only
  repeat' first
    | (rw [Block.access_seen (Area.sub_trans (by decide) h)])

theorem execCntClearRec_seen {x0 : RtReq} {s : State} (h : Area.sub [.taps, .views, .stations, .cask, .sync, .ports,
    .tenants, .sparge, .rings, .hop, .meas, .power, .time, .held, .lo, .out] M = true) :
    ∃ g, execCntClearRec x0 s = .next { s with block := g } ∧ g.seen M = s.block.seen M := by
  refine ⟨_, rfl, ?_⟩
  dsimp only
  repeat' first
    | (rw [Block.access_seen (Area.sub_trans (by decide) h)])

theorem execCntClearBuserr_seen {x0 : RtReq} {s : State} (h : Area.sub [.taps, .views, .stations, .cask, .sync,
    .ports, .tenants, .sparge, .rings, .hop, .meas, .power, .time, .held, .lo, .out] M = true) :
    ∃ g, execCntClearBuserr x0 s = .next { s with block := g } ∧ g.seen M = s.block.seen M := by
  refine ⟨_, rfl, ?_⟩
  dsimp only
  repeat' first
    | (rw [Block.access_seen (Area.sub_trans (by decide) h)])

theorem execCntClearDefer_seen {x0 : RtReq} {s : State} (h : Area.sub [.taps, .views, .stations, .cask, .sync,
    .ports, .tenants, .sparge, .rings, .hop, .meas, .power, .time, .held, .lo, .out] M = true) :
    ∃ g, execCntClearDefer x0 s = .next { s with block := g } ∧ g.seen M = s.block.seen M := by
  refine ⟨_, rfl, ?_⟩
  dsimp only
  repeat' first
    | (rw [Block.access_seen (Area.sub_trans (by decide) h)])

theorem execSnapRelease_seen {x0 : RtReq} {s : State} (h : Area.sub [.taps, .views, .stations, .cask, .sync, .ports,
    .tenants, .sparge, .rings, .hop, .meas, .power, .time, .held, .lo, .out] M = true) :
    ∃ g, execSnapRelease x0 s = .next { s with block := g } ∧ g.seen M = s.block.seen M := by
  refine ⟨_, rfl, ?_⟩
  dsimp only
  repeat' first
    | (rw [Block.access_seen (Area.sub_trans (by decide) h)])

theorem execSplitLoRead_seen {x0 : Acc} {s : State} (h : Area.sub [.taps, .views, .stations, .cask, .sync, .ports,
    .tenants, .sparge, .rings, .hop, .meas, .power, .time, .held, .lo, .out] M = true) :
    ∃ g, execSplitLoRead x0 s = .next { s with block := g } ∧ g.seen M = s.block.seen M := by
  refine ⟨_, rfl, ?_⟩
  dsimp only
  repeat' first
    | (rw [Block.access_seen (Area.sub_trans (by decide) h)])

theorem execAccessOutsideRights_seen {x0 : Bool} {x1 : Acc} {s : State} (h : Area.sub [.taps, .views, .stations,
    .cask, .sync, .ports, .tenants, .sparge, .rings, .hop, .meas, .power, .time, .held, .lo, .out] M = true) :
    ∃ g, execAccessOutsideRights x0 x1 s = .next { s with block := g } ∧ g.seen M = s.block.seen M := by
  refine ⟨_, rfl, ?_⟩
  dsimp only
  repeat' first
    | with_reducible rfl
    | with_reducible refine Block.seen_ite ?_ ?_
    | rw [Block.access_seen (Area.sub_trans (by decide) h)]

theorem execRegisterWrite_seen {x0 : Acc} {s : State} (h : Area.sub [.taps, .views, .stations, .cask, .sync, .ports,
    .tenants, .sparge, .rings, .hop, .meas, .power, .time, .held, .lo, .out] M = true) :
    ∃ g, execRegisterWrite x0 s = .next { s with block := g } ∧ g.seen M = s.block.seen M := by
  refine ⟨_, rfl, ?_⟩
  dsimp only
  repeat' first
    | (rw [Block.access_seen (Area.sub_trans (by decide) h)])

theorem execRegisterAccessHeld_seen {x0 : Bool} {x1 : Acc} {s : State} (h : Area.sub [.taps, .views, .stations,
    .cask, .sync, .ports, .tenants, .sparge, .rings, .hop, .meas, .power, .time, .held, .lo, .out] M = true) :
    ∃ g, execRegisterAccessHeld x0 x1 s = .next { s with block := g } ∧ g.seen M = s.block.seen M := by
  refine ⟨_, rfl, ?_⟩
  dsimp only
  repeat' first
    | with_reducible rfl
    | with_reducible refine Block.seen_ite ?_ ?_
    | rw [Block.access_seen (Area.sub_trans (by decide) h)]

theorem execTapAcceptItem_seen {x0 : Fin 2048} {x1 : ℕ} {x2 : BitVec 4} {x3 : Payload} {s : State} (h : Area.sub [.taps, .tenants, .meas, .power] M = true) :
    ∃ g, execTapAcceptItem x0 x1 x2 x3 s = .next { s with block := g } ∧ g.seen M = s.block.seen M := by
  refine ⟨_, rfl, ?_⟩
  dsimp only
  repeat' first
    | with_reducible rfl
    | (with_reducible intro _)
    | exact Keeps.of (fun _ => rfl)
    | ((with_reducible refine Keeps.of ?_); intro x; first | rfl | (repeat' split) <;> rfl | (dsimp only; (repeat'
        split) <;> rfl))
    | with_reducible refine Block.seen_ite ?_ ?_
    | rw [Block.modTap_seen (Area.sub_trans (by decide) h)]
    | rw [Block.storeItem_seen (Area.sub_trans (by decide) h)]
    | rw [Block.passTap_seen (Area.sub_trans (by decide) h)]
    | rw [Block.each_seen]
    | rw [Block.foldl_seen]
    | rw [Block.foldl_snd_seen]
    | split
    | dsimp only

theorem execTapSlotWrite_seen {x0 : Fin 2048} {x1 : ℕ} {s : State} (h : Area.sub [.taps, .tenants, .meas, .power] M = true) :
    ∃ g, execTapSlotWrite x0 x1 s = .next { s with block := g } ∧ g.seen M = s.block.seen M := by
  refine ⟨_, rfl, ?_⟩
  dsimp only
  repeat' first
    | with_reducible rfl
    | (with_reducible intro _)
    | exact Keeps.of (fun _ => rfl)
    | ((with_reducible refine Keeps.of ?_); intro x; first | rfl | (repeat' split) <;> rfl | (dsimp only; (repeat'
        split) <;> rfl))
    | with_reducible refine Block.seen_ite ?_ ?_
    | rw [Block.slotWrite_seen (Area.sub_trans (by decide) h)]
    | rw [Block.modTap_seen (Area.sub_trans (by decide) h)]
    | rw [Block.passTap_seen (Area.sub_trans (by decide) h)]
    | rw [Block.each_seen]
    | rw [Block.foldl_seen]
    | rw [Block.foldl_snd_seen]
    | dsimp only
    | split

theorem execTapClockStateChange_seen {x0 : Fin 2048} {x1 : ℕ} {x2 : BitVec 2} {s : State} (h : Area.sub [.taps,
    .tenants, .meas, .power] M =
    true) :
    ∃ g, execTapClockStateChange x0 x1 x2 s = .next { s with block := g } ∧ g.seen M = s.block.seen M := by
  refine ⟨_, rfl, ?_⟩
  dsimp only
  repeat' first
    | with_reducible rfl
    | (with_reducible intro _)
    | exact Keeps.of (fun _ => rfl)
    | ((with_reducible refine Keeps.of ?_); intro x; first | rfl | (repeat' split) <;> rfl | (dsimp only; (repeat'
        split) <;> rfl))
    | with_reducible refine Block.seen_ite ?_ ?_
    | (rw [Block.modTap_seen (Area.sub_trans (by decide) h)])
    | rw [Block.passTap_seen (Area.sub_trans (by decide) h)]
    | rw [Block.clockMark_seen (Area.sub_trans (by decide) h)]
    | rw [Block.passToChange_seen (Area.sub_trans (by decide) h)]
    | rw [Block.slotWrite_seen (Area.sub_trans (by decide) h)]
    | rw [Block.each_seen]
    | rw [Block.foldl_seen]
    | rw [Block.foldl_snd_seen]
    | dsimp only
    | split

theorem execTapContextChange_seen {x0 : Fin 2048} {x1 : ℕ} {x2 : BitVec 12} {s : State} (h : Area.sub [.taps] M =
    true) :
    ∃ g, execTapContextChange x0 x1 x2 s = .next { s with block := g } ∧ g.seen M = s.block.seen M := by
  refine ⟨_, rfl, ?_⟩
  dsimp only
  repeat' first
    | (rw [Block.modTap_seen (Area.sub_trans (by decide) h)])

theorem execTapDrainRequest_seen {x0 : Fin 2048} {x1 : ℕ} {x2 : BitVec 4} {s : State} (h : Area.sub [.taps] M = true)
    :
    ∃ g, execTapDrainRequest x0 x1 x2 s = .next { s with block := g } ∧ g.seen M = s.block.seen M := by
  refine ⟨_, rfl, ?_⟩
  dsimp only
  repeat' first
    | with_reducible rfl
    | (with_reducible intro _)
    | exact Keeps.of (fun _ => rfl)
    | ((with_reducible refine Keeps.of ?_); intro x; first | rfl | (repeat' split) <;> rfl | (dsimp only; (repeat'
        split) <;> rfl))
    | with_reducible refine Block.seen_ite ?_ ?_
    | (rw [Block.modTap_seen (Area.sub_trans (by decide) h)])
    | rw [Block.each_seen]
    | rw [Block.foldl_seen]
    | rw [Block.foldl_snd_seen]
    | dsimp only
    | split

theorem execTapDrainAck_seen {x0 : Fin 2048} {x1 : ℕ} {s : State} (h : Area.sub [.taps, .views, .stations, .mash, .sync, .tenants, .power] M = true) :
    ∃ g, execTapDrainAck x0 x1 s = .next { s with block := g } ∧ g.seen M = s.block.seen M := by
  refine ⟨_, rfl, ?_⟩
  dsimp only
  repeat' first
    | with_reducible refine Block.seen_ite ?_ ?_
    | rw [Block.drainAckNow_seen (Area.sub_trans (by decide) h)]
    | rw [Block.modTap_seen (Area.sub_trans (by decide) h)]

theorem execTapDrainAbandon_seen {x0 : Fin 2048} {x1 : ℕ} {s : State} (h : Area.sub [.taps] M = true) :
    ∃ g, execTapDrainAbandon x0 x1 s = .next { s with block := g } ∧ g.seen M = s.block.seen M := by
  refine ⟨_, rfl, ?_⟩
  dsimp only
  repeat' first
    | with_reducible rfl
    | (with_reducible intro _)
    | exact Keeps.of (fun _ => rfl)
    | ((with_reducible refine Keeps.of ?_); intro x; first | rfl | (repeat' split) <;> rfl | (dsimp only; (repeat'
        split) <;> rfl))
    | with_reducible refine Block.seen_ite ?_ ?_
    | (rw [Block.modTap_seen (Area.sub_trans (by decide) h)])
    | rw [Block.each_seen]
    | rw [Block.foldl_seen]
    | rw [Block.foldl_snd_seen]
    | dsimp only
    | split

theorem execTapPowerUp_seen {x0 : Fin 2048} {x1 : Bool} {x2 : Bool} {x3 : BitVec 4} {x4 : BitVec 12} {s : State} (h :
    Area.sub [.taps] M = true) :
    ∃ g, execTapPowerUp x0 x1 x2 x3 x4 s = .next { s with block := g } ∧ g.seen M = s.block.seen M := by
  refine ⟨_, rfl, ?_⟩
  dsimp only
  repeat' first
    | with_reducible rfl
    | (with_reducible intro _)
    | exact Keeps.of (fun _ => rfl)
    | ((with_reducible refine Keeps.of ?_); intro x; first | rfl | (repeat' split) <;> rfl | (dsimp only; (repeat'
        split) <;> rfl))
    | with_reducible refine Block.seen_ite ?_ ?_
    | (rw [Block.modTap_seen (Area.sub_trans (by decide) h)])
    | rw [Block.each_seen]
    | rw [Block.foldl_seen]
    | rw [Block.foldl_snd_seen]
    | dsimp only
    | split

theorem execTapEnableRise_seen {x0 : Fin 2048} {x1 : ℕ} {x2 : BitVec 12} {s : State} (h : Area.sub [.taps, .views,
    .stations, .cask, .sync, .tenants, .power, .time] M = true) :
    ∃ g, execTapEnableRise x0 x1 x2 s = .next { s with block := g } ∧ g.seen M = s.block.seen M := by
  refine ⟨_, rfl, ?_⟩
  dsimp only
  repeat' first
    | with_reducible refine Block.seen_ite ?_ ?_
    | rw [Block.markStale_seen (Area.sub_trans (by decide) h)]
    | rw [Block.modTap_seen (Area.sub_trans (by decide) h)]
    | rw [Block.modView_seen (Area.sub_trans (by decide) h)]
    | rw [Block.realign_seen (Area.sub_trans (by decide) h)]

theorem execTapEnableFall_seen {x0 : Fin 2048} {x1 : ℕ} {s : State} (h : Area.sub [.taps, .views, .stations, .cask,
    .mash, .sync, .tenants, .power, .time] M = true) :
    ∃ g, execTapEnableFall x0 x1 s = .next { s with block := g } ∧ g.seen M = s.block.seen M := by
  refine ⟨_, rfl, ?_⟩
  dsimp only
  repeat' first
    | with_reducible refine Block.seen_ite ?_ ?_
    | rw [Block.modTap_seen (Area.sub_trans (by decide) h)]
    | rw [Block.drainChain_seen (Area.sub_trans (by decide) h)]
    | rw [Block.realign_seen (Area.sub_trans (by decide) h)]

theorem execTapStrobeArrival_seen {x0 : Fin 2048} {x1 : ℕ} {x2 : BitVec 6} {s : State} (h : Area.sub [.taps] M =
    true) :
    ∃ g, execTapStrobeArrival x0 x1 x2 s = .next { s with block := g } ∧ g.seen M = s.block.seen M := by
  refine ⟨_, rfl, ?_⟩
  dsimp only
  repeat' first
    | (rw [Block.modTap_seen (Area.sub_trans (by decide) h)])

theorem execTapFreezeLatch_seen {x0 : Fin 2048} {x1 : ℕ} {x2 : BitVec 6} {s : State} (h : Area.sub [.taps, .freezes]
    M = true) :
    ∃ g, execTapFreezeLatch x0 x1 x2 s = .next { s with block := g } ∧ g.seen M = s.block.seen M := by
  refine ⟨_, rfl, ?_⟩
  dsimp only
  repeat' first
    | with_reducible rfl
    | (with_reducible intro _)
    | exact Keeps.of (fun _ => rfl)
    | ((with_reducible refine Keeps.of ?_); intro x; first | rfl | (repeat' split) <;> rfl | (dsimp only; (repeat'
        split) <;> rfl))
    | with_reducible refine Block.seen_ite ?_ ?_
    | rw [Block.modTap_seen (Area.sub_trans (by decide) h)]
    | rw [Block.setFz_seen (Area.sub_trans (by decide) h)]
    | rw [Block.latchTap_seen (Area.sub_trans (by decide) h)]
    | rw [Block.each_seen]
    | rw [Block.foldl_seen]
    | rw [Block.foldl_snd_seen]
    | split
    | dsimp only

theorem execTapConfigApply_seen {x0 : Fin 2048} {x1 : ℕ} {s : State} (h : Area.sub [.taps] M = true) :
    ∃ g, execTapConfigApply x0 x1 s = .next { s with block := g } ∧ g.seen M = s.block.seen M := by
  refine ⟨_, rfl, ?_⟩
  dsimp only
  repeat' first
    | (rw [Block.modTap_seen (Area.sub_trans (by decide) h)])

theorem execTapResyncRequest_seen {x0 : Fin 2048} {s : State} (h : Area.sub [.taps] M = true) :
    ∃ g, execTapResyncRequest x0 s = .next { s with block := g } ∧ g.seen M = s.block.seen M := by
  refine ⟨_, rfl, ?_⟩
  dsimp only
  repeat' first
    | (rw [Block.modTap_seen (Area.sub_trans (by decide) h)])

theorem execTapAssayBeat_seen {x0 : Fin 2048} {x1 : Beat} {s : State} (h : Area.sub [.taps, .assay, .power] M = true)
    :
    ∃ g, execTapAssayBeat x0 x1 s = .next { s with block := g } ∧ g.seen M = s.block.seen M := by
  refine ⟨_, rfl, ?_⟩
  dsimp only
  repeat' first
    | with_reducible rfl
    | with_reducible refine Block.seen_ite ?_ ?_
    | rw [Block.modTap_seen (Area.sub_trans (by decide) h)]
    | rw [Block.modUnit_seen (Area.sub_trans (by decide) h)]
    | rw [Block.requestWake_seen (Area.sub_trans (by decide) h)]
    | rw [Block.activity_seen (Area.sub_trans (by decide) h)]

theorem execStationTakeItem_seen {x0 : Fin 32} {x1 : Fin 64} {s : State} (h : Area.sub [.taps, .views, .stations,
    .quads, .cask, .mash, .assay, .sync, .tenants, .power, .time] M = true) :
    ∃ g, execStationTakeItem x0 x1 s = .next { s with block := g } ∧ g.seen M = s.block.seen M := by
  refine ⟨_, rfl, ?_⟩
  dsimp only
  repeat' first
    | (with_reducible intro _)
    | exact Keeps.of (fun _ => rfl)
    | rw [Block.stage2_seen (Area.sub_trans (by decide) h)]
    | rw [Block.modStation_seen (Area.sub_trans (by decide) h)]
    | rw [Block.modTap_seen (Area.sub_trans (by decide) h)]
    | rw [Block.stage3_seen (Area.sub_trans (by decide) h)]
    | rw [Block.sumSkipped_seen (Area.sub_trans (by decide) h)]
    | rw [Block.ledgerMove_seen (Area.sub_trans (by decide) h)]
    | rw [Block.stage5_seen (Area.sub_trans (by decide) h)]
    | (refine ((Block.stage5_seen' (Area.sub_trans (by decide) h) (by assumption)).trans ?_))
    | rw [Block.stage4_seen (Area.sub_trans (by decide) h)]
    | (refine ((Block.stage4_seen' (Area.sub_trans (by decide) h) (by assumption)).trans ?_))
    | rw [Block.each_seen]
    | rw [Block.foldl_seen]
    | rw [Block.foldl_snd_seen]
    | dsimp only
    | split

theorem execPeriodStrobe_seen {x0 : Fin 32} {s : State} (h : Area.sub [.taps, .views, .stations, .cask, .tenants,
    .power, .time] M = true) :
    ∃ g, execPeriodStrobe x0 s = .next { s with block := g } ∧ g.seen M = s.block.seen M := by
  refine ⟨_, rfl, ?_⟩
  dsimp only
  repeat' first
    | with_reducible rfl
    | with_reducible refine Block.seen_ite ?_ ?_
    | rw [Block.periodStrobe_seen (Area.sub_trans (by decide) h)]

theorem execStretchTick_seen {x0 : Fin 32} {x1 : Fin 64} {s : State} (h : Area.sub [.taps, .views, .stations, .cask,
    .tenants, .power, .time] M = true) :
    ∃ g, execStretchTick x0 x1 s = .next { s with block := g } ∧ g.seen M = s.block.seen M := by
  refine ⟨_, rfl, ?_⟩
  dsimp only
  repeat' first
    | with_reducible rfl
    | with_reducible refine Block.seen_ite ?_ ?_
    | rw [Block.regionStrobe_seen (Area.sub_trans (by decide) h)]

theorem execWakeReqStrobe_seen {x0 : Fin 2048} {s : State} (h : Area.sub [.taps, .views, .stations, .cask, .tenants,
    .power, .time] M = true) :
    ∃ g, execWakeReqStrobe x0 s = .next { s with block := g } ∧ g.seen M = s.block.seen M := by
  refine ⟨_, rfl, ?_⟩
  dsimp only
  repeat' first
    | with_reducible rfl
    | with_reducible refine Block.seen_ite ?_ ?_
    | rw [Block.strobe_seen (Area.sub_trans (by decide) h)]
    | rw [Block.modTap_seen (Area.sub_trans (by decide) h)]

theorem execClockStateInputChange_seen {x0 : Fin 64} {x1 : BitVec 2} {s : State} (h : Area.sub [.taps, .views,
    .stations, .cask, .tenants, .power, .time] M = true) :
    ∃ g, execClockStateInputChange x0 x1 s = .next { s with block := g } ∧ g.seen M = s.block.seen M := by
  refine ⟨_, rfl, ?_⟩
  dsimp only
  repeat' first
    | with_reducible rfl
    | (with_reducible intro _)
    | exact Keeps.of (fun _ => rfl)
    | ((with_reducible refine Keeps.of ?_); intro x; first | rfl | (repeat' split) <;> rfl | (dsimp only; (repeat'
        split) <;> rfl))
    | with_reducible refine Block.seen_ite ?_ ?_
    | rw [Block.regionChange_seen (Area.sub_trans (by decide) h)]
    | rw [Block.modTime_seen (Area.sub_trans (by decide) h)]
    | rw [Block.requestWake_seen (Area.sub_trans (by decide) h)]
    | rw [Block.each_seen]
    | rw [Block.foldl_seen]
    | rw [Block.foldl_snd_seen]
    | dsimp only
    | split

theorem execTcalPeriodic_seen {x0 : List (Fin 2048 × ℕ)} {s : State} (h : Area.sub [.taps, .views, .stations, .cask,
    .tenants, .power, .time] M = true) :
    ∃ g, execTcalPeriodic x0 s = .next { s with block := g } ∧ g.seen M = s.block.seen M := by
  refine ⟨_, rfl, ?_⟩
  dsimp only
  repeat' first
    | exact Keeps.of (fun _ => rfl)
    | ((with_reducible refine Keeps.of ?_); intro x; first | rfl | (repeat' split) <;> rfl | (dsimp only; (repeat'
        split) <;> rfl))
    | with_reducible rfl
    | (with_reducible intro _)
    | with_reducible refine Block.seen_ite ?_ ?_
    | rw [Block.modTime_seen (Area.sub_trans (by decide) h)]
    | rw [Block.requestWake_seen (Area.sub_trans (by decide) h)]
    | rw [Block.realign_seen (Area.sub_trans (by decide) h)]
    | rw [Block.measureTap_seen (Area.sub_trans (by decide) h)]
    | rw [Block.each_seen]
    | rw [Block.foldl_seen]
    | rw [Block.foldl_snd_seen]
    | dsimp only
    | split

theorem execTcalIdle_seen {x0 : Fin 2048} {x1 : ℕ} {x2 : ℕ} {s : State} (h : Area.sub [.taps, .views, .stations,
    .cask, .tenants, .power, .time] M = true) :
    ∃ g, execTcalIdle x0 x1 x2 s = .next { s with block := g } ∧ g.seen M = s.block.seen M := by
  refine ⟨_, rfl, ?_⟩
  dsimp only
  repeat' first
    | with_reducible rfl
    | with_reducible refine Block.seen_ite ?_ ?_
    | rw [Block.realign_seen (Area.sub_trans (by decide) h)]
    | rw [Block.measureTap_seen (Area.sub_trans (by decide) h)]

theorem execCrossTriggerArrival_seen {x0 : Fin 32} {s : State} (h : Area.sub [.taps, .views, .stations, .cask,
    .tenants, .power] M = true) :
    ∃ g, execCrossTriggerArrival x0 s = .next { s with block := g } ∧ g.seen M = s.block.seen M := by
  refine ⟨_, rfl, ?_⟩
  dsimp only
  repeat' first
    | with_reducible rfl
    | with_reducible refine Block.seen_ite ?_ ?_
    | rw [Block.arrive_seen (Area.sub_trans (by decide) h)]

theorem execAssayEventArrival_seen {x0 : Fin 32} {s : State} (h : Area.sub [.taps, .views, .stations, .cask,
    .tenants, .power] M = true) :
    ∃ g, execAssayEventArrival x0 s = .next { s with block := g } ∧ g.seen M = s.block.seen M := by
  refine ⟨_, rfl, ?_⟩
  dsimp only
  repeat' first
    | with_reducible rfl
    | with_reducible refine Block.seen_ite ?_ ?_
    | rw [Block.arrive_seen (Area.sub_trans (by decide) h)]

theorem execSeqTimerFire_seen {x0 : Fin 32} {x1 : Fin 8} {s : State} (h : Area.sub [.taps, .views, .stations, .cask,
    .tenants, .power] M = true) :
    ∃ g, execSeqTimerFire x0 x1 s = .next { s with block := g } ∧ g.seen M = s.block.seen M := by
  refine ⟨_, rfl, ?_⟩
  dsimp only
  repeat' first
    | with_reducible rfl
    | with_reducible refine Block.seen_ite ?_ ?_
    | rw [Block.modSeq_seen (Area.sub_trans (by decide) h)]
    | rw [Block.seqAct_seen (Area.sub_trans (by decide) h)]

theorem execQuadrantGrant_seen {x0 : Fin 4} {s : State} (h : Area.sub [.stations, .quads, .cask, .freezes, .tenants,
    .power] M = true) :
    ∃ g, execQuadrantGrant x0 s = .next { s with block := g } ∧ g.seen M = s.block.seen M := by
  refine ⟨_, rfl, ?_⟩
  dsimp only
  repeat' first
    | with_reducible rfl
    | (with_reducible intro _)
    | exact Keeps.of (fun _ => rfl)
    | ((with_reducible refine Keeps.of ?_); intro x; first | rfl | (repeat' split) <;> rfl | (dsimp only; (repeat'
        split) <;> rfl))
    | with_reducible refine Block.seen_ite ?_ ?_
    | rw [grantPorts_seen (Area.sub_trans (by decide) h)]
    | rw [Block.admit_seen (Area.sub_trans (by decide) h)]
    | rw [Block.freeFreezes_seen (Area.sub_trans (by decide) h)]
    | rw [Block.modQuad_seen (Area.sub_trans (by decide) h)]
    | rw [Block.each_seen]
    | rw [Block.foldl_seen]
    | rw [Block.foldl_snd_seen]
    | dsimp only
    | split

theorem execRecordOffer_seen {x0 : RecSrc} {s : State} (h : Area.sub [.quads, .tenants, .power, .recs] M = true) :
    ∃ g, execRecordOffer x0 s = .next { s with block := g } ∧ g.seen M = s.block.seen M := by
  refine ⟨_, rfl, ?_⟩
  dsimp only
  split
  · split
    · exact (Block.offerRec_seen (Area.sub_trans (by decide) h)).trans (Block.set_recs_seen (Area.sub_trans (by
        decide) h))
    · rfl
  · rfl

theorem execRecordFragmentEntry_seen {x0 : Fin 4} {s : State} (h : Area.sub [.quads] M = true) :
    ∃ g, execRecordFragmentEntry x0 s = .next { s with block := g } ∧ g.seen M = s.block.seen M := by
  refine ⟨_, rfl, ?_⟩
  dsimp only
  repeat' first
    | rw [Block.modQuad_seen (Area.sub_trans (by decide) h)]
    | rw [Block.each_seen]
    | rw [Block.foldl_seen]
    | rw [Block.foldl_snd_seen]
    | dsimp only
    | split

theorem execStreamFlushExpiry_seen {x0 : Fin 65} {x1 : Fin 4} {s : State} (h : Area.sub [.cask] M = true) :
    ∃ g, execStreamFlushExpiry x0 x1 s = .next { s with block := g } ∧ g.seen M = s.block.seen M := by
  refine ⟨_, rfl, ?_⟩
  dsimp only
  repeat' first
    | rw [Block.closePage_seen (Area.sub_trans (by decide) h)]
    | rw [Block.each_seen]
    | rw [Block.foldl_seen]
    | rw [Block.foldl_snd_seen]
    | dsimp only
    | split

theorem execPatrolSlice_seen {x0 : Fin 512} {x1 : Fin 16} {x2 : Fin 64} {x3 : Fin 3} {s : State} (h : Area.sub
    [.cask, .tenants, .power] M = true) :
    ∃ g, execPatrolSlice x0 x1 x2 x3 s = .next { s with block := g } ∧ g.seen M = s.block.seen M := by
  refine ⟨_, rfl, ?_⟩
  dsimp only
  repeat' first
    | (with_reducible intro _)
    | exact Keeps.of (fun _ => rfl)
    | ((with_reducible refine Keeps.of ?_); intro x; first | rfl | (repeat' split) <;> rfl | (dsimp only; (repeat'
        split) <;> rfl))
    | with_reducible rfl
    | with_reducible refine Block.seen_ite ?_ ?_
    | rw [Block.noteBad_seen (Area.sub_trans (by decide) h)]
    | rw [Block.fenceMacro_seen (Area.sub_trans (by decide) h)]
    | rw [Block.modCask_seen (Area.sub_trans (by decide) h)]
    | rw [Block.patrolPass_seen (Area.sub_trans (by decide) h)]
    | rw [Block.countFixed_seen (Area.sub_trans (by decide) h)]
    | rw [Block.each_seen]
    | rw [Block.foldl_seen]
    | rw [Block.foldl_snd_seen]
    | dsimp only
    | split

theorem execSyncItemApply_seen {x0 : Fin 4} {s : State} (h : Area.sub [.views, .quads, .mash, .sync] M = true) :
    ∃ g, execSyncItemApply x0 s = .next { s with block := g } ∧ g.seen M = s.block.seen M := by
  refine ⟨_, rfl, ?_⟩
  dsimp only
  repeat' first
    | with_reducible rfl
    | (with_reducible intro _)
    | exact Keeps.of (fun _ => rfl)
    | ((with_reducible refine Keeps.of ?_); intro x; first | rfl | (repeat' split) <;> rfl | (dsimp only; (repeat'
        split) <;> rfl))
    | with_reducible refine Block.seen_ite ?_ ?_
    | rw [Block.applySItem_seen (Area.sub_trans (by decide) h)]
    | rw [Block.modQuad_seen (Area.sub_trans (by decide) h)]
    | rw [Block.armNoprog_seen (Area.sub_trans (by decide) h)]
    | rw [Block.each_seen]
    | rw [Block.foldl_seen]
    | rw [Block.foldl_snd_seen]
    | dsimp only
    | split

theorem execStepQueueSpace_seen {s : State} (h : Area.sub [.mash] M = true) :
    ∃ g, execStepQueueSpace s = .next { s with block := g } ∧ g.seen M = s.block.seen M := by
  refine ⟨_, rfl, ?_⟩
  dsimp only
  repeat' first
    | with_reducible rfl
    | ((with_reducible refine Keeps.of ?_); intro x; first | rfl | (repeat' split) <;> rfl | (dsimp only; (repeat'
        split) <;> rfl))
    | with_reducible refine Block.seen_ite ?_ ?_
    | (with_reducible intro _)
    | exact Keeps.of (fun _ => rfl)
    | rw [Block.modMash_seen (Area.sub_trans (by decide) h)]
    | rw [Block.queueParts_seen (Area.sub_trans (by decide) h)]
    | rw [Block.issueHeld_seen (Area.sub_trans (by decide) h)]
    | rw [queueSteps_seen (Area.sub_trans (by decide) h)]
    | rw [Block.each_seen]
    | rw [Block.foldl_seen]
    | rw [Block.foldl_snd_seen]
    | dsimp only
    | split

theorem execMashStepApply_seen {s : State} (h : Area.sub [.mash] M = true) :
    ∃ g, execMashStepApply s = .next { s with block := g } ∧ g.seen M = s.block.seen M := by
  refine ⟨_, rfl, ?_⟩
  dsimp only
  repeat' first
    | (with_reducible intro _)
    | exact Keeps.of (fun _ => rfl)
    | rw [Block.applyRow_seen (Area.sub_trans (by decide) h)]
    | rw [Block.advanceScans_seen (Area.sub_trans (by decide) h)]
    | rw [Block.modMash_seen (Area.sub_trans (by decide) h)]
    | rw [Block.each_seen]
    | rw [Block.foldl_seen]
    | rw [Block.foldl_snd_seen]
    | dsimp only
    | split

theorem execLoopPeriodExpiry_seen {x0 : Fin 16} {s : State} (h : Area.sub [.mash] M = true) :
    ∃ g, execLoopPeriodExpiry x0 s = .next { s with block := g } ∧ g.seen M = s.block.seen M := by
  refine ⟨_, rfl, ?_⟩
  dsimp only
  repeat' first
    | rw [Block.closeWindow_seen (Area.sub_trans (by decide) h)]
    | rw [Block.openWindow_seen (Area.sub_trans (by decide) h)]
    | rw [Block.mergeWindow_seen (Area.sub_trans (by decide) h)]
    | rw [Block.modSlot_seen (Area.sub_trans (by decide) h)]
    | rw [Block.each_seen]
    | rw [Block.foldl_seen]
    | rw [Block.foldl_snd_seen]
    | dsimp only
    | split

theorem execWindowOverlong_seen {x0 : Fin 16} {s : State} (h : Area.sub [.mash] M = true) :
    ∃ g, execWindowOverlong x0 s = .next { s with block := g } ∧ g.seen M = s.block.seen M := by
  refine ⟨_, rfl, ?_⟩
  dsimp only
  repeat' first
    | with_reducible rfl
    | (with_reducible intro _)
    | exact Keeps.of (fun _ => rfl)
    | ((with_reducible refine Keeps.of ?_); intro x; first | rfl | (repeat' split) <;> rfl | (dsimp only; (repeat'
        split) <;> rfl))
    | with_reducible refine Block.seen_ite ?_ ?_
    | rw [Block.modSlot_seen (Area.sub_trans (by decide) h)]
    | rw [Block.closeOverlong_seen (Area.sub_trans (by decide) h)]
    | rw [Block.each_seen]
    | rw [Block.foldl_seen]
    | rw [Block.foldl_snd_seen]
    | dsimp only
    | split

theorem execRecordTokenGain_seen {s : State} (h : Area.sub [.mash] M = true) :
    ∃ g, execRecordTokenGain s = .next { s with block := g } ∧ g.seen M = s.block.seen M := by
  refine ⟨_, rfl, ?_⟩
  dsimp only
  repeat' first
    | with_reducible rfl
    | (with_reducible intro _)
    | ((with_reducible refine Keeps.of ?_); intro x; first | rfl | (repeat' split) <;> rfl | (dsimp only; (repeat'
        split) <;> rfl))
    | with_reducible refine Block.seen_ite ?_ ?_
    | exact Keeps.of (fun _ => rfl)
    | rw [Block.finishClose_seen (Area.sub_trans (by decide) h)]
    | rw [Block.modMash_seen (Area.sub_trans (by decide) h)]
    | rw [Block.closeOverlong_seen (Area.sub_trans (by decide) h)]
    | rw [Block.tokenTo_seen (Area.sub_trans (by decide) h)]
    | rw [Block.each_seen]
    | rw [Block.foldl_seen]
    | rw [Block.foldl_snd_seen]
    | dsimp only
    | split

theorem execMashScanStart_seen {s : State} (h : Area.sub [.mash] M = true) :
    ∃ g, execMashScanStart s = .next { s with block := g } ∧ g.seen M = s.block.seen M := by
  refine ⟨_, rfl, ?_⟩
  dsimp only
  repeat' first
    | exact Keeps.of (fun _ => rfl)
    | rw [Block.modMash_seen (Area.sub_trans (by decide) h)]
    | rw [Block.each_seen]
    | rw [Block.foldl_seen]
    | rw [Block.foldl_snd_seen]
    | dsimp only
    | split

theorem execMashScanEnd_seen {s : State} (h : Area.sub [.mash] M = true) :
    ∃ g, execMashScanEnd s = .next { s with block := g } ∧ g.seen M = s.block.seen M := by
  refine ⟨_, rfl, ?_⟩
  dsimp only
  repeat' first
    | exact Keeps.of (fun _ => rfl)
    | rw [Block.scanAdvance_seen (Area.sub_trans (by decide) h)]
    | (refine ((Block.scanAdvance_seen' (Area.sub_trans (by decide) h) (by assumption)).trans ?_))
    | rw [Block.modMash_seen (Area.sub_trans (by decide) h)]
    | rw [Block.each_seen]
    | rw [Block.foldl_seen]
    | rw [Block.foldl_snd_seen]
    | dsimp only
    | split

theorem execLoopRecordPlace_seen {s : State} (h : Area.sub [.quads, .mash, .tenants, .power] M = true) :
    ∃ g, execLoopRecordPlace s = .next { s with block := g } ∧ g.seen M = s.block.seen M := by
  refine ⟨_, rfl, ?_⟩
  dsimp only
  repeat' first
    | with_reducible rfl
    | (with_reducible intro _)
    | ((with_reducible refine Keeps.of ?_); intro x; first | rfl | (repeat' split) <;> rfl | (dsimp only; (repeat'
        split) <;> rfl))
    | with_reducible refine Block.seen_ite ?_ ?_
    | exact Keeps.of (fun _ => rfl)
    | rw [Block.offerRec_seen (Area.sub_trans (by decide) h)]
    | rw [Block.modSlot_seen (Area.sub_trans (by decide) h)]
    | rw [Block.modMash_seen (Area.sub_trans (by decide) h)]
    | rw [Block.each_seen]
    | rw [Block.foldl_seen]
    | rw [Block.foldl_snd_seen]
    | dsimp only
    | split

theorem execDeadlineMiss_seen {x0 : Fin 16} {s : State} (h : Area.sub [.taps, .views, .stations, .cask, .mash,
    .tenants, .power] M = true) :
    ∃ g, execDeadlineMiss x0 s = .next { s with block := g } ∧ g.seen M = s.block.seen M := by
  refine ⟨_, rfl, ?_⟩
  dsimp only
  repeat' first
    | with_reducible rfl
    | (with_reducible intro _)
    | exact Keeps.of (fun _ => rfl)
    | ((with_reducible refine Keeps.of ?_); intro x; first | rfl | (repeat' split) <;> rfl | (dsimp only; (repeat'
        split) <;> rfl))
    | with_reducible refine Block.seen_ite ?_ ?_
    | rw [Block.requestWake_seen (Area.sub_trans (by decide) h)]
    | rw [Block.modSlot_seen (Area.sub_trans (by decide) h)]
    | rw [Block.missed_seen (Area.sub_trans (by decide) h)]
    | rw [Block.deadlineWake_seen (Area.sub_trans (by decide) h)]
    | rw [Block.each_seen]
    | rw [Block.foldl_seen]
    | rw [Block.foldl_snd_seen]
    | dsimp only
    | split

theorem execNoprogSweepEntry_seen {s : State} (h : Area.sub [.taps, .views, .stations, .cask, .sync, .freezes,
    .tenants, .power, .recs] M = true) :
    ∃ g, execNoprogSweepEntry s = .next { s with block := g } ∧ g.seen M = s.block.seen M := by
  refine ⟨_, rfl, ?_⟩
  dsimp only
  repeat' first
    | (with_reducible intro _)
    | exact Keeps.of (fun _ => rfl)
    | ((with_reducible refine Keeps.of ?_); intro x; first | rfl | (repeat' split) <;> rfl | (dsimp only; (repeat'
        split) <;> rfl))
    | with_reducible rfl
    | with_reducible refine Block.seen_ite ?_ ?_
    | rw [Block.startWalk_seen (Area.sub_trans (by decide) h)]
    | rw [Block.modSync_seen (Area.sub_trans (by decide) h)]
    | rw [Block.autoSnap_seen (Area.sub_trans (by decide) h)]
    | rw [Block.deliver_seen (Area.sub_trans (by decide) h)]
    | rw [Block.modObj_seen (Area.sub_trans (by decide) h)]
    | rw [Block.each_seen]
    | rw [Block.foldl_seen]
    | rw [Block.foldl_snd_seen]
    | dsimp only
    | split

theorem execNoprogWake_seen {s : State} (h : Area.sub [.sync, .power] M = true) :
    ∃ g, execNoprogWake s = .next { s with block := g } ∧ g.seen M = s.block.seen M := by
  refine ⟨_, rfl, ?_⟩
  dsimp only
  repeat' first
    | with_reducible rfl
    | (with_reducible intro _)
    | exact Keeps.of (fun _ => rfl)
    | ((with_reducible refine Keeps.of ?_); intro x; first | rfl | (repeat' split) <;> rfl | (dsimp only; (repeat'
        split) <;> rfl))
    | with_reducible refine Block.seen_ite ?_ ?_
    | rw [Block.modPower_seen (Area.sub_trans (by decide) h)]
    | rw [Block.requestWake_seen (Area.sub_trans (by decide) h)]
    | rw [Block.modSync_seen (Area.sub_trans (by decide) h)]
    | rw [Block.each_seen]
    | rw [Block.foldl_seen]
    | rw [Block.foldl_snd_seen]
    | dsimp only
    | split

theorem execKnotPeriodExpiry_seen {s : State} (h : Area.sub [.sync, .power] M = true) :
    ∃ g, execKnotPeriodExpiry s = .next { s with block := g } ∧ g.seen M = s.block.seen M := by
  refine ⟨_, rfl, ?_⟩
  dsimp only
  repeat' first
    | (with_reducible intro _)
    | exact Keeps.of (fun _ => rfl)
    | ((with_reducible refine Keeps.of ?_); intro x; first | rfl | (repeat' split) <;> rfl | (dsimp only; (repeat'
        split) <;> rfl))
    | with_reducible rfl
    | with_reducible refine Block.seen_ite ?_ ?_
    | rw [Block.startWalk_seen (Area.sub_trans (by decide) h)]
    | rw [Block.requestWake_seen (Area.sub_trans (by decide) h)]
    | rw [Block.each_seen]
    | rw [Block.foldl_seen]
    | rw [Block.foldl_snd_seen]
    | dsimp only
    | split

theorem execKnotWalkEnd_seen {s : State} (h : Area.sub [.taps, .views, .stations, .cask, .sync, .freezes, .ports,
    .tenants, .power, .recs, .out] M = true) :
    ∃ g, execKnotWalkEnd s = .next { s with block := g } ∧ g.seen M = s.block.seen M := by
  refine ⟨_, rfl, ?_⟩
  dsimp only
  repeat' first
    | with_reducible rfl
    | (with_reducible intro _)
    | exact Keeps.of (fun _ => rfl)
    | ((with_reducible refine Keeps.of ?_); intro x; first | rfl | (repeat' split) <;> rfl | (dsimp only; (repeat'
        split) <;> rfl))
    | with_reducible refine Block.seen_ite ?_ ?_
    | rw [Block.walkEnd_seen (Area.sub_trans (by decide) h)]
    | (refine ((Block.walkEnd_seen' (Area.sub_trans (by decide) h) (by assumption)).trans ?_))
    | rw [Block.finishLongs_seen (Area.sub_trans (by decide) h)]
    | rw [Block.walkEnd_seen' (Area.sub_trans (by decide) h) (by assumption)]
    | rw [Block.each_seen]
    | rw [Block.foldl_seen]
    | rw [Block.foldl_snd_seen]
    | dsimp only
    | split

theorem execSnapshotCapture_seen {s : State} (h : Area.sub [.sync] M = true) :
    ∃ g, execSnapshotCapture s = .next { s with block := g } ∧ g.seen M = s.block.seen M := by
  refine ⟨_, rfl, ?_⟩
  dsimp only
  repeat' first
    | with_reducible rfl
    | (with_reducible intro _)
    | exact Keeps.of (fun _ => rfl)
    | ((with_reducible refine Keeps.of ?_); intro x; first | rfl | (repeat' split) <;> rfl | (dsimp only; (repeat'
        split) <;> rfl))
    | with_reducible refine Block.seen_ite ?_ ?_
    | rw [Block.modSync_seen (Area.sub_trans (by decide) h)]
    | rw [Block.each_seen]
    | rw [Block.foldl_seen]
    | rw [Block.foldl_snd_seen]
    | dsimp only
    | split

theorem execSnapshotCaptureDone_seen {s : State} (h : Area.sub [.sync, .tenants, .recs, .free] M = true) :
    ∃ g, execSnapshotCaptureDone s = .next { s with block := g } ∧ g.seen M = s.block.seen M := by
  refine ⟨_, rfl, ?_⟩
  dsimp only
  repeat' first
    | (with_reducible intro _)
    | exact Keeps.of (fun _ => rfl)
    | ((with_reducible refine Keeps.of ?_); intro x; first | rfl | (repeat' split) <;> rfl | (dsimp only; (repeat'
        split) <;> rfl))
    | with_reducible rfl
    | with_reducible refine Block.seen_ite ?_ ?_
    | rw [Block.modSync_seen (Area.sub_trans (by decide) h)]
    | rw [Block.takeFree_seen (Area.sub_trans (by decide) h)]
    | (refine ((Block.takeFree_seen' (Area.sub_trans (by decide) h) (by assumption)).trans ?_))
    | rw [Block.raise_seen (Area.sub_trans (by decide) h)]
    | rw [Block.queueRec_seen (Area.sub_trans (by decide) h)]
    | rw [Block.takeFree_seen' (Area.sub_trans (by decide) h) (by assumption)]
    | rw [Block.each_seen]
    | rw [Block.foldl_seen]
    | rw [Block.foldl_snd_seen]
    | dsimp only
    | split

theorem execAssayBeatTake_seen {x0 : Fin 16} {s : State} (h : Area.sub [.taps, .stations, .quads, .assay, .tenants,
    .power] M = true) :
    ∃ g, execAssayBeatTake x0 s = .next { s with block := g } ∧ g.seen M = s.block.seen M := by
  refine ⟨_, rfl, ?_⟩
  dsimp only
  repeat' first
    | rw [Block.modTap_seen (Area.sub_trans (by decide) h)]
    | rw [Block.modUnit_seen (Area.sub_trans (by decide) h)]
    | rw [Block.processBeat_seen (Area.sub_trans (by decide) h)]
    | rw [Block.each_seen]
    | rw [Block.foldl_seen]
    | rw [Block.foldl_snd_seen]
    | dsimp only
    | split

theorem execRowCommit_seen {x0 : Fin 16} {x1 : Fin 2048} {s : State} (h : Area.sub [.stations, .quads, .assay,
    .tenants, .power] M = true) :
    ∃ g, execRowCommit x0 x1 s = .next { s with block := g } ∧ g.seen M = s.block.seen M := by
  refine ⟨_, rfl, ?_⟩
  dsimp only
  repeat' first
    | with_reducible rfl
    | with_reducible refine Block.seen_ite ?_ ?_
    | rw [Block.commitRow_seen (Area.sub_trans (by decide) h)]

theorem execTensorGapExpiry_seen {x0 : Fin 16} {x1 : Fin 2048} {s : State} (h : Area.sub [.stations, .quads, .assay,
    .tenants, .power] M = true) :
    ∃ g, execTensorGapExpiry x0 x1 s = .next { s with block := g } ∧ g.seen M = s.block.seen M := by
  refine ⟨_, rfl, ?_⟩
  dsimp only
  repeat' first
    | rw [Block.closeTensor_seen (Area.sub_trans (by decide) h)]
    | rw [Block.each_seen]
    | rw [Block.foldl_seen]
    | rw [Block.foldl_snd_seen]
    | dsimp only
    | split

theorem execTensorRecordPlace_seen {x0 : Fin 16} {s : State} (h : Area.sub [.quads, .assay, .tenants, .power] M =
    true) :
    ∃ g, execTensorRecordPlace x0 s = .next { s with block := g } ∧ g.seen M = s.block.seen M := by
  refine ⟨_, rfl, ?_⟩
  dsimp only
  repeat' first
    | with_reducible rfl
    | exact Keeps.of (fun _ => rfl)
    | ((with_reducible refine Keeps.of ?_); intro x; first | rfl | (repeat' split) <;> rfl | (dsimp only; (repeat'
        split) <;> rfl))
    | with_reducible refine Block.seen_ite ?_ ?_
    | (with_reducible intro _)
    | rw [Block.offerRec_seen (Area.sub_trans (by decide) h)]
    | rw [Block.modUnit_seen (Area.sub_trans (by decide) h)]
    | rw [Block.each_seen]
    | rw [Block.foldl_seen]
    | rw [Block.foldl_snd_seen]
    | dsimp only
    | split

theorem execFreezeStrobeIssue_seen {x0 : Fin 2048} {s : State} (h : Area.sub [.taps, .freezes] M = true) :
    ∃ g, execFreezeStrobeIssue x0 s = .next { s with block := g } ∧ g.seen M = s.block.seen M := by
  refine ⟨_, rfl, ?_⟩
  dsimp only
  repeat' first
    | with_reducible rfl
    | (with_reducible intro _)
    | exact Keeps.of (fun _ => rfl)
    | ((with_reducible refine Keeps.of ?_); intro x; first | rfl | (repeat' split) <;> rfl | (dsimp only; (repeat'
        split) <;> rfl))
    | with_reducible refine Block.seen_ite ?_ ?_
    | rw [Block.freezeStrobe_seen (Area.sub_trans (by decide) h)]
    | rw [Block.beginFreeze_seen (Area.sub_trans (by decide) h)]
    | rw [Block.lateFix_seen (Area.sub_trans (by decide) h)]
    | rw [Block.reachT_seen (Area.sub_trans (by decide) h)]
    | rw [Block.each_seen]
    | rw [Block.foldl_seen]
    | rw [Block.foldl_snd_seen]
    | dsimp only
    | split

theorem execFreezeAonStrobe_seen {s : State} (h : Area.sub [.taps, .freezes] M = true) :
    ∃ g, execFreezeAonStrobe s = .next { s with block := g } ∧ g.seen M = s.block.seen M := by
  refine ⟨_, rfl, ?_⟩
  dsimp only
  repeat' first
    | with_reducible rfl
    | exact Keeps.of (fun _ => rfl)
    | ((with_reducible refine Keeps.of ?_); intro x; first | rfl | (repeat' split) <;> rfl | (dsimp only; (repeat'
        split) <;> rfl))
    | with_reducible refine Block.seen_ite ?_ ?_
    | (with_reducible intro _)
    | rw [Block.freezeStrobe_seen (Area.sub_trans (by decide) h)]
    | rw [Block.beginFreeze_seen (Area.sub_trans (by decide) h)]
    | rw [Block.modFreeze_seen (Area.sub_trans (by decide) h)]
    | rw [Block.lateFix_seen (Area.sub_trans (by decide) h)]
    | rw [Block.reachT_seen (Area.sub_trans (by decide) h)]
    | rw [Block.each_seen]
    | rw [Block.foldl_seen]
    | rw [Block.foldl_snd_seen]
    | dsimp only
    | split

theorem execFreezeLocalTFix_seen {x0 : BitVec 8} {s : State} (h : Area.sub [.freezes] M = true) :
    ∃ g, execFreezeLocalTFix x0 s = .next { s with block := g } ∧ g.seen M = s.block.seen M := by
  refine ⟨_, rfl, ?_⟩
  dsimp only
  repeat' first
    | with_reducible rfl
    | (with_reducible intro _)
    | exact Keeps.of (fun _ => rfl)
    | ((with_reducible refine Keeps.of ?_); intro x; first | rfl | (repeat' split) <;> rfl | (dsimp only; (repeat'
        split) <;> rfl))
    | with_reducible refine Block.seen_ite ?_ ?_
    | rw [Block.modFreeze_seen (Area.sub_trans (by decide) h)]
    | rw [Block.each_seen]
    | rw [Block.foldl_seen]
    | rw [Block.foldl_snd_seen]
    | dsimp only
    | split

theorem execFreezeCmdTimeout_seen {x0 : BitVec 8} {s : State} (h : Area.sub [.ports, .tenants, .power, .out] M =
    true) :
    ∃ g, execFreezeCmdTimeout x0 s = .next { s with block := g } ∧ g.seen M = s.block.seen M := by
  refine ⟨_, rfl, ?_⟩
  dsimp only
  repeat' first
    | with_reducible rfl
    | with_reducible refine Block.seen_ite ?_ ?_
    | rw [Block.finishFreezeCmds_seen (Area.sub_trans (by decide) h)]

theorem execFreezeCollect_seen {x0 : Fin 2048} {s : State} (h : Area.sub [.taps, .freezes] M = true) :
    ∃ g, execFreezeCollect x0 s = .next { s with block := g } ∧ g.seen M = s.block.seen M := by
  refine ⟨_, rfl, ?_⟩
  dsimp only
  repeat' first
    | rw [Block.modTap_seen (Area.sub_trans (by decide) h)]
    | rw [Block.setFz_seen (Area.sub_trans (by decide) h)]
    | rw [Block.each_seen]
    | rw [Block.foldl_seen]
    | rw [Block.foldl_snd_seen]
    | dsimp only
    | split

theorem execFreezeCollectLimitExpiry_seen {x0 : Fin 2048} {s : State} (h : Area.sub [.taps, .freezes] M = true) :
    ∃ g, execFreezeCollectLimitExpiry x0 s = .next { s with block := g } ∧ g.seen M = s.block.seen M := by
  refine ⟨_, rfl, ?_⟩
  dsimp only
  repeat' first
    | with_reducible rfl
    | (with_reducible intro _)
    | exact Keeps.of (fun _ => rfl)
    | ((with_reducible refine Keeps.of ?_); intro x; first | rfl | (repeat' split) <;> rfl | (dsimp only; (repeat'
        split) <;> rfl))
    | with_reducible refine Block.seen_ite ?_ ?_
    | rw [Block.modTap_seen (Area.sub_trans (by decide) h)]
    | rw [Block.setFz_seen (Area.sub_trans (by decide) h)]
    | rw [Block.noLatch_seen (Area.sub_trans (by decide) h)]
    | rw [Block.each_seen]
    | rw [Block.foldl_seen]
    | rw [Block.foldl_snd_seen]
    | dsimp only
    | split

theorem execFreezeResultPlace_seen {x0 : Fin 32} {s : State} (h : Area.sub [.quads, .freezes, .tenants, .power] M =
    true) :
    ∃ g, execFreezeResultPlace x0 s = .next { s with block := g } ∧ g.seen M = s.block.seen M := by
  refine ⟨_, rfl, ?_⟩
  dsimp only
  repeat' first
    | with_reducible rfl
    | exact Keeps.of (fun _ => rfl)
    | ((with_reducible refine Keeps.of ?_); intro x; first | rfl | (repeat' split) <;> rfl | (dsimp only; (repeat'
        split) <;> rfl))
    | with_reducible refine Block.seen_ite ?_ ?_
    | (with_reducible intro _)
    | rw [Block.offerRec_seen (Area.sub_trans (by decide) h)]
    | rw [Block.beginFreeze_seen (Area.sub_trans (by decide) h)]
    | rw [Block.finishFreeze_seen (Area.sub_trans (by decide) h)]
    | rw [Block.modFreeze_seen (Area.sub_trans (by decide) h)]
    | rw [Block.atT_seen (Area.sub_trans (by decide) h)]
    | rw [Block.placeFz_seen (Area.sub_trans (by decide) h)]
    | rw [Block.each_seen]
    | rw [Block.foldl_seen]
    | rw [Block.foldl_snd_seen]
    | dsimp only
    | split

theorem execCounterSampleReturn_seen {x0 : Fin 2048} {s : State} (h : Area.sub [.ports, .tenants, .power, .out] M =
    true) :
    ∃ g, execCounterSampleReturn x0 s = .next { s with block := g } ∧ g.seen M = s.block.seen M := by
  refine ⟨_, rfl, ?_⟩
  dsimp only
  repeat' first
    | with_reducible rfl
    | with_reducible refine Block.seen_ite ?_ ?_
    | rw [Block.finishLongs_seen (Area.sub_trans (by decide) h)]

theorem execCounterMirrorLoad_seen {x0 : Fin 2048} {s : State} (h : Area.sub [.views] M = true) :
    ∃ g, execCounterMirrorLoad x0 s = .next { s with block := g } ∧ g.seen M = s.block.seen M := by
  refine ⟨_, rfl, ?_⟩
  dsimp only
  repeat' first
    | with_reducible rfl
    | with_reducible refine Block.seen_ite ?_ ?_
    | rw [Block.loadMirror_seen (Area.sub_trans (by decide) h)]

theorem execViewRefresh_seen {s : State} (h : Area.sub [.tenants] M = true) :
    ∃ g, execViewRefresh s = .next { s with block := g } ∧ g.seen M = s.block.seen M := by
  refine ⟨_, rfl, ?_⟩
  dsimp only
  repeat' first
    | with_reducible rfl
    | (with_reducible intro _)
    | with_reducible refine Block.seen_ite ?_ ?_
    | rw [Block.refreshView_seen (Area.sub_trans (by decide) h)]
    | rw [Block.each_seen]

theorem execTimeBusSample_seen {x0 : ℕ} {x1 : BitVec 64} {x2 : BitVec 8} {s : State} (h : Area.sub [.taps, .views,
    .stations, .quads, .cask, .mash, .sync, .freezes, .tenants, .meas, .power, .time, .recs, .free] M = true) :
    ∃ g, execTimeBusSample x0 x1 x2 s = .next { s with block := g } ∧ g.seen M = s.block.seen M := by
  refine ⟨_, rfl, ?_⟩
  dsimp only
  repeat' first
    | (with_reducible intro _)
    | exact Keeps.of (fun _ => rfl)
    | ((with_reducible refine Keeps.of ?_); intro x; first | rfl | (repeat' split) <;> rfl | (dsimp only; (repeat'
        split) <;> rfl))
    | with_reducible rfl
    | with_reducible refine Block.seen_ite ?_ ?_
    | rw [Block.stepTo_seen (Area.sub_trans (by decide) h)]
    | rw [Block.modTime_seen (Area.sub_trans (by decide) h)]
    | rw [Block.passCycles_seen (Area.sub_trans (by decide) h)]
    | rw [Block.trim_seen (Area.sub_trans (by decide) h)]
    | rw [Block.realign_seen (Area.sub_trans (by decide) h)]
    | rw [Block.modMash_seen (Area.sub_trans (by decide) h)]
    | rw [Block.buildLog_seen (Area.sub_trans (by decide) h)]
    | rw [Block.reachT_seen (Area.sub_trans (by decide) h)]
    | rw [Block.each_seen]
    | rw [Block.foldl_seen]
    | rw [Block.foldl_snd_seen]
    | dsimp only
    | split

theorem execHoldoverEntry_seen {s : State} (h : Area.sub [.taps, .views, .stations, .cask, .tenants, .power, .time] M
    = true) :
    ∃ g, execHoldoverEntry s = .next { s with block := g } ∧ g.seen M = s.block.seen M := by
  refine ⟨_, rfl, ?_⟩
  dsimp only
  repeat' first
    | with_reducible rfl
    | with_reducible refine Block.seen_ite ?_ ?_
    | rw [Block.raise_seen (Area.sub_trans (by decide) h)]
    | rw [Block.modTime_seen (Area.sub_trans (by decide) h)]
    | rw [Block.realign_seen (Area.sub_trans (by decide) h)]

theorem execPpsEdge_seen {x0 : ℕ} {s : State} (h : Area.sub [.tenants, .time] M = true) :
    ∃ g, execPpsEdge x0 s = .next { s with block := g } ∧ g.seen M = s.block.seen M := by
  refine ⟨_, rfl, ?_⟩
  dsimp only
  repeat' first
    | with_reducible rfl
    | with_reducible refine Block.seen_ite ?_ ?_
    | rw [Block.raise_seen (Area.sub_trans (by decide) h)]
    | rw [Block.modTime_seen (Area.sub_trans (by decide) h)]

theorem execTsyncPeriodExpiry_seen {s : State} (h : Area.sub [.hop] M = true) :
    ∃ g, execTsyncPeriodExpiry s = .next { s with block := g } ∧ g.seen M = s.block.seen M := by
  refine ⟨_, rfl, ?_⟩
  dsimp only
  repeat' first
    | with_reducible rfl
    | with_reducible refine Block.seen_ite ?_ ?_
    | rw [Block.tsyncCall_seen (Area.sub_trans (by decide) h)]

theorem execTsyncIdleMeasure_seen {s : State} (h : Area.sub [.hop] M = true) :
    ∃ g, execTsyncIdleMeasure s = .next { s with block := g } ∧ g.seen M = s.block.seen M := by
  refine ⟨_, rfl, ?_⟩
  dsimp only
  repeat' first
    | with_reducible rfl
    | with_reducible refine Block.seen_ite ?_ ?_
    | rw [Block.tsyncCall_seen (Area.sub_trans (by decide) h)]

theorem execTsyncReqSend_seen {x0 : Fin 6} {x1 : ℕ} {s : State} (h : Area.sub [.hop] M = true) :
    ∃ g, execTsyncReqSend x0 x1 s = .next { s with block := g } ∧ g.seen M = s.block.seen M := by
  refine ⟨_, rfl, ?_⟩
  dsimp only
  repeat' first
    | rw [Block.sendOn_seen (Area.sub_trans (by decide) h)]
    | rw [Block.modHopPort_seen (Area.sub_trans (by decide) h)]
    | rw [Block.each_seen]
    | rw [Block.foldl_seen]
    | rw [Block.foldl_snd_seen]
    | dsimp only
    | split

theorem execTsyncFupTimeout_seen {s : State} (h : Area.sub [.ports, .tenants, .hop, .power, .time, .out] M = true) :
    ∃ g, execTsyncFupTimeout s = .next { s with block := g } ∧ g.seen M = s.block.seen M := by
  refine ⟨_, rfl, ?_⟩
  dsimp only
  repeat' first
    | with_reducible rfl
    | with_reducible refine Block.seen_ite ?_ ?_
    | rw [Block.tsyncReject_seen (Area.sub_trans (by decide) h)]

theorem execHopFrameSend_seen {x0 : Fin 6} {s : State} (h : Area.sub [.taps, .views, .stations, .cask, .ports,
    .tenants, .sparge, .hop, .power, .time, .out] M = true) :
    ∃ g, execHopFrameSend x0 s = .next { s with block := g } ∧ g.seen M = s.block.seen M := by
  refine ⟨_, rfl, ?_⟩
  dsimp only
  repeat' first
    | (with_reducible intro _)
    | exact Keeps.of (fun _ => rfl)
    | ((with_reducible refine Keeps.of ?_); intro x; first | rfl | (repeat' split) <;> rfl | (dsimp only; (repeat'
        split) <;> rfl))
    | with_reducible rfl
    | with_reducible refine Block.seen_ite ?_ ?_
    | rw [Block.sendFrame_seen (Area.sub_trans (by decide) h)]
    | rw [Block.closeEnd_seen (Area.sub_trans (by decide) h)]
    | rw [Block.hopAccepted_seen (Area.sub_trans (by decide) h)]
    | rw [Block.settleDrains_seen (Area.sub_trans (by decide) h)]
    | rw [Block.each_seen]
    | rw [Block.foldl_seen]
    | rw [Block.foldl_snd_seen]
    | dsimp only
    | split

theorem execIdleSend_seen {x0 : Fin 6} {s : State} (h : Area.sub [.hop, .out] M = true) :
    ∃ g, execIdleSend x0 s = .next { s with block := g } ∧ g.seen M = s.block.seen M := by
  refine ⟨_, rfl, ?_⟩
  dsimp only
  repeat' first
    | (with_reducible intro _)
    | exact Keeps.of (fun _ => rfl)
    | ((with_reducible refine Keeps.of ?_); intro x; first | rfl | (repeat' split) <;> rfl | (dsimp only; (repeat'
        split) <;> rfl))
    | with_reducible rfl
    | with_reducible refine Block.seen_ite ?_ ?_
    | rw [Block.modHopPort_seen (Area.sub_trans (by decide) h)]
    | rw [Block.emit_seen (Area.sub_trans (by decide) h)]
    | rw [Block.each_seen]
    | rw [Block.foldl_seen]
    | rw [Block.foldl_snd_seen]
    | dsimp only
    | split

theorem execIdleReceive_seen {x0 : Fin 6} {x1 : Frame} {s : State} (h : Area.sub [.taps, .views, .stations, .cask, .ports, .tenants, .sparge, .hop, .power, .time, .out] M = true) :
    ∃ g, execIdleReceive x0 x1 s = .next { s with block := g } ∧ g.seen M = s.block.seen M := by
  refine ⟨_, rfl, ?_⟩
  dsimp only
  repeat' first
    | with_reducible rfl
    | with_reducible refine Block.seen_ite ?_ ?_
    | rw [Block.accept_seen (Area.sub_trans (by decide) h)]

theorem execHelloReceive_seen {x0 : Fin 6} {x1 : Frame} {s : State} (h : Area.sub [.taps, .views, .stations, .cask, .ports, .tenants, .sparge, .hop, .power, .time, .out] M = true) :
    ∃ g, execHelloReceive x0 x1 s = .next { s with block := g } ∧ g.seen M = s.block.seen M := by
  refine ⟨_, rfl, ?_⟩
  dsimp only
  repeat' first
    | rw [Block.linkUp_seen (Area.sub_trans (by decide) h)]
    | rw [Block.modHopPort_seen (Area.sub_trans (by decide) h)]
    | rw [Block.linkDown_seen (Area.sub_trans (by decide) h)]
    | rw [Block.startKeying_seen (Area.sub_trans (by decide) h)]
    | rw [Block.each_seen]
    | rw [Block.foldl_seen]
    | rw [Block.foldl_snd_seen]
    | dsimp only
    | split

theorem execHelloSend_seen {x0 : Fin 6} {s : State} (h : Area.sub [.hop, .out] M = true) :
    ∃ g, execHelloSend x0 s = .next { s with block := g } ∧ g.seen M = s.block.seen M := by
  refine ⟨_, rfl, ?_⟩
  dsimp only
  repeat' first
    | (with_reducible intro _)
    | exact Keeps.of (fun _ => rfl)
    | ((with_reducible refine Keeps.of ?_); intro x; first | rfl | (repeat' split) <;> rfl | (dsimp only; (repeat'
        split) <;> rfl))
    | with_reducible rfl
    | with_reducible refine Block.seen_ite ?_ ?_
    | rw [Block.emit_seen (Area.sub_trans (by decide) h)]
    | rw [Block.modHopPort_seen (Area.sub_trans (by decide) h)]
    | rw [Block.each_seen]
    | rw [Block.foldl_seen]
    | rw [Block.foldl_snd_seen]
    | dsimp only
    | split

theorem execHelloTimeout_seen {x0 : Fin 6} {s : State} (h : Area.sub [.taps, .views, .stations, .cask, .ports, .tenants, .sparge, .hop, .power, .time, .out] M = true) :
    ∃ g, execHelloTimeout x0 s = .next { s with block := g } ∧ g.seen M = s.block.seen M := by
  refine ⟨_, rfl, ?_⟩
  dsimp only
  repeat' first
    | with_reducible rfl
    | with_reducible refine Block.seen_ite ?_ ?_
    | rw [Block.linkDown_seen (Area.sub_trans (by decide) h)]

theorem execByeReceive_seen {x0 : Fin 6} {x1 : Frame} {s : State} (h : Area.sub [.taps, .views, .stations, .cask, .ports, .tenants, .sparge, .hop, .power, .time, .out] M = true) :
    ∃ g, execByeReceive x0 x1 s = .next { s with block := g } ∧ g.seen M = s.block.seen M := by
  refine ⟨_, rfl, ?_⟩
  dsimp only
  repeat' first
    | with_reducible rfl
    | with_reducible refine Block.seen_ite ?_ ?_
    | rw [Block.linkDown_seen (Area.sub_trans (by decide) h)]

theorem execElectReceive_seen {x0 : Fin 6} {x1 : Frame} {s : State} (h : Area.sub [.taps, .views, .stations, .cask, .ports, .tenants, .sparge, .hop, .power, .time, .out] M = true) :
    ∃ g, execElectReceive x0 x1 s = .next { s with block := g } ∧ g.seen M = s.block.seen M := by
  refine ⟨_, rfl, ?_⟩
  dsimp only
  repeat' first
    | (with_reducible intro _)
    | rw [Block.elect_seen (Area.sub_trans (by decide) h)]
    | rw [Block.receive_seen (Area.sub_trans (by decide) h)]

theorem execElectQuiet_seen {s : State} (h : Area.sub [.hop] M = true) :
    ∃ g, execElectQuiet s = .next { s with block := g } ∧ g.seen M = s.block.seen M := by
  refine ⟨_, rfl, ?_⟩
  dsimp only
  repeat' first
    | with_reducible rfl
    | with_reducible refine Block.seen_ite ?_ ?_
    | rw [Block.sendOn_seen (Area.sub_trans (by decide) h)]
    | rw [Block.modHop_seen (Area.sub_trans (by decide) h)]

theorem execClaimReceive_seen {x0 : Fin 6} {x1 : Frame} {s : State} (h : Area.sub [.taps, .views, .stations, .cask, .ports, .tenants, .sparge, .hop, .power, .time, .out] M = true) :
    ∃ g, execClaimReceive x0 x1 s = .next { s with block := g } ∧ g.seen M = s.block.seen M := by
  refine ⟨_, rfl, ?_⟩
  dsimp only
  repeat' first
    | (with_reducible intro _)
    | with_reducible refine Block.seen_ite ?_ ?_
    | rw [Block.sendOn_seen (Area.sub_trans (by decide) h)]
    | rw [Block.modHopPort_seen (Area.sub_trans (by decide) h)]
    | rw [Block.receive_seen (Area.sub_trans (by decide) h)]

theorem execRootWaitExpiry_seen {s : State} (h : Area.sub [.taps, .views, .stations, .cask, .tenants, .hop, .power,
    .time] M = true) :
    ∃ g, execRootWaitExpiry s = .next { s with block := g } ∧ g.seen M = s.block.seen M := by
  refine ⟨_, rfl, ?_⟩
  dsimp only
  repeat' first
    | with_reducible rfl
    | with_reducible refine Block.seen_ite ?_ ?_
    | rw [Block.countReqOn_seen (Area.sub_trans (by decide) h)]
    | rw [Block.modHop_seen (Area.sub_trans (by decide) h)]

theorem execCountReqReceive_seen {x0 : Fin 6} {x1 : Frame} {s : State} (h : Area.sub [.taps, .views, .stations, .cask, .ports, .tenants, .sparge, .hop, .power, .time, .out] M = true) :
    ∃ g, execCountReqReceive x0 x1 s = .next { s with block := g } ∧ g.seen M = s.block.seen M := by
  refine ⟨_, rfl, ?_⟩
  dsimp only
  repeat' first
    | with_reducible rfl
    | (with_reducible intro _)
    | with_reducible refine Block.seen_ite ?_ ?_
    | rw [Block.countReqOn_seen (Area.sub_trans (by decide) h)]
    | rw [Block.receive_seen (Area.sub_trans (by decide) h)]

theorem execCountReceive_seen {x0 : Fin 6} {x1 : Frame} {s : State} (h : Area.sub [.taps, .views, .stations, .cask, .ports, .tenants, .sparge, .hop, .power, .time, .out] M = true) :
    ∃ g, execCountReceive x0 x1 s = .next { s with block := g } ∧ g.seen M = s.block.seen M := by
  refine ⟨_, rfl, ?_⟩
  dsimp only
  repeat' first
    | with_reducible rfl
    | (with_reducible intro _)
    | with_reducible refine Block.seen_ite ?_ ?_
    | rw [Block.countsDone_seen (Area.sub_trans (by decide) h)]
    | rw [Block.modHopPort_seen (Area.sub_trans (by decide) h)]
    | rw [Block.receive_seen (Area.sub_trans (by decide) h)]

theorem execAssignReceive_seen {x0 : Fin 6} {x1 : Frame} {s : State} (h : Area.sub [.taps, .views, .stations, .cask, .ports, .tenants, .sparge, .hop, .power, .time, .out] M = true) :
    ∃ g, execAssignReceive x0 x1 s = .next { s with block := g } ∧ g.seen M = s.block.seen M := by
  refine ⟨_, rfl, ?_⟩
  dsimp only
  repeat' first
    | with_reducible rfl
    | (with_reducible intro _)
    | with_reducible refine Block.seen_ite ?_ ?_
    | rw [Block.takeId_seen (Area.sub_trans (by decide) h)]
    | rw [Block.receive_seen (Area.sub_trans (by decide) h)]

theorem execVectorReceive_seen {x0 : Fin 6} {x1 : Frame} {s : State} (h : Area.sub [.taps, .views, .stations, .cask,
    .ports, .tenants, .sparge, .hop, .power, .time, .out] M = true) :
    ∃ g, execVectorReceive x0 x1 s = .next { s with block := g } ∧ g.seen M = s.block.seen M := by
  refine ⟨_, rfl, ?_⟩
  dsimp only
  repeat' first
    | exact Keeps.of (fun _ => rfl)
    | ((with_reducible refine Keeps.of ?_); intro x; first | rfl | (repeat' split) <;> rfl | (dsimp only; (repeat'
        split) <;> rfl))
    | with_reducible rfl
    | (with_reducible intro _)
    | with_reducible refine Block.seen_ite ?_ ?_
    | rw [Block.recompute_seen (Area.sub_trans (by decide) h)]
    | rw [Block.modHopPort_seen (Area.sub_trans (by decide) h)]
    | rw [Block.receive_seen (Area.sub_trans (by decide) h)]
    | rw [Block.startDiscovery_seen (Area.sub_trans (by decide) h)]
    | rw [Block.each_seen]
    | rw [Block.foldl_seen]
    | rw [Block.foldl_snd_seen]
    | dsimp only
    | split

theorem execRoutingQuiet_seen {s : State} (h : Area.sub [.ports, .tenants, .hop, .power, .out] M = true) :
    ∃ g, execRoutingQuiet s = .next { s with block := g } ∧ g.seen M = s.block.seen M := by
  refine ⟨_, rfl, ?_⟩
  dsimp only
  repeat' first
    | with_reducible rfl
    | with_reducible refine Block.seen_ite ?_ ?_
    | rw [Block.modHop_seen (Area.sub_trans (by decide) h)]
    | rw [Block.tsyncCall_seen (Area.sub_trans (by decide) h)]
    | rw [Block.finishRediscover_seen (Area.sub_trans (by decide) h)]

theorem execTsyncCallReceive_seen {x0 : Fin 6} {x1 : Frame} {s : State} (h : Area.sub [.taps, .views, .stations, .cask, .ports, .tenants, .sparge, .hop, .power, .time, .out] M = true) :
    ∃ g, execTsyncCallReceive x0 x1 s = .next { s with block := g } ∧ g.seen M = s.block.seen M := by
  refine ⟨_, rfl, ?_⟩
  dsimp only
  repeat' first
    | (with_reducible intro _)
    | rw [Block.modHopPort_seen (Area.sub_trans (by decide) h)]
    | rw [Block.receive_seen (Area.sub_trans (by decide) h)]

theorem execTsyncReqReceive_seen {x0 : Fin 6} {x1 : Frame} {x2 : ℕ} {x3 : ℕ} {s : State} (h : Area.sub [.taps, .views, .stations, .cask, .ports, .tenants, .sparge, .hop, .power, .time, .out] M = true) :
    ∃ g, execTsyncReqReceive x0 x1 x2 x3 s = .next { s with block := g } ∧ g.seen M = s.block.seen M := by
  refine ⟨_, rfl, ?_⟩
  dsimp only
  repeat' first
    | with_reducible rfl
    | (with_reducible intro _)
    | with_reducible refine Block.seen_ite ?_ ?_
    | rw [Block.sendOn_seen (Area.sub_trans (by decide) h)]
    | rw [Block.modHop_seen (Area.sub_trans (by decide) h)]
    | rw [Block.receive_seen (Area.sub_trans (by decide) h)]

theorem execTsyncRspReceive_seen {x0 : Fin 6} {x1 : Frame} {x2 : ℕ} {s : State} (h : Area.sub [.taps, .views, .stations, .cask, .ports, .tenants, .sparge, .hop, .power, .time, .out] M = true) :
    ∃ g, execTsyncRspReceive x0 x1 x2 s = .next { s with block := g } ∧ g.seen M = s.block.seen M := by
  refine ⟨_, rfl, ?_⟩
  dsimp only
  repeat' first
    | (with_reducible intro _)
    | rw [Block.sendOn_seen (Area.sub_trans (by decide) h)]
    | rw [Block.modHopPort_seen (Area.sub_trans (by decide) h)]
    | rw [Block.receive_seen (Area.sub_trans (by decide) h)]
    | rw [Block.each_seen]
    | rw [Block.foldl_seen]
    | rw [Block.foldl_snd_seen]
    | dsimp only
    | split

theorem execTsyncFupReceive_seen {x0 : Fin 6} {x1 : Frame} {s : State} (h : Area.sub [.taps, .views, .stations, .cask, .ports, .tenants, .sparge, .hop, .power, .time, .out] M = true) :
    ∃ g, execTsyncFupReceive x0 x1 s = .next { s with block := g } ∧ g.seen M = s.block.seen M := by
  refine ⟨_, rfl, ?_⟩
  dsimp only
  repeat' first
    | (with_reducible intro _)
    | rw [Block.applyOffset_seen (Area.sub_trans (by decide) h)]
    | rw [Block.receive_seen (Area.sub_trans (by decide) h)]
    | rw [Block.tsyncReject_seen (Area.sub_trans (by decide) h)]
    | rw [Block.each_seen]
    | rw [Block.foldl_seen]
    | rw [Block.foldl_snd_seen]
    | dsimp only
    | split

theorem execScrubMarkReceive_seen {x0 : Fin 6} {x1 : Frame} {s : State} (h : Area.sub [.taps, .views, .stations, .cask, .ports, .tenants, .sparge, .hop, .power, .time, .out] M = true) :
    ∃ g, execScrubMarkReceive x0 x1 s = .next { s with block := g } ∧ g.seen M = s.block.seen M := by
  refine ⟨_, rfl, ?_⟩
  dsimp only
  repeat' first
    | (with_reducible intro _)
    | rw [Block.modHopPort_seen (Area.sub_trans (by decide) h)]
    | rw [Block.receive_seen (Area.sub_trans (by decide) h)]

theorem execPageReqReceive_seen {x0 : Fin 6} {x1 : Frame} {s : State} (h : Area.sub [.taps, .views, .stations, .cask,
    .ports, .tenants, .sparge, .hop, .power, .time, .out] M = true) :
    ∃ g, execPageReqReceive x0 x1 s = .next { s with block := g } ∧ g.seen M = s.block.seen M := by
  refine ⟨_, rfl, ?_⟩
  dsimp only
  repeat' first
    | with_reducible rfl
    | exact Keeps.of (fun _ => rfl)
    | ((with_reducible refine Keeps.of ?_); intro x; first | rfl | (repeat' split) <;> rfl | (dsimp only; (repeat'
        split) <;> rfl))
    | (with_reducible intro _)
    | with_reducible refine Block.seen_ite ?_ ?_
    | rw [Block.sendRouted_seen (Area.sub_trans (by decide) h)]
    | rw [Block.sendOn_seen (Area.sub_trans (by decide) h)]
    | rw [Block.routed_seen (Area.sub_trans (by decide) h)]
    | rw [Block.modHop_seen (Area.sub_trans (by decide) h)]
    | rw [grantSlots_seen (Area.sub_trans (by decide) h)]
    | rw [Block.grantAll_seen (Area.sub_trans (by decide) h)]
    | rw [Block.each_seen]
    | rw [Block.foldl_seen]
    | rw [Block.foldl_snd_seen]
    | dsimp only
    | split

theorem execPageGrantReceive_seen {x0 : Fin 6} {x1 : Frame} {s : State} (h : Area.sub
    [.taps, .views, .stations,
    .cask, .ports, .tenants, .sparge, .hop, .power, .time, .out] M = true) :
    ∃ g, execPageGrantReceive x0 x1 s = .next { s with block := g } ∧ g.seen M = s.block.seen M := by
  refine ⟨_, rfl, ?_⟩
  dsimp only
  repeat' first
    | with_reducible rfl
    | ((with_reducible refine Keeps.of ?_); intro x; first | rfl | (repeat' split) <;> rfl | (dsimp only; (repeat'
        split) <;> rfl))
    | with_reducible refine Block.seen_ite ?_ ?_
    | (with_reducible intro _)
    | exact Keeps.of (fun _ => rfl)
    | rw [Block.sendRouted_seen (Area.sub_trans (by decide) h)]
    | rw [Block.hopDone_seen (Area.sub_trans (by decide) h)]
    | rw [Block.routed_seen (Area.sub_trans (by decide) h)]
    | rw [Block.pump_seen (Area.sub_trans (by decide) h)]
    | rw [Block.haltChan_seen (Area.sub_trans (by decide) h)]
    | rw [Block.modChan_seen (Area.sub_trans (by decide) h)]
    | rw [Block.hopPush_seen (Area.sub_trans (by decide) h)]
    | rw [Block.each_seen]
    | rw [Block.foldl_seen]
    | rw [Block.foldl_snd_seen]
    | dsimp only
    | split

theorem execPageDataReceive_seen {x0 : Fin 6} {x1 : Frame} {s : State} (h : Area.sub [.taps, .views, .stations,
    .cask, .ports, .tenants, .sparge, .hop, .power, .time, .out] M = true) :
    ∃ g, execPageDataReceive x0 x1 s = .next { s with block := g } ∧ g.seen M = s.block.seen M := by
  refine ⟨_, rfl, ?_⟩
  dsimp only
  repeat' first
    | with_reducible rfl
    | exact Keeps.of (fun _ => rfl)
    | ((with_reducible refine Keeps.of ?_); intro x; first | rfl | (repeat' split) <;> rfl | (dsimp only; (repeat'
        split) <;> rfl))
    | with_reducible refine Block.seen_ite ?_ ?_
    | (with_reducible intro _)
    | rw [Block.slotReady_seen (Area.sub_trans (by decide) h)]
    | rw [Block.modHopPort_seen (Area.sub_trans (by decide) h)]
    | rw [Block.routed_seen (Area.sub_trans (by decide) h)]
    | rw [Block.modHop_seen (Area.sub_trans (by decide) h)]
    | rw [Block.lateData_seen (Area.sub_trans (by decide) h)]
    | rw [Block.each_seen]
    | rw [Block.foldl_seen]
    | rw [Block.foldl_snd_seen]
    | split
    | dsimp only

theorem execPageReqRetry_seen {x0 : Fin 16} {s : State} (h : Area.sub [.cask, .ports, .tenants, .sparge, .hop,
    .power, .out] M = true) :
    ∃ g, execPageReqRetry x0 s = .next { s with block := g } ∧ g.seen M = s.block.seen M := by
  refine ⟨_, rfl, ?_⟩
  dsimp only
  repeat' first
    | with_reducible rfl
    | (with_reducible intro _)
    | ((with_reducible refine Keeps.of ?_); intro x; first | rfl | (repeat' split) <;> rfl | (dsimp only; (repeat'
        split) <;> rfl))
    | with_reducible refine Block.seen_ite ?_ ?_
    | exact Keeps.of (fun _ => rfl)
    | rw [Block.sendRouted_seen (Area.sub_trans (by decide) h)]
    | rw [Block.pump_seen (Area.sub_trans (by decide) h)]
    | rw [Block.haltChan_seen (Area.sub_trans (by decide) h)]
    | rw [Block.modHop_seen (Area.sub_trans (by decide) h)]
    | rw [Block.modChan_seen (Area.sub_trans (by decide) h)]
    | rw [Block.askSelf_seen (Area.sub_trans (by decide) h)]
    | rw [Block.each_seen]
    | rw [Block.foldl_seen]
    | rw [Block.foldl_snd_seen]
    | dsimp only
    | split

theorem execSinkSlotTimeout_seen {x0 : Fin 32} {s : State} (h : Area.sub [.cask, .ports, .tenants, .sparge, .hop,
    .power, .out] M = true) :
    ∃ g, execSinkSlotTimeout x0 s = .next { s with block := g } ∧ g.seen M = s.block.seen M := by
  refine ⟨_, rfl, ?_⟩
  dsimp only
  repeat' first
    | with_reducible rfl
    | (with_reducible intro _)
    | exact Keeps.of (fun _ => rfl)
    | ((with_reducible refine Keeps.of ?_); intro x; first | rfl | (repeat' split) <;> rfl | (dsimp only; (repeat'
        split) <;> rfl))
    | with_reducible refine Block.seen_ite ?_ ?_
    | rw [Block.slotReady_seen (Area.sub_trans (by decide) h)]
    | rw [Block.modHop_seen (Area.sub_trans (by decide) h)]
    | rw [grantSlots_seen (Area.sub_trans (by decide) h)]
    | rw [Block.grantAll_seen (Area.sub_trans (by decide) h)]
    | rw [Block.each_seen]
    | rw [Block.foldl_seen]
    | rw [Block.foldl_snd_seen]
    | dsimp only
    | split

theorem execFreezeSchedReceive_seen {x0 : Fin 6} {x1 : Frame} {s : State} (h : Area.sub [.taps, .views, .stations,
    .cask, .freezes, .ports, .tenants, .sparge, .hop, .power, .time, .out] M = true) :
    ∃ g, execFreezeSchedReceive x0 x1 s = .next { s with block := g } ∧ g.seen M = s.block.seen M := by
  refine ⟨_, rfl, ?_⟩
  dsimp only
  repeat' first
    | exact Keeps.of (fun _ => rfl)
    | ((with_reducible refine Keeps.of ?_); intro x; first | rfl | (repeat' split) <;> rfl | (dsimp only; (repeat'
        split) <;> rfl))
    | with_reducible rfl
    | (with_reducible intro _)
    | with_reducible refine Block.seen_ite ?_ ?_
    | rw [Block.sendRouted_seen (Area.sub_trans (by decide) h)]
    | rw [Block.joinFreeze_seen (Area.sub_trans (by decide) h)]
    | (refine ((Block.joinFreeze_seen' (Area.sub_trans (by decide) h) (by assumption)).trans ?_))
    | rw [Block.receive_seen (Area.sub_trans (by decide) h)]
    | rw [Block.noteSeen_seen (Area.sub_trans (by decide) h)]
    | rw [Block.sendAll_seen (Area.sub_trans (by decide) h)]
    | rw [Block.joinFreeze_seen' (Area.sub_trans (by decide) h) (by assumption)]
    | rw [Block.sendOn_seen (Area.sub_trans (by decide) h)]
    | rw [Block.each_seen]
    | rw [Block.foldl_seen]
    | rw [Block.foldl_snd_seen]
    | dsimp only
    | split

theorem execFreezeAckReceive_seen {x0 : Fin 6} {x1 : Frame} {s : State} (h : Area.sub [.taps, .views, .stations, .cask, .ports, .tenants, .sparge, .hop, .power, .time, .out] M = true) :
    ∃ g, execFreezeAckReceive x0 x1 s = .next { s with block := g } ∧ g.seen M = s.block.seen M := by
  refine ⟨_, rfl, ?_⟩
  dsimp only
  repeat' first
    | (with_reducible intro _)
    | rw [Block.routed_seen (Area.sub_trans (by decide) h)]
    | rw [Block.finishFreezeCmds_seen (Area.sub_trans (by decide) h)]
    | rw [Block.mapLongs_seen (Area.sub_trans (by decide) h)]

theorem execRotateReceive_seen {x0 : Fin 6} {x1 : Frame} {s : State} (h : Area.sub [.taps, .views, .stations, .cask,
    .ports, .tenants, .sparge, .hop, .power, .time, .out] M = true) :
    ∃ g, execRotateReceive x0 x1 s = .next { s with block := g } ∧ g.seen M = s.block.seen M := by
  refine ⟨_, rfl, ?_⟩
  dsimp only
  repeat' first
    | with_reducible rfl
    | exact Keeps.of (fun _ => rfl)
    | ((with_reducible refine Keeps.of ?_); intro x; first | rfl | (repeat' split) <;> rfl | (dsimp only; (repeat'
        split) <;> rfl))
    | with_reducible refine Block.seen_ite ?_ ?_
    | (with_reducible intro _)
    | rw [Block.askKey_seen (Area.sub_trans (by decide) h)]
    | rw [Block.modHopPort_seen (Area.sub_trans (by decide) h)]
    | rw [Block.receive_seen (Area.sub_trans (by decide) h)]
    | rw [Block.rotateCheck_seen (Area.sub_trans (by decide) h)]
    | rw [Block.each_seen]
    | rw [Block.foldl_seen]
    | rw [Block.foldl_snd_seen]
    | dsimp only
    | split

theorem execBadTypeFrame_seen {x0 : Fin 6} {x1 : Frame} {s : State} (h : Area.sub [.taps, .views, .stations, .cask, .ports, .tenants, .sparge, .hop, .power, .time, .out] M = true) :
    ∃ g, execBadTypeFrame x0 x1 s = .next { s with block := g } ∧ g.seen M = s.block.seen M := by
  refine ⟨_, rfl, ?_⟩
  dsimp only
  repeat' first
    | with_reducible rfl
    | (with_reducible intro _)
    | rw [Block.receive_seen (Area.sub_trans (by decide) h)]

theorem execReplayTimeout_seen {x0 : Fin 6} {s : State} (h : Area.sub [.taps, .views, .stations, .cask, .ports, .tenants, .sparge, .hop, .power, .time, .out] M = true) :
    ∃ g, execReplayTimeout x0 s = .next { s with block := g } ∧ g.seen M = s.block.seen M := by
  refine ⟨_, rfl, ?_⟩
  dsimp only
  repeat' first
    | with_reducible rfl
    | with_reducible refine Block.seen_ite ?_ ?_
    | rw [Block.resendAll_seen (Area.sub_trans (by decide) h)]

theorem execPhyReady_seen {x0 : Fin 6} {s : State} (h : Area.sub [.tenants, .hop, .power] M = true) :
    ∃ g, execPhyReady x0 s = .next { s with block := g } ∧ g.seen M = s.block.seen M := by
  refine ⟨_, rfl, ?_⟩
  dsimp only
  repeat' first
    | (with_reducible intro _)
    | exact Keeps.of (fun _ => rfl)
    | ((with_reducible refine Keeps.of ?_); intro x; first | rfl | (repeat' split) <;> rfl | (dsimp only; (repeat'
        split) <;> rfl))
    | with_reducible rfl
    | with_reducible refine Block.seen_ite ?_ ?_
    | rw [Block.modHopPort_seen (Area.sub_trans (by decide) h)]
    | rw [Block.setLink_seen (Area.sub_trans (by decide) h)]
    | rw [Block.requestWake_seen (Area.sub_trans (by decide) h)]
    | rw [Block.each_seen]
    | rw [Block.foldl_seen]
    | rw [Block.foldl_snd_seen]
    | dsimp only
    | split

theorem execPhyLost_seen {x0 : Fin 6} {s : State} (h : Area.sub [.taps, .views, .stations, .cask, .ports, .tenants, .sparge, .hop, .power, .time, .out] M = true) :
    ∃ g, execPhyLost x0 s = .next { s with block := g } ∧ g.seen M = s.block.seen M := by
  refine ⟨_, rfl, ?_⟩
  dsimp only
  repeat' first
    | with_reducible rfl
    | with_reducible refine Block.seen_ite ?_ ?_
    | rw [Block.linkDown_seen (Area.sub_trans (by decide) h)]

theorem execLinkRetrainTimer_seen {x0 : Fin 6} {s : State} (h : Area.sub [.tenants, .hop, .out] M = true) :
    ∃ g, execLinkRetrainTimer x0 s = .next { s with block := g } ∧ g.seen M = s.block.seen M := by
  refine ⟨_, rfl, ?_⟩
  dsimp only
  repeat' first
    | (with_reducible intro _)
    | exact Keeps.of (fun _ => rfl)
    | ((with_reducible refine Keeps.of ?_); intro x; first | rfl | (repeat' split) <;> rfl | (dsimp only; (repeat'
        split) <;> rfl))
    | with_reducible rfl
    | with_reducible refine Block.seen_ite ?_ ?_
    | rw [Block.train_seen (Area.sub_trans (by decide) h)]
    | rw [Block.each_seen]
    | rw [Block.foldl_seen]
    | rw [Block.foldl_snd_seen]
    | dsimp only
    | split

theorem execKeyResponse_seen {x0 : Fin 6} {x1 : Bool} {x2 : Bool} {x3 : BitVec 256} {x4 : BitVec 32} {x5 : Bool} {s :
    State} (h : Area.sub [.taps, .views, .stations, .cask, .ports, .tenants, .sparge, .hop, .power, .time, .out] M =
        true) :
    ∃ g, execKeyResponse x0 x1 x2 x3 x4 x5 s = .next { s with block := g } ∧ g.seen M = s.block.seen M := by
  refine ⟨_, rfl, ?_⟩
  dsimp only
  repeat' first
    | (with_reducible intro _)
    | exact Keeps.of (fun _ => rfl)
    | ((with_reducible refine Keeps.of ?_); intro x; first | rfl | (repeat' split) <;> rfl | (dsimp only; (repeat'
        split) <;> rfl))
    | with_reducible rfl
    | with_reducible refine Block.seen_ite ?_ ?_
    | rw [Block.sendOn_seen (Area.sub_trans (by decide) h)]
    | rw [Block.linkUp_seen (Area.sub_trans (by decide) h)]
    | rw [Block.modHopPort_seen (Area.sub_trans (by decide) h)]
    | rw [Block.linkDown_seen (Area.sub_trans (by decide) h)]
    | rw [Block.each_seen]
    | rw [Block.foldl_seen]
    | rw [Block.foldl_snd_seen]
    | dsimp only
    | split

theorem execKeyTimeout_seen {x0 : Fin 6} {s : State} (h : Area.sub [.taps, .views, .stations, .cask, .ports,
    .tenants, .sparge, .hop, .power, .time, .out] M = true) :
    ∃ g, execKeyTimeout x0 s = .next { s with block := g } ∧ g.seen M = s.block.seen M := by
  refine ⟨_, rfl, ?_⟩
  dsimp only
  repeat' first
    | (with_reducible intro _)
    | exact Keeps.of (fun _ => rfl)
    | ((with_reducible refine Keeps.of ?_); intro x; first | rfl | (repeat' split) <;> rfl | (dsimp only; (repeat'
        split) <;> rfl))
    | with_reducible rfl
    | with_reducible refine Block.seen_ite ?_ ?_
    | rw [Block.linkDown_seen (Area.sub_trans (by decide) h)]
    | rw [Block.each_seen]
    | rw [Block.foldl_seen]
    | rw [Block.foldl_snd_seen]
    | dsimp only
    | split

theorem execKeyPeriodExpiry_seen {x0 : Fin 6} {s : State} (h : Area.sub [.hop, .out] M = true) :
    ∃ g, execKeyPeriodExpiry x0 s = .next { s with block := g } ∧ g.seen M = s.block.seen M := by
  refine ⟨_, rfl, ?_⟩
  dsimp only
  repeat' first
    | with_reducible rfl
    | with_reducible refine Block.seen_ite ?_ ?_
    | rw [Block.startRotate_seen (Area.sub_trans (by decide) h)]

theorem execChannelTakePage_seen {x0 : Fin 16} {s : State} (h : Area.sub [.cask, .ports, .tenants, .sparge, .hop,
    .power, .out] M = true) :
    ∃ g, execChannelTakePage x0 s = .next { s with block := g } ∧ g.seen M = s.block.seen M := by
  refine ⟨_, rfl, ?_⟩
  dsimp only
  repeat' first
    | with_reducible rfl
    | (with_reducible intro _)
    | ((with_reducible refine Keeps.of ?_); intro x; first | rfl | (repeat' split) <;> rfl | (dsimp only; (repeat'
        split) <;> rfl))
    | exact Keeps.of (fun _ => rfl)
    | with_reducible refine Block.seen_ite ?_ ?_
    | rw [Block.sendRouted_seen (Area.sub_trans (by decide) h)]
    | rw [Block.spendWhole_seen (Area.sub_trans (by decide) h)]
    | rw [Block.modSparge_seen (Area.sub_trans (by decide) h)]
    | rw [Block.pump_seen (Area.sub_trans (by decide) h)]
    | rw [Block.chanTake_seen (Area.sub_trans (by decide) h)]
    | rw [Block.haltChan_seen (Area.sub_trans (by decide) h)]
    | rw [Block.modHop_seen (Area.sub_trans (by decide) h)]
    | rw [Block.modChan_seen (Area.sub_trans (by decide) h)]
    | rw [Block.askSelf_seen (Area.sub_trans (by decide) h)]
    | rw [Block.each_seen]
    | rw [Block.foldl_seen]
    | rw [Block.foldl_snd_seen]
    | dsimp only
    | split

theorem execDescriptorReadReturn_seen {x0 : Fin 16} {x1 : List Byte} {x2 : Bool} {s : State} (h : Area.sub [.cask,
    .ports, .tenants, .sparge, .hop, .power, .out] M = true) :
    ∃ g, execDescriptorReadReturn x0 x1 x2 s = .next { s with block := g } ∧ g.seen M = s.block.seen M := by
  refine ⟨_, rfl, ?_⟩
  dsimp only
  repeat' first
    | (with_reducible intro _)
    | ((with_reducible refine Keeps.of ?_); intro x; first | rfl | (repeat' split) <;> rfl | (dsimp only; (repeat'
        split) <;> rfl))
    | with_reducible rfl
    | exact Keeps.of (fun _ => rfl)
    | with_reducible refine Block.seen_ite ?_ ?_
    | rw [Block.pump_seen (Area.sub_trans (by decide) h)]
    | rw [Block.haltChan_seen (Area.sub_trans (by decide) h)]
    | rw [Block.modChan_seen (Area.sub_trans (by decide) h)]
    | rw [Block.each_seen]
    | rw [Block.foldl_seen]
    | rw [Block.foldl_snd_seen]
    | dsimp only
    | split

theorem execIndexReadReturn_seen {x0 : Fin 16} {x1 : List Byte} {x2 : Bool} {s : State} (h : Area.sub [.cask,
    .ports, .tenants, .sparge, .hop, .power, .out] M = true) :
    ∃ g, execIndexReadReturn x0 x1 x2 s = .next { s with block := g } ∧ g.seen M = s.block.seen M := by
  refine ⟨_, rfl, ?_⟩
  dsimp only
  repeat' first
    | with_reducible rfl
    | (with_reducible intro _)
    | ((with_reducible refine Keeps.of ?_); intro x; first | rfl | (repeat' split) <;> rfl | (dsimp only; (repeat'
        split) <;> rfl))
    | with_reducible refine Block.seen_ite ?_ ?_
    | exact Keeps.of (fun _ => rfl)
    | rw [Block.pump_seen (Area.sub_trans (by decide) h)]
    | rw [Block.haltChan_seen (Area.sub_trans (by decide) h)]
    | rw [Block.modChan_seen (Area.sub_trans (by decide) h)]
    | rw [Block.each_seen]
    | rw [Block.foldl_seen]
    | rw [Block.foldl_snd_seen]
    | dsimp only
    | split

theorem execChannelIssueBeat_seen {x0 : Fin 16} {x1 : List (Fin 256)} {s : State} (h : Area.sub [.cask, .ports,
    .tenants, .sparge, .hop, .power, .out] M = true) :
    ∃ g, execChannelIssueBeat x0 x1 s = .next { s with block := g } ∧ g.seen M = s.block.seen M := by
  refine ⟨_, rfl, ?_⟩
  dsimp only
  repeat' first
    | with_reducible rfl
    | (with_reducible intro _)
    | ((with_reducible refine Keeps.of ?_); intro x; first | rfl | (repeat' split) <;> rfl | (dsimp only; (repeat'
        split) <;> rfl))
    | exact Keeps.of (fun _ => rfl)
    | with_reducible refine Block.seen_ite ?_ ?_
    | rw [Block.complete_seen (Area.sub_trans (by decide) h)]
    | rw [Block.fenceMacro_seen (Area.sub_trans (by decide) h)]
    | rw [Block.modSparge_seen (Area.sub_trans (by decide) h)]
    | rw [Block.spend_seen (Area.sub_trans (by decide) h)]
    | rw [Block.pump_seen (Area.sub_trans (by decide) h)]
    | rw [Block.haltChan_seen (Area.sub_trans (by decide) h)]
    | rw [gather_seen (Area.sub_trans (by decide) h)]
    | rw [Block.chanWrite_seen (Area.sub_trans (by decide) h)]
    | rw [Block.modChan_seen (Area.sub_trans (by decide) h)]
    | rw [Block.readError_seen (Area.sub_trans (by decide) h)]
    | rw [Block.beatEnd_seen (Area.sub_trans (by decide) h)]
    | rw [Block.each_seen]
    | rw [Block.foldl_seen]
    | rw [Block.foldl_snd_seen]
    | dsimp only
    | split

theorem execMemWriteResponse_seen {x0 : BitVec 11} {x1 : Bool} {s : State} (h : Area.sub [.taps, .views, .stations,
    .cask, .ports, .tenants, .sparge, .hop, .power, .out] M = true) :
    ∃ g, execMemWriteResponse x0 x1 s = .next { s with block := g } ∧ g.seen M = s.block.seen M := by
  refine ⟨_, rfl, ?_⟩
  dsimp only
  repeat' first
    | with_reducible rfl
    | (with_reducible intro _)
    | ((with_reducible refine Keeps.of ?_); intro x; first | rfl | (repeat' split) <;> rfl | (dsimp only; (repeat'
        split) <;> rfl))
    | with_reducible refine Block.seen_ite ?_ ?_
    | exact Keeps.of (fun _ => rfl)
    | rw [Block.chanResponse_seen (Area.sub_trans (by decide) h)]
    | rw [Block.modSparge_seen (Area.sub_trans (by decide) h)]
    | rw [Block.scrubCheck_seen (Area.sub_trans (by decide) h)]
    | rw [Block.endScrub_seen (Area.sub_trans (by decide) h)]
    | rw [Block.each_seen]
    | rw [Block.foldl_seen]
    | rw [Block.foldl_snd_seen]
    | dsimp only
    | split

theorem execDrainWindowStart_seen {s : State} (h : Area.sub [.cask, .ports, .tenants, .sparge, .power, .out] M =
    true) :
    ∃ g, execDrainWindowStart s = .next { s with block := g } ∧ g.seen M = s.block.seen M := by
  refine ⟨_, rfl, ?_⟩
  dsimp only
  repeat' first
    | (with_reducible intro _)
    | ((with_reducible refine Keeps.of ?_); intro x; first | rfl | (repeat' split) <;> rfl | (dsimp only; (repeat'
        split) <;> rfl))
    | with_reducible rfl
    | exact Keeps.of (fun _ => rfl)
    | with_reducible refine Block.seen_ite ?_ ?_
    | rw [Block.modSparge_seen (Area.sub_trans (by decide) h)]
    | rw [Block.pumpAll_seen (Area.sub_trans (by decide) h)]
    | rw [Block.reallow_seen (Area.sub_trans (by decide) h)]
    | rw [Block.each_seen]
    | rw [Block.foldl_seen]
    | rw [Block.foldl_snd_seen]
    | dsimp only
    | split

theorem execExportBeatAccept_seen {s : State} (h : Area.sub [.cask, .ports, .tenants, .sparge, .hop,
    .power, .out] M
    = true) :
    ∃ g, execExportBeatAccept s = .next { s with block := g } ∧ g.seen M = s.block.seen M := by
  refine ⟨_, rfl, ?_⟩
  dsimp only
  repeat' first
    | with_reducible rfl
    | (with_reducible intro _)
    | ((with_reducible refine Keeps.of ?_); intro x; first | rfl | (repeat' split) <;> rfl | (dsimp only; (repeat'
        split) <;> rfl))
    | with_reducible refine Block.seen_ite ?_ ?_
    | exact Keeps.of (fun _ => rfl)
    | rw [Block.emit_seen (Area.sub_trans (by decide) h)]
    | rw [Block.modSparge_seen (Area.sub_trans (by decide) h)]
    | rw [Block.pageMoved_seen (Area.sub_trans (by decide) h)]
    | rw [Block.pump_seen (Area.sub_trans (by decide) h)]
    | rw [Block.modHop_seen (Area.sub_trans (by decide) h)]
    | rw [Block.modChan_seen (Area.sub_trans (by decide) h)]
    | rw [Block.exRaise_seen (Area.sub_trans (by decide) h)]
    | rw [Block.exAccepted_seen (Area.sub_trans (by decide) h)]
    | rw [Block.each_seen]
    | rw [Block.foldl_seen]
    | rw [Block.foldl_snd_seen]
    | dsimp only
    | split

theorem execScrubWrite_seen {s : State} (h : Area.sub [.taps, .views, .stations, .cask, .tenants, .sparge, .hop,
    .power, .out] M = true) :
    ∃ g, execScrubWrite s = .next { s with block := g } ∧ g.seen M = s.block.seen M := by
  refine ⟨_, rfl, ?_⟩
  dsimp only
  repeat' first
    | with_reducible rfl
    | (with_reducible intro _)
    | ((with_reducible refine Keeps.of ?_); intro x; first | rfl | (repeat' split) <;> rfl | (dsimp only; (repeat'
        split) <;> rfl))
    | with_reducible refine Block.seen_ite ?_ ?_
    | exact Keeps.of (fun _ => rfl)
    | rw [Block.emit_seen (Area.sub_trans (by decide) h)]
    | rw [Block.modSparge_seen (Area.sub_trans (by decide) h)]
    | rw [Block.spend_seen (Area.sub_trans (by decide) h)]
    | rw [Block.scrubMark_seen (Area.sub_trans (by decide) h)]
    | rw [Block.each_seen]
    | rw [Block.foldl_seen]
    | rw [Block.foldl_snd_seen]
    | dsimp only
    | split

theorem execFunctionResetRequest_seen {x0 : Fin 64} {s : State} (h : Area.sub [.cask, .ports, .tenants, .sparge, .hop, .power, .out] M = true) :
    ∃ g, execFunctionResetRequest x0 s = .next { s with block := g } ∧ g.seen M = s.block.seen M := by
  refine ⟨_, rfl, ?_⟩
  dsimp only
  repeat' first
    | with_reducible rfl
    | exact Keeps.of (fun _ => rfl)
    | with_reducible refine Block.seen_ite ?_ ?_
    | rw [Block.modTenant_seen (Area.sub_trans (by decide) h)]
    | rw [Block.beginReset_seen (Area.sub_trans (by decide) h)]

theorem execOperatorFunctionReset_seen {s : State} (h : Area.sub [.ports, .tenants, .power, .out] M = true) :
    ∃ g, execOperatorFunctionReset s = .next { s with block := g } ∧ g.seen M = s.block.seen M := by
  refine ⟨_, rfl, ?_⟩
  dsimp only
  repeat' first
    | with_reducible rfl
    | exact Keeps.of (fun _ => rfl)
    | with_reducible refine Block.seen_ite ?_ ?_
    | rw [Block.modTenant_seen (Area.sub_trans (by decide) h)]
    | rw [Block.requestWake_seen (Area.sub_trans (by decide) h)]
    | rw [Block.resetPort_seen (Area.sub_trans (by decide) h)]

theorem execResetEpoch_seen {x0 : Fin 64} {s : State} (h : Area.sub [.taps, .views, .stations, .lauter, .ctxs, .cask, .mash, .maps, .assay, .profiles, .sync, .ports, .tenants, .sparge, .hop, .power, .out, .free] M = true) :
    ∃ g, execResetEpoch x0 s = .next { s with block := g } ∧ g.seen M = s.block.seen M := by
  refine ⟨_, rfl, ?_⟩
  dsimp only
  repeat' first
    | with_reducible rfl
    | with_reducible refine Block.seen_ite ?_ ?_
    | rw [Block.epochStep_seen (Area.sub_trans (by decide) h)]

theorem execResetReady_seen {x0 : Fin 64} {s : State} (h : Area.sub [.cask, .ports, .tenants, .sparge, .power, .out]
    M = true) :
    ∃ g, execResetReady x0 s = .next { s with block := g } ∧ g.seen M = s.block.seen M := by
  refine ⟨_, rfl, ?_⟩
  dsimp only
  repeat' first
    | with_reducible rfl
    | exact Keeps.of (fun _ => rfl)
    | with_reducible refine Block.seen_ite ?_ ?_
    | rw [Block.modTenant_seen (Area.sub_trans (by decide) h)]
    | rw [Block.pumpAll_seen (Area.sub_trans (by decide) h)]
    | rw [Block.finishLongs_seen (Area.sub_trans (by decide) h)]

theorem execInterruptMessageSend_seen {s : State} (h : Area.sub [.tenants, .power, .out] M = true) :
    ∃ g, execInterruptMessageSend s = .next { s with block := g } ∧ g.seen M = s.block.seen M := by
  refine ⟨_, rfl, ?_⟩
  dsimp only
  repeat' first
    | (with_reducible intro _)
    | exact Keeps.of (fun _ => rfl)
    | ((with_reducible refine Keeps.of ?_); intro x; first | rfl | (repeat' split) <;> rfl | (dsimp only; (repeat'
        split) <;> rfl))
    | with_reducible rfl
    | with_reducible refine Block.seen_ite ?_ ?_
    | rw [Block.sendNext_seen (Area.sub_trans (by decide) h)]
    | rw [Block.gainTokens_seen (Area.sub_trans (by decide) h)]
    | rw [Block.sendIrq_seen (Area.sub_trans (by decide) h)]
    | rw [Block.irqRaise_seen (Area.sub_trans (by decide) h)]
    | rw [Block.modPower_seen (Area.sub_trans (by decide) h)]
    | rw [Block.emit_seen (Area.sub_trans (by decide) h)]
    | rw [Block.each_seen]
    | rw [Block.foldl_seen]
    | rw [Block.foldl_snd_seen]
    | dsimp only
    | split

theorem execPowerStateChoose_seen {s : State} (h : Area.sub [.power] M = true) :
    ∃ g, execPowerStateChoose s = .next { s with block := g } ∧ g.seen M = s.block.seen M := by
  refine ⟨_, rfl, ?_⟩
  dsimp only
  repeat' first
    | (with_reducible intro _)
    | exact Keeps.of (fun _ => rfl)
    | ((with_reducible refine Keeps.of ?_); intro x; first | rfl | (repeat' split) <;> rfl | (dsimp only; (repeat'
        split) <;> rfl))
    | with_reducible rfl
    | with_reducible refine Block.seen_ite ?_ ?_
    | rw [Block.chooseSpeed_seen (Area.sub_trans (by decide) h)]
    | rw [Block.enterState_seen (Area.sub_trans (by decide) h)]
    | rw [Block.each_seen]
    | rw [Block.foldl_seen]
    | rw [Block.foldl_snd_seen]
    | dsimp only
    | split

theorem execActiveUsExpiry_seen {s : State} (h : Area.sub [.power] M = true) :
    ∃ g, execActiveUsExpiry s = .next { s with block := g } ∧ g.seen M = s.block.seen M := by
  refine ⟨_, rfl, ?_⟩
  dsimp only
  repeat' first
    | with_reducible rfl
    | with_reducible refine Block.seen_ite ?_ ?_
    | rw [Block.requestWake_seen (Area.sub_trans (by decide) h)]

theorem execWakeTimerExpiry_seen {s : State} (h : Area.sub [.power] M = true) :
    ∃ g, execWakeTimerExpiry s = .next { s with block := g } ∧ g.seen M = s.block.seen M := by
  refine ⟨_, rfl, ?_⟩
  dsimp only
  repeat' first
    | rw [Block.modPower_seen (Area.sub_trans (by decide) h)]
    | rw [Block.requestWake_seen (Area.sub_trans (by decide) h)]
    | rw [Block.each_seen]
    | rw [Block.foldl_seen]
    | rw [Block.foldl_snd_seen]
    | dsimp only
    | split

theorem execPowerHoldExpiry_seen {x0 : Fin 65} {s : State} (h : Area.sub [.tenants] M = true) :
    ∃ g, execPowerHoldExpiry x0 s = .next { s with block := g } ∧ g.seen M = s.block.seen M := by
  refine ⟨_, rfl, ?_⟩
  dsimp only
  repeat' first
    | exact Keeps.of (fun _ => rfl)
    | rw [Block.modTenant_seen (Area.sub_trans (by decide) h)]

theorem execWakeRequest_seen {x0 : List WakeSrc} {s : State} (h : Area.sub [.power] M = true) :
    ∃ g, execWakeRequest x0 s = .next { s with block := g } ∧ g.seen M = s.block.seen M := by
  refine ⟨_, rfl, ?_⟩
  dsimp only
  repeat' first
    | rw [Block.requestWake_seen (Area.sub_trans (by decide) h)]
    | rw [Block.each_seen]
    | rw [Block.foldl_seen]
    | rw [Block.foldl_snd_seen]
    | dsimp only
    | split

theorem execBlockWake_seen {s : State} (h : Area.sub [.taps, .views, .stations, .cask, .sync, .ports, .tenants,
    .sparge, .rings, .hop, .meas, .power, .time, .held, .lo, .out, .free] M = true) :
    ∃ g, execBlockWake s = .next { s with block := g } ∧ g.seen M = s.block.seen M := by
  refine ⟨_, rfl, ?_⟩
  dsimp only
  repeat' first
    | (with_reducible intro _)
    | exact Keeps.of (fun _ => rfl)
    | ((with_reducible refine Keeps.of ?_); intro x; first | rfl | (repeat' split) <;> rfl | (dsimp only; (repeat'
        split) <;> rfl))
    | with_reducible rfl
    | with_reducible refine Block.seen_ite ?_ ?_
    | rw [Block.reachRun_seen (Area.sub_trans (by decide) h)]
    | rw [Block.each_seen]
    | rw [Block.foldl_seen]
    | rw [Block.foldl_snd_seen]
    | dsimp only
    | split

theorem execPowerGrant_seen {x0 : PwrPair} {x1 : Bool} {s : State} (h : Area.sub [.cask, .ports, .tenants, .sparge,
    .hop, .power, .time, .out] M = true) :
    ∃ g, execPowerGrant x0 x1 s = .next { s with block := g } ∧ g.seen M = s.block.seen M := by
  refine ⟨_, rfl, ?_⟩
  dsimp only
  repeat' first
    | with_reducible rfl
    | (with_reducible intro _)
    | exact Keeps.of (fun _ => rfl)
    | ((with_reducible refine Keeps.of ?_); intro x; first | rfl | (repeat' split) <;> rfl | (dsimp only; (repeat'
        split) <;> rfl))
    | with_reducible refine Block.seen_ite ?_ ?_
    | rw [Block.modPower_seen (Area.sub_trans (by decide) h)]
    | rw [Block.sleepStep_seen (Area.sub_trans (by decide) h)]
    | rw [Block.bootBegins_seen (Area.sub_trans (by decide) h)]
    | rw [Block.newSpeed_seen (Area.sub_trans (by decide) h)]
    | rw [Block.each_seen]
    | rw [Block.foldl_seen]
    | rw [Block.foldl_snd_seen]
    | dsimp only
    | split

theorem execClockSpeedAck_seen {s : State} (h : Area.sub [.cask, .sync, .ports, .tenants, .sparge, .hop, .power,
    .time, .out] M = true) :
    ∃ g, execClockSpeedAck s = .next { s with block := g } ∧ g.seen M = s.block.seen M := by
  refine ⟨_, rfl, ?_⟩
  dsimp only
  repeat' first
    | (with_reducible intro _)
    | exact Keeps.of (fun _ => rfl)
    | ((with_reducible refine Keeps.of ?_); intro x; first | rfl | (repeat' split) <;> rfl | (dsimp only; (repeat'
        split) <;> rfl))
    | with_reducible rfl
    | with_reducible refine Block.seen_ite ?_ ?_
    | rw [Block.modTime_seen (Area.sub_trans (by decide) h)]
    | rw [Block.modPower_seen (Area.sub_trans (by decide) h)]
    | rw [Block.nextWalk_seen (Area.sub_trans (by decide) h)]
    | rw [Block.newSpeed_seen (Area.sub_trans (by decide) h)]
    | rw [Block.bootBegins_seen (Area.sub_trans (by decide) h)]
    | rw [Block.each_seen]
    | rw [Block.foldl_seen]
    | rw [Block.foldl_snd_seen]
    | dsimp only
    | split

theorem execOffRequest_seen {x0 : Bool} {s : State} (h : Area.sub [.taps, .views, .stations, .lauter, .quads, .ctxs,
    .cask, .mash, .maps, .assay, .profiles, .sync, .freezes, .ports, .tenants, .quotas, .sparge, .rings, .hop, .meas,
    .power, .time, .recs, .held, .lo, .out] M = true) :
    ∃ g, execOffRequest x0 s = .next { s with block := g } ∧ g.seen M = s.block.seen M := by
  refine ⟨_, rfl, ?_⟩
  dsimp only
  repeat' first
    | (with_reducible intro _)
    | exact Keeps.of (fun _ => rfl)
    | ((with_reducible refine Keeps.of ?_); intro x; first | rfl | (repeat' split) <;> rfl | (dsimp only; (repeat'
        split) <;> rfl))
    | with_reducible rfl
    | with_reducible refine Block.seen_ite ?_ ?_
    | rw [Block.modPower_seen (Area.sub_trans (by decide) h)]
    | rw [Block.allDown_seen (Area.sub_trans (by decide) h)]
    | rw [Block.cold_seen (Area.sub_trans (by decide) h)]
    | rw [Block.offStep_seen (Area.sub_trans (by decide) h)]
    | rw [Block.shutDown_seen (Area.sub_trans (by decide) h)]
    | rw [Block.each_seen]
    | rw [Block.foldl_seen]
    | rw [Block.foldl_snd_seen]
    | dsimp only
    | split

theorem execPowerOnReset_seen {x0 : BitVec 48} {x1 : BitVec 64} {x2 : BitVec 19} {s : State} (h : Area.sub [.taps,
    .views, .stations, .lauter, .quads, .ctxs, .cask, .mash, .maps, .assay, .profiles, .sync, .freezes, .ports,
    .tenants, .quotas, .sparge, .rings, .hop, .meas, .power, .time, .recs, .held, .lo] M = true) :
    ∃ g, execPowerOnReset x0 x1 x2 s = .next { s with block := g } ∧ g.seen M = s.block.seen M := by
  refine ⟨_, rfl, ?_⟩
  dsimp only
  repeat' first
    | (rw [Block.cold_seen (Area.sub_trans (by decide) h)])

theorem execBlockResetRequest_seen {s : State} (h : Area.sub [.taps, .views, .stations, .cask, .ports, .tenants,
    .sparge, .hop, .power, .time, .held, .out] M = true) :
    ∃ g, execBlockResetRequest s = .next { s with block := g } ∧ g.seen M = s.block.seen M := by
  refine ⟨_, rfl, ?_⟩
  dsimp only
  repeat' first
    | (with_reducible intro _)
    | exact Keeps.of (fun _ => rfl)
    | ((with_reducible refine Keeps.of ?_); intro x; first | rfl | (repeat' split) <;> rfl | (dsimp only; (repeat'
        split) <;> rfl))
    | with_reducible rfl
    | with_reducible refine Block.seen_ite ?_ ?_
    | rw [Block.beginQuiesce_seen (Area.sub_trans (by decide) h)]
    | rw [Block.modPower_seen (Area.sub_trans (by decide) h)]
    | rw [Block.requestWake_seen (Area.sub_trans (by decide) h)]
    | rw [Block.each_seen]
    | rw [Block.foldl_seen]
    | rw [Block.foldl_snd_seen]
    | dsimp only
    | split

theorem execQuiesceEnd_seen {s : State} (h : Area.sub [.taps, .views, .stations, .lauter, .quads, .ctxs, .cask,
    .mash, .maps, .assay, .profiles, .sync, .freezes, .ports, .tenants, .quotas, .sparge, .rings, .hop, .meas,
    .power, .time, .recs, .held, .lo] M = true) :
    ∃ g, execQuiesceEnd s = .next { s with block := g } ∧ g.seen M = s.block.seen M := by
  refine ⟨_, rfl, ?_⟩
  dsimp only
  repeat' first
    | (with_reducible intro _)
    | exact Keeps.of (fun _ => rfl)
    | ((with_reducible refine Keeps.of ?_); intro x; first | rfl | (repeat' split) <;> rfl | (dsimp only; (repeat'
        split) <;> rfl))
    | with_reducible rfl
    | with_reducible refine Block.seen_ite ?_ ?_
    | rw [Block.afterReset_seen (Area.sub_trans (by decide) h)]
    | rw [Block.each_seen]
    | rw [Block.foldl_seen]
    | rw [Block.foldl_snd_seen]
    | dsimp only
    | split

theorem execBootEnd_seen {s : State} (h : Area.sub [.taps, .views, .stations, .cask, .sync, .ports, .tenants, .sparge, .rings, .hop, .meas, .power, .time, .held, .lo, .out, .free] M = true) :
    ∃ g, execBootEnd s = .next { s with block := g } ∧ g.seen M = s.block.seen M := by
  refine ⟨_, rfl, ?_⟩
  dsimp only
  split
  · rfl
  · split
    · rw [Block.lateQuote_seen (Area.sub_trans (by decide) h), Block.completeHeld_seen (Area.sub_trans (by decide) h),
        Block.modPower_seen (Area.sub_trans (by decide) h)]
    · rw [Block.set_out_seen (Area.sub_trans (by decide) h), Block.lateQuote_seen (Area.sub_trans (by decide) h),
        Block.completeHeld_seen (Area.sub_trans (by decide) h), Block.modPower_seen (Area.sub_trans (by decide) h)]

theorem execPatchFetchDone_seen {x0 : List Byte} {x1 : Bool} {s : State} (h : Area.sub [.tenants, .meas, .power,
    .recs] M = true) :
    ∃ g, execPatchFetchDone x0 x1 s = .next { s with block := g } ∧ g.seen M = s.block.seen M := by
  refine ⟨_, rfl, ?_⟩
  dsimp only
  repeat' first
    | with_reducible rfl
    | with_reducible refine Block.seen_ite ?_ ?_
    | rw [Block.patchDone_seen (Area.sub_trans (by decide) h)]

theorem execSelftestEnd_seen {x0 : List (Fin 512)} {x1 : Bool} {x2 : Bool} {x3 : Bool} {x4 : BitVec 16} {s : State}
    (h : Area.sub [.cask, .tenants, .power] M = true) :
    ∃ g, execSelftestEnd x0 x1 x2 x3 x4 s = .next { s with block := g } ∧ g.seen M = s.block.seen M := by
  refine ⟨_, rfl, ?_⟩
  dsimp only
  repeat' first
    | with_reducible rfl
    | (with_reducible intro _)
    | with_reducible refine Block.seen_ite ?_ ?_
    | rw [Block.modPower_seen (Area.sub_trans (by decide) h)]
    | rw [Block.fenceMacro_seen (Area.sub_trans (by decide) h)]
    | rw [Block.each_seen]

theorem execCalibrateEnd_seen {x0 : List (Fin 2048 × ℕ)} {s : State} (h : Area.sub [.taps, .views, .stations, .cask,
    .ports, .tenants, .hop, .power, .time, .out] M = true) :
    ∃ g, execCalibrateEnd x0 s = .next { s with block := g } ∧ g.seen M = s.block.seen M := by
  refine ⟨_, rfl, ?_⟩
  dsimp only
  repeat' first
    | exact Keeps.of (fun _ => rfl)
    | ((with_reducible refine Keeps.of ?_); intro x; first | rfl | (repeat' split) <;> rfl | (dsimp only; (repeat'
        split) <;> rfl))
    | with_reducible rfl
    | (with_reducible intro _)
    | with_reducible refine Block.seen_ite ?_ ?_
    | rw [Block.modTime_seen (Area.sub_trans (by decide) h)]
    | rw [Block.modPower_seen (Area.sub_trans (by decide) h)]
    | rw [Block.startDiscovery_seen (Area.sub_trans (by decide) h)]
    | rw [Block.train_seen (Area.sub_trans (by decide) h)]
    | rw [Block.loadMirror_seen (Area.sub_trans (by decide) h)]
    | rw [Block.measureTap_seen (Area.sub_trans (by decide) h)]
    | rw [Block.each_seen]
    | rw [Block.foldl_seen]
    | rw [Block.foldl_snd_seen]
    | dsimp only
    | split

theorem execStartReady_seen {s : State} (h : Area.sub [.power] M = true) :
    ∃ g, execStartReady s = .next { s with block := g } ∧ g.seen M = s.block.seen M := by
  refine ⟨_, rfl, ?_⟩
  dsimp only
  repeat' first
    | with_reducible rfl
    | with_reducible refine Block.seen_ite ?_ ?_
    | rw [Block.modPower_seen (Area.sub_trans (by decide) h)]

theorem execMaltsterWatchdog_seen {x0 : BitVec 8} {s : State} (h : Area.sub [.ports, .tenants, .power, .recs, .out] M
    = true) :
    ∃ g, execMaltsterWatchdog x0 s = .next { s with block := g } ∧ g.seen M = s.block.seen M := by
  refine ⟨_, rfl, ?_⟩
  dsimp only
  repeat' first
    | with_reducible rfl
    | with_reducible refine Block.seen_ite ?_ ?_
    | rw [Block.raise_seen (Area.sub_trans (by decide) h)]
    | rw [Block.queueRec_seen (Area.sub_trans (by decide) h)]
    | rw [Block.modPower_seen (Area.sub_trans (by decide) h)]
    | rw [Block.finishLongs_seen (Area.sub_trans (by decide) h)]

theorem execImageBegin_seen {x0 : Fin 2048} {s : State} (h : Area.sub [.taps, .meas] M = true) :
    ∃ g, execImageBegin x0 s = .next { s with block := g } ∧ g.seen M = s.block.seen M := by
  refine ⟨_, rfl, ?_⟩
  dsimp only
  repeat' first
    | with_reducible rfl
    | (with_reducible intro _)
    | exact Keeps.of (fun _ => rfl)
    | ((with_reducible refine Keeps.of ?_); intro x; first | rfl | (repeat' split) <;> rfl | (dsimp only; (repeat'
        split) <;> rfl))
    | with_reducible refine Block.seen_ite ?_ ?_
    | rw [Block.laneLost_seen (Area.sub_trans (by decide) h)]
    | rw [Block.logEntry_seen (Area.sub_trans (by decide) h)]
    | rw [Block.modTap_seen (Area.sub_trans (by decide) h)]
    | rw [Block.setLane_seen (Area.sub_trans (by decide) h)]
    | rw [Block.abortImage_seen (Area.sub_trans (by decide) h)]
    | rw [Block.close_seen (Area.sub_trans (by decide) h)]
    | rw [Block.each_seen]
    | rw [Block.foldl_seen]
    | rw [Block.foldl_snd_seen]
    | dsimp only
    | split

theorem execImageEnd_seen {x0 : Fin 2048} {s : State} (h : Area.sub [.taps, .meas] M = true) :
    ∃ g, execImageEnd x0 s = .next { s with block := g } ∧ g.seen M = s.block.seen M := by
  refine ⟨_, rfl, ?_⟩
  dsimp only
  repeat' first
    | rw [Block.laneLost_seen (Area.sub_trans (by decide) h)]
    | rw [Block.modTap_seen (Area.sub_trans (by decide) h)]
    | rw [Block.closeLane_seen (Area.sub_trans (by decide) h)]
    | rw [Block.each_seen]
    | rw [Block.foldl_seen]
    | rw [Block.foldl_snd_seen]
    | dsimp only
    | split

theorem execWeightLoadBeat_seen {x0 : Fin 2048} {s : State} (h : Area.sub [.taps, .meas] M = true) :
    ∃ g, execWeightLoadBeat x0 s = .next { s with block := g } ∧ g.seen M = s.block.seen M := by
  refine ⟨_, rfl, ?_⟩
  dsimp only
  repeat' first
    | rw [Block.laneLost_seen (Area.sub_trans (by decide) h)]
    | rw [Block.modTap_seen (Area.sub_trans (by decide) h)]
    | rw [Block.modMeas_seen (Area.sub_trans (by decide) h)]
    | rw [Block.setLane_seen (Area.sub_trans (by decide) h)]
    | rw [Block.each_seen]
    | rw [Block.foldl_seen]
    | rw [Block.foldl_snd_seen]
    | dsimp only
    | split

theorem execLogTake_seen {s : State} (h : Area.sub [.meas, .out] M = true) :
    ∃ g, execLogTake s = .next { s with block := g } ∧ g.seen M = s.block.seen M := by
  refine ⟨_, rfl, ?_⟩
  dsimp only
  repeat' first
    | rw [Block.emit_seen (Area.sub_trans (by decide) h)]
    | rw [Block.modMeas_seen (Area.sub_trans (by decide) h)]
    | rw [Block.each_seen]
    | rw [Block.foldl_seen]
    | rw [Block.foldl_snd_seen]
    | dsimp only
    | split

theorem execQuoteRequest_seen {s : State} (h : Area.sub [.meas, .power, .free] M = true) :
    ∃ g, execQuoteRequest s = .next { s with block := g } ∧ g.seen M = s.block.seen M := by
  refine ⟨_, rfl, ?_⟩
  dsimp only
  repeat' first
    | (with_reducible intro _)
    | exact Keeps.of (fun _ => rfl)
    | ((with_reducible refine Keeps.of ?_); intro x; first | rfl | (repeat' split) <;> rfl | (dsimp only; (repeat'
        split) <;> rfl))
    | with_reducible rfl
    | with_reducible refine Block.seen_ite ?_ ?_
    | rw [Block.serveQuote_seen (Area.sub_trans (by decide) h)]
    | rw [Block.requestWake_seen (Area.sub_trans (by decide) h)]
    | rw [Block.modMeas_seen (Area.sub_trans (by decide) h)]
    | rw [Block.each_seen]
    | rw [Block.foldl_seen]
    | rw [Block.foldl_snd_seen]
    | dsimp only
    | split

theorem execIfrRequest_seen {x0 : Fin 64} {s : State} (h : Area.sub [.meas, .free] M = true) :
    ∃ g, execIfrRequest x0 s = .next { s with block := g } ∧ g.seen M = s.block.seen M := by
  refine ⟨_, rfl, ?_⟩
  dsimp only
  repeat' first
    | with_reducible rfl
    | with_reducible refine Block.seen_ite ?_ ?_
    | rw [Block.modMeas_seen (Area.sub_trans (by decide) h)]
    | rw [Block.lastLogSeq_seen (Area.sub_trans (by decide) h)]

theorem execLockStateChange_seen {x0 : BitVec 64} {s : State} (h : Area.sub [.tenants] M = true) :
    ∃ g, execLockStateChange x0 s = .next { s with block := g } ∧ g.seen M = s.block.seen M := by
  refine ⟨_, rfl, ?_⟩
  dsimp only
  repeat' first
    | (with_reducible intro _)
    | exact Keeps.of (fun _ => rfl)
    | rw [Block.modTenant_seen (Area.sub_trans (by decide) h)]
    | rw [Block.each_seen]

theorem execAlignmentLost_seen {s : State} (h : Area.sub [.taps, .views, .stations, .cask, .tenants, .power, .time] M
    = true) :
    ∃ g, execAlignmentLost s = .next { s with block := g } ∧ g.seen M = s.block.seen M := by
  refine ⟨_, rfl, ?_⟩
  dsimp only
  repeat' first
    | with_reducible rfl
    | with_reducible refine Block.seen_ite ?_ ?_
    | rw [Block.realign_seen (Area.sub_trans (by decide) h)]

theorem execTcalFirstMeasurement_seen {x0 : Fin 2048} {x1 : ℕ} {s : State} (h : Area.sub [.taps, .views, .stations,
    .cask, .tenants, .power, .time] M = true) :
    ∃ g, execTcalFirstMeasurement x0 x1 s = .next { s with block := g } ∧ g.seen M = s.block.seen M := by
  refine ⟨_, rfl, ?_⟩
  dsimp only
  repeat' first
    | with_reducible rfl
    | with_reducible refine Block.seen_ite ?_ ?_
    | rw [Block.realign_seen (Area.sub_trans (by decide) h)]
    | rw [Block.measureTap_seen (Area.sub_trans (by decide) h)]

theorem execFunctionResetRelease_seen {x0 : Fin 65} {s : State} (h : Area.sub [.tenants] M = true) :
    ∃ g, execFunctionResetRelease x0 s = .next { s with block := g } ∧ g.seen M = s.block.seen M := by
  refine ⟨_, rfl, ?_⟩
  dsimp only
  repeat' first
    | exact Keeps.of (fun _ => rfl)
    | rw [Block.modTenant_seen (Area.sub_trans (by decide) h)]

theorem execBlockResetRelease_seen {s : State} (h : Area.sub [.power] M = true) :
    ∃ g, execBlockResetRelease s = .next { s with block := g } ∧ g.seen M = s.block.seen M := by
  refine ⟨_, rfl, ?_⟩
  dsimp only
  repeat' first
    | (rw [Block.modPower_seen (Area.sub_trans (by decide) h)])

theorem execQuoteRelease_seen {s : State} (h : Area.sub [.meas] M = true) :
    ∃ g, execQuoteRelease s = .next { s with block := g } ∧ g.seen M = s.block.seen M := by
  refine ⟨_, rfl, ?_⟩
  dsimp only
  repeat' first
    | (rw [Block.modMeas_seen (Area.sub_trans (by decide) h)])

theorem execIfrRelease_seen {s : State} (h : Area.sub [.meas] M = true) :
    ∃ g, execIfrRelease s = .next { s with block := g } ∧ g.seen M = s.block.seen M := by
  refine ⟨_, rfl, ?_⟩
  dsimp only
  repeat' first
    | (rw [Block.modMeas_seen (Area.sub_trans (by decide) h)])

end Sys2Proof.Machine
end

