-- ==== Sys2Proof/Tests/Slice0.lean ====
section
/-! SUPPORT. The package's own tests: ill-formed commands, small steps, and for each statement with hypotheses a witness that
meets them, clause by clause and at the ends of the ranges. -/

namespace Sys2Proof.Tests

-- one theorem at a time, so that the evaluations of `decide` do not hold their memory together
set_option Elab.async false

open Sys2Proof Sys2Proof.Machine

/-! ### Small states -/

/-- A packet with these parameter words, all strobed. -/
def pk (ws : List Word) : Pkt := { tag := 7, flags := 0, params := ws, lastStrb := 15 }

/-- A running, ready block. -/
def up : Power := { phase := 6, brewGnt := true, clkGnt := true }

/-- A ready block with the ports of tenant 3 and of the operator negotiated. -/
def base : Block := { power := up, ports := [(3, { negotiated := true }), (64, { negotiated := true })] }

/-- The ready block with something of each kind that belongs to tenant 3. -/
def own : Block := { base with
  ctxs := [(4095, 0x86000000#32)]
  stations := [(31, { rules := [(15, [0xC00000#32, 0, 0, 0, 0])], seq := { owner := 3 } })]
  tenants := [(3, { quota := 1 })]
  mash := { agents := [(127, 6#32)], slots := [(15, { w := [0x180#32, 0, 0, 0, 20000#32] })] }
  assay := { units := [(15, { ctl := 6#32 })], profiles := [(63, [6#32, 0xFFFF#32, 0x0010F100#32])] }
  sync := { objs := [(0x3FFF, { owner := 3, ownValid := true })] }
  views := [(2047, { desc := [(7, (6#32, 0#32))] })]
  sparge := { chans := [(15, { owner := 3 })] } }

/-- A state that holds a block. -/
def st (b : Block) : State := { block := b }

/-! ### Witnesses for the statements about packets -/

theorem witness_SessionCommandsAnswer :
    (base.takes 64 (pk [0x0404]) 2 false ∧ fld (0x0404#32) 0 8 ≤ 4 ∧ 4 ≤ fld (0x0404#32) 8 8) ∧
    base.hears 3 (pk [0xFFFF]) 0 false ∧ base.hears 3 (pk []) 4 false ∧ base.hears 3 (pk []) 0 false ∧
    (base.takes 3 { pk (List.replicate 255 9) with lastStrb := 3 } 255 false ∧ (base.port 3).negotiated = true) := by
  (repeat' apply And.intro) <;> decide +kernel

theorem witness_TapAndStationReadsAnswer :
    (base.hears 64 (pk [0x800007FF]) 3 false ∧ base.present (fld (0x800007FF#32) 0 11) = true) ∧
    (({ base with absent := [2047] } : Block).hears 64 (pk [2047]) 3 false ∧
      ({ base with absent := [2047] } : Block).present 2047 = false) ∧
    (own.hears 3 (pk [4095]) 1 false ∧ own.ctxTenant 4095 = some 3) ∧
    (own.hears 3 (pk [0xF1F]) 5 false ∧ ruleOwner (own.rule 31 15) = 3) ∧
    (own.hears 3 (pk [31]) 4 false ∧ (own.station 31).seq.owner = 3) ∧ own.hears 64 (pk [0x8000001F]) 4 false ∧
    (own.hears 64 (pk [0x8000401F]) 4 false ∧ fld (0x8000401F#32) 8 7 ≤ 64) ∧
    (own.hears 3 (pk [0x31F]) 4 false ∧ fld (0x31F#32) 8 7 = 3) := by
  (repeat' apply And.intro) <;> decide

theorem witness_TapAndFilterWritesAct :
    (base.hears 64 (pk [2047, 7]) 0 false ∧ base.present 2047 = true) ∧
    (({ base with absent := [2047] } : Block).hears 64 (pk [2047, 7]) 0 false ∧
      ({ base with absent := [2047] } : Block).present 2047 = false) ∧
    (own.hears 3 (pk [4095, 0xFFFFFFFF]) 0 false ∧ own.ctxTenant 4095 = some 3) ∧
    (own.hears 64 (pk [0xF1F, 0x10000000, 0, 0, 0, 0]) 0 false ∧ fld (0x10000000#32) 22 7 ≤ 64) ∧
    (own.hears 3 (pk [0xF1F, 0, 0, 0, 0, 0]) 0 false ∧ ruleOwner (own.rule 31 15) = 3) ∧
    (own.hears 64 (pk [0x1401F]) 0 false ∧ fld (0x1401F#32) 8 7 ≤ 64) ∧
    (own.hears 3 (pk [0x31F]) 0 false ∧ fld (0x31F#32) 8 7 = 3) ∧
    (own.hears 3 (pk [0x71F, 0x58, 0, 0, 0, 0, 0]) 0 false ∧ (own.station 31).seq.owner = 3 ∧ fld (0x58#32) 2 2 ≤ 2 ∧
      fld (0x58#32) 4 4 ≤ 5 ∧ classReserved (fld (0x58#32) 8 4) = false) := by
  (repeat' apply And.intro) <;> decide

theorem witness_SequencerCommandsAct :
    (own.hears 3 (pk [0x11F, 0, 0]) 0 false ∧ (own.station 31).seq.owner = 3 ∧
      cdiv (fld (0x11F#32) 16 16) 63 + 1 ≤ own.quotaOf 3) ∧
    own.hears 3 (pk [31]) 1 false ∧ (own.hears 64 (pk [0x401F]) 0 false ∧ fld (0x401F#32) 8 7 ≤ 64) ∧
    (own.hears 64 (pk [0x140]) 0 false ∧ fld (0x140#32) 0 7 ≤ 64) ∧
    (own.hears 3 (pk [3]) 0 false ∧ fld (3#32) 0 7 = 3) := by
  (repeat' apply And.intro) <;> decide

theorem witness_CaskCommandsAct :
    (own.hears 3 (pk [0x203, 10000]) 0 false ∧ fld (0x203#32) 0 7 = 3 ∧ fld (0x203#32) 8 2 ≠ 3 ∧ fld (10000#32) 0 14 ≤ 10000) ∧
    (own.hears 3 (pk [0xF03, 0, 0xFFFFFFFF]) 2 true ∧ (own.chan (fld (0xF03#32) 8 4)).owner = 3) ∧
    (∃ b : Block, b.hears 64 (pk [0xF03, 5, 5]) 2 true ∧
      b.pagesOf 3 (fun g => g.epoch == b.epochOf 3 && (g.st == .full || g.st == .held) && (g.pageSeq == 5)) ≠ []) ∧
    own.hears 3 (pk [3]) 0 false ∧ own.hears 3 (pk [3]) 7 false ∧ own.hears 64 (pk [0x80000040]) 7 false ∧
    own.hears 64 (pk [0x80000000]) 3 false ∧ own.hears 64 (pk []) 16 false ∧ own.hears 64 (pk [0x800001FF]) 1 false ∧
    own.hears 64 (pk [100]) 0 false ∧ own.hears 64 (pk [60000]) 0 false :=
  ⟨by decide, by decide, ⟨{ own with cask := { pages := [(8191, { st := .full, owner := 3, pageSeq := 5 })] } }, by decide⟩,
    by (repeat' apply And.intro) <;> decide⟩

theorem witness_MashCommandsAct :
    (own.hears 64 (pk (1794 :: List.replicate 254 0x7FFF)) 0 false ∧ fld (1794#32) 0 11 + 254 ≤ 2048) ∧
    (own.hears 64 (pk [127, 0x80]) 0 false ∧ fld (0x80#32) 1 7 ≤ 64) ∧
    (own.hears 3 (pk [127, 0x1F00]) 0 false ∧ aOwner (own.agent 127) = 3 ∧ (own.slot (aLoop (0x1F00#32))).owner = 3) ∧
    (own.hears 64 (pk (List.replicate 8 0x84848484)) 0 false ∧ ∀ k ∈ codesIn (0x84848484#32), k ≤ 0x84) ∧
    (own.hears 64 (pk [15, 0x2000, 0, 0, 20000, 20000]) 0 false ∧ fld (0x2000#32) 7 7 ≤ 64) ∧
    (own.hears 3 (pk [15, 0, 0, 0, 20000, 20000]) 0 false ∧ (own.slot 15).owner = 3) ∧
    own.hears 64 (pk [0, 2047]) 5 false ∧ (own.hears 3 (pk [1, 127]) 5 false ∧ aOwner (own.agent 127) = 3) ∧
    own.hears 64 (pk [2, 7]) 5 false ∧ own.hears 3 (pk [3, 15]) 5 false ∧ own.hears 3 (pk [15]) 3 false ∧
    own.hears 64 (pk [0, 2047]) 4 false ∧ own.hears 64 (pk [1, 15]) 4 false ∧
    (own.hears 3 (pk [2, 63]) 4 false ∧ profOwner (own.profile 63) = 3) ∧
    (own.hears 3 (pk [3, 32767]) 4 false ∧ own.refMine 3 32767 = true) ∧ own.hears 64 (pk [0x80000004, 15]) 4 false := by
  (repeat' apply And.intro) <;> decide +kernel

/-- Taps 0 to `n − 1` bound to unit 15. -/
def bound (n : Nat) : Block := { base with assay := { binding := (upto n).map (fun t => (t, 0x1F#32)) } }

theorem witness_AssayCommandsAct :
    ((bound 3).hears 64 (pk [2047, 0x1F]) 0 false ∧ ((bound 3).assay.binding.filter (fun e => e.1 != 2047 && bit e.2 4 &&
      asyUnitOf e.2 == asyUnitOf (0x1F &&& 0x3F#32))).length < 4) ∧
    ((bound 4).hears 64 (pk [2047, 0x1F]) 0 false ∧ 4 ≤ ((bound 4).assay.binding.filter (fun e => e.1 != 2047 && bit e.2 4 &&
      asyUnitOf e.2 == asyUnitOf (0x1F &&& 0x3F#32))).length) ∧
    (own.hears 64 (pk [15, 0x80]) 0 false ∧ fld (0x80#32) 1 7 ≤ 64) ∧
    (own.hears 64 (pk [63, 0x0F000080, 0, 0]) 0 false ∧ profileRange (callOf 64 (pk [63, 0x0F000080, 0, 0])) = true) ∧
    (own.hears 3 (pk [63, 0x03000000, 0, 16]) 0 false ∧ profileRange (callOf 3 (pk [63, 0x03000000, 0, 16])) = true ∧
      profOwner (own.profile 63) = 3) ∧
    (own.hears 64 (pk (32514 :: List.replicate 254 1)) 0 false ∧ fld (32514#32) 0 15 + 254 ≤ 32768) ∧
    (own.hears 3 (pk [32767, 1]) 0 false ∧ own.refMine 3 32767 = true) ∧
    (own.hears 3 (pk [15]) 1 false ∧ (own.unit 15).owner = 3) := by
  (repeat' apply And.intro) <;> decide +kernel

theorem witness_SyncCommandsAct :
    (own.hears 3 (pk [0x1BFFF, 2047]) 0 false ∧ fld (0x1BFFF#32) 14 2 ≠ 3 ∧ (own.obj 0x3FFF).owner = 3) ∧
    (own.hears 3 (pk [0x14000, 2047]) 0 false ∧ (own.obj 0).ownValid = false) ∧ own.hears 64 (pk [0x3FFF, 0]) 0 false ∧
    (own.hears 3 (pk [0x3FFF]) 4 false ∧ (own.obj 0x3FFF).ownValid = true) ∧ own.hears 64 (pk [2047]) 2 false ∧
    (own.hears 64 (pk [0x03E87FFF]) 0 false ∧ fld (0x03E87FFF#32) 16 10 ≤ 1000) ∧
    own.hears 64 (pk [0x80000000]) 10 false := by
  (repeat' apply And.intro) <;> decide

theorem witness_WalksAndSnapshotsRun :
    (own.hears 64 (pk []) 2 true ∧ own.sync.walk = none ∧ own.power.low = false) ∧
    (∃ b : Block, b.hears 64 (pk []) 2 true ∧ b.sync.walk = none ∧ b.power.low = true) ∧
    (({ own with sync := { walk := some { seq := 0, gt := 0, epoch := 0, bound := 0, edges := [] } } } : Block).hears 64
      (pk []) 2 true) ∧
    (own.hears 64 (pk [1, 256000, 0, 0]) 1 false ∧ own.gt + us 1 ≤ (callOf 64 (pk [1, 256000, 0, 0])).gt 1 ∧
      own.sync.snap.st = .empty) ∧
    (own.hears 64 (pk [0, 0, 0, 0]) 1 false ∧ own.sync.snap.st ≠ .capturing) ∧
    (({ own with sync := { snap := { st := .capturing } } } : Block).hears 64 (pk [0, 0, 0, 0]) 1 false) ∧
    (({ own with sync := { snap := { st := .valid } } } : Block).hears 64 (pk [1, 256000, 0, 0]) 1 false) := by
  refine ⟨?_, ⟨{ own with power := { up with low := true } }, ?_⟩, ?_⟩ <;> (repeat' apply And.intro) <;> decide

/-- Tap 2047 is present and its mirror is not loaded. -/
def bare : Block := { base with views := [(2047, { mirror := false })] }

theorem witness_CounterCommandsAct :
    (bare.hears 64 (pk [0x77FF, 0x1080, 0]) 0 false ∧ bare.unloaded 2047 = true ∧
      cntRange (callOf 64 (pk [0x77FF, 0x1080, 0])) = true) ∧
    (own.hears 3 (pk [0x77FF, 0xE00, 0]) 0 false ∧ own.unloaded 2047 = false ∧ own.cntOwner 2047 7 = 3 ∧
      cntRange (callOf 3 (pk [0x77FF, 0xE00, 0])) = true) ∧
    (({ base with absent := [2047] } : Block).hears 64 (pk [0x77FF, 0x80, 0]) 0 false ∧
      ({ base with absent := [2047] } : Block).unloaded 2047 = false) ∧
    (bare.hears 3 (pk [0x77FF]) 2 false ∧ bare.unloaded 2047 = true) ∧
    (own.hears 3 (pk [0x77FF]) 2 false ∧ own.cntOwner 2047 7 = 3) ∧
    bare.hears 64 (pk [2047]) 19 true ∧
    (({ base with absent := [2047] } : Block).hears 64 (pk [2047]) 19 true) ∧
    (({ base with views := [(2047, { down := true })] } : Block).hears 64 (pk [2047]) 19 true) ∧
    (base.hears 64 (pk [2047]) 19 true ∧ base.unloaded 2047 = false ∧ (base.view 2047).down = false) ∧
    (own.hears 3 (pk (0x300 :: List.replicate 24 0xF7FF)) 0 false ∧
      viewBusy (callOf 3 (pk (0x300 :: List.replicate 24 0xF7FF))) own = false ∧
      viewOwned (callOf 3 (pk (0x300 :: List.replicate 24 0xF7FF))) own = true) ∧
    (bare.hears 3 (pk [0x317, 0x87FF]) 0 false ∧ viewBusy (callOf 3 (pk [0x317, 0x87FF])) bare = true) ∧
    (own.hears 64 (pk [0x317, 0x8000]) 0 false ∧ viewBusy (callOf 64 (pk [0x317, 0x8000])) own = false ∧
      viewOwned (callOf 64 (pk [0x317, 0x8000])) own = false) := by
  (repeat' apply And.intro) <;> decide

/-- A block with a freeze of ID 9 scheduled in slot 0. -/
def frozen : Block := { base with freezes := [(0, { st := .scheduled, id := 9, t := 768001 })] }

/-- A block with four Done freezes. -/
def fourDone : Block := { base with freezes := (upto 4).map (fun i => (i, { st := .done, id := i, t := 768001 })) }

theorem witness_FreezeCommandsAct :
    (frozen.hears 64 (pk [0, 256000, 0, 0]) 2 false ∧ frozen.gt + us 1 ≤ (callOf 64 (pk [0, 256000, 0, 0])).gt 1 ∧
      (∀ e, e ∈ frozen.freezesUsed → near2 e.2.t ((callOf 64 (pk [0, 256000, 0, 0])).gt 1) = false) ∧
      (frozen.freezeSlot 0).st ≠ .free ∧ (frozen.freezeSlot 1).st = .free) ∧
    (frozen.hears 64 (pk [1, 12800000, 0, 0]) 2 true ∧
      frozen.gt + us 50 ≤ frozen.localOfRoot ((callOf 64 (pk [1, 12800000, 0, 0])).gt 1) ∧
      (∀ e, e ∈ frozen.freezesUsed →
        near2 e.2.t (frozen.localOfRoot ((callOf 64 (pk [1, 12800000, 0, 0])).gt 1)) = false)) ∧
    (fourDone.hears 64 (pk [0, 256000, 0, 0]) 2 false ∧ (∀ i, i < 4 → (fourDone.freezeSlot i).st ≠ .free) ∧
      (∀ e, e ∈ fourDone.freezesUsed → near2 e.2.t ((callOf 64 (pk [0, 256000, 0, 0])).gt 1) = false)) ∧
    (frozen.hears 64 (pk [9]) 2 false ∧ frozen.slotOf 9 = some 0) ∧
    (frozen.hears 64 (pk [8]) 2 false ∧ frozen.slotOf 8 = none) ∧
    (frozen.hears 64 (pk [9]) 0 false ∧ frozen.latching (frozen.freezeSlot 0) = false) ∧
    (∃ b : Block, b.hears 64 (pk [9]) 0 false ∧ b.slotOf 9 = some 0 ∧ b.latching (b.freezeSlot 0) = true) ∧
    (frozen.hears 64 (pk [8]) 0 false ∧ frozen.slotOf 8 = none) ∧ frozen.hears 64 (pk [10]) 0 false := by
  refine ⟨?_, ?_, ?_, ?_, ?_, ?_, ⟨{ frozen with freezes := [(0, { st := .scheduled, id := 9, t := 0 })] }, ?_⟩, ?_⟩ <;>
    (repeat' apply And.intro) <;> decide

/-- Link 5 is Up at version 3 and leads to the parent. -/
def linked : Block := { base with
  hop := { ports := [(5, { st := .up, version := 3, credits := 1024, node := 0 })], parent := 5, disc := 6, nodeId := 1
           routes := [(0, 5 * 64 + 1), (1, 7 * 64)] } }

theorem witness_TimeCommandsAct :
    base.hears 3 (pk []) 8 false ∧ base.hears 64 (pk [2047]) 1 false ∧
    (base.hears 64 (pk [0xFFFFFF05]) 0 false ∧ fld (0xFFFFFF05#32) 0 3 ≤ 5) ∧
    (base.hears 64 (pk [0x10000, 0x10020, 100]) 0 false ∧ 1 ≤ fld (0x10000#32) 16 16 ∧ 32 ≤ fld (0x10020#32) 0 13 ∧
      1 ≤ fld (0x10020#32) 16 10 ∧ fld (0x10020#32) 16 10 ≠ base.time.tcalMs ∧ 100 ≤ fld (100#32) 0 17 ∧ fld (0x10000#32) 0 16 = base.time.latency) ∧
    (base.hears 64 (pk [0x3E8FFFF, 0x3E81000, 100000]) 0 false ∧ fld (0x3E8FFFF#32) 16 16 ≤ 1000 ∧
      fld (0x3E81000#32) 0 13 ≤ 4096 ∧ fld (0x3E81000#32) 16 10 ≤ 1000 ∧ fld (100000#32) 0 17 ≤ 100000) ∧
    (base.hears 64 (pk []) 3 true ∧ base.hasParent = false) ∧ (linked.hears 64 (pk []) 3 true ∧ linked.hasParent = true) := by
  (repeat' apply And.intro) <;> decide

theorem witness_SpargeCommandsAct :
    (own.hears 64 (pk [0x240F, 4095]) 0 false ∧ fld (0x240F#32) 4 7 ≤ 64 ∧ fld (0x240F#32) 12 2 ≠ 3 ∧
      (own.chan 15).draining = false ∧ own.noDrain) ∧
    (∃ b : Block, b.hears 64 (pk [0x240F, 4095]) 0 false ∧ (b.chan 15).draining = true) ∧
    (own.hears 3 (pk [15]) 4 false ∧ (own.chan 15).owner = 3) ∧ own.hears 64 (pk [0x8000000F]) 4 false ∧
    (own.hears 64 (pk [15]) 0 false ∧ (own.chan 15).st ≠ .halted) ∧
    (∃ b : Block, b.hears 64 (pk [15]) 0 false ∧ (b.chan 15).st = .halted) :=
  ⟨by decide, ⟨{ base with sparge := { chans := [(15, { page := some 0 })] } }, by decide⟩, by decide, by decide, by decide,
    ⟨{ base with sparge := { chans := [(15, { st := .halted })] } }, by decide⟩⟩

theorem witness_QuotaCommandsAct :
    (base.hears 64 (pk [0x40, 255]) 0 false ∧ quotaAdmits 64 0 255) ∧ quotaAdmits 63 1 8192 ∧ quotaAdmits 64 2 320 ∧
    (base.hears 64 (pk [0x33F, 32]) 0 false ∧ quotaAdmits 63 3 32 ∧ (32#32).toNat ≤ (base.tenant 63).poolMax) ∧
    (quotaAdmits 63 4 2 ∧ (base.tenant 63).poolMin ≤ (2#32).toNat) ∧ quotaAdmits 63 5 0x14E20 ∧
    (base.hears 64 (pk [0x140, 0]) 0 false ∧ ¬quotaAdmits 64 1 0) ∧ ¬quotaAdmits 65 0 0 ∧ ¬quotaAdmits 0 6 0 ∧
    ¬quotaAdmits 0 5 0 ∧ ¬quotaAdmits 0 4 0 ∧ (base.hears 64 (pk [0x33F, 33]) 0 false ∧ (base.tenant 63).poolMax < (33#32).toNat) ∧
    (base.hears 64 (pk [0x43F, 1]) 0 false ∧ (1#32).toNat < (base.tenant 63).poolMin) ∧
    (base.hears 64 (pk [0x53F]) 1 false ∧ fieldOk (callOf 64 (pk [0x53F])) = true) := by
  (repeat' apply And.intro) <;> decide

/-- A block in which tenant 63 is Resetting and its scrub runs, with writes in flight or none. -/
def scrubbing (flight : List Nat) : Block := { base with
  tenants := [(63, { resetting := true })]
  sparge := { scrubs := [{ tenant := 63, oldEpoch := 0, newEpoch := 1, wins := [(0, 0, 4096)], chans := [0], begun := true
                           flight := flight }] } }

theorem witness_TenantCommandsAct :
    (base.hears 64 (pk [63]) 2 true ∧ (base.tenant 63).resetting = false) ∧
    ((scrubbing []).hears 64 (pk [63]) 2 true ∧ ((scrubbing []).tenant 63).resetting = true) ∧
    (base.hears 64 (pk [0x80000040]) 1 false ∧ fld (0x80000040#32) 0 7 ≤ 64) ∧
    (base.hears 64 (pk [0x7F]) 1 false ∧ fld (0x7F#32) 0 7 = 0x7F) ∧
    (base.hears 64 (pk [63]) 0 false ∧ base.sparge.scrubs = []) ∧ (scrubbing [0]).hears 64 (pk [63]) 0 false ∧
    (scrubbing []).hears 64 (pk [63]) 0 false ∧
    (base.hears 64 (pk [0x80000040]) 3 false ∧ fld (0x80000040#32) 0 7 ≤ 64) := by
  (repeat' apply And.intro) <;> decide

/-- A block whose link on port 5 has this administration and this state. -/
def linkIn (adminUp : Bool) (st : LinkState) : Block := { base with hop := { ports := [(5, { adminUp := adminUp, st := st })] } }

/-- A block with a version-2 link Up on port 5 that rotates its keys or does not. -/
def compatUp (rotating : Bool) : Block := { base with
  hop := { ports := [(5, { st := .up, version := 2, compat := true, rotating := rotating })] } }

theorem witness_FabricCommandsAct :
    base.hears 64 (pk []) 3 false ∧ base.hears 64 (pk [0xFFF]) 1 false ∧
    (base.hears 64 (pk [0x80000005]) 4 false ∧ fld (0x80000005#32) 0 3 ≤ 5) ∧
    (linked.hears 64 (pk [5]) 0 false ∧ fld (5#32) 4 2 = 0) ∧ (base.hears 64 (pk [0x115]) 0 false ∧ fld (0x115#32) 4 2 = 1) ∧
    (linked.hears 64 (pk [0x125]) 0 false ∧ fld (0x125#32) 4 2 = 2) ∧
    (∀ w, w = 5#32 ∨ w = 0x125#32 → ((linkIn true .up).hears 64 (pk [w]) 0 false ∧ ((linkIn true .up).hopPort 5).st = .up) ∧
      ((linkIn true .closing).hears 64 (pk [w]) 0 false ∧ ((linkIn true .closing).hopPort 5).st = .closing) ∧
      ((linkIn true .down).hears 64 (pk [w]) 0 false ∧ ((linkIn true .down).hopPort 5).adminUp = true)) ∧
    ((linkIn false .down).hears 64 (pk [0x125]) 0 false ∧ ((linkIn false .down).hopPort 5).adminUp = false) ∧
    (linked.hears 64 (pk []) 2 true ∧ linked.up3 ≠ [] ∧ linked.hop.tsMeas = none) ∧
    (base.hears 64 (pk []) 2 true ∧ base.up3 = [] ∧ base.allLongs = [] ∧ base.hop.tsMeas = none) ∧
    (base.hears 64 (pk [5]) 1 true ∧ (base.hopPort 5).compat = false) ∧
    ((compatUp true).hears 64 (pk [5]) 1 true ∧ ((compatUp true).hopPort 5).rotating = true) ∧
    ((compatUp false).hears 64 (pk [5]) 1 true ∧ ((compatUp false).hopPort 5).rotating = false) := by
  refine ⟨?_, ?_, ?_, ?_, ?_, ?_, fun w h => ?_, ?_⟩
  all_goals first | (rcases h with rfl | rfl) | skip
  all_goals (repeat' apply And.intro) <;> decide

theorem witness_MeasAndPowerCommandsAct :
    base.hears 64 (pk []) 3 false ∧ base.hears 64 (pk [0xFFF]) 14 false ∧ base.hears 64 (pk []) 13 false ∧
    base.hears 64 (pk []) 2 false ∧ base.hears 3 (pk [3, 1, 2, 3]) 0 false ∧
    (∃ b : Block, b.hears 64 (pk [0x7FF]) 14 false ∧ tget none b.meas.table (2 * 2047) = some (1, 2047, [])) ∧
    (base.hears 3 (pk [0x10000]) 0 true ∧ 1 ≤ fld (0x10000#32) 16 16) ∧
    (base.hears 3 (pk [0x27100003]) 0 true ∧ fld (0x27100003#32) 16 16 ≤ 10000) ∧ base.hears 64 (pk []) 4 false ∧
    (base.hears 64 (pk [1]) 0 false ∧ fld (1#32) 0 2 ≠ 0) :=
  ⟨by decide, by decide, by decide, by decide, by decide,
    ⟨{ base with meas := { table := [(4094, some (1, 2047, []))] } }, by decide⟩, by (repeat' apply And.intro) <;> decide⟩

/-! ### Witnesses for the statements about registers -/

/-- A register access of source `n` with this data and these strobes. -/
def rq (n : Fin 65) (d : Word) (s : BitVec 4) : RtReq := { src := n, data := d, strb := s, id := 1 }

/-- An access of source `n` at a byte offset. -/
def at' (n : Fin 128) (a : BitVec 19) (d : Word) : Acc := { src := n, addr := a, data := d, strb := 15, id := 1 }

theorem witness_CommandPortWritesAct :
    base.admits 3 ∧ ((base.tenant 3).resetting = false ∧ (base.port 3).ignore = 0 ∧ (base.port 3).hdr = none) ∧
    (∃ b : Block, b.admits 3 ∧ (b.tenant 3).resetting = true) ∧
    (∃ b : Block, b.admits 3 ∧ (b.tenant 3).resetting = false ∧ 0 < (b.port 3).ignore) ∧
    (∃ (b : Block) (h : Word), b.admits 3 ∧ (b.tenant 3).resetting = false ∧ (b.port 3).ignore = 0 ∧ (b.port 3).hdr = some h ∧
      (b.port 3).words.length + 1 < hdrLen h) ∧
    (∃ (b : Block) (h : Word), b.admits 3 ∧ (b.tenant 3).resetting = false ∧ (b.port 3).ignore = 0 ∧ (b.port 3).hdr = some h ∧
      (b.port 3).words.length + 1 = hdrLen h) :=
  ⟨by decide, by decide, ⟨{ base with tenants := [(3, { resetting := true })] }, by decide⟩,
    ⟨{ base with ports := [(3, { ignore := 255 })] }, by decide⟩,
    ⟨{ base with ports := [(3, { hdr := some 0x00020000 })] }, 0x00020000, by decide⟩,
    ⟨{ base with ports := [(3, { hdr := some 0x00010000 })] }, 0x00010000, by decide⟩⟩

/-- A block whose port 3 holds one response of two words, of which `rd` have been read. -/
def answered (rd : Nat) : Block := { base with ports := [(3, { ring := [{ start := 0, words := [7, 8] }], wr := 8, rd := rd })] }

/-- A block in which a read of `RSP_DATA` by tenant 3 has been parked since `gt` 0, with a stall limit of 0. -/
def parked : Block := { base with ports := [(3, { stallNs := 0, parked := [(false, at' 3 0x3010 0, 0)] })] }

theorem witness_ResponsePortActs :
    ((answered 1).admits 3 ∧ 0 < ((answered 1).port 3).readable) ∧
    (base.admits 3 ∧ (base.port 3).readable = 0 ∧ 0 < (base.port 3).stallNs ∧ (base.tenant 3).resetting = false) ∧
    (∃ b : Block, b.admits 3 ∧ (b.port 3).readable = 0 ∧ (b.port 3).stallNs = 0) ∧
    (∃ b : Block, b.admits 3 ∧ (b.tenant 3).resetting = true) ∧
    ((parked.port 3).parked = [(false, at' 3 0x3010 0, 0)] ∧ isRspRead (false, at' 3 0x3010 0, 0) = true ∧
      0 + (parked.port 3).stallNs * 256 ≤ parked.gt) :=
  ⟨by decide, by decide, ⟨{ base with ports := [(3, { stallNs := 0 })] }, by decide⟩,
    ⟨{ base with tenants := [(3, { resetting := true })] }, by decide⟩, by decide⟩

/-- A block whose channel 15 is `x`. -/
def chan15 (x : Channel) : Block := { base with sparge := { chans := [(15, x)], winOn := true, inP := [64], allow := [(64, 64)] } }

theorem witness_InterruptAndChannelRegistersAct :
    (base.admits 3 ∧ base.running = true ∧ (base.tenant 3).resetting = false ∧
      ∀ c, c < 16 → (base.chan c).page = none ∧ (base.chan c).lagging = []) ∧
    (∃ b : Block, b.admits 3 ∧ (b.tenant 3).resetting = true) ∧ base.admits 64 ∧
    (∃ (b : Block) (x : Channel), x = b.chan 15 ∧ b.admits 64 ∧ x.starved = true ∧ x.st = .running ∧ x.enable = true ∧
      x.stop = .none ∧ x.target = 0 ∧ x.desc = none ∧ x.descRead = false ∧ x.idxRead = false ∧ x.flight = [] ∧
      b.canSpend x.owner 64 = true ∧ b.noDrain ∧ b.power.goal ≠ .off) ∧
    (base.admits 64 ∧ (base.chan 15).starved = false) ∧
    ((base.chan 15).st = .disabled ∧ (base.chan 15).stop = .none ∧ bit (1#4) 0 = true) ∧
    (∃ (b : Block) (x : Channel), x = b.chan 15 ∧ b.admits 64 ∧ x.st = .running ∧ x.stop = .none ∧ x.flight = [] ∧
      x.page = none ∧ x.lagging = [] ∧ x.desc = none ∧ x.descRead = false ∧ x.idxRead = false) ∧
    (∃ (b : Block) (x : Channel), x = b.chan 15 ∧ b.admits 64 ∧ x.st = .halted ∧ x.stop = .none ∧ x.flight = [] ∧
      x.page = none ∧ x.lagging = [] ∧ x.desc = none ∧ x.descRead = false ∧ x.idxRead = false ∧ b.errNow x = false) :=
  ⟨by decide, ⟨{ base with tenants := [(3, { resetting := true })] }, by decide⟩, by decide,
    ⟨chan15 { st := .running, enable := true, starved := true }, _, rfl, by decide⟩, by decide, by decide,
    ⟨chan15 { st := .running, enable := true }, _, rfl, by decide⟩, ⟨chan15 { st := .halted, enable := true }, _, rfl, by decide⟩⟩

theorem witness_CounterAndPlainRegistersAct :
    base.admits 64 ∧ accOff (at' 64 0x40107 0) = 0x40104 ∧ accOff (at' 64 0x40114 0) = 0x40114 ∧
    accOff (at' 64 0x66008 0) = 0x66008 ∧ accOff (at' 64 0x60030 0) = 0x60030 ∧ accOff (at' 64 0x65030 0) = 0x60030 + 0x1000 * 5 ∧
    accOff (at' 64 0x50010 0) = chanAddr 0 0x010 ∧ accOff (at' 64 0x53C10 0) = chanAddr 15 0x010 ∧
    accOff (at' 64 0x50008 0) = chanAddr 0 0x008 ∧ accOff (at' 64 0x53C0C 0) = chanAddr 15 0x00C ∧
    accOff (at' 64 0x50020 0) = chanAddr 0 0x020 ∧ accOff (at' 64 0x53C24 0) = chanAddr 15 0x024 ∧
    accOff (at' 64 0x50028 0) = chanAddr 0 0x028 ∧ accOff (at' 64 0x53C2C 0) = chanAddr 15 0x02C ∧
    (base.admits 3 ∧ accOff (at' 3 0x3004 0) = ownBase 3 + 0x004 ∧ accOff (at' 3 0x3014 0) = ownBase 3 + 0x014) ∧
    accOff (at' 64 0x40004 0) = ownBase 64 + 0x004 ∧ accOff (at' 64 0x40014 0) = ownBase 64 + 0x014 ∧ regAt (accOff (at' 64 0x54000 0)) = none := by decide

theorem witness_RegisterAccessesAct :
    (base.admits 64 ∧ bit (1#4) 0 = true) ∧
    (regAt (accOff (at' 64 0x50030 0)) = some (.chan 0 0x030) ∧ Reg.allowed (.chan 0 0x030) 64 false = true ∧
      splitRest (accOff (at' 64 0x50030 0)) ≠ []) ∧
    (regAt (accOff (at' 3 0x3040 0)) = some (.fn 3 0x040) ∧ Reg.allowed (.fn 3 0x040) 3 false = true ∧
      splitRest (accOff (at' 3 0x3040 0)) = [] ∧ base.admits 3 ∧
      accOff (at' 3 0x3040 0) ∉ splitRest (tget (0, []) base.lo 3).1) ∧
    (∃ b : Block, b.admits 64 ∧ tget (0, []) b.lo 64 = (0x50030, [9]) ∧ accOff (at' 64 0x50034 0) = 0x50030 + 4 ∧
      accOff (at' 64 0x50034 0) ∈ splitRest 0x50030 ∧ regAt (accOff (at' 64 0x50034 0)) = some (.chan 0 0x034)) ∧
    (accOutside (at' 3 0x4000 0) true = true ∧ base.admits 3 ∧ (base.tenant 64).resetting = false) ∧
    (accOutside (at' 3 0x40100 0) false = true) ∧ (accOutside (at' 127 0x0 0) false = true ∧ base.admits 127) ∧
    (∃ b : Block, b.frontHolds = true ∧ b.power.st = .nap ∧ b.power.goal ≠ .off ∧ b.power.quiesce = false ∧ b.outstanding 3 < 4) ∧
    (∃ b : Block, b.frontHolds = true ∧ b.power.st = .run ∧ b.power.quiesce = false ∧ b.outstanding 3 < 4) :=
  ⟨by decide, by decide, by decide, ⟨{ base with lo := [(64, (0x50030, [9]))] }, by decide⟩, by decide, by decide, by decide,
    ⟨{ base with power := { up with st := .nap, goal := .nap } }, by decide⟩, ⟨{ base with power := { up with phase := 1 } }, by decide⟩⟩

/-! ### Witnesses for the statements about taps -/

/-- An entry of a chain. -/
def item : Entry := { cls := clsS, delta := 0, pay := 0, ctx := 0 }

/-- An enabled tap. -/
def onTap : Tap := { en := true }

/-- A block whose tap 2047 is `x`. -/
def tap' (x : Tap) : Block := { base with taps := [(2047, x)] }

/-- Tap 2047, which was `x`, after `c` cycles. -/
def passed (c : Nat) (x : Tap) : Tap := ((tap' x).passTap 2047 c).tap 2047

theorem witness_ItemsEnterTheChain :
    (passed 5 {}).writes = false ∧ (passed 0 { onTap with engUsed := true }).engUsed = true ∧
    ((passed 5 onTap).writes = true ∧ (passed 5 onTap).engUsed = false ∧ (passed 5 onTap).judge clsA 0 = .refusedA) ∧
    ((passed 5 { onTap with slotUsed := true, engUsed := true }).engUsed = false ∧
      (passed 5 { onTap with slotUsed := true, engUsed := true }).slotFree) ∧
    (passed 5 onTap).judge clsO 0 = .bad ∧
    ((passed 4095 onTap).judge clsS 0 = .item 0 ∧ (passed 4095 onTap).since ≤ 4095 ∧ (passed 4095 onTap).chain.length < 32) ∧
    (passed 5 { onTap with chain := List.replicate 32 item }).chain.length = 32 ∧
    (4095 < (passed 4096 onTap).since ∧ (passed 4096 { onTap with chain := List.replicate 30 item }).chain.length < 31) ∧
    (∃ q, (passed 5 onTap).judge clsE (pay (2 * 2 ^ 44)) = .itemBad q) ∧
    (passed 0 { onTap with slotUsed := true }).slotUsed = true ∧
    (∃ (x : Tap) (new old : Nat), (passed 0 x).chain.length = 31 ∧ (passed 0 x).slotFree ∧ (passed 0 x).pClk = some (new, old)) ∧
    (∃ (x : Tap) (a : Bool × Bool × Bool), (passed 0 x).slotFree ∧ (passed 0 x).pClk = none ∧ (passed 0 x).pUp = some a ∧
      (passed 0 x).chain.length < 32) ∧
    (∃ (x : Tap) (pwr : Nat), (passed 0 x).slotFree ∧ (passed 0 x).pClk = none ∧ (passed 0 x).pUp = none ∧
      (passed 0 x).pDown = some pwr ∧ (passed 0 x).chain.length < 32) ∧
    (∃ (x : Tap) (a : Nat × Nat), (passed 0 x).slotFree ∧ (passed 0 x).pClk = none ∧ (passed 0 x).pUp = none ∧
      (passed 0 x).pDown = none ∧ (passed 0 x).pCtx = some a ∧ (passed 0 x).chain.length < 32) ∧
    (∃ (x : Tap) (a : Nat × Nat × Nat × Nat), (passed 15 x).slotFree ∧ (passed 15 x).pClk = none ∧ (passed 15 x).pUp = none ∧
      (passed 15 x).pDown = none ∧ (passed 15 x).pCtx = none ∧ (passed 15 x).pAnchor = some a) ∧
    (∃ (x : Tap) (k : Nat) (c : Counter), (passed 0 x).slotFree ∧ (passed 0 x).pClk = none ∧ (passed 0 x).pUp = none ∧
      (passed 0 x).pDown = none ∧ (passed 0 x).pCtx = none ∧ (passed 0 x).pAnchor = none ∧ (passed 0 x).dueC 0 = some (k, c)) ∧
    onTap.dueC 0 = none := by
  refine ⟨?_, ?_, ?_, ?_, ?_, ?_, ?_, ?_, ⟨padJudge (pay (2 * 2 ^ 44)), ?_⟩, ?_,
    ⟨{ onTap with pClk := some (2, 0), chain := List.replicate 31 item }, 2, 0, ?_⟩,
    ⟨{ onTap with pUp := some (true, false, false) }, (true, false, false), ?_⟩, ⟨{ onTap with pDown := some 15 }, 15, ?_⟩,
    ⟨{ onTap with pCtx := some (0, 4095) }, (0, 4095), ?_⟩, ⟨{ onTap with pAnchor := some (1, 63, 63, 0) }, (1, 63, 63, 15), ?_⟩,
    ⟨{ onTap with cnt := [(7, { pendC := true })] }, 7, { pendC := true }, ?_⟩, ?_⟩ <;> (repeat' apply And.intro) <;> decide

theorem witness_TapInputsAct :
    (((2 : BitVec 2) ≠ 3 ∧ (2 : BitVec 2).toNat ≠ (passed 5 onTap).clk ∧ (passed 5 onTap).writes = true ∧
      ((tap' onTap).passToChange 2047 5 2).tap 2047 = passed 5 onTap ∧ (passed 5 onTap).wakeFirst = false ∧
      (passed 5 onTap).chain.length < 32 ∧ onTap.chain.length < 31 ∧ (tap' onTap).running = true) ∧
      (0 : BitVec 2).toNat = (passed 5 onTap).clk ∧ (passed 5 {}).writes = false ∧
      (passed 0 { onTap with engUsed := true }).engUsed = true) ∧
    (∃ x : Tap, (passed 0 x).writes = true ∧ (passed 0 x).slotUsed = false ∧ (passed 0 x).engUsed = false ∧
      (passed 0 x).pUp = some (false, true, true) ∧ (passed 0 x).pClk = none ∧ (passed 0 x).chain.length < 32 ∧
      (passed 0 x).clk ≠ (1 : BitVec 2).toNat) ∧
    (∃ (x : Tap) (v : Tap), v = ((tap' x).passToChange 2047 1 1).tap 2047 ∧ v.pClk = some (2, 0) ∧ v.markFrom 1 = 0 ∧
      v.writes = true ∧ v.wakeFirst = false ∧ v.clk ≠ 1) ∧
    (Tap.advance {} 5).strobes = [] ∧
    ((({ onTap with strobes := [(1, 0)] } : Tap).advance 5).strobes = [(1, 0)] ∧ (tap' onTap).tapStopped 2047 = false) ∧
    (Tap.advance {} 5).cfg = [] ∧ (({ cfg := [.aEnable true] } : Tap).advance 5).cfg = [.aEnable true] ∧
    (({ cfg := [.desc 7 1 2] } : Tap).advance 5).cfg = [.desc 7 1 2] := by
  refine ⟨?_, ⟨{ onTap with pUp := some (false, true, true) }, ?_⟩, ⟨{ onTap with pClk := some (2, 0), clk := 2 }, _, rfl, ?_⟩, ?_⟩ <;>
    (repeat' apply And.intro) <;> decide

theorem witness_TapDrainsAndRestarts :
    (∃ u : Tap, u.drainReq = true ∧ u.drainAck = false ∧ u.chain = [] ∧ u.pDown = none) ∧
    (∃ u : Tap, u.drainReq = true ∧ u.drainAck = false ∧ u.chain ≠ [] ∧ (u.advance 255).drainCyc = 256 ∧ u.abandoned = true ∧
      ((tap' u).view 2047).loss = none) ∧
    (∃ u : Tap, u.drainReq = true ∧ u.drainAck = false ∧ u.chain = [] ∧ u.pDown = none ∧ u.w = true ∧ u.tapLost = 65535) ∧
    (∃ b : Block, ((b.tap 2047).advance 5).en = false ∧ b.enableWanted 2047 = true) ∧
    (((tap' onTap).tap 2047).en = true ∧ (tap' onTap).enableWanted 2047 = false) :=
  ⟨⟨{ drainReq := true }, by decide⟩, ⟨{ drainReq := true, drainCyc := 1, abandoned := true, chain := [item] }, by decide⟩,
    ⟨{ drainReq := true, w := true, tapLost := 65535 }, by decide⟩,
    ⟨tap' { use := true }, by decide⟩, by decide⟩

/-- A block in which a freeze of ID 9 has its strobe on the way to tap 2047, which is `x`. -/
def strobed' (x : Tap) : Block :=
  { tap' { x with en := true, frStrobe := some (9, true) } with
    freezes := [(0, { st := .latched, id := 9, begun := true, taps := [(2047, { strobed := true })] })] }

theorem witness_TapLatchesAndTakesBeats :
    ((((strobed' {}).tap 2047).advance 5).frStrobe = some (9, true) ∧ (strobed' {}).tapStopped 2047 = false ∧
      (strobed' {}).slotOf 9 = some 0 ∧ ((strobed' {}).freezeSlot 0).tap? 2047 = some { strobed := true } ∧
      ((strobed' {}).tap 2047).drainAck = false ∧ ((strobed' {}).tap 2047).latch = none ∧
      (((strobed' {}).tap 2047).advance 5).frLater = []) ∧
    ((strobed' { drainAck := true }).tap 2047).drainAck = true ∧
    (∃ (x : Tap) (l : Latch), ((strobed' x).tap 2047).latch = some l ∧ l.freezeId = 9 ∧ l.cntLost = true) ∧
    (((strobed' { latch := some { freezeId := 1, vals := [], ofs := 0 } }).tap 2047).latch ≠ none) ∧
    base.portFeeds 2047 = false ∧
    (∃ b : Block, b.portFeeds 2047 = true ∧ bit (b.binding 2047) 5 = true ∧ (b.tap 2047).asy.length < 4) ∧
    ((bound 4).portFeeds 3 = true ∧ bit ((bound 4).binding 3) 5 = false ∧
      ((bound 4).tap 3).asyDrop = false ∧ ((bound 4).tap 3).asy.length < 4) ∧
    (∃ b : Block, b.portFeeds 3 = true ∧ bit (b.binding 3) 5 = false ∧ (b.tap 3).asyDrop = true) := by
  refine ⟨?_, by decide, ⟨{ latch := some { freezeId := 9, vals := [], ofs := 0, cntLost := true } }, _, rfl, by decide⟩, by decide, by decide,
    ⟨{ base with assay := { binding := [(2047, 0x20)] } }, by decide⟩, ?_,
    ⟨{ bound 4 with taps := [(3, { asyDrop := true })] }, by decide⟩⟩ <;> (repeat' apply And.intro) <;> decide

/-! ### Witnesses for the statements about stations -/

/-- The block `b` at the local time `g`, in 1/256 ns. -/
def when (g : Gt) (b : Block) : Block := { b with time := { b.time with tb := g * 2 ^ 24 } }

/-- A block with context 4095 for tenant 3 and an entry of class `c` with payload `p` at the head of tap 2047's chain. -/
def queued (c : Nat) (p : Payload) : Block :=
  { tap' { onTap with chain := [{ cls := c, delta := 4095, pay := p, ctx := 4095 }] } with ctxs := [(4095, 0x86FC0000#32)] }

theorem witness_StationTakesItems :
    ((queued clsS 0).running = true ∧ 2047 = 64 * (31 : Fin 32).val + (63 : Fin 64).val ∧
      ((queued clsS 0).tap 2047).chain = [{ cls := clsS, delta := 4095, pay := 0, ctx := 4095 }] ∧
      ((queued clsS 0).quad (quadOf 31)).syncQ.length < 256 ∧ ((queued clsS 0).tap 2047).tapLost = 0 ∧
      ((queued clsS 0).view 2047).mark = none ∧ ((queued clsS 0).station 31).mayTake 63 (queued clsS 0).gt = true) ∧
    (∃ b : Block, b.running = true ∧ (b.tap 2047).chain = [item] ∧ (b.station 31).mayTake 63 b.gt = false) ∧
    (∃ b : Block, b.running = true ∧ (b.tap 2047).chain = [item] ∧ (b.station 31).takeGt = some b.gt ∧
      (b.station 31).mayTake 63 b.gt = true) ∧
    (∃ b : Block, (b.station 31).taken = 8 ∧ (b.station 31).place (b.station 31).lastTap < (b.station 31).place 63 ∧
      (b.station 31).mayTake 63 b.gt = false) ∧
    (∃ b : Block, (b.station 31).takeGt = none ∧ (b.station 31).mayTake 63 b.gt = false) ∧
    (∃ b : Block, b.running = true ∧ (b.tap 2047).chain = [item] ∧ (b.tap 2047).tapLost ≠ 0 ∧ item.cls ≠ clsO ∧
      ctxValid (b.ctxEntry item.ctx) = false) ∧
    (ctxValid ((queued clsE 0).ctxEntry 4095) = true ∧ ctxTenantOf ((queued clsE 0).ctxEntry 4095) = 3 ∧
      (∀ i, i < 6 → (ctxClasses ((queued clsE 0).ctxEntry 4095)).testBit i = true) ∧
      classBit clsE = some 1 ∧ classBit clsS = some 2 ∧ classBit clsL = some 4 ∧ ((queued clsE 0).station 31).rules = [] ∧
      ((queued clsE 0).station 31).defExclude = [] ∧ ((queued clsE 0).station 31).seq.en = false) ∧
    (isTiming clsClock = true ∧ isTiming clsE = false ∧ ctxValid ((queued clsClock 0).ctxEntry 4095) = true) ∧
    (clsE ≠ clsA ∧ clsE ≠ clsC ∧ clsO ≠ clsA ∧ clsO ≠ clsC ∧ isTiming clsO = false ∧ fld (pay (2 ^ 18)) 18 2 ≠ 0 ∧
      ctxValid ((queued clsO (pay (2 ^ 18))).ctxEntry 4095) = true) ∧
    (∃ b : Block, b.running = true ∧ ((b.tap 2047).chain.map (fun e => (e.cls, e.ctx))) = [(clsA, 4095)] ∧
      ctxValid (b.ctxEntry 4095) = true ∧ ctxCapA (b.ctxEntry 4095) = true ∧ (b.station 31).rules = [] ∧
      (b.station 31).defExclude = [] ∧ (b.station 31).seq.en = false) ∧
    (∃ b : Block, b.running = true ∧ ((b.tap 2047).chain.map (fun e => (e.cls, e.ctx, payKind e.pay))) = [(clsC, 4095, 7)] ∧
      ctxValid (b.ctxEntry 4095) = true ∧ (tget {} (b.tap 2047).cnt 7).owner = 3 ∧ (b.station 31).rules = [] ∧
      (b.station 31).defExclude = [] ∧ (b.station 31).seq.en = false) :=
  ⟨by (repeat' apply And.intro) <;> decide,
    ⟨{ tap' { onTap with chain := [item] } with stations := [(31, { lastTap := 0, cycTap := 62, takeGt := some 0 })] }, by decide⟩,
    ⟨{ tap' { onTap with chain := [item] } with stations := [(31, { lastTap := 0, cycTap := 63, takeGt := some 0 })] }, by decide⟩,
    ⟨{ base with stations := [(31, { lastTap := 0, cycTap := 63, takeGt := some 0, taken := 8 })] }, by decide⟩,
    ⟨{ base with stations := [(31, { seq := { owner := 3 }, events := [{ source := 1, subsel := 5, field := 9, gt := 0, owner := 3 }] })] },
      by decide⟩,
    ⟨tap' { onTap with chain := [item], tapLost := 2 ^ 32 - 1 }, by decide⟩,
    by (repeat' apply And.intro) <;> decide, by decide, by (repeat' apply And.intro) <;> decide,
    ⟨{ queued clsA 0 with ctxs := [(4095, 0x87FC0000#32)] }, by decide⟩,
    ⟨{ queued clsC (pay (7 * 2 ^ 44)) with
        taps := [(2047, { (queued clsC (pay (7 * 2 ^ 44))).tap 2047 with cnt := [(7, { w0 := 6#32 })] })] }, by decide⟩⟩

theorem witness_StationsStrobe :
    (((when (us 1) (tap' onTap)).station 31).lastPeriod + us 1 ≤ (when (us 1) (tap' onTap)).gt ∧
      (when (us 1) (tap' onTap)).running = true ∧ (when (us 1) (tap' onTap)).able 2047 = true ∧ 2047 ∈ tapsOf 31) ∧
    ((when (us 1) base).running = true ∧ (when (us 1) base).able 2047 = false) ∧
    (∃ b : Block, b.running = true ∧ 4096 ≤ (b.station 0).unitsSince) ∧
    (∃ b : Block, b.running = true ∧ b.regionState 63 = 1 ∧ b.watches 31 63 = true ∧
      tget 0 (b.station 31).regionStrobe 63 + b.time.stretchPer * 160 ≤ b.gt ∧ b.regionOfTap 2047 = 63 ∧ b.able 2047 = true) ∧
    (∃ b : Block, b.running = true ∧ (b.tap 2047).anchorReq = true ∧ b.able 2047 = true) ∧
    ((2 : BitVec 2) ≠ 3 ∧ base.regionState 63 ≠ 2) ∧
    (∃ b : Block, (b.requestWake 2).running = false ∧ b.power.st ≠ .run ∧ b.power.st ≠ .off ∧ b.power.goal ≠ .off) ∧
    (∃ b : Block, b.running = false ∧ (b.requestWake 2).running = true) :=
  ⟨by (repeat' apply And.intro) <;> decide, by decide,
    ⟨{ base with stations := [(0, { lastPeriod := 1, unitsSince := 4096 })] }, by decide⟩,
    ⟨when 40960 { tap' onTap with regionOf := [(2047, 63)], time := { regions := [(63, 1)] } },
      by (repeat' apply And.intro) <;> decide⟩,
    ⟨tap' { onTap with anchorReq := true }, by decide⟩, by decide,
    ⟨{ base with power := { up with st := .nap, goal := .nap } }, by decide⟩,
    ⟨{ base with power := { up with goal := .kiln } }, by decide⟩⟩

/-- A sequencer of tenant 3 whose comparator 7 looks for `src` and starts it. -/
def seqOf (src : Nat) (mode : Nat) : Sequencer :=
  { owner := 3, en := true, startMask := 128
    comps := [(7, { w := [w32 (1 + 4 * mode + 16 * src + 4096 * 5), 0, 0, 0, 0, 0] })] }

/-- A block whose station 31 has the sequencer `q` and an event of source `src` waiting. -/
def waiting (q : Sequencer) (src : Nat) : Block :=
  { base with stations := [(31, { seq := q, events := [{ source := src, subsel := 5, field := 9, gt := 0, owner := 3 }] })] }

theorem witness_EventsReachComparators :
    (let q := seqOf 4 0
     let r := q.update { source := 4, subsel := 5, field := 9 }
     (waiting q 4).running = true ∧ ((waiting q 4).station 31).nextEvent 4 (waiting q 4).gt =
       some { source := 4, subsel := 5, field := 9, gt := 0, owner := 3 } ∧ q.en = true ∧ q.owner = 3 ∧
       r.2.choose r.1 = .start) ∧
    (let q := seqOf 1 0
     let r := q.update { source := 4, subsel := 5, field := 9 }
     q.en = true ∧ q.owner = 3 ∧ r.2.choose r.1 = .none) ∧
    (({} : Sequencer).en = false) ∧
    (let q := seqOf 1 0
     let r := q.update { source := 1, subsel := 6, field := 9 }
     ((waiting q 1).station 31).nextEvent 1 (waiting q 1).gt =
       some { source := 1, subsel := 5, field := 9, gt := 0, owner := 3 } ∧ r.2.choose r.1 = .none) ∧
    (let q := seqOf 5 2
     let c : Comp := tget {} q.comps 7
     let c' := { c with once := true }
     let q' := { q with comps := tset {} q.comps 7 c' }
     c.timerDue base.gt = true ∧ c' = { c with once := true, latched := c.latched || c.latchOn } ∧
       q'.choose (q'.latchedMask ||| 2 ^ 7) = .start) ∧
    (let q := { seqOf 5 2 with startMask := 1 }
     let c : Comp := tget {} q.comps 7
     let q' := { q with comps := tset {} q.comps 7 { c with once := true } }
     c.timerDue base.gt = true ∧ q'.choose (q'.latchedMask ||| 2 ^ 7) = .none) := by
  refine ⟨?_, ?_, ?_, ?_, ?_, ?_⟩ <;> (repeat' apply And.intro) <;> decide

/-! ### Witnesses for the statements about the cask and the sync watch -/

/-- A unit of tenant 3. -/
def unit3 (epoch : Nat) : WUnit :=
  { kind := 2, interest := 3, owner := 3, tagEpoch := epoch, source := 0, seqNo := 0, body := [1] }

/-- A record of tenant 3 from the source `src`, with `n` bytes. -/
def rec3 (src n : Nat) : Rec :=
  { source := src, rtype := 0, owner := 3, interest := 3, epoch := 0, fmt2 := false, bytes := List.replicate n 0 }

/-- A block in which tenant 3 has an open page at interest 3 in page 8191. -/
def paged : Block := { base with
  tenants := [(3, { mode := 2 })]
  cask := { pages := [(8191, { st := .openP, owner := 3, interest := 3, slots := [[0], [0]] })] } }

theorem witness_RecordsReachTheCask :
    (∃ b : Block, b.running = true ∧ 4 ≤ b.power.phase ∧ (b.quad 3).recIn = [unit3 1] ∧ (∀ l, l < 8 → (b.station (8 * 3 + l)).uq = []) ∧
      (unit3 1).tagEpoch ≠ b.epochOf 3) ∧
    (∃ b : Block, b.running = true ∧ 4 ≤ b.power.phase ∧ (b.quad 3).recIn = [unit3 0] ∧ (unit3 0).tagEpoch = b.epochOf 3 ∧
      b.openPage 3 3 = some 8191 ∧ (b.page 8191).ver2 = (unit3 0).fmt2) ∧
    (∃ b : Block, b.running = true ∧ 4 ≤ b.power.phase ∧ (b.quad 3).recIn = [] ∧ (b.station (8 * 3 + 7)).uq = [unit3 0] ∧
      (∀ m, m < 8 → m ≠ 7 → (b.station (8 * 3 + m)).uq = []) ∧ 0 < (b.quad 3).creditOf 3) ∧
    (∃ b : Block, b.recs.find? (fun r => r.source == 16) = some (rec3 16 1) ∧
      (b.quad (recQuad 16)).roomFor (rec3 16 1) = true) ∧
    (∃ b : Block, b.recs.find? (fun r => r.source == 16) = some (rec3 16 1) ∧
      (b.quad (recQuad 16)).roomFor (rec3 16 1) = false) ∧
    (∃ b : Block, (b.quad 3).recTail = [unit3 0] ∧ (b.quad 3).recIn.length < 64) ∧
    ((when (us 100) paged).openPage 3 3 = some 8191 ∧ ((when (us 100) paged).tenant 3).mode = 2 ∧
      ((when (us 100) paged).page 8191).lastUnit + us ((when (us 100) paged).tenant 3).flushUs ≤ (when (us 100) paged).gt) ∧
    ((paged.page (16 * 511 + 15)).st ≠ .free ∧ (paged.page (16 * 511 + 15)).st ≠ .fenced ∧
      1 < (paged.page (16 * 511 + 15)).slots.length ∧ paged.cask.fence.contains 511 = false ∧
      paged.cask.patrolPos ≤ 64 * (16 * 511 + 15) + 1) ∧
    (∃ b : Block, b.running = true ∧ b.gt < b.cask.patrolGt + ms b.cask.patrolMs ∧ 64 * (16 * 511 + 15) + 1 < b.cask.patrolPos ∧
      (b.page (16 * 511 + 15)).st ≠ .free ∧ (b.page (16 * 511 + 15)).st ≠ .fenced) ∧
    (∃ b : Block, b.running = true ∧ b.cask.patrolGt + ms b.cask.patrolMs ≤ b.gt ∧ 64 * (16 * 511 + 15) + 1 < b.cask.patrolPos ∧
      (b.page (16 * 511 + 15)).st ≠ .free ∧ (b.page (16 * 511 + 15)).st ≠ .fenced) :=
  ⟨⟨{ base with quads := [(3, { recIn := [unit3 1] })] }, by (repeat' apply And.intro) <;> decide⟩,
    ⟨{ paged with quads := [(3, { recIn := [unit3 0] })] }, by (repeat' apply And.intro) <;> decide⟩,
    ⟨{ base with
        stations := [(31, { uq := [unit3 0] })]
        quads := [(3, { credit := [(3, 1)] })] }, by (repeat' apply And.intro) <;> decide⟩,
    ⟨{ base with recs := [rec3 17 1, rec3 16 1] }, by decide⟩,
    ⟨{ base with
        recs := [rec3 16 1]
        quads := [(recQuad 16, { recIn := List.replicate 64 (unit3 0) })] }, by decide +kernel⟩,
    ⟨{ base with quads := [(3, { recTail := [unit3 0], recIn := List.replicate 63 (unit3 0) })] }, by decide +kernel⟩,
    by (repeat' apply And.intro) <;> decide, by (repeat' apply And.intro) <;> decide,
    ⟨{ paged with cask := { paged.cask with patrolPos := 64 * 8192 } }, by (repeat' apply And.intro) <;> decide⟩,
    ⟨when (ms 60000) { paged with cask := { paged.cask with patrolPos := 64 * 8192 } }, by (repeat' apply And.intro) <;> decide⟩⟩

/-- The payload of an S item of this kind on object 16383 with the value `v`. -/
def sPay (kind v : Nat) : Payload := pay (kind * 2 ^ 44 + 16383 * 2 ^ 30 + v)

/-- A block whose object 16383 is `o`, with an S item of tap 2047 in sync queue 3, and with this wait of the tap. -/
def synced (kind v : Nat) (o : Obj) (w : TapWait) : Block := { base with
  sync := { objs := [(16383, o)], waits := [(2047, w)] }
  quads := [(3, { syncQ := [{ tap := 2047, gt := 9, pay := sPay kind v, tenant := none }] })] }

theorem witness_SyncItemsAct :
    (let b := synced 2 (2 ^ 24 - 1) {} {}
     b.running = true ∧ (b.quad 3).syncQ = [{ tap := 2047, gt := 9, pay := sPay 2 (2 ^ 24 - 1), tenant := none }] ∧
       fld (sPay 2 (2 ^ 24 - 1)) 30 14 = 16383 ∧ fld (sPay 2 (2 ^ 24 - 1)) 0 24 = 2 ^ 24 - 1 ∧
       payKind (sPay 2 (2 ^ 24 - 1)) = 2 ∧ ((b.obj 16383).used none).kind ≠ 2) ∧
    (((synced 2 0 { kind := 2 } {}).obj 16383).used none).kind = 2 ∧
    (let o := ((synced 3 0 { kind := 2, count := 4095 * 4096 + 4094 } {}).obj 16383).used none
     payKind (sPay 3 0) = 3 ∧ o.kind = 2 ∧ o.count / 4096 ≠ 0 ∧ (o.count % 4096 + 1) % 4096 = o.count / 4096 ∧
       o.sigDecl = false) ∧
    (let o := ((synced 3 0 { kind := 2, count := 4095 } {}).obj 16383).used none
     o.kind = 2 ∧ o.count / 4096 = 0) ∧
    (payKind (sPay 0 1) = 0 ∧ ((synced 0 1 {} {}).wait 2047).valid = false) ∧
    (payKind (sPay 1 1) = 1 ∧ ((synced 1 1 { waits := 2048 } { obj := 16383, valid := true }).wait 2047).valid = true ∧
      ((synced 1 1 { waits := 2048 } { obj := 16383, valid := true }).wait 2047).obj = 16383) ∧
    ((synced 1 1 {} { obj := 5, valid := true }).wait 2047).obj ≠ 16383 ∧
    (∃ b : Block, b.sync.waiting = true ∧ b.sync.npLimit ≠ 0 ∧ (b.view 2047).lossAfter.contains 1 = true) := by
  refine ⟨?_, ?_, ?_, ?_, ?_, ?_, ?_, ⟨{ synced 1 1 { waits := 2 } { obj := 16383, valid := true } with
    views := [(2047, { lossAfter := [1] })] }, ?_⟩⟩ <;> (repeat' apply And.intro) <;> decide

/-- The walk numbered 9 of an empty graph. -/
def walk9 : Walk := { seq := 9, gt := 0, epoch := 0, bound := 0, edges := [] }

theorem witness_KnotAndNoprogEventsAct :
    (base.running = true ∧ (base.obj base.sync.sweep).waits = 0) ∧
    (∃ b : Block, b.running = true ∧ b.sync.sweep = 16383 ∧ 0 < (b.obj 16383).waits ∧ (b.obj 16383).npReported = false ∧
      b.sync.npLimit ≠ 0 ∧ b.sync.npLimit ≤ b.objAge (b.obj 16383)) ∧
    (∃ b : Block, b.sync.npNext.getD b.gt = 0 ∧ 0 ≤ b.gt ∧ b.sync.npLimit ≠ 0 ∧ b.sync.waiting = true ∧
      b.power.st ≠ .run ∧ b.power.st ≠ .off ∧ b.power.goal ≠ .off) ∧
    (∃ b : Block, b.sync.npNext = none ∧ b.sync.npNext.getD b.gt = b.gt ∧ b.sync.npLimit ≠ 0 ∧ b.sync.waiting = true) ∧
    (let b := when (ms 10) base
     b.sync.knotMs ≠ 0 ∧ b.sync.lastWalk + ms b.sync.knotMs ≤ b.gt ∧ b.sync.walk = none ∧ b.running = true ∧ b.power.low = false) ∧
    (∃ b : Block, b.sync.knotMs ≠ 0 ∧ b.sync.lastWalk + ms b.sync.knotMs ≤ b.gt ∧ b.running = true ∧ b.power.low = true) ∧
    (∃ b : Block, b.sync.knotMs ≠ 0 ∧ b.sync.lastWalk + ms b.sync.knotMs ≤ b.gt ∧ b.running = false ∧ b.power.st ≠ .run ∧
      b.power.st ≠ .off ∧ b.power.goal ≠ .off) ∧
    (∃ b : Block, b.running = true ∧ b.power.low = false ∧ b.sync.walk = some walk9 ∧ (b.confirmed walk9).1 = [] ∧ b.sync.walkAgain = false) := by
  refine ⟨by (repeat' apply And.intro) <;> decide, ⟨when (610 * 16384 * 256)
    { base with sync := { sweep := 16383, objs := [(16383, { waits := 1 })] } }, ?_⟩,
    ⟨{ base with
        power := { up with st := .nap, goal := .nap }
        sync := { npNext := some 0, objs := [(16383, { waits := 2048 })] } }, by decide⟩,
    ⟨{ base with sync := { objs := [(16383, { waits := 2048 })] } }, by decide⟩, by (repeat' apply And.intro) <;> decide,
    ⟨when (ms 10) { base with power := { up with low := true } }, by decide⟩,
    ⟨{ base with
        power := { up with st := .kiln, goal := .kiln }
        time := { aonGt := ms 10 } }, by decide⟩,
    ⟨{ base with sync := { walk := some walk9 } }, ?_⟩⟩ <;> (repeat' apply And.intro) <;> decide

theorem witness_WalksAndSnapshotsRun_capture :
    (∃ b : Block, b.running = true ∧ b.sync.snap.st = .capturing ∧ b.sync.snap.t = some 0 ∧ 0 ≤ b.gt) ∧
    (∃ b : Block, b.running = true ∧ b.sync.snap.st = .capturing ∧ b.sync.snap.t = none ∧ (b.tenant 64).resetting = false) :=
  ⟨⟨{ base with sync := { snap := { st := .capturing, t := some 0 } } }, by decide⟩,
    ⟨{ base with sync := { snap := { st := .capturing } } }, by decide⟩⟩

/-! ### Witnesses for the statements about the Mash array and the Assay units -/

/-- A window that opened at 0. -/
def win0 : Window := { openGt := 0, firstGt := 0, iterFirst := 0, iterLast := 0 }

/-- A block whose loop slot 15 is `x`, with these tokens. -/
def slot15 (x : LoopSlot) (tokens : Nat) : Block := { base with mash := { slots := [(15, x)], tokens := tokens } }

/-- A finished scan of slot 15. -/
def scan15 : Scan := { slot := 15, win := win0, closeGt := 256, rows := [], steps := 0, started := some 0, done := true }

theorem witness_LoopWindowEventsAct :
    (let x : LoopSlot := { w := [0x2005#32, 0, 0, 20000, 20000], nextOpen := some 0 }
     let b := slot15 x 16
     b.slot 15 = x ∧ b.running = true ∧ x.en = true ∧ x.wsrc = true ∧ x.win = none ∧ 0 ≤ b.gt) ∧
    (let x : LoopSlot := { w := [0x2005#32, 0, 0, 20000, 20000], win := some win0 }
     let b := when (20000 * 256) (slot15 x 1)
     b.slot 15 = x ∧ b.running = true ∧ win0.openGt + x.periodNs * 256 ≤ b.gt ∧ 0 < b.mash.tokens ∧
       x.minNs * 256 ≤ win0.openGt + x.periodNs * 256 - win0.firstGt) ∧
    (let x : LoopSlot := { w := [0x2005#32, 0, 0, 20000, 20001], win := some win0 }
     let b := when (20000 * 256) (slot15 x 0)
     b.slot 15 = x ∧ b.mash.tokens = 0 ∧ x.token = false ∧ win0.openGt + x.periodNs * 256 - win0.firstGt < x.minNs * 256) ∧
    (let b := when (2 ^ 25 * 320) (slot15 { win := some win0 } 1)
     b.running = true ∧ (b.slot 15).win = some win0 ∧ win0.firstGt + 2 ^ 25 * 320 ≤ b.gt ∧ (b.slot 15).wsrc = false) ∧
    (let x : LoopSlot := { w := [0x2005#32, 0, 0, 20000, 20000], win := some win0, token := true }
     let b := when (2 ^ 25 * 320) (slot15 x 0)
     b.slot 15 = x ∧ b.mash.tokens = 0 ∧ x.token = true ∧ x.win = some win0 ∧ win0.openGt + x.periodNs * 256 ≤ b.gt ∧
       x.minNs * 256 ≤ win0.openGt + x.periodNs * 256 - win0.firstGt) ∧
    (let b := when (2 ^ 25 * 320) (slot15 { win := some win0 } 0)
     b.running = true ∧ (b.slot 15).win = some win0 ∧ b.mash.tokens = 0 ∧ (b.slot 15).token = false) ∧
    (let b := when (us 20) base
     b.mash.tokenGt + us 20 ≤ b.gt ∧ b.deferredCloses = []) ∧
    (let x : LoopSlot := { win := some win0, waitGt := some 7, deferred := some (9, true, false) }
     let b := when (us 20) (slot15 x 0)
     b.slot 15 = x ∧ b.mash.tokenGt + us 20 ≤ b.gt ∧ b.deferredCloses = [(7, 15)] ∧ x.overDue = false) ∧
    (let b := when (us 1) (slot15 { w := [0x2009#32, 0, 0, 0, 20000], dlPend := [0] } 16)
     b.stations = [] ∧ (b.tenant (b.slot 15).owner).resetting = false ∧ (b.slot 15).dlInt = true ∧
       (b.slot 15).dlPend.find? (fun d => decide (d + us 1 ≤ b.gt)) = some 0 ∧ (b.slot 15).win = none) ∧
    (∃ b : Block, (b.slot 15).dlPend.find? (fun d => decide (d + us 1 ≤ b.gt)) = some 0 ∧ (b.slot 15).win ≠ none ∧
      b.power.st ≠ .run ∧ b.power.st ≠ .off ∧ b.power.goal ≠ .off) ∧
    (let b := when (us 1) (slot15 { win := some { win0 with deadline := some 0 } } 16)
     (b.slot 15).dlPend = [] ∧ (b.slot 15).win = some { win0 with deadline := some 0 } ∧ win0.inIter = true ∧
       win0.decided = false ∧ 0 + us 1 ≤ b.gt) ∧
    (∃ (b : Block) (r : Rec), b.running = true ∧ b.mash.scans.find? (fun z => z.done) = some scan15 ∧
      (b.slot scan15.slot).opCopy = false ∧ (b.slot scan15.slot).owner = 64 ∧
      r = b.mkRec 16 0 64 (b.slot scan15.slot).interest (b.loopRecord scan15 none false) ∧ (b.quad 0).roomFor r = true) := by
  refine ⟨?_, ?_, ?_, ?_, ?_, ?_, ?_, ?_, ?_,
    ⟨{ when 0 (slot15 { win := some win0, dlPend := [0] } 16) with
        power := { up with st := .nap, goal := .nap }
        time := { aonGt := us 1 } }, ?_⟩, ?_, ⟨{ base with mash := { scans := [scan15] } }, _, ?_, ?_, ?_, ?_, rfl, ?_⟩⟩ <;>
    (repeat' apply And.intro) <;> decide +kernel

/-- A scan that has not started. -/
def fresh : Scan := { slot := 15, win := win0, closeGt := 256, rows := [(127, 1)], banks := [(127, 1)], steps := 0 }

/-- A step of 9 ticks to row 127 in bank 1. -/
def step127 : Step := { rows := [(127, 1, 3)], cause := 132, ticks := 9 }

theorem witness_MashStepsAndScansAct :
    (∃ b : Block, b.running = true ∧ b.mash.stepQ = [step127] ∧ (b.slot (aLoop (b.agent 127))).int8 = false ∧ b.sel 127 = 1) ∧
    (∃ b : Block, b.running = true ∧ b.mash.stepQ = [step127] ∧ (b.slot (aLoop (b.agent 127))).int8 = true ∧ b.sel 127 ≠ 1 ∧
      b.mash.scans = [{ fresh with started := some 0, read := 127 }] ∧
      (∀ x, x ∈ b.mash.scans → x.readTo b.gt ≤ x.read ∧ x.bankOf 127 = 1 ∧ x.done = false)) ∧
    (∃ b : Block, b.running = true ∧ b.mash.stepQ = [step127] ∧ b.sel 127 ≠ 1 ∧
      b.mash.scans = [{ fresh with started := some 0, read := 128 }] ∧ (∀ x, x ∈ b.mash.scans → x.readTo b.gt ≤ x.read) ∧
      (b.slot (aLoop (b.agent 127))).win = some win0) ∧
    (∃ (b : Block) (g : Seg) (l : List (Gt × Step)), b.running = true ∧ b.mash.stepFull = true ∧ b.mash.segs = [(2047, g)] ∧
      g.live = true ∧ l = mergeParts [] (b.partsOf 2047 { g with cause := (b.resolve 2047).code, coarse := true } b.gt) ∧
      b.mash.stepQ.length + l.length ≤ 1024) ∧
    (∃ b : Block, b.running = true ∧ b.mash.stepFull = true ∧ b.mash.stepQ.length = 1023) ∧
    (∃ b : Block, b.running = true ∧ b.mash.scans = [scan15] ++ fresh :: [fresh] ∧ fresh.started = none ∧
      (∀ y, y ∈ [scan15] → y.started.isSome = true ∧ y.done = true) ∧
      (∀ y, y ∈ [fresh] → y.started.isSome = true → y.done = true) ∧ fresh.steps = 0) ∧
    (∃ (b : Block) (x : Scan), b.mash.scans = [] ++ x :: [fresh] ∧ x.started.isSome = true ∧ x.done = false) := by
  refine ⟨⟨{ base with mash := { stepQ := [step127], sel := [(127, 1)] } }, ?_⟩,
    ⟨{ base with mash := { stepQ := [step127], slots := [(0, { w := [2#32] })]
                           scans := [{ fresh with started := some 0, read := 127 }] } }, ?_⟩,
    ⟨{ base with mash := { stepQ := [step127], slots := [(0, { win := some win0 })]
                           scans := [{ fresh with started := some 0, read := 128 }] } }, ?_⟩,
    ⟨{ base with mash := { segs := [(2047, { start := 0, cause := 1, coarse := true })], stepFull := true } }, _, _, ?_, ?_, rfl,
      ?_, rfl, ?_⟩,
    ⟨{ base with mash := { stepQ := List.replicate 1023 step127, stepFull := true } }, ?_⟩,
    ⟨{ base with mash := { scans := [scan15, fresh, fresh] } }, ?_⟩,
    ⟨{ base with mash := { scans := [{ fresh with started := some 0 }, fresh] } }, _, rfl, ?_⟩⟩ <;>
    (repeat' apply And.intro) <;> decide +kernel

/-- A block whose unit 15 has this control word and holds this of tap 2047, which has a beat of tensor 9 waiting. -/
def unitOn (ctl : Word) (x : AsyTap) : Block := { base with
  assay := { binding := [(2047, 0x1F#32)], units := [(15, { ctl := ctl, taps := [(2047, x)] })] }
  ctxs := [(4095, 0x86FC0000#32)]
  taps := [(2047, { asy := [{ beat := { data := [1], bytes := 1, last := true, fmt := 0, tid := 9 }, ctx := 4095 }] })] }

/-- A complete row of tensor 9. -/
def row9 : Row := { tid := 9, fmt := 0, owner := some 3, done := true }

/-- Tensor 9 with `n` rows. -/
def tensor9 (n : Nat) : Tensor :=
  { tap := 2047, tid := 9, fmt := 0, openGt := 0, lastGt := 0, firstRow := 0, profile := none, prof := [], rows := n }

theorem witness_AssayUnitsAct :
    (let b := unitOn 0x581#32 {}
     b.running = true ∧ (b.unit 15).en = true ∧ b.nextAsyTap 15 = some 2047 ∧ (b.tap 2047).asy.length = 1 ∧
       (b.asyTap 15 2047).row = none ∧ (b.asyTap 15 2047).tensor = none ∧ b.ctxTenant 4095 = some 3 ∧ (b.unit 15).owner = 64) ∧
    (let b := unitOn 0x507#32 {}
     (b.unit 15).en = true ∧ (b.unit 15).owner = 3 ∧ b.ctxTenant 4095 = some 3) ∧
    (let b := unitOn 0x505#32 {}
     (b.unit 15).en = true ∧ (b.asyTap 15 2047).row = none ∧ (b.unit 15).owner ≠ 64 ∧ b.ctxTenant 4095 ≠ some (b.unit 15).owner) ∧
    (let b := unitOn 0x581#32 { row := some row9, tensor := some (tensor9 (2 ^ 20 - 1)) }
     (b.asyTap 15 2047).row = some row9 ∧ row9.done = true ∧ (b.asyTap 15 2047).tensor = some (tensor9 (2 ^ 20 - 1)) ∧
       (tensor9 (2 ^ 20 - 1)).rows + 1 = 2 ^ 20) ∧
    (tensor9 0).rows + 1 ≠ 2 ^ 20 ∧
    (let b := when (us 5) (unitOn 0x581#32 { tensor := some (tensor9 1) })
     (b.asyTap 15 2047).tensor = some (tensor9 1) ∧ (b.asyTap 15 2047).row = none ∧
       (tensor9 1).lastGt + us (b.unit 15).gap ≤ b.gt) ∧
    (∃ b : Block, b.running = true ∧ (b.unit 15).closed = [[rec3 0 1], []] ∧ (b.quad (recQuad 0)).roomFor (rec3 0 1) = true) ∧
    (∃ b : Block, b.running = true ∧ (b.unit 15).closed = [[rec3 0 1, rec3 0 2]]) := by
  refine ⟨?_, ?_, ?_, ?_, ?_, ?_, ⟨{ base with assay := { units := [(15, { closed := [[rec3 0 1], []] })] } }, ?_⟩,
    ⟨{ base with assay := { units := [(15, { closed := [[rec3 0 1, rec3 0 2]] })] } }, ?_⟩⟩ <;>
    (repeat' apply And.intro) <;> decide

/-! ### Witnesses for the statements about freezes, counters and time -/

/-- A block with freeze 9 of `gt` 256 scheduled in slot 3, begun, with tap 2047 listed as `x`. -/
def begun (x : FzTap) : Block := { base with
  freezes := [(3, { st := .scheduled, id := 9, t := 256, begun := true, taps := [(2047, x)] })] }

theorem witness_FreezeEventsAct :
    (let b := { when 256 (begun {}) with taps := [(2047, onTap)] }
     let f := b.freezeSlot 3
     (b.tap 2047).en = true ∧ f.st = .scheduled ∧ (∀ j, j < 4 → j ≠ 3 → (b.freezeSlot j).st ≠ .scheduled) ∧ b.running = true ∧ f.fixed = true ∧
       f.begun = true ∧ f.tap? 2047 = some {} ∧ (f.t : Int) ≤ b.gt + (b.view 2047).dTap ∧
       (b.tap 2047).drainAck = false ∧ (b.view 2047).down = false) ∧
    (∃ b : Block, (b.freezeSlot 3).tap? 2047 = some {} ∧ ((b.freezeSlot 3).t : Int) ≤ b.gt + (b.view 2047).dTap ∧
      (b.tap 2047).drainAck = true ∧ (b.tap 2047).en = true) ∧
    (let b := { when 255 { base with freezes := [(3, { st := .scheduled, id := 9, t := 256 })] } with
       taps := [(2047, onTap)], views := [(2047, { dTap := 1 })] }
     let f := b.freezeSlot 3
     b.gt < f.t ∧ f.begun = false ∧ tget ({} : FzTap) f.taps 2047 = ({} : FzTap) ∧ (f.t : Int) ≤ b.gt + (b.view 2047).dTap ∧ (b.tap 2047).en = true) ∧
    (∃ b : Block, b.running = false ∧ b.power.st ≠ .off ∧ (b.freezeSlot 3).fixed = true ∧ (b.freezeSlot 3).t ≤ b.gt ∧
      (b.freezeSlot 3).aon = false ∧ (∀ e, e ∈ (b.freezeSlot 3).taps → e.2.strobed = false) ∧ (b.freezeSlot 3).taps ≠ [] ∧
      (b.freezeSlot 3).st = .scheduled) ∧
    (∃ b : Block, (b.freezeSlot 3).id = (255#8).toNat ∧ (b.freezeSlot 3).fixed = false ∧
      b.localOfRoot (b.freezeSlot 3).rootT ≤ b.gt + us 2 ∧ (b.freezeSlot 3).st = .scheduled) ∧
    (∃ (b : Block) (l : Latch), b.running = true ∧ (b.tap 2047).latch = some l ∧ (b.tap 2047).drainAck = false ∧
      b.slotOf l.freezeId = some 3 ∧ (b.freezeSlot 3).tap? 2047 = some { strobed := true }) ∧
    (let b := when (256 + ms 1) (begun { strobed := true })
     let f := b.freezeSlot 3
     f.fixed = true ∧ f.begun = true ∧ f.t + us b.freezeLimitUs ≤ b.gt ∧ f.tap? 2047 = some { strobed := true }) ∧
    (∃ (b : Block) (r : Rec), b.running = true ∧ (b.freezeSlot 3).st = .scheduled ∧ (b.freezeSlot 3).fixed = true ∧
      (b.freezeSlot 3).t ≤ b.gt ∧
      (b.freezeSlot 3).begun = true ∧ 31 ∉ (b.freezeSlot 3).stations ∧ (b.freezeSlot 3).ofStation 31 ≠ [] ∧
      (∀ e, e ∈ (b.freezeSlot 3).ofStation 31 → e.2.done = true) ∧ (b.freezeSlot 3).tenantCopy = false ∧
      r = b.mkRec 19 0 64 3 (b.fzRecord (b.freezeSlot 3) 31) ∧ (b.quad 3).roomFor r = true ∧
      (∀ e, e ∈ (b.freezeSlot 3).taps → stOf e.1 ∈ (b.freezeSlot 3).stations ∨ stOf e.1 = 31) ∧
      (b.tenant 64).resetting = false) ∧
    (∃ b : Block, b.running = true ∧ (b.freezeSlot 3).st = .scheduled ∧ (b.freezeSlot 3).fixed = true ∧
      (b.freezeSlot 3).t ≤ b.gt ∧ (b.freezeSlot 3).begun = true ∧ (b.freezeSlot 3).ofStation 31 = []) := by
  refine ⟨by decide +kernel, ⟨when 256 { begun {} with taps := [(2047, { onTap with drainAck := true })] }, by decide⟩, by decide +kernel,
    ⟨{ base with
        power := { up with st := .nap, goal := .nap }
        freezes := [(3, { st := .scheduled, id := 9, taps := [(2047, {})] })] }, by decide⟩,
    ⟨{ base with freezes := [(3, { st := .scheduled, id := 255, fixed := false, rootT := 512000 })] }, by decide⟩,
    ⟨{ begun { strobed := true } with taps := [(2047, { latch := some { freezeId := 9, vals := [1], ofs := 0 } })] },
      _, ?_, rfl, ?_⟩, by decide +kernel,
    ⟨when 256 (begun { done := true }), _, ?_, ?_, ?_, ?_, ?_, ?_, ?_, ?_, ?_, rfl, ?_, ?_, ?_⟩,
    ⟨when 256 { begun {} with freezes := [(3, { st := .scheduled, id := 9, t := 256, begun := true })] }, by decide⟩⟩ <;>
    (repeat' apply And.intro) <;> decide +kernel

/-- A block whose port 3 waits for the long command `k`. -/
def longing (k : LongKind) : Block := { base with
  ports := [(3, { negotiated := true, longs := [{ tag := 7, quiet := false, lines := 4, order := 0, kind := k }] })] }

theorem witness_CountersAreReturned :
    (let b := when (us 100) (longing (.freeze 255 1 1 [5] 0))
     b.waitsFor 3 { tag := 7, quiet := false, lines := 4, order := 0, kind := .freeze 255 1 1 [5] 0 } ∧ 0 + us 100 ≤ b.gt) ∧
    ((longing (.cntSample 2047)).waitsFor 3 { tag := 7, quiet := false, lines := 4, order := 0, kind := .cntSample 2047 } ∧
      (longing (.cntSample 2047)).running = true) ∧
    (∃ b : Block, b.running = true ∧ (b.view 2047).mirror = false ∧ (b.view 2047).upSeen = true) ∧
    (let b := when (us 64) own
     b.timeRuns = true ∧ (63 < 64 ∧ (b.tenant 63).refreshGt / us 64 < b.gt / us 64)) ∧
    (64 ≤ 64 ∧ own.gt / us 64 ≤ (own.tenant 3).refreshGt / us 64) := by
  refine ⟨?_, ?_, ⟨{ base with views := [(2047, { mirror := false, upSeen := true })] }, by decide⟩, ?_, ?_⟩ <;>
    (repeat' apply And.intro) <;> decide

theorem witness_TimeEventsAct :
    (base.timeRuns = true ∧ base.time.loadNext = true) ∧
    (∃ b : Block, b.timeRuns = true ∧ b.time.loadNext = false ∧
      (((64#64).toNat * 256 + b.time.latency + (1#8).toNat : Nat) - (((b.time.tb + 0 * b.time.rate) / 2 ^ 24 : Nat) : Int)).natAbs
        = 16385) ∧
    (∃ b : Block, b.wakingClock = true ∧ b.power.phase ≠ 0 ∧ b.time.loadNext = false ∧
      16384 < (((64#64).toNat * 256 + (1#8).toNat + b.time.latency : Nat) - (((b.time.tb + 0 * b.time.rate) / 2 ^ 24 : Nat) : Int)).natAbs) ∧
    (∃ b : Block, b.timeRuns = true ∧ b.time.loadNext = false ∧ 15 ≤ b.time.good ∧
      (((0#64).toNat * 256 + b.time.latency + (63#8).toNat : Nat) - (((b.time.tb + 0 * b.time.rate) / 2 ^ 24 : Nat) : Int)).natAbs
        = 63) ∧
    (∃ b : Block, b.timeRuns = true ∧ b.time.loadNext = false ∧
      (((1#64).toNat * 256 + b.time.latency + (255#8).toNat : Nat) - (((b.time.tb + 0 * b.time.rate) / 2 ^ 24 : Nat) : Int)).natAbs
        = 511) ∧
    (∃ b : Block, b.timeRuns = true ∧ b.time.holdover = false ∧ b.time.lastSample + us 1 ≤ b.gt ∧
      (b.tenant 64).resetting = false ∧ b.time.aligned = false) ∧
    (∃ b : Block, b.timeRuns = true ∧ (b.tenant 64).resetting = false ∧ (b.gt - b.cycles 0) % 256000000000 = 2049) ∧
    (∃ b : Block, b.running = true ∧ b.time.aligned = true ∧ b.alignedNow = false ∧ (b.tenant 64).resetting = false) ∧
    (∃ b : Block, tripsWf [(2047, 65535)] = true ∧ 5 ≤ b.power.phase ∧ b.time.tcalDue ≤ b.gt ∧ b.running = true ∧
      (b.tap 2047).en = true) ∧
    (∃ b : Block, 5 ≤ b.power.phase ∧ b.time.tcalDue ≤ b.gt ∧ b.power.st ≠ .run ∧ b.power.st ≠ .off ∧ b.power.goal ≠ .off) ∧
    (∃ b : Block, 5 ≤ b.power.phase ∧ b.time.tcalDue ≤ b.gt ∧ (b.requestWake 4).running = true) ∧
    (∃ b : Block, b.running = true ∧ b.present 2047 = true ∧ (b.view 2047).measured = false ∧ (b.view 2047).upSeen = true) := by
  refine ⟨?_, ⟨{ base with time := { loadNext := false } }, ?_⟩,
    ⟨{ base with power := { up with st := .nap, goal := .run, waking := true }, time := { loadNext := false } }, ?_⟩,
    ⟨{ base with time := { loadNext := false, good := 15 } }, ?_⟩,
    ⟨{ base with time := { loadNext := false } }, ?_⟩, ⟨when (us 1) base, ?_⟩, ⟨when 2049 base, ?_⟩,
    ⟨{ base with time := { aligned := true } }, ?_⟩, ⟨tap' onTap, ?_⟩,
    ⟨{ base with power := { up with st := .nap, goal := .nap } }, ?_⟩, ⟨{ base with power := { up with goal := .nap } }, ?_⟩,
    ⟨{ base with views := [(2047, { upSeen := true })] }, ?_⟩⟩ <;> (repeat' apply And.intro) <;> decide +kernel

/-! ### Frames -/

/-- A frame of type `t` with this destination, body and payload and the CRC that it must carry. -/
def frm (t : BitVec 4) (dst : BitVec 12) (body payload : List Byte) : Frame :=
  stampCrc
    { ftype := t, pflits := BitVec.ofNat 4 (cdiv payload.length 32), kph := false, nak := false, dst := dst, src := 0, lseq := 0
      lack := 0, cred := 0, ttl := 32, body := padTo 16 body, payload := payload, crc := 0, tag := [] }

theorem crcBits_lt : ∀ n c, c < 2 ^ 32 → crcBits n c < 2 ^ 32
  | 0, _, h => h
  | n + 1, c, h => crcBits_lt n _ (by
      split
      · exact Nat.xor_lt_two_pow (by omega) (by decide)
      · omega)

theorem crc32c_lt (bs : List Byte) : crc32c bs < 2 ^ 32 := by
  refine Nat.xor_lt_two_pow ?_ (by decide)
  suffices h : ∀ (bs : List Byte) (c : Nat), c < 2 ^ 32 → bs.foldl (fun c x => crcBits 8 (Nat.xor c x.toNat)) c < 2 ^ 32 from
    h bs _ (by decide)
  intro bs
  induction bs with
  | nil => exact fun c h => h
  | cons x t ih =>
    intro c h
    exact ih _ (crcBits_lt _ _ (Nat.xor_lt_two_pow h (by have := x.isLt; omega)))

/-- A stamped frame carries the CRC that it must carry. -/
theorem stamped (f : Frame) : (stampCrc f).crc.toNat = frameCrc (stampCrc f) :=
  (BitVec.toNat_ofNat _ _).trans (Nat.mod_eq_of_lt (crc32c_lt _))

theorem padTo_length (n : Nat) (bs : List Byte) (h : bs.length = n) : padTo n bs = bs := by
  subst h; simp [padTo]

/-- The session key of zeros. -/
def key0 : Key := { key := 0, salt := 0 }

theorem gcmOpen_seal_nil (key : BitVec 256) (iv aad : List Byte) :
    gcmOpen key iv aad [] (gcmSeal key iv aad []).2 = some [] := by
  simp only [gcmOpen, gcmSeal, List.length_nil, List.take_zero, if_true]

theorem gcmSeal_nil (key : BitVec 256) (iv aad : List Byte) : (gcmSeal key iv aad []).1 = [] := by
  simp only [gcmSeal, List.length_nil, List.take_zero]

theorem block_length : (aesBlock key0.key (nonceOf key0.salt 0 ++ beBytes 4 1)).length = 16 := by decide +kernel

theorem tag_length (aad : List Byte) : (gcmSeal key0.key (nonceOf key0.salt 0) aad []).2.length = 16 := by
  have hz : ∀ n, (beBytes 16 n).length = 16 := fun n => by simp only [beBytes, List.length_reverse]; rfl
  simp only [gcmSeal, List.length_zipWith, hz]
  rw [block_length]
  decide

theorem openFrame_eq (k : Key) (f : Frame) (pt : List Byte)
    (h : gcmOpen k.key (nonceOf k.salt (tagCtr f)) (hdrBytes f) f.payload (f.tag.take 16) = some pt) :
    openFrame k f = some { f with payload := pt } := by
  unfold openFrame
  rw [h]

/-- A frame without payload that was sealed under a key opens under it, given that tags have 16 bytes. -/
theorem openFrame_sealed_of (k : Key) (f : Frame) (h : f.payload = [])
    (hl : ∀ aad, (gcmSeal k.key (nonceOf k.salt 0) aad []).2.length = 16) :
    openFrame k (stampCrc (sealFrame k 0 f)) = some (stampCrc (sealFrame k 0 f)) := by
  obtain ⟨r, hr, ho, hn, hf⟩ : ∃ r : List Byte × List Byte, r.2.length = 16 ∧
      gcmOpen k.key (nonceOf k.salt 0) (hdrBytes f) [] r.2 = some [] ∧ r.1 = [] ∧
      sealFrame k 0 f = { f with payload := r.1, tag := padTo 32 (padTo 16 r.2 ++ leBytes 8 0) } :=
    ⟨_, hl _, gcmOpen_seal_nil _ _ _, gcmSeal_nil _ _ _, by rw [sealFrame, h]⟩
  have h8 : leBytes 8 0 = List.replicate 8 0 := by decide
  have ht : padTo 32 (padTo 16 r.2 ++ leBytes 8 0) = r.2 ++ List.replicate 16 0 := by
    rw [padTo_length 16 _ hr, h8]
    simp [padTo, hr]
  have hc : leNat (List.take 8 (List.drop 16 (r.2 ++ List.replicate 16 (0 : Byte)))) = 0 := by
    rw [List.drop_append_of_le_length (by omega), List.drop_of_length_le (by omega)]
    decide
  have hg : List.take 16 (r.2 ++ List.replicate 16 (0 : Byte)) = r.2 := by
    rw [List.take_append_of_le_length (by omega), List.take_of_length_le (by omega)]
  rw [hf, ht, hn]
  refine openFrame_eq k _ [] ?_
  rw [show tagCtr (stampCrc { f with payload := [], tag := r.2 ++ List.replicate 16 0 }) = 0 from hc]
  rw [show (stampCrc { f with payload := [], tag := r.2 ++ List.replicate 16 0 }).tag.take 16 = r.2 from hg]
  exact ho

theorem openFrame_sealed (f : Frame) (h : f.payload = []) :
    openFrame key0 (stampCrc (sealFrame key0 0 f)) = some (stampCrc (sealFrame key0 0 f)) :=
  openFrame_sealed_of key0 f h tag_length

/-- A frame of type `t` with this body, without payload, sealed under the session key of zeros. -/
def shut (t : BitVec 4) (body : List Byte) : Frame :=
  stampCrc (sealFrame key0 0
    { ftype := t, pflits := 0, kph := false, nak := false, dst := 1, src := 0, lseq := 0, lack := 0, cred := 0, ttl := 32
      body := padTo 16 body, payload := [], crc := 0, tag := [] })

theorem hears_plain (b : Block) (p : Nat) (t : BitVec 4) (d : BitVec 12) (bs pl : List Byte)
    (h : b.hopRuns = true ∧ (b.hopPort p).st = .up ∧ (b.hopPort p).replay = [] ∧ (b.hopPort p).resend = [] ∧
      unsequenced t.toNat = false ∧ (b.hopPort p).rxNext = 0 ∧ definedType (b.hopPort p).version t.toNat = true ∧
      (b.hopPort p).compat = false) : b.hearsFrame p (frm t d bs pl) (frm t d bs pl) :=
  ⟨h.1, h.2.1, h.2.2.1, h.2.2.2.1, rfl, h.2.2.2.2.1, stamped _, h.2.2.2.2.2.1.symm, h.2.2.2.2.2.2.1, .inl ⟨h.2.2.2.2.2.2.2, rfl⟩⟩

theorem hears_sealed (b : Block) (p : Nat) (t : BitVec 4) (bs : List Byte)
    (h : b.hopRuns = true ∧ (b.hopPort p).st = .up ∧ (b.hopPort p).replay = [] ∧ (b.hopPort p).resend = [] ∧
      unsequenced t.toNat = false ∧ (b.hopPort p).rxNext = 0 ∧ definedType (b.hopPort p).version t.toNat = true ∧
      (b.hopPort p).compat = true ∧ (b.hopPort p).rxKeyOf false = some key0) : b.hearsFrame p (shut t bs) (shut t bs) :=
  ⟨h.1, h.2.1, h.2.2.1, h.2.2.2.1, rfl, h.2.2.2.2.1, stamped _, h.2.2.2.2.2.1.symm, h.2.2.2.2.2.2.1,
    .inr ⟨key0, h.2.2.2.2.2.2.2.1, h.2.2.2.2.2.2.2.2, openFrame_sealed _ rfl⟩⟩

/-! ### Witnesses for the statements about links -/

/-- A block whose hop port 5 is `x`. -/
def port5 (x : HopPort) : Block := { base with hop := { ports := [(5, x)] } }

/-- A port that is Up at version 3. -/
def up3 : HopPort := { st := .up, version := 3, credits := 1024 }

/-- A port that is Up at version 2, with the session key of zeros in both directions. -/
def up2 : HopPort := { st := .up, version := 2, compat := true, credits := 1024, txKey := some key0, rxKey := some key0 }

theorem witness_LinksSendAndTimeOut :
    (∃ b : Block, b.hopRuns = true ∧ (b.hopPort 5).st = .up ∧ (b.hopPort 5).resend = [frm 2 1 [] [], frm 3 1 [] []]) ∧
    (∃ b : Block, b.hopRuns = true ∧ (b.hopPort 5).st = .up ∧ (b.hopPort 5).resend = [] ∧ b.hop.disc = 6 ∧
      (b.hopPort 5).txq = [] ++ (frm 5 1 [] [], 7) :: [] ∧ (frm 5 1 [] []).ftype.toNat ≠ 0xA ∧
      flitsOf (b.hopPort 5).compat (frm 5 1 [] []) ≤ (b.hopPort 5).credits ∧ (b.hopPort 5).replay.length < 512) ∧
    (∃ b : Block, b.hop.disc ≠ 6 ∧ (b.hopPort 5).txq = [(frm 9 1 [] [], 7)] ++ (frm 2 1 [] [], 7) :: [] ∧
      routedType (frm 2 1 [] []).ftype.toNat = false ∧ routedType (frm 9 1 [] []).ftype.toNat = true) ∧
    (∃ b : Block, b.hop.disc ≠ 6 ∧ (b.hopPort 5).st = .up ∧ (b.hopPort 5).txq = [(frm 9 1 [] [], 7)]) ∧
    (∃ b : Block, (b.hopPort 5).st = .up ∧ (b.hopPort 5).resend = [] ∧ (b.hopPort 5).txq = [(frm 2 1 [] [], 3)] ∧
      routedType (frm 2 1 [] []).ftype.toNat = false ∧ (b.hopPort 5).credits < flitsOf (b.hopPort 5).compat (frm 2 1 [] [])) ∧
    ((port5 up3).hopRuns = true ∧ ((port5 up3).hopPort 5).maySend false = false) ∧
    (∃ b : Block, b.hopRuns = true ∧ (b.hopPort 5).st = .up ∧ (b.hopPort 5).txq ≠ [] ∧ (b.hopPort 5).maySend (b.hop.disc == 6) = false) ∧
    (∃ b : Block, b.hopRuns = true ∧ (b.hopPort 5).st = .closing ∧ (b.hopPort 5).adminUp = true) ∧
    (∃ b : Block, b.hopRuns = true ∧ (b.hopPort 5).st = .closing ∧ (b.hopPort 5).adminUp = false) ∧
    (∃ b : Block, b.hopRuns = true ∧ (b.hopPort 5).st = .hello ∧ (b.hopPort 5).helloGt = none) ∧
    (∃ b : Block, b.hopRuns = true ∧ (b.hopPort 5).st = .hello ∧ (b.hopPort 5).helloGt = some 0 ∧ b.gt < 0 + us 1) ∧
    (∃ b : Block, b.hopRuns = true ∧ (b.hopPort 5).st = .hello ∧ (b.hopPort 5).helloGt = some 0 ∧ 0 + us 1 ≤ b.gt) ∧
    (∃ b : Block, (b.hopPort 5).st = .hello ∧ (b.hopPort 5).helloRx = false ∧ (b.hopPort 5).since + ms 1 ≤ b.gt) ∧
    (∃ b : Block, b.power.st ≠ .off ∧ b.power.goal ≠ .off ∧ (b.hopPort 5).st = .training) ∧ (((port5 up3).hopPort 5).st ≠ .down) ∧
    (∃ b : Block, b.hopRuns = true ∧ (b.hopPort 5).st = .down ∧ (b.hopPort 5).adminUp = true ∧ (b.hopPort 5).reason ≠ 0 ∧
      (b.hopPort 5).reason ≠ 1 ∧ (b.hopPort 5).since + ms 10 ≤ b.gt) ∧
    (∃ b : Block, b.hopRuns = true ∧ (b.hopPort 5).st = .up ∧ (b.hopPort 5).replay ≠ [] ∧ (b.hopPort 5).ackGt + us 2 ≤ b.gt ∧
      (b.hopPort 5).resends < 8) ∧
    (∃ b : Block, b.hopRuns = true ∧ (b.hopPort 5).st = .up ∧ (b.hopPort 5).replay ≠ [] ∧ (b.hopPort 5).ackGt + us 2 ≤ b.gt ∧
      8 ≤ (b.hopPort 5).resends) := by
  refine ⟨⟨port5 { up3 with resend := [frm 2 1 [] [], frm 3 1 [] []] }, by decide +kernel⟩,
    ⟨{ base with hop := { disc := 6, ports := [(5, { up3 with txq := [(frm 5 1 [] [], 7)], credits := 1 })] } }, ?_⟩,
    ⟨port5 { up3 with txq := [(frm 9 1 [] [], 7), (frm 2 1 [] [], 7)], credits := 1 }, ?_⟩,
    ⟨port5 { up3 with txq := [(frm 9 1 [] [], 7)] }, ?_⟩,
    ⟨port5 { up3 with txq := [(frm 2 1 [] [], 3)], credits := 0 }, ?_⟩, ?_,
    ⟨port5 { up3 with txq := [(frm 2 1 [] [], 3)], credits := 0 }, ?_⟩, ⟨port5 { up3 with st := .closing }, ?_⟩,
    ⟨port5 { up3 with st := .closing, adminUp := false }, ?_⟩, ⟨port5 { st := .hello }, ?_⟩,
    ⟨port5 { st := .hello, helloGt := some 0 }, ?_⟩, ⟨when (us 1) (port5 { st := .hello, helloGt := some 0 }), ?_⟩,
    ⟨when (ms 1) (port5 { st := .hello }), ?_⟩, ⟨port5 { st := .training }, ?_⟩, ?_,
    ⟨when (ms 10) (port5 { reason := 2 }), ?_⟩, ⟨when (us 2) (port5 { up3 with replay := [frm 2 1 [] []], resends := 7 }), ?_⟩,
    ⟨when (us 2) (port5 { up3 with replay := [frm 2 1 [] []], resends := 8 }), ?_⟩⟩ <;>
    (repeat' apply And.intro) <;> decide +kernel

theorem witness_LinkKeysAct :
    (∃ b : Block, b.hopRuns = true ∧ (b.hopPort 5).asks true false = true ∧ (b.hopPort 5).st = .keying ∧
      (b.hopPort 5).txKey = none) ∧
    (∃ b : Block, b.hopRuns = true ∧ (b.hopPort 5).asks false false = true ∧ (b.hopPort 5).st = .keying ∧
      (b.hopPort 5).rxKey = none) ∧
    (∃ b : Block, b.hopRuns = true ∧ (b.hopPort 5).asks true false = true ∧ (b.hopPort 5).st = .keying ∧
      (b.hopPort 5).txKey ≠ none) ∧
    (∃ b : Block, b.hopRuns = true ∧ (b.hopPort 5).asks true true = true ∧ (b.hopPort 5).asks false true = true ∧
      (b.hopPort 5).st ≠ .keying) ∧
    (∃ b : Block, (∃ k, k ∈ (b.hopPort 5).keyReq ∧ k.2.2 + ms 1 ≤ b.gt) ∧ (b.hopPort 5).st ≠ .down) ∧
    (∃ b : Block, b.hopRuns = true ∧ (b.hopPort 5).st = .up ∧ (b.hopPort 5).compat = true ∧ (b.hopPort 5).rotating = false ∧
      (b.hopPort 5).keyPeriod ≠ 0 ∧ (b.hopPort 5).rotGt + ms (1000 * (b.hopPort 5).keyPeriod) ≤ b.gt) ∧
    (∃ b : Block, b.hopRuns = true ∧ (b.hopPort 5).st = .up ∧ (b.hopPort 5).compat = true ∧ (b.hopPort 5).rotating = false ∧
      2 ^ 48 ≤ (b.hopPort 5).txCtr) := by
  refine ⟨⟨port5 { st := .keying, keyReq := [(true, false, 0)] }, ?_⟩, ⟨port5 { st := .keying, keyReq := [(false, false, 0)] }, ?_⟩,
    ⟨port5 { st := .keying, keyReq := [(true, false, 0)], txKey := some key0 }, ?_⟩,
    ⟨port5 { up2 with keyReq := [(true, true, 0), (false, true, 0)] }, ?_⟩,
    ⟨when (ms 1) (port5 { st := .keying, keyReq := [(true, false, 0)] }), ?_⟩,
    ⟨when (ms 3600000) (port5 up2), ?_⟩, ⟨port5 { up2 with txCtr := 2 ^ 48 }, ?_⟩⟩ <;> (repeat' apply And.intro) <;> decide

/-- The body of a HELLO: versions, identifier, priority, port and `SEEN`. -/
def hello (lo hi uid seen : Byte) : List Byte := [lo, hi, uid, 0, 0, 0, 0, 0, 0x80, 5 + 8 * seen, 0]

/-- The port `x` after this HELLO. -/
def told (x : HopPort) (f : Frame) : HopPort := { x with
  helloRx := true, seenRx := x.seenRx || (fbody f 9).testBit 3, peerMin := fbody f 0, peerMax := fbody f 1
  nuid := fbodyN f 2 6, nport := fbody f 9 % 8, node := f.src.toNat }

theorem witness_LinkFramesAct :
    (let f := frm 0 0xFFF [] []
     f.ftype = 0 ∧ (port5 up3).hopRuns = true ∧ ((port5 up3).hopPort 5).st = .up ∧ ((port5 up3).hopPort 5).compat = false ∧
       f.crc.toNat = frameCrc f ∧ f.nak = false ∧ ((port5 up3).hopPort 5).resend = [] ∧ ((port5 up3).hopPort 5).rotStep ≠ 3) ∧
    (let b := port5 { st := .hello }
     b.hopRuns = true ∧ (b.hopPort 5).st = .hello ∧ b.hop.uid = 0 ∧
       (∀ lo hi uid seen, (frm 1 0 (hello lo hi uid seen) []).crc.toNat = frameCrc (frm 1 0 (hello lo hi uid seen) [])) ∧
       (frm 1 0 (hello 2 3 0 0) []).ftype = 1 ∧ fbodyN (frm 1 0 (hello 2 3 0 0) []) 2 6 = 0 ∧
       fbodyN (frm 1 0 (hello 2 2 9 0) []) 2 6 = 9 ∧ (told (b.hopPort 5) (frm 1 0 (hello 2 2 9 0) [])).negotiated = none ∧
       (told (b.hopPort 5) (frm 1 0 (hello 2 3 9 0) [])).negotiated ≠ none ∧
       (told (b.hopPort 5) (frm 1 0 (hello 2 3 9 0) [])).seenRx = false ∧
       (told (b.hopPort 5) (frm 1 0 (hello 2 3 9 1) [])).negotiated = some 3 ∧
       (told (b.hopPort 5) (frm 1 0 (hello 2 3 9 1) [])).seenRx = true) ∧
    ((told { st := .hello, v2Allow := true } (frm 1 0 (hello 2 2 9 1) [])).negotiated = some 2 ∧
      (told { st := .hello, v2Allow := true } (frm 1 0 (hello 2 2 9 1) [])).seenRx = true) ∧
    ((frm 0xB 0 [] []).ftype = 0xB ∧ (frm 0xB 0 [] []).crc.toNat = frameCrc (frm 0xB 0 [] []) ∧
      ((port5 up3).hopPort 5).st ≠ .training) ∧
    ((port5 up2).hearsFrame 5 (shut 0xA [0, 1]) (shut 0xA [0, 1]) ∧ fbody (shut 0xA [0, 1]) 0 = 0 ∧
      (shut 0xA [0, 1]).ftype = 0xA ∧ up2.rxPhase = false ∧ up2.rxOther = none ∧ up2.asks true true = false) ∧
    ({ up2 with keyReq := [(true, true, 0)] } : HopPort).asks true true = true ∧
    ((port5 { up2 with rxOther := some key0 }).hearsFrame 5 (shut 0xA [2, 1]) (shut 0xA [2, 1]) ∧
      fbody (shut 0xA [2, 1]) 0 = 2 ∧ ((port5 { up2 with rxOther := some key0 }).hopPort 5).rxOther = some key0) ∧
    ((port5 up3).hearsFrame 5 (frm 4 0 [] []) (frm 4 0 [] []) ∧ (frm 4 0 [] []).ftype = 4) ∧
    (let b := port5 up3
     let f := frm 0xC 0 [] []
     b.hopRuns = true ∧ (b.hopPort 5).version = 3 ∧ (b.hopPort 5).replay = [] ∧ f.nak = false ∧ f.crc.toNat = frameCrc f ∧
       f.lseq.toNat = (b.hopPort 5).rxNext ∧ f.ftype = 0xC) := by
  refine ⟨⟨rfl, ?_, ?_, ?_, stamped _, ?_⟩, ⟨?_, ?_, ?_, fun _ _ _ _ => stamped _, rfl, ?_⟩, ?_, ⟨rfl, stamped _, ?_⟩,
    ⟨hears_sealed _ _ _ _ ?_, rfl, rfl, ?_⟩, ?_, ⟨hears_sealed _ _ _ _ ?_, rfl, ?_⟩, ⟨hears_plain _ _ _ _ _ _ ?_, rfl⟩,
    ⟨?_, ?_, ?_, rfl, stamped _, ?_, rfl⟩⟩ <;> (repeat' apply And.intro) <;> decide +kernel

/-- A block with this fabric state, whose links 4 and 5 are Up at version 3; from port 4 a claim has or has not come. -/
def fabric (h : Hop) (claim : Bool) : Block :=
  { base with hop := { h with ports := [(4, { up3 with claimed := claim }), (5, { up3 with claimed := true })] } }

/-- In such a block an intact frame of a defined sequenced type is heard on port 5. -/
theorem fabric_hears (h : Hop) (c : Bool) (t : BitVec 4) (d : BitVec 12) (bs pl : List Byte)
    (ht : unsequenced t.toNat = false ∧ definedType 3 t.toNat = true) :
    (fabric h c).hearsFrame 5 (frm t d bs pl) (frm t d bs pl) :=
  hears_plain _ _ _ _ _ _ ⟨rfl, rfl, rfl, rfl, ht.1, rfl, ht.2, rfl⟩

theorem witness_DiscoveryAct :
    (∀ (h : Hop) (c : Bool) (d : BitVec 12) (bs pl : List Byte),
      (fabric h c).hearsFrame 5 (frm 2 d bs pl) (frm 2 d bs pl) ∧ (frm 2 d bs pl).ftype = 2) ∧
    (let g := frm 2 0 [0, 5, 0, 0, 0, 0, 0, 0, 31] []
     let h : Hop := { disc := 1, bestKey := 6 }
     fbody g 0 = 0 ∧ h.countPassed = false ∧ fbody g 8 < 32 ∧ fbodyN g 1 7 < h.bestKey) ∧
    (let g := frm 2 0 [0, 5, 0, 0, 0, 0, 0, 0, 31] []
     let h : Hop := { disc := 3, bestKey := 6, countPassed := true, parent := 4, uid := 6 }
     (h.disc = 2 ∨ h.disc = 3) ∧ h.parent ≠ 5 ∧ 5 ∈ (fabric h false).up3 ∧ fbody g 8 < 32 ∧ fbodyN g 1 7 < h.bestKey ∧
       fbodyN g 1 7 < (fabric h false).ownKey) ∧
    (let g := frm 2 0 [0, 5] []
     let h : Hop := { disc := 2, bestKey := 4 }
     fbody g 0 = 0 ∧ h.bestKey < fbodyN g 1 7) ∧
    (fbody (frm 2 0 [1] []) 0 = 1 ∧ ({ disc := 2, countPassed := true } : Hop).countPassed = true ∧
      ({ disc := 1 } : Hop).disc ≠ 2) ∧
    (let g := frm 2 0 [2] []
     let h : Hop := { disc := 1, parent := 5 }
     fbody g 0 = 2 ∧ (5 < 6 ∧ ((fabric h false).hopPort 5).claimed = true)) ∧
    (let b : Block := { base with hop := { ports := [(5, up3)], disc := 1, parent := 5 } }
     b.hearsFrame 5 (frm 2 0 [2] []) (frm 2 0 [2] []) ∧ ∀ q, q < 6 → (b.hopPort q).claimed = false) ∧
    (let g := frm 2 0 [3, 0xFF, 0x0F] []
     let h : Hop := { disc := 2, countPassed := true, parent := 0 }
     fbody g 0 = 3 ∧ ((fabric h false).hopPort 5).claimed = true ∧ h.parent ≠ 7 ∧
       (∀ q, q < 6 → q ≠ 5 → ((fabric h false).hopPort q).claimed = true → ((fabric h false).hopPort q).count ≠ none) ∧
       ((fabric h true).hopPort 4).claimed = true ∧ ((fabric h true).hopPort 4).count = none) ∧
    (let h : Hop := { disc := 3, parent := 5 }
     h.parent = 5 ∧ fbody (frm 2 0 [4, 0xFE, 0x0F] []) 0 = 4 ∧ fbodyN (frm 2 0 [4, 0xFE, 0x0F] []) 1 2 < 0xFFF ∧
       ¬fbodyN (frm 2 0 [4, 0xFF, 0x0F] []) 1 2 < 0xFFF ∧ 32 ≤ fbody (frm 2 0 [4, 0xFE, 0x0F, 0, 32] []) 4) ∧
    (let g := frm 2 0 [5, 0xFF, 0x0F, 3] [33, 32]
     fbody g 0 = 5 ∧ fbodyN g 1 2 + 0 < 4096 ∧ ({ disc := 4, gen := 3 } : Hop).gen = fbody g 3 ∧
       32 < (g.payload.getD 0 0).toNat ∧ ¬32 < (g.payload.getD 1 0).toNat ∧ fbody g 3 ≠ ({ disc := 6, gen := 4 } : Hop).gen) ∧
    (let b := when (us 50) (fabric { disc := 1 } false)
     b.hopRuns = true ∧ b.hop.rootWait = false ∧ b.hop.quietGt + us 50 ≤ b.gt ∧ b.hop.parent = 7) ∧
    (let b := when (us 50) (fabric { disc := 1, parent := 5 } false)
     b.hop.rootWait = false ∧ b.hop.quietGt + us 50 ≤ b.gt ∧ b.hop.parent ≠ 7) ∧
    (let b := when (us 70) (fabric { disc := 1, rootWait := true } false)
     b.hop.rootWait = true ∧ b.hop.quietGt + us 70 ≤ b.gt ∧ (5 < 6 ∧ (b.hopPort 5).claimed = true)) ∧
    (let b : Block := when (us 70) { base with hop := { ports := [(5, up3)], disc := 1, rootWait := true } }
     b.hopRuns = true ∧ (∀ q, q < 6 → (b.hopPort q).claimed = false) ∧ b.hop.parent = 7) ∧
    (let b := when (us 50) (fabric { disc := 4, nodeId := 0 } false)
     b.hop.routeGt + us 50 ≤ b.gt ∧ b.hop.nodeId = 0 ∧ ({ disc := 4 } : Hop).nodeId ≠ 0) := by
  refine ⟨fun h c d bs pl => ⟨fabric_hears h c 2 d bs pl ⟨rfl, rfl⟩, rfl⟩, ?_, ?_, ?_, ?_, ?_,
    ⟨hears_plain _ _ _ _ _ _ ?_, ?_⟩, ?_, ?_, ?_, ?_, ?_, ?_, ?_, ?_⟩ <;> (repeat' apply And.intro) <;> decide +kernel

/-- A fabric state with a parent at port 5, aligned; its next measurement is number 3. -/
def child (meas : Option Nat) (stamps : Tbl (Nat × Nat)) : Hop :=
  { parent := 5, disc := 6, nodeId := 1, tsMeas := meas, tsNext := 3, tsStamps := stamps }

theorem witness_OffsetMeasurementsAct :
    (let b := when (ms 1) (fabric (child none []) false)
     b.hopRuns = true ∧ b.hasParent = true ∧ b.hop.tsMeas = none ∧ b.time.lastTsync + us b.time.tsyncUs ≤ b.gt ∧
       max (b.hopPort b.hop.parent).traceGt b.time.lastTsync + us 10 ≤ b.gt) ∧
    (let b := when (us 100) (fabric (child (some 255) []) false)
     b.hop.tsMeas ≠ none ∧ b.hop.callGt + us 100 ≤ b.gt) ∧
    (∃ b : Block, b.hopRuns = true ∧ (b.hopPort 5).st = .up ∧ (b.hopPort 5).tsMeas = some (255, 7) ∧
      (b.hopPort 5).tsGt + us 1 ≤ b.gt) ∧
    (∀ (h : Hop) (d : BitVec 12) (bs pl : List Byte),
      (fabric h false).hearsFrame 5 (frm 3 d bs pl) (frm 3 d bs pl) ∧ (frm 3 d bs pl).ftype = 3) ∧
    fbody (frm 3 1 [0, 9] []) 0 = 0 ∧
    (fbody (frm 3 1 [1, 255, 7] []) 0 = 1 ∧ (child (some 255) []).tsMeas = some (fbody (frm 3 1 [1, 255, 7] []) 1) ∧
      (child (some 255) []).parent = 5) ∧
    (∃ b : Block, b.hearsFrame 5 (frm 3 1 [2, 255, 7] []) (frm 3 1 [2, 255, 7] []) ∧
      fbody (frm 3 1 [2, 255, 7] []) 0 = 2 ∧ (b.hopPort 5).tsMeas = some (fbody (frm 3 1 [2, 255, 7] []) 1, 8) ∧
      fbody (frm 3 1 [2, 255, 7] []) 2 < 8 ∧ 7 ≤ (b.hopPort 5).tsRsp) ∧
    (∃ b : Block, b.hearsFrame 5 (frm 3 1 [2, 255, 0] []) (frm 3 1 [2, 255, 0] []) ∧
      (b.hopPort 5).tsMeas = some (fbody (frm 3 1 [2, 255, 0] []) 1, 1) ∧ (b.hopPort 5).tsRsp < 7) ∧
    (fbody (frm 3 1 [3, 255] []) 0 = 3 ∧ (child (some 255) []).tsMeas = some (fbody (frm 3 1 [3, 255] []) 1) ∧
      bestExchange (exchanges 0 (child (some 255) []).tsStamps []) = none) ∧
    (∃ e, bestExchange (exchanges 0 (child (some 255) [(0, (0, 0)), (1, (0, 0))]).tsStamps (List.replicate 48 0)) =
      some (2, e) ∧ ¬32 < (e.off - e.theta - (0 : Int)).natAbs) ∧
    (∃ e, bestExchange (exchanges 0 (child (some 255) [(0, (0, 0)), (1, (0, 0))]).tsStamps
      (List.replicate 14 0 ++ [33] ++ List.replicate 33 0)) = some (2, e) ∧ 32 < (e.off - e.theta - (0 : Int)).natAbs) := by
  refine ⟨?_, ?_, ⟨when (us 1) (port5 { up3 with tsMeas := some (255, 7) }), ?_⟩,
    fun h d bs pl => ⟨fabric_hears h false 3 d bs pl ⟨rfl, rfl⟩, rfl⟩, ?_, ?_,
    ⟨port5 { up3 with tsMeas := some (255, 8), tsRsp := 7 }, hears_plain _ _ _ _ _ _ ?_, ?_⟩,
    ⟨port5 { up3 with tsMeas := some (255, 1) }, hears_plain _ _ _ _ _ _ ?_, ?_⟩, ?_, ⟨_, rfl, ?_⟩, ⟨_, rfl, ?_⟩⟩ <;>
    (repeat' apply And.intro) <;> decide +kernel

/-- A fabric state at node 1, whose route to node 0 leads over port 5 and whose route to node 9 over port 4. -/
def routed : Hop := { child none [] with routes := [(0, 5 * 64 + 1), (9, 4 * 64 + 32)], gen := 2 }

/-- Channel 15 with the hop sink 0 and a page request. -/
def hopChan (retry : Option Gt) : Channel :=
  { target := 2, owner := 3, enable := true, st := .running, sink := 0, sinkGen := 2, page := some 8191, reqNo := some 513
    retryGt := retry }

/-- A block with this fabric and a channel that waits for a grant of its sink. -/
def asked (retry : Option Gt) : Block := { fabric routed false with
  sparge := { chans := [(15, hopChan retry)] }
  cask := { pages := [(8191, { st := .draining, owner := 3 })] } }

theorem witness_PagesAndFreezesCrossTheFabric :
    (∀ (h : Hop) (t : BitVec 4) (d : BitVec 12) (bs pl : List Byte), 5 ≤ t.toNat → t.toNat ≤ 9 →
      (fabric h false).hearsFrame 5 (frm t d bs pl) (frm t d bs pl) ∧ (frm t d bs pl).ftype = t) ∧
    ((frm 5 1 [15, 1, 2] []).dst.toNat = routed.nodeId ∧ routed.reqs.length < 256 ∧ routed.sinkDest ≠ 1 ∧
      routed.sinkDest ≠ 2) ∧
    (∃ b : Block, b.hearsFrame 5 (shut 5 [15, 1, 2]) (shut 5 [15, 1, 2]) ∧ (shut 5 [15, 1, 2]).ftype = 5 ∧
      (b.hopPort 5).compat = true ∧ 256 ≤ b.hop.reqs.length ∧ b.hop.disc = 6 ∧ b.hop.waitDue = [] ∧ b.hop.sinkDest ≠ 1 ∧
      b.hop.sinkDest ≠ 2) ∧
    (∃ h : Hop, 256 ≤ h.reqs.length ∧ h.disc ≠ 6 ∧ h.sinkDest ≠ 1 ∧ h.sinkDest ≠ 2) ∧
    ((frm 5 9 [15, 1, 2] []).dst.toNat ≠ routed.nodeId ∧ 1 < (frm 5 9 [15, 1, 2] []).ttl.toNat ∧ routed.disc = 6 ∧
      4 = ((fabric routed false).route (frm 5 9 [15, 1, 2] []).dst.toNat).1 ∧ 4 < 6) ∧
    (∃ f : Frame, f.ttl.toNat ≤ 1 ∧ f.crc.toNat = frameCrc f ∧ f.dst.toNat ≠ routed.nodeId) ∧
    ((asked none).grantChan (frm 6 1 [1, 2, 0x80] []).src.toNat (fbodyN (frm 6 1 [1, 2, 0x80] []) 0 2) = some 15 ∧
      (fbody (frm 6 1 [1, 2, 0x80] []) 2).testBit 7 = true) ∧
    ((asked none).grantChan (frm 6 1 [1, 2, 31] []).src.toNat (fbodyN (frm 6 1 [1, 2, 31] []) 0 2) = some 15 ∧
      (fbody (frm 6 1 [1, 2, 31] []) 2).testBit 7 = false ∧ ((asked none).route (frm 6 1 [1, 2, 31] []).src.toNat).2 ≤ 32 ∧
      ((asked none).route (frm 6 1 [1, 2, 31] []).src.toNat).1 < 6 ∧ (asked none).hop.disc = 6 ∧
      ((asked none).chan 15).sinkGen = (asked none).hop.gen ∧ ((asked none).chan 15).frameOut = false) ∧
    (∃ (b : Block) (q : Frame), b.hopRuns = true ∧ (b.hopPort 5).st = .up ∧ (b.hopPort 5).resend = [] ∧
      (b.hopPort 5).txq = [(q, 8 + 15)] ∧ b.hop.disc = 6 ∧ flitsOf (b.hopPort 5).compat q ≤ (b.hopPort 5).credits ∧
      (b.hopPort 5).replay.length < 512 ∧ (b.chan 15).page = some 8191 ∧ (b.chan 15).grant = some (31, 15)) ∧
    (∃ (h : Hop) (e : SinkSlot), fbody (frm 7 1 [31, 15] []) 0 % 32 = 31 ∧ fbody (frm 7 1 [31, 15] []) 1 % 16 = 15 ∧
      h.slots.find? (fun e => e.1 == 31) = some (31, e) ∧ 31 ∉ h.ready ∧ e.src = (frm 7 1 [31, 15] []).src.toNat ∧
      15 ∉ e.frames ∧ e.frames.length = 15) ∧
    (let b := asked (some 0)
     b.running = true ∧ (b.chan 15).retryGt = some 0 ∧ 0 ≤ b.gt ∧ (b.chan 15).reqNo = some 513 ∧ (b.chan 15).stop = .none ∧
       (b.chan 15).sinkGen = b.hop.gen ∧ (b.route (b.chan 15).sink).2 ≤ 32 ∧ b.hop.disc = 6 ∧ 5 = (b.route (b.chan 15).sink).1 ∧
       (b.chan 15).sink ≠ b.hop.nodeId ∧ (b.chan 15).sink < 4096) ∧
    (∃ (b : Block) (e : SinkSlot), b.hopRuns = true ∧ b.hop.slots.find? (fun e => e.1 == 31) = some (31, e) ∧
      31 ∉ b.hop.ready ∧ e.last + ms 1 ≤ b.gt ∧ e.frames ≠ []) ∧
    (∃ (b : Block) (e : SinkSlot), b.hopRuns = true ∧ b.hop.slots.find? (fun e => e.1 == 31) = some (31, e) ∧
      31 ∉ b.hop.ready ∧ e.last + ms 1 ≤ b.gt ∧ e.frames = [] ∧ b.hop.reqs = []) ∧
    (let g := frm 8 0 [0, 0xD0, 7, 0, 0, 0, 0, 0, 0, 0xFF, 0xFF, 200] []
     (fbodyN g 9 2 % 4096, fbody g 11) ∉ routed.seen ∧
       (fbodyN g 9 2 % 4096, fbody g 11) ∈ ({ seen := [(4095, 200)] } : Hop).seen ∧
       (fabric routed false).alignedNow = false ∧
       (let b : Block := { fabric { routed with parent := 7 } false with time := { locked := true } }
        b.alignedNow = true ∧ b.gt + us 1 ≤ b.localOfRoot (fbodyN g 0 9) ∧ b.slotOf (fbody g 11) = none ∧
          (b.freezeSlot 0).st = .free ∧ ¬b.localOfRoot (fbodyN g 0 9) < b.gt + us 1 ∧
          b.localOfRoot (fbodyN (frm 8 0 [] []) 0 9) < b.gt + us 1)) ∧
    (let b : Block := { fabric routed false with ports := (longing (.freeze 200 1 0 [0, 9] 0)).ports }
     let l : Long := { tag := 7, quiet := false, lines := 4, order := 0, kind := .freeze 200 1 0 [0, 9] 0 }
     (b.hopPort 5).compat = false ∧ (frm 9 1 [200, 1] []).dst.toNat = b.hop.nodeId ∧ b.waitsFor 3 l ∧
       200 = fbody (frm 9 1 [200, 1] []) 0 ∧ 0 = (frm 9 1 [200, 1] []).src.toNat ∧ 0 ∈ [0, 9] ∧ [0, 9].erase 0 ≠ []) := by
  refine ⟨fun h t d bs pl h5 h9 => ⟨fabric_hears h false t d bs pl ?_, rfl⟩, ?_,
    ⟨{ base with hop := { ports := [(5, up2)], reqs := List.replicate 256 (4, 0, 0, 0), disc := 6 } }, hears_sealed _ _ _ _ ?_, rfl, ?_, ?_⟩,
    ⟨{ reqs := List.replicate 256 (4, 0, 0, 0) }, ?_⟩, ?_, ⟨stampCrc { frm 5 9 [] [] with ttl := 1 }, ?_, stamped _, ?_⟩, ?_, ?_,
    ⟨{ asked none with
        sparge := { chans := [(15, { hopChan none with grant := some (31, 15), frameOut := true })] }
        hop := { routed with ports := [(5, { up3 with txq := [(frm 7 0 [31, 15] [], 23)] })] } }, frm 7 0 [31, 15] [], ?_⟩,
    ⟨{ slots := [(31, { port := 5, src := 0, ch := 15, reqNo := 0, frames := upto 15 })] }, _, ?_, ?_, rfl, ?_⟩, ?_,
    ⟨when (ms 1) (fabric { slots := [(31, { port := 5, src := 0, ch := 15, reqNo := 0, frames := [15] })] } false), _, ?_, rfl, ?_⟩,
    ⟨when (ms 1) (fabric { slots := [(31, { port := 5, src := 0, ch := 15, reqNo := 0 })] } false), _, ?_, rfl, ?_⟩, ?_, ?_⟩
  · have ht : t.toNat = 5 ∨ t.toNat = 6 ∨ t.toNat = 7 ∨ t.toNat = 8 ∨ t.toNat = 9 := by omega
    rcases ht with h | h | h | h | h <;> rw [h] <;> decide
  all_goals (repeat' apply And.intro) <;> decide +kernel

/-! ### Witnesses for the statements about channels -/

/-- Channel 15 of tenant 3, running, with a window of 4,096 bytes. -/
def runChan : Channel := { owner := 3, enable := true, st := .running, winSize := 4096 }

/-- A direct descriptor of the whole window. -/
def desc0 : Desc := { index := 0, addr := 0, len := 4096, isIndex := false, perPage := true, segs := [(0, 4096, true)] }

/-- A block with this channel 15, a Full page of streaming tenant 3, and an allowance of 4,096 for tenant 3. -/
def draining (x : Channel) : Block := { base with
  sparge := { chans := [(15, x)], winOn := true, inP := [3, 64], allow := [(3, 4096), (64, 64)] }
  tenants := [(3, { mode := 2 })]
  cask := { pages := [(8191, { st := .full, owner := 3 })] } }

theorem witness_ChannelsMovePages :
    (let b := draining { runChan with target := 1 }
     (b.chan 15).stop = .none ∧ (b.chan 15).enable = true ∧ b.power.quiesce = false ∧ b.power.goal ≠ .off ∧ b.running = true ∧
       (b.chan 15).st = .running ∧ (b.chan 15).page = none ∧ (b.chan 15).heldBy = [] ∧ b.chanPages 15 = [8191] ∧
       (b.tenant 3).resetting = false ∧ (b.chan 15).desc = none ∧ b.canTakeWhole 3 = true ∧ 4096 ≤ b.allowLeft 3) ∧
    (let b := draining { runChan with desc := some desc0 }
     (b.chan 15).target = 0 ∧ (b.chan 15).page = none ∧ b.chanPages 15 = [8191] ∧ desc0.room = true ∧ 0 < b.allowLeft 3) ∧
    (let b := draining { runChan with desc := some { desc0 with segUsed := 4032 }, page := some 8191, pos := 4032 }
     b.running = true ∧ (b.chan 15).st = .running ∧ (b.chan 15).target = 0 ∧ (b.chan 15).page = some 8191 ∧
       desc0.segs[desc0.segIdx]? = some (0, 4096, true) ∧ 4032 ≠ 0 ∧
       64 = min (min (128 - 4032 % 128) (4096 - 4032)) (4096 - 4032) ∧ b.readTurn = some 15 ∧ b.noDrain ∧ 3 ≠ 64) ∧
    (runChan.inWindow 0 4096 = true ∧ min (min (128 - (0 + 0) % 128) (4096 - 0)) (4096 - 0) = 128) ∧
    (let b := draining { runChan with descRead := true }
     let bs (v addr : Byte) : List Byte := [addr, 0, 0, 0, 0, 0, 0, 0, 64, 0, 0, 0] ++ List.replicate 19 0 ++ [v]
     (b.chan 15).descRead = true ∧ (leNat ((padTo 32 (bs 0 0)).drop 28)).testBit 31 = false ∧
       (leNat ((padTo 32 (bs 0x80 0)).drop 28)).testBit 31 = true ∧ (descOf 0 (padTo 32 (bs 0x80 0))).2 = true ∧
       (descOf 0 (padTo 32 (bs 0x81 0))).2 = false ∧ (b.chan 15).flight = [] ∧ (b.chan 15).page = none ∧
       (b.chan 15).lagging = [] ∧ (b.chan 15).idxRead = false ∧ (b.chan 15).offAfter = false ∧ b.allLongs = [] ∧ (b.tenant 3).resetting = false) ∧
    (let b := draining { runChan with desc := some { desc0 with isIndex := true, segs := [] }, idxRead := true }
     (b.chan 15).idxRead = true ∧ (b.chan 15).desc = some { desc0 with isIndex := true, segs := [] } ∧
       (b.chan 15).stop = .none ∧ (b.chan 15).enable = true) := by
  refine ⟨?_, ?_, ?_, ?_, ?_, ?_⟩ <;> (repeat' apply And.intro) <;> decide +kernel

/-- A write of channel 15 in flight with tag 63. -/
def write63 (kind : Nat) : Inflight := { tag := 63, kind := kind, addr := 4032, bytes := 64 }

/-- A scrub of tenant 63 with a window of 100 bytes left. -/
def scrub63 (flight : List Nat) (pos : Nat) : Scrub :=
  { tenant := 63, oldEpoch := 0, newEpoch := 1, wins := [(15, 0, 100)], chans := [15], pos := pos, flight := flight }

theorem witness_DrainsAndScrubsAct :
    (let b := draining { runChan with desc := some desc0, flight := [write63 0, { write63 0 with tag := 0 }] }
     bit (1023#11) 10 = false ∧ fld (1023#11) 6 4 = 15 ∧ fld (1023#11) 0 6 = 63 ∧
       (b.chan 15).flight.find? (fun k => k.tag == 63) = some (write63 0) ∧ b.sparge.scrubs = [] ∧ b.sparge.orphans = [] ∧ (b.chan 15).stop = .none ∧
       (b.chan 15).lagging = [] ∧ (b.chan 15).flight.filter (fun k => k.tag != 63) ≠ []) ∧
    ((draining { runChan with desc := some desc0, flight := [write63 2] }).chan 15).flight.find? (fun k => k.tag == 63) =
      some (write63 2) ∧
    ((draining { runChan with desc := some desc0, flight := [write63 1] }).chan 15).flight.find? (fun k => k.tag == 63) =
      some (write63 1) ∧
    (let h := scrub63 [1023] 0
     bit (1023#11) 10 = false ∧ (1023#11).toNat ∈ h.flight ∧ h.wins ≠ [] ∧ h.ending = none ∧ (1023#11).toNat ∉ base.sparge.orphans) ∧
    (∃ b : Block, (1023#11).toNat ∈ b.sparge.orphans) ∧
    (∃ b : Block, b.running = true ∧ b.gt / 256000 * 256000 ≠ b.sparge.winStart ∧ 3 ∈ b.pendingOwners) ∧
    (∃ b : Block, b.running = true ∧ b.sparge.winOn = false ∧
      320 < (b.pendingOwners.map (fun o => (b.tenant o).budget)).foldl (· + ·) 0) ∧
    (∃ b : Block, b.running = true ∧ b.sparge.exUp = none ∧ b.sparge.exSrc = none ∧ b.sparge.exMarkers = [[1], [2]]) ∧
    (∃ (b : Block) (u : ExBeat), b.running = true ∧ b.sparge.exUp = some u ∧ u.marker = true) ∧
    (∃ (b : Block) (u : ExBeat), b.sparge.exUp = some u ∧ u.marker = false ∧ b.sparge.exSrc = some u.src ∧ b.sparge.exBeat = u.unit ∧
      u.unit = 62) ∧
    (∃ (b : Block) (u : ExBeat), b.sparge.exUp = some u ∧ u.marker = false ∧ b.sparge.exSrc ≠ some u.src) ∧
    (∃ b : Block, b.running = true ∧ b.sparge.exUp = none ∧ b.sparge.exSrc = some 15 ∧ b.exPage 15 = some 8191 ∧ b.sparge.exBeat = 63 ∧
      (2 : Nat) = 2 ∧ 8191 < 8192) ∧
    (∃ b : Block, b.running = true ∧ b.sparge.exUp = none ∧ b.sparge.exSrc = none ∧ b.sparge.exMarkers = [] ∧ b.exNext = some 15 ∧
      b.exPage 15 = some 8191) ∧
    (∃ b : Block, b.running = true ∧ b.sparge.exUp = none ∧ b.sparge.exSrc = none ∧ b.sparge.exMarkers = [] ∧ b.exNext = some 16 ∧
      b.exPage 16 = some (landBase + 31)) ∧
    (∃ b : Block, b.running = true ∧ b.sparge.scrubs = [scrub63 [] 64] ∧ b.canSpend 64 64 = true ∧
      (b.tagsHeld 15).length < 64 ∧ b.operatorBeats = false ∧ 36 = min 64 (100 - 64)) := by
  refine ⟨?_, ?_, ?_, ?_, ⟨{ base with sparge := { orphans := [1023] } }, ?_⟩, ⟨when (us 1) (draining runChan), ?_⟩,
    ⟨{ draining runChan with
        sparge := { chans := [(15, runChan)] }
        tenants := [(3, { mode := 2, budget := 300 }), (4, { mode := 2, budget := 21 })]
        cask := { pages := [(0, { st := .full, owner := 4 }), (8191, { st := .full, owner := 3 })] } }, ?_⟩,
    ⟨{ base with sparge := { exMarkers := [[1], [2]] } }, ?_⟩,
    ⟨{ base with sparge := { exMarkers := [[1]], exUp := some { data := [1], marker := true } } }, _, ?_, rfl, ?_⟩,
    ⟨{ base with sparge := { exSrc := some 15, exBeat := 62, exUp := some { data := [1], src := 15, unit := 62 } } }, _, rfl, ?_⟩,
    ⟨{ base with sparge := { exUp := some { data := [1], src := 15, unit := 62 } } }, _, rfl, ?_⟩,
    ⟨{ draining runChan with sparge := { chans := [(15, { runChan with target := 1, page := some 8191 })], exSrc := some 15, exBeat := 63 } }, ?_⟩,
    ⟨draining { runChan with target := 1, page := some 8191 }, ?_⟩,
    ⟨{ base with hop := { sinkDest := 1, ready := [31] } }, ?_⟩,
    ⟨{ base with sparge := { chans := [(15, { runChan with st := .disabled })], scrubs := [scrub63 [] 64], winOn := true, inP := [64], allow := [(64, 64)] } }, ?_⟩⟩ <;>
    (repeat' apply And.intro) <;> decide +kernel

/-! ### Witnesses for the statements about resets, power and start-up -/

theorem witness_ResetsAndMessagesAct :
    ((base.requestWake 3).running = true ∧ (base.tenant 63).resetting = false) ∧
    (∃ b : Block, b.running = false ∧ (b.requestWake 3).running = true ∧ (b.tenant 63).resetting = false) ∧
    (∃ b : Block, (b.requestWake 3).running = false ∧ b.power.st ≠ .off ∧ (b.tenant 63).resetting = false ∧ b.power.st ≠ .run ∧
      b.power.goal ≠ .off) ∧
    (∃ b : Block, b.running = true ∧ (b.tenant 63).resetting = true ∧ (b.tenant 63).step2Due = true ∧ b.epochFree 63 = true ∧
      (b.page 8191).owner = 63 ∧ (b.page 8191).st = .held ∧ ctxValid (b.ctxEntry 4095) = true ∧
      ctxTenantOf (b.ctxEntry 4095) = 63 ∧ (tget {} (b.tap 2047).cnt 7).owner = 63 ∧ (b.tenant 63).epoch = 255) ∧
    (∃ (b : Block) (l : Long), b.running = true ∧ (b.tenant 63).resetting = true ∧ (b.tenant 63).step2Due = false ∧
      b.waitsFor 64 l ∧ l.kind = .tenantReset 63 255 true ∧ ∀ c, c < 16 → (b.chan c).stop = .none) ∧
    (∃ b : Block, b.power.st ≠ .off ∧ b.power.irqUp = none ∧ (b.tenant 64).due = [22, 0]) ∧
    (∃ b : Block, b.power.st ≠ .off ∧ b.power.irqUp = some (63, 7)) ∧
    (∃ b : Block, b.power.st ≠ .off ∧ b.power.irqUp = none ∧ (b.tenant 64).due = [] ∧ b.irqOrder = [63] ∧ (b.tenant 63).due = [5] ∧
      1024 ≤ ((b.tenant 63).gain b.gt).1) ∧
    (∃ b : Block, b.power.st ≠ .off ∧ b.power.irqUp = none ∧ (b.tenant 64).due = [] ∧ b.irqOrder = [63] ∧ (b.tenant 63).due = [5] ∧
      ((b.tenant 63).gain b.gt).1 < 1024) ∧
    (base.running = true ∧ (3 : BitVec 8) ≠ 0 ∧ (3 : BitVec 8).toNat ≤ 3 ∧ (base.tenant 64).resetting = false) ∧
    (longing .tsyncNow).waitsFor 3 { tag := 7, quiet := false, lines := 4, order := 0, kind := .tsyncNow } := by
  refine ⟨?_, ⟨{ base with power := { up with goal := .kiln } }, ?_⟩, ⟨{ base with power := { up with st := .nap, goal := .nap } }, ?_⟩,
    ⟨{ base with
        tenants := [(63, { resetting := true, step2Due := true, epoch := 255 })]
        cask := { pages := [(8191, { st := .held, owner := 63, epoch := 255 })] }
        ctxs := [(4095, 0xFEFC0000#32)]
        taps := [(2047, { cnt := [(7, { w0 := 0x7E#32, value := 9 })] })] }, ?_⟩,
    ⟨{ longing .tsyncNow with
        tenants := [(63, { resetting := true })]
        ports := [(64, { longs := [{ tag := 7, quiet := false, lines := 4, order := 0, kind := .tenantReset 63 255 true }] })] },
      _, ?_, ?_, ?_, ⟨rfl, rfl, ?_⟩, rfl, ?_⟩,
    ⟨{ base with tenants := [(64, { due := [22, 0] })] }, ?_⟩, ⟨{ base with power := { up with irqUp := some (63, 7) } }, ?_⟩, ⟨{ base with tenants := [(63, { due := [5] })] }, ?_⟩,
    ⟨{ base with tenants := [(63, { due := [5], tokens := 1023 })] }, ?_⟩, ?_, ?_⟩ <;>
    (repeat' apply And.intro) <;> decide +kernel

/-- An idle ready block at 300 µs with this power policy and time of the next TCAL. -/
def resting (policy : Nat) (tcal : Gt) : Block := { base with
  power := { up with policy := policy }
  time := { tb := us 300 * 2 ^ 24, tcalDue := tcal }
  sync := { knotMs := 0 } }

theorem witness_PowerEventsAct :
    ((resting 3 (ms 5)).running = true ∧ (resting 3 (ms 5)).busy = false ∧ (resting 3 (ms 5)).power.goal = .run ∧
      (resting 3 (ms 5)).power.busyGt + (resting 3 (ms 5)).cycles 64 ≤ (resting 3 (ms 5)).gt ∧
      (resting 3 (ms 5)).choose = 3) ∧
    base.gt < base.power.busyGt + base.cycles 64 ∧
    (∃ b : Block, b.power.st ≠ .off ∧ b.power.clkReq = false ∧ b.power.st = .run ∧ b.power.goal = .kiln ∧ b.power.waking = false) ∧
    ((resting 3 (ms 5)).power.lowering = false ∧ ({ up with clkReq := false } : Power).lowering = true) ∧
    (∃ b : Block, b.dozing = true ∧ b.busy = false ∧ b.power.busyGt + b.cycles 64 ≤ b.gt ∧ b.choose = 3) ∧
    (∃ b : Block, b.dozing = true ∧ b.choose = 2) ∧ (∃ b : Block, b.dozing = true ∧ b.choose < 2) ∧
    (∃ b : Block, b.power.st ≠ .off ∧ b.power.brewReq = true ∧ b.power.waking = true) ∧
    (resting 3 (us 400)).choose = 2 ∧ (resting 1 (us 400)).choose = 1 ∧ (resting 0 (us 400)).choose = 0 ∧
    (resting 0 (us 400)).deepest = 0 ∧
    (∃ b : Block, b.power.st = .doze ∧ b.active = false ∧ b.power.waking = false ∧ b.power.goal ≠ .off) ∧
    (∃ b : Block, b.power.wakeTimer = some 0 ∧ 0 ≤ b.gt ∧ b.power.st ≠ .run ∧ b.power.st ≠ .off ∧ b.power.waking = false ∧
      b.power.goal ≠ .off) ∧
    (∃ b : Block, b.power.st = .run ∧ b.power.goal = .kiln ∧ b.power.clkReq = true ∧ b.power.waking = false) ∧
    (∃ b : Block, b.power.st = .run ∧ b.power.goal = .nap ∧ b.power.clkReq = false ∧ b.power.waking = false) ∧
    (∃ b : Block, (b.tenant 64).hold = some (2, 0) ∧ 0 ≤ b.gt) ∧
    (∃ b : Block, b.power.waking = true ∧ b.power.goal = .run ∧ b.power.st = .doze ∧ b.held = [] ∧ b.power.blkPend = false ∧
      b.meas.quotePend = false ∧ b.time.regionAon = [] ∧ ∀ n, n < 64 → (b.tenant n).rstWait = false) ∧
    (∃ b : Block, b.power.waking = true ∧ b.power.goal = .run ∧ b.power.st = .kiln ∧ b.power.brewGnt = true ∧ b.power.clkGnt = true ∧
      b.time.locked = true ∧ b.held = [] ∧
      b.power.blkPend = false ∧ b.meas.quotePend = false ∧ b.time.regionAon = [] ∧ ∀ n, n < 64 → (b.tenant n).rstWait = false) ∧
    (base.power.st ≠ .off ∧ base.power.retReq ≠ true ∧ base.power.retReq = false) ∧
    (({} : Block).power.phase = 0 ∧ ({} : Block).power.st = .run ∧ ({} : Block).power.brewReq = true ∧
      ({} : Block).power.low = false) ∧
    (∃ b : Block, b.power.st ≠ .off ∧ b.power.clkReq = false ∧ b.power.st = .run ∧ b.power.goal = .nap ∧ b.power.waking = false) ∧
    (∃ b : Block, b.power.phase = 0 ∧ b.power.st = .run ∧ b.power.brewGnt = true ∧ b.power.clkGnt = true ∧ b.power.low = true ∧
      b.power.lowAsked = false) ∧
    (∃ b : Block, b.power.st ≠ .off ∧ b.power.low ≠ b.power.lowAsked ∧ b.power.phase ≠ 0 ∧ b.running = true ∧ b.sync.walkAgain = false) ∧
    (∃ b : Block, b.power.st ≠ .off ∧ b.power.low ≠ b.power.lowAsked ∧ b.power.phase ≠ 0 ∧ b.running = false) := by
  refine ⟨?_, ?_, ⟨{ base with power := { up with goal := .kiln, clkReq := false } }, ?_⟩, ?_,
    ⟨{ resting 3 (ms 5) with power := { up with st := .doze, goal := .doze } }, ?_⟩,
    ⟨{ resting 3 (us 400) with power := { up with st := .doze, goal := .doze } }, ?_⟩,
    ⟨{ resting 1 (us 400) with power := { up with st := .doze, goal := .doze, policy := 1 } }, ?_⟩,
    ⟨{ base with power := { up with st := .kiln, waking := true } }, ?_⟩, ?_, ?_, ?_, ?_, ⟨when (us 300) { base with power := { up with st := .doze, goal := .doze } }, ?_⟩,
    ⟨{ base with power := { up with st := .nap, goal := .nap, wakeTimer := some 0 } }, ?_⟩,
    ⟨{ base with power := { up with goal := .kiln } }, ?_⟩, ⟨{ base with power := { up with goal := .nap, clkReq := false } }, ?_⟩,
    ⟨{ base with tenants := [(64, { hold := some (2, 0) })] }, ?_⟩,
    ⟨{ base with power := { up with st := .doze, waking := true } }, ?_⟩,
    ⟨{ base with power := { up with st := .kiln, waking := true }, time := { locked := true } }, ?_⟩, ?_, ?_,
    ⟨{ base with power := { up with goal := .nap, clkReq := false } }, ?_⟩, ⟨{ base with power := { up with phase := 0, low := true } }, ?_⟩,
    ⟨{ base with power := { up with lowAsked := true } }, ?_⟩,
    ⟨{ base with power := { up with st := .doze, goal := .doze, lowAsked := true } }, ?_⟩⟩ <;> (repeat' apply And.intro) <;> decide +kernel

theorem witness_BlockResetsAct :
    (∃ b : Block, b.power.st ≠ .off ∧ (∀ e, e ∈ b.sparge.chans → e.2.flight = [] ∧ e.2.descRead = false ∧ e.2.idxRead = false) ∧
      b.sparge.chans ≠ [] ∧ (∀ h, h ∈ b.sparge.scrubs → h.flight = []) ∧ b.sparge.orphans = []) ∧
    (∃ b : Block, b.power.st ≠ .off ∧ b.power.goal ≠ .off ∧ 15 < 16 ∧ (b.chan 15).flight ≠ []) ∧
    (base.power.st = .run ∧ base.power.goal = .run ∧ base.power.quiesce = false ∧ base.power.blkAck = false) ∧
    (∃ b : Block, b.power.st = .run ∧ b.power.goal = .kiln ∧ b.power.clkReq = true ∧ b.power.waking = false) ∧
    (∃ b : Block, b.power.st ≠ .run ∧ b.power.st ≠ .off ∧ b.power.goal ≠ .off ∧ b.power.quiesce = false ∧ b.power.blkAck = false) ∧
    (∃ b : Block, b.power.st = .run ∧ b.power.goal = .nap ∧ b.power.clkReq = false ∧ b.power.clkGnt = true) ∧
    (∃ b : Block, b.operatorLost = 1) ∧
    (∃ b : Block, b.power.quiesce = true ∧ (∀ e, e ∈ b.sparge.chans → e.2.flight = []) ∧
      (∀ h, h ∈ b.sparge.scrubs → h.flight = []) ∧ b.sparge.orphans = [] ∧ b.sparge.scrubs ≠ [] ∧ b.sparge.chans ≠ [] ∧ b.cask.fence = [511]) := by
  refine ⟨⟨draining runChan, ?_⟩, ⟨draining { runChan with flight := [{ tag := 63, kind := 0, addr := 0, bytes := 64 }] }, ?_⟩, ?_,
    ⟨{ base with power := { up with goal := .kiln } }, ?_⟩, ⟨{ base with power := { up with st := .nap, goal := .nap } }, ?_⟩,
    ⟨{ base with power := { up with goal := .nap, clkReq := false } }, ?_⟩,
    ⟨{ base with recs := [{ rec3 19 1 with owner := 64 }] }, ?_⟩,
    ⟨{ draining runChan with
        power := { up with quiesce := true }
        sparge := { chans := [(15, runChan)], scrubs := [scrub63 [] 0] }
        cask := { fence := [511] } }, ?_⟩⟩ <;> (repeat' apply And.intro) <;> decide +kernel

/-- The block in phase `n` of start-up with a patch image of `len` bytes. -/
def starting (n len : Nat) : Block := { base with power := { up with phase := n, patchLen := len } }

/-- A patch image of 10 bytes for the ROM of this instance. -/
def image10 : List Byte := leBytes 4 0x544C414D ++ leBytes 4 10 ++ leBytes 2 (Config.romLevel.toNat % 2 ^ 16)

theorem leNat_leBytes2 (v : Nat) : leNat (leBytes 2 v) = v % 2 ^ 16 := by
  simp [leBytes, leNat]; omega

theorem patchOk_image10 : patchOk 10 image10 = true := by
  have h1 : leNat (image10.take 4) = 0x544C414D := rfl
  have h2 : leNat (image10.drop 4 |>.take 4) = 10 := rfl
  have h3 : leNat (image10.drop 8 |>.take 2) = Config.romLevel.toNat % 2 ^ 16 % 2 ^ 16 := leNat_leBytes2 _
  have h4 : image10.length = 10 := rfl
  rw [patchOk, h1, h2, h3, h4]
  simp

/-- A measurement of the one present tap measures every tap. -/
theorem allTrips_last (b : Block) (h : b.absent = upto 2047) : b.allTrips [(2047, 65535)] = true := by
  simp only [Block.allTrips, List.all_eq_true, upto, List.mem_range]
  intro t ht
  rcases Nat.lt_or_ge t 2047 with h' | h'
  · simp [show b.present t = false by simp [Block.present, h, upto, h']]
  · obtain rfl : t = 2047 := by omega
    rfl

/-- Calibrate with a locked time base and tap 2047 the only one present. -/
def calib : Block := { starting 4 0 with time := { locked := true }, absent := upto 2047 }

theorem witness_StartUpAdvances :
    ((starting 1 0).power.quiesce = false ∧ (starting 1 0).power.phase = 1 ∧ (starting 1 0).held = [] ∧
      (starting 1 0).meas.quotePend = false) ∧
    (∃ b : Block, b.power.quiesce = false ∧ b.power.phase = 1 ∧ b.held = [] ∧ b.meas.quotePend = true ∧ b.meas.built ≠ 0) ∧
    ((starting 2 0).power.phase = 2 ∧ (starting 2 0).power.warm = false ∧ (starting 2 0).power.patchLen = 0) ∧
    (0 < (starting 2 10).power.patchLen ∧ (starting 2 10).power.patchLen ≤ 262144 ∧ padTo 10 image10 = image10 ∧
      patchOk 10 image10 = true) ∧
    patchOk 10 (padTo 10 []) = false ∧ 262144 < (starting 2 262145).power.patchLen ∧
    ((starting 3 0).power.phase = 3 ∧ (starting 3 0).dead = false) ∧
    (∃ b : Block, b.power.phase = 4 ∧ b.power.quiesce = false ∧ tripsWf [(2047, 65535)] = true ∧ b.time.locked = true ∧
      b.allTrips [(2047, 65535)] = true ∧ b.present 2047 = true ∧ (b.tap 2047).drainAck = false ∧ (b.hopPort 5).adminUp = true) ∧
    ((starting 5 0).power.phase = 5 ∧
      ∃ b : Block, b.power.phase = 5 ∧ b.anyUp = false ∧ b.power.serveGt + ms 1 ≤ b.gt ∧ b.hop.disc ≠ 6) := by
  refine ⟨?_, ⟨{ starting 1 0 with meas := { quotePend := true, built := 1 } }, ?_⟩, ?_, ⟨?_, ?_, rfl, patchOk_image10⟩, ?_, ?_, ?_,
    ⟨calib, ?_, ?_, ?_, ?_, allTrips_last _ (by simp only [calib]), by simp [Block.present, calib, upto], ?_⟩, ?_, ⟨when (ms 1) (starting 5 0), ?_⟩⟩ <;>
    (repeat' apply And.intro) <;> decide +kernel

/-- A weight-load tap 2047 with this control queue, these waiting beats, and these open images. -/
def loading (ctrl : List (Payload × Nat × Nat × Nat)) (asy : List AsyEntry) (lanes : Tbl (Option Lane)) : Block := { base with
  assay := { binding := [(2047, 0x20#32)] }
  taps := [(2047, { ctrl := ctrl, asy := asy })]
  meas := { lanes := lanes, ring := [[7]], built := 1 } }

/-- A beat of 64 bytes for image measurement. -/
def beat64 : AsyEntry := { beat := { data := [1], bytes := 0, last := false, fmt := 0, tid := 0 }, ctx := 0 }

/-- Image 2047 of tap 2047 with `n` bytes staged at 0. -/
def lane (n : Nat) : Lane := { tap := 2047, stage := 1, image := 2047, tenant := none, staged := n, stagedGt := 0 }

/-- A refused image of tap 2047. -/
def closed0 : LogInfo :=
  { image := 2047, stage := 1, status := 5, tap := 2047, tenant := none, bytes := 0, digest := [], gt := 0, epoch := 0 }

theorem witness_MeasurementEventsAct :
    (let b := loading [(pay (2 ^ 43 + 2047 * 2 ^ 32), 0, 0, 0)] [] [(0, some { lane 0 with tap := 5 })]
     b.running = true ∧ (b.tap 2047).ctrlHead = some (pay (2 ^ 43 + 2047 * 2 ^ 32), 0, 0, 0) ∧
       payKind (pay (2 ^ 43 + 2047 * 2 ^ 32)) = 0 ∧ b.laneOf 2047 = none ∧ 1 < 8 ∧ b.lane 1 = none ∧
       ∀ j, j < 1 → b.lane j ≠ none) ∧
    (let b := loading [(pay (2 ^ 44), 0, 0, 0)] [] [(7, some (lane 0))]
     (b.tap 2047).ctrlHead = some (pay (2 ^ 44), 0, 0, 0) ∧ payKind (pay (2 ^ 44)) = 1 ∧
       b.laneOf 2047 = some (7, lane 0)) ∧
    (∃ (b : Block) (i : LogInfo), b.meas.closing = [(8, i)] ∧ (b.tenant 64).resetting = false ∧ b.meas.ring.length < 256) ∧
    (∃ (b : Block) (i : LogInfo), b.meas.closing = [(8, i)] ∧ 256 ≤ b.meas.ring.length) ∧
    (let b := loading [] [beat64] []
     b.running = true ∧ b.weightLoad 2047 = true ∧ (b.tap 2047).ctrlHead = none ∧ (b.tap 2047).asy = [beat64] ∧
       beat64.skip = 0 ∧ b.laneOf 2047 = none) ∧
    (let b := loading [] [beat64] [(7, some (lane 32704))]
     b.laneOf 2047 = some (7, lane 32704) ∧ ((lane 32704).drain b.gt).incomplete = false ∧
       ((lane 32704).drain b.gt).staged + 64 ≤ 32768 ∧ 32768 < ((lane 32705).drain b.gt).staged + 64) ∧
    ((loading [] [] []).running = true ∧ (loading [] [] []).meas.ring = [[7]] ∧ (loading [] [] []).meas.quoteAck = false ∧
      (loading [] [] []).meas.built ≠ 0 ∧ (loading [] [] []).meas.ifrAck = false ∧ (loading [] [] []).power.st ≠ .off) ∧
    (∃ b : Block, b.meas.quoteAck = false ∧ (b.requestWake 7).running = false ∧ b.power.st ≠ .run ∧ b.power.st ≠ .off ∧
      b.power.goal ≠ .off) := by
  refine ⟨?_, ?_, ⟨{ base with meas := { closing := [(8, closed0)] } }, _, rfl, ?_⟩,
    ⟨{ base with meas := { closing := [(8, closed0)], ring := List.replicate 256 [] } }, _, rfl, ?_⟩,
    ?_, ?_, ?_, ⟨{ base with power := { up with st := .kiln, goal := .kiln } }, ?_⟩⟩ <;>
    (repeat' apply And.intro) <;> decide +kernel

/-- A block reset logs each open image as ABORTED (R447, R464). -/
theorem test_reset_aborts_images : (let b := (loading [] [] [(7, some (lane 0)), (2, some (lane 0))]).abortImages.buildLog
    b.meas.built = 3 ∧ b.meas.lanes = []) := by decide +kernel

/-- An exchange without a mark is rejected (R503): the child drops its own, and the parent's FUP spreads the stamps. -/
theorem test_missing_mark : exchanges 0 [(0, (missing, 5)), (1, (5, missing))] [] = [] ∧
    (fupStamps 9 (100, missing)).2 - 100 = 2 ^ 54 := by decide

/-! ### Witnesses for the statements about all commands -/

theorem witness_StepRunsTheFrontCommand : ({ State.reset with pending := [.logTake, .viewRefresh] } : State).pending =
    .logTake :: [.viewRefresh] := rfl

theorem witness_IdleStepPassesOneCycle :
    (st base).pending = [] ∧ (∃ s : State, s.pending = [] ∧ s.block.power.st = .off ∧ s.block.meas.closing = []) ∧
    (∃ s : State, s.pending = [] ∧ s.block.running = false ∧ s.block.power.st ≠ .off ∧ s.block.power.goal ≠ .off) ∧
    (∃ s : State, s.pending = [] ∧ s.block.power.st = .nap ∧ s.block.meas.closing = [] ∧ s.block.freezes = [] ∧
      s.block.power.goal ≠ .off ∧ s.block.power.irqUp.isSome = true) ∧
    (∃ s : State, s.pending = [] ∧ s.block.power.st = .kiln ∧ s.block.power.goal ≠ .off ∧ ∀ n, n ≤ 64 → (s.block.tenant n).due = []) ∧
    (∃ s : State, s.pending = [] ∧ s.block.power.phase ≠ 0 ∧ s.block.power.st = .doze) ∧
    (∃ s : State, s.pending = [] ∧ s.block.power.phase ≠ 0 ∧ s.block.power.st = .run ∧ s.block.power.quiesce = true) :=
  ⟨rfl, ⟨st { power := { st := .off } }, rfl, rfl, rfl⟩, ⟨st { power := { st := .nap } }, by decide⟩,
    ⟨st { power := { st := .nap, irqUp := some (63, 7) } }, by decide⟩, ⟨st { power := { st := .kiln } }, by decide⟩, ⟨st { power := { up with st := .doze } }, rfl, by decide, rfl⟩,
    ⟨st { power := { up with quiesce := true } }, rfl, by decide, rfl, rfl⟩⟩

theorem witness_CommandsKeepTheirFrame : ∃ t, exec .logTake (st base) = .next t := ⟨_, rfl⟩

theorem witness_QuotaRangesAreKept : State.reset.block.quotasOk ∧ ∃ t, step State.reset = .next t := by
  refine ⟨fun n => ?_, _, rfl⟩
  by_cases h : n = 64
  · subst h; rfl
  · simp only [State.reset, Block.tenant, tget, tenantReset, if_neg h]
    rfl

theorem witness_PortsAreNegotiated :
    (packetOf (.nop 3 (pk [])) = some (3, 3, pk []) ∧ catalogue 3 = some cmdNop ∧ base.starts 3 (pk []) cmdNop ∧
      (({ base with ports := [] } : Block).starts 3 (pk []) cmdNop ∧ (({ base with ports := [] } : Block).port 3).negotiated = false)) ∧
    (packetOf (.negotiate 3 (pk [0x0404])) = some (0, 3, pk [0x0404]) ∧ catalogue 0 = some cmdNegotiate ∧
      base.starts 3 (pk [0x0404]) cmdNegotiate ∧ fld (0x0404#32) 0 8 ≤ 4 ∧ 4 ≤ fld (0x0404#32) 8 8) ∧
    (base.starts 3 (pk [0x0303]) cmdNegotiate ∧ ¬(fld (0x0303#32) 0 8 ≤ 4 ∧ 4 ≤ fld (0x0303#32) 8 8)) ∧
    ((base.requestWake 3).running = true ∧ (base.tenant 63).resetting = false) ∧
    (∃ b : Block, b.power.quiesce = true ∧ (∀ e, e ∈ b.sparge.chans → e.2.flight = []) ∧
      (∀ h, h ∈ b.sparge.scrubs → h.flight = []) ∧ b.sparge.orphans = []) := by
  refine ⟨?_, ?_, ?_, ?_, ⟨{ base with power := { up with quiesce := true } }, ?_⟩⟩ <;> (repeat' apply And.intro) <;> first | rfl | decide

theorem witness_PacketsAreCheckedBeforeTheyAct :
    (packetOf (.nop 3 (pk [1])) = some (3, 3, pk [1]) ∧ catalogue 3 = some cmdNop ∧ base.starts 3 (pk [1]) cmdNop ∧
      (base.port 3).negotiated = true ∧ cmdNop.hi < (pk [1]).params.length) ∧
    (packetOf (.tapSet 3 (pk [1])) = some (0x10, 3, pk [1]) ∧ catalogue 0x10 = some cmdTapSet ∧
      base.starts 3 (pk [1]) cmdTapSet ∧ (pk [1]).params.length < cmdTapSet.lo) ∧
    (catalogue 0x12 = some cmdCtxWrite ∧ base.starts 3 (pk [9, 9]) cmdCtxWrite ∧
      cmdCtxWrite.range (callOf 3 (pk [9, 9])) = true ∧ (3 : Fin 65).val < 64 ∧ cmdCtxWrite.priv = .own ∧
      cmdCtxWrite.owns (callOf 3 (pk [9, 9])) base = false) ∧
    (base.starts 3 (pk [1, 2]) cmdTapSet ∧ cmdTapSet.range (callOf 3 (pk [1, 2])) = true ∧ cmdTapSet.priv = .op) ∧
    (catalogue 0x30 = some cmdCaskMode ∧ base.starts 64 (pk [0x303, 10001]) cmdCaskMode ∧
      cmdCaskMode.lo ≤ (pk [0x303, 10001]).params.length ∧ (pk [0x303, 10001]).params.length ≤ cmdCaskMode.hi ∧
      cmdCaskMode.range (callOf 64 (pk [0x303, 10001])) = false) := by
  (repeat' apply And.intro) <;> first | rfl | decide

theorem witness_OperatorResetActsOnPortsOnly : base.power.st ≠ .off := by decide

theorem witness_GtIsTruncated : base.power.st = .run ∧ ({ st := .doze } : Power).st = .doze := by decide

/-! ### Ill-formed commands -/

/-- A frame of the sizes that R414 gives. -/
def good : Frame := frm 2 0 [] (List.replicate 32 0)

theorem test_wf_packet : (Instr.nop 3 (pk (List.replicate 255 0))).wf = true ∧ (Instr.nop 3 (pk (List.replicate 256 0))).wf = false := by
  decide +kernel
theorem test_wf_beat : (Instr.tapAssayBeat 0 { data := List.replicate 65 0, bytes := 0, last := true, fmt := 0, tid := 0 }).wf = false := by
  decide
theorem test_wf_frame_good : (Instr.idleReceive 0 good).wf = true := by decide
theorem test_wf_frame_body : (Instr.idleReceive 0 { good with body := [] }).wf = false := by decide
theorem test_wf_frame_flits : (Instr.electReceive 0 { good with pflits := 9, payload := List.replicate 288 0 }).wf = false := by
  decide +kernel
theorem test_wf_frame_payload : (Instr.vectorReceive 0 { good with pflits := 2 }).wf = false := by decide
theorem test_wf_frame_tag : (Instr.rotateReceive 0 { good with tag := List.replicate 16 0 }).wf = false := by decide
theorem test_wf_trips_order : (Instr.tcalPeriodic [(5, 0), (5, 0)]).wf = false := by decide
theorem test_wf_trips_value : (Instr.calibrateEnd [(5, 65536)]).wf = false ∧ (Instr.calibrateEnd [(5, 65535)]).wf = true := by decide
theorem test_wf_stamp : (Instr.tsyncReqSend 0 (2 ^ 72 + 1)).wf = false ∧ (Instr.tsyncReqReceive 0 good (2 ^ 72 + 1) 0).wf = false ∧
    (Instr.tsyncReqReceive 0 good 0 (2 ^ 72 + 1)).wf = false ∧ (Instr.tsyncRspReceive 0 good (2 ^ 72 + 1)).wf = false ∧
    (Instr.tsyncRspReceive 0 good (2 ^ 72)).wf = true := by decide +kernel
theorem test_wf_descriptor : (Instr.descriptorReadReturn 0 [] false).wf = false := by decide
theorem test_wf_index : (Instr.indexReadReturn 0 (List.replicate 129 0) false).wf = false := by decide +kernel
theorem test_wf_bad_units : (Instr.channelIssueBeat 0 [3, 2]).wf = false := by decide
theorem test_wf_wake : (Instr.wakeRequest []).wf = false := by decide
theorem test_wf_macros : (Instr.selftestEnd [7, 7] false false false 0).wf = false := by decide

/-! ### Examples of the specification and of the published algorithms -/

/-- The TRACE unit of the example in 05_wort_format: its header and its first 47 bytes of packets. -/
theorem test_trace_unit : ({ kind := 2, interest := 1, owner := 9, tagEpoch := 4, source := 12, seqNo := 0x41, marker := true
                             body := timePacket false { num := 0, seq := 17, cause := 0, gt := 0x1E848000, epoch := 7, lb := 6, fb := 20
                                                        strobed := 0xFFFF } ++
                               itemPacket false clsAnchor 5 false (.known 3) (pay 0x045400000000) ++
                               itemPacket false clsS 5 false (.known 40) (pay 0x028480000001) ++ lossPacket false 7 0 3 } : WUnit).bytes =
    [0x52, 0x82, 0x80, 0xBD, 0x41, 0, 0, 1, 0x10, 0x58, 0, 0x11, 0, 0x80, 0x84, 0x1E, 0, 0, 0, 0, 0, 7, 6, 0x14] ++
    [0xFF, 0xFF, 0, 0, 0, 0, 0, 0, 0x5E, 8, 3, 0, 0, 0, 0, 0x54, 4, 0x54, 8, 0x28, 1, 0, 0, 0x80, 0x84, 2, 0x30, 0xC, 7, 3, 0] ++
    List.replicate 9 0 := by decide

/-- The offset measurement of the example in 02_time, in 1/256 ns. -/
theorem test_offset_example : exchanges 128 [(0, (1280105600, 1280131200))]
    (leBytes 7 1280000000 ++ leBytes 7 1280031872 ++ leBytes 8 (2 ^ 64 - 320000)) =
    [{ delta := 3136, theta := 102400, off := -320000 }] := by decide +kernel

/-- Lines of the table of candidates in 08_assay: (clip, tie). -/
theorem test_candidates : classify 0 (253, -2) (1, -1) = (false, true) ∧ classify 0 (127, -1) (1, -1) = (false, false) ∧
    classify 0 (255, -2) (1, -1) = (true, false) ∧ classify 0 (-3, -2) (1, -1) = (false, true) ∧
    classify 0 (-128, 0) (1, 0) = (true, false) ∧ classify 1 (13, -3) (1, -2) = (false, true) ∧
    classify 2 (432, 0) (1, 0) = (false, true) ∧ classify 2 (449, 0) (1, 0) = (true, false) ∧
    classify 2 (1, -10) (1, 0) = (false, true) ∧ classify 3 (53248, 0) (1, 0) = (false, true) ∧
    classify 3 (57345, 0) (1, 0) = (true, false) := by decide +kernel

/-- The coarse values of the example in 13_tenants_qos: BUSY by 4,096 and STALL_ENTRIES by 64. -/
theorem test_coarse : coarsen 3 123456789 = 123453440 ∧ coarsen 9 1000037 = 1000000 := by decide

/-- The check value of CRC-32C over the digits 1 to 9. -/
theorem test_crc32c : crc32c [0x31, 0x32, 0x33, 0x34, 0x35, 0x36, 0x37, 0x38, 0x39] = 0xE3069283 := by decide +kernel

/-- SHA-384 of "abc" (FIPS 180-4 example): the first eight bytes. -/
theorem test_sha384 : (sha384 [0x61, 0x62, 0x63]).take 8 = [0xCB, 0, 0x75, 0x3F, 0x45, 0xA3, 0x5E, 0x8B] := by decide +kernel

/-- The substitution of 0x53 (FIPS 197, 4.2.1 and 5.1.1). -/
theorem test_sbox : sbox 0x53 = 0xED := by decide

/-! ### Single commands -/

/-- What a next state shows of its block. -/
def after {α : Type} (o : Host.Outcome State Fault Refusal) (f : Block → α) : Option α :=
  match o with
  | .next t => some (f t.block)
  | _ => none

/-- Instance 5 with every port unnegotiated. -/
def inst5 : Block := { base with ports := [], hop := { nodeId := 5 } }

/-- Steps 1 and 4 of the example in 12_command_catalogue. -/
theorem test_negotiate_operator : after (exec (.negotiate 64 { pk [0x404] with tag := 1 }) (st inst5))
    (fun b => (b.port 64).ring.map Rsp.words) = some [[0x00020101#32, 0x00040404#32, 0x00000540#32]] := by decide +kernel
theorem test_negotiate_tenant : after (exec (.negotiate 2 { pk [0x404] with tag := 1 }) (st inst5))
    (fun b => (b.port 2).ring.map Rsp.words) = some [[0x00020101#32, 0x00040404#32, 0x00000502#32]] := by decide +kernel

/-- Step 5 of that example: a tenant's write merges `CLASSES` and `INTEREST` into the operator's entry. -/
theorem test_ctx_write_merges : after (exec (.ctxWrite 3 (pk [0x41, 0x00590000])) (st { base with ctxs := [(0x41, 0x86000000#32)] }))
    (fun b => b.ctxEntry 0x41) = some 0x86590000#32 := by decide

/-- ECHO of 50 bytes in 13 words (11_command_interface): bytes 50 and 51 are not returned. -/
theorem test_echo_pads : after (exec (.echo 64 { pk (List.replicate 13 0xFFFFFFFF#32) with lastStrb := 3 }) (st base))
    (fun b => (b.port 64).ring.map (fun r => (r.words.length, r.words.getLast?))) = some [(14, some 0x0000FFFF#32)] := by
  decide +kernel

/-- Cycle 98 of the example in 03_grist_taps: O CONTEXT outranks the anchor mark, which waits one cycle more. -/
theorem test_slot_order : after (exec (.tapSlotWrite 2047 2) (st (tap' { onTap with pCtx := some (0, 0x41), pAnchor := some (5, 17, 0, 0) })))
    (fun b => ((b.tap 2047).chain.map (fun e => (e.cls, e.delta)), (b.tap 2047).pAnchor.isSome)) =
    some ([(clsO, 2)], true) := by decide

/-- A full chain drops its oldest entry (R72). -/
theorem test_chain_drops_oldest : after (exec (.tapAcceptItem 2047 1 3 (pay (2 ^ 44)))
    (st (tap' { onTap with chain := { item with delta := 9 } :: List.replicate 31 item })))
    (fun b => ((b.tap 2047).chain.length, (b.tap 2047).chain.head?.map Entry.delta)) = some (32, some 0) := by decide

/-- A 1 written to `INT_STATUS` clears its bit and leaves the others. -/
theorem test_int_clear : after (exec (.intStatusClear (rq 3 4 15)) (st { base with tenants := [(3, { intStatus := 6 })] }))
    (fun b => (b.tenant 3).intStatus) = some 2#32 := by decide +kernel

/-- A FREEZE takes the lowest free slot, with its T in 1/256 ns (R284, R290). -/
theorem test_freeze_takes_slot : after (exec (.freeze 64 (pk [0, 256000, 0, 0])) (st frozen))
    (fun b => ((b.freezeSlot 1).st, (b.freezeSlot 1).t)) = some (.scheduled, 256000) := by decide +kernel

/-- Returned credit leaves at most 1,024 credits (R418). -/
theorem test_idle_credit : after (exec (.idleReceive 5 (stampCrc { frm 0 0xFFF [] [] with cred := 255 }))
    (st (port5 { up3 with credits := 1000 }))) (fun b => (b.hopPort 5).credits) = some 1024 := by decide +kernel

/-- A tenant that is not the owner changes nothing and is counted once (R362). -/
theorem test_violation : after (exec (.ctxWrite 3 (pk [9, 0xFFFFFFFF])) (st base))
    (fun b => (b.ctxs, (b.tenant 3).violations)) = some ([], 1) := by decide +kernel

/-- An idle cycle in Doze adds the rate word, 0.625 ns in 2⁻³² ns (R31). -/
theorem test_idle_cycle : after (step (st { base with power := { up with st := .doze } })) (fun b => b.time.tb) =
    some 2684354560 := by decide +kernel

end Sys2Proof.Tests
end

namespace Sys2Proof.Machine

/-! ### The catalogue entries of R340 and R341 that write an entry -/

section
variable {c : Call} {b : Block} {n : Nat}

/-- TAP_SET of a present tap (R21, R92). -/
theorem cmdTapSet_body_of_present (h : b.present (c.fld 0 0 11) = true) :
    cmdTapSet.body c b = ok ((b.modView (c.fld 0 0 11) (fun v => { v with aEn := bit (c.w 1) 1 })).modTap (c.fld 0 0 11)
      (fun t => { t with
        use := bit (c.w 1) 0, cfg := t.cfg ++ [.aEnable (bit (c.w 1) 1)], badClass := t.badClass && !bit (c.w 1) 2 })) := by
  simp [cmdTapSet, h]

/-- TAP_SET of an absent tap has nothing to set (log entry 55). -/
theorem cmdTapSet_body_of_absent (h : b.present (c.fld 0 0 11) = false) : cmdTapSet.body c b = ok b := by
  simp [cmdTapSet, h]

/-- Configuration notes leave the context table alone (R462). -/
@[simp] theorem Block.touchOwners_ctxEntry {o o' : Nat} : (b.touchOwners c o o').ctxEntry n = b.ctxEntry n :=
  congrArg (fun x => tget 0 x n)
    (Block.ctxs_of_seen (Block.touchOwners_seen (M := [.tenants, .out]) (by decide)) (by decide))

/-- Configuration notes leave the stations alone (R462). -/
@[simp] theorem Block.touchOwners_station {o o' : Nat} : (b.touchOwners c o o').station n = b.station n :=
  congrArg (fun x => tget ({} : Station) x n)
    (Block.stations_of_seen (Block.touchOwners_seen (M := [.tenants, .out]) (by decide)) (by decide))

/-- An entry of a table after one key was written. -/
theorem tget_tset_ite {α : Type} [DecidableEq α] {t : Tbl α} {d v : α} {n m : Nat} :
    tget d (tset d t n v) m = if m = n then v else tget d t m := by
  split
  · rename_i h; rw [h, tget_tset]
  · exact tget_tset_of_ne ‹_›

/-- `insertBy` adds its element and nothing else. -/
@[simp] theorem mem_insertBy {α : Type} {before : α → α → Bool} {x y : α} {l : List α} :
    y ∈ insertBy before x l ↔ y = x ∨ y ∈ l := by
  induction l with
  | nil => simp [insertBy]
  | cons z l ih =>
    unfold insertBy
    split
    · simp
    · rw [List.mem_cons, ih, List.mem_cons]; tauto

end

/-- The operands of a call that a packet makes. -/
theorem callOf_w {f : Nat} {p : Pkt} {ws : List Word} (h : p.params = ws) (k : Nat) : (callOf f p).w k = ws.getD k 0 := by
  rw [← h]; rfl

theorem callOf_fld {f : Nat} {p : Pkt} {ws : List Word} (h : p.params = ws) (k lo n : Nat) :
    (callOf f p).fld k lo n = fld (ws.getD k 0) lo n := by
  rw [← h]; rfl

/-- The context entry that CTX_WRITE leaves (R95, R335, R369). -/
def ctxWritten (f : Nat) (old v : Word) : Word :=
  if f ≠ 64 then mix old v 0x00FF0000#32
  else if fld v 25 6 = fld old 25 6 then v &&& 0xFFFF0000#32 else v &&& 0xFF000000#32

/-- The rule that LAUTER_WRITE leaves (R101, R335, R369). -/
def ruleWritten (f : Nat) (old : List Word) (r0 r1 r2 r3 r4 : Word) : List Word :=
  let w0 := if f = 64 then r0 &&& 0x1FFFFFFF#32 else mix (old.getD 0 0) r0 0x003FFFFF#32
  if fld w0 22 7 = ruleOwner old then [w0, r1 &&& 0x00FFFFFF#32, r2, r3, r4 &&& 0x003F003F#32]
  else [w0 &&& 0x1FC00000#32, 0, 0, 0, 0]

theorem fld_eq_extract {n : Nat} (x : BitVec n) (lo k : Nat) : fld x lo k = (x.extractLsb' lo k).toNat := by
  simp [fld, nfld, Nat.shiftRight_eq_div_pow]

/-- The owner field of a rule that the operator writes is the packet's. -/
theorem fld_owner_and (r : Word) : fld (r &&& 0x1FFFFFFF#32) 22 7 = fld r 22 7 := by
  rw [fld_eq_extract, fld_eq_extract, BitVec.extractLsb'_and,
    show (0x1FFFFFFF#32).extractLsb' 22 7 = BitVec.allOnes 7 from rfl, BitVec.and_allOnes]

/-- The owner field of a rule that a tenant writes stays (R335). -/
theorem fld_owner_mix (old r : Word) : fld (mix old r 0x003FFFFF#32) 22 7 = fld old 22 7 := by
  rw [fld_eq_extract, fld_eq_extract, mix, BitVec.extractLsb'_or, BitVec.extractLsb'_and, BitVec.extractLsb'_and,
    show (~~~0x003FFFFF#32).extractLsb' 22 7 = BitVec.allOnes 7 from rfl,
    show (0x003FFFFF#32).extractLsb' 22 7 = 0#7 from rfl, BitVec.and_allOnes, BitVec.and_zero, BitVec.or_zero]

/-- The written rule: with a new owner only that owner stays, and only the operator names one. -/
theorem ruleWritten_eq (f : Nat) (old : List Word) (r0 r1 r2 r3 r4 : Word) : ruleWritten f old r0 r1 r2 r3 r4 =
    if f = 64 ∧ fld r0 22 7 ≠ ruleOwner old then [r0 &&& 0x1FC00000#32, 0, 0, 0, 0]
    else [if f = 64 then r0 &&& 0x1FFFFFFF#32 else mix (old.getD 0 0) r0 0x003FFFFF#32,
      r1 &&& 0x00FFFFFF#32, r2, r3, r4 &&& 0x003F003F#32] := by
  unfold ruleWritten
  by_cases hf : f = 64
  · by_cases ho : fld r0 22 7 = ruleOwner old
    · simp [hf, fld_owner_and, ho]
    · simp [hf, fld_owner_and, ho, BitVec.and_assoc]
  · simp [hf, fld_owner_mix, ruleOwner]

section
variable {f : Nat} {p : Pkt} {b : Block}

/-- What CTX_WRITE does to the context table; the owners only take notes. -/
theorem cmdCtxWrite_body {w v : Word} (hw : p.params = [w, v]) : ∃ old new, cmdCtxWrite.body (callOf f p) b =
    ok (({ b with ctxs := tset 0 b.ctxs (fld w 0 12) (ctxWritten f (b.ctxEntry (fld w 0 12)) v) } : Block).touchOwners
      (callOf f p) old new) := by
  cases p; cases hw; exact ⟨_, _, rfl⟩

/-- What LAUTER_WRITE does to the rules; the owners only take notes. -/
theorem cmdLauterWrite_body {w r0 r1 r2 r3 r4 : Word} (hw : p.params = [w, r0, r1, r2, r3, r4]) :
    ∃ old new, cmdLauterWrite.body (callOf f p) b = ok ((b.modStation (fld w 0 5) (fun s => { s with
      rules := tset ruleReset s.rules (fld w 8 4)
        (ruleWritten f (b.rule (fld w 0 5) (fld w 8 4)) r0 r1 r2 r3 r4) })).touchOwners (callOf f p) old new) := by
  cases p; cases hw; exact ⟨_, _, rfl⟩

/-- The owners of default action exclude after LAUTER_DEFAULT (R103). -/
def defaultWritten (w : Word) (l : List Nat) : List Nat :=
  if bit w 16 then l.filter (· != fld w 8 7)
  else if l.contains (fld w 8 7) then l else insertBy (fun x y => decide (x < y)) (fld w 8 7) l

theorem mem_defaultWritten {w : Word} {l : List Nat} : fld w 8 7 ∈ defaultWritten w l ↔ bit w 16 = false := by
  unfold defaultWritten
  cases bit w 16
  · by_cases h : fld w 8 7 ∈ l <;> simp [h]
  · simp

theorem mem_defaultWritten_of_ne {w : Word} {l : List Nat} {o : Nat} (h : o ≠ fld w 8 7) :
    o ∈ defaultWritten w l ↔ o ∈ l := by
  unfold defaultWritten
  split
  · simp [h]
  · split <;> simp [h]

/-- What LAUTER_DEFAULT does to the default actions. -/
theorem cmdLauterDefault_body {w : Word} (hw : p.params = [w]) : cmdLauterDefault.body (callOf f p) b =
    ok (b.modStation (fld w 0 5) (fun s => { s with defExclude := defaultWritten w s.defExclude })) := by
  cases p; cases hw; rfl

/-- What CMP_WRITE does to the comparators. -/
theorem cmdCmpWrite_body {w c0 c1 c2 c3 c4 c5 : Word} (hw : p.params = [w, c0, c1, c2, c3, c4, c5]) :
    cmdCmpWrite.body (callOf f p) b = ok (b.modStation (fld w 0 5) (fun s => { s with
      seq := { s.seq with
               comps := tset {} s.seq.comps (fld w 8 3)
                 { w := [c0 &&& 0x0FFFFFFF#32, c1 &&& 0x00FFFFFF#32, c2, c3, c4, c5 &&& 0x0000FFFF#32] } } })) := by
  cases p; cases hw; rfl

/-- CTX_WRITE does to the owners what notes do (R462). -/
theorem cmdCtxWrite_tenant {c : Call} (g : Nat) :
    ∃ x, (cmdCtxWrite.body c b).2.tenant g = { b.tenant g with cfgChanged := x } := by
  unfold cmdCtxWrite ok
  dsimp only
  generalize hb : ({ b with ctxs := _ } : Block) = b'
  have ht : b'.tenant g = b.tenant g := by rw [← hb]; rfl
  exact ht ▸ Block.touchOwners_tenant

/-- LAUTER_WRITE does to the owners what notes do (R462). -/
theorem cmdLauterWrite_tenant {c : Call} (g : Nat) :
    ∃ x, (cmdLauterWrite.body c b).2.tenant g = { b.tenant g with cfgChanged := x } := by
  unfold cmdLauterWrite ok
  dsimp only
  generalize hb : b.modStation c.st _ = b'
  have ht : b'.tenant g = b.tenant g := by rw [← hb]; rfl
  exact ht ▸ Block.touchOwners_tenant

end

/-! ### The obligation, command by command -/

section
variable {f : Fin 65} {p : Pkt} {s : State}

theorem tapSet_present {w v : Word} (hw : p.params = [w, v]) (hf : f.val = 64) (h : s.block.hears f p 0 false)
    (hp : s.block.present (fld w 0 11) = true) :
    ∃ t, exec (.tapSet f p) s = .next t ∧ s.block.answered t.block f p stDone [] ∧ s.block.calm t.block f [.taps, .views] ∧
      (∀ n, t.block.tap n = if n = fld w 0 11 then { s.block.tap n with
          use := bit v 0, cfg := (s.block.tap n).cfg ++ [.aEnable (bit v 1)]
          badClass := (s.block.tap n).badClass && !bit v 2 } else s.block.tap n) ∧
      (∀ n, t.block.view n = if n = fld w 0 11 then { s.block.view n with aEn := bit v 1 } else s.block.view n) := by
  have hl : p.params.length = 2 := by rw [hw]; rfl
  have hn : (callOf f p).fld 0 0 11 = fld w 0 11 := callOf_fld hw ..
  have hb := cmdTapSet_body_of_present (c := callOf f p) (b := s.block.begun 0x10 f p) (by rw [hn]; exact hp)
  refine heard_calm (op := 0x10) (e := cmdTapSet) h rfl (Nat.le_refl 0) (absurd · Bool.false_ne_true) hl.ge hl.le
    rfl (.inl hf) (by rw [hb]; rfl) (.inl (by decide)) (fun M hM => cmdTapSet_seen hM) (by decide) ?_
  rw [hb, hn, callOf_w hw]
  simp [ok, Block.tap_modTap_ite, Block.view_modView_ite]

theorem tapSet_absent {w v : Word} (hw : p.params = [w, v]) (hf : f.val = 64) (h : s.block.hears f p 0 false)
    (hp : s.block.present (fld w 0 11) = false) :
    ∃ t, exec (.tapSet f p) s = .next t ∧ s.block.answered t.block f p stDone [] ∧ s.block.calm t.block f [] := by
  have hl : p.params.length = 2 := by rw [hw]; rfl
  have hb := cmdTapSet_body_of_absent (c := callOf f p) (b := s.block.begun 0x10 f p) (by rw [callOf_fld hw]; exact hp)
  obtain ⟨t, ht, ha, hc, -⟩ := heard_calm (op := 0x10) (e := cmdTapSet) (P := fun _ => True) (away := []) h rfl
    (Nat.le_refl 0) (absurd · Bool.false_ne_true) hl.ge hl.le rfl (.inl hf) (by rw [hb]; rfl) (.inl (by decide))
    (fun M _ => by rw [hb]; rfl) (by decide) trivial
  exact ⟨t, ht, ha, hc⟩

theorem ctxWrite_writes {w v : Word} (hw : p.params = [w, v])
    (ho : f.val = 64 ∨ s.block.ctxTenant (fld w 0 12) = some f.val) (h : s.block.hears f p 0 false) :
    ∃ t, exec (.ctxWrite f p) s = .next t ∧ s.block.answered t.block f p stDone [] ∧ s.block.noted t.block f [.ctxs] ∧
      ∀ n, t.block.ctxEntry n =
        if n = fld w 0 12 then ctxWritten f (s.block.ctxEntry n) v else s.block.ctxEntry n := by
  have hl : p.params.length = 2 := by rw [hw]; rfl
  obtain ⟨old, new, hb⟩ := cmdCtxWrite_body (f := f) (b := s.block.begun 0x12 f p) hw
  have ht := cmdCtxWrite_tenant (c := callOf f p) (b := s.block.begun 0x12 f p)
  simp only [Block.begun_tenant] at ht
  refine heard_noted (op := 0x12) (e := cmdCtxWrite) h rfl (Nat.le_refl 0) (absurd · Bool.false_ne_true) hl.ge hl.le
    rfl (ho.imp_right fun ho => .inr ⟨rfl, ?_⟩) (by rw [hb]; rfl) (.inl (by decide)) (fun M hM => cmdCtxWrite_seen hM)
    ht (by decide) ?_
  · show ((s.block.begun 0x12 f p).ctxTenant ((callOf f p).fld 0 0 12) == some f.val) = true
    rw [callOf_fld hw]
    exact beq_iff_eq.2 ho
  · intro n
    rw [hb]
    simp only [ok, Block.ctxEntry, Block.respond_ctxs]
    refine (Block.touchOwners_ctxEntry (n := n)).trans (tget_tset_ite.trans ?_)
    split
    · rename_i hn; rw [hn]; rfl
    · rfl

theorem lauterWrite_writes {w r0 r1 r2 r3 r4 : Word} (hw : p.params = [w, r0, r1, r2, r3, r4])
    (hr : f.val = 64 → fld r0 22 7 ≤ 64)
    (ho : f.val = 64 ∨ ruleOwner (s.block.rule (fld w 0 5) (fld w 8 4)) = f.val) (h : s.block.hears f p 0 false) :
    ∃ t, exec (.lauterWrite f p) s = .next t ∧ s.block.answered t.block f p stDone [] ∧
      s.block.noted t.block f [.stations, .lauter] ∧
      (∀ st k, t.block.rule st k = if st = fld w 0 5 ∧ k = fld w 8 4 then
          ruleWritten f (s.block.rule st k) r0 r1 r2 r3 r4 else s.block.rule st k) ∧
      (∀ st, t.block.station st = { s.block.station st with rules := (t.block.station st).rules }) := by
  have hl : p.params.length = 6 := by rw [hw]; rfl
  obtain ⟨old, new, hb⟩ := cmdLauterWrite_body (f := f) (b := s.block.begun 0x20 f p) hw
  have ht := cmdLauterWrite_tenant (c := callOf f p) (b := s.block.begun 0x20 f p)
  simp only [Block.begun_tenant] at ht
  refine heard_noted (op := 0x20) (e := cmdLauterWrite) h rfl (Nat.le_refl 0) (absurd · Bool.false_ne_true) hl.ge hl.le
    ?_ (ho.imp_right fun ho => .inr ⟨rfl, ?_⟩) (by rw [hb]; rfl) (.inl (by decide)) (fun M hM => cmdLauterWrite_seen hM)
    ht (by decide) ⟨?_, ?_⟩
  · show (f.val != 64 || decide ((callOf f p).fld 1 22 7 ≤ 64)) = true
    rw [callOf_fld hw]
    by_cases hf : f.val = 64
    · simpa [hf] using hr hf
    · simp [hf]
  · show (ruleOwner ((s.block.begun 0x20 f p).rule ((callOf f p).fld 0 0 5) ((callOf f p).fld 0 8 4)) == f.val) = true
    rw [callOf_fld hw, callOf_fld hw]
    exact beq_iff_eq.2 ho
  · intro st k
    rw [hb]
    simp only [ok, Block.rule, Block.respond_station, Block.touchOwners_station, Block.station_modStation_ite,
      Block.begun_station]
    by_cases hst : st = fld w 0 5
    · subst hst
      simp only [if_true, true_and, tget_tset_ite]
      split
      · rename_i hk; rw [hk]
      · rfl
    · simp [hst]
  · intro st
    rw [hb]
    simp only [ok, Block.respond_station, Block.touchOwners_station, Block.station_modStation_ite, Block.begun_station]
    split <;> rfl

theorem lauterDefault_writes {w : Word} (hw : p.params = [w]) (hr : fld w 8 7 ≤ 64)
    (ho : f.val = 64 ∨ fld w 8 7 = f.val) (h : s.block.hears f p 0 false) :
    ∃ t, exec (.lauterDefault f p) s = .next t ∧ s.block.answered t.block f p stDone [] ∧
      s.block.calm t.block f [.stations, .lauter] ∧
      ∀ st, t.block.station st = if st = fld w 0 5 then
        { s.block.station st with defExclude := defaultWritten w (s.block.station st).defExclude } else s.block.station st := by
  have hl : p.params.length = 1 := by rw [hw]; rfl
  have hb := cmdLauterDefault_body (f := f) (b := s.block.begun 0x22 f p) hw
  have hn : (callOf f p).fld 0 8 7 = fld w 8 7 := callOf_fld hw ..
  refine heard_calm (op := 0x22) (e := cmdLauterDefault) h rfl (Nat.le_refl 0) (absurd · Bool.false_ne_true) hl.ge hl.le
    (decide_eq_true (hn ▸ hr)) (ho.imp_right fun ho => .inr ⟨rfl, beq_iff_eq.2 (hn.trans ho)⟩) (by rw [hb]; rfl)
    (.inl (by decide)) (fun M hM => cmdLauterDefault_seen hM) (by decide) ?_
  rw [hb]
  simp [ok, Block.station_modStation_ite]

theorem cmpWrite_writes {w c0 c1 c2 c3 c4 c5 : Word} (hw : p.params = [w, c0, c1, c2, c3, c4, c5])
    (ho : f.val = 64 ∨ (s.block.station (fld w 0 5)).seq.owner = f.val) (hm : fld c0 2 2 ≤ 2) (hs : fld c0 4 4 ≤ 5)
    (hc : classReserved (fld c0 8 4) = false) (h : s.block.hears f p 0 false) :
    ∃ t, exec (.cmpWrite f p) s = .next t ∧ s.block.answered t.block f p stDone [] ∧ s.block.calm t.block f [.stations] ∧
      (∀ st, t.block.station st = if st = fld w 0 5 then { s.block.station st with
          seq := { (s.block.station st).seq with
                   comps := tset {} (s.block.station st).seq.comps (fld w 8 3)
                     { w := [c0 &&& 0x0FFFFFFF#32, c1 &&& 0x00FFFFFF#32, c2, c3, c4, c5 &&& 0x0000FFFF#32] } } }
        else s.block.station st) := by
  have hl : p.params.length = 7 := by rw [hw]; rfl
  have hb := cmdCmpWrite_body (f := f) (b := s.block.begun 0x23 f p) hw
  refine heard_calm (op := 0x23) (e := cmdCmpWrite) h rfl (Nat.le_refl 0) (absurd · Bool.false_ne_true) hl.ge hl.le
    ?_ (ho.imp_right fun ho => .inr ⟨rfl, ?_⟩) (by rw [hb]; rfl) (.inl (by decide)) (fun M hM => cmdCmpWrite_seen hM)
    (by decide) ?_
  · show cmpRange (callOf f p) = true
    simp [cmpRange, callOf_fld hw, hm, hs, hc]
  · show ((s.block.station ((callOf f p).fld 0 0 5)).seq.owner == f.val) = true
    rw [callOf_fld hw]
    exact beq_iff_eq.2 ho
  · rw [hb]
    simp [ok, Block.station_modStation_ite]

end

/-- Settles O12: each write is heard and answered, and its body writes the entry that it names and nothing beside it. -/
theorem tapAndFilterWritesAct : Obligations.TapAndFilterWritesAct := by
  refine fun f p s => ⟨fun w v => tapSet_present, fun w v => tapSet_absent, fun w v => ctxWrite_writes, ?_, ?_,
    fun w c0 c1 c2 c3 c4 c5 => cmpWrite_writes⟩
  · intro w r0 r1 r2 r3 r4 hw hr ho h
    simpa only [ruleWritten_eq] using lauterWrite_writes hw hr ho h
  · intro w hw hr ho h
    obtain ⟨t, ht, ha, hc, hst⟩ := lauterDefault_writes hw hr ho h
    refine ⟨t, ht, ha, hc, ?_, fun st o hne => ?_, fun st => ?_⟩
    · rw [hst, if_pos rfl]
      exact mem_defaultWritten
    · rw [hst]
      split
      · exact mem_defaultWritten_of_ne fun ho => hne ⟨‹_›, ho⟩
      · rfl
    · rw [hst]
      split <;> rfl

end Sys2Proof.Machine

namespace Sys2Proof.Machine

/-- A ready block in Doze, not woken since its reset. -/
def dozing : Block := { power := { st := .doze, goal := .doze, phase := 6, brewGnt := true } }

/-- The operator's read of `PWR_STATE` (R475), which holds `LAST_WAKE`. -/
def pwrStateRead : Acc := { src := 64, addr := 0x40108, data := 0, strb := 15, id := 0 }

/-- In Doze the access wakes the block before it acts (R468), so that `LAST_WAKE` reads 1, the source of this wake, and no longer
0xF, none since reset. -/
theorem exec_pwrStateRead_dozing :
    ∃ t, exec (.splitLoRead pwrStateRead) { block := dozing } = .next t ∧
      t.block.out = [.rt 64 0 0x11#32] ∧ dozing.regRead (.op 0x108) = 0xF1#32 :=
  ⟨_, rfl, by decide, by decide⟩

/-- Refutes O31: in Doze a register read is itself a wake source (R468), which names itself in `LAST_WAKE` before the read
acts; so a read of `PWR_STATE` does not return the value of the state in which it was presented. -/
theorem not_registerAccessesAct : ¬ Obligations.RegisterAccessesAct := by
  rintro ⟨-, h, -⟩
  obtain ⟨t, ht, -, hb, -⟩ := h pwrStateRead { block := dozing } (.op 0x108) 64 rfl (Nat.le_refl 64) (by decide)
    (by decide) (by decide) (by decide)
  obtain ⟨t', ht', hout, hreg⟩ := exec_pwrStateRead_dozing
  obtain rfl : t = t' := by injection ht.symm.trans ht'
  have hbeat := (hb (by decide) (by decide)).1
  rw [hout, hreg] at hbeat
  exact absurd hbeat (by decide)

end Sys2Proof.Machine

namespace Sys2Proof.Machine

/-! ### Losses and bits -/

/-- A bit that was written 1 reads 1. -/
theorem bit_setFld_one {x : Word} {k : Nat} (hk : k < 32) : bit (setFld x k 1 1) k = true := by
  have hdiv : (x.toNat - x.toNat / 2 ^ k % 2 * 2 ^ k + 2 ^ k) / 2 ^ k % 2 = 1 := by
    have hx := Nat.div_add_mod x.toNat (2 ^ k)
    have hp : 0 < 2 ^ k := Nat.two_pow_pos k
    generalize hq : x.toNat / 2 ^ k = q at *
    have hsub : x.toNat - q % 2 * 2 ^ k + 2 ^ k = x.toNat % 2 ^ k + 2 ^ k * (q - q % 2 + 1) := by
      have hle : q % 2 ≤ q := Nat.mod_le _ _
      obtain ⟨d, hd⟩ := Nat.exists_eq_add_of_le hle
      rw [hd] at hx
      have : q - q % 2 = d := by omega
      rw [this, Nat.mul_add, Nat.mul_one, mul_comm (q % 2)]
      rw [Nat.mul_add] at hx
      omega
    rw [hsub, Nat.add_mul_div_left _ _ hp, Nat.div_eq_of_lt (Nat.mod_lt _ hp)]
    omega
  simp only [bit, setFld, nfld, BitVec.getLsbD_ofNat, hk, decide_true, Bool.true_and, Nat.testBit_eq_decide_div_mod_eq,
    pow_one, Nat.one_mod, Nat.one_mul, decide_eq_true_eq]
  exact hdiv

section
variable {b : Block} {k : Nat}

@[simp] theorem Block.loss_stations : (b.loss k).stations = b.stations := rfl
@[simp] theorem Block.loss_quads : (b.loss k).quads = b.quads := rfl
@[simp] theorem Block.loss_cask : (b.loss k).cask = b.cask := rfl
@[simp] theorem Block.loss_recs : (b.loss k).recs = b.recs := rfl
@[simp] theorem Block.loss_recLost : (b.loss k).power.recLost = b.power.recLost := rfl

/-- A loss sets its bit of `LOSS_SEEN` (R509). -/
theorem Block.loss_lossSeen (hk : k < 32) : bit (b.loss k).power.lossSeen k = true := bit_setFld_one hk

/-- A cause of an interrupt changes no record number. -/
@[simp] theorem Block.raise_rseq {n v m : Nat} : ((b.raise n v).tenant m).rseq = (b.tenant m).rseq := by
  by_cases h : m = n
  · subst h
    obtain ⟨is, due, e⟩ := Block.raise_tenant (b := b) (n := m) (v := v)
    rw [e]
  · rw [Block.raise_tenant_of_ne h]

@[simp] theorem Block.loss_rseq {m : Nat} : ((b.loss k).tenant m).rseq = (b.tenant m).rseq := by
  unfold Block.loss
  rw [Block.raise_rseq, Block.tenant_modPower]

end

/-! ### Pages -/

section
variable {b : Block} {p k : Nat} {u : WUnit}

/-- The page that closes is Full, or Held while its owner's hold lasts (R157, R168). -/
theorem Block.closePage_page : (b.closePage p).page k = if k = p then { b.page p with
    st := if (b.tenant (b.page p).owner).caskHold then .held else .full } else b.page k := by
  unfold Block.closePage
  rw [Block.page_modPage_ite]
  split
  · rename_i h; rw [h]
  · rfl

theorem Block.writeSlot_page_slots : ((b.writeSlot p u).page p).slots = (b.page p).slots ++ [u.bytes] := by
  unfold Block.writeSlot
  dsimp only
  split <;> simp [Block.closePage_page]

theorem Block.writeSlot_page_of_ne (h : k ≠ p) : (b.writeSlot p u).page k = b.page k := by
  unfold Block.writeSlot
  dsimp only
  split <;> simp [Block.closePage_page, Block.page_modPage_of_ne, h]

@[simp] theorem Block.admitUnit_stations : (b.admitUnit u).stations = b.stations :=
  Block.stations_of_seen (Block.admit_seen (M := [.cask, .tenants, .power]) (by decide)) (by decide)

@[simp] theorem Block.admitUnit_quads : (b.admitUnit u).quads = b.quads :=
  Block.quads_of_seen (Block.admit_seen (M := [.cask, .tenants, .power]) (by decide)) (by decide)

/-- A unit of an earlier epoch is discarded and counted (R28). -/
theorem Block.admitUnit_of_epoch_ne (h : u.tagEpoch ≠ b.epochOf u.owner) : b.admitUnit u =
    (b.modCask (fun c => { c with epochDiscard := satAdd 32 c.epochDiscard 1 })).loss 6 := by
  simp [Block.admitUnit, h]

/-- A unit of the current epoch goes into its owner's Open page of the same version (R153). -/
theorem Block.admitUnit_of_open (he : u.tagEpoch = b.epochOf u.owner) (ho : b.openPage u.owner u.interest = some p)
    (hv : (b.page p).ver2 = u.fmt2) : b.admitUnit u = b.writeSlot p u := by
  simp [Block.admitUnit, he, ho, hv]

end

/-! ### Grants (R124) -/

section
variable {b : Block} {q n l : Nat} {done : List Nat} {u : WUnit} {us : List WUnit}

theorem Block.headOwner_eq_none (h : (b.station (8 * q + l)).uq = []) : b.headOwner q l = none := by
  simp [Block.headOwner, h]

theorem Block.headOwner_eq_some (h : (b.station (8 * q + l)).uq = u :: us) : b.headOwner q l = some u.owner := by
  simp [Block.headOwner, h]

theorem mem_rrOrder {rr : Nat} (h : l ∈ rrOrder rr) : l < 8 := by
  simp only [rrOrder, List.mem_map] at h
  obtain ⟨i, -, rfl⟩ := h
  exact Nat.mod_lt _ (by decide)

/-- Every station of the quadrant has its place in the round robin, once. -/
theorem rrOrder_filter_eq {rr : Nat} (hl : l < 8) : (rrOrder rr).filter (fun m => m == l) = [l] := by
  have hmod : rrOrder rr = rrOrder (rr % 8) := by
    refine List.map_congr_left fun i _ => ?_
    omega
  have hall : ∀ r < 8, ∀ l < 8, (rrOrder r).filter (fun m => m == l) = [l] := by decide
  rw [hmod]
  exact hall _ (Nat.mod_lt _ (by decide)) l hl

/-- With nothing more to grant the ports stay idle. -/
theorem grantPorts_of_idle (h : ∀ l, l < 8 → l ∉ done → (b.station (8 * q + l)).uq = []) : grantPorts n b q done = b := by
  cases n with
  | zero => rfl
  | succ n =>
    have hc : (rrOrder (b.quad q).rr).filter (fun l => (b.headOwner q l).isSome && !done.contains l) = [] := by
      refine List.filter_eq_nil_iff.2 fun l hl => ?_
      by_cases hd : l ∈ done
      · simp [hd]
      · simp [Block.headOwner_eq_none (h l (mem_rrOrder hl) hd)]
    simp only [grantPorts, hc, List.isEmpty_nil, Bool.true_or, if_true, Block.pickStation]

/-- The block when station `l` of a quadrant is granted: every owner that waits has spent its credit, or none is reset. -/
def Block.readyFor (b : Block) (q : Nat) (u : WUnit) : Block :=
  if 0 < (b.quad q).creditOf u.owner then b else b.resetCredits q

@[simp] theorem Block.readyFor_stations : (b.readyFor q u).stations = b.stations := by
  unfold Block.readyFor; split <;> rfl

theorem Block.readyFor_of_pos (h : 0 < (b.quad q).creditOf u.owner) : b.readyFor q u = b := if_pos h

/-- The only waiting head is granted: it leaves its queue, its owner pays, and the cask admits it. -/
theorem grantPorts_of_single (hl : l < 8) (hu : (b.station (8 * q + l)).uq = u :: us)
    (ho : ∀ m, m < 8 → m ≠ l → (b.station (8 * q + m)).uq = []) :
    grantPorts (n + 1) b q [] = (((b.readyFor q u).modStation (8 * q + l) (fun s => { s with uq := us })).modQuad q
      (fun x => { x with credit := tmod 0 x.credit u.owner (· - 1), rr := l })).admitUnit u := by
  have hc : (rrOrder (b.quad q).rr).filter (fun l => (b.headOwner q l).isSome && !([] : List Nat).contains l) = [l] := by
    rw [← rrOrder_filter_eq (rr := (b.quad q).rr) hl]
    refine List.filter_congr fun m hm => ?_
    by_cases h : m = l
    · subst h; simp [Block.headOwner_eq_some hu]
    · simp [h, Block.headOwner_eq_none (ho m (mem_rrOrder hm) h)]
  have hready : (if [l].isEmpty || [l].any (fun l => decide ((b.quad q).creditOf ((b.headOwner q l).getD 64) > 0)) then b
      else b.resetCredits q) = b.readyFor q u := by
    simp [Block.headOwner_eq_some hu, Block.readyFor]
  have huq : ((b.readyFor q u).station (8 * q + l)).uq = u :: us := by
    rw [← hu]; simp [Block.station]
  rw [grantPorts]
  simp only [hc, hready, Block.pickStation, List.foldl_nil, huq]
  refine grantPorts_of_idle fun m hm hne => ?_
  have hml : m ≠ l := by simpa using hne
  rw [← ho m hm hml]
  simp [Block.station, Block.modStation, Block.modQuad, tget_tmod_of_ne, hml]

end

@[simp] theorem Block.freeFreezes_stations {b : Block} : b.freeFreezes.stations = b.stations := rfl
@[simp] theorem Block.freeFreezes_quads {b : Block} : b.freeFreezes.quads = b.quads := rfl
@[simp] theorem Block.freeFreezes_cask {b : Block} : b.freeFreezes.cask = b.cask := rfl
@[simp] theorem Block.freeFreezes_power {b : Block} : b.freeFreezes.power = b.power := rfl

/-- A running block is neither in Quiesce nor in Off. -/
theorem Block.ports_grant {b : Block} (h : b.running = true) (hp : 4 ≤ b.power.phase) :
    (!b.running || b.power.quiesce || b.power.st == .off || decide (b.power.phase < 4)) = false := by
  simp only [Block.running, Bool.and_eq_true, beq_iff_eq, Bool.not_eq_true'] at h ⊢
  obtain ⟨⟨⟨hst, hgoal⟩, hph⟩, hq⟩ := h
  simp [hst, hgoal, hph, hq, hp]

section
variable {s : State} {q : Fin 4}

/-- The record input is granted first; with the stations' queues empty it is granted alone. -/
theorem quadrantGrant_recIn {u : WUnit} {us : List WUnit} (hr : s.block.running = true) (hp : 4 ≤ s.block.power.phase)
    (hq : (s.block.quad q).recIn = u :: us) (hs : ∀ l, l < 8 → (s.block.station (8 * q + l)).uq = []) :
    ∃ t, exec (.quadrantGrant q) s = .next t ∧
      t.block = ((s.block.modQuad q (fun x => { x with recIn := us })).admitUnit u).freeFreezes := by
  refine ⟨_, rfl, ?_⟩
  simp only [Block.ports_grant hr hp, Bool.false_eq_true, if_false, hq]
  rw [grantPorts_of_idle]
  intro l hl _
  rw [← hs l hl]
  simp [Block.station]

/-- With the record input empty, the only waiting station is granted. -/
theorem quadrantGrant_single {l : Nat} {u : WUnit} {us : List WUnit} (hr : s.block.running = true)
    (hl : l < 8) (hq : (s.block.quad q).recIn = []) (hp : 4 ≤ s.block.power.phase)
    (hu : (s.block.station (8 * q + l)).uq = u :: us)
    (ho : ∀ m, m < 8 → m ≠ l → (s.block.station (8 * q + m)).uq = []) :
    ∃ t, exec (.quadrantGrant q) s = .next t ∧
      t.block = ((((s.block.readyFor q u).modStation (8 * q + l) (fun s => { s with uq := us })).modQuad q
        (fun x => { x with credit := tmod 0 x.credit u.owner (· - 1), rr := l })).admitUnit u).freeFreezes := by
  refine ⟨_, rfl, ?_⟩
  simp only [Block.ports_grant hr hp, Bool.false_eq_true, if_false, hq]
  rw [grantPorts_of_single hl hu ho]

end

/-! ### Records (R17) -/

section
variable {b : Block} {r : Rec}

@[simp] theorem Block.offerRec_recs : (b.offerRec r).recs = b.recs :=
  Block.recs_of_seen (Block.offerRec_seen (M := [.quads, .tenants, .power]) (by decide)) (by decide)

/-- An offered record consumes its number, also when it is lost (log entry 15). -/
theorem Block.offerRec_rseq : tget 0 ((b.offerRec r).tenant r.owner).rseq r.source =
    (tget 0 (b.tenant r.owner).rseq r.source + 1) % 2 ^ 16 := by
  unfold Block.offerRec
  dsimp only
  split <;> simp

/-- A record input with room takes the record whole: 64 units at once, the rest as room is freed. -/
theorem Block.offerRec_of_room (h : (b.quad (recQuad r.source)).roomFor r = true) :
    (b.offerRec r).quad (recQuad r.source) = { b.quad (recQuad r.source) with
      recIn := (b.quad (recQuad r.source)).recIn ++ (r.units (tget 0 (b.tenant r.owner).rseq r.source)).take 64
      recTail := (r.units (tget 0 (b.tenant r.owner).rseq r.source)).drop 64 } ∧
    (b.offerRec r).power = b.power := by
  simp [Block.offerRec, h]

/-- A record without room is lost and counted. -/
theorem Block.offerRec_of_full (h : (b.quad (recQuad r.source)).roomFor r = false) :
    (b.offerRec r).quads = b.quads ∧ bit (b.offerRec r).power.lossSeen 4 = true ∧
      tget 0 (b.offerRec r).power.recLost r.source = satAdd 32 (tget 0 b.power.recLost r.source) 1 := by
  simp [Block.offerRec, h, Block.loss_lossSeen]

end

/-! ### Fences and the patrol (R176 to R178) -/

/-- The page is out of use: fenced, or to be fenced when its drain ends (R178). -/
def Page.shut (g : Page) : Prop := g.st = .fenced ∨ (g.st = .draining ∧ g.fenceDue = true)

section
variable {b : Block} {p k m : Nat}

@[simp] theorem Block.page_loss {k' : Nat} : (b.loss k').page k = b.page k := rfl

theorem Block.page_modCask_of_pages {f : Cask → Cask} (h : (f b.cask).pages = b.cask.pages) :
    (b.modCask f).page k = b.page k :=
  congrArg (fun x => tget ({} : Page) x k) h

theorem Block.fencePage_page_of_ne (h : k ≠ p) : (b.fencePage p).page k = b.page k := by
  unfold Block.fencePage
  dsimp only
  split
  · rfl
  · exact Block.page_modPage_of_ne h
  · exact Block.page_modPage_of_ne h
  · rw [Block.page_loss, Block.page_modCask_of_pages rfl, Block.page_modPage_of_ne h]

theorem Block.fencePage_shut : ((b.fencePage p).page p).shut := by
  unfold Block.fencePage
  dsimp only
  split
  · exact .inl ‹_›
  · exact .inl (by rw [Block.page_modPage])
  · exact .inr (by rw [Block.page_modPage]; exact ⟨‹_›, rfl⟩)
  · exact .inl (by rw [Block.page_loss, Block.page_modCask_of_pages rfl, Block.page_modPage])

theorem Block.fencePage_fence : (b.fencePage p).cask.fence = b.cask.fence ∧
    (b.fencePage p).cask.badSlots = b.cask.badSlots := by
  unfold Block.fencePage
  dsimp only
  split <;> exact ⟨rfl, rfl⟩

theorem Block.each_fencePage_page_of_notMem {l : List Nat} (h : k ∉ l) :
    (b.each l Block.fencePage).page k = b.page k := by
  induction l generalizing b with
  | nil => rfl
  | cons p l ih =>
    rw [List.mem_cons, not_or] at h
    exact (ih h.2).trans (Block.fencePage_page_of_ne h.1)

theorem Block.each_fencePage_shut {l : List Nat} (h : k ∈ l) : ((b.each l Block.fencePage).page k).shut := by
  induction l generalizing b with
  | nil => exact absurd h List.not_mem_nil
  | cons p l ih =>
    by_cases hk : k ∈ l
    · exact ih hk
    · obtain rfl : k = p := (List.mem_cons.1 h).resolve_right hk
      have hrest := Block.each_fencePage_page_of_notMem (b := b.fencePage k) hk
      exact hrest ▸ Block.fencePage_shut

theorem Block.each_fencePage_fence {l : List Nat} : (b.each l Block.fencePage).cask.fence = b.cask.fence ∧
    (b.each l Block.fencePage).cask.badSlots = b.cask.badSlots := by
  induction l generalizing b with
  | nil => exact ⟨rfl, rfl⟩
  | cons p l ih => exact ⟨ih.1.trans Block.fencePage_fence.1, ih.2.trans Block.fencePage_fence.2⟩

@[simp] theorem Block.raise_cask {n v : Nat} : (b.raise n v).cask = b.cask := rfl

@[simp] theorem Block.quotaCut_cask {o q : Nat} : (b.quotaCut o q).cask = b.cask :=
  Block.cask_of_seen (Block.quotaCut_seen (M := [.tenants]) (by decide)) (by decide)

theorem Block.noteBad_cask {i : Nat} : (b.noteBad p i).cask =
    { b.cask with badSlots := insertMacro b.cask.badSlots (64 * p + i) } := rfl

/-- What fencing a macro makes of the cask: its pages shut one after the other, and the mask with it. -/
theorem Block.fenceMacro_cask (h : b.cask.fence.contains m = false) : (b.fenceMacro m).cask =
    { (b.each ((upto 16).map (fun i => 16 * m + i)) Block.fencePage).cask with fence := insertMacro b.cask.fence m } := by
  unfold Block.fenceMacro
  rw [h]
  simp [Block.modCask, Block.each_fencePage_fence]

theorem Block.fenceMacro_fence (h : b.cask.fence.contains m = false) :
    (b.fenceMacro m).cask.fence = insertMacro b.cask.fence m := by
  rw [Block.fenceMacro_cask h]

theorem Block.fenceMacro_badSlots (h : b.cask.fence.contains m = false) :
    (b.fenceMacro m).cask.badSlots = b.cask.badSlots := by
  rw [Block.fenceMacro_cask h]
  dsimp only
  rw [Block.each_fencePage_fence.2]

theorem Block.fenceMacro_page (h : b.cask.fence.contains m = false) :
    (b.fenceMacro m).page k = (b.each ((upto 16).map (fun i => 16 * m + i)) Block.fencePage).page k := by
  unfold Block.page
  rw [Block.fenceMacro_cask h]

/-- The pages of a fenced macro are shut. -/
theorem Block.fenceMacro_shut {i : Nat} (h : b.cask.fence.contains m = false) (hi : i < 16) :
    ((b.fenceMacro m).page (16 * m + i)).shut := by
  rw [Block.fenceMacro_page h]
  exact Block.each_fencePage_shut (List.mem_map_of_mem (List.mem_range.2 hi))

theorem Block.fenceMacro_page_of_ne (h : b.cask.fence.contains m = false) (hk : k / 16 ≠ m) :
    (b.fenceMacro m).page k = b.page k := by
  rw [Block.fenceMacro_page h]
  refine Block.each_fencePage_page_of_notMem fun hmem => ?_
  obtain ⟨i, hi, rfl⟩ := List.mem_map.1 hmem
  have := List.mem_range.1 hi
  omega

end

/-! ### The obligation, event by event -/

section
variable {s : State} {q : Fin 4}

theorem recordOffer_offers {src : RecSrc} {r : Rec} (hr : s.block.running = true)
    (hf : s.block.recs.find? (fun r => r.source == src.val) = some r) :
    ∃ t, exec (.recordOffer src) s = .next t ∧
      t.block = ({ s.block with recs := s.block.recs.erase r } : Block).offerRec r := by
  refine ⟨_, rfl, ?_⟩
  simp only [hf, hr, if_true]

theorem recordFragmentEntry_enters {u : WUnit} {us : List WUnit} (hr : s.block.running = true)
    (hu : (s.block.quad q).recTail = u :: us) (hl : (s.block.quad q).recIn.length < 64) :
    ∃ t, exec (.recordFragmentEntry q) s = .next t ∧
      t.block = s.block.modQuad q (fun x => { x with recIn := x.recIn ++ [u], recTail := us }) := by
  refine ⟨_, rfl, ?_⟩
  simp [hu, hr, hl]

theorem streamFlushExpiry_closes {o : Fin 65} {lvl : Fin 4} {p : Nat} (hr : s.block.running = true)
    (ho : s.block.openPage o lvl = some p) (hm : (s.block.tenant o).mode = 2)
    (hg : (s.block.page p).lastUnit + us (s.block.tenant o).flushUs ≤ s.block.gt) :
    ∃ t, exec (.streamFlushExpiry o lvl) s = .next t ∧ t.block = s.block.closePage p := by
  refine ⟨_, rfl, ?_⟩
  simp [ho, hr, hm, hg]

variable {m : Fin 512} {pg : Fin 16} {slot : Fin 64}

/-- The patrol's slots in the order of a pass. -/
def slotAt (m : Fin 512) (pg : Fin 16) (slot : Fin 64) : Nat := 64 * (16 * m.val + pg.val) + slot.val

/-- A written slot that the pass has gone by is not read again (log entry 71). -/
theorem patrolSlice_passed (e : Fin 3) (hg : s.block.gt < s.block.cask.patrolGt + ms s.block.cask.patrolMs)
    (hp : slotAt m pg slot < s.block.cask.patrolPos) :
    ∃ t, exec (.patrolSlice m pg slot e) s = .next t ∧ t.block = s.block := by
  refine ⟨_, rfl, ?_⟩
  have hpass : s.block.patrolPass = s.block := if_neg (Nat.not_le.2 hg)
  unfold slotAt at hp
  simp [hpass, hp]

/-- The block with which the patrol reads a slot: in a new pass, or in the present one; the slot is read. -/
def Block.patrolled (b : Block) (n : Nat) : Block := b.patrolPass.modCask (fun c => { c with patrolPos := n + 1 })

theorem Block.patrolled_cask {b : Block} {n : Nat} :
    ∃ g, (b.patrolled n).cask = { b.cask with patrolGt := g, patrolPos := n + 1 } := by
  unfold Block.patrolled Block.patrolPass
  split
  · exact ⟨_, rfl⟩
  · exact ⟨_, rfl⟩

theorem Block.patrolled_seen {b : Block} {n : Nat} : (b.patrolled n).seen [.cask] = b.seen [.cask] := by
  unfold Block.patrolled Block.patrolPass
  split <;> simp [Block.modCask_seen (M := [.cask]) (by decide)]

/-- A written slot that is next is read: a single-bit error is counted, a double-bit error noted and its macro fenced. -/
theorem patrolSlice_reads (e : Fin 3) (hr : s.block.running = true)
    (hf : (s.block.page (16 * m.val + pg.val)).st ≠ .free) (hx : (s.block.page (16 * m.val + pg.val)).st ≠ .fenced)
    (hs : slot.val < (s.block.page (16 * m.val + pg.val)).slots.length)
    (hn : s.block.cask.patrolGt + ms s.block.cask.patrolMs ≤ s.block.gt ∨ s.block.cask.patrolPos ≤ slotAt m pg slot) :
    ∃ t, exec (.patrolSlice m pg slot e) s = .next t ∧ t.block =
      let b := s.block.patrolled (slotAt m pg slot)
      if e = 1 then b.countFixed m else if e = 2 then (b.noteBad (16 * m.val + pg.val) slot).fenceMacro m else b := by
  refine ⟨_, rfl, ?_⟩
  have hpos : ¬ slotAt m pg slot < s.block.patrolPass.cask.patrolPos := by
    unfold Block.patrolPass
    split
    · exact Nat.not_lt_zero _
    · exact Nat.not_lt.2 (hn.resolve_left ‹_›)
  unfold slotAt at hpos ⊢
  simp [hr, hf, hx, hs, hpos, Block.patrolled]

end

/-- Settles O39: each event is one operation on the block, and the laws above say what that leaves. -/
theorem recordsReachTheCask : Obligations.RecordsReachTheCask := by
  intro s q hr
  refine ⟨?_, ?_, ?_, ?_, ?_, ?_⟩
  · intro u us hp hq hs
    obtain ⟨t, ht, e⟩ := quadrantGrant_recIn hr hp hq hs
    refine ⟨t, ht, ?_, ?_, ?_, ?_⟩
    · simp [e, Block.quad, Block.modQuad]
    · simp [e]
    · intro he
      rw [e, Block.admitUnit_of_epoch_ne (b := s.block.modQuad q _) he]
      exact ⟨rfl, Block.loss_lossSeen (by decide)⟩
    · intro p he ho hv
      rw [e, Block.admitUnit_of_open (b := s.block.modQuad q _) he ho hv]
      exact ⟨Block.writeSlot_page_slots, fun k hk => Block.writeSlot_page_of_ne hk⟩
  · intro l u us hl hq hp hu ho
    obtain ⟨t, ht, e⟩ := quadrantGrant_single hr hl hq hp hu ho
    refine ⟨t, ht, ?_, ?_, ?_⟩
    · simp [e, Block.station, Block.modStation]
    · simp [e, Block.quad, Block.modQuad]
    · intro hc
      rw [e, Block.readyFor_of_pos hc]
      simp [Block.quad, Block.modQuad, Quadrant.creditOf]
  · rintro src r x n hf rfl rfl
    obtain ⟨t, ht, e⟩ := recordOffer_offers hr hf
    refine ⟨t, ht, by rw [e, Block.offerRec_recs], by rw [e, Block.offerRec_rseq]; rfl, fun hroom => ?_, fun hfull => ?_⟩
    · rw [e]; exact Block.offerRec_of_room (b := { s.block with recs := s.block.recs.erase r }) hroom
    · rw [e]; exact Block.offerRec_of_full (b := { s.block with recs := s.block.recs.erase r }) hfull
  · rintro x u us rfl hu hl
    obtain ⟨t, ht, e⟩ := recordFragmentEntry_enters hr hu hl
    exact ⟨t, ht, by rw [e, Block.quad_modQuad], by rw [e, Block.modQuad_seen (by decide)]⟩
  · rintro o lvl p g ho rfl hm hg
    obtain ⟨t, ht, e⟩ := streamFlushExpiry_closes hr ho hm hg
    exact ⟨t, ht, fun k => by rw [e, Block.closePage_page]⟩
  · rintro m pg slot g rfl hf hx hs
    refine ⟨fun hg hp e => patrolSlice_passed e hg hp, fun hn => ⟨?_, fun hc => ?_⟩⟩
    · obtain ⟨t, ht, e⟩ := patrolSlice_reads 1 hr hf hx hs hn
      obtain ⟨g, hcask⟩ := Block.patrolled_cask (b := s.block) (n := slotAt m pg slot)
      dsimp only at e
      rw [if_pos rfl] at e
      refine ⟨t, ht, ?_, ?_, ?_, ?_⟩
      · rw [e, Block.countFixed_seen (by decide), Block.patrolled_seen]
      · simp only [e, Block.countFixed, Block.modCask, hcask]
        rfl
      · simp only [e, Block.countFixed, Block.modCask, hcask]
      · simp only [e, Block.countFixed, Block.modCask, hcask, tget_tmod]
    · obtain ⟨t, ht, e⟩ := patrolSlice_reads 2 hr hf hx hs hn
      obtain ⟨g, hcask⟩ := Block.patrolled_cask (b := s.block) (n := slotAt m pg slot)
      dsimp only at e
      rw [if_neg (by decide), if_pos rfl] at e
      have hc' : ((s.block.patrolled (slotAt m pg slot)).noteBad (16 * m.val + pg.val) slot).cask.fence.contains m.val
          = false := by
        simpa only [Block.noteBad_cask, hcask] using hc
      refine ⟨t, ht, ?_, ?_, fun i hi => e ▸ Block.fenceMacro_shut hc' hi, fun k hk => ?_⟩
      · simp only [e, Block.fenceMacro_fence hc', Block.noteBad_cask, hcask]
      · simp only [e, Block.fenceMacro_badSlots hc', Block.noteBad_cask, hcask]
      · rw [e, Block.fenceMacro_page_of_ne hc' hk]
        simp only [Block.page, Block.noteBad_cask, hcask]

end Sys2Proof.Machine

namespace Sys2Proof.Machine

/-! ### What packing leaves alone

The packer of a station closes units wherever it writes (R118, R119), and a unit that finds its queue full asks taps to
start anew (R15, R117). Packing therefore reaches taps, views and stations, and what it leaves of them is said here once:
of a tap all but the requests that travel to it, of a view the mark, of a station the parts that decide what becomes of
an item. -/

/-- A tap without what travels to it from its station: resync requests and configuration writes. -/
def Tap.settled (t : Tap) : Tap := { t with resync := false, cfg := [] }

/-- The parts of a station that no packing changes: `NO_CONTEXT`, the filter, `SEQ_EN`, and what its streams hold about
its taps. -/
structure StationPart where
  noContext : Nat
  rules : Tbl (List Word)
  defExclude : List Nat
  seqEn : Bool
  stap : Tbl StreamTap

def Station.part (s : Station) : StationPart :=
  { noContext := s.noContext, rules := s.rules, defExclude := s.defExclude, seqEn := s.seq.en, stap := s.stap }

/-- What packing leaves of the block's taps, views and stations. -/
structure Kept where
  taps : Nat → Tap
  marks : Nat → Option Gt
  stations : Nat → StationPart

def Block.kept (b : Block) : Kept where
  taps n := (b.tap n).settled
  marks n := (b.view n).mark
  stations n := (b.station n).part

section
variable {b c : Block} {n m st o lvl : Nat}

theorem Block.settled_of_kept (h : b.kept = c.kept) (n : Nat) : (b.tap n).settled = (c.tap n).settled :=
  congrFun (congrArg Kept.taps h) n

theorem Block.mark_of_kept (h : b.kept = c.kept) (n : Nat) : (b.view n).mark = (c.view n).mark :=
  congrFun (congrArg Kept.marks h) n

theorem Block.part_of_kept (h : b.kept = c.kept) (n : Nat) : (b.station n).part = (c.station n).part :=
  congrFun (congrArg Kept.stations h) n

/-- What touches neither taps nor views nor stations. -/
theorem Block.kept_of_seen {M : List Area} (h : b.seen M = c.seen M)
    (hM : Area.taps ∉ M ∧ Area.views ∉ M ∧ Area.stations ∉ M) : b.kept = c.kept := by
  simp only [Block.kept, Block.tap, Block.view, Block.station, Block.taps_of_seen h hM.1, Block.views_of_seen h hM.2.1,
    Block.stations_of_seen h hM.2.2]

theorem Block.modTap_kept {f : Tap → Tap} (h : ∀ t, (f t).settled = t.settled) : (b.modTap n f).kept = b.kept := by
  simp only [Block.kept, Block.tap_modTap_ite, apply_ite Tap.settled, h, ite_self]
  rfl

theorem Block.modView_kept {f : TapView → TapView} (h : ∀ v, (f v).mark = v.mark) : (b.modView n f).kept = b.kept := by
  simp only [Block.kept, Block.view_modView_ite, apply_ite TapView.mark, h, ite_self]
  rfl

theorem Block.modStation_kept {f : Station → Station} (h : ∀ s, (f s).part = s.part) :
    (b.modStation n f).kept = b.kept := by
  simp only [Block.kept, Block.station_modStation_ite, apply_ite Station.part, h, ite_self]
  rfl

/-- What every step of a list of steps keeps, the list keeps. -/
theorem Block.each_keeps {α β : Type} {l : List α} {f : Block → α → Block} {p : Block → β}
    (h : ∀ b x, p (f b x) = p b) : p (b.each l f) = p b := by
  unfold Block.each
  induction l generalizing b with
  | nil => rfl
  | cons x l ih => rw [List.foldl_cons, ih, h]

theorem Block.each_kept {α : Type} {l : List α} {f : Block → α → Block} (h : ∀ b x, (f b x).kept = b.kept) :
    (b.each l f).kept = b.kept := Block.each_keeps h

/-! ### Closing units (R15, R111, R119) -/

@[simp] theorem Block.raise_kept {v : Nat} : (b.raise n v).kept = b.kept := rfl

@[simp] theorem Block.loss_kept : (b.loss n).kept = b.kept := rfl

@[simp] theorem Block.seqLeft_kept : (b.seqLeft o).kept = b.kept :=
  Block.kept_of_seen (Block.seqLeft_seen (M := [.cask, .tenants]) (by decide)) (by decide)

@[simp] theorem Block.needFull_kept {l : List Nat} : (b.needFull st l).kept = b.kept := by
  refine Block.each_kept fun b l => ?_
  rw [Block.modTap_kept, Block.modView_kept] <;> exact fun _ => rfl

@[simp] theorem Block.enqueue_kept {u : WUnit} : (b.enqueue st u).2.kept = b.kept := by
  unfold Block.enqueue
  dsimp only
  generalize (if u.marker then 256 else 248) = room
  split
  · rw [Block.modStation_kept, Block.modStation_kept] <;> exact fun _ => rfl
  · rw [Block.needFull_kept, Block.loss_kept, Block.modStation_kept, Block.modStation_kept] <;> exact fun _ => rfl

@[simp] theorem Block.closeRaw_kept {w : OpenUnit} {marker : Bool} : (b.closeRaw st w marker).2.kept = b.kept := by
  unfold Block.closeRaw
  rw [Block.enqueue_kept, Block.modStation_kept]
  exact fun _ => rfl

@[simp] theorem Block.closeOwnerRaw_kept : (b.closeOwnerRaw st o).kept = b.kept :=
  Block.each_kept fun _ _ => Block.closeRaw_kept

@[simp] theorem Block.enterHold_kept : (b.enterHold st).kept = b.kept := by
  unfold Block.enterHold
  dsimp only
  rw [Block.seqLeft_kept, Block.raise_kept, Block.closeOwnerRaw_kept, Block.modStation_kept]
  exact fun _ => rfl

@[simp] theorem Block.closeUnit_kept {w : OpenUnit} {marker : Bool} : (b.closeUnit st w marker).kept = b.kept := by
  unfold Block.closeUnit
  dsimp only
  split
  · split
    · rw [Block.enterHold_kept, Block.closeRaw_kept]
    · rw [Block.modStation_kept, Block.closeRaw_kept]
      exact fun _ => rfl
  · exact Block.closeRaw_kept

@[simp] theorem Block.closeOwner_kept : (b.closeOwner st o).kept = b.kept :=
  Block.each_kept fun _ _ => by split <;> simp

/-! ### Writing units (R118, R120, R60) -/

@[simp] theorem Block.roomFor_kept : (b.roomFor st).kept = b.kept := by
  unfold Block.roomFor
  split
  · split <;> simp
  · rfl

@[simp] theorem Block.writeOpen_kept {w : OpenUnit} {bytes : List Byte} {aTap : Option Nat} {marker : Bool} :
    (b.writeOpen st w bytes aTap marker).kept = b.kept := by
  unfold Block.writeOpen
  dsimp only
  split
  · rw [Block.closeUnit_kept, Block.modStation_kept]
    exact fun _ => rfl
  · rw [Block.modStation_kept]
    exact fun _ => rfl

@[simp] theorem Block.place_kept {bytes : List Byte} {aTap : Option Nat} {marker : Bool} :
    (b.place st o lvl bytes aTap marker).kept = b.kept := by
  unfold Block.place
  split
  · split <;> simp
  · simp

@[simp] theorem Block.alignTo_kept : (b.alignTo st o).kept = b.kept := by
  unfold Block.alignTo
  dsimp only
  split
  · rfl
  · split
    · rw [Block.modStation_kept]
      exact fun _ => rfl
    · rw [Block.place_kept, Block.modStation_kept]
      exact fun _ => rfl

@[simp] theorem Block.modTime_kept {f : Time → Time} : (b.modTime f).kept = b.kept := rfl

@[simp] theorem Block.advanceEpoch_kept {reason : Nat} : (b.advanceEpoch reason).kept = b.kept := by
  unfold Block.advanceEpoch
  exact Block.each_kept fun _ _ => Block.each_kept fun _ _ => Block.alignTo_kept

/-- Recomputing the aligned state leaves taps, marks and the stations' parts alone (R58, R59). -/
@[simp] theorem Block.realign_kept : b.realign.kept = b.kept := by
  unfold Block.realign
  dsimp only
  split <;> simp

end

end Sys2Proof.Machine

namespace Sys2Proof.Machine

/-! ### The passage of cycles, and the fields that it leaves (R86 to R89) -/

section
variable {t : Tap} {cyc : Nat}

theorem Tap.countCycles_use : (t.countCycles cyc).use = t.use := by
  unfold Tap.countCycles; split <;> rfl

theorem Tap.dropReports_use : t.dropReports.use = t.use := by
  unfold Tap.dropReports; split <;> rfl

theorem Tap.lowerAck_use : t.lowerAck.use = t.use := by
  unfold Tap.lowerAck; split <;> rfl

theorem Tap.takeRequest_use : (t.takeRequest cyc).use = t.use := by
  unfold Tap.takeRequest
  split
  · split <;> rfl
  · rfl

/-- The use of a tap is configuration: no passing of cycles changes it. -/
@[simp] theorem Tap.advance_use : (t.advance cyc).use = t.use := by
  unfold Tap.advance
  split
  · rfl
  · rw [Tap.takeRequest_use, Tap.lowerAck_use, Tap.dropReports_use]
    exact Tap.countCycles_use

end

/-- A table after an update of every entry, where the default stays the default. -/
theorem tget_tmap {α : Type} [DecidableEq α] {d : α} {t : Tbl α} {f : Nat → α → α} {n : Nat} (h : f n d = d) :
    tget d (tmap d t f) n = f n (tget d t n) := by
  induction t with
  | nil => exact h.symm
  | cons e t ih =>
    obtain ⟨k, v⟩ := e
    simp only [tmap, tget]
    by_cases hn : n = k
    · subst hn
      split
      · rename_i hv; simp [hv]
      · simp [tget]
    · split
      · simp [tget_tdel_of_ne hn, ih]
      · simp [tget, hn, ih]

/-- What is dropped at an acknowledge or a restart leaves the counters' values (R87). -/
theorem Tap.dropPending_value {t : Tap} {k : Nat} :
    (tget {} t.dropPending.cnt k).value = (tget {} t.cnt k).value := by
  unfold Tap.dropPending
  rw [tget_tmap rfl]

/-! ### Losses at the chain (R24, R26, R29) -/

section
variable {b : Block} {n m k : Nat} {ls : List (Gt × Bool)}

theorem satAdd_eq_zero {w x y : Nat} (hw : w ≠ 0) : satAdd w x y = 0 ↔ x + y = 0 := by
  have : 1 < 2 ^ w := Nat.one_lt_two_pow hw
  unfold satAdd
  omega

/-- The end of what a tap was blocked in reaches its view only, and there only the quiet mark. -/
theorem Block.lossEnd_view : (b.lossEnd n).view m = if m = n then { b.view m with quiet := true } else b.view m := by
  have hviews : (b.lossEnd n).views = ((b.haloFlush n (b.view n).lastSeen none).modView n
      (fun v => { v with quiet := true })).views :=
    Block.views_of_seen ((queueSteps_seen (M := [.mash]) (by decide)).trans (Block.reseg_seen (by decide))) (by decide)
  have hflush : (b.haloFlush n (b.view n).lastSeen none).view m = b.view m :=
    congrArg (fun x => tget ({} : TapView) x m)
      (Block.views_of_seen (Block.haloFlush_seen (M := [.mash]) (by decide)) (by decide))
  generalize b.haloFlush n (b.view n).lastSeen none = c at hviews hflush
  calc (b.lossEnd n).view m = (c.modView n fun v => { v with quiet := true }).view m :=
        congrArg (fun x => tget ({} : TapView) x m) hviews
    _ = _ := by rw [Block.view_modView_ite, hflush]

/-- A loss seen by the analysers leaves the pending LOSS marker and the rest of the view (R214). -/
theorem Block.lossSeen_view : ∃ q a, (b.lossSeen n ls).view m =
    if m = n then { b.view m with quiet := q, lossAfter := a } else b.view m := by
  have hstale : (b.markStale n).view m = b.view m :=
    congrArg (fun x => tget ({} : TapView) x m)
      (Block.views_of_seen (Block.markStale_seen (M := [.sync]) (by decide)) (by decide))
  unfold Block.lossSeen Block.mashLoss
  dsimp only
  split
  · refine ⟨true, (b.view m).lossAfter, ?_⟩
    rw [Block.lossEnd_view, Block.view_modMash, hstale]
  · refine ⟨(b.view m).quiet, (b.view m).lossAfter ++
      [(((b.markStale n).modMash (fun x => { x with lossLog := tmod [] x.lossLog n (· ++ ls) })).queuedS n).length], ?_⟩
    rw [Block.view_modView_ite, Block.view_modMash, hstale]

theorem Block.lossSeen_taps : (b.lossSeen n ls).taps = b.taps :=
  Block.taps_of_seen (Block.lossSeen_seen (M := [.views, .mash, .sync]) (by decide)) (by decide)

theorem Block.lossSeen_stations : (b.lossSeen n ls).stations = b.stations :=
  Block.stations_of_seen (Block.lossSeen_seen (M := [.views, .mash, .sync]) (by decide)) (by decide)

theorem Block.foldLoss_taps {c : Nat} : (b.foldLoss n k c).taps = b.taps :=
  Block.taps_of_seen (Block.foldLoss_seen (M := [.views]) (by decide)) (by decide)

theorem Block.foldLoss_stations {c : Nat} : (b.foldLoss n k c).stations = b.stations :=
  Block.stations_of_seen (Block.foldLoss_seen (M := [.views]) (by decide)) (by decide)

theorem Block.foldLoss_view_of_ne {c : Nat} (h : m ≠ n) : (b.foldLoss n k c).view m = b.view m := by
  unfold Block.foldLoss
  split
  · rfl
  · exact Block.view_modView_of_ne h

/-- Without a marker pending, the count is the marker's (R27). -/
theorem Block.foldLoss_loss {c : Nat} (hk : k ≠ 0) (h : (b.view n).loss = none) :
    ((b.foldLoss n k c).view n).loss = some (k, c) := by
  simp [Block.foldLoss, hk, h]

theorem Block.wakeLoss_taps {w : Bool} : (b.wakeLoss n k w).taps = b.taps :=
  Block.taps_of_seen (Block.wakeLoss_seen (M := [.stations, .tenants, .power]) (by decide)) (by decide)

theorem Block.wakeLoss_view {w : Bool} : (b.wakeLoss n k w).view m = b.view m :=
  congrArg (fun x => tget ({} : TapView) x m)
    (Block.views_of_seen (Block.wakeLoss_seen (M := [.stations, .tenants, .power]) (by decide)) (by decide))

theorem Block.wakeLoss_wakeLost {w : Bool} : ((b.wakeLoss n k w).station (stOf n)).wakeLost =
    if w && k != 0 then satAdd 32 (b.station (stOf n)).wakeLost k else (b.station (stOf n)).wakeLost := by
  unfold Block.wakeLoss
  split
  · exact congrArg Station.wakeLost (Block.station_modStation (b := b) (f := fun s => { s with wakeLost := satAdd 32 s.wakeLost k }))
  · rfl

@[simp] theorem Block.view_loss {c : Nat} : (b.loss c).view m = b.view m := rfl
@[simp] theorem Block.loss_taps {c : Nat} : (b.loss c).taps = b.taps := rfl

end

/-! ### The drain of a chain (R24, R26) -/

/-- A tap whose chain went into the ledger. -/
def Tap.drained (t : Tap) : Tap :=
  { t with
    chain := [], tapLost := 0, lossAt := [], w := false
    ledgerLost := satAdd 32 t.ledgerLost (satAdd 16 t.tapLost t.chain.length)
    drainLost := satAdd 16 t.tapLost t.chain.length != 0 }

section
variable {b : Block} {n m : Nat}

/-- The block in which the drain of the tap's own chain begins. -/
theorem Block.modTap_drained : b.modTap n (fun t => { t with
    chain := [], tapLost := 0, lossAt := [], w := false
    ledgerLost := satAdd 32 t.ledgerLost (satAdd 16 (b.tap n).tapLost (b.tap n).chain.length)
    drainLost := satAdd 16 (b.tap n).tapLost (b.tap n).chain.length != 0 }) =
    b.modTap n (fun _ => (b.tap n).drained) := rfl

theorem Block.drainChain_taps : (b.drainChain n).taps = (b.modTap n (fun _ => (b.tap n).drained)).taps := by
  unfold Block.drainChain
  dsimp only
  split
  · rw [Block.taps_of_seen (Block.markStale_seen (M := [.sync]) (by decide)) (by decide), Block.wakeLoss_taps,
      Block.modTap_drained]
  · rw [Block.lossSeen_taps, Block.loss_taps, Block.foldLoss_taps, Block.wakeLoss_taps, Block.modTap_drained]

theorem Block.drainChain_tap : (b.drainChain n).tap m = if m = n then (b.tap n).drained else b.tap m := by
  calc (b.drainChain n).tap m = (b.modTap n (fun _ => (b.tap n).drained)).tap m :=
        congrArg (fun x => tget ({} : Tap) x m) Block.drainChain_taps
    _ = _ := Block.tap_modTap_ite

theorem Block.markStale_view : (b.markStale n).view m = b.view m :=
  congrArg (fun x => tget ({} : TapView) x m)
    (Block.views_of_seen (Block.markStale_seen (M := [.sync]) (by decide)) (by decide))

theorem Block.markStale_tap : (b.markStale n).tap m = b.tap m :=
  congrArg (fun x => tget ({} : Tap) x m)
    (Block.taps_of_seen (Block.markStale_seen (M := [.sync]) (by decide)) (by decide))

theorem Block.markStale_stations : (b.markStale n).stations = b.stations :=
  Block.stations_of_seen (Block.markStale_seen (M := [.sync]) (by decide)) (by decide)

theorem Block.drainChain_view_of_ne (h : m ≠ n) : (b.drainChain n).view m = b.view m := by
  unfold Block.drainChain
  dsimp only
  split
  · rw [Block.markStale_view, Block.wakeLoss_view, Block.view_modTap]
  · obtain ⟨q, a, hq⟩ := Block.lossSeen_view (n := n) (m := m)
    rw [hq, if_neg h, Block.view_loss, Block.foldLoss_view_of_ne h, Block.wakeLoss_view, Block.view_modTap]

/-- What the drain took is the count of the pending marker, when none was pending (R27). -/
theorem Block.drainChain_loss (h : satAdd 16 (b.tap n).tapLost (b.tap n).chain.length ≠ 0) (hl : (b.view n).loss = none) :
    ((b.drainChain n).view n).loss = some (satAdd 16 (b.tap n).tapLost (b.tap n).chain.length, 1) := by
  unfold Block.drainChain
  dsimp only
  rw [if_neg h]
  obtain ⟨q, a, hq⟩ := Block.lossSeen_view (n := n) (m := n)
  rw [hq, if_pos rfl]
  dsimp only
  rw [Block.view_loss]
  refine Block.foldLoss_loss h ?_
  rw [Block.wakeLoss_view, Block.view_modTap, hl]

/-- The lost items that `W` marks are counted in the station (R26). -/
theorem Block.drainChain_wakeLost : ((b.drainChain n).station (stOf n)).wakeLost =
    if (b.tap n).w && (b.tap n).tapLost != 0 then satAdd 32 (b.station (stOf n)).wakeLost (b.tap n).tapLost
    else (b.station (stOf n)).wakeLost := by
  have hstations : (b.drainChain n).stations =
      ((b.modTap n (fun _ => (b.tap n).drained)).wakeLoss n (b.tap n).tapLost (b.tap n).w).stations := by
    unfold Block.drainChain
    dsimp only
    rw [Block.modTap_drained]
    split
    · exact Block.markStale_stations
    · rw [Block.lossSeen_stations, Block.loss_stations, Block.foldLoss_stations]
  have hstation := congrArg (fun x => (tget ({} : Station) x (stOf n)).wakeLost) hstations
  exact hstation.trans Block.wakeLoss_wakeLost

end

/-! ### The commands -/

section
variable {tap : Fin 2048} {cyc : Nat} {s : State}

/-- The block after the cycles that passed at a tap. -/
def Block.passed (b : Block) (n cyc : Nat) : Block := b.modTap n (fun t => t.advance cyc)

theorem Block.passed_tap {b : Block} {n : Nat} : (b.passed n cyc).tap n = (b.tap n).advance cyc := Block.tap_modTap

theorem Block.passed_tap_of_ne {b : Block} {n m : Nat} (h : m ≠ n) : (b.passed n cyc).tap m = b.tap m :=
  Block.tap_modTap_of_ne h

/-- Whether the enable is held high does not depend on the cycles that passed. -/
theorem Block.passed_enableWanted {b : Block} {n : Nat} : (b.passed n cyc).enableWanted n = b.enableWanted n := by
  unfold Block.enableWanted
  rw [Block.passed_tap, Tap.advance_use]
  rfl

theorem Block.drainAckNow_tap {b : Block} {n : Nat} :
    (b.drainAckNow n).tap n = { (b.tap n).drained.dropPending with drainAck := true } := by
  unfold Block.drainAckNow
  rw [Block.tap_modTap, Block.tap_modView, Block.drainChain_tap, if_pos rfl]

theorem Block.drainAckNow_tap_of_ne {b : Block} {n m : Nat} (h : m ≠ n) : (b.drainAckNow n).tap m = b.tap m := by
  unfold Block.drainAckNow
  rw [Block.tap_modTap_of_ne h, Block.tap_modView, Block.drainChain_tap, if_neg h]

theorem Block.drainAckNow_view {b : Block} {n : Nat} :
    (b.drainAckNow n).view n = { (b.drainChain n).view n with down := true } := by
  unfold Block.drainAckNow
  rw [Block.view_modTap, Block.view_modView]

theorem Block.drainAckNow_view_of_ne {b : Block} {n m : Nat} (h : m ≠ n) : (b.drainAckNow n).view m = b.view m := by
  unfold Block.drainAckNow
  rw [Block.view_modTap, Block.view_modView_of_ne h, Block.drainChain_view_of_ne h]

/-- An acknowledge that is due is given (R86). -/
theorem tapDrainAck_gives (hreq : ((s.block.tap tap).advance cyc).drainReq = true)
    (hack : ((s.block.tap tap).advance cyc).drainAck = false)
    (hdue : (((s.block.tap tap).advance cyc).chain = [] ∧ ((s.block.tap tap).advance cyc).pDown = none) ∨
      256 ≤ ((s.block.tap tap).advance cyc).drainCyc) :
    exec (.tapDrainAck tap cyc) s = .next { s with block := (s.block.passed tap cyc).drainAckNow tap } := by
  have hrun : exec (.tapDrainAck tap cyc) s = s.run (fun b =>
      if ((b.passed tap cyc).tap tap).drainReq && !((b.passed tap cyc).tap tap).drainAck &&
        ((((b.passed tap cyc).tap tap).chain.isEmpty && ((b.passed tap cyc).tap tap).pDown.isNone) ||
          decide (((b.passed tap cyc).tap tap).drainCyc ≥ 256)) then
        (b.passed tap cyc).drainAckNow tap
      else b.passed tap cyc) := rfl
  rw [hrun, State.run_eq, Block.passed_tap, if_pos]
  simpa [hreq, hack] using hdue

/-- A drained tap whose pending items were dropped (R24, R87). -/
theorem Tap.drained_dropPending {u : Tap} : { u.drained.dropPending with drainAck := true } = { u.dropPending with
    chain := [], tapLost := 0, lossAt := [], w := false, drainAck := true
    ledgerLost := satAdd 32 u.ledgerLost (satAdd 16 u.tapLost u.chain.length)
    drainLost := decide (u.tapLost + u.chain.length ≠ 0) } := by
  have hlost : (satAdd 16 u.tapLost u.chain.length != 0) = decide (u.tapLost + u.chain.length ≠ 0) := by
    rw [Bool.eq_iff_iff, bne_iff_ne, ne_eq, satAdd_eq_zero (by decide), decide_eq_true_eq]
  rw [← hlost]
  rfl

/-- The tap that a power-up leaves (R89, R90). -/
theorem tapPowerUp_tap (retLost drainReq : Bool) (pwr : BitVec 4) (ctx : BitVec 12) :
    ∃ t, exec (.tapPowerUp tap retLost drainReq pwr ctx) s = .next t ∧
      (∀ n, n ≠ tap.val → t.block.tap n = s.block.tap n) ∧ t.block.seen [.taps] = s.block.seen [.taps] ∧
      ∀ x y, x = s.block.tap tap → y = t.block.tap tap → y.chain = [] ∧ y.tapLost = 0 ∧ y.since = 0 ∧ y.drainReq = false ∧
        y.drainAck = false ∧ y.reqNext = (if drainReq then some pwr.toNat else none) ∧
        y.ctx = ctx.toNat ∧ y.pUp = some (false, retLost, x.drainLost) ∧
        y.pDown = none ∧ y.pClk = none ∧ y.pCtx = none ∧ y.pAnchor = none ∧
        y.est = none ∧ y.ledgerLost = x.ledgerLost ∧ y.en = x.en ∧ y.cfg = x.cfg ∧
        y.clk = 0 ∧ y.lastMark = 0 ∧ y.aEnable = (x.aEnable && !retLost) ∧
        (retLost = true → y.cnt = [] ∧ y.latch = none ∧ y.cntLost = true) ∧
        (retLost = false → y.aoCycles = x.aoCycles ∧ y.latch = x.latch ∧ y.cntLost = x.cntLost ∧
          ∀ k, (tget {} y.cnt k).value = (tget {} x.cnt k).value) := by
  refine ⟨_, rfl, fun n h => Block.tap_modTap_of_ne h, Block.modTap_seen (by decide), fun x y hx hy => ?_⟩
  replace hy := hy.trans Block.tap_modTap
  subst hx hy
  cases retLost
  · simp only [Bool.false_eq_true, if_false, Bool.not_false, Bool.and_true, false_implies, true_implies, true_and]
    exact ⟨rfl, rfl, rfl, rfl, rfl, rfl, rfl, rfl, rfl, rfl, rfl, fun _ => Tap.dropPending_value⟩
  · simp [Tap.dropPending]

/-- The block of an enable that rises, before the aligned state is computed anew. -/
def Block.enableRisen (b : Block) (n ctx : Nat) : Block :=
  ((b.modTap n (fun t => { t.mergeCtx 1 0 with
      en := true, since := 0, full := true, est := none, ctx := ctx, ctxSeen := true })).modView n
    (fun v => { v with mark := none, markCyc := 0 })).markStale n

theorem Block.enableRisen_tap {b : Block} {n ctx : Nat} : (b.enableRisen n ctx).tap n = { (b.tap n).mergeCtx 1 0 with
    en := true, since := 0, full := true, est := none, ctx := ctx, ctxSeen := true } := by
  unfold Block.enableRisen
  rw [Block.markStale_tap, Block.tap_modView, Block.tap_modTap]

theorem Block.enableRisen_mark {b : Block} {n ctx : Nat} : ((b.enableRisen n ctx).view n).mark = none := by
  unfold Block.enableRisen
  rw [Block.markStale_view, Block.view_modView]

/-- An enable that is wanted rises (R91). -/
theorem tapEnableRise_rises {ctx : BitVec 12} (hen : ((s.block.tap tap).advance cyc).en = false)
    (hwant : s.block.enableWanted tap = true) : exec (.tapEnableRise tap cyc ctx) s =
      .next { s with block := ((s.block.passed tap cyc).enableRisen tap ctx.toNat).realign } := by
  have hrun : exec (.tapEnableRise tap cyc ctx) s = s.run (fun b =>
      if ((b.passed tap cyc).tap tap).en || !(b.passed tap cyc).enableWanted tap then b.passed tap cyc
      else ((b.passed tap cyc).enableRisen tap ctx.toNat).realign) := rfl
  rw [hrun, State.run_eq, Block.passed_tap, Block.passed_enableWanted, if_neg]
  simp [hen, hwant]

/-- The block of an enable that falls, before the aligned state is computed anew. -/
def Block.enableFallen (b : Block) (n : Nat) : Block :=
  let c := b.modTap n (fun t => { t.dropPending with en := false })
  if b.power.quiesce || b.power.st == .off || b.power.goal == .off then c.drainChain n else c

theorem Block.enableFallen_tap {b : Block} {n : Nat} : (b.enableFallen n).tap n =
    if b.power.quiesce || b.power.st == .off || b.power.goal == .off then
      { (b.tap n).dropPending with en := false }.drained
    else { (b.tap n).dropPending with en := false } := by
  unfold Block.enableFallen
  dsimp only
  split
  · rw [Block.drainChain_tap, if_pos rfl, Block.tap_modTap]
  · exact Block.tap_modTap

/-- An enable that is not wanted falls (R91). -/
theorem tapEnableFall_falls (hen : ((s.block.tap tap).advance cyc).en = true)
    (hwant : s.block.enableWanted tap = false) : exec (.tapEnableFall tap cyc) s =
      .next { s with block := ((s.block.passed tap cyc).enableFallen tap).realign } := by
  have hrun : exec (.tapEnableFall tap cyc) s = s.run (fun b =>
      if !((b.passed tap cyc).tap tap).en || (b.passed tap cyc).enableWanted tap then b.passed tap cyc
      else ((b.passed tap cyc).enableFallen tap).realign) := rfl
  rw [hrun, State.run_eq, Block.passed_tap, Block.passed_enableWanted, if_neg]
  simp [hen, hwant]

/-- Clause 1: the acknowledge of a drain. -/
theorem tapDrainAck_hands {u : Tap} (hu : u = (s.block.tap tap).advance cyc) (hreq : u.drainReq = true)
    (hack : u.drainAck = false) (hdue : (u.chain = [] ∧ u.pDown = none) ∨ 256 ≤ u.drainCyc) :
    ∃ t, exec (.tapDrainAck tap cyc) s = .next t ∧ (t.block.view tap).down = true ∧
      (∀ n, n ≠ tap.val → t.block.tap n = s.block.tap n ∧ t.block.view n = s.block.view n) ∧
      t.block.tap tap = { u.dropPending with
        chain := [], tapLost := 0, lossAt := [], w := false, drainAck := true
        ledgerLost := satAdd 32 u.ledgerLost (satAdd 16 u.tapLost u.chain.length)
        drainLost := decide (u.tapLost + u.chain.length ≠ 0) } ∧
      (u.tapLost + u.chain.length ≠ 0 → (s.block.view tap).loss = none →
        (t.block.view tap).loss = some (satAdd 16 u.tapLost u.chain.length, 1)) ∧
      (t.block.station (stOf tap)).wakeLost =
        (if u.w && u.tapLost != 0 then satAdd 32 (s.block.station (stOf tap)).wakeLost u.tapLost
         else (s.block.station (stOf tap)).wakeLost) := by
  subst hu
  have hgives := tapDrainAck_gives hreq hack hdue
  have hown : (s.block.passed tap cyc).tap tap = (s.block.tap tap).advance cyc := Block.passed_tap
  have hother : ∀ n, n ≠ tap.val → (s.block.passed tap cyc).tap n = s.block.tap n := fun _ => Block.passed_tap_of_ne
  have hview : ∀ n, (s.block.passed tap cyc).view n = s.block.view n := fun _ => Block.view_modTap
  have hstation : ∀ n, (s.block.passed tap cyc).station n = s.block.station n := fun _ => Block.station_modTap
  generalize s.block.passed tap cyc = c at hgives hown hother hview hstation
  rw [← hown, ← hview, ← hstation]
  refine ⟨_, hgives, ?_, fun n h => ⟨?_, ?_⟩, ?_, fun hne hl => ?_, ?_⟩ <;> dsimp only
  · rw [Block.drainAckNow_view]
  · rw [Block.drainAckNow_tap_of_ne h, hother n h]
  · rw [Block.drainAckNow_view_of_ne h, hview]
  · rw [Block.drainAckNow_tap, Tap.drained_dropPending]
  · rw [Block.drainAckNow_view]
    exact Block.drainChain_loss ((satAdd_eq_zero (by decide)).not.mpr hne) hl
  · exact Block.drainChain_wakeLost

/-- Clause 3: the enable rises. -/
theorem tapEnableRise_restarts {ctx : BitVec 12} {u : Tap} (hu : u = (s.block.tap tap).advance cyc) (hen : u.en = false)
    (hwant : s.block.enableWanted tap = true) :
    ∃ t, exec (.tapEnableRise tap cyc ctx) s = .next t ∧ (t.block.tap tap).en = true ∧ (t.block.tap tap).since = 0 ∧
      (t.block.tap tap).full = true ∧ (t.block.tap tap).ctx = ctx.toNat ∧
      (t.block.tap tap).pCtx = (u.mergeCtx 1 0).pCtx ∧ (t.block.view tap).mark = none ∧
      (t.block.tap tap).chain = u.chain := by
  subst hu
  have hkept := Block.realign_kept (b := (s.block.passed tap cyc).enableRisen tap ctx.toNat)
  have htap := Block.settled_of_kept hkept tap
  rw [Block.enableRisen_tap, Block.passed_tap] at htap
  exact ⟨_, tapEnableRise_rises hen hwant, (congrArg Tap.en htap :), (congrArg Tap.since htap :), (congrArg Tap.full htap :),
    (congrArg Tap.ctx htap :), (congrArg Tap.pCtx htap :), (Block.mark_of_kept hkept tap).trans Block.enableRisen_mark,
    (congrArg Tap.chain htap :)⟩

/-- Clause 4: the enable falls. -/
theorem tapEnableFall_drops {u : Tap} (hu : u = (s.block.tap tap).advance cyc) (hen : u.en = true)
    (hwant : s.block.enableWanted tap = false) :
    ∃ t, exec (.tapEnableFall tap cyc) s = .next t ∧ (t.block.tap tap).en = false ∧ (t.block.tap tap).pClk = none ∧
      (t.block.tap tap).pUp = none ∧ (t.block.tap tap).pDown = none ∧ (t.block.tap tap).pCtx = none ∧
      (t.block.tap tap).pAnchor = none ∧
      (t.block.tap tap).chain =
        if s.block.power.quiesce = true ∨ s.block.power.st = .off ∨ s.block.power.goal = .off then [] else u.chain := by
  subst hu
  have htap := Block.settled_of_kept (Block.realign_kept (b := (s.block.passed tap cyc).enableFallen tap)) tap
  have hpower : (s.block.passed tap cyc).power = s.block.power := rfl
  rw [Block.enableFallen_tap, Block.passed_tap, hpower] at htap
  refine ⟨_, tapEnableFall_falls hen hwant, ?_⟩
  by_cases hoff : s.block.power.quiesce = true ∨ s.block.power.st = .off ∨ s.block.power.goal = .off
  · rw [if_pos (by simpa [or_assoc] using hoff)] at htap
    rw [if_pos hoff]
    exact ⟨(congrArg Tap.en htap :), (congrArg Tap.pClk htap :), (congrArg Tap.pUp htap :), (congrArg Tap.pDown htap :),
      (congrArg Tap.pCtx htap :), (congrArg Tap.pAnchor htap :), (congrArg Tap.chain htap :)⟩
  · rw [if_neg (by simpa [or_assoc] using hoff)] at htap
    rw [if_neg hoff]
    exact ⟨(congrArg Tap.en htap :), (congrArg Tap.pClk htap :), (congrArg Tap.pUp htap :), (congrArg Tap.pDown htap :),
      (congrArg Tap.pCtx htap :), (congrArg Tap.pAnchor htap :), (congrArg Tap.chain htap :)⟩

end

/-- Settles O34: a drain's acknowledge moves the chain into the ledger, a power-up writes one tap, and recomputing the
aligned state after a change of the enable leaves what the change wrote. -/
theorem tapDrainsAndRestarts : Obligations.TapDrainsAndRestarts := by
  intro tap cyc s x u hx hu
  subst hx
  refine ⟨tapDrainAck_hands hu, fun retLost drainReq pwr ctx => ?_, fun ctx => tapEnableRise_restarts hu,
    tapEnableFall_drops hu⟩
  obtain ⟨t, ht, hother, hseen, hown⟩ := tapPowerUp_tap (tap := tap) (s := s) retLost drainReq pwr ctx
  exact ⟨t, ht, hother, hseen, fun y hy => hown _ y rfl hy⟩

end Sys2Proof.Machine

namespace Sys2Proof.Machine

/-! ### What a station's streams hold about its taps (R121)

Placing an item starts the sum of its tap in its owner's stream anew; what else the packer does leaves a sum that is new
as it is. -/

/-- The sum of a tap in a stream starts anew: an item of the tap was placed in it and none was left out since. -/
def StreamTap.fresh (x : StreamTap) : Prop := x.seen = true ∧ x.sum = 0 ∧ x.summed = false

/-- A later state of a station: filter and `SEQ_EN` are the same, and sums that were new still are. -/
structure Station.GoesOn (s s' : Station) : Prop where
  rules : s'.rules = s.rules
  defExclude : s'.defExclude = s.defExclude
  seqEn : s'.seq.en = s.seq.en
  fresh : ∀ k, (tget {} s.stap k).fresh → (tget {} s'.stap k).fresh

theorem Station.GoesOn.trans {s s' s'' : Station} (h : s.GoesOn s') (h' : s'.GoesOn s'') : s.GoesOn s'' where
  rules := h'.rules.trans h.rules
  defExclude := h'.defExclude.trans h.defExclude
  seqEn := h'.seqEn.trans h.seqEn
  fresh k hk := h'.fresh k (h.fresh k hk)

theorem Station.goesOn_of_part {s s' : Station} (h : s'.part = s.part) : s.GoesOn s' where
  rules := congrArg StationPart.rules h
  defExclude := congrArg StationPart.defExclude h
  seqEn := congrArg StationPart.seqEn h
  fresh k hk := by rwa [show s'.stap = s.stap from congrArg StationPart.stap h]

/-- A change of one sum that leaves a new sum new. -/
theorem Station.goesOn_tmod {s : Station} {j : Nat} {f : StreamTap → StreamTap} (hf : ∀ x, x.fresh → (f x).fresh) :
    s.GoesOn { s with stap := tmod {} s.stap j f } where
  rules := rfl
  defExclude := rfl
  seqEn := rfl
  fresh k hk := by
    by_cases h : k = j
    · subst h
      rw [tget_tmod]
      exact hf _ hk
    · rwa [tget_tmod_of_ne h]

section
variable {b c : Block} {st n o lvl : Nat} {e : Entry} {d : Delivery} {gate : Nat → Bool} {floor : Nat → Nat} {str : Bool}

/-- What packing alone did is a later state of every station. -/
theorem Block.goesOn_of_kept (h : c.kept = b.kept) : (b.station st).GoesOn (c.station st) :=
  Station.goesOn_of_part (Block.part_of_kept h st)

theorem Block.goesOn_modStation {f : Station → Station} (h : ∀ s : Station, s.GoesOn (f s)) :
    (b.station st).GoesOn ((b.modStation st f).station st) := by
  rw [Block.station_modStation]
  exact h _

theorem Block.lossMarker_kept {lvl ctx : Nat} : (b.lossMarker st n lvl ctx gate).kept = b.kept := by
  unfold Block.lossMarker
  split
  · dsimp only
    split
    · rw [Block.place_kept, Block.alignTo_kept, Block.modView_kept]
      exact fun _ => rfl
    · rw [Block.modView_kept]
      exact fun _ => rfl
  · rfl

theorem Block.markLive_kept : (b.markLive st o).kept = b.kept := by
  unfold Block.markLive
  rw [Block.modStation_kept]
  exact fun _ => rfl

/-- An update of one sum of the station, whose stream then counts as live, that makes the sum new. -/
theorem Block.markLive_goesOn {f : StreamTap → StreamTap} {k : Nat} (hf : ∀ x, (f x).fresh) :
    (b.station st).GoesOn (((b.modStation st (fun s => { s with stap := tmod {} s.stap (skey o k) f })).markLive st o).station
      st) :=
  (Block.goesOn_modStation fun _ => Station.goesOn_tmod fun x _ => hf x).trans (Block.goesOn_of_kept Block.markLive_kept)

theorem Block.markLive_fresh {f : StreamTap → StreamTap} {k : Nat} (hf : ∀ x, (f x).fresh) :
    ((((b.modStation st (fun s => { s with stap := tmod {} s.stap (skey o k) f })).markLive st o).station
      st).streamTap o k).fresh := by
  refine (Block.goesOn_of_kept (st := st) Block.markLive_kept).fresh _ ?_
  rw [Block.station_modStation, tget_tmod]
  exact hf _

/-- The block after the TCAL entry ahead of an anchor mark (R136). -/
def Block.tcalPlaced (b : Block) (st o lvl n : Nat) : Block :=
  (if ((b.station st).streamTap o (n % 64)).tcalDue && !b.fmt2Of o then
    b.place st o lvl (tcalPacket (n % 64) b.alEpoch (b.view n).dTap) none false else b).modStation st
    (fun s => { s with stap := tmod {} s.stap (skey o (n % 64)) (fun x => { x with tcalDue := false }) })

theorem Block.tcalPlaced_goesOn : (b.station st).GoesOn ((b.tcalPlaced st o lvl n).station st) := by
  refine Station.GoesOn.trans (Block.goesOn_of_kept ?_)
    (Block.goesOn_modStation fun _ => Station.goesOn_tmod fun _ hx => hx)
  split
  · exact Block.place_kept
  · rfl

/-- The TIME packet ahead of an anchor mark, unless its stream has it (R142). -/
def Block.timeNoted (b : Block) (st o : Nat) (f2 : Bool) (e : Entry) : List Byte × Block :=
  match (b.station st).pkts.find? (fun p => p.num == e.strobe) with
  | some p =>
    if tget 0 (b.station st).stime (skey o p.seq) = p.num then ([], b)
    else (timePacket f2 p, b.modStation st (fun s => { s with stime := tset 0 s.stime (skey o p.seq) p.num }))
  | none => ([], b)

theorem Block.timeNoted_goesOn {f2 : Bool} : (b.station st).GoesOn ((b.timeNoted st o f2 e).2.station st) := by
  unfold Block.timeNoted
  split
  · split
    · exact Station.goesOn_of_part rfl
    · exact Block.goesOn_modStation fun _ => Station.goesOn_of_part rfl
  · exact Station.goesOn_of_part rfl

theorem Block.beforeMark_eq :
    b.beforeMark st o lvl n e = (b.tcalPlaced st o lvl n).timeNoted st o (b.fmt2Of o) e := rfl

theorem Block.beforeMark_goesOn : (b.station st).GoesOn ((b.beforeMark st o lvl n e).2.station st) := by
  rw [Block.beforeMark_eq]
  exact Block.tcalPlaced_goesOn.trans Block.timeNoted_goesOn

/-- Placing an item makes the sum of its tap in its owner's stream new (R121). -/
theorem Block.placeItem_goesOn_fresh : (b.station st).GoesOn ((b.placeItem st n lvl e d str).station st) ∧
    (((b.placeItem st n lvl e d str).station st).streamTap d.owner (n % 64)).fresh := by
  have hmark : (b.station st).GoesOn ((if e.cls = clsAnchor then (b.alignTo st d.owner).beforeMark st d.owner lvl n e
      else ([], b.alignTo st d.owner)).2.station st) := by
    have halign : (b.station st).GoesOn ((b.alignTo st d.owner).station st) := Block.goesOn_of_kept Block.alignTo_kept
    split
    · exact halign.trans Block.beforeMark_goesOn
    · exact halign
  unfold Block.placeItem
  dsimp only
  generalize (if e.cls = clsAnchor then (b.alignTo st d.owner).beforeMark st d.owner lvl n e
      else ([], b.alignTo st d.owner)) = r at hmark ⊢
  have hplaced : ∀ {bytes : List Byte} {aTap : Option Nat}, (b.station st).GoesOn
      (((if e.cls = clsA then r.2.modView n (fun v => { v with needFull := false }) else r.2).place st d.owner lvl bytes
        aTap false).station st) := by
    refine fun {_ _} => hmark.trans (Block.goesOn_of_kept ?_)
    rw [Block.place_kept]
    split
    · rw [Block.modView_kept]
      exact fun _ => rfl
    · rfl
  refine ⟨hplaced.trans (Block.markLive_goesOn ?_), Block.markLive_fresh ?_⟩ <;> exact fun _ => ⟨rfl, rfl, rfl⟩

/-! ### One item on its way to its owners' streams (R97, R103, R104) -/

/-- The filter of a station without rules, and with no owner excluded, passes every item (R103). -/
theorem Station.passes_of_no_rules {s : Station} {cls l : Nat} (hr : s.rules = []) (hd : s.defExclude = []) :
    s.passes cls l d = true := by
  simp [Station.passes, hr, hd]

/-- A station whose filter passes everything and whose sequencer is off. -/
def Station.Open (s : Station) : Prop := s.rules = [] ∧ s.defExclude = [] ∧ s.seq.en = false

theorem Station.Open.goesOn {s s' : Station} (h : s.Open) (hg : s.GoesOn s') : s'.Open :=
  ⟨hg.rules.trans h.1, hg.defExclude.trans h.2.1, hg.seqEn.trans h.2.2⟩

/-- An item that filter and gate pass is placed. -/
theorem Block.deliverItem_of_open (ho : (b.station st).Open) (hg : gate d.owner = true) :
    b.deliverItem st n e gate floor str d = (true, (b.lossMarker st n (max d.interest (floor d.owner)) e.ctx gate).placeItem
      st n (max d.interest (floor d.owner)) e d str) := by
  obtain ⟨hrules, hdef, -⟩ := ho
  unfold Block.deliverItem
  simp only [Station.passes_of_no_rules hrules hdef, hg, Bool.not_true, Bool.and_false, Bool.false_eq_true, if_false]

/-- The deliveries of one item, one after the other. -/
def Block.deliverAll (b : Block) (st n : Nat) (e : Entry) (gate : Nat → Bool) (floor : Nat → Nat) (str : Bool)
    (ds : List Delivery) (placed : List Nat) : List Nat × Block :=
  ds.foldl (fun (a : List Nat × Block) d =>
    let y := a.2.deliverItem st n e gate floor str d
    (if y.1 then a.1 ++ [d.owner] else a.1, y.2)) (placed, b)

theorem Block.deliverAll_of_open {ds : List Delivery} {placed : List Nat} (ho : (b.station st).Open)
    (hg : ∀ o, gate o = true) :
    (b.station st).GoesOn ((b.deliverAll st n e gate floor str ds placed).2.station st) ∧
    (b.deliverAll st n e gate floor str ds placed).1 = placed ++ ds.map Delivery.owner ∧
    ∀ d ∈ ds, (((b.deliverAll st n e gate floor str ds placed).2.station st).streamTap d.owner (n % 64)).fresh := by
  induction ds generalizing b placed with
  | nil => exact ⟨Station.goesOn_of_part rfl, (List.append_nil _).symm, by simp⟩
  | cons d ds ih =>
    obtain ⟨hgoes, hfresh⟩ := Block.placeItem_goesOn_fresh (st := st) (n := n) (e := e) (d := d) (str := str)
      (b := b.lossMarker st n (max d.interest (floor d.owner)) e.ctx gate) (lvl := max d.interest (floor d.owner))
    replace hgoes := (Block.goesOn_of_kept Block.lossMarker_kept).trans hgoes
    have hstep : b.deliverAll st n e gate floor str (d :: ds) placed =
        ((b.lossMarker st n (max d.interest (floor d.owner)) e.ctx gate).placeItem st n
          (max d.interest (floor d.owner)) e d str).deliverAll st n e gate floor str ds (placed ++ [d.owner]) := by
      unfold Block.deliverAll
      rw [List.foldl_cons, Block.deliverItem_of_open ho (hg _)]
      rfl
    obtain ⟨hrest, howners, hall⟩ := ih (placed := placed ++ [d.owner]) (ho.goesOn hgoes)
    rw [hstep]
    refine ⟨hgoes.trans hrest, by rw [howners, List.append_assoc]; rfl, fun x hx => ?_⟩
    rcases List.mem_cons.mp hx with rfl | hx
    · exact hrest.fresh _ hfresh
    · exact hall x hx

/-- With the sequencer off, stages 5 to 9 are the deliveries alone (R104, R110). -/
theorem Block.stage5_of_open {gt : Gt} {ds : List Delivery} (ho : (b.station st).Open) (hds : ds ≠ []) :
    ∃ gate floor, (∀ o, gate o = true) ∧ b.stage5 st n e gt ds =
      (b.modSeq st (fun _ => (b.station st).seq)).deliverAll st n e gate floor (b.stretched n) ds [] := by
  obtain ⟨d, ds, rfl⟩ := List.exists_cons_of_ne_nil hds
  obtain ⟨-, -, hen⟩ := ho
  refine ⟨fun _ => true, fun _ => 0, fun _ => rfl, ?_⟩
  have hnone : ∀ (c : Block) (was : SeqState) (mask : Nat), c.seqAct st .none was 0 (n % 64) mask gt = c := by
    intro c was mask
    unfold Block.seqAct
    split <;> rfl
  unfold Block.stage5
  simp only [hen, Bool.false_and, Bool.false_eq_true, if_false, Bool.not_false, Bool.true_or, hnone]
  rfl

/-- An item placed in the streams of the owners in `ds` (R121). -/
theorem Block.stage5_places {gt : Gt} {ds : List Delivery} (ho : (b.station st).Open) (hd : d ∈ ds) :
    d.owner ∈ (b.stage5 st n e gt ds).1 ∧
    (((b.stage5 st n e gt ds).2.station st).streamTap d.owner (n % 64)).fresh := by
  obtain ⟨gate, floor, hgate, heq⟩ := Block.stage5_of_open (n := n) (e := e) (gt := gt) ho (List.ne_nil_of_mem hd)
  have hseq : (b.station st).GoesOn ((b.modSeq st (fun _ => (b.station st).seq)).station st) := by
    unfold Block.modSeq
    rw [Block.station_modStation]
    exact Station.goesOn_of_part rfl
  obtain ⟨-, howners, hfresh⟩ := Block.deliverAll_of_open (n := n) (e := e) (floor := floor) (str := b.stretched n)
    (ds := ds) (placed := []) (ho.goesOn hseq) hgate
  rw [heq, howners]
  exact ⟨List.mem_append_right _ (List.mem_map_of_mem hd), hfresh d hd⟩

theorem skey_div {l : Nat} (h : l < 64) : skey o l / 64 = o := by
  unfold skey
  omega

/-- The sum of an item that was left out goes into no stream in which it was placed (R121). -/
theorem Block.sumSkipped_fresh {placed : List Nat} {l : Nat} (hl : l < 64) (ho : o ∈ placed)
    (h : ((b.station st).streamTap o l).fresh) : (((b.sumSkipped st n e placed).station st).streamTap o l).fresh := by
  unfold Block.sumSkipped Station.streamTap
  rw [Block.station_modStation, tget_tmap (by simp)]
  simp only [skey_div hl, List.contains_iff_mem.mpr ho, Bool.or_true, if_true]
  exact h

/-! ### The deliveries of an item (R97 to R99, R283) -/

/-- Stage 4 gives the item to owner `o`: the tenant of its context for a timing item, the operator for an A item, the
owner of its counter for a C report, and otherwise the tenant whose `CLASSES` take it. -/
def Block.Gives (b : Block) (n : Nat) (e : Entry) (o : Nat) : Prop :=
  (isTiming e.cls = true ∧ o = ctxTenantOf (b.ctxEntry e.ctx)) ∨
  (e.cls = clsA ∧ ctxCapA (b.ctxEntry e.ctx) = true ∧ o = 64) ∨
  (e.cls = clsC ∧ o = (tget {} (b.tap n).cnt (payKind e.pay)).owner) ∨
  (isTiming e.cls = false ∧ e.cls ≠ clsA ∧ e.cls ≠ clsC ∧ (e.cls = clsO → fld e.pay 18 2 ≠ 0) ∧
    o = ctxTenantOf (b.ctxEntry e.ctx) ∧ (∀ i, classBit e.cls = some i →
      (ctxClasses (b.ctxEntry e.ctx)).testBit i = true))

/-- A tenant whose `CLASSES` take the item is given it (R97). -/
theorem Block.tenantDelivery_takes {cls ctx : Nat} {p : Payload} (hv : ctxValid (b.ctxEntry ctx) = true)
    (hc : ∀ i, classBit cls = some i → (ctxClasses (b.ctxEntry ctx)).testBit i = true) :
    ∃ d, b.tenantDelivery st cls ctx p = ([d], b) ∧ d.owner = ctxTenantOf (b.ctxEntry ctx) := by
  refine ⟨{ owner := ctxTenantOf (b.ctxEntry ctx), interest := ctxInterest (b.ctxEntry ctx), ctx := ctx, pay := p }, ?_, rfl⟩
  unfold Block.tenantDelivery
  cases hb : classBit cls with
  | none => simp [hv]
  | some i => simp [hv, hc i hb]

theorem Block.stage4_gives (hv : ctxValid (b.ctxEntry e.ctx) = true) (h : b.Gives n e o) :
    ∃ ds, b.stage4 st n e = ([ds], b) ∧ ∃ d ∈ ds, d.owner = o := by
  unfold Block.stage4
  dsimp only
  rcases h with ⟨ht, rfl⟩ | ⟨hcls, hcap, rfl⟩ | ⟨hcls, rfl⟩ | ⟨ht, hA, hC, hO, rfl, hbits⟩
  · simp only [ht, hv, Bool.not_true, Bool.false_eq_true, if_false, if_true]
    refine ⟨_, rfl, ?_⟩
    split <;> exact ⟨_, List.mem_cons_self, rfl⟩
  · have ht : isTiming clsA = false := by decide
    simp only [ht, hcls, hv, hcap, Bool.not_true, Bool.false_eq_true, if_false, if_true]
    exact ⟨_, rfl, _, List.mem_cons_self, rfl⟩
  · have ht : isTiming e.cls = false := by rw [hcls]; decide
    have hA : ¬ e.cls = clsA := by rw [hcls]; decide
    simp only [ht, hA, hv, Bool.not_true, Bool.false_eq_true, if_false]
    rw [if_pos hcls]
    exact ⟨_, rfl, _, List.mem_cons_self, rfl⟩
  · simp only [ht, hA, hC, Bool.false_eq_true, if_false]
    split
    · rename_i hcls
      obtain ⟨d, hd, howner⟩ := Block.tenantDelivery_takes (st := st) (p := e.pay) (cls := clsO) hv (hcls ▸ hbits)
      unfold Block.contextCopies
      dsimp only
      rw [if_pos (by simp [hO hcls]), hd]
      exact ⟨_, rfl, d, List.mem_cons_self, howner⟩
    · obtain ⟨d, hd, howner⟩ := Block.tenantDelivery_takes (st := st) (p := e.pay) hv hbits
      rw [hd]
      exact ⟨_, rfl, d, List.mem_cons_self, howner⟩

/-- An item without a valid context is counted and delivered to no one (R97); O CONTEXT items have two contexts (R100). -/
theorem Block.stage4_noContext (hv : ctxValid (b.ctxEntry e.ctx) = false) (hO : e.cls ≠ clsO) :
    (b.stage4 st n e).1.flatten = [] ∧ (b.stage4 st n e).2.kept = (b.noContext st).kept := by
  unfold Block.stage4 Block.tenantDelivery
  simp only [hv, hO, Bool.not_false, if_true, if_false]
  split
  · exact ⟨rfl, rfl⟩
  · split
    · exact ⟨rfl, Block.needFull_kept⟩
    · split <;> exact ⟨rfl, rfl⟩

end

end Sys2Proof.Machine

namespace Sys2Proof.Machine

/-! ### What the stages leave of the taps (R12, R94)

From stage 3 on a tap receives only requests and configuration writes; the queues of the quadrants are stage 3's alone. -/

section
variable {b c : Block} {st n m o lvl : Nat} {e : Entry} {d : Delivery} {gt : Gt}

theorem Block.keptTaps_of_seen {M : List Area} (h : b.seen M = c.seen M) (hM : Area.taps ∉ M) :
    b.kept.taps = c.kept.taps := by
  simp only [Block.kept, Block.tap, Block.taps_of_seen h hM]

theorem Block.keptStations_of_seen {M : List Area} (h : b.seen M = c.seen M) (hM : Area.stations ∉ M) :
    b.kept.stations = c.kept.stations := by
  simp only [Block.kept, Block.station, Block.stations_of_seen h hM]

theorem Block.keptTaps_of_kept (h : b.kept = c.kept) : b.kept.taps = c.kept.taps := congrArg Kept.taps h

theorem Block.keptTaps_modStation {f : Station → Station} : (b.modStation n f).kept.taps = b.kept.taps := rfl

theorem Block.trigger_keptTaps {source tap mask : Nat} : (b.trigger st source tap mask gt).kept.taps = b.kept.taps := by
  unfold Block.trigger
  dsimp only
  split
  · rw [Block.each_keeps (p := fun b => b.kept.taps) fun _ _ => Block.keptTaps_modStation,
      Block.keptTaps_of_seen (Block.caskTrigger_seen (M := [.cask, .tenants]) (by decide)) (by decide), Block.raise_kept]
    unfold Block.modSeq
    rw [Block.keptTaps_modStation, Block.place_kept, Block.keptTaps_modStation, Block.closeOwner_kept, Block.alignTo_kept]
  · rw [Block.keptTaps_of_seen (Block.caskTrigger_seen (M := [.cask, .tenants]) (by decide)) (by decide), Block.raise_kept]
    unfold Block.modSeq
    rw [Block.keptTaps_modStation, Block.place_kept, Block.keptTaps_modStation, Block.closeOwner_kept, Block.alignTo_kept]

theorem Block.seqAct_keptTaps {a : SeqAct} {was : SeqState} {source tap mask : Nat} :
    (b.seqAct st a was source tap mask gt).kept.taps = b.kept.taps := by
  unfold Block.seqAct
  split
  · rfl
  · cases a with
    | none | ignored | start | stop => rfl
    | hold => exact Block.keptTaps_of_kept Block.enterHold_kept
    | rearm =>
      exact Block.keptTaps_of_seen (b := b.rearm st) (c := b.modSeq st (fun q => q.goto .armed))
        (Block.holdEnd_seen (M := [.cask, .tenants]) (by decide)) (by decide)
    | trigger => exact Block.trigger_keptTaps

theorem Block.beforeMark_keptTaps : (b.beforeMark st o lvl n e).2.kept.taps = b.kept.taps := by
  have hcal : (b.tcalPlaced st o lvl n).kept.taps = b.kept.taps := by
    unfold Block.tcalPlaced
    rw [Block.keptTaps_modStation]
    split
    · rw [Block.place_kept]
    · rfl
  rw [Block.beforeMark_eq, ← hcal]
  unfold Block.timeNoted
  split
  · split <;> rfl
  · rfl

theorem Block.placeItem_keptTaps {str : Bool} : (b.placeItem st n lvl e d str).kept.taps = b.kept.taps := by
  unfold Block.placeItem
  dsimp only
  rw [Block.markLive_kept, Block.keptTaps_modStation, Block.place_kept]
  have hmark : (if e.cls = clsAnchor then (b.alignTo st d.owner).beforeMark st d.owner lvl n e
      else ([], b.alignTo st d.owner)).2.kept.taps = b.kept.taps := by
    split
    · rw [Block.beforeMark_keptTaps, Block.alignTo_kept]
    · exact Block.keptTaps_of_kept Block.alignTo_kept
  rw [← hmark]
  split <;> rfl

theorem Block.deliverItem_keptTaps {gate : Nat → Bool} {floor : Nat → Nat} {str : Bool} :
    (b.deliverItem st n e gate floor str d).2.kept.taps = b.kept.taps := by
  have hlost : ∀ b : Block, (if e.cls = clsA then b.needFull st [n % 64] else b).kept.taps = b.kept.taps := by
    intro b
    split
    · rw [Block.needFull_kept]
    · rfl
  unfold Block.deliverItem
  dsimp only
  split
  · exact hlost _
  · split
    · refine (hlost _).trans ?_
      split <;> rfl
    · rw [Block.placeItem_keptTaps, Block.lossMarker_kept]

theorem Block.deliverAll_keptTaps {gate : Nat → Bool} {floor : Nat → Nat} {str : Bool} {ds : List Delivery}
    {placed : List Nat} : (b.deliverAll st n e gate floor str ds placed).2.kept.taps = b.kept.taps := by
  unfold Block.deliverAll
  induction ds generalizing b placed with
  | nil => rfl
  | cons d ds ih =>
    rw [List.foldl_cons]
    exact ih.trans Block.deliverItem_keptTaps

theorem Block.stage5_keptTaps {ds : List Delivery} : (b.stage5 st n e gt ds).2.kept.taps = b.kept.taps := by
  unfold Block.stage5
  cases ds with
  | nil => rfl
  | cons d ds => exact Block.seqAct_keptTaps.trans Block.deliverAll_keptTaps

theorem Block.tenantDelivery_keptTaps {cls ctx : Nat} {p : Payload} :
    (b.tenantDelivery st cls ctx p).2.kept.taps = b.kept.taps := by
  unfold Block.tenantDelivery
  dsimp only
  split
  · rfl
  · cases classBit cls <;> dsimp only <;> split <;> rfl

theorem Block.contextCopies_keptTaps {ctx : Nat} {p : Payload} :
    (b.contextCopies st ctx p).2.kept.taps = b.kept.taps := by
  unfold Block.contextCopies
  dsimp only
  split
  · exact Block.tenantDelivery_keptTaps
  · split <;> split <;> simp only [Block.tenantDelivery_keptTaps]

theorem Block.stage4_keptTaps : (b.stage4 st n e).2.kept.taps = b.kept.taps := by
  unfold Block.stage4
  dsimp only
  split
  · split <;> rfl
  · split
    · split
      · exact Block.keptTaps_of_kept (c := b.noContext st) Block.needFull_kept
      · split
        · exact Block.keptTaps_of_kept Block.needFull_kept
        · rfl
    · split
      · split <;> rfl
      · split
        · exact Block.contextCopies_keptTaps
        · exact Block.tenantDelivery_keptTaps

theorem Block.rewriteCfg_kept : (b.rewriteCfg n).kept = b.kept := by
  unfold Block.rewriteCfg
  dsimp only
  split
  · rfl
  · rw [Block.modTap_kept]
    exact fun _ => rfl

theorem Block.stage3_keptTaps : (b.stage3 n e gt).kept.taps = b.kept.taps := by
  unfold Block.stage3
  dsimp only
  split
  · split
    · refine Block.keptTaps_of_seen (M := [.views, .mash]) ?_ (by decide)
      rw [Block.resolveAll_seen (by decide), Block.modView_seen (by decide), Block.unquiet_seen (by decide),
        Block.pullLoss_seen (by decide), Block.setTenant_seen (by decide)]
    · refine Block.keptTaps_of_seen (M := [.views, .mash, .assay]) ?_ (by decide)
      split
      · rw [Block.padCopy_seen (by decide), Block.modView_seen (by decide), Block.setTenant_seen (by decide)]
      · rw [Block.modView_seen (by decide), Block.setTenant_seen (by decide)]
  · split
    · refine Block.keptTaps_of_seen (M := [.views, .quads, .mash, .sync]) ?_ (by decide)
      rw [Block.syncAppend_seen (by decide), Block.setTenant_seen (by decide)]
    · split
      · refine Block.keptTaps_of_seen (M := [.views, .mash]) ?_ (by decide)
        rw [Block.loopItem_seen (by decide), Block.modView_seen (by decide)]
      · split
        · rw [Block.keptTaps_of_seen (Block.markStale_seen (M := [.sync]) (by decide)) (by decide), Block.rewriteCfg_kept]
        · rfl

/-- Stage 3 changes no station. -/
theorem Block.stage3_keptStations : (b.stage3 n e gt).kept.stations = b.kept.stations :=
  Block.keptStations_of_seen (Block.stage3_seen (M := [.taps, .views, .quads, .mash, .assay, .sync]) (by decide))
    (by decide)

/-! ### An item's way from stage 3 on -/

/-- Stages 5 to 9 for the items that stage 4 made of one. -/
def Block.stage5All (b : Block) (st n : Nat) (e : Entry) (gt : Gt) (items : List (List Delivery)) (placed : List Nat) :
    List Nat × Block :=
  items.foldl (fun (a : List Nat × Block) ds =>
    let y := a.2.stage5 st n e gt ds
    (a.1 ++ y.1, y.2)) (placed, b)

theorem Block.stage5All_keptTaps {items : List (List Delivery)} {placed : List Nat} :
    (b.stage5All st n e gt items placed).2.kept.taps = b.kept.taps := by
  unfold Block.stage5All
  induction items generalizing b placed with
  | nil => rfl
  | cons ds items ih =>
    rw [List.foldl_cons]
    exact ih.trans Block.stage5_keptTaps

theorem Block.stage5All_seen {M : List Area} {items : List (List Delivery)} {placed : List Nat}
    (h : Area.sub [.taps, .views, .stations, .cask, .tenants, .power] M = true) :
    (b.stage5All st n e gt items placed).2.seen M = b.seen M := by
  unfold Block.stage5All
  induction items generalizing b placed with
  | nil => rfl
  | cons ds items ih =>
    rw [List.foldl_cons]
    exact ih.trans (Block.stage5_seen h)

/-- Items without deliveries leave the block as it is. -/
theorem Block.stage5All_of_empty {items : List (List Delivery)} {placed : List Nat} (h : items.flatten = []) :
    (b.stage5All st n e gt items placed).2 = b := by
  unfold Block.stage5All
  induction items generalizing b placed with
  | nil => rfl
  | cons ds items ih =>
    obtain ⟨hds, hitems⟩ := List.append_eq_nil_iff.mp h
    rw [List.foldl_cons, hds]
    exact ih hitems

/-- Stages 3 to 9 of an item. -/
def Block.fromStage3 (b : Block) (st n : Nat) (e : Entry) (gt : Gt) : Block :=
  let r := (b.stage3 n e gt).stage4 st n e
  let x := r.2.stage5All st n e gt r.1 []
  x.2.sumSkipped st n e x.1

theorem Block.fromStage3_keptTaps : (b.fromStage3 st n e gt).kept.taps = b.kept.taps := by
  unfold Block.fromStage3 Block.sumSkipped
  dsimp only
  rw [Block.keptTaps_modStation, Block.stage5All_keptTaps, Block.stage4_keptTaps, Block.stage3_keptTaps]

theorem Block.fromStage3_quads : (b.fromStage3 st n e gt).quads = (b.stage3 n e gt).quads := by
  refine Block.quads_of_seen (M := [.taps, .views, .stations, .cask, .tenants, .power]) ?_ (by decide)
  unfold Block.fromStage3
  dsimp only
  rw [Block.sumSkipped_seen (by decide), Block.stage5All_seen (by decide), Block.stage4_seen (by decide)]

theorem Block.stage3_ctxEntry {k : Nat} : (b.stage3 n e gt).ctxEntry k = b.ctxEntry k :=
  congrArg (fun x => tget (0 : Word) x k)
    (Block.ctxs_of_seen (Block.stage3_seen (M := [.taps, .views, .quads, .mash, .assay, .sync]) (by decide)) (by decide))

theorem Block.fromStage3_noContext (hv : ctxValid (b.ctxEntry e.ctx) = false) (hO : e.cls ≠ clsO) :
    ((b.fromStage3 st n e gt).station st).noContext = satAdd 32 (b.station st).noContext 1 := by
  obtain ⟨hnone, hkept⟩ := Block.stage4_noContext (b := b.stage3 n e gt) (st := st) (n := n)
    (by rwa [Block.stage3_ctxEntry]) hO
  have hthree : (b.stage3 n e gt).station st = b.station st := congrArg (fun x => tget ({} : Station) x st)
    (Block.stations_of_seen (Block.stage3_seen (M := [.taps, .views, .quads, .mash, .assay, .sync]) (by decide))
      (by decide))
  have hfour := congrArg StationPart.noContext (Block.part_of_kept hkept st)
  unfold Block.fromStage3 Block.sumSkipped
  dsimp only
  rw [Block.station_modStation, Block.stage5All_of_empty hnone]
  refine hfour.trans ?_
  unfold Block.noContext
  rw [Block.station_modStation, ← hthree]
  rfl

/-- What gives an item to an owner does not depend on stage 3. -/
theorem Block.stage3_gives (h : b.Gives n e o) : (b.stage3 n e gt).Gives n e o := by
  have hcnt : ((b.stage3 n e gt).tap n).cnt = (b.tap n).cnt := (congrArg Tap.cnt (congrFun Block.stage3_keptTaps n) :)
  unfold Block.Gives at h ⊢
  rwa [Block.stage3_ctxEntry, hcnt]

/-- An item that is given to an owner makes the sum of its tap new in that owner's stream. -/
theorem Block.fromStage3_fresh {l : Nat} (hl : n % 64 = l) (ho : (b.station st).Open)
    (hv : ctxValid (b.ctxEntry e.ctx) = true) (h : b.Gives n e o) :
    (((b.fromStage3 st n e gt).station st).streamTap o l).fresh := by
  have hpart : ((b.stage3 n e gt).station st).part = (b.station st).part := congrFun Block.stage3_keptStations st
  obtain ⟨ds, hfour, d, hd, rfl⟩ := Block.stage4_gives (st := st) (by rwa [Block.stage3_ctxEntry])
    (Block.stage3_gives (gt := gt) h)
  obtain ⟨hplaced, hfresh⟩ := Block.stage5_places (n := n) (e := e) (gt := gt)
    (ho.goesOn (Station.goesOn_of_part hpart)) hd
  unfold Block.fromStage3
  rw [hfour]
  subst hl
  exact Block.sumSkipped_fresh (Nat.mod_lt _ (by decide)) hplaced hfresh

end

end Sys2Proof.Machine

namespace Sys2Proof.Machine

/-! ### The head of a chain on its way to the stages (R26, R27, R42) -/

/-- A tap whose lost items moved to the ledger (R26, R27). -/
def Tap.moved (t : Tap) : Tap :=
  { t with
    ledgerLost := if t.tapLost = 0 then t.ledgerLost else satAdd 32 t.ledgerLost t.tapLost
    tapLost := 0, w := false, lossAt := [] }

section
variable {b : Block} {st n m k : Nat} {e : Entry} {rest : List Entry} {gt : Gt} {ls : List (Gt × Bool)}

theorem Block.gt_of_time_power {c : Block} (ht : b.time = c.time) (hp : b.power.st = c.power.st) : b.gt = c.gt := by
  unfold Block.gt
  rw [ht, hp]

theorem Block.gt_of_seen {M : List Area} {c : Block} (h : b.seen M = c.seen M) (ht : Area.time ∉ M)
    (hp : Area.power ∉ M) : b.gt = c.gt :=
  Block.gt_of_time_power (Block.time_of_seen h ht) (by rw [Block.power_of_seen h hp])

theorem Block.lossSeen_mark : ((b.lossSeen n ls).view m).mark = (b.view m).mark := by
  obtain ⟨q, a, h⟩ := Block.lossSeen_view (b := b) (n := n) (m := m) (ls := ls)
  rw [h]
  split <;> rfl

theorem Block.foldLoss_kept {c : Nat} : (b.foldLoss n k c).kept = b.kept := by
  unfold Block.foldLoss
  split
  · rfl
  · rw [Block.modView_kept]
    exact fun _ => rfl

theorem Block.wakeLoss_kept {w : Bool} : (b.wakeLoss n k w).kept = b.kept := by
  unfold Block.wakeLoss
  split
  · rw [Block.loss_kept, Block.modStation_kept]
    exact fun _ => rfl
  · rfl

theorem Block.wakeLoss_gt {w : Bool} : (b.wakeLoss n k w).gt = b.gt := by
  unfold Block.wakeLoss
  split <;> rfl

theorem Block.foldLoss_gt {c : Nat} : (b.foldLoss n k c).gt = b.gt :=
  Block.gt_of_seen (Block.foldLoss_seen (M := [.views]) (by decide)) (by decide) (by decide)

theorem Block.lossSeen_kept : (b.lossSeen n ls).kept = b.kept := by
  simp only [Block.kept, Block.tap, Block.station, Block.lossSeen_taps, Block.lossSeen_stations, Block.lossSeen_mark]

/-- The move to the ledger reaches the tap itself, and of views and stations nothing that packing keeps. -/
theorem Block.ledgerMove_kept : (b.ledgerMove n).kept = (b.modTap n (fun _ => (b.tap n).moved)).kept := by
  have htap : ∀ f : Tap → Tap, f (b.tap n) = (b.tap n).moved →
      (b.modTap n f).kept = (b.modTap n (fun _ => (b.tap n).moved)).kept := by
    intro f hf
    refine congrArg (fun t => Kept.mk t (b.kept).marks (b.kept).stations) (funext fun m => ?_)
    rw [Block.tap_modTap_ite, Block.tap_modTap_ite]
    split
    · rename_i hm
      rw [hm, hf]
    · rfl
  unfold Block.ledgerMove
  dsimp only
  split
  · rename_i h
    exact htap _ (by simp only [Tap.moved, h, if_true])
  · rename_i h
    rw [Block.lossSeen_kept, Block.foldLoss_kept, Block.wakeLoss_kept]
    exact htap _ (by simp only [Tap.moved, h, if_false])

theorem Block.ledgerMove_gt : (b.ledgerMove n).gt = b.gt := by
  unfold Block.ledgerMove
  dsimp only
  split
  · rfl
  · rw [Block.gt_of_seen (Block.lossSeen_seen (M := [.views, .mash, .sync]) (by decide)) (by decide) (by decide),
      Block.foldLoss_gt, Block.wakeLoss_gt, Block.gt_modTap]

/-! ### Stage 2 (R42, R45) -/

/-- What an item changes of the station's view of its tap (R45, R518). -/
def Block.viewed (b : Block) (n : Nat) (e : Entry) : Block :=
  let b := b.modView n (fun v => match e.cycles with
    | some c => { v with markCyc := v.markCyc + c }
    | none => { v with mark := none, markCyc := 0 })
  if e.cls = clsAnchor then
    match (b.station (stOf n)).pkts.find? (fun p => p.num == e.strobe) with
    | some p => b.modView n (fun v => v.anchor p (fld e.pay 32 6) (fld e.pay 28 4))
    | none => b.modView n (fun v => { v with mark := none })
  else if e.cls = clsClock then b.modView n (fun v => { v with clkSince := true })
  else if e.cls = clsP && payKind e.pay = 0 then b.modView n (fun v => { v with down := true })
  else if e.cls = clsP && payKind e.pay = 1 then
    b.modView n (fun v => { v with mark := none, down := false, upSeen := true })
  else b

theorem Block.stage2_eq : b.stage2 n e =
    if ((b.viewed n e).view n).period = (b.view n).period then b.viewed n e else (b.viewed n e).realign := rfl

theorem Block.viewed_seen : (b.viewed n e).seen [.views] = b.seen [.views] := by
  unfold Block.viewed
  dsimp only
  split
  · split <;> rw [Block.modView_seen (by decide), Block.modView_seen (by decide)]
  · split
    · rw [Block.modView_seen (by decide), Block.modView_seen (by decide)]
    · split
      · rw [Block.modView_seen (by decide), Block.modView_seen (by decide)]
      · split
        · rw [Block.modView_seen (by decide), Block.modView_seen (by decide)]
        · rw [Block.modView_seen (by decide)]

theorem Block.stage2_kept : (b.stage2 n e).kept = (b.viewed n e).kept := by
  rw [Block.stage2_eq]
  split
  · rfl
  · exact Block.realign_kept

theorem Block.stage2_keptTaps : (b.stage2 n e).kept.taps = b.kept.taps :=
  (congrArg Kept.taps Block.stage2_kept).trans (Block.keptTaps_of_seen Block.viewed_seen (by decide))

theorem Block.stage2_keptStations : (b.stage2 n e).kept.stations = b.kept.stations :=
  (congrArg Kept.stations Block.stage2_kept).trans (Block.keptStations_of_seen Block.viewed_seen (by decide))

/-- Before a mark, the `gt` of an S item is that of its arrival (R45). -/
theorem Block.stage2_itemGt (hS : e.cls = clsS) (hm : (b.view n).mark = none) : (b.stage2 n e).itemGt n = b.gt := by
  have hview : b.viewed n e = b.modView n (fun v => match e.cycles with
      | some c => { v with markCyc := v.markCyc + c }
      | none => { v with mark := none, markCyc := 0 }) := by
    unfold Block.viewed
    rw [hS]
    rfl
  have hperiod : ((b.viewed n e).view n).period = (b.view n).period := by
    rw [hview, Block.view_modView]
    split <;> rfl
  have hmark : ((b.viewed n e).view n).mark = none := by
    rw [hview, Block.view_modView]
    split
    · exact hm
    · rfl
  rw [Block.stage2_eq, if_pos hperiod]
  unfold Block.itemGt
  simp only [hmark]
  exact Block.gt_of_seen Block.viewed_seen (by decide) (by decide)

/-! ### The service of a tap (R12, R94) -/

/-- The block whose station has taken the head of a chain. -/
def Block.headLeft (b : Block) (st n l : Nat) (rest : List Entry) : Block :=
  (b.modTap n (fun t => { t with chain := rest })).modStation st (fun s => s.took l b.gt)

/-- The block before stage 3: the head left its chain, losses moved to the ledger, the station's view is up to date. -/
def Block.served (b : Block) (st n l : Nat) (e : Entry) (rest : List Entry) : Block :=
  ((b.headLeft st n l rest).ledgerMove n).stage2 n e

/-- The `gt` of an item: its own for S, E and L items, its arrival's for others. -/
def Block.gtOf (b : Block) (n : Nat) (e : Entry) : Gt :=
  if e.cls = clsS || e.cls = clsE || e.cls = clsL then b.itemGt n else b.gt

variable {l : Nat}

theorem Block.headLeft_kept :
    (b.headLeft st n l rest).kept = (b.modTap n (fun t => { t with chain := rest })).kept := by
  unfold Block.headLeft
  rw [Block.modStation_kept]
  exact fun _ => rfl

theorem Block.headLeft_tap :
    (b.headLeft st n l rest).tap m = if m = n then { b.tap m with chain := rest } else b.tap m := by
  unfold Block.headLeft
  rw [Block.tap_modStation, Block.tap_modTap_ite]

theorem Block.served_settled : ((b.served st n l e rest).tap m).settled =
    (if m = n then { b.tap n with chain := rest }.moved else b.tap m).settled := by
  have hledger := (Block.stage2_keptTaps (b := (b.headLeft st n l rest).ledgerMove n) (n := n) (e := e)).trans
    (congrArg Kept.taps Block.ledgerMove_kept)
  refine (congrFun hledger m).trans (congrArg Tap.settled ?_)
  rw [Block.tap_modTap_ite]
  split
  · rw [Block.headLeft_tap, if_pos rfl]
  · rename_i h
    rw [Block.headLeft_tap, if_neg h]

theorem Block.served_part : ((b.served st n l e rest).station m).part = (b.station m).part := by
  have hledger := (Block.stage2_keptStations (b := (b.headLeft st n l rest).ledgerMove n) (n := n) (e := e)).trans
    (congrArg Kept.stations Block.ledgerMove_kept)
  exact (congrFun hledger m).trans (Block.part_of_kept Block.headLeft_kept m)

theorem Block.served_seen : (b.served st n l e rest).seen
      [.taps, .views, .stations, .mash, .sync, .tenants, .power, .cask, .time] =
    b.seen [.taps, .views, .stations, .mash, .sync, .tenants, .power, .cask, .time] := by
  unfold Block.served Block.headLeft
  rw [Block.stage2_seen (by decide), Block.ledgerMove_seen (by decide), Block.modStation_seen (by decide),
    Block.modTap_seen (by decide)]
  exact Keeps.of fun _ => rfl

theorem Block.served_quads : (b.served st n l e rest).quads = b.quads :=
  Block.quads_of_seen Block.served_seen (by decide)

theorem Block.served_ctxEntry : (b.served st n l e rest).ctxEntry k = b.ctxEntry k :=
  congrArg (fun x => tget (0 : Word) x k) (Block.ctxs_of_seen Block.served_seen (by decide))

/-- Before a mark, the `gt` of an S item is that of its arrival (R45). -/
theorem Block.served_gtOf (hS : e.cls = clsS) (hm : (b.view n).mark = none) :
    (b.served st n l e rest).gtOf n e = b.gt := by
  have hkept := Block.mark_of_kept (Block.ledgerMove_kept (n := n) (b := b.headLeft st n l rest)) n
  unfold Block.gtOf Block.served
  rw [if_pos (by simp [hS]), Block.stage2_itemGt hS (hkept.trans hm), Block.ledgerMove_gt]
  rfl

/-- An S item enters its quadrant's queue, when there is room (R248). -/
theorem Block.stage3_syncQ (hS : e.cls = clsS) (hroom : (b.quad (quadOf (stOf n))).syncQ.length < 256) :
    ((b.stage3 n e gt).quad (quadOf (stOf n))).syncQ = (b.quad (quadOf (stOf n))).syncQ ++
      [{ tap := n, gt := gt, pay := e.pay, tenant := b.ctxTenant e.ctx }] := by
  have hquad : (b.setTenant n (b.ctxTenant e.ctx) gt).quad (quadOf (stOf n)) = b.quad (quadOf (stOf n)) :=
    congrArg (fun x => tget ({} : Quadrant) x (quadOf (stOf n)))
      (Block.quads_of_seen (Block.setTenant_seen (M := [.views, .mash]) (by decide)) (by decide))
  have hstage : b.stage3 n e gt = (b.setTenant n (b.ctxTenant e.ctx) gt).syncAppend n
      { tap := n, gt := gt, pay := e.pay, tenant := b.ctxTenant e.ctx } := by
    unfold Block.stage3
    simp only [hS]
    rfl
  rw [hstage]
  unfold Block.syncAppend
  dsimp only
  rw [hquad, if_pos hroom, Block.quad_modQuad, hquad]

/-- The block after the service of a tap whose head is `e`. -/
def Block.taken (b : Block) (st n l : Nat) (e : Entry) (rest : List Entry) : Block :=
  (b.served st n l e rest).fromStage3 st n e ((b.served st n l e rest).gtOf n e)

theorem Block.taken_settled : ((b.taken st n l e rest).tap m).settled =
    (if m = n then { b.tap n with chain := rest }.moved else b.tap m).settled :=
  (congrFun Block.fromStage3_keptTaps m).trans Block.served_settled

theorem Block.served_ctxTenant : (b.served st n l e rest).ctxTenant k = b.ctxTenant k := by
  unfold Block.ctxTenant
  rw [Block.served_ctxEntry]

theorem Block.taken_syncQ (hS : e.cls = clsS) (hst : stOf n = st) (hroom : (b.quad (quadOf st)).syncQ.length < 256) :
    ((b.taken st n l e rest).quad (quadOf st)).syncQ = (b.quad (quadOf st)).syncQ ++
      [{ tap := n, gt := (b.served st n l e rest).gtOf n e, pay := e.pay, tenant := b.ctxTenant e.ctx }] := by
  subst hst
  have hquad : (b.served (stOf n) n l e rest).quad = b.quad := by
    unfold Block.quad
    rw [Block.served_quads]
  have hsync := Block.stage3_syncQ (b := b.served (stOf n) n l e rest) (n := n)
    (gt := (b.served (stOf n) n l e rest).gtOf n e) hS
  rw [hquad, Block.served_ctxTenant] at hsync
  rw [← hsync hroom]
  unfold Block.taken Block.quad
  rw [Block.fromStage3_quads]

theorem Block.taken_noContext (hv : ctxValid (b.ctxEntry e.ctx) = false) (hO : e.cls ≠ clsO) :
    ((b.taken st n l e rest).station st).noContext = satAdd 32 (b.station st).noContext 1 := by
  have hserved : ((b.served st n l e rest).station st).noContext = (b.station st).noContext :=
    congrArg StationPart.noContext Block.served_part
  unfold Block.taken
  rw [Block.fromStage3_noContext (by rwa [Block.served_ctxEntry]) hO, hserved]

theorem Block.taken_fresh (hl : n % 64 = l) (ho : (b.station st).Open) (hv : ctxValid (b.ctxEntry e.ctx) = true)
    {o : Nat} (h : b.Gives n e o) : (((b.taken st n l e rest).station st).streamTap o l).fresh := by
  have htap := Block.served_settled (b := b) (st := st) (n := n) (l := l) (e := e) (rest := rest) (m := n)
  rw [if_pos rfl] at htap
  have hcnt : ((b.served st n l e rest).tap n).cnt = (b.tap n).cnt := (congrArg Tap.cnt htap :)
  refine Block.fromStage3_fresh hl (ho.goesOn (Station.goesOn_of_part Block.served_part))
    (by rwa [Block.served_ctxEntry]) ?_
  unfold Block.Gives at h ⊢
  rwa [Block.served_ctxEntry, hcnt]

/-- A station in Run takes the head of a chain when the tap's turn has come (R94), and only then. -/
theorem stationTakeItem_eq {st : Fin 32} {l : Fin 64} {s : State} (hn : n = 64 * st.val + l.val)
    (hr : s.block.running = true) (hc : (s.block.tap n).chain = e :: rest) :
    exec (.stationTakeItem st l) s = s.run (fun b =>
      if (b.station st).mayTake l b.gt = true then b.taken st n l e rest else b) := by
  subst hn
  have hrun : exec (.stationTakeItem st l) s = execStationTakeItem st l s := rfl
  rw [hrun]
  unfold execStationTakeItem
  rw [State.run_eq, State.run_eq]
  simp only [hc, hr, Bool.not_true, Bool.false_or]
  cases (s.block.station st).mayTake l s.block.gt <;> rfl

end

/-- Settles O36: the stages after the ledger leave the taps' chains alone, the queues of the quadrants are stage 3's, and
an item that stage 4 gives to an owner makes the sum of its tap new in that owner's stream. -/
theorem stationTakesItems : Obligations.StationTakesItems := by
  intro st l s n e rest hn hr hc
  have hexec := stationTakeItem_eq hn hr hc
  rw [State.run_eq] at hexec
  refine ⟨fun hmay => ⟨_, hexec, if_neg (by simp [hmay])⟩, fun hmay => ?_⟩
  rw [if_pos hmay] at hexec
  have hst : stOf n = st.val := by unfold stOf; omega
  have hl : n % 64 = l.val := by omega
  have htap := fun m => Block.taken_settled (b := s.block) (st := st) (n := n) (l := l) (e := e) (rest := rest) (m := m)
  have hown := htap n
  rw [if_pos rfl] at hown
  refine ⟨_, hexec, (congrArg Tap.chain hown :), (congrArg Tap.tapLost hown :), fun m hm => ?_, fun h => ?_, fun h => ?_,
    fun hS hroom => ⟨_, Block.taken_syncQ hS hst hroom, Block.served_gtOf hS⟩, fun hO hv => Block.taken_noContext hv hO,
    fun o hv hgives hrules hdef hen => Block.taken_fresh hl ⟨hrules, hdef, hen⟩ hv hgives⟩
  · have hother := htap m
    rw [if_neg hm] at hother
    exact (congrArg Tap.chain hother :)
  · exact (congrArg Tap.ledgerLost hown :).trans (if_pos h)
  · exact (congrArg Tap.ledgerLost hown :).trans (if_neg h)

end Sys2Proof.Machine

namespace Sys2Proof.Machine

/-! ### Local time -/

/-- Settles O6: below Nap, Kiln and Off `gt` is the quotient of the time base by 2^24. -/
theorem gtIsTruncated : Obligations.GtIsTruncated := by
  intro b hst
  have hgt : b.gt = b.time.tb / 2 ^ 24 := by
    rcases hst with h | h <;> simp [Block.gt, h]
  rw [hgt]
  omega

end Sys2Proof.Machine

namespace Sys2Proof.Machine

/-! ### The idle cycle (log entry 2) -/

section
variable {b : Block} {M : List Area}

/-- A log entry is built: it counts, and what else closed in the cycle stays (R451). -/
theorem Block.logEntry_meas {i : LogInfo} : (b.logEntry i).meas.closing = b.meas.closing ∧
    (b.logEntry i).meas.built = b.meas.built + 1 := by
  unfold Block.logEntry
  dsimp only
  split <;> exact ⟨rfl, rfl⟩

/-- At the end of a cycle what closed in it is built (R464). -/
theorem Block.buildLog_meas : b.buildLog.meas.closing = [] ∧
    b.buildLog.meas.built = b.meas.built + b.meas.closing.length := by
  have h : ∀ (l : List (Nat × LogInfo)) (c : Block), (c.each l (fun b x => b.logEntry x.2)).meas.closing = c.meas.closing ∧
      (c.each l (fun b x => b.logEntry x.2)).meas.built = c.meas.built + l.length := by
    intro l
    unfold Block.each
    induction l with
    | nil => exact fun c => ⟨rfl, rfl⟩
    | cons x l ih =>
      intro c
      obtain ⟨hc, hb⟩ := ih (c.logEntry x.2)
      obtain ⟨hc', hb'⟩ := Block.logEntry_meas (b := c) (i := x.2)
      rw [List.foldl_cons, hc, hb, hc', hb', List.length_cons]
      exact ⟨rfl, by omega⟩
  exact h _ _

/-- With nothing closed in the cycle there is nothing to build. -/
theorem Block.buildLog_of_closing_nil (h : b.meas.closing = []) : b.buildLog = b := by
  unfold Block.buildLog
  rw [h, Block.each, List.foldl_nil, Block.modMeas, ← h]

/-- Without a freeze none is reached. -/
theorem Block.reachT_of_freezes_nil (h : b.freezes = []) : b.reachT = b := by
  have hi : ∀ (c : Block) (i : Nat), c.freezes = [] → c.atT i = c := by
    intro c i hc
    simp [Block.atT, Block.freezeSlot, hc, tget, Freeze.reached]
  simp [Block.reachT, Block.each, upto, List.range_succ, hi, h]

theorem Block.offStep_of_goal_ne (h : b.power.goal ≠ .off) : b.offStep = b := by
  simp [Block.offStep, h]

/-- With a message at the output, or none due, no other is presented (R373). -/
theorem Block.irqRaise_of_idle (h : b.power.irqUp.isSome = true ∨ ∀ n, n ≤ 64 → (b.tenant n).due = []) : b.irqRaise = b := by
  unfold Block.irqRaise
  rcases h with h | h
  · rw [if_pos h]
  · have ho : b.irqOrder = [] := by
      refine List.filter_eq_nil_iff.2 fun n hn => ?_
      obtain ⟨i, -, rfl⟩ := List.mem_map.1 hn
      rw [h _ (by omega)]
      simp
    simp [h 64 (Nat.le_refl _), ho, Block.gainTokens, Block.sendNext, Block.each]

/-- The time keepers leave the measurement engine alone, so that only the log's end of cycle is seen there. -/
theorem Block.passTime_meas : b.passTime.meas = b.buildLog.meas := by
  have hr : ∀ c : Block, c.reachT.meas = c.meas := fun c =>
    Block.meas_of_seen (Block.reachT_seen (M := [.freezes]) (by decide)) (by decide)
  unfold Block.passTime
  dsimp only
  split
  · exact Block.meas_of_seen (Block.passCycles_seen (M := [.freezes, .power, .time]) (by decide)) (by decide)
  · split
    · rw [hr]; rfl
    · rw [hr]; rfl
    · rfl

/-- Time passes: of the power state only the gt at which the block was busy moves. -/
theorem Block.passTime_power : ∃ g, b.passTime.power = { b.power with busyGt := g } := by
  have hl : b.buildLog.power = b.power :=
    Block.power_of_seen (Block.buildLog_seen (M := [.tenants, .meas, .recs]) (by decide)) (by decide)
  have hr : ∀ c : Block, c.reachT.power = c.power := fun c =>
    Block.power_of_seen (Block.reachT_seen (M := [.freezes]) (by decide)) (by decide)
  unfold Block.passTime Block.passCycles
  dsimp only
  split
  · split
    · exact ⟨_, by rw [Block.modPower, hr, Block.modTime, hl]⟩
    · exact ⟨_, by rw [hr, Block.modTime, hl]⟩
  · split
    · exact ⟨_, by rw [hr, Block.modTime, hl]⟩
    · exact ⟨_, by rw [hr, Block.modTime, hl]⟩
    · exact ⟨_, by rw [hl]⟩

/-- All parts of the block but the straps, which nothing changes (R487, R489). -/
def allButStraps : List Area :=
  [.taps, .views, .stations, .lauter, .quads, .ctxs, .cask, .mash, .maps, .assay, .profiles, .sync, .freezes, .ports,
   .tenants, .quotas, .sparge, .rings, .hop, .meas, .power, .time, .recs, .held, .lo, .out, .free]

/-- No command of the catalogue changes a strap. -/
theorem catalogue_keeps_straps {op : Nat} {e : Cmd} (h : catalogue op = some e) (c : Call) (b : Block) :
    (e.body c b).2.seen allButStraps = b.seen allButStraps := by
  unfold catalogue at h
  split at h
  all_goals cases h
  all_goals
    simp (disch := decide) only [cmdAgentMapWrite_seen, cmdAgentWrite_seen, cmdAsyBind_seen, cmdAsyFlush_seen,
      cmdAsyRead_seen, cmdAsyUnit_seen, cmdCaskDrain_seen, cmdCaskFenceRead_seen, cmdCaskMacro_seen,
      cmdCaskMode_seen, cmdCaskPatrol_seen, cmdCaskPool_seen, cmdCaskRelease_seen, cmdCaskStatus_seen,
      cmdCmpWrite_seen, cmdCntRead_seen, cmdCntSample_seen, cmdCntView_seen, cmdCntWrite_seen, cmdCtxRead_seen,
      cmdCtxWrite_seen, cmdDiagMark_seen, cmdEcho_seen, cmdFabricStatus_seen, cmdFaultRead_seen, cmdFreeze_seen,
      cmdFreezeCancel_seen, cmdFreezeSet_seen, cmdFreezeStatus_seen, cmdIdentify_seen, cmdKeyRotate_seen,
      cmdKnotWalk_seen, cmdLauterDefault_seen, cmdLauterRead_seen, cmdLauterWrite_seen, cmdLinkControl_seen,
      cmdLinkStatus_seen, cmdLoopStatus_seen, cmdLoopWrite_seen, cmdMashRead_seen, cmdMeasRead_seen,
      cmdMeasStatus_seen, cmdNegotiate_seen, cmdNop_seen, cmdPatchDigest_seen, cmdPortAlpha_seen,
      cmdPortCounters_seen, cmdPowerHold_seen, cmdPowerPolicy_seen, cmdPowerStatus_seen, cmdProfileWrite_seen,
      cmdReasonMapWrite_seen, cmdRediscover_seen, cmdRefWrite_seen, cmdRouteRead_seen, cmdScrubAbort_seen,
      cmdSeqControl_seen, cmdSeqOwner_seen, cmdSeqRearm_seen, cmdSeqStatus_seen, cmdSessionSet_seen,
      cmdSnapshot_seen, cmdSpargeBind_seen, cmdSpargeResume_seen, cmdSpargeStatus_seen, cmdStationCounters_seen,
      cmdStreamFormat_seen, cmdSyncCounters_seen, cmdSyncDeclare_seen, cmdSyncRead_seen, cmdSyncSet_seen,
      cmdTapSet_seen, cmdTapStatus_seen, cmdTapWaitRead_seen, cmdTcalRead_seen, cmdTenantGet_seen,
      cmdTenantReset_seen, cmdTenantSet_seen, cmdTimeSet_seen, cmdTimeStatus_seen, cmdTsyncNow_seen,
      cmdViolations_seen]

/-- Serving packets changes no strap, whatever packet is first. -/
theorem Block.serveNext_straps : b.serveNext.seen allButStraps = b.seen allButStraps := by
  unfold Block.serveNext
  split
  · rename_i f _
    cases hq : (b.port f).queue with
    | nil => simp [Block.takePacket, hq]
    | cons k rest =>
      exact Block.takePacket_seen (op := k.opcode) (by decide)
        (fun k' rest' h => by rw [hq] at h; cases h; rfl) (fun e he => catalogue_keeps_straps he)
  · rfl

/-- What the block does of its own accord in Run changes no strap. -/
theorem Block.busyCycle_straps : (b.pumpAll.routeLoss.grantAll.chooseSpeed.settleHolds.exRaise.each allFns
    (fun b f => drainParked 8 b f)).serveNext.seen allButStraps = b.seen allButStraps := by
  rw [Block.serveNext_straps, Block.each_seen (fun _ _ => drainParked_seen (by decide)), Block.exRaise_seen (by decide),
    Block.settleHolds_seen (by decide), Block.chooseSpeed_seen (by decide), Block.grantAll_seen (by decide),
    Block.routeLoss_seen (by decide), Block.pumpAll_seen (by decide)]

/-- An idle cycle changes no strap. -/
theorem Block.tick_straps : b.tick.seen allButStraps = b.seen allButStraps := by
  have hp : b.passTime.offStep.seen allButStraps = b.seen allButStraps := by
    rw [Block.offStep_seen (by decide), Block.passTime_seen (by decide)]
  have hi : b.passTime.offStep.irqRaise.seen allButStraps = b.seen allButStraps := by
    rw [Block.irqRaise_seen (by decide), hp]
  unfold Block.tick
  dsimp only
  split
  · exact Block.seen_ite hp (Block.busyCycle_straps.trans hp)
  · exact Block.seen_ite hi (Block.busyCycle_straps.trans hi)

theorem Block.presentIrq_running {n : Nat} : (b.presentIrq n).running = b.running := by
  unfold Block.presentIrq
  split <;> rfl

/-- Presenting a message does not change whether the brew domain works. -/
theorem Block.irqRaise_running : b.irqRaise.running = b.running := by
  have hg : ∀ ns, (b.gainTokens ns).running = b.running := fun ns => Block.each_keeps (p := Block.running) fun _ _ => rfl
  unfold Block.irqRaise Block.sendNext
  split
  · rfl
  · split
    · exact Block.presentIrq_running
    · split
      · exact Block.presentIrq_running.trans (hg _)
      · exact hg _

theorem Block.passTime_running : b.passTime.running = b.running := by
  obtain ⟨g, h⟩ := Block.passTime_power (b := b)
  simp only [Block.running, h]

/-- Outside Run, unless the block is Off or on its way there, an idle cycle is the passing of time and the message that
the interrupt output presents. -/
theorem Block.tick_of_not_running (hr : b.running = false) (hs : b.power.st ≠ .off) (hg : b.power.goal ≠ .off) :
    b.tick = b.passTime.irqRaise := by
  obtain ⟨g, hp⟩ := Block.passTime_power (b := b)
  have hr' : b.passTime.irqRaise.running = false := by rw [Block.irqRaise_running, Block.passTime_running, hr]
  have ho : b.passTime.offStep = b.passTime := Block.offStep_of_goal_ne (by rw [hp]; exact hg)
  have hst : (b.passTime.power.st == .off) = false := by rw [hp]; simpa using hs
  unfold Block.tick
  simp only [ho, hst, Bool.false_eq_true, if_false, hr', Bool.not_false, if_true]

/-- In Off an idle cycle builds what closed and does nothing else. -/
theorem Block.tick_of_off (hs : b.power.st = .off) (hc : b.meas.closing = []) : b.tick = b := by
  have ht : b.passTime = b := by
    unfold Block.passTime
    rw [Block.buildLog_of_closing_nil hc]
    simp [Block.timeRuns, hs]
  unfold Block.tick
  simp [ht, Block.offStep, Block.running, hs]

/-- With nothing to build and no freeze, time alone passes in Nap and Kiln: that of the always-on keeper (R33). -/
theorem Block.passTime_of_aon (hs : b.power.st = .nap ∨ b.power.st = .kiln) (hc : b.meas.closing = [])
    (hf : b.freezes = []) : b.passTime = b.modTime (fun t => { t with aonGt := t.aonGt + 40 * 256 }) := by
  have hr := Block.reachT_of_freezes_nil (b := b.modTime (fun t => { t with aonGt := t.aonGt + 40 * 256 })) hf
  unfold Block.passTime
  rw [Block.buildLog_of_closing_nil hc]
  rcases hs with h | h <;> simp [Block.timeRuns, h, hr]

/-- With nothing to build and no freeze, time alone passes on the time base of a block that does not run (R31). -/
theorem Block.passTime_of_timeRuns (ht : b.timeRuns = true) (hr : b.running = false) (hc : b.meas.closing = [])
    (hf : b.freezes = []) : b.passTime = b.modTime (fun t => { t with tb := t.tb + t.rate }) := by
  have hx := Block.reachT_of_freezes_nil (b := b.modTime (fun t => { t with tb := t.tb + t.rate })) hf
  have hrun : (b.modTime (fun t => { t with tb := t.tb + t.rate })).running = false := hr
  unfold Block.passTime
  rw [Block.buildLog_of_closing_nil hc]
  simp only [ht, if_true, Block.passCycles, hx, hrun, Bool.false_and, Bool.false_eq_true, if_false, Nat.one_mul]

/-- With nothing to present, none is presented after time has passed either. -/
theorem Block.irqRaise_modTime (f : Time → Time)
    (h : b.power.irqUp.isSome = true ∨ ∀ n, n ≤ 64 → (b.tenant n).due = []) :
    (b.modTime f).irqRaise = b.modTime f :=
  Block.irqRaise_of_idle (b := b.modTime f) h

end

/-- Settles O2: outside Run an idle cycle is the passing of time and what the interrupt output presents. -/
theorem idleStepPassesOneCycle : Obligations.IdleStepPassesOneCycle := by
  intro s hq
  obtain ⟨habs, hreg⟩ := Block.straps_of_seen (Block.tick_straps (b := s.block)) (by decide)
  refine ⟨{ s with block := s.block.tick }, by simp [step, hq], hq, habs, hreg, fun hs hc => ?_, fun hr hs hg => ?_,
    fun hc hf hg hi => ⟨fun hs => ?_, fun hp hs => ?_⟩⟩
  · rw [Block.tick_of_off hs hc]
  · have hm : s.block.tick.meas = s.block.buildLog.meas := by
      rw [Block.tick_of_not_running hr hs hg]
      exact (Block.meas_of_seen (Block.irqRaise_seen (M := [.tenants, .power]) (by decide)) (by decide)).trans
        Block.passTime_meas
    simp only [hm, Block.buildLog_meas, and_self]
  · have hr : s.block.running = false := by rcases hs with h | h <;> simp [Block.running, h]
    have hoff : s.block.power.st ≠ .off := by rcases hs with h | h <;> simp [h]
    simp only [Block.tick_of_not_running hr hoff hg, Block.passTime_of_aon hs hc hf, Block.irqRaise_modTime _ hi]
    rfl
  · have hr : s.block.running = false := by rcases hs with h | ⟨h, hz⟩ <;> simp [Block.running, *]
    have hoff : s.block.power.st ≠ .off := by rcases hs with h | ⟨h, -⟩ <;> simp [h]
    have ht : s.block.timeRuns = true := by rcases hs with h | ⟨h, -⟩ <;> simp [Block.timeRuns, h, hp]
    simp only [Block.tick_of_not_running hr hoff hg, Block.passTime_of_timeRuns ht hr hc hf, Block.irqRaise_modTime _ hi]
    rfl

end Sys2Proof.Machine

namespace Sys2Proof.Machine

/-! ### Items in the chain (R38, R72, R509) -/

section
variable {b : Block} {n m cls delta strobe : Nat} {p : Payload} {t : Tap}

theorem Block.modTap_congr {f g : Tap → Tap} (h : f (b.tap n) = g (b.tap n)) : b.modTap n f = b.modTap n g := by
  unfold Block.modTap tmod
  rw [show f (tget {} b.taps n) = g (tget {} b.taps n) from h]

@[simp] theorem Block.requestWake_tap : (b.requestWake n).tap m = b.tap m := rfl

/-- In Run nothing wakes (R468). -/
theorem Block.requestWake_of_running (h : b.running = true) : b.requestWake n = b := by
  have hw : b.power.wake n = b.power := by
    simp only [Block.running, Bool.and_eq_true] at h
    simp [Power.wake, h]
  change { b with power := b.power.wake n } = b
  rw [hw]

theorem Power.climb_st {q : Power} : q.climb.st = q.st := by
  unfold Power.climb
  dsimp only
  split <;> rfl

/-- A wake source leaves the power state: it asks, and grants bring the block to Run (R468). -/
theorem Power.wake_st {q : Power} : (q.wake n).st = q.st := by
  unfold Power.wake
  dsimp only
  split
  · rfl
  · split
    · rfl
    · split
      · rfl
      · exact Power.climb_st

@[simp] theorem Block.requestWake_gt : (b.requestWake n).gt = b.gt := Block.gt_of_time_power rfl Power.wake_st

/-- The tap with an item at the end of its chain, and the delta counter restarted (R38). -/
def Tap.entered (t : Tap) (cls : Nat) (p : Payload) (delta strobe : Nat) : Tap :=
  { t with chain := t.chain ++ [{ cls := cls, delta := delta, pay := p, ctx := t.ctx, strobe := strobe }], since := 0 }

/-- A chain with room takes an item behind the others. -/
theorem Tap.push_of_room {below : Bool} (h : t.chain.length < 32) : t.push below cls p delta strobe = t.entered cls p delta strobe := by
  simp only [Tap.push, Tap.room, h, if_true]
  rfl

/-- A full chain gives up its oldest item, which `TAP_LOST` counts (R72). -/
theorem Tap.push_of_full {below : Bool} (h : t.chain.length = 32) :
    (t.push below cls p delta strobe).tapLost = satAdd 16 t.tapLost 1 ∧
    (t.push below cls p delta strobe).chain = t.chain.drop 1 ++
      [{ cls := cls, delta := delta, pay := p, ctx := t.ctx, strobe := strobe }] := by
  simp [Tap.push, Tap.room, h, Tap.countTap]

/-- What an item that enters the chain leaves of the tap, whether or not the chain has room. -/
theorem Tap.push_keeps {below : Bool} : (t.push below cls p delta strobe).since = 0 ∧
    (t.push below cls p delta strobe).est = t.est ∧ (t.push below cls p delta strobe).badClass = t.badClass := by
  unfold Tap.push Tap.room
  split <;> exact ⟨rfl, rfl, rfl⟩

theorem Block.loss_tap {k : Nat} : (b.loss k).tap m = b.tap m := rfl

theorem Block.tapPush_tap_of_ne (h : m ≠ n) : (b.tapPush n cls p delta strobe).tap m = b.tap m := by
  unfold Block.tapPush
  dsimp only
  split <;> simp only [Block.loss_tap, Block.tap_modTap_of_ne h, Block.requestWake_tap]

/-- The tap that an item enters. -/
theorem Block.tapPush_tap : ∃ below ls, (b.tapPush n cls p delta strobe).tap n =
    { (b.tap n).push below cls p delta strobe with lossAt := ls } := by
  unfold Block.tapPush
  dsimp only
  split
  · exact ⟨_, _, by rw [Block.loss_tap, Block.tap_modTap]; rfl⟩
  · exact ⟨_, _, by rw [Block.tap_modTap]; rfl⟩

/-- An item that enters a chain with room wakes the block, and is all that changes. -/
theorem Block.tapPush_of_room (h : (b.tap n).chain.length < 32) : b.tapPush n cls p delta strobe =
    (b.requestWake 0).modTap n (fun t => t.entered cls p delta strobe) := by
  have hl : decide (((b.requestWake 0).tap n).chain.length ≥ 32) = false := by
    rw [Block.requestWake_tap]; simpa using h
  unfold Block.tapPush
  simp only [hl, Bool.false_eq_true, if_false]
  exact Block.modTap_congr (Tap.push_of_room h)

theorem Block.slotPush_tap_of_ne (h : m ≠ n) : (b.slotPush n cls p delta strobe).tap m = b.tap m := by
  rw [Block.slotPush, Block.tapPush_tap_of_ne h, Block.tap_modTap_of_ne h]

/-- A tap-slot item that enters a chain with room uses the tap slot of the cycle. -/
theorem Block.slotPush_of_room (h : (b.tap n).chain.length < 32) : b.slotPush n cls p delta strobe =
    ((b.modTap n (fun t => { t with slotUsed := true })).requestWake 0).modTap n (fun t => t.entered cls p delta strobe) :=
  Block.tapPush_of_room (by rw [Block.tap_modTap]; exact h)

theorem Block.slotPush_tap_of_room (h : (b.tap n).chain.length < 32) : (b.slotPush n cls p delta strobe).tap n =
    { (b.tap n).entered cls p delta strobe with slotUsed := true } := by
  rw [Block.slotPush_of_room h, Block.tap_modTap, Block.requestWake_tap, Block.tap_modTap]
  rfl

/-- In Run a tap-slot item that finds room in the chain changes its tap only. -/
theorem Block.slotPush_seen_taps (hr : b.running = true) (h : (b.tap n).chain.length < 32) :
    (b.slotPush n cls p delta strobe).seen [.taps] = b.seen [.taps] := by
  rw [Block.slotPush_of_room h, Block.modTap_seen (by decide),
    Block.requestWake_of_running (b := b.modTap n (fun t => { t with slotUsed := true })) hr, Block.modTap_seen (by decide)]

/-! ### The clock-state mark (R50, R73) -/

theorem Block.clockMark_tap_of_ne {new old : Nat} (h : m ≠ n) : (b.clockMark n new old).tap m = b.tap m := by
  rw [Block.clockMark, Block.slotPush_tap_of_ne h, Block.tap_modTap_of_ne h]

/-- The tap with a clock-state mark from `old` to `new` in its chain. -/
def Tap.clockMarked (t : Tap) (new old : Nat) : Tap :=
  { t with
    pClk := none, lastMark := new, slotUsed := true, since := 0, full := t.full || (new == 0 && old == 2)
    chain := t.chain ++ [{ cls := clsClock, delta := min t.since 4095, ctx := t.ctx
                           pay := pay (new * 2 ^ 42 + old * 2 ^ 40) }] }

theorem Block.clockMark_tap {new old : Nat} (h : (b.tap n).chain.length < 32) :
    (b.clockMark n new old).tap n = (b.tap n).clockMarked new old := by
  rw [Block.clockMark, Block.slotPush_tap_of_room (by rw [Block.tap_modTap]; exact h), Block.tap_modTap]
  rfl

theorem Block.clockMark_seen_taps {new old : Nat} (hr : b.running = true) (h : (b.tap n).chain.length < 32) :
    (b.clockMark n new old).seen [.taps] = b.seen [.taps] := by
  unfold Block.clockMark
  dsimp only
  rw [Block.slotPush_seen_taps, Block.modTap_seen (by decide)]
  · exact hr
  · rw [Block.tap_modTap]
    exact h

end

/-! ### Cycles that pass at a tap -/

section
variable {b : Block} {n m cyc : Nat} {t : Tap}

theorem Tap.takeRequest_chain : (t.takeRequest cyc).chain = t.chain := by
  unfold Tap.takeRequest
  split
  · split <;> rfl
  · rfl

/-- No passing of cycles touches the chain. -/
@[simp] theorem Tap.advance_chain : (t.advance cyc).chain = t.chain := by
  have hl : ∀ u : Tap, u.lowerAck.chain = u.chain := fun u => by unfold Tap.lowerAck; split <;> rfl
  have hd : ∀ u : Tap, u.dropReports.chain = u.chain := fun u => by unfold Tap.dropReports; split <;> rfl
  have hc : (t.countCycles cyc).chain = t.chain := by unfold Tap.countCycles; split <;> rfl
  unfold Tap.advance
  split
  · rfl
  · rw [Tap.takeRequest_chain, hl, hd]
    exact hc

theorem Block.passTap_tap_of_ne (h : m ≠ n) : (b.passTap n cyc).tap m = b.tap m := by
  unfold Block.passTap
  split
  · split
    · rw [Block.tap_modTap_of_ne h, Block.clockMark_tap_of_ne h, Block.tap_modTap_of_ne h]
    · exact Block.tap_modTap_of_ne h
  · exact Block.tap_modTap_of_ne h

/-- In Run the cycles that pass at a tap change nothing but it, and put at most one item into its chain: the mark that
pends. -/
theorem Block.passTap_seen_taps (hr : b.running = true) (h : (b.tap n).chain.length < 32) :
    (b.passTap n cyc).seen [.taps] = b.seen [.taps] ∧
      ((b.passTap n cyc).tap n).chain.length ≤ (b.tap n).chain.length + 1 := by
  unfold Block.passTap
  split
  · split
    · have hroom : ((b.modTap n (fun t => t.advance 1)).tap n).chain.length < 32 := by
        rw [Block.tap_modTap, Tap.advance_chain]; exact h
      refine ⟨?_, ?_⟩
      · rw [Block.modTap_seen (by decide)]
        rw [Block.clockMark_seen_taps (b := b.modTap n (fun t => t.advance 1)) hr hroom, Block.modTap_seen (by decide)]
      · rw [Block.tap_modTap, Tap.advance_chain, Block.clockMark_tap hroom, Block.tap_modTap]
        simp [Tap.clockMarked]
    · exact ⟨Block.modTap_seen (by decide), by rw [Block.tap_modTap, Tap.advance_chain]; omega⟩
  · exact ⟨Block.modTap_seen (by decide), by rw [Block.tap_modTap, Tap.advance_chain]; omega⟩

theorem Block.passToChange_tap_of_ne {new : Nat} (h : m ≠ n) : (b.passToChange n cyc new).tap m = b.tap m := by
  unfold Block.passToChange
  split
  · exact Block.tap_modTap_of_ne h
  · exact Block.passTap_tap_of_ne h

theorem Block.passToChange_seen_taps {new : Nat} (hr : b.running = true) (h : (b.tap n).chain.length < 32) :
    (b.passToChange n cyc new).seen [.taps] = b.seen [.taps] ∧
      ((b.passToChange n cyc new).tap n).chain.length ≤ (b.tap n).chain.length + 1 := by
  unfold Block.passToChange
  split
  · exact ⟨Block.modTap_seen (by decide), by rw [Block.tap_modTap, Tap.advance_chain]; omega⟩
  · exact Block.passTap_seen_taps hr h

theorem Block.running_of_seen {M : List Area} {c : Block} (h : b.seen M = c.seen M) (hM : Area.power ∉ M) :
    b.running = c.running := by
  unfold Block.running
  rw [Block.power_of_seen h hM]

end

end Sys2Proof.Machine

namespace Sys2Proof.Machine

/-! ### Inputs of a tap (R50, R77, R84, R86 to R89, R281, R517) -/

section
variable {tap : Fin 2048} {cyc : Nat} {s : State}

/-- An update of one tap is all that changes. -/
theorem Block.onlyTap_modTap {b : Block} {n : Nat} {f : Tap → Tap} {x : Tap} (h : f (b.tap n) = x) :
    b.onlyTap (b.modTap n f) n x := by
  refine ⟨fun m => ?_, Block.modTap_seen (by decide)⟩
  rw [Block.tap_modTap_ite]
  split
  · next e => rw [e, h]
  · rfl

theorem tapContextChange_acts (ctx : BitVec 12) {u : Tap} (hu : u = (s.block.tap tap).advance cyc) :
    ∃ t, exec (.tapContextChange tap cyc ctx) s = .next t ∧ s.block.onlyTap t.block tap
      (if u.ctxSeen = false ∨ u.writes = false ∨ ctx.toNat = u.ctx then { u with ctx := ctx.toNat, ctxSeen := true }
       else { u with ctx := ctx.toNat, pCtx := (u.mergeCtx 0 u.ctx).pCtx }) := by
  refine ⟨_, rfl, Block.onlyTap_modTap ?_⟩
  simp only [← hu, Bool.or_eq_true, Bool.not_eq_true', decide_eq_true_eq, or_assoc]
  rfl

theorem tapDrainRequest_acts (pwr : BitVec 4) {u : Tap} (hu : u = (s.block.tap tap).advance cyc) :
    ∃ t, exec (.tapDrainRequest tap cyc pwr) s = .next t ∧ s.block.onlyTap t.block tap
      (if u.drainReq && u.abandoned then { u with reqNext := some pwr.toNat }
       else if u.drainReq || u.reqNext.isSome then u else { u with
        drainReq := true, drainCyc := 0, pDown := if u.writes then some pwr.toNat else u.pDown }) := by
  subst hu
  exact ⟨_, rfl, Block.onlyTap_modTap rfl⟩

theorem tapDrainAbandon_acts {u : Tap} (hu : u = (s.block.tap tap).advance cyc) :
    ∃ t, exec (.tapDrainAbandon tap cyc) s = .next t ∧
      s.block.onlyTap t.block tap { u with reqNext := none, abandoned := u.drainReq } := by
  subst hu
  exact ⟨_, rfl, Block.onlyTap_modTap rfl⟩

theorem tapStrobeArrival_acts (phase : BitVec 6) {u : Tap} (hu : u = (s.block.tap tap).advance cyc) :
    ∃ t, exec (.tapStrobeArrival tap cyc phase) s = .next t ∧
      (u.strobes = [] → s.block.onlyTap t.block tap u) ∧
      (∀ num sq rest, u.strobes = (num, sq) :: rest → s.block.onlyTap t.block tap { u with
        strobes := rest
        pAnchor := if u.writes = true ∧ s.block.tapStopped tap = false then some (num, sq, phase.toNat, 0)
          else u.pAnchor }) := by
  refine ⟨_, rfl, fun hs => Block.onlyTap_modTap ?_, fun num sq rest hs => Block.onlyTap_modTap ?_⟩
  · simp only [← hu, hs]
  · simp only [← hu, hs, Bool.and_eq_true, Bool.not_eq_true']

theorem tapConfigApply_acts {u : Tap} (hu : u = (s.block.tap tap).advance cyc) :
    ∃ t, exec (.tapConfigApply tap cyc) s = .next t ∧
      (u.cfg = [] → s.block.onlyTap t.block tap u) ∧
      (∀ on rest, u.cfg = .aEnable on :: rest → s.block.onlyTap t.block tap { u with aEnable := on, cfg := rest }) ∧
      (∀ k w0 w1 rest, u.cfg = .desc k w0 w1 :: rest → s.block.onlyTap t.block tap { u with
        cfg := rest
        cnt := tmod {} u.cnt k (fun c => { c with w0 := w0, w1 := w1, value := 0, pendC := false }) }) := by
  refine ⟨_, rfl, fun hs => Block.onlyTap_modTap ?_, fun on rest hs => Block.onlyTap_modTap ?_,
    fun k w0 w1 rest hs => Block.onlyTap_modTap ?_⟩
  · simp only [← hu, hs]
  · simp only [← hu, hs, Tap.applyCfg]
  · simp only [← hu, hs, Tap.applyCfg]

/-! ### A change of clock state -/

/-- The block after a change of clock state that writes its mark: in this cycle, or in the next where the cycle's items
are written (log entry 7). -/
def Block.clockChanged (b : Block) (n new : Nat) : Block :=
  ((if (b.tap n).slotUsed || (b.tap n).engUsed then b.modTap n (fun t => t.advance 1) else b).modTap n
    (fun t => t.goesTo new)).clockMark n new ((b.tap n).markFrom new)

/-- The block after a change of clock state in the first cycle after a power-up: P UP goes first, the mark pends (R89). -/
def Block.wokenChanged (b : Block) (n new : Nat) : Block :=
  ((b.modTap n (fun t => t.goesTo new)).slotWrite n).modTap n (fun u => { u with pClk := some (new, (b.tap n).clk) })

/-- What a change of the clock state of tap `n` to `st` does once the cycles before it have passed (R50, R84). -/
def Block.clockSet (b : Block) (n : Nat) (st : BitVec 2) : Block :=
  if st = 3 then b.modTap n (fun t => { t with badClass := true })
  else if st.toNat = (b.tap n).clk then b
  else if (b.tap n).writes = false then b.modTap n (fun t => t.goesTo st.toNat)
  else if (b.tap n).wakeFirst then b.wokenChanged n st.toNat
  else b.clockChanged n st.toNat

theorem tapClockStateChange_eq (st : BitVec 2) : exec (.tapClockStateChange tap cyc st) s =
    .next { s with block := (s.block.passToChange tap cyc st.toNat).clockSet tap st } := by
  change execTapClockStateChange tap cyc st s = _
  unfold execTapClockStateChange
  simp only [State.run_eq, Bool.not_eq_true']
  rfl

end

section
variable {b : Block} {n m new : Nat}

theorem Block.clockChanged_tap_of_ne (h : m ≠ n) : (b.clockChanged n new).tap m = b.tap m := by
  unfold Block.clockChanged
  rw [Block.clockMark_tap_of_ne h, Block.tap_modTap_of_ne h]
  split
  · exact Block.tap_modTap_of_ne h
  · rfl

theorem Block.clockChanged_tap (h : (b.tap n).chain.length < 32) {w : Tap}
    (hw : w = if (b.tap n).slotUsed || (b.tap n).engUsed then (b.tap n).advance 1 else b.tap n) :
    (b.clockChanged n new).tap n = (w.goesTo new).clockMarked new ((b.tap n).markFrom new) := by
  have hb : (if (b.tap n).slotUsed || (b.tap n).engUsed then b.modTap n (fun t => t.advance 1) else b).tap n = w := by
    rw [hw]
    split
    · exact Block.tap_modTap
    · rfl
  have hch : w.chain.length < 32 := by
    rw [hw]
    split
    · rw [Tap.advance_chain]; exact h
    · exact h
  unfold Block.clockChanged
  rw [Block.clockMark_tap]
  · rw [Block.tap_modTap, hb]
  · rw [Block.tap_modTap, hb]
    exact hch

theorem Block.clockChanged_seen_taps (hr : b.running = true) (h : (b.tap n).chain.length < 32) :
    (b.clockChanged n new).seen [.taps] = b.seen [.taps] := by
  unfold Block.clockChanged
  split
  · rw [Block.clockMark_seen_taps, Block.modTap_seen (by decide), Block.modTap_seen (by decide)]
    · exact hr
    · rw [Block.tap_modTap, Block.tap_modTap]
      simpa [Tap.goesTo] using h
  · rw [Block.clockMark_seen_taps, Block.modTap_seen (by decide)]
    · exact hr
    · rw [Block.tap_modTap]
      exact h

theorem Block.abortImage_tap : (b.abortImage n).tap m = b.tap m := by
  simp only [Block.tap, Block.taps_of_seen (Block.abortImage_seen (M := [.meas]) (by decide)) (by decide)]

theorem Block.slotWrite_tap_of_ne (h : m ≠ n) : (b.slotWrite n).tap m = b.tap m := by
  unfold Block.slotWrite
  dsimp only
  split
  · exact Block.clockMark_tap_of_ne h
  · rw [Block.tap_modTap_of_ne h, Block.slotPush_tap_of_ne h]
  · rw [Block.abortImage_tap, Block.slotPush_tap_of_ne h, Block.tap_modTap_of_ne h]
  · rw [Block.tap_modTap_of_ne h, Block.slotPush_tap_of_ne h]
  · rw [Block.slotPush_tap_of_ne h, Block.tap_modTap_of_ne h]
  · split
    · rw [Block.slotPush_tap_of_ne h, Block.tap_modTap_of_ne h]
    · rfl

/-- In Run, with room in the chain, what the tap slot writes changes its tap only, unless it is P DOWN, which may close
an image (R448). -/
theorem Block.slotWrite_seen_taps (hr : b.running = true) (h : (b.tap n).chain.length < 32)
    (hu : (b.tap n).pUp ≠ none) : (b.slotWrite n).seen [.taps] = b.seen [.taps] := by
  unfold Block.slotWrite
  dsimp only
  split
  · exact Block.clockMark_seen_taps hr h
  · rw [Block.modTap_seen (by decide), Block.slotPush_seen_taps hr h]
  all_goals exact absurd ‹(b.tap n).pUp = none› hu

/-- A wake's P UP enters the chain first of all that pends but a clock-state mark (R73, R89). -/
theorem Block.slotWrite_pUp {ab cl lost : Bool} (h : (b.tap n).chain.length < 32) (hc : (b.tap n).pClk = none)
    (hu : (b.tap n).pUp = some (ab, cl, lost)) : (b.slotWrite n).tap n =
      { (b.tap n).mergeCtx 2 0 with
        pUp := none, full := true, anchorReq := true, est := none, slotUsed := true, since := 0
        pClk := if ab && (b.tap n).clk != (b.tap n).lastMark then some ((b.tap n).clk, (b.tap n).lastMark) else none
        chain := (b.tap n).chain ++
          [{ cls := clsP, delta := 0, ctx := (b.tap n).ctx,
             pay := pay (2 ^ 44 + b2n ab * 2 ^ 43 + b2n cl * 2 ^ 42 + b2n lost * 2 ^ 38) }] } := by
  simp only [Block.slotWrite, hc, hu, Block.tap_modTap, Block.slotPush_tap_of_room h]
  rw [← hc]
  rfl

theorem Block.wokenChanged_tap_of_ne (h : m ≠ n) : (b.wokenChanged n new).tap m = b.tap m := by
  rw [Block.wokenChanged, Block.tap_modTap_of_ne h, Block.slotWrite_tap_of_ne h, Block.tap_modTap_of_ne h]

/-- In the first cycle after a power-up P UP enters the chain, and the mark pends (R89). -/
theorem Block.wokenChanged_tap {cl lost : Bool} (h : (b.tap n).chain.length < 32) (hc : (b.tap n).pClk = none)
    (hu : (b.tap n).pUp = some (false, cl, lost)) : (b.wokenChanged n new).tap n =
      { ((b.tap n).goesTo new).mergeCtx 2 0 with
        pClk := some (new, (b.tap n).clk), pUp := none, anchorReq := true, est := none, slotUsed := true, since := 0
        full := true
        chain := (b.tap n).chain ++
          [{ cls := clsP, delta := 0, ctx := (b.tap n).ctx,
             pay := pay (2 ^ 44 + b2n cl * 2 ^ 42 + b2n lost * 2 ^ 38) }] } := by
  have hg : (b.modTap n (fun t => t.goesTo new)).tap n = (b.tap n).goesTo new := Block.tap_modTap
  rw [Block.wokenChanged, Block.tap_modTap,
    Block.slotWrite_pUp (by rw [hg]; exact h) (by rw [hg]; exact hc) (by rw [hg]; exact hu), hg]
  simp only [Tap.goesTo, b2n, Bool.false_eq_true, if_false, Nat.zero_mul, Nat.add_zero]

theorem Tap.wakeFirst_iff {t : Tap} : t.wakeFirst = true ↔
    (∃ cl lost, t.pUp = some (false, cl, lost)) ∧ t.slotUsed = false ∧ t.engUsed = false := by
  unfold Tap.wakeFirst
  rcases hp : t.pUp with _ | ⟨ab, cl, lost⟩
  · simp
  · cases ab <;> simp

theorem Block.wokenChanged_seen_taps (hr : b.running = true) (h : (b.tap n).chain.length < 32)
    (hw : (b.tap n).wakeFirst = true) : (b.wokenChanged n new).seen [.taps] = b.seen [.taps] := by
  obtain ⟨⟨cl, lost, hu⟩, -, -⟩ := Tap.wakeFirst_iff.1 hw
  rw [Block.wokenChanged, Block.modTap_seen (by decide), Block.slotWrite_seen_taps, Block.modTap_seen (by decide)]
  · exact hr
  · rw [Block.tap_modTap]
    exact h
  · rw [Block.tap_modTap]
    simp [Tap.goesTo, hu]

end

section
variable {b : Block} {n m : Nat} {st : BitVec 2}

theorem Block.clockSet_tap_of_ne (h : m ≠ n) : (b.clockSet n st).tap m = b.tap m := by
  unfold Block.clockSet
  split
  · exact Block.tap_modTap_of_ne h
  · split
    · rfl
    · split
      · exact Block.tap_modTap_of_ne h
      · split
        · exact Block.wokenChanged_tap_of_ne h
        · exact Block.clockChanged_tap_of_ne h

theorem Block.clockSet_seen_taps (hr : b.running = true) (h : (b.tap n).chain.length < 32) :
    (b.clockSet n st).seen [.taps] = b.seen [.taps] := by
  unfold Block.clockSet
  split
  · exact Block.modTap_seen (by decide)
  · split
    · rfl
    · split
      · exact Block.modTap_seen (by decide)
      · split
        · exact Block.wokenChanged_seen_taps hr h ‹_›
        · exact Block.clockChanged_seen_taps hr h

theorem Block.clockSet_of_three (h : st = 3) : (b.clockSet n st).tap n = { b.tap n with badClass := true } := by
  rw [Block.clockSet, if_pos h, Block.tap_modTap]

theorem Block.clockSet_of_same (h3 : st ≠ 3) (h : st.toNat = (b.tap n).clk) : b.clockSet n st = b := by
  rw [Block.clockSet, if_neg h3, if_pos h]

theorem Block.clockSet_of_not_writes (h3 : st ≠ 3) (h : st.toNat ≠ (b.tap n).clk) (hw : (b.tap n).writes = false) :
    (b.clockSet n st).tap n = (b.tap n).goesTo st.toNat := by
  rw [Block.clockSet, if_neg h3, if_neg h, if_pos hw, Block.tap_modTap]

theorem Block.clockSet_of_writes (h3 : st ≠ 3) (h : st.toNat ≠ (b.tap n).clk) (hw : (b.tap n).writes = true) :
    b.clockSet n st = if (b.tap n).wakeFirst then b.wokenChanged n st.toNat else b.clockChanged n st.toNat := by
  rw [Block.clockSet, if_neg h3, if_neg h, if_neg (by rw [hw]; decide)]

end

/-- Settles O33: all but the change of clock state update one tap; a change of clock state passes its cycles, then writes
its mark, or P UP first where a wake's P UP pends. -/
theorem tapInputsAct : Obligations.TapInputsAct := by
  intro tap cyc s x u hx hu
  subst hx
  refine ⟨fun st v w hv hw => ?_, fun ctx => tapContextChange_acts ctx hu, fun pwr => tapDrainRequest_acts pwr hu,
    tapDrainAbandon_acts hu, fun phase => tapStrobeArrival_acts phase hu, tapConfigApply_acts hu,
    ⟨_, rfl, Block.onlyTap_modTap rfl⟩⟩
  subst hv
  refine ⟨_, tapClockStateChange_eq st, fun n hn => ?_, fun hr hl => ?_, Block.clockSet_of_three, fun h3 hst => ?_,
    Block.clockSet_of_not_writes, fun h3 hst hwr hf hl => ?_, fun cl lost h3 hst hwr hsl hen hup hck hl => ?_⟩
  · exact (Block.clockSet_tap_of_ne hn).trans (Block.passToChange_tap_of_ne hn)
  · obtain ⟨hs, hlen⟩ := Block.passToChange_seen_taps (cyc := cyc) (new := st.toNat) hr (n := tap) (by omega)
    exact (Block.clockSet_seen_taps ((Block.running_of_seen hs (by decide)).trans hr) (by omega)).trans hs
  · dsimp only
    rw [Block.clockSet_of_same h3 hst]
  · dsimp only
    rw [Block.clockSet_of_writes h3 hst hwr, hf, if_neg (by decide), Block.clockChanged_tap hl hw]
    rfl
  · dsimp only
    rw [Block.clockSet_of_writes h3 hst hwr, Tap.wakeFirst_iff.2 ⟨⟨cl, lost, hup⟩, hsl, hen⟩, if_pos rfl,
      Block.wokenChanged_tap hl hck hup]

end Sys2Proof.Machine

namespace Sys2Proof.Machine

/-! ### Engine items (R38, R39, R64, R71, R79, R277) -/

section
variable {b : Block} {n m cls delta : Nat} {p : Payload}

/-- The payload that an item carries: an A item is marked `FULL` where that pends or the chain is full (R79). -/
def Tap.marked (t : Tap) (cls : Nat) (p : Payload) : Payload :=
  if cls = clsA then setFld p 47 1 (b2n (t.full || decide (t.chain.length ≥ 32))) else p

/-- The tap after its engine's item took its place: counters, `FULL`, and the engine state of an E STATE item (R276, R277,
R79). -/
def Tap.accepted (t : Tap) (cls : Nat) (p : Payload) : Tap :=
  { t.countItem cls p with
    engUsed := true
    full := if cls = clsA then false else t.full
    est := if cls = clsE && payKind p = 0 then some (fld p 42 2, fld p 36 6) else t.est }

/-- The block after an engine item that needs no delta-extend of its own. -/
def Block.stored (b : Block) (n cls : Nat) (p : Payload) (delta : Nat) : Block :=
  let p := (b.tap n).marked cls p
  let b := (b.tapPush n cls p delta 0).modTap n (fun t => t.accepted cls p)
  let b := if cls = clsM && b.weightLoad n then b.ctrlEntry n p (b.tap n).ctx else b
  b.activity

/-- An item after a gap above 4,095 cycles goes behind a delta-extend (R39). -/
theorem Block.storeItem_eq : b.storeItem n cls p =
    if (b.tap n).since > 4095 then
      (b.slotPush n clsDx (if (b.tap n).since ≥ 2 ^ 48 then BitVec.allOnes 48 else pay (b.tap n).since) 0xFFF 0).stored
        n cls p 0
    else b.stored n cls p (b.tap n).since := by
  unfold Block.storeItem
  by_cases h : (b.tap n).since > 4095
  · simp only [if_pos h]
    rfl
  · simp only [if_neg h]
    rfl

/-- A control entry changes its tap's assay path only. -/
theorem Block.ctrlEntry_tap {k : Nat} : ∃ c, (b.ctrlEntry n p k).tap m =
    if m = n then { b.tap m with ctrl := c } else b.tap m := by
  unfold Block.ctrlEntry
  dsimp only
  split
  all_goals
    split
    · rw [Block.abortImage_tap, Block.tap_modMeas]
      exact ⟨(b.tap m).ctrl, (ite_self _).symm⟩
    · rw [Block.tap_modTap_ite]
      exact ⟨_, rfl⟩

theorem Block.activity_tap : b.activity.tap m = b.tap m := rfl

theorem Block.stored_tap_of_ne (h : m ≠ n) : (b.stored n cls p delta).tap m = b.tap m := by
  unfold Block.stored
  dsimp only
  rw [Block.activity_tap]
  split
  · obtain ⟨c, hc⟩ := Block.ctrlEntry_tap (b := (b.tapPush n cls ((b.tap n).marked cls p) delta 0).modTap n
      (fun t => t.accepted cls ((b.tap n).marked cls p))) (n := n) (m := m) (p := (b.tap n).marked cls p) (k := _)
    rw [hc, if_neg h, Block.tap_modTap_of_ne h, Block.tapPush_tap_of_ne h]
  · rw [Block.tap_modTap_of_ne h, Block.tapPush_tap_of_ne h]

/-- The tap whose engine's item was stored. -/
theorem Block.stored_tap : ∃ below ls c, (b.stored n cls p delta).tap n =
    { ({ (b.tap n).push below cls ((b.tap n).marked cls p) delta 0 with lossAt := ls } : Tap).accepted cls
        ((b.tap n).marked cls p) with ctrl := c } := by
  obtain ⟨below, ls, ht⟩ := Block.tapPush_tap (b := b) (n := n) (cls := cls) (p := (b.tap n).marked cls p)
    (delta := delta) (strobe := 0)
  unfold Block.stored
  dsimp only
  rw [Block.activity_tap]
  split
  · obtain ⟨c, hc⟩ := Block.ctrlEntry_tap (b := (b.tapPush n cls ((b.tap n).marked cls p) delta 0).modTap n
      (fun t => t.accepted cls ((b.tap n).marked cls p))) (n := n) (m := n) (p := (b.tap n).marked cls p) (k := _)
    exact ⟨below, ls, c, by rw [hc, if_pos rfl, Block.tap_modTap, ht]⟩
  · exact ⟨below, ls, _, by rw [Block.tap_modTap, ht]⟩

/-- What an item of class `cls` with payload `q` leaves of tap `u` in `x`: the clauses on the chain are those of a chain
with room (for two items where a delta-extend goes first) and of a full one. -/
def Tap.Stores (u x : Tap) (cls : Nat) (q : Payload) : Prop :=
  x.since = 0 ∧ x.engUsed = true ∧ x.badClass = u.badClass ∧
    x.est = (if cls = clsE ∧ payKind q = 0 then some (fld q 42 2, fld q 36 6) else u.est) ∧
    (u.since ≤ 4095 → u.chain.length < 32 → x.tapLost = u.tapLost ∧
      x.chain = u.chain ++ [{ cls := cls, delta := u.since, ctx := u.ctx,
                              pay := if cls = clsA then setFld q 47 1 (b2n u.full) else q }]) ∧
    (u.since ≤ 4095 → u.chain.length = 32 → x.tapLost = satAdd 16 u.tapLost 1 ∧
      x.chain = u.chain.drop 1 ++ [{ cls := cls, delta := u.since, ctx := u.ctx,
                                     pay := if cls = clsA then setFld q 47 1 1 else q }]) ∧
    (4095 < u.since → u.chain.length < 31 → x.tapLost = u.tapLost ∧
      x.chain = u.chain ++
        [{ cls := clsDx, delta := 0xFFF, ctx := u.ctx,
           pay := if 2 ^ 48 ≤ u.since then BitVec.allOnes 48 else pay u.since },
         { cls := cls, delta := 0, ctx := u.ctx, pay := if cls = clsA then setFld q 47 1 (b2n u.full) else q }])

theorem Tap.marked_of_room {t : Tap} (h : t.chain.length < 32) :
    t.marked cls p = if cls = clsA then setFld p 47 1 (b2n t.full) else p := by
  simp [Tap.marked, Nat.not_le.2 h]

theorem Tap.marked_of_full {t : Tap} (h : t.chain.length = 32) :
    t.marked cls p = if cls = clsA then setFld p 47 1 1 else p := by
  simp [Tap.marked, h, b2n]

/-- What a stored item leaves of its tap whatever the chain held. -/
theorem Block.stored_keeps {x u : Tap} (hx : x = (b.stored n cls p delta).tap n) (hu : u = b.tap n) :
    x.since = 0 ∧ x.engUsed = true ∧ x.badClass = u.badClass ∧
      x.est = if cls = clsE ∧ payKind p = 0 then some (fld p 42 2, fld p 36 6) else u.est := by
  obtain ⟨below, ls, c, ht⟩ := Block.stored_tap (b := b) (n := n) (cls := cls) (p := p) (delta := delta)
  obtain ⟨hs, he, hb⟩ := Tap.push_keeps (t := b.tap n) (below := below) (cls := cls) (p := (b.tap n).marked cls p)
    (delta := delta) (strobe := 0)
  rw [hx, ht, hu]
  refine ⟨hs, rfl, hb, ?_⟩
  simp only [Tap.accepted, he, Bool.and_eq_true, decide_eq_true_eq]
  by_cases hE : cls = clsE
  · have hA : cls ≠ clsA := by rw [hE]; decide
    rw [Tap.marked, if_neg hA]
  · rw [if_neg (fun h => hE h.1), if_neg (fun h => hE h.1)]

theorem Block.stored_chain_of_room (h : (b.tap n).chain.length < 32) :
    ((b.stored n cls p delta).tap n).tapLost = (b.tap n).tapLost ∧
    ((b.stored n cls p delta).tap n).chain = (b.tap n).chain ++
      [{ cls := cls, delta := delta, ctx := (b.tap n).ctx,
         pay := if cls = clsA then setFld p 47 1 (b2n (b.tap n).full) else p }] := by
  obtain ⟨below, ls, c, ht⟩ := Block.stored_tap (b := b) (n := n) (cls := cls) (p := p) (delta := delta)
  rw [ht, Tap.push_of_room h, Tap.marked_of_room h]
  exact ⟨rfl, rfl⟩

theorem Block.stored_chain_of_full (h : (b.tap n).chain.length = 32) :
    ((b.stored n cls p delta).tap n).tapLost = satAdd 16 (b.tap n).tapLost 1 ∧
    ((b.stored n cls p delta).tap n).chain = (b.tap n).chain.drop 1 ++
      [{ cls := cls, delta := delta, ctx := (b.tap n).ctx,
         pay := if cls = clsA then setFld p 47 1 1 else p }] := by
  obtain ⟨below, ls, c, ht⟩ := Block.stored_tap (b := b) (n := n) (cls := cls) (p := p) (delta := delta)
  obtain ⟨hl, hc⟩ := Tap.push_of_full (below := below) (cls := cls) (p := (b.tap n).marked cls p) (delta := delta)
    (strobe := 0) h
  rw [ht, ← Tap.marked_of_full h]
  exact ⟨hl, hc⟩

theorem Block.slotPush_keeps {strobe : Nat} : ((b.slotPush n cls p delta strobe).tap n).est = (b.tap n).est ∧
    ((b.slotPush n cls p delta strobe).tap n).badClass = (b.tap n).badClass := by
  obtain ⟨below, ls, ht⟩ := Block.tapPush_tap (b := b.modTap n (fun t => { t with slotUsed := true })) (n := n)
    (cls := cls) (p := p) (delta := delta) (strobe := strobe)
  obtain ⟨-, he, hb⟩ := Tap.push_keeps (t := { b.tap n with slotUsed := true }) (below := below) (cls := cls) (p := p)
    (delta := delta) (strobe := strobe)
  rw [Block.slotPush, ht, Block.tap_modTap]
  exact ⟨he, hb⟩

/-- An accepted item is stored (R38, R39, R72, R79, R277). -/
theorem Block.storeItem_stores : (b.tap n).Stores ((b.storeItem n cls p).tap n) cls p := by
  rw [Block.storeItem_eq]
  by_cases hg : (b.tap n).since > 4095
  · rw [if_pos hg]
    obtain ⟨hs, he, hb, hest⟩ := Block.stored_keeps (b := b.slotPush n clsDx (if (b.tap n).since ≥ 2 ^ 48 then
      BitVec.allOnes 48 else pay (b.tap n).since) 0xFFF 0) (n := n) (cls := cls) (p := p) (delta := 0) rfl rfl
    rw [Block.slotPush_keeps.2] at hb
    rw [Block.slotPush_keeps.1] at hest
    refine ⟨hs, he, hb, hest, fun h => absurd h (by omega), fun h => absurd h (by omega), fun _ hl => ?_⟩
    have ht := Block.slotPush_tap_of_room (b := b) (n := n) (cls := clsDx) (p := if (b.tap n).since ≥ 2 ^ 48 then
      BitVec.allOnes 48 else pay (b.tap n).since) (delta := 0xFFF) (strobe := 0) (by omega)
    obtain ⟨hl', hc'⟩ := Block.stored_chain_of_room (b := b.slotPush n clsDx (if (b.tap n).since ≥ 2 ^ 48 then
      BitVec.allOnes 48 else pay (b.tap n).since) 0xFFF 0) (n := n) (cls := cls) (p := p) (delta := 0)
      (by rw [ht]; simp [Tap.entered]; omega)
    rw [hl', hc', ht]
    exact ⟨rfl, List.append_assoc _ _ _⟩
  · rw [if_neg hg]
    obtain ⟨hs, he, hb, hest⟩ := Block.stored_keeps (b := b) (n := n) (cls := cls) (p := p)
      (delta := (b.tap n).since) rfl rfl
    exact ⟨hs, he, hb, hest, fun _ => Block.stored_chain_of_room, fun _ => Block.stored_chain_of_full,
      fun h => absurd h hg⟩

theorem Block.storeItem_tap_of_ne (h : m ≠ n) : (b.storeItem n cls p).tap m = b.tap m := by
  rw [Block.storeItem_eq]
  split
  · rw [Block.stored_tap_of_ne h, Block.slotPush_tap_of_ne h]
  · exact Block.stored_tap_of_ne h

/-- What a tap does with the item that its engine presents (R82). -/
def Block.presented (b : Block) (n cls : Nat) (p : Payload) : Block :=
  match (b.tap n).judge cls p with
  | .item p => b.storeItem n cls p
  | .itemBad p => (b.modTap n (fun t => { t with badClass := true })).storeItem n cls p
  | .refusedA => b.modTap n (fun t => t.countTap 0x10)
  | .bad => b.modTap n (fun t => { t with badClass := true })

theorem Block.presented_tap_of_ne (h : m ≠ n) : (b.presented n cls p).tap m = b.tap m := by
  unfold Block.presented
  split
  · exact Block.storeItem_tap_of_ne h
  · rw [Block.storeItem_tap_of_ne h, Block.tap_modTap_of_ne h]
  · exact Block.tap_modTap_of_ne h
  · exact Block.tap_modTap_of_ne h

/-- An accepted item is stored; one of a kind that a newer revision may define marks the tap, too (R83). -/
theorem Block.presented_stores {q : Payload} {bad : Bool}
    (h : (b.tap n).judge cls p = if bad then .itemBad q else .item q) :
    Tap.Stores { b.tap n with badClass := (b.tap n).badClass || bad } ((b.presented n cls p).tap n) cls q := by
  cases bad
  · have hj : (b.tap n).judge cls p = .item q := h
    rw [Block.presented, hj, Bool.or_false]
    exact Block.storeItem_stores
  · have hj : (b.tap n).judge cls p = .itemBad q := h
    have hs := Block.storeItem_stores (b := b.modTap n (fun t => { t with badClass := true })) (n := n) (cls := cls) (p := q)
    rw [Block.tap_modTap] at hs
    rw [Block.presented, hj, Bool.or_true]
    exact hs

end

theorem tapAcceptItem_eq {tap : Fin 2048} {cyc : Nat} {cls : BitVec 4} {p : Payload} {s : State} {c : Block}
    (hc : c = s.block.passTap tap cyc) : exec (.tapAcceptItem tap cyc cls p) s =
      .next { s with block := if (c.tap tap).writes = false ∨ (c.tap tap).engUsed = true then c
        else c.presented tap cls.toNat p } := by
  subst hc
  change execTapAcceptItem tap cyc cls p s = _
  unfold execTapAcceptItem Block.presented
  simp only [State.run_eq, Bool.or_eq_true, Bool.not_eq_true'] <;> rfl

/-! ### The tap slot (R73, R75, R282) -/

section
variable {b : Block} {n cls delta strobe : Nat} {p : Payload}

@[simp] theorem Block.loss_gt {k : Nat} : (b.loss k).gt = b.gt := Block.gt_of_time_power rfl rfl

@[simp] theorem Block.tapPush_gt : (b.tapPush n cls p delta strobe).gt = b.gt := by
  unfold Block.tapPush
  dsimp only
  split
  · rw [Block.loss_gt, Block.gt_modTap, Block.requestWake_gt]
  · rw [Block.gt_modTap, Block.requestWake_gt]

@[simp] theorem Block.clockMark_gt {new old : Nat} : (b.clockMark n new old).gt = b.gt := by
  rw [Block.clockMark, Block.slotPush, Block.tapPush_gt, Block.gt_modTap, Block.gt_modTap]

/-- The cycles of a tap are not those of `gt`. -/
@[simp] theorem Block.passTap_gt {cyc : Nat} : (b.passTap n cyc).gt = b.gt := by
  unfold Block.passTap
  split
  · split
    · rw [Block.gt_modTap, Block.clockMark_gt, Block.gt_modTap]
    · rfl
  · rfl

theorem Block.slotWrite_pClk {new old : Nat} (h : (b.tap n).chain.length < 32) (hc : (b.tap n).pClk = some (new, old)) :
    (b.slotWrite n).tap n = (b.tap n).clockMarked new old := by
  simp only [Block.slotWrite, hc]
  exact Block.clockMark_tap h

theorem Block.slotWrite_pDown {pwr : Nat} (h : (b.tap n).chain.length < 32) (hc : (b.tap n).pClk = none)
    (hu : (b.tap n).pUp = none) (hd : (b.tap n).pDown = some pwr) : (b.slotWrite n).tap n =
      { ({ b.tap n with pDown := none } : Tap).entered clsP (pay (pwr * 2 ^ 40)) (min (b.tap n).since 4095) 0 with
        slotUsed := true } := by
  have e : b.slotWrite n = ((b.modTap n (fun t => { t with pDown := none })).slotPush n clsP (pay (pwr * 2 ^ 40))
      (min (b.tap n).since 4095) 0).abortImage n := by
    simp only [Block.slotWrite, hc, hu, hd]
  rw [e, Block.abortImage_tap, Block.slotPush_tap_of_room (by rw [Block.tap_modTap]; exact h), Block.tap_modTap]

theorem Block.slotWrite_pCtx {cause old : Nat} (h : (b.tap n).chain.length < 32) (hc : (b.tap n).pClk = none)
    (hu : (b.tap n).pUp = none) (hd : (b.tap n).pDown = none) (hx : (b.tap n).pCtx = some (cause, old)) :
    (b.slotWrite n).tap n = { (b.tap n).entered clsO (pay ((b.tap n).ctx * 2 ^ 32 + old * 2 ^ 20 + cause * 2 ^ 18))
      (min (b.tap n).since 4095) 0 with slotUsed := true, pCtx := none, full := true } := by
  simp only [Block.slotWrite, hc, hu, hd, hx, Block.tap_modTap, Block.slotPush_tap_of_room h]

theorem Block.slotWrite_pAnchor {num sq ph df : Nat} (h : (b.tap n).chain.length < 32) (hc : (b.tap n).pClk = none)
    (hu : (b.tap n).pUp = none) (hd : (b.tap n).pDown = none) (hx : (b.tap n).pCtx = none)
    (ha : (b.tap n).pAnchor = some (num, sq, ph, df)) : (b.slotWrite n).tap n =
      { ({ b.tap n with pAnchor := none } : Tap).entered clsAnchor
          (pay (sq % 64 * 2 ^ 38 + ph % 64 * 2 ^ 32 + df * 2 ^ 28)) (min (b.tap n).since 4095) num with
        slotUsed := true } := by
  have e : b.slotWrite n = (b.modTap n (fun t => { t with pAnchor := none })).slotPush n clsAnchor
      (pay (sq % 64 * 2 ^ 38 + ph % 64 * 2 ^ 32 + df * 2 ^ 28)) (min (b.tap n).since 4095) num := by
    simp only [Block.slotWrite, hc, hu, hd, hx, ha]
  rw [e, Block.slotPush_tap_of_room (by rw [Block.tap_modTap]; exact h), Block.tap_modTap]

theorem Block.slotWrite_dueC {k : Nat} {c : Counter} (h : (b.tap n).chain.length < 32) (hc : (b.tap n).pClk = none)
    (hu : (b.tap n).pUp = none) (hd : (b.tap n).pDown = none) (hx : (b.tap n).pCtx = none)
    (ha : (b.tap n).pAnchor = none) (hr : (b.tap n).dueC b.gt = some (k, c)) : (b.slotWrite n).tap n =
      { ({ b.tap n with cnt := tmod {} (b.tap n).cnt k (fun c => { c with pendC := false, lastC := b.gt / us 64 + 1 }) } :
          Tap).entered clsC (pay (k * 2 ^ 44 + c.reported % 2 ^ 44)) (min (b.tap n).since 4095) 0 with
        slotUsed := true } := by
  have e : b.slotWrite n = (b.modTap n (fun t => { t with
      cnt := tmod {} t.cnt k (fun c => { c with pendC := false, lastC := b.gt / us 64 + 1 }) })).slotPush n clsC
        (pay (k * 2 ^ 44 + c.reported % 2 ^ 44)) (min (b.tap n).since 4095) 0 := by
    simp only [Block.slotWrite, hc, hu, hd, hx, ha, hr]
  rw [e, Block.slotPush_tap_of_room (by rw [Block.tap_modTap]; exact h), Block.tap_modTap]

/-- With nothing pending the tap slot stays empty. -/
theorem Block.slotWrite_of_idle (hc : (b.tap n).pClk = none) (hu : (b.tap n).pUp = none) (hd : (b.tap n).pDown = none)
    (hx : (b.tap n).pCtx = none) (ha : (b.tap n).pAnchor = none) (hr : (b.tap n).dueC b.gt = none) :
    b.slotWrite n = b := by
  simp only [Block.slotWrite, hc, hu, hd, hx, ha, hr]

end

theorem tapSlotWrite_eq {tap : Fin 2048} {cyc : Nat} {s : State} {c : Block} (hc : c = s.block.passTap tap cyc) :
    exec (.tapSlotWrite tap cyc) s =
      .next { s with block := if (c.tap tap).slotFree then c.slotWrite tap else c } := by
  subst hc
  change execTapSlotWrite tap cyc s = _
  unfold execTapSlotWrite
  simp only [State.run_eq, Bool.and_eq_true, Bool.not_eq_true', Tap.slotFree, and_assoc]

section
variable {tap : Fin 2048} {cyc : Nat} {s : State} {u : Tap}

theorem tapAcceptItem_acts (cls : BitVec 4) (p : Payload) (hu : u = (s.block.passTap tap cyc).tap tap) :
    ∃ t, exec (.tapAcceptItem tap cyc cls p) s = .next t ∧ (∀ n, n ≠ tap.val → t.block.tap n = s.block.tap n) ∧
      (u.writes = false ∨ u.engUsed = true → t.block.tap tap = u) ∧
      (u.writes = true → u.engUsed = false → t.block.tap tap = ((s.block.passTap tap cyc).presented tap cls.toNat p).tap tap) := by
  subst hu
  refine ⟨_, tapAcceptItem_eq rfl, fun n hn => ?_, fun h => ?_, fun hw he => ?_⟩
  · rw [← Block.passTap_tap_of_ne (b := s.block) (n := tap) (cyc := cyc) hn]
    dsimp only
    split
    · rfl
    · exact Block.presented_tap_of_ne hn
  · dsimp only
    rw [if_pos h]
  · dsimp only
    rw [if_neg (by rw [hw, he]; decide)]

theorem tapSlotWrite_acts (hu : u = (s.block.passTap tap cyc).tap tap) :
    ∃ t, exec (.tapSlotWrite tap cyc) s = .next t ∧ (∀ n, n ≠ tap.val → t.block.tap n = s.block.tap n) ∧
      (¬u.slotFree → t.block.tap tap = u) ∧
      (u.slotFree → t.block.tap tap = ((s.block.passTap tap cyc).slotWrite tap).tap tap) := by
  subst hu
  refine ⟨_, tapSlotWrite_eq rfl, fun n hn => ?_, fun h => ?_, fun h => ?_⟩
  · rw [← Block.passTap_tap_of_ne (b := s.block) (n := tap) (cyc := cyc) hn]
    dsimp only
    split
    · exact Block.slotWrite_tap_of_ne hn
    · rfl
  · dsimp only
    rw [if_neg h]
  · dsimp only
    rw [if_pos h]

end

/-- Settles O32: an accepted item is stored with the cycles since the one before; the tap slot writes the first that
pends of its order. -/
theorem itemsEnterTheChain : Obligations.ItemsEnterTheChain := by
  refine ⟨fun tap cyc cls p s u hu => ?_, fun tap cyc s u hu hl => ?_⟩
  · obtain ⟨t, ht, hother, hidle, hpres⟩ := tapAcceptItem_acts cls p hu
    refine ⟨t, ht, hother, hidle, fun hw he hj => ?_, fun hw he hj => ?_, fun q hw he hj => ?_⟩
    · rw [hu] at hj
      rw [hpres hw he, hu, Block.presented, hj, Block.tap_modTap]
    · rw [hu] at hj
      rw [hpres hw he, hu, Block.presented, hj, Block.tap_modTap]
    · have hb : u.judge cls.toNat p = if decide (u.judge cls.toNat p = .itemBad q) then .itemBad q else .item q := by
        rcases hj with hj | hj <;> simp [hj]
      rw [hpres hw he]
      obtain ⟨hs, hen, hbad, hest, hc⟩ := Block.presented_stores (hu ▸ hb)
      rw [hu]
      exact ⟨hs, hen, hbad, hest, hc⟩
  · obtain ⟨t, ht, hother, hidle, hwr⟩ := tapSlotWrite_acts hu
    have hgt : (s.block.passTap tap cyc).gt = s.block.gt := Block.passTap_gt
    rw [hu] at hl
    refine ⟨t, ht, hother, fun h => hidle ?_, fun new old hf hc => ?_, fun ab cl lost hf hc hup => ?_,
      fun pwr hf hc hup hd => ?_, fun cause old hf hc hup hd hx => ?_, fun num sq ph df hf hc hup hd hx ha => ?_,
      fun k c hf hc hup hd hx ha hr => ?_, fun hc hup hd hx ha hr => ?_⟩
    · rintro ⟨hw, hsl, hen⟩
      simp [hw, hsl, hen] at h
    · rw [hwr hf, hu, Block.slotWrite_pClk hl (hu ▸ hc)]
      exact ⟨rfl, rfl, rfl, rfl, rfl⟩
    · rw [hwr hf, hu, Block.slotWrite_pUp hl (hu ▸ hc) (hu ▸ hup)]
      exact ⟨rfl, rfl, rfl, rfl, rfl, rfl, rfl⟩
    · rw [hwr hf, hu, Block.slotWrite_pDown hl (hu ▸ hc) (hu ▸ hup) (hu ▸ hd)]
      exact ⟨rfl, rfl⟩
    · rw [hwr hf, hu, Block.slotWrite_pCtx hl (hu ▸ hc) (hu ▸ hup) (hu ▸ hd) (hu ▸ hx)]
      exact ⟨rfl, rfl, rfl⟩
    · rw [hwr hf, hu, Block.slotWrite_pAnchor hl (hu ▸ hc) (hu ▸ hup) (hu ▸ hd) (hu ▸ hx) (hu ▸ ha)]
      exact ⟨rfl, rfl⟩
    · rw [← hgt] at hr
      rw [hwr hf, hu, Block.slotWrite_dueC hl (hu ▸ hc) (hu ▸ hup) (hu ▸ hd) (hu ▸ hx) (hu ▸ ha) (hu ▸ hr)]
      refine ⟨rfl, ?_⟩
      simp [Tap.entered]
    · by_cases hf : u.slotFree
      · rw [← hgt] at hr
        rw [hwr hf, hu, Block.slotWrite_of_idle (hu ▸ hc) (hu ▸ hup) (hu ▸ hd) (hu ▸ hx) (hu ▸ ha) (hu ▸ hr)]
      · exact hidle hf

end Sys2Proof.Machine

namespace Sys2Proof.Machine

/-! ### What packing leaves of time, taps, views and strobes

Packing may lose a unit (R15) and move a sequencer to Hold (R111); beside stations it reaches the loss bits, requests to
taps, and the owners. What it leaves of the state that time is kept with is said here once. -/

/-- The power state without the losses that it collects (R509). -/
def Power.lossless (p : Power) : Power := { p with lossSeen := 0, lossNow := (0, 0) }

/-- A tap's view without the station's request to start its trace anew (R117). -/
def TapView.steady (v : TapView) : TapView := { v with needFull := false }

/-- What a station's strobes go by (R43, R122, R123). -/
structure StrobePart where
  seqNo : Nat
  pkts : List TimePkt
  lastPeriod : Gt
  regionStrobe : Tbl Gt

def Station.strobePart (s : Station) : StrobePart :=
  { seqNo := s.seqNo, pkts := s.pkts, lastPeriod := s.lastPeriod, regionStrobe := s.regionStrobe }

/-- Whether a tenant is being reset, or waits for it (R375). -/
def Tenant.resets (t : Tenant) : Bool × Bool := (t.resetting, t.rstWait)

/-- What packing leaves. -/
structure Steady where
  time : Time
  power : Power
  taps : Nat → Tap
  views : Nat → TapView
  resets : Nat → Bool × Bool
  stations : Nat → StrobePart

def Block.steady (b : Block) : Steady where
  time := b.time
  power := b.power.lossless
  taps n := (b.tap n).settled
  views n := (b.view n).steady
  resets n := (b.tenant n).resets
  stations n := (b.station n).strobePart

section
variable {b c : Block} {n m st o lvl : Nat}

theorem Block.steady_ext (ht : b.time = c.time) (hp : b.power.lossless = c.power.lossless)
    (hx : ∀ n, (b.tap n).settled = (c.tap n).settled) (hv : ∀ n, (b.view n).steady = (c.view n).steady)
    (hr : ∀ n, (b.tenant n).resets = (c.tenant n).resets)
    (hs : ∀ n, (b.station n).strobePart = (c.station n).strobePart) : b.steady = c.steady := by
  simp only [Block.steady, ht, hp, hx, hv, hr, hs]

theorem Block.modTap_steady {f : Tap → Tap} (h : ∀ t, (f t).settled = t.settled) : (b.modTap n f).steady = b.steady :=
  Block.steady_ext rfl rfl (fun m => by simp only [Block.tap_modTap_ite, apply_ite Tap.settled, h, ite_self])
    (fun _ => rfl) (fun _ => rfl) (fun _ => rfl)

theorem Block.modView_steady {f : TapView → TapView} (h : ∀ v, (f v).steady = v.steady) :
    (b.modView n f).steady = b.steady :=
  Block.steady_ext rfl rfl (fun _ => rfl)
    (fun m => by simp only [Block.view_modView_ite, apply_ite TapView.steady, h, ite_self]) (fun _ => rfl) (fun _ => rfl)

theorem Block.modTenant_steady {f : Tenant → Tenant} (h : ∀ t, (f t).resets = t.resets) :
    (b.modTenant n f).steady = b.steady :=
  Block.steady_ext rfl rfl (fun _ => rfl) (fun _ => rfl)
    (fun m => by simp only [Block.tenant_modTenant_ite, apply_ite Tenant.resets, h, ite_self]) (fun _ => rfl)

theorem Block.modStation_steady {f : Station → Station} (h : ∀ s, (f s).strobePart = s.strobePart) :
    (b.modStation n f).steady = b.steady :=
  Block.steady_ext rfl rfl (fun _ => rfl) (fun _ => rfl) (fun _ => rfl)
    (fun m => by simp only [Block.station_modStation_ite, apply_ite Station.strobePart, h, ite_self])

/-- What leaves the parts of `steady` alone. -/
theorem Block.steady_of_seen {M : List Area} (h : b.seen M = c.seen M) (hM : Area.taps ∉ M ∧ Area.views ∉ M ∧
    Area.stations ∉ M ∧ Area.tenants ∉ M ∧ Area.power ∉ M ∧ Area.time ∉ M) : b.steady = c.steady := by
  obtain ⟨hx, hv, hs, hn, hp, ht⟩ := hM
  simp only [Block.steady, Block.tap, Block.view, Block.station, Block.tenant, Block.taps_of_seen h hx,
    Block.views_of_seen h hv, Block.stations_of_seen h hs, Block.tenants_of_seen h hn, Block.power_of_seen h hp,
    Block.time_of_seen h ht]

theorem Block.each_steady {α : Type} {l : List α} {f : Block → α → Block} (h : ∀ b x, (f b x).steady = b.steady) :
    (b.each l f).steady = b.steady := Block.each_keeps h

@[simp] theorem Block.raise_resets {v : Nat} : ((b.raise n v).tenant m).resets = (b.tenant m).resets := by
  by_cases h : m = n
  · subst h
    obtain ⟨is, due, e⟩ := Block.raise_tenant (b := b) (n := m) (v := v)
    rw [e]
    rfl
  · rw [Block.raise_tenant_of_ne h]

@[simp] theorem Block.raise_steady {v : Nat} : (b.raise n v).steady = b.steady :=
  Block.steady_ext rfl rfl (fun _ => rfl) (fun _ => rfl) (fun _ => Block.raise_resets) (fun _ => rfl)

@[simp] theorem Block.loss_steady : (b.loss n).steady = b.steady := by
  unfold Block.loss
  rw [Block.raise_steady]
  rfl

@[simp] theorem Block.holdBegin_steady : (b.holdBegin o).steady = b.steady := by
  unfold Block.holdBegin
  rw [Block.each_steady fun _ _ => Block.steady_of_seen (Block.modPage_seen (M := [.cask]) (by decide)) (by decide),
    Block.modTenant_steady (f := fun t => { t with caskHold := true }) (fun _ => rfl),
    Block.steady_of_seen (Block.closeOpen_seen (M := [.cask]) (by decide)) (by decide)]

@[simp] theorem Block.seqLeft_steady : (b.seqLeft o).steady = b.steady := by
  unfold Block.seqLeft
  dsimp only
  split
  · rfl
  · split
    · rw [Block.holdBegin_steady, Block.modTenant_steady]
      exact fun _ => rfl
    · rw [Block.modTenant_steady]
      exact fun _ => rfl

@[simp] theorem Block.needFull_steady {l : List Nat} : (b.needFull st l).steady = b.steady := by
  refine Block.each_steady fun b l => ?_
  rw [Block.modTap_steady, Block.modView_steady] <;> exact fun _ => rfl

@[simp] theorem Block.enqueue_steady {u : WUnit} : (b.enqueue st u).2.steady = b.steady := by
  unfold Block.enqueue
  dsimp only
  generalize (if u.marker then 256 else 248) = room
  split
  · rw [Block.modStation_steady, Block.modStation_steady] <;> exact fun _ => rfl
  · rw [Block.needFull_steady, Block.loss_steady, Block.modStation_steady, Block.modStation_steady] <;> exact fun _ => rfl

@[simp] theorem Block.closeRaw_steady {w : OpenUnit} {marker : Bool} : (b.closeRaw st w marker).2.steady = b.steady := by
  unfold Block.closeRaw
  rw [Block.enqueue_steady, Block.modStation_steady]
  exact fun _ => rfl

@[simp] theorem Block.closeOwnerRaw_steady : (b.closeOwnerRaw st o).steady = b.steady :=
  Block.each_steady fun _ _ => Block.closeRaw_steady

@[simp] theorem Block.enterHold_steady : (b.enterHold st).steady = b.steady := by
  unfold Block.enterHold
  dsimp only
  rw [Block.seqLeft_steady, Block.raise_steady, Block.closeOwnerRaw_steady, Block.modStation_steady]
  exact fun _ => rfl

@[simp] theorem Block.closeUnit_steady {w : OpenUnit} {marker : Bool} : (b.closeUnit st w marker).steady = b.steady := by
  unfold Block.closeUnit
  dsimp only
  split
  · split
    · rw [Block.enterHold_steady, Block.closeRaw_steady]
    · rw [Block.modStation_steady, Block.closeRaw_steady]
      exact fun _ => rfl
  · exact Block.closeRaw_steady

@[simp] theorem Block.closeAll_steady : (b.closeAll st).steady = b.steady :=
  Block.each_steady fun _ _ => by split <;> simp

@[simp] theorem Block.roomFor_steady : (b.roomFor st).steady = b.steady := by
  unfold Block.roomFor
  split
  · split <;> simp
  · rfl

@[simp] theorem Block.writeOpen_steady {w : OpenUnit} {bytes : List Byte} {aTap : Option Nat} {marker : Bool} :
    (b.writeOpen st w bytes aTap marker).steady = b.steady := by
  unfold Block.writeOpen
  dsimp only
  split
  · rw [Block.closeUnit_steady, Block.modStation_steady]
    exact fun _ => rfl
  · rw [Block.modStation_steady]
    exact fun _ => rfl

@[simp] theorem Block.place_steady {bytes : List Byte} {aTap : Option Nat} {marker : Bool} :
    (b.place st o lvl bytes aTap marker).steady = b.steady := by
  unfold Block.place
  split
  · split <;> simp
  · simp

@[simp] theorem Block.alignTo_steady : (b.alignTo st o).steady = b.steady := by
  unfold Block.alignTo
  dsimp only
  split
  · rfl
  · split
    · rw [Block.modStation_steady]
      exact fun _ => rfl
    · rw [Block.place_steady, Block.modStation_steady]
      exact fun _ => rfl

@[simp] theorem Block.markerTo_steady {bytes : List Byte} : (b.markerTo st o bytes).steady = b.steady := by
  rw [Block.markerTo, Block.place_steady, Block.alignTo_steady]

@[simp] theorem Block.timeTo_steady {p : TimePkt} : (b.timeTo st o p).steady = b.steady := by
  rw [Block.timeTo, Block.modStation_steady, Block.markerTo_steady]
  exact fun _ => rfl

@[simp] theorem Block.stopMarkers_steady {resume aon : Bool} {state taps : Nat} {gt : Gt} :
    (b.stopMarkers st resume aon state gt taps).steady = b.steady :=
  Block.each_steady fun _ _ => Block.markerTo_steady

end

/-! ### What alignment, strobes and path delays leave -/

/-- Local time without what alignment and strobes count (R43, R59, R60). -/
def Time.base (t : Time) : Time := { t with epoch := 0, alignBody := [], aligned := false, strobeNum := 0 }

/-- What alignment and strobes leave of the block: `steady` without the epoch, the aligned state, and the strobes under
way. -/
structure Rested where
  time : Time
  power : Power
  taps : Nat → Tap
  views : Nat → TapView
  resets : Nat → Bool × Bool

def Steady.rested (x : Steady) : Rested where
  time := x.time.base
  power := x.power
  taps n := { x.taps n with strobes := [] }
  views := x.views
  resets := x.resets

def Block.rested (b : Block) : Rested := b.steady.rested

section
variable {b c : Block} {n m st o cause : Nat} {step : Int} {able taps : List Nat}

theorem Block.time_of_steady (h : b.steady = c.steady) : b.time = c.time := congrArg Steady.time h

theorem Block.settled_of_steady (h : b.steady = c.steady) (n : Nat) : (b.tap n).settled = (c.tap n).settled :=
  congrFun (congrArg Steady.taps h) n

theorem Block.strobePart_of_steady (h : b.steady = c.steady) (n : Nat) :
    (b.station n).strobePart = (c.station n).strobePart := congrFun (congrArg Steady.stations h) n

theorem Block.rested_of_steady (h : b.steady = c.steady) : b.rested = c.rested := congrArg Steady.rested h

theorem Block.time_of_rested (h : b.rested = c.rested) : b.time.base = c.time.base := congrArg Rested.time h

theorem Block.power_of_rested (h : b.rested = c.rested) : b.power.lossless = c.power.lossless := congrArg Rested.power h

theorem Block.view_of_rested (h : b.rested = c.rested) (n : Nat) : (b.view n).steady = (c.view n).steady :=
  congrFun (congrArg Rested.views h) n

theorem Block.tap_of_rested (h : b.rested = c.rested) (n : Nat) :
    { (b.tap n).settled with strobes := [] } = { (c.tap n).settled with strobes := [] } :=
  congrFun (congrArg Rested.taps h) n

theorem Block.en_of_rested (h : b.rested = c.rested) (n : Nat) : (b.tap n).en = (c.tap n).en :=
  (congrArg Tap.en (Block.tap_of_rested h n) :)

theorem Block.resetting_of_rested (h : b.rested = c.rested) (n : Nat) : (b.tenant n).resetting = (c.tenant n).resetting :=
  congrArg Prod.fst (congrFun (congrArg Rested.resets h) n)

theorem Block.rstWait_of_rested (h : b.rested = c.rested) (n : Nat) : (b.tenant n).rstWait = (c.tenant n).rstWait :=
  congrArg Prod.snd (congrFun (congrArg Rested.resets h) n)

theorem Block.gt_of_rested (h : b.rested = c.rested) : b.gt = c.gt := by
  have ht := Block.time_of_rested h
  have htb : b.time.tb = c.time.tb := (congrArg Time.tb ht :)
  have haon : b.time.aonGt = c.time.aonGt := (congrArg Time.aonGt ht :)
  have hst : b.power.st = c.power.st := (congrArg Power.st (Block.power_of_rested h) :)
  simp only [Block.gt, htb, haon, hst]

theorem Block.each_rested {α : Type} {l : List α} {f : Block → α → Block} (h : ∀ b x, (f b x).rested = b.rested) :
    (b.each l f).rested = b.rested := Block.each_keeps h

theorem Block.modTime_rested {f : Time → Time} (h : ∀ t, (f t).base = t.base) : (b.modTime f).rested = b.rested := by
  simp only [Block.rested, Block.steady, Steady.rested, Block.modTime, h]
  rfl

/-- An advance of the epoch counts it, and sets the record that the streams receive (R59, R60). -/
theorem Block.advanceEpoch_steady {reason : Nat} : ∃ body, (b.advanceEpoch reason).steady =
    (b.modTime (fun t => { t with epoch := t.epoch + 1, alignBody := body })).steady := by
  refine ⟨_, Block.each_steady fun _ _ => Block.each_steady fun _ _ => Block.alignTo_steady⟩

theorem Block.advanceEpoch_rested {reason : Nat} : (b.advanceEpoch reason).rested = b.rested := by
  obtain ⟨body, h⟩ := Block.advanceEpoch_steady (b := b) (reason := reason)
  exact (Block.rested_of_steady h).trans (Block.modTime_rested fun _ => rfl)

theorem Block.advanceEpoch_epoch {reason : Nat} : (b.advanceEpoch reason).time.epoch = b.time.epoch + 1 := by
  obtain ⟨body, h⟩ := Block.advanceEpoch_steady (b := b) (reason := reason)
  rw [Block.time_of_steady h]
  rfl

theorem Block.advanceEpoch_aligned {reason : Nat} : (b.advanceEpoch reason).time.aligned = b.time.aligned := by
  obtain ⟨body, h⟩ := Block.advanceEpoch_steady (b := b) (reason := reason)
  rw [Block.time_of_steady h]
  rfl

theorem Block.realign_of_same (h : b.alignedNow = b.time.aligned) : b.realign = b := by
  unfold Block.realign
  simp [h]

theorem Block.realign_of_changed (h : b.alignedNow ≠ b.time.aligned) : b.realign =
    ((b.modTime (fun t => { t with aligned := b.alignedNow })).advanceEpoch 3).raise 64 18 := by
  unfold Block.realign
  dsimp only
  rw [if_neg (by simpa using h)]

/-- Recomputing the aligned state changes it, the epoch and its record only (R58, R59). -/
theorem Block.realign_rested : b.realign.rested = b.rested := by
  by_cases h : b.alignedNow = b.time.aligned
  · rw [Block.realign_of_same h]
  · rw [Block.realign_of_changed h, Block.rested_of_steady Block.raise_steady, Block.advanceEpoch_rested,
      Block.modTime_rested (f := fun t => { t with aligned := b.alignedNow }) fun _ => rfl]

theorem Block.realign_aligned : b.realign.time.aligned = b.alignedNow := by
  by_cases h : b.alignedNow = b.time.aligned
  · rw [Block.realign_of_same h, h]
  · rw [Block.realign_of_changed h, Block.time_of_steady Block.raise_steady, Block.advanceEpoch_aligned]
    rfl

theorem Block.realign_epoch : b.time.epoch ≤ b.realign.time.epoch := by
  by_cases h : b.alignedNow = b.time.aligned
  · rw [Block.realign_of_same h]
  · rw [Block.realign_of_changed h, Block.time_of_steady Block.raise_steady, Block.advanceEpoch_epoch]
    exact Nat.le_succ _

theorem Block.modTap_rested {f : Tap → Tap} (h : ∀ t, { (f t).settled with strobes := [] } = { t.settled with strobes := [] }) :
    (b.modTap n f).rested = b.rested := by
  simp only [Block.rested, Block.steady, Steady.rested, Rested.mk.injEq]
  refine ⟨rfl, rfl, funext fun m => ?_, rfl, rfl⟩
  rw [Block.tap_modTap_ite]
  split
  · exact h _
  · rfl

theorem Block.modStation_rested {f : Station → Station} : (b.modStation n f).rested = b.rested := rfl

/-- The strobe on its way to the taps that take it (R43). -/
def Block.strobesSent (b : Block) (able : List Nat) (num sq : Nat) : Block :=
  b.each able (fun b t => b.modTap t (fun x => { x with strobes := x.strobes ++ [(num, sq)] }))

theorem Block.strobesSent_rested {num sq : Nat} : (b.strobesSent able num sq).rested = b.rested :=
  Block.each_rested fun _ _ => Block.modTap_rested fun _ => rfl

theorem Block.strobesSent_time {num sq : Nat} : (b.strobesSent able num sq).time = b.time :=
  Block.each_keeps fun _ _ => rfl

/-- The packet of a strobe (R44, R122, R136). -/
def Block.strobePkt (b : Block) (st cause : Nat) (able : List Nat) (step : Int) : TimePkt :=
  { num := b.time.strobeNum, seq := (b.station st).seqNo, cause := cause, gt := b.gt, epoch := b.alEpoch,
    lb := b.lbByte, fb := b.fbByte, strobed := maskOf (able.map (· % 64)), step := step }

/-- The block after a strobe, its TIME packet not yet written in any stream. -/
def Block.strobed (b : Block) (st cause : Nat) (able : List Nat) (step : Int) : Block :=
  (((b.modTime (fun t => { t with strobeNum := t.strobeNum + 1 })).strobesSent able b.time.strobeNum
    (b.station st).seqNo).prunePkts st).modStation st (fun s => { s with
      seqNo := (s.seqNo + 1) % 64, pkts := s.pkts ++ [b.strobePkt st cause able step], unitsSince := 0 })

/-- What an eager packet adds to a strobe is packing. -/
theorem Block.issueStrobe_steady : (b.issueStrobe st cause able step).steady = (b.strobed st cause able step).steady := by
  unfold Block.issueStrobe
  dsimp only
  split
  · exact Block.each_steady fun _ _ => Block.timeTo_steady
  · rfl

/-- A strobe without an eager packet (R122). -/
theorem Block.issueStrobe_of_not_eager (h : eagerCause cause = false) :
    b.issueStrobe st cause able step = b.strobed st cause able step := by
  unfold Block.issueStrobe
  dsimp only
  rw [h]
  rfl

theorem Block.strobed_rested : (b.strobed st cause able step).rested = b.rested := by
  rw [Block.strobed, Block.modStation_rested, Block.prunePkts, Block.modStation_rested, Block.strobesSent_rested,
    Block.modTime_rested (f := fun t => { t with strobeNum := t.strobeNum + 1 }) fun _ => rfl]

theorem Block.strobed_time : (b.strobed st cause able step).time =
    { b.time with strobeNum := b.time.strobeNum + 1 } := Block.strobesSent_time

theorem Block.issueStrobe_rested : (b.issueStrobe st cause able step).rested = b.rested :=
  (Block.rested_of_steady Block.issueStrobe_steady).trans Block.strobed_rested

theorem Block.strobe_rested : (b.strobe st cause taps step).rested = b.rested := by
  unfold Block.strobe
  dsimp only
  split
  · rfl
  · split
    · exact Block.issueStrobe_rested
    · exact Block.issueStrobe_rested

theorem Block.regionStrobe_rested {region : Nat} : (b.regionStrobe st cause region).rested = b.rested := by
  rw [Block.regionStrobe, Block.modStation_rested, Block.strobe_rested]

theorem Block.stepStrobes_rested : (b.stepStrobes step).rested = b.rested :=
  Block.each_rested fun _ _ => Block.strobe_rested

theorem Block.wakeStrobes_rested : b.wakeStrobes.rested = b.rested :=
  Block.each_rested fun _ _ => Block.strobe_rested

/-- A strobe counts no epoch (R59). -/
theorem Block.strobe_epoch : (b.strobe st cause taps step).time.epoch = b.time.epoch := by
  have hi : ∀ l, (b.issueStrobe st cause l step).time.epoch = b.time.epoch := fun l => by
    rw [Block.time_of_steady Block.issueStrobe_steady, Block.strobed_time]
  unfold Block.strobe
  dsimp only
  split
  · rfl
  · split
    · exact hi _
    · exact hi _

theorem Block.each_epoch {α : Type} {l : List α} {f : Block → α → Block} (h : ∀ b x, (f b x).time.epoch = b.time.epoch) :
    (b.each l f).time.epoch = b.time.epoch := Block.each_keeps (p := fun b : Block => b.time.epoch) h

theorem Block.stepStrobes_epoch : (b.stepStrobes step).time.epoch = b.time.epoch := by
  unfold Block.stepStrobes
  rw [Block.each_epoch fun _ _ => Block.strobe_epoch]

end

end Sys2Proof.Machine

namespace Sys2Proof.Machine

/-! ### A step of the time base (R34, R59, R62) -/

section
variable {b : Block} {tb : Nat}

/-- A step of the time base but for its strobes. -/
def Block.stepped (b : Block) (tb : Nat) : Block :=
  ((b.modTime (fun t => { t with tb := tb })).shiftWaits
    ((tb / 2 ^ 24 : Nat) - ((b.time.tb / 2 ^ 24 : Nat) : Int))).advanceEpoch 0

theorem Block.stepTo_eq : b.stepTo tb = if (b.stepped tb).running then
    (b.stepped tb).stepStrobes ((tb / 2 ^ 24 : Nat) - ((b.time.tb / 2 ^ 24 : Nat) : Int)) else b.stepped tb := rfl

theorem Block.stepTo_base : (b.stepTo tb).time.base = { b.time with tb := tb }.base := by
  have h : (b.stepped tb).time.base = { b.time with tb := tb }.base := Block.time_of_rested Block.advanceEpoch_rested
  rw [Block.stepTo_eq]
  split
  · exact (Block.time_of_rested Block.stepStrobes_rested).trans h
  · exact h

theorem Block.stepTo_epoch : (b.stepTo tb).time.epoch = b.time.epoch + 1 := by
  have h : (b.stepped tb).time.epoch = b.time.epoch + 1 := by
    rw [Block.stepped, Block.advanceEpoch_epoch]
    rfl
  rw [Block.stepTo_eq]
  split
  · rw [Block.stepStrobes_epoch, h]
  · exact h

end

/-! ### The time commands (R44, R46, R54 to R58, R348) -/

section
variable {f : Fin 65} {p : Pkt} {s : State}

/-- The longest period is that of the stations' views (R48). -/
theorem longestPeriod_congr {b c : Block} (h : b.views = c.views) (l : List Nat) : longestPeriod b l = longestPeriod c l := by
  have hv : ∀ n, b.view n = c.view n := fun n => by rw [Block.view, h, Block.view]
  induction l with
  | nil => rfl
  | cons n l ih => rw [longestPeriod, longestPeriod, hv, ih]

/-- The bounds are those of taps, views, time, `gt` and the parent (R48, R57). -/
theorem Block.bytes_congr {b c : Block} (hx : b.taps = c.taps) (hv : b.views = c.views) (ht : b.time = c.time)
    (hg : b.gt = c.gt) (hh : b.hop = c.hop) : b.lbByte = c.lbByte ∧ b.fbByte = c.fbByte := by
  have hw : ∀ n, b.view n = c.view n := fun n => by rw [Block.view, hv, Block.view]
  have he : b.enabledTaps = c.enabledTaps := by rw [Block.enabledTaps, hx, Block.enabledTaps]
  have hl : b.localBound = c.localBound := by
    unfold Block.localBound holdTerm
    simp only [longestPeriod_congr hv, he, hw, ht, hg]
  have hf : b.fabricBound = c.fabricBound := by
    unfold Block.fabricBound Block.chainBound
    simp only [hl, ht, hg, hh]
  exact ⟨by rw [Block.lbByte, hl, Block.lbByte], by rw [Block.fbByte, hf, ht, Block.fbByte]⟩

theorem cmdTimeStatus_body {c : Call} {b : Block} : cmdTimeStatus.body c b =
    okW ([w32 (pack [(1, b2n b.time.locked), (1, b2n b.time.holdover), (1, b2n b.time.aligned), (5, 0),
        (8, b.time.epoch % 256), (8, b.lbByte), (8, b.fbByte)])] ++ gtWords b.gt ++
      [w32 (twos 64 b.time.fabOff), w32 (twos 64 b.time.fabOff / 2 ^ 32), w32 (twos 32 b.time.fabRate),
       w32 (if b.hop.parent = 7 then 0xFFF else (b.hopPort b.hop.parent).node)]) b := rfl

theorem cmdTcalRead_body {c : Call} {b : Block} : cmdTcalRead.body c b =
    okW [if b.present (c.fld 0 0 11) then
      w32 (pack [(16, twos 16 (b.view (c.fld 0 0 11)).dTap), (16, twos 16 (b.view (c.fld 0 0 11)).aTap)]) else 0] b := rfl

theorem timeStatus_reads {x : Time} (hw : p.params = []) (hx : x = s.block.time) (h : s.block.hears f p 8 false) :
    ∃ t, exec (.timeStatus f p) s = .next t ∧
      s.block.answered t.block f p stDone
        ([w32 (pack [(1, b2n x.locked), (1, b2n x.holdover), (1, b2n x.aligned), (5, 0), (8, x.epoch % 256),
            (8, s.block.lbByte), (8, s.block.fbByte)])] ++ gtWords s.block.gt ++
          [w32 (twos 64 x.fabOff), w32 (twos 64 x.fabOff / 2 ^ 32), w32 (twos 32 x.fabRate),
           w32 (if s.block.hop.parent = 7 then 0xFFF else (s.block.hopPort s.block.hop.parent).node)]) ∧
      s.block.calm t.block f [] ∧ True := by
  have hl : p.params.length = 0 := by rw [hw]; rfl
  subst hx
  have hb := cmdTimeStatus_body (c := callOf f p) (b := s.block.begun 0x80 f p)
  obtain ⟨hlb, hfb⟩ := Block.bytes_congr (b := s.block.begun 0x80 f p) (c := s.block) Block.begun_taps
    Block.begun_views Block.begun_time Block.begun_gt Block.begun_hop
  rw [hlb, hfb] at hb
  exact heard_calm (op := 0x80) (e := cmdTimeStatus) (away := []) h rfl (Nat.le_refl 8) (absurd · Bool.false_ne_true)
    hl.ge hl.le rfl (.inr (.inl rfl)) (by rw [hb]; rfl) (.inl (by decide)) (fun M hM => cmdTimeStatus_seen hM) (by decide)
    trivial

theorem tcalRead_reads {w : Word} (hw : p.params = [w]) (hf : f.val = 64) (h : s.block.hears f p 1 false) :
    ∃ t, exec (.tcalRead f p) s = .next t ∧
      s.block.answered t.block f p stDone [if s.block.present (fld w 0 11) then
        w32 (pack [(16, twos 16 (s.block.view (fld w 0 11)).dTap), (16, twos 16 (s.block.view (fld w 0 11)).aTap)])
        else 0] ∧
      s.block.calm t.block f [] ∧ True := by
  have hl : p.params.length = 1 := by rw [hw]; rfl
  have hb := cmdTcalRead_body (c := callOf f p) (b := s.block.begun 0x82 f p)
  rw [callOf_fld hw] at hb
  exact heard_calm (op := 0x82) (e := cmdTcalRead) (away := []) h rfl (Nat.le_refl 1) (absurd · Bool.false_ne_true)
    hl.ge hl.le rfl (.inl hf) (by rw [hb]; rfl) (.inl (by decide)) (fun M hM => cmdTcalRead_seen hM) (by decide) trivial

theorem portAlpha_stores {w : Word} (hw : p.params = [w]) (hf : f.val = 64) (hr : fld w 0 3 ≤ 5)
    (h : s.block.hears f p 0 false) :
    ∃ t, exec (.portAlpha f p) s = .next t ∧ s.block.answered t.block f p stDone [] ∧ s.block.calm t.block f [.hop] ∧
      t.block.hop = { s.block.hop with ports := t.block.hop.ports } ∧
      (∀ k, t.block.hopPort k = if k = fld w 0 3 then { s.block.hopPort k with alpha := sfld w.toNat 8 24 }
        else s.block.hopPort k) := by
  have hl : p.params.length = 1 := by rw [hw]; rfl
  have hn : (callOf f p).fld 0 0 3 = fld w 0 3 := callOf_fld hw ..
  have hb : cmdPortAlpha.body (callOf f p) (s.block.begun 0x84 f p) =
      ok ((s.block.begun 0x84 f p).modHopPort (fld w 0 3) (fun x => { x with alpha := sfld w.toNat 8 24 })) := by
    rw [← hn, show sfld w.toNat 8 24 = sfld ((callOf f p).w 0).toNat 8 24 by rw [callOf_w hw]; rfl]
    rfl
  refine heard_calm (op := 0x84) (e := cmdPortAlpha) h rfl (Nat.le_refl 0) (absurd · Bool.false_ne_true) hl.ge hl.le
    (decide_eq_true (hn ▸ hr)) (.inl hf) (by rw [hb]; rfl) (.inl (by decide)) (fun M hM => cmdPortAlpha_seen hM) (by decide)
    ⟨?_, ?_⟩
  · rw [hb]
    simp only [ok, Block.respond_hop]
    rfl
  · intro k
    rw [hb]
    simp [ok, Block.hopPort_modHopPort_ite]

/-- The settings of `TIME_SET`; a new `TCAL_PERIOD` counts from the end of Calibrate (R46, R348). -/
def Block.timeTaken (b : Block) (w v x : Word) : Block :=
  b.modTime (fun t => { t with
    tcalDue := if fld v 16 10 = b.time.tcalMs then b.time.tcalDue
      else b.time.calEnd + ((b.gt - b.time.calEnd) / ms (fld v 16 10) + 1) * ms (fld v 16 10)
    latency := fld w 0 16, holdPpm := fld w 16 16, stretchPer := fld v 0 13, tcalMs := fld v 16 10, tsyncUs := fld x 0 17 })

theorem Block.begun_timeTaken {op : Nat} {w v x : Word} :
    ((s.block.begun op f p).timeTaken w v x).time = (s.block.timeTaken w v x).time := by
  simp only [Block.timeTaken, Block.modTime, Block.begun_time, Block.begun_gt]
  rfl

theorem cmdTimeSet_body {b : Block} {w v x : Word} (hw : p.params = [w, v, x]) : cmdTimeSet.body (callOf f p) b =
    ok (if fld w 0 16 = b.time.latency then b.timeTaken w v x else (b.timeTaken w v x).stepTo
      (((b.time.tb : Int) + ((fld w 0 16 : Int) - b.time.latency) * 2 ^ 24).toNat)) := by
  have h0 : ∀ lo n, (callOf f p).fld 0 lo n = fld w lo n := callOf_fld hw 0
  have h1 : ∀ lo n, (callOf f p).fld 1 lo n = fld v lo n := callOf_fld hw 1
  have h2 : ∀ lo n, (callOf f p).fld 2 lo n = fld x lo n := callOf_fld hw 2
  simp only [cmdTimeSet, Block.timeTaken, h0, h1, h2]
  rfl

/-- The ranges of `TIME_SET` (R348). -/
theorem cmdTimeSet_range {w v x : Word} (hw : p.params = [w, v, x]) (h1 : 1 ≤ fld w 16 16) (h2 : fld w 16 16 ≤ 1000)
    (h3 : 32 ≤ fld v 0 13) (h4 : fld v 0 13 ≤ 4096) (h5 : 1 ≤ fld v 16 10) (h6 : fld v 16 10 ≤ 1000)
    (h7 : 100 ≤ fld x 0 17) (h8 : fld x 0 17 ≤ 100000) : cmdTimeSet.range (callOf f p) = true := by
  simp [cmdTimeSet, callOf_fld hw, h1, h2, h3, h4, h5, h6, h7, h8]

theorem timeSet_stores {w v x : Word} (hw : p.params = [w, v, x]) (hf : f.val = 64)
    (hr : cmdTimeSet.range (callOf f p) = true) (h : s.block.hears f p 0 false) (hn : fld w 0 16 = s.block.time.latency) :
    ∃ t, exec (.timeSet f p) s = .next t ∧ s.block.answered t.block f p stDone [] ∧ s.block.calm t.block f [.time] ∧
      t.block.time = (s.block.timeTaken w v x).time := by
  have hl : p.params.length = 3 := by rw [hw]; rfl
  have hb := cmdTimeSet_body (f := f) (b := s.block.begun 0x81 f p) hw
  rw [Block.begun_time, if_pos hn] at hb
  refine heard_calm (op := 0x81) (e := cmdTimeSet) h rfl (Nat.le_refl 0) (absurd · Bool.false_ne_true) hl.ge hl.le hr
    (.inl hf) (by rw [hb]; rfl) (.inl (by decide)) (fun M hM => ?_) (by decide) ?_
  · rw [hb]
    exact Block.modTime_seen hM
  · rw [hb]
    simp only [ok, Block.respond_time, Block.begun_timeTaken]

theorem timeSet_steps {w v x : Word} (hw : p.params = [w, v, x]) (hf : f.val = 64)
    (hr : cmdTimeSet.range (callOf f p) = true) (h : s.block.hears f p 0 false) (hn : fld w 0 16 ≠ s.block.time.latency) :
    ∃ t, exec (.timeSet f p) s = .next t ∧ s.block.answered t.block f p stDone [] ∧
      t.block.time.base = { (s.block.timeTaken w v x).time with
        tb := ((s.block.time.tb : Int) + ((fld w 0 16 : Int) - s.block.time.latency) * 2 ^ 24).toNat }.base := by
  have hl : p.params.length = 3 := by rw [hw]; rfl
  have hb := cmdTimeSet_body (f := f) (b := s.block.begun 0x81 f p) hw
  rw [Block.begun_time, if_neg hn] at hb
  refine heard_ans (op := 0x81) (e := cmdTimeSet) (away := [.taps, .views, .stations, .quads, .cask, .mash, .sync,
    .tenants, .power, .time]) h rfl (Nat.le_refl 0) (absurd · Bool.false_ne_true) hl.ge hl.le hr (.inl hf)
    (by rw [hb]; rfl) (.inl (by decide)) (fun M hM => cmdTimeSet_seen hM) (by decide) ?_
  rw [hb]
  simp only [ok, Block.respond_time, Block.stepTo_base, Block.begun_timeTaken]

/-- Without a parent there is nobody to measure against (R348). -/
theorem tsyncNow_refused (hw : p.params = []) (hf : f.val = 64) (h : s.block.hears f p 3 true)
    (hp : s.block.hasParent = false) :
    ∃ t, exec (.tsyncNow f p) s = .next t ∧ s.block.answered t.block f p stNoResource [] ∧ s.block.calm t.block f [] := by
  have hl : p.params.length = 0 := by rw [hw]; rfl
  have hp' : (s.block.begun 0x83 f p).hasParent = false := hp
  have hb : cmdTsyncNow.body (callOf f p) (s.block.begun 0x83 f p) = fails stNoResource (s.block.begun 0x83 f p) := by
    simp [cmdTsyncNow, hp']
  obtain ⟨t, ht, ha, hc, -⟩ := heard_calm (op := 0x83) (e := cmdTsyncNow) (st := stNoResource) (ws := [])
    (P := fun _ => True) (away := []) h rfl (Nat.le_refl 3) (fun _ => rfl) hl.ge hl.le rfl (.inl hf) (by rw [hb]; rfl)
    (.inr ⟨rfl, by decide⟩) (fun M _ => by rw [hb]; rfl) (by decide) trivial
  exact ⟨t, ht, ha, hc⟩

/-- The block in which a measurement of fabric time runs: that which runs already is joined (R56). -/
def Block.measuring (b : Block) : Block := if b.hop.tsMeas.isSome then b else b.tsyncCall

theorem Block.measuring_seen {b : Block} {M : List Area} (h : Area.sub [.hop] M = true) : b.measuring.seen M = b.seen M :=
  Block.seen_ite rfl (Block.tsyncCall_seen h)

theorem Block.measuring_tsMeas {b : Block} : b.measuring.hop.tsMeas.isSome = true := by
  unfold Block.measuring
  split
  · assumption
  · rfl

theorem tsyncNow_begins (hw : p.params = []) (hf : f.val = 64) (h : s.block.hears f p 3 true)
    (hp : s.block.hasParent = true) :
    ∃ t, exec (.tsyncNow f p) s = .next t ∧ s.block.begins t.block f p 3 .tsyncNow ∧ t.block.tenants = s.block.tenants ∧
      t.block.seen (.hop :: packetAreas) = s.block.seen (.hop :: packetAreas) ∧ t.block.hop.tsMeas.isSome = true ∧
      (s.block.hop.tsMeas.isSome = true → t.block.hop = s.block.hop) := by
  have hl : p.params.length = 0 := by rw [hw]; rfl
  have hp' : (s.block.begun 0x83 f p).hasParent = true := hp
  have hb : cmdTsyncNow.body (callOf f p) (s.block.begun 0x83 f p) =
      (.long .tsyncNow, (s.block.begun 0x83 f p).measuring) := by
    simp [cmdTsyncNow, hp', Block.measuring]
  have hs : (s.block.begun 0x83 f p).measuring.seen [.hop] = (s.block.begun 0x83 f p).seen [.hop] :=
    Block.measuring_seen (by decide)
  have hport : ∀ g, (s.block.begun 0x83 f p).measuring.port g = s.block.port g := fun g => by
    rw [Block.port, Block.ports_of_seen hs (by decide)]
    exact Block.begun_port h.1.2.2.2.2.1 g
  have hpow : (s.block.begun 0x83 f p).measuring.power = s.block.power.served f s.block.gt :=
    Block.power_of_seen hs (by decide)
  refine heard_long (op := 0x83) (e := cmdTsyncNow) h rfl (Nat.le_refl 3) (fun _ => rfl) hl.ge hl.le rfl (.inl hf) hb
    ⟨⟨?_, ?_, fun g hg => ?_⟩, ?_, ?_, ?_, fun hm => ?_⟩
  · rw [Block.port_modPower, Block.port_modPort, hport, hpow]
    rfl
  · rw [Block.port_modPower, Block.port_modPort, hport]
  · rw [Block.port_modPower, Block.port_modPort_of_ne hg, hport]
  · dsimp only
    rw [Block.modPower_tenants, Block.modPort_tenants, Block.tenants_of_seen hs (by decide), Block.begun_tenants]
  · rw [Block.modPower_seen (by decide), Block.modPort_seen (by decide), Block.measuring_seen (by decide)]
    exact Block.begun_seen (away := [.hop])
  · dsimp only
    rw [Block.modPower_hop, Block.modPort_hop]
    exact Block.measuring_tsMeas
  · have hm' : (s.block.begun 0x83 f p).hop.tsMeas.isSome = true := hm
    dsimp only
    rw [Block.modPower_hop, Block.modPort_hop, Block.measuring, if_pos hm', Block.begun_hop]

end

/-- Settles O21: the reads show what is stored; `TIME_SET` stores, and steps the time base where the latency is new;
`TSYNC_NOW` starts or joins a measurement. -/
theorem timeCommandsAct : Obligations.TimeCommandsAct := by
  refine ⟨fun f p s => ⟨fun x hw hx h => ?_, fun w hw hf h => ?_, fun w => portAlpha_stores⟩,
    fun f p s hf => ⟨fun w v x hw h1 h2 h3 h4 h5 h6 h7 h8 h => ?_, fun hw h => ?_⟩⟩
  · obtain ⟨t, ht, ha, hc, -⟩ := timeStatus_reads hw hx h
    exact ⟨t, ht, hc, ha⟩
  · obtain ⟨t, ht, ha, hc, -⟩ := tcalRead_reads hw hf h
    exact ⟨t, ht, hc, ha⟩
  · have hr := cmdTimeSet_range (f := f) hw h1 h2 h3 h4 h5 h6 h7 h8
    by_cases hn : fld w 0 16 = s.block.time.latency
    · obtain ⟨t, ht, ha, hc, e⟩ := timeSet_stores hw hf hr h hn
      refine ⟨t, ht, ha, ?_⟩
      rw [e]
      exact ⟨rfl, rfl, rfl, rfl, rfl, fun _ => ⟨hc, rfl, fun hms => if_neg hms⟩, fun h => absurd hn h⟩
    · obtain ⟨t, ht, ha, e⟩ := timeSet_steps hw hf hr h hn
      exact ⟨t, ht, ha, (congrArg Time.latency e :), (congrArg Time.holdPpm e :), (congrArg Time.stretchPer e :),
        (congrArg Time.tcalMs e :), (congrArg Time.tsyncUs e :), fun h => absurd h hn, fun _ => (congrArg Time.tb e :)⟩
  · cases hp : s.block.hasParent with
    | false =>
      obtain ⟨t, ht, ha, hc⟩ := tsyncNow_refused hw hf h hp
      exact ⟨t, ht, fun _ => ⟨ha, hc⟩, fun h => absurd h Bool.false_ne_true⟩
    | true =>
      obtain ⟨t, ht, hc⟩ := tsyncNow_begins hw hf h hp
      exact ⟨t, ht, fun h => absurd h.symm Bool.false_ne_true, fun _ => hc⟩

end Sys2Proof.Machine

namespace Sys2Proof.Machine

/-! ### Closing every open unit of a station (R119) -/

section
variable {b : Block} {st n : Nat}

/-- The open units of a station. -/
def Block.opensAt (b : Block) (st : Nat) : List OpenUnit := (b.station st).opens

/-- Two open units have one key (R118). -/
def OpenUnit.sameKey (x w : OpenUnit) : Prop := x.owner = w.owner ∧ x.interest = w.interest

theorem Block.opensAt_of_stations {c : Block} (h : b.stations = c.stations) : b.opensAt st = c.opensAt st := by
  rw [Block.opensAt, Block.station, h]
  rfl

theorem Block.needFull_stations {l : List Nat} : (b.needFull st l).stations = b.stations :=
  Block.each_keeps fun _ _ => rfl

theorem Block.enqueue_opensAt {u : WUnit} : (b.enqueue st u).2.opensAt st = b.opensAt st := by
  unfold Block.enqueue
  dsimp only
  generalize (if u.marker then 256 else 248) = room
  split
  · simp [Block.opensAt]
  · rw [Block.opensAt_of_stations (Block.needFull_stations.trans Block.loss_stations)]
    simp [Block.opensAt]

theorem Block.mem_closeRaw_opensAt {w x : OpenUnit} {marker : Bool} :
    x ∈ (b.closeRaw st w marker).2.opensAt st ↔ x ∈ b.opensAt st ∧ ¬x.sameKey w := by
  unfold Block.closeRaw
  rw [Block.enqueue_opensAt]
  simp [Block.opensAt, OpenUnit.sameKey, imp_iff_not_or]

theorem Block.mem_closeOwnerRaw_opensAt {x : OpenUnit} {o : Nat} (h : x ∈ (b.closeOwnerRaw st o).opensAt st) :
    x ∈ b.opensAt st := by
  have hl : ∀ (l : List OpenUnit) (b : Block), x ∈ (b.each l (fun b w => (b.closeRaw st w false).2)).opensAt st →
      x ∈ b.opensAt st := by
    intro l
    induction l with
    | nil => exact fun b h => h
    | cons w l ih => exact fun b h => (Block.mem_closeRaw_opensAt.1 (ih _ h)).1
  exact hl _ b h

theorem Block.mem_enterHold_opensAt {x : OpenUnit} (h : x ∈ (b.enterHold st).opensAt st) : x ∈ b.opensAt st := by
  unfold Block.enterHold at h
  dsimp only at h
  rw [Block.opensAt_of_stations (Block.stations_of_seen (Block.seqLeft_seen (M := [.cask, .tenants]) (by decide))
    (by decide)), Block.opensAt_of_stations (Block.stations_of_seen (Block.raise_seen (M := [.tenants]) (by decide))
    (by decide))] at h
  simpa [Block.opensAt] using Block.mem_closeOwnerRaw_opensAt h

/-- A unit that closes leaves its station's buffers, and no other comes in. -/
theorem Block.mem_closeUnit_opensAt {w x : OpenUnit} {marker : Bool} (h : x ∈ (b.closeUnit st w marker).opensAt st) :
    x ∈ b.opensAt st ∧ ¬x.sameKey w := by
  refine (Block.mem_closeRaw_opensAt (marker := marker)).1 ?_
  unfold Block.closeUnit at h
  dsimp only at h
  split at h
  · split at h
    · exact Block.mem_enterHold_opensAt h
    · simpa [Block.opensAt] using h
  · exact h

/-- Closing the unit of a key, where one is open, leaves none of that key. -/
theorem Block.mem_closeKey_opensAt {w x : OpenUnit} (h : x ∈ (match b.openUnit st w.owner w.interest with
    | some y => b.closeUnit st y false
    | none => b).opensAt st) : x ∈ b.opensAt st ∧ ¬x.sameKey w := by
  split at h
  · rename_i y hy
    have hk := List.find?_some hy
    simp only [Bool.and_eq_true, beq_iff_eq] at hk
    obtain ⟨hx, hne⟩ := Block.mem_closeUnit_opensAt h
    exact ⟨hx, fun hs => hne ⟨hs.1.trans hk.1.symm, hs.2.trans hk.2.symm⟩⟩
  · rename_i hy
    refine ⟨h, fun hs => ?_⟩
    have hn := List.find?_eq_none.1 hy x h
    simp [hs.1, hs.2] at hn

/-- A PERIOD strobe closes every open unit of its station (R119). -/
theorem Block.closeAll_opens : ((b.closeAll st).station st).opens = [] := by
  have hl : ∀ (l : List OpenUnit) (b : Block) (x : OpenUnit), x ∈ (b.each l (fun b w =>
      match b.openUnit st w.owner w.interest with
      | some y => b.closeUnit st y false
      | none => b)).opensAt st → x ∈ b.opensAt st ∧ ∀ w ∈ l, ¬x.sameKey w := by
    intro l
    induction l with
    | nil => exact fun b x h => ⟨h, fun w hw => absurd hw List.not_mem_nil⟩
    | cons w l ih =>
      intro b x h
      obtain ⟨hx, hall⟩ := ih _ x h
      obtain ⟨hx', hne⟩ := Block.mem_closeKey_opensAt hx
      exact ⟨hx', List.forall_mem_cons.2 ⟨hne, hall⟩⟩
  refine List.eq_nil_iff_forall_not_mem.2 fun x hx => ?_
  obtain ⟨hin, hne⟩ := hl _ b x hx
  exact hne x hin ⟨rfl, rfl⟩

/-! ### A strobe (R43, R44, R518) -/

theorem Block.strobesSent_tap {able : List Nat} {num sq : Nat} (h : able.Nodup) : (b.strobesSent able num sq).tap n =
    if n ∈ able then { b.tap n with strobes := (b.tap n).strobes ++ [(num, sq)] } else b.tap n := by
  unfold Block.strobesSent Block.each
  induction able generalizing b with
  | nil => simp
  | cons t l ih =>
    obtain ⟨ht, hl⟩ := List.nodup_cons.1 h
    rw [List.foldl_cons, ih hl, Block.tap_modTap_ite]
    by_cases e : n = t
    · subst e
      simp [ht]
    · simp [e]

theorem Block.strobesSent_station {able : List Nat} {num sq : Nat} : (b.strobesSent able num sq).station n = b.station n :=
  Block.each_keeps (f := fun b t => b.modTap t (fun x => { x with strobes := x.strobes ++ [(num, sq)] }))
    (p := fun b : Block => b.station n) fun _ _ => rfl

theorem Block.strobed_tap {cause : Nat} {able : List Nat} {step : Int} (h : able.Nodup) :
    (b.strobed st cause able step).tap n = if n ∈ able then { b.tap n with
      strobes := (b.tap n).strobes ++ [(b.time.strobeNum, (b.station st).seqNo)] } else b.tap n := by
  rw [Block.strobed, Block.tap_modStation, Block.prunePkts, Block.tap_modStation, Block.strobesSent_tap h]
  rfl

/-- The strobing station counts the strobe and holds its packet. -/
theorem Block.strobed_station {cause : Nat} {able : List Nat} {step : Int} :
    ((b.strobed st cause able step).station st).seqNo = ((b.station st).seqNo + 1) % 64 ∧
    b.strobePkt st cause able step ∈ ((b.strobed st cause able step).station st).pkts := by
  have hs : ((b.modTime (fun t => { t with strobeNum := t.strobeNum + 1 })).strobesSent able b.time.strobeNum
      (b.station st).seqNo).station st = b.station st := Block.strobesSent_station
  rw [Block.strobed, Block.station_modStation, Block.prunePkts, Block.station_modStation, hs]
  exact ⟨rfl, List.mem_append_right _ (List.mem_singleton.2 rfl)⟩

theorem tapsOf_nodup : (tapsOf st).Nodup :=
  List.nodup_range.map fun _ _ h => Nat.add_left_cancel h

/-- A strobe without an eager packet that some tap takes (R122, R518). -/
theorem Block.strobe_of_able {cause : Nat} {taps : List Nat} {step : Int} (h : eagerCause cause = false)
    (ha : taps.filter b.able ≠ []) : b.strobe st cause taps step = b.strobed st cause (taps.filter b.able) step := by
  have h6 : cause ≠ 6 := by rintro rfl; exact absurd h (by decide)
  have h7 : cause ≠ 7 := by rintro rfl; exact absurd h (by decide)
  have hn : (taps.filter b.able).isEmpty = false := by simpa using ha
  unfold Block.strobe
  simp only [hn, Bool.false_and, Bool.false_eq_true, if_false, h6, h7, decide_false, Bool.or_self,
    Block.issueStrobe_of_not_eager h]

/-! ### PERIOD strobes (R43, R119, R122, R123) -/

/-- The taps of a station that a PERIOD strobe goes to: those able to take it whose region had no strobe in the last 16
brew cycles. -/
def Block.periodTaps (b : Block) (st : Nat) : List Nat :=
  (tapsOf st).filter (fun t => b.able t && !((b.station st).regionStrobe.any (fun e =>
    decide (b.gt ≤ e.2 + b.cycles 16) && e.1 == b.regionOfTap t)))

theorem Block.periodStrobe_eq : b.periodStrobe st = if (b.periodTaps st).isEmpty then b.newInterval st
    else (((b.strobed st 0 (b.periodTaps st) 0).closeAll st).newInterval st).tcalRefresh st := by
  have ht : ((tapsOf st).filter (fun t => !(((b.station st).regionStrobe.filter (fun e =>
      decide (b.gt ≤ e.2 + b.cycles 16))).map Prod.fst).contains (b.regionOfTap t))).filter b.able = b.periodTaps st := by
    rw [List.filter_filter, Block.periodTaps]
    refine List.filter_congr fun t _ => ?_
    rw [Bool.eq_iff_iff]
    simp only [List.contains_eq_any_beq, List.any_map, List.any_filter, Bool.and_eq_true, Bool.not_eq_true',
      Function.comp_apply, BEq.comm (a := b.regionOfTap t)]
  unfold Block.periodStrobe
  simp only [ht, Block.issueStrobe_of_not_eager (show eagerCause 0 = false by decide)]


/-- An interval that begins moves the station's interval only (R122, R123). -/
theorem Block.newInterval_lastPeriod : ((b.newInterval st).station st).lastPeriod = b.gt := by
  rw [Block.newInterval, Block.station_modStation]

/-- The block after a PERIOD strobe to the taps `ts`. -/
def Block.perioded (b : Block) (st : Nat) (ts : List Nat) : Block :=
  (((b.strobed st 0 ts 0).closeAll st).newInterval st).tcalRefresh st

theorem Block.closeAll_seqNo {k : Nat} : ((b.closeAll st).station k).seqNo = (b.station k).seqNo := by
  have h := Block.strobePart_of_steady (Block.closeAll_steady (b := b) (st := st)) k
  exact (congrArg StrobePart.seqNo h :)

theorem Block.closeAll_pkts {k : Nat} : ((b.closeAll st).station k).pkts = (b.station k).pkts := by
  have h := Block.strobePart_of_steady (Block.closeAll_steady (b := b) (st := st)) k
  exact (congrArg StrobePart.pkts h :)

theorem Block.closeAll_strobes : ((b.closeAll st).tap n).strobes = (b.tap n).strobes := by
  have h := Block.settled_of_steady (Block.closeAll_steady (b := b) (st := st)) n
  exact (congrArg Tap.strobes h :)

theorem Block.perioded_closed {ts : List Nat} : (b.perioded st ts).time = { b.time with strobeNum := b.time.strobeNum + 1 } ∧
    ((b.perioded st ts).station st).opens = [] := by
  rw [Block.perioded, Block.tcalRefresh, Block.modStation_time, Block.newInterval, Block.modStation_time,
    Block.time_of_steady Block.closeAll_steady, Block.strobed_time, Block.station_modStation, Block.station_modStation]
  dsimp only
  rw [Block.closeAll_opens]
  exact ⟨rfl, rfl⟩

/-- After a PERIOD strobe: its number, its packet, and the new interval. -/
theorem Block.perioded_station {ts : List Nat} : ((b.perioded st ts).station st).lastPeriod = b.gt ∧
    ((b.perioded st ts).station st).seqNo = ((b.station st).seqNo + 1) % 64 ∧
    b.strobePkt st 0 ts 0 ∈ ((b.perioded st ts).station st).pkts := by
  have hg : ((b.strobed st 0 ts 0).closeAll st).gt = b.gt :=
    (Block.gt_of_rested (Block.rested_of_steady Block.closeAll_steady)).trans (Block.gt_of_rested Block.strobed_rested)
  obtain ⟨hq, hm⟩ := Block.strobed_station (b := b) (st := st) (cause := 0) (able := ts) (step := 0)
  rw [Block.perioded, Block.tcalRefresh, Block.station_modStation]
  dsimp only
  rw [Block.newInterval_lastPeriod, Block.newInterval, Block.station_modStation]
  dsimp only
  rw [Block.closeAll_seqNo, Block.closeAll_pkts]
  exact ⟨hg, hq, hm⟩

theorem Block.perioded_strobes {ts : List Nat} (h : ts.Nodup) : ((b.perioded st ts).tap n).strobes = (b.tap n).strobes ++
    if n ∈ ts then [(b.time.strobeNum, (b.station st).seqNo)] else [] := by
  rw [Block.perioded, Block.tcalRefresh, Block.tap_modStation, Block.newInterval, Block.tap_modStation,
    Block.closeAll_strobes, Block.strobed_tap h]
  split
  · rfl
  · exact (List.append_nil _).symm

theorem periodStrobe_strobes {st : Fin 32} {s : State} {ts : List Nat} (hr : s.block.running = true)
    (hdue : (s.block.station st).lastPeriod + us 1 ≤ s.block.gt ∨ 4096 ≤ (s.block.station st).unitsSince)
    (hts : ts = s.block.periodTaps st) :
    ∃ t, exec (.periodStrobe st) s = .next t ∧ (t.block.station st).lastPeriod = s.block.gt ∧
      (ts = [] → t.block.seen [.stations] = s.block.seen [.stations]) ∧
      (ts ≠ [] → t.block.time.strobeNum = s.block.time.strobeNum + 1 ∧
        (t.block.station st).seqNo = ((s.block.station st).seqNo + 1) % 64 ∧ (t.block.station st).opens = [] ∧
        (∃ q, q ∈ (t.block.station st).pkts ∧ q.num = s.block.time.strobeNum ∧ q.seq = (s.block.station st).seqNo ∧
          q.cause = 0 ∧ q.gt = s.block.gt ∧ q.strobed = maskOf (ts.map (· % 64))) ∧
        (∀ n, (t.block.tap n).strobes = (s.block.tap n).strobes ++
          if n ∈ ts then [(s.block.time.strobeNum, (s.block.station st).seqNo)] else [])) := by
  have hc : (s.block.running && (decide ((s.block.station st).lastPeriod + us 1 ≤ s.block.gt) ||
      decide ((s.block.station st).unitsSince ≥ 4096))) = true := by
    rcases hdue with h | h <;> simp [hr, h]
  have ht : exec (.periodStrobe st) s = .next { s with block := s.block.periodStrobe st } := by
    change execPeriodStrobe st s = _
    unfold execPeriodStrobe
    simp only [State.run_eq, hc, if_true]
  refine ⟨_, ht, ?_⟩
  rw [Block.periodStrobe_eq, ← hts]
  by_cases h0 : ts = []
  · rw [h0, List.isEmpty_nil, if_pos rfl]
    exact ⟨Block.newInterval_lastPeriod, fun _ => Block.modStation_seen (by decide) (fun _ => rfl), fun h => absurd rfl h⟩
  · have hnd : ts.Nodup := hts ▸ tapsOf_nodup.filter _
    obtain ⟨htime, hop⟩ := Block.perioded_closed (b := s.block) (st := st) (ts := ts)
    obtain ⟨hlp, hsq, hpk⟩ := Block.perioded_station (b := s.block) (st := st) (ts := ts)
    rw [if_neg (by simpa using h0)]
    exact ⟨hlp, fun h => absurd h h0, fun _ => ⟨congrArg Time.strobeNum htime, hsq, hop,
      ⟨_, hpk, rfl, rfl, rfl, rfl, rfl⟩, fun n => Block.perioded_strobes hnd⟩⟩

/-! ### Strobes of one region, and of one tap (R43, R89) -/

theorem Block.regionStrobe_at {cause region : Nat} : tget 0 ((b.regionStrobe st cause region).station st).regionStrobe region =
    b.gt := by
  rw [Block.regionStrobe, Block.station_modStation]
  simp

/-- A strobe to a region without an eager packet reaches the region's taps that can take it. -/
theorem Block.regionStrobe_able {cause region : Nat} (h : eagerCause cause = false) (hn : n ∈ tapsOf st)
    (hreg : b.regionOfTap n = region) (ha : b.able n = true) :
    (b.regionStrobe st cause region).time.strobeNum = b.time.strobeNum + 1 ∧
    ((b.regionStrobe st cause region).tap n).strobes = (b.tap n).strobes ++ [(b.time.strobeNum, (b.station st).seqNo)] := by
  have hm : n ∈ ((tapsOf st).filter (fun t => b.regionOfTap t == region)).filter b.able := by
    simp [hn, hreg, ha]
  have hs := Block.strobe_of_able (b := b) (st := st) (step := 0) h (List.ne_nil_of_mem hm)
  rw [Block.regionStrobe, hs, Block.tap_modStation, Block.modStation_time, Block.strobed_time,
    Block.strobed_tap ((tapsOf_nodup.filter _).filter _), if_pos hm]
  exact ⟨rfl, rfl⟩

theorem stretchTick_strobes {st : Fin 32} {r : Fin 64} {s : State} (hr : s.block.running = true)
    (h1 : s.block.regionState r = 1) (hw : s.block.watches st r = true)
    (hd : tget 0 (s.block.station st).regionStrobe r + s.block.time.stretchPer * 160 ≤ s.block.gt) :
    ∃ t, exec (.stretchTick st r) s = .next t ∧ tget 0 (t.block.station st).regionStrobe r = s.block.gt ∧
      (n ∈ tapsOf st → s.block.regionOfTap n = r.val → s.block.able n = true →
        t.block.time.strobeNum = s.block.time.strobeNum + 1 ∧
        (t.block.tap n).strobes = (s.block.tap n).strobes ++ [(s.block.time.strobeNum, (s.block.station st).seqNo)]) := by
  have ht : exec (.stretchTick st r) s = .next { s with block := s.block.regionStrobe st 3 r } := by
    change execStretchTick st r s = _
    unfold execStretchTick
    simp [hr, h1, hw, hd]
  exact ⟨_, ht, Block.regionStrobe_at, fun hn hreg ha => Block.regionStrobe_able (by decide) hn hreg ha⟩

/-- The block once a tap's request for an anchor is answered. -/
def Block.anchorAnswered (b : Block) (tap : Nat) : Block := b.modTap tap (fun t => { t with anchorReq := false })

theorem Block.anchorAnswered_tap {tap : Nat} : (b.anchorAnswered tap).tap n =
    if n = tap then { b.tap n with anchorReq := false } else b.tap n := Block.tap_modTap_ite

theorem Block.anchorAnswered_able {tap : Nat} : (b.anchorAnswered tap).able tap = b.able tap := by
  unfold Block.able
  rw [Block.anchorAnswered_tap, if_pos rfl]
  rfl

theorem wakeReqStrobe_strobes {tap : Fin 2048} {s : State} (hr : s.block.running = true)
    (hq : (s.block.tap tap).anchorReq = true) (ha : s.block.able tap = true) :
    ∃ t, exec (.wakeReqStrobe tap) s = .next t ∧ t.block.time.strobeNum = s.block.time.strobeNum + 1 ∧
      (∀ n, t.block.tap n = if n = tap.val then { s.block.tap n with
        anchorReq := false
        strobes := (s.block.tap n).strobes ++ [(s.block.time.strobeNum, (s.block.station (stOf tap)).seqNo)] }
        else s.block.tap n) := by
  have hf : [tap.val].filter (s.block.anchorAnswered tap).able = [tap.val] := by
    simp [Block.anchorAnswered_able, ha]
  have ht : exec (.wakeReqStrobe tap) s =
      .next { s with block := (s.block.anchorAnswered tap).strobed (stOf tap) 5 [tap.val] 0 } := by
    change execWakeReqStrobe tap s = _
    unfold execWakeReqStrobe
    rw [State.run_eq, if_pos (by simp [hr, hq, ha])]
    have h := Block.strobe_of_able (b := s.block.anchorAnswered tap) (st := stOf tap) (cause := 5) (taps := [tap.val])
      (step := 0) (by decide) (by rw [hf]; simp)
    rw [hf] at h
    rw [← h]
    rfl
  refine ⟨_, ht, ?_, fun n => ?_⟩
  · dsimp only
    rw [Block.strobed_time]
    rfl
  · dsimp only
    rw [Block.strobed_tap (List.nodup_singleton _), Block.anchorAnswered_tap]
    simp only [List.mem_singleton]
    split <;> rfl

/-! ### Clock states of regions (R49, R52) -/

theorem Block.stationRegion_rested {region old new : Nat} {gt : Gt} {aon : Bool} :
    (b.stationRegion region old new gt aon st).rested = b.rested := by
  unfold Block.stationRegion
  dsimp only
  split
  · rfl
  · split
    · rw [Block.regionStrobe_rested, Block.rested_of_steady Block.stopMarkers_steady]
    · split
      · exact Block.rested_of_steady Block.stopMarkers_steady
      · exact Block.regionStrobe_rested

theorem Block.regionChange_of_same {region new : Nat} {gt : Gt} {aon : Bool} (h : b.regionState region = new) :
    b.regionChange region new gt aon = b := by
  unfold Block.regionChange
  simp [h]

/-- A region that changes takes its new state, and the others keep theirs (R49, R52). -/
theorem Block.regionChange_state {region new k : Nat} {gt : Gt} {aon : Bool} :
    (b.regionChange region new gt aon).regionState k = if k = region then new else b.regionState k := by
  by_cases h : b.regionState region = new
  · rw [Block.regionChange_of_same h]
    split
    · rename_i e; rw [e, h]
    · rfl
  · have hb : (b.regionChange region new gt aon).time.base =
        (b.modTime (fun t => { t with regions := tset 0 t.regions region new })).time.base := by
      unfold Block.regionChange
      dsimp only
      rw [if_neg h, Block.time_of_rested (Block.each_rested fun _ _ => Block.stationRegion_rested)]
      split <;> rfl
    have hr : (b.regionChange region new gt aon).time.regions = tset 0 b.time.regions region new :=
      (congrArg Time.regions hb :)
    rw [Block.regionState, hr, tget_tset_ite]
    rfl

/-- A wake source of a block below Run and not Off or on its way there wakes it (R468). -/
theorem Power.wake_waking {q : Power} (hs : q.st ≠ .run) (ho : q.st ≠ .off) (hg : q.goal ≠ .off) :
    (q.wake n).waking = true := by
  unfold Power.wake
  dsimp only
  by_cases hw : q.waking = true
  · simp [hw]
  · rw [if_neg (by simp [hs, ho, hg, hw]), if_neg (by simp [hs])]
    split
    · rfl
    · unfold Power.climb
      dsimp only
      split <;> rfl

end

section
variable {r : Fin 64} {v : BitVec 2} {s : State}

/-- A change of a region's state that is taken at once, or latched while the block does not run (R49). -/
theorem clockStateInputChange_eq (hv : v ≠ 3) : exec (.clockStateInputChange r v) s = .next { s with block :=
    (if (s.block.requestWake 2).running then (s.block.requestWake 2).regionChange r v.toNat
      ((s.block.requestWake 2).gt - (s.block.requestWake 2).cycles 3) false
    else (s.block.requestWake 2).modTime (fun t =>
      { t with regionAon := t.regionAon ++ [(r.val, v.toNat, (s.block.requestWake 2).gt)] })) } := by
  change execClockStateInputChange r v s = _
  unfold execClockStateInputChange
  simp only [State.run_eq, if_neg hv]

theorem clockStateInputChange_takes (hv : v ≠ 3) (hr : (s.block.requestWake 2).running = true) :
    ∃ t, exec (.clockStateInputChange r v) s = .next t ∧
      ∀ k, t.block.regionState k = if k = r.val then v.toNat else s.block.regionState k := by
  refine ⟨_, clockStateInputChange_eq hv, fun k => ?_⟩
  dsimp only
  rw [if_pos hr, Block.regionChange_state]
  rfl

theorem clockStateInputChange_running (hv : v ≠ 3) (hr : s.block.running = true) :
    ∃ t, exec (.clockStateInputChange r v) s = .next t ∧
      (∀ k, t.block.regionState k = if k = r.val then v.toNat else s.block.regionState k) ∧
      (s.block.regionState r = v.toNat → t.block = s.block) := by
  refine ⟨_, clockStateInputChange_eq hv, fun k => ?_, fun h => ?_⟩
  · dsimp only
    rw [Block.requestWake_of_running hr, if_pos hr, Block.regionChange_state]
  · dsimp only
    rw [Block.requestWake_of_running hr, if_pos hr, Block.regionChange_of_same h]

theorem clockStateInputChange_latches (hv : v ≠ 3) (hr : (s.block.requestWake 2).running = false) :
    ∃ t, exec (.clockStateInputChange r v) s = .next t ∧
      t.block.time = { s.block.time with regionAon := s.block.time.regionAon ++ [(r.val, v.toNat, s.block.gt)] } ∧
      (s.block.power.st ≠ .run → s.block.power.st ≠ .off → s.block.power.goal ≠ .off → t.block.power.waking = true) ∧
      t.block.seen [.time, .power] = s.block.seen [.time, .power] := by
  refine ⟨_, clockStateInputChange_eq hv, ?_, fun hs ho hg => ?_, ?_⟩
  · rw [hr, if_neg Bool.false_ne_true, Block.requestWake_gt]
    rfl
  · rw [hr, if_neg Bool.false_ne_true]
    exact Power.wake_waking hs ho hg
  · rw [hr, if_neg Bool.false_ne_true, Block.modTime_seen (by decide), Block.requestWake_seen (by decide)]

end

/-- Settles O37: a strobe reaches the taps able to take it; a region's change is taken in Run and latched below it. -/
theorem stationsStrobe : Obligations.StationsStrobe := by
  refine ⟨fun s hr => ⟨fun st ts => periodStrobe_strobes hr, fun st r n => stretchTick_strobes hr,
    fun tap => wakeReqStrobe_strobes hr, fun r v hv => clockStateInputChange_running hv hr⟩,
    fun s r v => ⟨?_, clockStateInputChange_takes, clockStateInputChange_latches⟩⟩
  rintro rfl
  exact ⟨_, rfl, rfl⟩

end Sys2Proof.Machine


/-! ## The time base: samples, holdover, the second pulse, and path delays (R31 to R37, R46, R58) -/

namespace Sys2Proof.Machine

section
variable {b : Block} {n m rt c e : Nat} {g : Gt}

/-! ### Time bus samples -/

theorem Block.passCycles_time : (b.passCycles c).time = { b.time with tb := b.time.tb + c * b.time.rate } := by
  have hr : (b.modTime (fun t => { t with tb := t.tb + c * t.rate })).reachT.time =
      (b.modTime (fun t => { t with tb := t.tb + c * t.rate })).time :=
    Block.time_of_seen (Block.reachT_seen (M := [.freezes]) (by decide)) (by decide)
  unfold Block.passCycles
  dsimp only
  split
  · exact hr
  · exact hr

/-- Cycles that pass move nothing of the power state but the `gt` at which the block was busy. -/
theorem Block.passCycles_power : ∃ g, (b.passCycles c).power = { b.power with busyGt := g } := by
  have hr : (b.modTime (fun t => { t with tb := t.tb + c * t.rate })).reachT.power = b.power :=
    (Block.power_of_seen (Block.reachT_seen (M := [.freezes]) (by decide)) (by decide)).trans rfl
  unfold Block.passCycles
  dsimp only
  split
  · exact ⟨_, by rw [Block.modPower, hr]⟩
  · exact ⟨_, hr⟩

/-- The block when the log entries of the cycle are built and the cycles up to a sample have passed. -/
def Block.upToSample (b : Block) (c : Nat) : Block := b.buildLog.passCycles c

theorem Block.buildLog_time : b.buildLog.time = b.time :=
  Block.time_of_seen (Block.buildLog_seen (M := [.tenants, .meas, .recs]) (by decide)) (by decide)

theorem Block.buildLog_power : b.buildLog.power = b.power :=
  Block.power_of_seen (Block.buildLog_seen (M := [.tenants, .meas, .recs]) (by decide)) (by decide)

theorem Block.upToSample_time : (b.upToSample c).time = { b.time with tb := b.time.tb + c * b.time.rate } := by
  rw [Block.upToSample, Block.passCycles_time, Block.buildLog_time]

theorem Block.upToSample_power : ∃ g, (b.upToSample c).power = { b.power with busyGt := g } := by
  obtain ⟨g, h⟩ := Block.passCycles_power (b := b.buildLog) (c := c)
  exact ⟨g, by rw [Block.upToSample, h, Block.buildLog_power]⟩

theorem Block.upToSample_meas : (b.upToSample c).meas = b.buildLog.meas :=
  Block.meas_of_seen (Block.passCycles_seen (M := [.freezes, .power, .time]) (by decide)) (by decide)

theorem Block.upToSample_freeCtr : (b.upToSample c).freeCtr = b.freeCtr :=
  (Block.freeCtr_of_seen (Block.passCycles_seen (M := [.freezes, .power, .time]) (by decide)) (by decide)).trans
    (Block.freeCtr_of_seen (Block.buildLog_seen (M := [.tenants, .meas, .recs]) (by decide)) (by decide))

theorem Block.upToSample_nominalRate : (b.upToSample c).nominalRate = b.nominalRate := by
  obtain ⟨g, h⟩ := Block.upToSample_power (b := b) (c := c)
  unfold Block.nominalRate
  rw [h]

theorem Block.upToSample_gt (h : b.timeRuns = true) : (b.upToSample c).gt = (b.time.tb + c * b.time.rate) / 2 ^ 24 := by
  obtain ⟨g, hp⟩ := Block.upToSample_power (b := b) (c := c)
  have hst : b.power.st = .run ∨ b.power.st = .doze := by
    simp only [Block.timeRuns, Bool.and_eq_true, Bool.or_eq_true, beq_iff_eq] at h
    exact h.1
  unfold Block.gt
  rw [hp, Block.upToSample_time]
  rcases hst with h | h <;> simp only [h]

/-- The time base once a sample `g` with an error of `e` is taken: loaded, stepped or trimmed (R34 to R36). -/
def Block.sampleTaken (b : Block) (g : Gt) (e : Nat) : Block :=
  if b.time.loadNext then
    (b.modTime (fun t => { t with tb := g * 2 ^ 24, loadNext := false, good := 0 })).modMash (fun m => { m with tokenGt := g })
  else if e > 16384 then (b.modTime (fun t => t.judge e)).stepTo (g * 2 ^ 24)
  else (b.modTime (fun t => t.judge e)).trim

/-- The block after a sample in Run or Doze. -/
def Block.sampled (b : Block) (g : Gt) (e : Nat) : Block :=
  ((b.sampleTaken g e).modTime (fun t => { t with holdover := false, lastSample := g })).reachT.realign

theorem Block.sampled_base : (b.sampled g e).time.base =
    { (b.sampleTaken g e).time with holdover := false, lastSample := g }.base := by
  rw [Block.sampled, Block.time_of_rested Block.realign_rested,
    Block.time_of_seen (Block.reachT_seen (M := [.freezes]) (by decide)) (by decide)]
  rfl

theorem Block.sampled_epoch : (b.sampleTaken g e).time.epoch ≤ (b.sampled g e).time.epoch := by
  refine Nat.le_trans (Nat.le_of_eq ?_) Block.realign_epoch
  rw [Block.time_of_seen (Block.reachT_seen (M := [.freezes]) (by decide)) (by decide)]
  rfl

/-- The parts of the block that a sample moves. -/
abbrev sampleAreas : List Area := [.taps, .views, .stations, .quads, .cask, .mash, .sync, .tenants, .power, .time, .freezes]

theorem Block.sampleTaken_seen : (b.sampleTaken g e).seen (.free :: sampleAreas) = b.seen (.free :: sampleAreas) := by
  unfold Block.sampleTaken
  split
  · rw [Block.modMash_seen (f := fun m => { m with tokenGt := g }) (by decide) (fun _ => rfl), Block.modTime_seen (by decide)]
  · split
    · rw [Block.stepTo_seen (by decide), Block.modTime_seen (by decide)]
    · rw [Block.trim_seen (by decide), Block.modTime_seen (by decide)]

theorem Block.sampled_seen : (b.sampled g e).seen (.free :: sampleAreas) = b.seen (.free :: sampleAreas) := by
  rw [Block.sampled, Block.realign_seen (by decide), Block.reachT_seen (by decide), Block.modTime_seen (by decide),
    Block.sampleTaken_seen]

theorem Block.sampled_freeCtr : (b.sampled g e).freeCtr = (b.sampleTaken g e).freeCtr :=
  Block.freeCtr_of_seen (M := sampleAreas) (by
    rw [Block.sampled, Block.realign_seen (by decide), Block.reachT_seen (by decide), Block.modTime_seen (by decide)])
    (by decide)

theorem timeBusSample_eq {s : State} {v : BitVec 64} {ph : BitVec 8} (h : s.block.timeRuns = true)
    (hg : g = v.toNat * 256 + s.block.time.latency + ph.toNat) :
    exec (.timeBusSample c v ph) s =
      .next { s with block := (s.block.upToSample c).sampled g ((g : Int) - ((s.block.upToSample c).gt : Int)).natAbs } := by
  have hst := h
  simp only [Block.timeRuns, Bool.and_eq_true, Bool.or_eq_true, beq_iff_eq, bne_iff_ne] at hst
  obtain ⟨hs, hp⟩ := hst
  have h1 : s.block.buildLog.timeRuns = true := by
    unfold Block.timeRuns
    rw [Block.buildLog_power]
    exact h
  have h2 : s.block.buildLog.wakingClock = false := by
    unfold Block.wakingClock
    rw [Block.buildLog_power]
    rcases hs with h | h <;> simp [h]
  have h3 : s.block.buildLog.sampleGt v ph = g := by
    rw [hg, Block.sampleGt, Block.buildLog_time]
  change execTimeBusSample c v ph s = _
  unfold execTimeBusSample
  rw [State.run_eq]
  dsimp only
  rw [if_neg (by rw [Block.buildLog_power]; simp [hp]), if_neg (by rw [h2]; exact Bool.false_ne_true), h3,
    if_neg (by rw [h1]; decide)]
  rfl

theorem Block.sampleTaken_load (h : b.time.loadNext = true) : (b.sampleTaken g e).time =
    { b.time with tb := g * 2 ^ 24, loadNext := false, good := 0 } := by
  unfold Block.sampleTaken
  rw [if_pos h]
  rfl

theorem Block.sampleTaken_step (h : b.time.loadNext = false) (he : 16384 < e) :
    (b.sampleTaken g e).time.base = { b.time.judge e with tb := g * 2 ^ 24 }.base ∧
    (b.sampleTaken g e).time.epoch = b.time.epoch + 1 := by
  have hj : (b.modTime (fun t => t.judge e)).time.epoch = b.time.epoch := by
    change (b.time.judge e).epoch = _
    unfold Time.judge
    split
    · rfl
    · split <;> rfl
  unfold Block.sampleTaken
  rw [if_neg (by simp [h]), if_pos he, Block.stepTo_base, Block.stepTo_epoch, hj]
  exact ⟨rfl, rfl⟩

theorem Block.sampleTaken_trim (h : b.time.loadNext = false) (he : e ≤ 16384) : (b.sampleTaken g e).freeCtr = b.freeCtr + 1 ∧
    (b.sampleTaken g e).time = { b.time.judge e with
      rate := b.nominalRate - b.nominalRate / 5000 +
        (Config.free b.freeCtr).toNat % (2 * (b.nominalRate / 5000) + 1) } := by
  unfold Block.sampleTaken
  rw [if_neg (by simp [h]), if_neg (by omega)]
  exact ⟨rfl, rfl⟩

/-- A sample off by more than 2 ns unlocks, 16 in a row within 0.25 ns lock (R33). -/
theorem Time.judge_far {t : Time} (h : 512 < e) : t.judge e = { t with locked := false, good := 0 } := if_pos h

theorem Time.judge_near {t : Time} (h : e < 64) : t.judge e =
    { t with good := min 16 (t.good + 1), locked := t.locked || decide (t.good + 1 ≥ 16) } := by
  unfold Time.judge
  rw [if_neg (by omega), if_pos h]

theorem Time.judge_between {t : Time} (h : 64 ≤ e) (h' : e ≤ 512) : t.judge e = { t with good := 0 } := by
  unfold Time.judge
  rw [if_neg (by omega), if_neg (by omega)]

/-- A trim keeps the rate word within 200 ppm of nominal (R32). -/
theorem trim_range (m r : Nat) : m - m / 5000 ≤ m - m / 5000 + r % (2 * (m / 5000) + 1) ∧
    m - m / 5000 + r % (2 * (m / 5000) + 1) ≤ m + m / 5000 := by
  have := Nat.mod_lt r (show 2 * (m / 5000) + 1 > 0 by omega)
  omega

theorem Time.judge_tb {t : Time} : (t.judge e).tb = t.tb := by
  unfold Time.judge
  split
  · rfl
  · split <;> rfl

end

end Sys2Proof.Machine


namespace Sys2Proof.Machine

section
variable {s : State} {b : Block} {n m rt c e : Nat} {g : Gt} {v : BitVec 64} {ph : BitVec 8}

theorem Block.sampled_time : (b.sampled g e).time.tb = (b.sampleTaken g e).time.tb ∧
    (b.sampled g e).time.lastSample = g ∧ (b.sampled g e).time.holdover = false ∧
    (b.sampled g e).time.good = (b.sampleTaken g e).time.good ∧
    (b.sampled g e).time.locked = (b.sampleTaken g e).time.locked ∧
    (b.sampled g e).time.rate = (b.sampleTaken g e).time.rate := by
  have h := Block.sampled_base (b := b) (g := g) (e := e)
  exact ⟨(congrArg Time.tb h :), (congrArg Time.lastSample h :), (congrArg Time.holdover h :), (congrArg Time.good h :),
    (congrArg Time.locked h :), (congrArg Time.rate h :)⟩

theorem timeBusSample_takes (h : s.block.timeRuns = true) (hg : g = v.toNat * 256 + s.block.time.latency + ph.toNat)
    (he : e = ((g : Int) - (((s.block.time.tb + c * s.block.time.rate) / 2 ^ 24 : Nat) : Int)).natAbs) :
    ∃ t, exec (.timeBusSample c v ph) s = .next t ∧ t.block.time.lastSample = g ∧ t.block.time.holdover = false ∧
      t.block.meas.closing = [] ∧ t.block.meas.built = s.block.meas.built + s.block.meas.closing.length ∧
      (s.block.time.loadNext = true → t.block.time.tb = g * 2 ^ 24 ∧ t.block.time.good = 0) ∧
      (s.block.time.loadNext = false → 16384 < e → t.block.time.tb = g * 2 ^ 24 ∧ t.block.time.locked = false ∧
        s.block.time.epoch < t.block.time.epoch) ∧
      (s.block.time.loadNext = false → e ≤ 16384 → t.block.time.tb = s.block.time.tb + c * s.block.time.rate ∧
        (512 < e → t.block.time.locked = false) ∧
        (e < 64 → t.block.time.good = min 16 (s.block.time.good + 1) ∧ (15 ≤ s.block.time.good → t.block.time.locked = true)) ∧
        (64 ≤ e → t.block.time.good = 0 ∧ (e ≤ 512 → t.block.time.locked = s.block.time.locked)) ∧
        t.block.freeCtr = s.block.freeCtr + 1 ∧
        s.block.nominalRate - s.block.nominalRate / 5000 ≤ t.block.time.rate ∧
        t.block.time.rate ≤ s.block.nominalRate + s.block.nominalRate / 5000) := by
  have hE := timeBusSample_eq (c := c) h hg
  rw [Block.upToSample_gt h, ← he] at hE
  obtain ⟨htb, hls, hho, hgo, hlk, hra⟩ := Block.sampled_time (b := s.block.upToSample c) (g := g) (e := e)
  have hm : ((s.block.upToSample c).sampled g e).meas = s.block.buildLog.meas :=
    (Block.meas_of_seen Block.sampled_seen (by decide)).trans Block.upToSample_meas
  obtain ⟨hcl, hbu⟩ := Block.buildLog_meas (b := s.block)
  have hload : (s.block.upToSample c).time.loadNext = s.block.time.loadNext := by rw [Block.upToSample_time]
  refine ⟨_, hE, ?_⟩
  dsimp only
  refine ⟨hls, hho, (congrArg Meas.closing hm).trans hcl, (congrArg Meas.built hm).trans hbu, fun hl => ?_,
    fun hl h1 => ?_, fun hl h1 => ?_⟩
  · have ht := Block.sampleTaken_load (g := g) (e := e) (hload.trans hl)
    rw [htb, hgo, ht]
    exact ⟨rfl, rfl⟩
  · obtain ⟨ht, hep⟩ := Block.sampleTaken_step (g := g) (hload.trans hl) h1
    rw [Time.judge_far (by omega)] at ht
    have htb' := congrArg Time.tb ht
    have hlk' := congrArg Time.locked ht
    dsimp only [Time.base] at htb' hlk'
    refine ⟨htb.trans htb', hlk.trans hlk', ?_⟩
    have hle := Block.sampled_epoch (b := s.block.upToSample c) (g := g) (e := e)
    rw [hep, Block.upToSample_time] at hle
    exact hle
  · obtain ⟨hf, ht⟩ := Block.sampleTaken_trim (g := g) (hload.trans hl) h1
    have htk : (s.block.upToSample c).time.judge e = ({ s.block.time with
        tb := s.block.time.tb + c * s.block.time.rate } : Time).judge e := by rw [Block.upToSample_time]
    have hlk' := hlk.trans (congrArg Time.locked ht)
    have hgo' := hgo.trans (congrArg Time.good ht)
    dsimp only at hlk' hgo'
    rw [htk] at hlk' hgo'
    refine ⟨?_, fun h2 => ?_, fun h2 => ?_, fun h2 => ⟨?_, fun h3 => ?_⟩, ?_, ?_⟩
    · rw [htb, ht]
      dsimp only
      rw [Time.judge_tb, Block.upToSample_time]
    · rw [hlk', Time.judge_far h2]
    · rw [hlk', hgo', Time.judge_near h2]
      exact ⟨rfl, fun h3 => by simp [h3]⟩
    · rw [hgo']
      by_cases h3 : e ≤ 512
      · rw [Time.judge_between h2 h3]
      · rw [Time.judge_far (by omega)]
    · rw [hlk', Time.judge_between h2 h3]
    · rw [Block.sampled_freeCtr, hf, Block.upToSample_freeCtr]
    · rw [hra, ht]
      dsimp only
      rw [Block.upToSample_nominalRate]
      exact trim_range _ _

/-- On the way out of Nap or Kiln a sample more than 64 ns off steps the time base and unlocks it (R34, R35). -/
theorem timeBusSample_wakes (hw : s.block.wakingClock = true) (hp : s.block.power.phase ≠ 0)
    (hl : s.block.time.loadNext = false) (hg : g = v.toNat * 256 + s.block.time.latency + ph.toNat)
    (he : e = ((g : Int) - (((s.block.time.tb + c * s.block.time.rate) / 2 ^ 24 : Nat) : Int)).natAbs) (h1 : 16384 < e) :
    ∃ t, exec (.timeBusSample c v ph) s = .next t ∧ t.block.time.tb = g * 2 ^ 24 ∧ t.block.time.lastSample = g ∧
      t.block.time.locked = false ∧ s.block.time.epoch < t.block.time.epoch := by
  have hE : exec (.timeBusSample c v ph) s = .next { s with block :=
      (((s.block.upToSample c).modTime (fun t => { t.judge e with lastSample := g })).stepTo (g * 2 ^ 24)).reachT } := by
    have h1' : s.block.buildLog.wakingClock = true := by
      unfold Block.wakingClock
      rw [Block.buildLog_power]
      exact hw
    have h3 : s.block.buildLog.sampleGt v ph = g := by
      rw [hg, Block.sampleGt, Block.buildLog_time]
    have h4 : (s.block.buildLog.passCycles c).time.tb = s.block.time.tb + c * s.block.time.rate := by
      rw [Block.passCycles_time, Block.buildLog_time]
    change execTimeBusSample c v ph s = _
    unfold execTimeBusSample
    rw [State.run_eq]
    dsimp only
    rw [if_neg (by rw [Block.buildLog_power]; simp [hp]), if_pos h1', h3, if_neg (by rw [Block.buildLog_time, hl]; decide),
      h4, ← he, if_pos h1]
    rfl
  have ht : ∀ c : Block, c.reachT.time = c.time := fun c =>
    Block.time_of_seen (Block.reachT_seen (M := [.freezes]) (by decide)) (by decide)
  have hb := Block.stepTo_base (b := (s.block.upToSample c).modTime (fun t => { t.judge e with lastSample := g }))
    (tb := g * 2 ^ 24)
  have hj : ((s.block.upToSample c).modTime (fun t => { t.judge e with lastSample := g })).time =
      { s.block.time with
        tb := s.block.time.tb + c * s.block.time.rate, locked := false, good := 0, lastSample := g } := by
    rw [Block.modTime, Block.upToSample_time]
    dsimp only
    rw [Time.judge_far (by omega)]
  rw [hj] at hb
  have htb := congrArg Time.tb hb
  have hls := congrArg Time.lastSample hb
  have hlk := congrArg Time.locked hb
  dsimp only [Time.base] at htb hls hlk
  refine ⟨_, hE, ?_⟩
  dsimp only
  rw [ht, Block.stepTo_epoch, hj, htb, hls, hlk]
  exact ⟨rfl, rfl, rfl, Nat.lt_succ_self _⟩

/-! ### Holdover, the second pulse, and the loss of alignment -/

/-- A cause sets its status bit in a function that has the vector and is not being reset (R372). -/
theorem Block.raise_bit {k : Nat} (hr : (b.tenant n).resetting = false) (hv : hasVec n k = true) (hk : k < 32) :
    bit ((b.raise n k).tenant n).intStatus k = true := by
  unfold Block.raise
  rw [Block.tenant_modTenant, hr, hv, if_neg (by decide)]
  split
  · assumption
  · exact bit_setFld_one hk

/-- The block when the time bus has gone. -/
def Block.heldOver (b : Block) : Block :=
  (b.modTime (fun t => { t with holdover := true, busLost := satAdd 32 t.busLost 1 })).raise 64 8

theorem holdoverEntry_holds (ht : s.block.timeRuns = true) (hh : s.block.time.holdover = false)
    (hl : s.block.time.lastSample + us 1 ≤ s.block.gt) (hr : (s.block.tenant 64).resetting = false) :
    ∃ t, exec .holdoverEntry s = .next t ∧ t.block.time.holdover = true ∧
      t.block.time.busLost = satAdd 32 s.block.time.busLost 1 ∧
      (t.block.time.aligned = s.block.time.aligned → bit (t.block.tenant 64).intStatus 8 = true) := by
  have hE : exec .holdoverEntry s = .next { s with block := s.block.heldOver.realign } := by
    change execHoldoverEntry s = _
    unfold execHoldoverEntry
    rw [State.run_eq, if_neg (by simp [ht, hh, hl])]
    rfl
  have hb : s.block.heldOver.realign.time.base = s.block.heldOver.time.base := Block.time_of_rested Block.realign_rested
  refine ⟨_, hE, (congrArg Time.holdover hb :), (congrArg Time.busLost hb :), fun ha => ?_⟩
  rw [Block.realign_aligned] at ha
  rw [Block.realign_of_same (b := s.block.heldOver) ha]
  exact Block.raise_bit hr (by decide) (by decide)

theorem ppsEdge_counts {r : Nat} (ht : s.block.timeRuns = true) (hr : (s.block.tenant 64).resetting = false)
    (he : r = (s.block.gt - s.block.cycles c) % 256000000000) (h1 : 2048 < r) (h2 : r < 255999997952) :
    ∃ t, exec (.ppsEdge c) s = .next t ∧
      t.block.time = { s.block.time with ppsMismatch := satAdd 32 s.block.time.ppsMismatch 1 } ∧
      bit (t.block.tenant 64).intStatus 8 = true := by
  have hE : exec (.ppsEdge c) s = .next { s with block :=
      (s.block.modTime (fun t => { t with ppsMismatch := satAdd 32 t.ppsMismatch 1 })).raise 64 8 } := by
    change execPpsEdge c s = _
    unfold execPpsEdge
    rw [State.run_eq]
    dsimp only
    rw [← he, if_neg]
    simp only [ht, Bool.not_true, Bool.false_or, Bool.or_eq_true, decide_eq_true_eq]
    rintro (h | h)
    · exact Nat.not_le.2 h1 h
    · exact Nat.not_le.2 h2 h
  exact ⟨_, hE, rfl, Block.raise_bit hr (by decide) (by decide)⟩

theorem alignmentLost_advances (hr : s.block.running = true) (ha : s.block.time.aligned = true)
    (hn : s.block.alignedNow = false) (ht : (s.block.tenant 64).resetting = false) :
    ∃ t, exec .alignmentLost s = .next t ∧ t.block.time.aligned = false ∧ t.block.time.epoch = s.block.time.epoch + 1 ∧
      bit (t.block.tenant 64).intStatus 18 = true := by
  have hE : exec .alignmentLost s = .next { s with block := s.block.realign } := by
    change execAlignmentLost s = _
    unfold execAlignmentLost
    rw [State.run_eq, if_pos (by simp [hr, ha])]
  refine ⟨_, hE, Block.realign_aligned.trans hn, ?_⟩
  dsimp only
  rw [Block.realign_of_changed (by rw [ha, hn]; decide), Block.time_of_steady Block.raise_steady, Block.advanceEpoch_epoch]
  refine ⟨rfl, Block.raise_bit ?_ (by decide) (by decide)⟩
  rw [Block.resetting_of_rested Block.advanceEpoch_rested]
  exact ht

/-! ### Path delays (R46) -/

/-- The delay of a tap after a measurement: what it gives where that is more than 0.125 ns off, or the one in use. -/
def Block.pathDelay (b : Block) (n rt : Nat) : Int :=
  if 32 < (((rt / 32 : Nat) : Int) + (b.view n).aTap - (b.view n).dTap).natAbs then ((rt / 32 : Nat) : Int) + (b.view n).aTap
  else (b.view n).dTap

/-- The block with a tap's measured delay in place. -/
def Block.delayed (b : Block) (n : Nat) (d : Int) : Block := b.modView n (fun v => { v with dTap := d, measured := true })

theorem Block.modView_congr {f g : TapView → TapView} (h : f (b.view n) = g (b.view n)) : b.modView n f = b.modView n g := by
  unfold Block.modView tmod
  rw [show f (tget {} b.views n) = g (tget {} b.views n) from h]

theorem Block.measureTap_rested : (b.measureTap n rt).rested = (b.delayed n (b.pathDelay n rt)).rested := by
  unfold Block.measureTap Block.pathDelay
  dsimp only
  split
  · rw [Block.strobe_rested, Block.advanceEpoch_rested, Block.modStation_rested]
    rfl
  · exact congrArg Block.rested (Block.modView_congr rfl)

theorem Block.delayed_view {d : Int} : (b.delayed n d).view m =
    if m = n then { b.view m with dTap := d, measured := true } else b.view m := Block.view_modView_ite

theorem TapView.delay_of_steady {v w : TapView} (h : v.steady = w.steady) :
    v.dTap = w.dTap ∧ v.aTap = w.aTap ∧ v.measured = w.measured :=
  ⟨(congrArg TapView.dTap h :), (congrArg TapView.aTap h :), (congrArg TapView.measured h :)⟩

/-- A measurement sets the delay of its tap, marks it measured, and leaves the other taps' delays (R46). -/
theorem Block.measureTap_view : ((b.measureTap n rt).view m).dTap =
      (if m = n then b.pathDelay n rt else (b.view m).dTap) ∧
    ((b.measureTap n rt).view m).aTap = (b.view m).aTap ∧
    ((b.measureTap n rt).view m).measured = (if m = n then true else (b.view m).measured) := by
  obtain ⟨hd, ha, hm⟩ := TapView.delay_of_steady (Block.view_of_rested (Block.measureTap_rested (b := b) (n := n) (rt := rt)) m)
  rw [hd, ha, hm, Block.delayed_view]
  split <;> exact ⟨rfl, rfl, rfl⟩

theorem Block.measureTap_en : ((b.measureTap n rt).tap m).en = (b.tap m).en :=
  (Block.en_of_rested (c := b.delayed n (b.pathDelay n rt)) Block.measureTap_rested m).trans rfl

theorem Block.measureTap_base : (b.measureTap n rt).time.base = b.time.base :=
  (Block.time_of_rested (c := b.delayed n (b.pathDelay n rt)) Block.measureTap_rested).trans rfl

theorem Block.measureTap_realign : (∀ m, ((b.measureTap n rt).realign.view m).dTap =
      if m = n then b.pathDelay n rt else (b.view m).dTap) ∧
    ((b.measureTap n rt).realign.view n).measured = true := by
  refine ⟨fun m => ?_, ?_⟩
  · rw [(TapView.delay_of_steady (Block.view_of_rested Block.realign_rested m)).1, Block.measureTap_view.1]
  · rw [(TapView.delay_of_steady (Block.view_of_rested Block.realign_rested n)).2.2, Block.measureTap_view.2.2, if_pos rfl]

/-- The enabled taps of a list measured one after another. -/
def Block.measureTaps (b : Block) (trips : List (Fin 2048 × Nat)) : Block :=
  b.each trips (fun b e => if (b.tap e.1).en then b.measureTap e.1 e.2 else b)

theorem Block.measureTaps_cons {e : Fin 2048 × Nat} {l : List (Fin 2048 × Nat)} : b.measureTaps (e :: l) =
    (if (b.tap e.1).en then b.measureTap e.1 e.2 else b).measureTaps l := rfl

theorem Block.measureTaps_base {l : List (Fin 2048 × Nat)} : (b.measureTaps l).time.base = b.time.base := by
  refine Block.each_keeps (p := fun b => b.time.base) fun b e => ?_
  split
  · exact Block.measureTap_base
  · rfl

/-- A tap that the list does not name keeps its delay. -/
theorem Block.measureTaps_view_of_notMem {l : List (Fin 2048 × Nat)} (h : ∀ e ∈ l, e.1.val ≠ n) :
    ((b.measureTaps l).view n).dTap = (b.view n).dTap ∧ ((b.measureTaps l).view n).measured = (b.view n).measured := by
  induction l generalizing b with
  | nil => exact ⟨rfl, rfl⟩
  | cons e l ih =>
    rw [Block.measureTaps_cons, (ih fun x hx => h x (.tail _ hx)).1, (ih fun x hx => h x (.tail _ hx)).2]
    have hne : n ≠ e.1.val := (h e (.head _)).symm
    split
    · rw [Block.measureTap_view.1, Block.measureTap_view.2.2, if_neg hne, if_neg hne]
      exact ⟨rfl, rfl⟩
    · exact ⟨rfl, rfl⟩

/-- An enabled tap that the list names once takes its delay. -/
theorem Block.measureTaps_view_of_mem {l : List (Fin 2048 × Nat)} {e : Fin 2048 × Nat}
    (hl : (l.map (fun e => e.1.val)).Nodup) (h : e ∈ l) (hen : (b.tap e.1).en = true) :
    ((b.measureTaps l).view e.1).dTap = b.pathDelay e.1 e.2 ∧ ((b.measureTaps l).view e.1).measured = true := by
  induction l generalizing b with
  | nil => exact absurd h List.not_mem_nil
  | cons x l ih =>
    obtain ⟨hx, hnd⟩ := List.nodup_cons.1 hl
    rw [Block.measureTaps_cons]
    rcases List.mem_cons.1 h with rfl | hm
    · have hn : ∀ y ∈ l, y.1.val ≠ e.1.val := fun y hy he => hx (List.mem_map.2 ⟨y, hy, he⟩)
      rw [if_pos hen, (Block.measureTaps_view_of_notMem hn).1, (Block.measureTaps_view_of_notMem hn).2,
        Block.measureTap_view.1, Block.measureTap_view.2.2, if_pos rfl, if_pos rfl]
      exact ⟨rfl, rfl⟩
    · have hne : e.1.val ≠ x.1.val := fun he => hx (List.mem_map.2 ⟨e, hm, he⟩)
      split
      · obtain ⟨hd, ha, -⟩ := Block.measureTap_view (b := b) (n := x.1) (rt := x.2) (m := e.1)
        rw [if_neg hne] at hd
        have hp : (b.measureTap x.1 x.2).pathDelay e.1 e.2 = b.pathDelay e.1 e.2 := by
          unfold Block.pathDelay
          rw [hd, ha]
        rw [← hp]
        exact ih hnd hm (Block.measureTap_en.trans hen)
      · exact ih hnd hm hen

/-- An ascending list has no element twice. -/
theorem nodup_of_rising {l : List Nat} (h : rising l = true) : l.Nodup := by
  have hc : l.IsChain (· < ·) := by
    induction l with
    | nil => exact .nil
    | cons a l ih =>
      cases l with
      | nil => exact .singleton a
      | cons b l =>
        simp only [rising, Bool.and_eq_true, decide_eq_true_eq] at h
        exact .cons_cons h.1 (ih h.2)
  exact (List.isChain_iff_pairwise.1 hc).imp Nat.ne_of_lt

/-- The period of the measurements restarted (R46). -/
def Block.tcalRestarted (b : Block) : Block := b.modTime (fun t => { t with tcalDue := t.tcalDue + ms t.tcalMs })

/-- The block after TCAL_PERIODIC, when the measurement is due. -/
def Block.tcalPeriod (b : Block) (trips : List (Fin 2048 × Nat)) : Block :=
  if b.running then (b.measureTaps trips).tcalRestarted.realign else b

theorem Time.tcal_of_base {t u : Time} (h : t.base = u.base) : t.tcalDue = u.tcalDue ∧ t.tcalMs = u.tcalMs :=
  ⟨(congrArg Time.tcalDue h :), (congrArg Time.tcalMs h :)⟩

theorem Block.tcalRestarted_time :
    b.tcalRestarted.time = { b.time with tcalDue := b.time.tcalDue + ms b.time.tcalMs } := rfl

theorem Block.tcalRestarted_realign_view : (b.tcalRestarted.realign.view n).steady = (b.view n).steady := by
  rw [Block.view_of_rested (Block.realign_rested (b := b.tcalRestarted)) n, Block.tcalRestarted, Block.view_modTime]

theorem Block.tcalRestarted_realign_due :
    b.tcalRestarted.realign.time.tcalDue = b.time.tcalDue + ms b.time.tcalMs := by
  rw [(Time.tcal_of_base (Block.time_of_rested (Block.realign_rested (b := b.tcalRestarted)))).1, Block.tcalRestarted_time]

theorem Block.measureTaps_tcal {l : List (Fin 2048 × Nat)} : (b.measureTaps l).time.tcalDue = b.time.tcalDue ∧
    (b.measureTaps l).time.tcalMs = b.time.tcalMs := Time.tcal_of_base Block.measureTaps_base

theorem Block.tcalPeriod_of_running {trips : List (Fin 2048 × Nat)} (h : b.running = true) :
    (b.tcalPeriod trips).time.tcalDue = b.time.tcalDue + ms b.time.tcalMs ∧
    ∀ n, ((b.tcalPeriod trips).view n).steady = ((b.measureTaps trips).view n).steady := by
  obtain ⟨hd, hm⟩ := Block.measureTaps_tcal (b := b) (l := trips)
  rw [Block.tcalPeriod, if_pos h, ← hd, ← hm]
  exact ⟨Block.tcalRestarted_realign_due, fun _ => Block.tcalRestarted_realign_view⟩

theorem tcalPeriodic_eq {trips : List (Fin 2048 × Nat)} (hp : 5 ≤ s.block.power.phase)
    (hd : s.block.time.tcalDue ≤ s.block.gt) :
    exec (.tcalPeriodic trips) s = .next { s with block := (s.block.requestWake 4).tcalPeriod trips } := by
  change execTcalPeriodic trips s = _
  unfold execTcalPeriodic Block.tcalPeriod
  rw [State.run_eq, if_neg (by simp only [Bool.or_eq_true, decide_eq_true_eq, not_or]; exact ⟨Nat.not_lt.2 hp, Nat.not_lt.2 hd⟩)]
  dsimp only
  by_cases hr : (s.block.requestWake 4).running = true
  · rw [if_pos hr, if_neg (by simp [hr])]
    rfl
  · rw [if_neg hr, if_pos (by simpa using hr)]

theorem tcalPeriodic_measures {trips : List (Fin 2048 × Nat)} (hw : tripsWf trips = true) (hp : 5 ≤ s.block.power.phase)
    (hd : s.block.time.tcalDue ≤ s.block.gt) :
    ∃ t, exec (.tcalPeriodic trips) s = .next t ∧
      (s.block.power.st ≠ .run → s.block.power.st ≠ .off → s.block.power.goal ≠ .off → t.block.power.waking = true) ∧
      ((s.block.requestWake 4).running = true → t.block.time.tcalDue = s.block.time.tcalDue + ms s.block.time.tcalMs ∧
        (∀ tap rt, (tap, rt) ∈ trips → (s.block.tap tap).en = true →
          (t.block.view tap).dTap = s.block.pathDelay tap rt ∧ (t.block.view tap).measured = true) ∧
        (∀ n, (∀ tap rt, (tap, rt) ∈ trips → tap.val ≠ n) → (t.block.view n).dTap = (s.block.view n).dTap)) := by
  have hnd : (trips.map (fun e => e.1.val)).Nodup := by
    simp only [tripsWf, Bool.and_eq_true] at hw
    exact nodup_of_rising hw.1
  refine ⟨_, tcalPeriodic_eq hp hd, fun h1 h2 h3 => ?_, fun hr => ?_⟩
  · have hr : (s.block.requestWake 4).running = false := by
      have hst : (s.block.requestWake 4).power.st = s.block.power.st := Power.wake_st
      simp [Block.running, hst, h1]
    rw [Block.tcalPeriod, hr, if_neg Bool.false_ne_true]
    exact Power.wake_waking h1 h2 h3
  · obtain ⟨hdue, hv⟩ := Block.tcalPeriod_of_running (trips := trips) hr
    refine ⟨hdue, fun tap rt hm hen => ?_, fun n hn => ?_⟩
    · obtain ⟨e1, -, e2⟩ := TapView.delay_of_steady (hv tap)
      obtain ⟨e3, e4⟩ := Block.measureTaps_view_of_mem (b := s.block.requestWake 4) hnd hm hen
      exact ⟨e1.trans e3, e2.trans e4⟩
    · obtain ⟨e1, -⟩ := TapView.delay_of_steady (hv n)
      exact e1.trans (Block.measureTaps_view_of_notMem fun e he => hn e.1 e.2 he).1

theorem tcalIdle_measures {tap : Fin 2048} {idle : Nat} (hr : s.block.running = true) (hen : (s.block.tap tap).en = true)
    (hi : 4096 ≤ idle) : ∃ t, exec (.tcalIdle tap idle rt) s = .next t ∧ (t.block.view tap).measured = true ∧
      (∀ n, (t.block.view n).dTap = if n = tap.val then s.block.pathDelay tap rt else (s.block.view n).dTap) := by
  have hE : exec (.tcalIdle tap idle rt) s = .next { s with block := (s.block.measureTap tap rt).realign } := by
    change execTcalIdle tap idle rt s = _
    unfold execTcalIdle
    rw [State.run_eq, if_pos (by simp [hr, hen, hi])]
  obtain ⟨hd, hm⟩ := Block.measureTap_realign (b := s.block) (n := tap) (rt := rt)
  exact ⟨_, hE, hm, hd⟩

theorem tcalFirstMeasurement_measures {tap : Fin 2048} (hr : s.block.running = true) (hp : s.block.present tap = true)
    (hm : (s.block.view tap).measured = false) (hu : (s.block.view tap).upSeen = true) :
    ∃ t, exec (.tcalFirstMeasurement tap rt) s = .next t ∧ (t.block.view tap).measured = true ∧
      (∀ n, (t.block.view n).dTap = if n = tap.val then s.block.pathDelay tap rt else (s.block.view n).dTap) := by
  have hE : exec (.tcalFirstMeasurement tap rt) s = .next { s with block := (s.block.measureTap tap rt).realign } := by
    change execTcalFirstMeasurement tap rt s = _
    unfold execTcalFirstMeasurement
    rw [State.run_eq]
    dsimp only
    rw [if_pos (by simp [hr, hp, hm, hu])]
  obtain ⟨hd, hm⟩ := Block.measureTap_realign (b := s.block) (n := tap) (rt := rt)
  exact ⟨_, hE, hm, hd⟩

end

/-- Settles O47: each event of the time base by what it leaves of the time base, and each measurement by the delay of its
tap. -/
theorem timeEventsAct : Obligations.TimeEventsAct := by
  refine ⟨?_, fun s d hd => ?_⟩
  · rintro s _ rfl
    exact ⟨fun c v ph g e h hg he => timeBusSample_takes h hg he,
      fun c v ph g e hw hp hl hg he h1 => timeBusSample_wakes hw hp hl hg he h1,
      holdoverEntry_holds, fun c r ht hr he h1 h2 => ppsEdge_counts ht hr he h1 h2, alignmentLost_advances⟩
  · have hdelay : ∀ n rt, d n rt = s.block.pathDelay n rt := hd
    simp only [hdelay]
    refine ⟨fun trips hw hp hdue => tcalPeriodic_measures hw hp hdue, fun tap idle rt hr hen hi => ?_,
      fun tap rt hr hp hm hu => ?_⟩
    · obtain ⟨t, ht, hm, hv⟩ := tcalIdle_measures (rt := rt) hr hen hi
      refine ⟨t, ht, hm, fun n => (hv n).trans ?_⟩
      split
      · rename_i e; rw [e]
      · rfl
    · obtain ⟨t, ht, hm, hv⟩ := tcalFirstMeasurement_measures (rt := rt) hr hp hm hu
      refine ⟨t, ht, hm, fun n => (hv n).trans ?_⟩
      split
      · rename_i e; rw [e]
      · rfl

end Sys2Proof.Machine


/-! ## Start-up, from Boot to Ready (R480 to R483) -/

namespace Sys2Proof.Machine

section
variable {s : State} {b : Block} {n m k p : Nat}

/-! ### Boot, patch and self-test -/

theorem Block.completeHeld_of_nil (h : b.held = []) : b.completeHeld = b := by
  unfold Block.completeHeld
  rw [h, Block.each, List.foldl_nil, ← h]

theorem Block.lateQuote_of_none (h : b.meas.quotePend = false) : b.lateQuote = b := by
  unfold Block.lateQuote
  rw [h, if_neg Bool.false_ne_true]

/-- A quote request that waited is answered with the last entry's number (R456, R501). -/
theorem Block.lateQuote_of_pend (h : b.meas.quotePend = true) (hb : b.meas.built ≠ 0) : b.lateQuote = b.modMeas (fun m =>
    { m with
      quotePend := false, quoteAck := true, quoteDigest := m.logDigest, quoteSeq := (b.meas.built - 1) % 2 ^ 32 }) := by
  have hl : b.lastLogSeq = ((b.meas.built - 1) % 2 ^ 32, b) := if_neg hb
  unfold Block.lateQuote Block.serveQuote
  rw [if_pos h, hl]

/-- The block when Boot ends with no access held: the quote is answered, and the patch image asked for (R481). -/
theorem bootEnd_eq (h1 : s.block.power.phase = 1) (hq : s.block.power.quiesce = false) (hh : s.block.held = []) :
    exec .bootEnd s = .next { s with block :=
      (if s.block.power.warm || decide (s.block.power.patchLen > 262144)
        then (s.block.modPower (fun p => { p with phase := 2 })).lateQuote
        else { (s.block.modPower (fun p => { p with phase := 2 })).lateQuote with
          out := (s.block.modPower (fun p => { p with phase := 2 })).lateQuote.out ++
            patchReads 2049 0 s.block.power.patchAddr s.block.power.patchLen }) } := by
  change execBootEnd s = _
  unfold execBootEnd
  rw [State.run_eq, if_neg (by simp [h1, hq])]
  dsimp only
  rw [Block.completeHeld_of_nil (b := s.block.modPower (fun p => { p with phase := 2 })) hh]

theorem bootEnd_fetches (h1 : s.block.power.phase = 1) (hq : s.block.power.quiesce = false) (hh : s.block.held = [])
    (hm : s.block.meas.quotePend = false) :
    ∃ t, exec .bootEnd s = .next t ∧ t.block.power = { s.block.power with phase := 2 } ∧ t.block.out =
      (if s.block.power.warm = true ∨ 262144 < s.block.power.patchLen then s.block.out
        else s.block.out ++ patchReads 2049 0 s.block.power.patchAddr s.block.power.patchLen) := by
  refine ⟨_, bootEnd_eq h1 hq hh, ?_⟩
  dsimp only
  rw [Block.lateQuote_of_none (b := s.block.modPower (fun p => { p with phase := 2 })) hm]
  simp only [Bool.or_eq_true, decide_eq_true_eq]
  split <;> exact ⟨rfl, rfl⟩

theorem bootEnd_quotes (h1 : s.block.power.phase = 1) (hq : s.block.power.quiesce = false) (hh : s.block.held = [])
    (hm : s.block.meas.quotePend = true) (hb : s.block.meas.built ≠ 0) :
    ∃ t, exec .bootEnd s = .next t ∧ t.block.power = { s.block.power with phase := 2 } ∧ t.block.meas = { s.block.meas with
      quotePend := false, quoteAck := true, quoteDigest := s.block.meas.logDigest
      quoteSeq := (s.block.meas.built - 1) % 2 ^ 32 } := by
  refine ⟨_, bootEnd_eq h1 hq hh, ?_⟩
  dsimp only
  rw [Block.lateQuote_of_pend (b := s.block.modPower (fun p => { p with phase := 2 })) hm hb]
  split <;> exact ⟨rfl, rfl⟩

/-- An entry of the log leaves the patch RAM and its digest. -/
theorem Block.logEntry_patch {i : LogInfo} : (b.logEntry i).meas.patchRam = b.meas.patchRam ∧
    (b.logEntry i).meas.patchDigest = b.meas.patchDigest := by
  unfold Block.logEntry
  dsimp only
  split <;> exact ⟨rfl, rfl⟩

theorem Block.patchDone_power {st : Nat} {ram : List Byte} :
    (b.patchDone st ram).power = { b.power with phase := 3, patchState := st } := by
  unfold Block.patchDone
  rw [Block.power_of_seen (Block.firmwareEntry_seen (M := [.tenants, .meas, .recs]) (by decide)) (by decide)]
  rfl

/-- The patch RAM is measured: an entry is built, and the digest is of the image kept (R453). -/
theorem Block.patchDone_meas {st : Nat} {ram : List Byte} : (b.patchDone st ram).meas.built = b.meas.built + 1 ∧
    (b.patchDone st ram).meas.patchRam = ram ∧ (b.patchDone st ram).meas.patchDigest = sha384 ram := by
  unfold Block.patchDone Block.firmwareEntry
  dsimp only
  rw [Block.logEntry_meas.2, Block.logEntry_patch.1, Block.logEntry_patch.2]
  exact ⟨rfl, rfl, rfl⟩

/-- The state of the patch and the image kept, of a fetched image (R481). -/
def patchResult (len : Nat) (image : List Byte) (err : Bool) : Nat × List Byte :=
  if len = 0 then (0, [])
  else if len > 262144 then (2, [])
  else if err then (3, [])
  else if patchOk len (padTo len image) then (1, padTo len image) else (2, [])

/-- The block once the image fetched is accepted or cleared. -/
def Block.patchFetched (b : Block) (image : List Byte) (err : Bool) : Block :=
  b.patchDone (patchResult b.power.patchLen image err).1 (patchResult b.power.patchLen image err).2

theorem patchFetchDone_eq {image : List Byte} {err : Bool} (h2 : s.block.power.phase = 2)
    (hq : s.block.power.quiesce = false) (hw : s.block.power.warm = false) :
    exec (.patchFetchDone image err) s = .next { s with block := s.block.patchFetched image err } := by
  change execPatchFetchDone image err s = _
  unfold execPatchFetchDone Block.patchFetched patchResult
  rw [State.run_eq]
  dsimp only
  rw [if_neg (by simp [h2, hq]), if_neg (by simp [hw])]
  repeat' split
  all_goals rfl

theorem patchFetchDone_ends {image : List Byte} {err : Bool} {img : List Byte} (h2 : s.block.power.phase = 2)
    (hq : s.block.power.quiesce = false) (hw : s.block.power.warm = false) (hi : img = padTo s.block.power.patchLen image) :
    ∃ t, exec (.patchFetchDone image err) s = .next t ∧ t.block.meas.built = s.block.meas.built + 1 ∧
      t.block.power.phase = 3 ∧
      (s.block.power.patchLen = 0 → t.block.power.patchState = 0 ∧ t.block.meas.patchRam = []) ∧
      (0 < s.block.power.patchLen → s.block.power.patchLen ≤ 262144 → err = true →
        t.block.power.patchState = 3 ∧ t.block.meas.patchRam = []) ∧
      (0 < s.block.power.patchLen → s.block.power.patchLen ≤ 262144 → err = false → patchOk s.block.power.patchLen img = true →
        t.block.power.patchState = 1 ∧ t.block.meas.patchRam = img ∧ t.block.meas.patchDigest = sha384 img) ∧
      (262144 < s.block.power.patchLen ∨
          (0 < s.block.power.patchLen ∧ err = false ∧ patchOk s.block.power.patchLen img = false) →
        t.block.power.patchState = 2 ∧ t.block.meas.patchRam = []) := by
  subst hi
  refine ⟨_, patchFetchDone_eq h2 hq hw, ?_⟩
  dsimp only
  rw [Block.patchFetched, Block.patchDone_meas.1, Block.patchDone_power, Block.patchDone_meas.2.1,
    Block.patchDone_meas.2.2]
  have hok : patchOk s.block.power.patchLen (padTo s.block.power.patchLen image) = true →
      s.block.power.patchLen ≤ 262144 := by
    simp only [patchOk, Bool.and_eq_true, decide_eq_true_eq]
    exact fun h => h.1.1.1.1
  unfold patchResult
  refine ⟨rfl, rfl, fun h => ?_, fun h h' he => ?_, fun h h' he ho => ?_, fun h => ?_⟩
  · rw [if_pos h]; exact ⟨rfl, rfl⟩
  · rw [if_neg (by omega), if_neg (by omega), if_pos he]; exact ⟨rfl, rfl⟩
  · rw [if_neg (by omega), if_neg (by omega), if_neg (by simp [he]), if_pos ho]; exact ⟨rfl, rfl, rfl⟩
  · rcases h with h | ⟨h, he, ho⟩
    · rw [if_neg (by omega), if_pos h]; exact ⟨rfl, rfl⟩
    · rw [if_neg (by omega)]
      split
      · exact ⟨rfl, rfl⟩
      · rw [if_neg (by simp [he]), if_neg (by simp [ho])]; exact ⟨rfl, rfl⟩

theorem mem_insertMacro {l : List Nat} : k ∈ insertMacro l m ↔ k = m ∨ k ∈ l := by
  induction l with
  | nil => simp [insertMacro]
  | cons a l ih =>
    unfold insertMacro
    split
    · simp
    · split
      · rename_i h; simp [h]
      · simp only [List.mem_cons, ih]; tauto

/-- A fence takes in what is fenced and keeps the others (R178). -/
theorem Block.mem_fenceMacro : k ∈ (b.fenceMacro m).cask.fence ↔ k = m ∨ k ∈ b.cask.fence := by
  by_cases h : b.cask.fence.contains m = true
  · have hb : b.fenceMacro m = b := if_pos h
    rw [hb]
    refine ⟨.inr, fun hk => hk.elim (fun e => ?_) id⟩
    rw [e]
    simpa using h
  · rw [Block.fenceMacro_fence (by simpa using h), mem_insertMacro]

theorem Block.mem_fenceMacros {l : List (Fin 512)} :
    k ∈ (b.each l (fun b m => b.fenceMacro m)).cask.fence ↔ (∃ m ∈ l, k = m.val) ∨ k ∈ b.cask.fence := by
  induction l generalizing b with
  | nil => simp [Block.each]
  | cons m l ih =>
    change k ∈ ((b.fenceMacro m).each l (fun b m => b.fenceMacro m)).cask.fence ↔ _
    rw [ih, Block.mem_fenceMacro]
    simp only [List.mem_cons, exists_eq_or_imp]
    rw [← or_assoc, or_comm (a := k = m.val)]

/-- What the self-test found, in the block's power state (R482). -/
def Power.tested (p : Power) (mash shadow store : Bool) (assay : BitVec 16) : Power :=
  { p with
    stMash := mash, stShadow := shadow, stStore := store, assayFailed := assay.toNat
    phase := if mash || shadow || store then 3 else 4 }

/-- The failed macros fenced. -/
def Block.macrosFenced (b : Block) (macros : List (Fin 512)) : Block := b.each macros (fun b m => b.fenceMacro m)

theorem selftestEnd_fences {macros : List (Fin 512)} {mash shadow store : Bool} {assay : BitVec 16}
    (h3 : s.block.power.phase = 3) (hq : s.block.power.quiesce = false) (hd : s.block.dead = false) :
    ∃ t, exec (.selftestEnd macros mash shadow store assay) s = .next t ∧
      t.block.power.assayFailed = assay.toNat ∧ t.block.power.stMash = mash ∧ t.block.power.stShadow = shadow ∧
      t.block.power.stStore = store ∧ (∀ m, m ∈ macros → m.val ∈ t.block.cask.fence) ∧
      t.block.power.phase = (if mash || shadow || store then 3 else 4) := by
  have ht : exec (.selftestEnd macros mash shadow store assay) s = .next { s with
      block := (s.block.macrosFenced macros).modPower (fun p => p.tested mash shadow store assay) } := by
    change execSelftestEnd macros mash shadow store assay s = _
    unfold execSelftestEnd
    rw [State.run_eq, if_neg (by simp [h3, hq, hd])]
    rfl
  exact ⟨_, ht, rfl, rfl, rfl, rfl, fun m hm => Block.mem_fenceMacros.2 (.inl ⟨m, hm, rfl⟩), rfl⟩

theorem startReady_ready (h5 : s.block.power.phase = 5) (hq : s.block.power.quiesce = false)
    (hr : s.block.hop.disc = 6 ∨ (s.block.anyUp = false ∧ s.block.power.serveGt + ms 1 ≤ s.block.gt)) :
    ∃ t, exec .startReady s = .next t ∧ t.block = { s.block with power := { s.block.power with phase := 6 } } := by
  have ht : exec .startReady s = .next { s with block := s.block.modPower (fun p => { p with phase := 6 }) } := by
    change execStartReady s = _
    unfold execStartReady
    rw [State.run_eq, if_pos]
    rcases hr with h | ⟨h, h'⟩
    · simp [h5, hq, h]
    · simp [h5, hq, h, h']
  exact ⟨_, ht, rfl⟩

end

end Sys2Proof.Machine


/-! ## The end of Calibrate: every powered tap is measured, the ports train, discovery starts (R46, R298, R424, R480) -/

namespace Sys2Proof.Machine

section
variable {s : State} {b : Block} {n m k p rt : Nat}

/-! ### The tap part -/

/-- A tap measured and its mirror loaded, where its engine is powered (R46, R298). -/
def Block.calibrateTap (b : Block) (n rt : Nat) : Block :=
  if b.present n && !(b.tap n).drainAck then (b.measureTap n rt).loadMirror n else b

/-- The taps of a list calibrated in turn. -/
def Block.calibrateTaps (b : Block) (trips : List (Fin 2048 × Nat)) : Block :=
  b.each trips (fun b x => b.calibrateTap x.1 x.2)

theorem TapView.known_of_steady {v w : TapView} (h : v.steady = w.steady) :
    v.measured = w.measured ∧ v.mirror = w.mirror :=
  ⟨(congrArg TapView.measured h :), (congrArg TapView.mirror h :)⟩

theorem Block.gt_of_base {c : Block} (ht : b.time.base = c.time.base) (hp : b.power.lossless = c.power.lossless) :
    b.gt = c.gt := by
  have htb : b.time.tb = c.time.tb := (congrArg Time.tb ht :)
  have haon : b.time.aonGt = c.time.aonGt := (congrArg Time.aonGt ht :)
  have hst : b.power.st = c.power.st := (congrArg Power.st hp :)
  unfold Block.gt
  rw [htb, haon, hst]

theorem Block.measureTap_drainAck : ((b.measureTap n rt).tap m).drainAck = (b.tap m).drainAck := by
  have h := Block.tap_of_rested (c := b.delayed n (b.pathDelay n rt)) (Block.measureTap_rested (rt := rt)) m
  exact (congrArg Tap.drainAck h :).trans rfl

theorem Block.measureTap_mirror : ((b.measureTap n rt).view m).mirror = (b.view m).mirror := by
  have h := Block.view_of_rested (c := b.delayed n (b.pathDelay n rt)) (Block.measureTap_rested (rt := rt)) m
  rw [Block.delayed_view] at h
  have hm := congrArg TapView.mirror h
  dsimp only [TapView.steady] at hm
  rw [hm]
  split <;> rfl

theorem Block.measureTap_lossless : (b.measureTap n rt).power.lossless = b.power.lossless :=
  (Block.power_of_rested (c := b.delayed n (b.pathDelay n rt)) Block.measureTap_rested).trans rfl

theorem Block.loadMirror_view : (b.loadMirror n).view m = if m = n then { b.view m with
    mirror := true, aEn := (b.tap n).aEnable, desc := (b.tap n).cnt.map (fun e => (e.1, (e.2.w0, e.2.w1))) }
    else b.view m := Block.view_modView_ite

/-- What calibrating a tap leaves of the block: the time base, the power state, which taps are there and powered. -/
theorem Block.calibrateTap_keeps : (b.calibrateTap n rt).time.base = b.time.base ∧
    (b.calibrateTap n rt).power.lossless = b.power.lossless ∧ (b.calibrateTap n rt).present m = b.present m ∧
    ((b.calibrateTap n rt).tap m).drainAck = (b.tap m).drainAck := by
  have hp : (b.measureTap n rt).present m = b.present m := by
    have h := Block.straps_of_seen (Block.measureTap_seen (b := b) (x1 := n) (x2 := rt)
      (M := [.taps, .views, .stations, .cask, .tenants, .power, .time]) (by decide)) (by decide)
    simp only [Block.present, h]
  unfold Block.calibrateTap
  split
  · exact ⟨Block.measureTap_base, Block.measureTap_lossless, hp, Block.measureTap_drainAck⟩
  · exact ⟨rfl, rfl, rfl, rfl⟩

/-- A powered tap is measured and its mirror loaded; one that was stays so. -/
theorem Block.calibrateTap_view : (((b.view m).measured = true ∧ (b.view m).mirror = true) ∨
      (m = n ∧ b.present n = true ∧ (b.tap n).drainAck = false)) →
    ((b.calibrateTap n rt).view m).measured = true ∧ ((b.calibrateTap n rt).view m).mirror = true := by
  intro h
  unfold Block.calibrateTap
  split
  · rw [Block.loadMirror_view]
    split
    · exact ⟨by rw [Block.measureTap_view.2.2, if_pos ‹_›], rfl⟩
    · obtain ⟨h1, h2⟩ := h.resolve_right fun h => absurd h.1 ‹_›
      exact ⟨by rw [Block.measureTap_view.2.2, if_neg ‹_›, h1], by rw [Block.measureTap_mirror, h2]⟩
  · rename_i hc
    exact h.elim id fun ⟨_, hp, hd⟩ => absurd (by simp [hp, hd]) hc

theorem Block.calibrateTaps_cons {x : Fin 2048 × Nat} {l : List (Fin 2048 × Nat)} :
    b.calibrateTaps (x :: l) = (b.calibrateTap x.1 x.2).calibrateTaps l := rfl

theorem Block.calibrateTaps_keeps {l : List (Fin 2048 × Nat)} : (b.calibrateTaps l).time.base = b.time.base ∧
    (b.calibrateTaps l).power.lossless = b.power.lossless :=
  ⟨Block.each_keeps (p := fun b => b.time.base) fun _ _ => (Block.calibrateTap_keeps (m := 0)).1,
    Block.each_keeps (p := fun b => b.power.lossless) fun _ _ => (Block.calibrateTap_keeps (m := 0)).2.1⟩

theorem Block.calibrateTaps_view {l : List (Fin 2048 × Nat)} (h : ((b.view m).measured = true ∧ (b.view m).mirror = true) ∨
      ((∃ e ∈ l, m = e.1.val) ∧ b.present m = true ∧ (b.tap m).drainAck = false)) :
    ((b.calibrateTaps l).view m).measured = true ∧ ((b.calibrateTaps l).view m).mirror = true := by
  induction l generalizing b with
  | nil => exact h.elim id fun ⟨⟨_, h, _⟩, _⟩ => absurd h List.not_mem_nil
  | cons x l ih =>
    rw [Block.calibrateTaps_cons]
    obtain ⟨-, -, hp, hd⟩ := Block.calibrateTap_keeps (b := b) (n := x.1) (rt := x.2) (m := m)
    refine ih ?_
    rcases h with h | ⟨⟨e, he, rfl⟩, h⟩
    · exact .inl (Block.calibrateTap_view (.inl h))
    · rcases List.mem_cons.1 he with rfl | hl
      · exact .inl (Block.calibrateTap_view (.inr ⟨rfl, h⟩))
      · exact .inr ⟨⟨e, hl, rfl⟩, hp.trans h.1, hd.trans h.2⟩

/-! ### The hop part -/

theorem Block.setLink_hopPort {st : LinkState} : ((b.setLink p st).hopPort k).adminUp = (b.hopPort k).adminUp ∧
    ((b.setLink p st).hopPort k).st = if k = p then st else (b.hopPort k).st := by
  unfold Block.setLink
  split
  · rename_i h
    refine ⟨rfl, ?_⟩
    split
    · rename_i e; rw [e]; simpa using h
    · rfl
  · have h : ∀ c : Block, (c.raise 64 13).hopPort k = c.hopPort k := fun _ => rfl
    rw [h, Block.hopPort_modHopPort_ite]
    split <;> exact ⟨rfl, rfl⟩

/-- A port that is administratively up trains (R424). -/
theorem Block.train_hopPort : ((b.train p).hopPort k).adminUp = (b.hopPort k).adminUp ∧
    ((b.train p).hopPort k).st = if k = p ∧ (b.hopPort p).adminUp = true then .training else (b.hopPort k).st := by
  have h : ∀ c : Block, ∀ x, (c.emit x).hopPort k = c.hopPort k := fun _ _ => rfl
  unfold Block.train
  split
  · rename_i hu
    rw [h, Block.setLink_hopPort.1, Block.setLink_hopPort.2]
    simp only [hu, and_true]
  · rename_i hu
    rw [if_neg (fun h => hu h.2)]
    exact ⟨rfl, rfl⟩

theorem Block.trainAll_training {l : List Nat} (ha : (b.hopPort k).adminUp = true)
    (h : k ∈ l ∨ (b.hopPort k).st = .training) : ((b.each l (fun b p => b.train p)).hopPort k).st = .training := by
  induction l generalizing b with
  | nil => exact h.resolve_left List.not_mem_nil
  | cons p l ih =>
    change (((b.train p).each l (fun b p => b.train p)).hopPort k).st = _
    refine ih (Block.train_hopPort.1.trans ha) ?_
    rcases h with h | h
    · rcases List.mem_cons.1 h with rfl | h
      · exact .inr (by rw [Block.train_hopPort.2, if_pos ⟨rfl, ha⟩])
      · exact .inl h
    · refine .inr ?_
      rw [Block.train_hopPort.2]
      split
      · rfl
      · exact h

theorem Block.sendAll_hopPort {l : List Nat} {f : Frame} : ((b.sendAll l f).hopPort k).st = (b.hopPort k).st := by
  refine Block.each_keeps (p := fun b => (b.hopPort k).st) fun b p => ?_
  change ((b.modHopPort p _).hopPort k).st = _
  rw [Block.hopPort_modHopPort_ite]
  split <;> rfl

/-- What a command that completes leaves of the power state: the count of hardware faults moves at most. -/
theorem Block.respond_serve {f tag st : Nat} {quiet : Bool} {ws : List Word} :
    (b.respond f tag quiet st ws).power.phase = b.power.phase ∧
    (b.respond f tag quiet st ws).power.serveGt = b.power.serveGt := by
  unfold Block.respond
  split
  · exact ⟨rfl, rfl⟩
  · rw [serveParked_power]
    exact ⟨rfl, rfl⟩

theorem Block.finishLongs_serve {f : Nat → LongKind → Option (Nat × List Word)} :
    (b.finishLongs f).power.phase = b.power.phase ∧ (b.finishLongs f).power.serveGt = b.power.serveGt := by
  refine ⟨Block.each_keeps (p := fun b => b.power.phase) fun b x => ?_,
    Block.each_keeps (p := fun b => b.power.serveGt) fun b x => ?_⟩
  · split
    · exact Block.respond_serve.1
    · rfl
  · split
    · exact Block.respond_serve.2
    · rfl

/-- The parts of `startDiscovery`: the measurement under way is dropped, and the state of discovery begins anew. -/
def Block.discoveryReset (b : Block) (gen : Nat) : Block :=
  (if b.hop.tsMeas.isSome then b.tsyncDrop else b).modHop (fun h => { h with
    disc := if (if b.hop.tsMeas.isSome then b.tsyncDrop else b).up3.isEmpty then 0 else 1
    bestKey := (if b.hop.tsMeas.isSome then b.tsyncDrop else b).ownKey, bestHops := 0, parent := 7, countPassed := false
    rootWait := false, gen := gen % 256, quietGt := (if b.hop.tsMeas.isSome then b.tsyncDrop else b).gt
    ports := tmap {} h.ports (fun _ x => { x with claimed := false, count := none, vec := [] }) })

theorem Block.discoveryReset_hopPort {gen : Nat} : ((b.discoveryReset gen).hopPort k).st = (b.hopPort k).st := by
  have hd : (if b.hop.tsMeas.isSome then b.tsyncDrop else b).hopPort k = b.hopPort k := by split <;> rfl
  rw [← hd]
  change (tget ({} : HopPort) (tmap {} _ _) k).st = _
  rw [tget_tmap rfl]
  rfl

theorem Block.discoveryReset_time {gen : Nat} : (b.discoveryReset gen).time.tcalDue = b.time.tcalDue := by
  change (if b.hop.tsMeas.isSome then b.tsyncDrop else b).time.tcalDue = _
  split <;> rfl

theorem Block.discoveryReset_power {gen : Nat} : (b.discoveryReset gen).power = b.power := by
  change (if b.hop.tsMeas.isSome then b.tsyncDrop else b).power = _
  split <;> rfl

theorem Block.discoveryReset_view {gen : Nat} : (b.discoveryReset gen).view n = b.view n := by
  change (if b.hop.tsMeas.isSome then b.tsyncDrop else b).view n = _
  split <;> rfl

/-- The block is its own root, or offers itself to its neighbours (R57, R427). -/
def Block.discoveryOffer (b : Block) : Block :=
  if b.up3.isEmpty then (if b.time.chainKnown then b else b.selfRoot) else b.sendAll b.up3 b.electFrame

theorem Block.selfRoot_keeps : (b.selfRoot).time.tcalDue = b.time.tcalDue ∧ b.selfRoot.power.lossless = b.power.lossless ∧
    (b.selfRoot.view n).steady = (b.view n).steady := by
  unfold Block.selfRoot
  refine ⟨(Time.tcal_of_base (Block.time_of_rested Block.realign_rested)).1,
    (Block.power_of_rested Block.realign_rested).trans rfl, ?_⟩
  rw [Block.view_of_rested Block.realign_rested, Block.view_modTime]

theorem Block.discoveryOffer_keeps : b.discoveryOffer.time.tcalDue = b.time.tcalDue ∧
    b.discoveryOffer.power.lossless = b.power.lossless ∧ (b.discoveryOffer.view n).steady = (b.view n).steady ∧
    (b.discoveryOffer.hopPort k).st = (b.hopPort k).st := by
  unfold Block.discoveryOffer
  split
  · split
    · exact ⟨rfl, rfl, rfl, rfl⟩
    · obtain ⟨ht, hp, hv⟩ := Block.selfRoot_keeps (b := b) (n := n)
      have hh : b.selfRoot.hop = b.hop := Block.hop_of_seen (Block.selfRoot_seen (M := [.taps, .views, .stations, .cask,
        .tenants, .power, .time]) (by decide)) (by decide)
      exact ⟨ht, hp, hv, by rw [Block.hopPort, hh]; rfl⟩
  · have h := Block.sendAll_seen (b := b) (x1 := b.up3) (x2 := b.electFrame) (M := [.hop]) (by decide)
    refine ⟨by rw [Block.time_of_seen h (by decide)], by rw [Block.power_of_seen h (by decide)], ?_, Block.sendAll_hopPort⟩
    rw [Block.view, Block.views_of_seen h (by decide)]
    rfl

theorem Block.startDiscovery_eq {gen : Nat} : ∃ f, b.startDiscovery gen = (b.discoveryReset gen).discoveryOffer.finishLongs f := by
  unfold Block.startDiscovery Block.discoveryOffer
  exact ⟨_, congrArg₂ Block.finishLongs rfl rfl⟩

/-- What the start of discovery leaves of the block (R427). -/
theorem Block.startDiscovery_keeps {gen : Nat} : (b.startDiscovery gen).time.tcalDue = b.time.tcalDue ∧
    (b.startDiscovery gen).power.phase = b.power.phase ∧ (b.startDiscovery gen).power.serveGt = b.power.serveGt ∧
    ((b.startDiscovery gen).view n).steady = (b.view n).steady ∧
    ((b.startDiscovery gen).hopPort k).st = (b.hopPort k).st := by
  obtain ⟨f, hf⟩ := Block.startDiscovery_eq (b := b) (gen := gen)
  obtain ⟨ht, hp, hv, hk⟩ := Block.discoveryOffer_keeps (b := b.discoveryReset gen) (n := n) (k := k)
  have h := Block.finishLongs_seen (b := (b.discoveryReset gen).discoveryOffer) (x1 := f)
    (M := [.ports, .tenants, .power, .out]) (by decide)
  have hph := congrArg Power.phase hp
  have hsv := congrArg Power.serveGt hp
  dsimp only [Power.lossless] at hph hsv
  rw [hf, Block.time_of_seen h (by decide), Block.finishLongs_serve.1, Block.finishLongs_serve.2, Block.view,
    Block.views_of_seen h (by decide), Block.hopPort, Block.hop_of_seen h (by decide), ht, hph, hsv,
    Block.discoveryReset_time, Block.discoveryReset_power]
  exact ⟨rfl, rfl, rfl, hv.trans (by rw [Block.discoveryReset_view]), hk.trans Block.discoveryReset_hopPort⟩

/-! ### The end of Calibrate -/

/-- The block once every tap is measured: Serve begins (R480). -/
def Block.serves (b : Block) : Block :=
  (b.modPower (fun p => { p with phase := 5, serveGt := b.gt })).modTime (fun t => { t with
    calEnd := b.gt, tcalDue := b.gt + ms t.tcalMs })

/-- Every port that is up trains. -/
def Block.trainAll (b : Block) : Block := b.each allPorts (fun b p => b.train p)

theorem Block.trainAll_seen : b.trainAll.seen [.tenants, .hop, .out] = b.seen [.tenants, .hop, .out] :=
  Block.each_seen fun _ _ => Block.train_seen (by decide)

theorem calibrateEnd_eq {trips : List (Fin 2048 × Nat)} (h4 : s.block.power.phase = 4) (hq : s.block.power.quiesce = false)
    (hl : s.block.time.locked = true) (ha : s.block.allTrips trips = true) : exec (.calibrateEnd trips) s =
      .next { s with block := (s.block.calibrateTaps trips).serves.trainAll.startDiscovery 0 } := by
  change execCalibrateEnd trips s = _
  unfold execCalibrateEnd
  rw [State.run_eq, if_neg (by simp [h4, hq, hl, ha])]
  rfl

theorem calibrateEnd_serves {trips : List (Fin 2048 × Nat)} (h4 : s.block.power.phase = 4)
    (hq : s.block.power.quiesce = false) (hl : s.block.time.locked = true) (ha : s.block.allTrips trips = true) :
    ∃ t, exec (.calibrateEnd trips) s = .next t ∧ t.block.power.phase = 5 ∧ t.block.power.serveGt = s.block.gt ∧
      t.block.time.tcalDue = s.block.gt + ms s.block.time.tcalMs ∧
      (∀ k, k < 6 → (s.block.hopPort k).adminUp = true → (t.block.hopPort k).st = .training) ∧
      (∀ n rt, (n, rt) ∈ trips → s.block.present n = true → (s.block.tap n).drainAck = false →
        (t.block.view n).measured = true ∧ (t.block.view n).mirror = true) := by
  obtain ⟨hb, hp⟩ := Block.calibrateTaps_keeps (b := s.block) (l := trips)
  have hg : (s.block.calibrateTaps trips).gt = s.block.gt := Block.gt_of_base hb hp
  have hms : (s.block.calibrateTaps trips).time.tcalMs = s.block.time.tcalMs := (Time.tcal_of_base hb).2
  have hpw : (s.block.calibrateTaps trips).serves.trainAll.power = (s.block.calibrateTaps trips).serves.power :=
    Block.power_of_seen Block.trainAll_seen (by decide)
  have htm : (s.block.calibrateTaps trips).serves.trainAll.time = (s.block.calibrateTaps trips).serves.time :=
    Block.time_of_seen Block.trainAll_seen (by decide)
  have hvw : (s.block.calibrateTaps trips).serves.trainAll.views = (s.block.calibrateTaps trips).serves.views :=
    Block.views_of_seen Block.trainAll_seen (by decide)
  have hhop : (s.block.calibrateTaps trips).hop = s.block.hop := by
    refine Block.each_keeps (p := fun b => b.hop) fun b x => ?_
    unfold Block.calibrateTap
    split
    · exact Block.hop_of_seen (M := [.taps, .views, .stations, .cask, .tenants, .power, .time])
        ((Block.modView_seen (by decide)).trans (Block.measureTap_seen (by decide))) (by decide)
    · rfl
  refine ⟨_, calibrateEnd_eq h4 hq hl ha, ?_⟩
  dsimp only
  rw [(Block.startDiscovery_keeps (n := 0) (k := 0)).1, (Block.startDiscovery_keeps (n := 0) (k := 0)).2.1,
    (Block.startDiscovery_keeps (n := 0) (k := 0)).2.2.1, hpw, htm]
  refine ⟨rfl, hg, ?_, fun k hk hu => ?_, fun n rt hn hpr hd => ?_⟩
  · rw [← hg, ← hms]
    rfl
  · rw [(Block.startDiscovery_keeps (n := 0) (k := k)).2.2.2.2]
    refine Block.trainAll_training ?_ (.inl (List.mem_range.2 hk))
    change (tget {} (s.block.calibrateTaps trips).hop.ports k).adminUp = true
    rw [hhop]
    exact hu
  · have hv := (Block.startDiscovery_keeps (b := (s.block.calibrateTaps trips).serves.trainAll) (gen := 0) (n := n.val)
      (k := 0)).2.2.2.1
    have hn' : (s.block.calibrateTaps trips).serves.trainAll.view n = (s.block.calibrateTaps trips).view n := by
      rw [Block.view, hvw]
      rfl
    rw [hn'] at hv
    obtain ⟨h1, h2⟩ := Block.calibrateTaps_view (b := s.block) (m := n.val) (.inr ⟨⟨_, hn, rfl⟩, hpr, hd⟩)
    obtain ⟨h3, h4⟩ := TapView.known_of_steady hv
    exact ⟨h3.trans h1, h4.trans h2⟩

end

/-- Settles O59: each phase of start-up by the event that ends it. -/
theorem startUpAdvances : Obligations.StartUpAdvances := by
  rintro s _ rfl hq
  exact ⟨fun h1 hh hm => bootEnd_fetches h1 hq hh hm, fun h1 hh hm hb => bootEnd_quotes h1 hq hh hm hb,
    fun image err img h2 hw hi => patchFetchDone_ends h2 hq hw hi,
    fun macros mash shadow store assay h3 hd => selftestEnd_fences h3 hq hd,
    fun trips h4 _ hl ha => calibrateEnd_serves h4 hq hl ha, fun h5 hr => startReady_ready h5 hq hr⟩

end Sys2Proof.Machine


/-! ## Power states, wakes and grants (R465 to R473, R498) -/

namespace Sys2Proof.Machine

/-! ### Wakes (R468) -/

/-- The power state once a wake has begun: a request on its way down is raised again only after its grant has fallen. -/
def Power.woken (p : Power) (n : Nat) : Power :=
  if p.lowering then { p with waking := true, lastWake := n, wakes := satAdd 32 p.wakes 1 }
  else { p with
    waking := true, lastWake := n, wakes := satAdd 32 p.wakes 1, goal := .run, brewReq := true
    clkReq := p.clkReq || (p.brewReq && p.brewGnt)
    lowAsked := if p.brewReq && p.brewGnt then p.lowAsked && p.clkReq else p.lowAsked }

section
variable {p q : Power} {n m : Nat}

theorem Power.wake_woken (ho : p.st ≠ .off) (hg : p.goal ≠ .off) (hw : p.waking = false)
    (hr : p.st = .run → p.goal ≠ .run ∧ p.clkReq = false) : p.wake n = p.woken n := by
  have h1 : ¬ (p.st == .off || p.goal == .off || p.waking || (p.st == .run && p.goal == .run)) = true := by
    simp only [ho, hg, hw, Bool.or_eq_true, Bool.and_eq_true, beq_iff_eq, or_false, false_or, not_and, Bool.false_eq_true]
    exact fun h => (hr h).1
  have h2 : ¬ (p.st == .run && p.clkReq) = true := by
    simp only [Bool.and_eq_true, beq_iff_eq, not_and]
    exact fun h => by simp [(hr h).2]
  unfold Power.wake Power.woken
  dsimp only
  rw [if_neg h1, if_neg h2]
  by_cases hl : p.lowering = true
  · rw [if_pos hl, if_pos hl]
  · rw [if_neg hl, if_neg hl]
    unfold Power.climb Power.askClock
    dsimp only
    by_cases hc : (p.brewReq && p.brewGnt) = true
    · rw [if_pos hc, if_pos hc, hc, Bool.or_true]
    · rw [if_neg hc, if_neg hc, Bool.eq_false_iff.2 hc, Bool.or_false]

/-- An entry from Run is reversed at once while the clock is still asked for (R468, R484). -/
theorem Power.wake_reversed (hs : p.st = .run) (hg : p.goal ≠ .run) (ho : p.goal ≠ .off) (hw : p.waking = false)
    (hc : p.clkReq = true) : p.wake n = { p with goal := .run, retReq := p.retReq && !p.retGnt, wakeTimer := none } := by
  unfold Power.wake
  rw [if_neg (by simp [hs, hg, ho, hw]), if_pos (by simp [hs, hc])]

/-- What a wake, a loss or a completed command leaves of the grants: they stand, and the clock stays asked for. -/
def Power.Follows (q p : Power) : Prop :=
  q.brewGnt = p.brewGnt ∧ q.clkGnt = p.clkGnt ∧ q.low = p.low ∧ q.phase = p.phase ∧ (p.clkReq = true → q.clkReq = true)

theorem Power.Follows.refl (p : Power) : p.Follows p := ⟨rfl, rfl, rfl, rfl, id⟩

theorem Power.Follows.trans {r : Power} (h : r.Follows q) (h' : q.Follows p) : r.Follows p := by
  obtain ⟨h1, h2, h3, h4, h5⟩ := h
  obtain ⟨k1, k2, k3, k4, k5⟩ := h'
  exact ⟨h1.trans k1, h2.trans k2, h3.trans k3, h4.trans k4, fun hc => h5 (k5 hc)⟩

theorem Power.climb_follows : p.climb.Follows p := by
  unfold Power.climb Power.askClock
  dsimp only
  split
  · exact ⟨rfl, rfl, rfl, rfl, fun _ => rfl⟩
  · exact ⟨rfl, rfl, rfl, rfl, id⟩

theorem Power.wake_follows : (p.wake n).Follows p := by
  unfold Power.wake
  dsimp only
  split
  · exact .refl p
  · split
    · exact ⟨rfl, rfl, rfl, rfl, id⟩
    · split
      · exact ⟨rfl, rfl, rfl, rfl, id⟩
      · exact Power.climb_follows.trans ⟨rfl, rfl, rfl, rfl, id⟩

end

/-! ### A reset that waited for Run, and the grants (R375, R498) -/

/-- The power state without its losses and its counts of faults and bus errors (R331, R407, R509). -/
def Power.plain (p : Power) : Power := { p with lossSeen := 0, lossNow := (0, 0), hwFaults := 0, busErrors := [] }

theorem Power.follows_of_plain {p q : Power} (h : q.plain = p.plain) : q.Follows p :=
  ⟨(congrArg Power.brewGnt h :), (congrArg Power.clkGnt h :), (congrArg Power.low h :), (congrArg Power.phase h :),
    fun hc => (congrArg Power.clkReq h :).trans hc⟩

section
variable {b c : Block} {n m o k : Nat}

theorem Block.plain_of_seen {M : List Area} (h : b.seen M = c.seen M) (hM : Area.power ∉ M) :
    b.power.plain = c.power.plain := congrArg Power.plain (Block.power_of_seen h hM)

theorem Block.each_plain {α : Type} {l : List α} {f : Block → α → Block} (h : ∀ b x, (f b x).power.plain = b.power.plain) :
    (b.each l f).power.plain = b.power.plain := Block.each_keeps (p := fun b => b.power.plain) h

theorem Block.finishLongs_plain {f : Nat → LongKind → Option (Nat × List Word)} :
    (b.finishLongs f).power.plain = b.power.plain := by
  refine Block.each_plain fun b x => ?_
  split
  · unfold Block.finishLong Block.respond
    split
    · rfl
    · rw [serveParked_power]
      rfl
  · rfl

theorem Block.settleDrains_plain : b.settleDrains.power.plain = b.power.plain := by
  unfold Block.settleDrains
  exact Block.finishLongs_plain

theorem Block.drainUndo_plain : (b.drainUndo n).power.plain = b.power.plain := by
  unfold Block.drainUndo Block.drainDone
  dsimp only
  repeat' split
  all_goals rfl

theorem Block.stopPages_plain : (b.stopPages n).power.plain = b.power.plain := by
  unfold Block.stopPages
  refine (Block.each_plain fun b p => ?_).trans rfl
  unfold Block.pageBack
  split
  · exact Block.drainUndo_plain
  · rfl

theorem Block.stopEnd_plain : (b.stopEnd n).power.plain = b.power.plain := by
  have hp : ∀ (c : Block) (k : Nat), (c.partialDrains n k).power = c.power := fun _ _ => rfl
  have hr : ∀ (c : Block) (o v : Nat), (c.raise o v).power = c.power := fun _ _ _ => rfl
  unfold Block.stopEnd
  dsimp only
  split
  · rw [hp]
    split
    · rw [hr, hr]
      rfl
    · rw [hr]
      rfl
  · rw [hp]
    rfl
  · rfl

theorem Block.stopStep_plain : (b.stopStep n).power.plain = b.power.plain := by
  have hw : ∀ c : Block, (c.wbStep n).power.plain = c.power.plain := fun c =>
    Block.plain_of_seen (Block.wbStep_seen (M := [.sparge, .out]) (by decide)) (by decide)
  have hp : ∀ (c : Block) (k : Nat), (c.partialDrains n k).power.plain = c.power.plain := fun _ _ => rfl
  have he : ∀ (c : Block) (p : Prop) [Decidable p],
      (if p then c.wbStep n else (c.wbStep n).stopEnd n).power.plain = c.power.plain := by
    intro c p _
    split
    · exact hw c
    · exact Block.stopEnd_plain.trans (hw c)
  unfold Block.stopStep
  dsimp only
  split
  · rfl
  · rw [he]
    split
    · split
      · exact Block.stopPages_plain
      · exact (hp _ _).trans Block.stopPages_plain
    · rfl

theorem Block.abandonOld_plain : (b.abandonOld n o).power.plain = b.power.plain := by
  unfold Block.abandonOld
  dsimp only
  split
  · rw [Block.stopStep_plain]
    exact Block.plain_of_seen (Block.stopChan_seen (M := [.sparge, .hop]) (by decide)) (by decide)
  · rfl

/-- A reset that begins may wake the block, and moves nothing else of the power state but its counts (R375). -/
theorem Block.beginReset_follows : (b.beginReset n).power.Follows b.power := by
  have hw : (b.requestWake 3).power.Follows b.power := Power.wake_follows
  unfold Block.beginReset
  dsimp only
  split
  · exact hw
  · split
    · exact hw
    · refine (Power.follows_of_plain ?_).trans hw
      rw [Block.settleDrains_plain, Block.each_plain fun _ _ => Block.abandonOld_plain]
      have hc : ∀ (c : Block) (l : List Nat), (c.holdChans n l).power.plain = c.power.plain := fun _ _ =>
        Block.plain_of_seen (Block.holdChans_seen (M := [.sparge]) (by decide)) (by decide)
      have hm : ∀ (c : Block) (f : Tenant → Tenant), ((c.resetPort n).modTenant n f).power.plain = c.power.plain :=
        fun _ _ => rfl
      rw [hm]
      split
      · exact hc _ _
      · rfl

theorem Block.beginWaiting_follows : b.beginWaiting.power.Follows b.power := by
  have h : ∀ (l : List Nat) (b : Block), (b.each l (fun b n => if (b.tenant n).rstWait then b.beginReset n else b)).power.Follows
      b.power := by
    intro l
    induction l with
    | nil => exact fun b => .refl _
    | cons x l ih =>
      intro b
      refine (ih _).trans ?_
      dsimp only
      split
      · exact Block.beginReset_follows
      · exact .refl _
  exact h _ b

theorem Block.beginWaiting_of_none (h : ∀ n, n < 64 → (b.tenant n).rstWait = false) : b.beginWaiting = b := by
  have hl : ∀ l : List Nat, (∀ n ∈ l, n < 64) →
      b.each l (fun b n => if (b.tenant n).rstWait then b.beginReset n else b) = b := by
    intro l
    induction l with
    | nil => exact fun _ => rfl
    | cons x l ih =>
      intro hx
      change (if (b.tenant x).rstWait then b.beginReset x else b).each l _ = b
      rw [h x (hx x (.head _)), if_neg Bool.false_ne_true]
      exact ih fun n hn => hx n (.tail _ hn)
  exact hl _ fun n hn => List.mem_range.1 hn

end

end Sys2Proof.Machine


namespace Sys2Proof.Machine

section
variable {s : State} {b c : Block} {p : Power} {n m o k : Nat}

/-! ### The choice of a state (R471) -/

theorem Block.choose_of_deepest (h : b.deepest = 0) : b.choose = 0 := by
  unfold Block.choose
  dsimp only
  rw [h, Nat.zero_min, if_pos rfl]

/-- What entering the chosen state does (R465, R473). -/
theorem Block.enterState_run : b.enterState 0 = b := rfl

theorem Block.enterState_doze : (b.enterState 1).power = { b.power with st := .doze, goal := .doze } := rfl

theorem Block.enterState_nap : (b.enterState 2).power =
    { b.power with goal := .nap, clkReq := false, wakeTimer := b.timerFor 3000 } := rfl

theorem Block.enterState_kiln : (b.enterState 3).power =
    { b.power with goal := .kiln, retReq := !b.power.retGnt, wakeTimer := b.timerFor 60000 } := rfl

theorem Block.enterState_st (h : b.power.st = .doze) : (b.enterState k).power.st = .doze := by
  unfold Block.enterState
  split
  · rfl
  · exact h
  · exact h
  · exact h

theorem Power.dozing_eq (h : p.st = .doze) (h' : p.goal = .doze) : ({ p with st := .doze, goal := .doze } : Power) = p := by
  cases p
  dsimp only at h h'
  subst h h'
  rfl

/-- The choice of the speed leaves state, goal and grants (R467). -/
theorem Block.chooseSpeed_power : ∃ a, b.chooseSpeed.power = { b.power with lowAsked := a } := by
  unfold Block.chooseSpeed
  split
  · change ∃ a, (if b.power.clkReq then _ else b.power) = _
    split
    · exact ⟨_, rfl⟩
    · exact ⟨_, rfl⟩
  · exact ⟨_, rfl⟩

theorem powerStateChoose_waits (h : s.block.gt < s.block.power.busyGt + s.block.cycles 64) :
    ∃ t, exec .powerStateChoose s = .next t ∧ t.block = s.block := by
  have ht : exec .powerStateChoose s = .next { s with block := s.block } := by
    change execPowerStateChoose s = _
    unfold execPowerStateChoose
    rw [State.run_eq, if_pos (by simp only [Bool.or_eq_true, decide_eq_true_eq]; exact .inr h)]
  exact ⟨_, ht, rfl⟩

theorem powerStateChoose_running (hr : s.block.running = true) (hb : s.block.busy = false)
    (hg : s.block.power.busyGt + s.block.cycles 64 ≤ s.block.gt) :
    ∃ t, exec .powerStateChoose s = .next t ∧ t.block.seen [.power] = s.block.seen [.power] ∧
      (s.block.choose = 0 → t.block.power.st = .run ∧ t.block.power.goal = .run) ∧
      (s.block.choose = 1 → t.block.power.st = .doze ∧ t.block.power.goal = .doze) ∧
      (s.block.choose = 2 → t.block.power.goal = .nap ∧ t.block.power.clkReq = false ∧ t.block.power.st = .run) ∧
      (s.block.choose = 3 →
        t.block.power.goal = .kiln ∧ t.block.power.retReq = !s.block.power.retGnt ∧ t.block.power.st = .run) ∧
      (s.block.deepest = 0 → t.block.power.st = .run) := by
  have ht : exec .powerStateChoose s = .next { s with block := s.block.chooseSpeed.enterState s.block.choose } := by
    change execPowerStateChoose s = _
    unfold execPowerStateChoose
    rw [State.run_eq, if_neg (by simp only [hb, Bool.false_or, decide_eq_true_eq]; exact Nat.not_lt.2 hg), if_pos hr]
  have hst : s.block.power.st = .run ∧ s.block.power.goal = .run := by
    simp only [Block.running, Bool.and_eq_true, beq_iff_eq] at hr
    exact ⟨hr.1.1.1, hr.1.1.2⟩
  obtain ⟨a, ha⟩ := Block.chooseSpeed_power (b := s.block)
  have h0 : s.block.choose = 0 →
      (s.block.chooseSpeed.enterState s.block.choose).power = { s.block.power with lowAsked := a } := fun h => by
    rw [h, Block.enterState_run, ha]
  refine ⟨_, ht, ?_, fun h => ?_, fun h => ?_, fun h => ?_, fun h => ?_, fun h => ?_⟩
  · rw [Block.enterState_seen (by decide), Block.chooseSpeed_seen (by decide)]
  · dsimp only
    rw [h0 h]
    exact hst
  · dsimp only
    rw [h, Block.enterState_doze]
    exact ⟨rfl, rfl⟩
  · dsimp only
    rw [h, Block.enterState_nap, ha]
    exact ⟨rfl, rfl, hst.1⟩
  · dsimp only
    rw [h, Block.enterState_kiln, ha]
    exact ⟨rfl, rfl, hst.1⟩
  · dsimp only
    rw [h0 (Block.choose_of_deepest h)]
    exact hst.1

theorem powerStateChoose_dozing (hd : s.block.dozing = true) (hb : s.block.busy = false)
    (hg : s.block.power.busyGt + s.block.cycles 64 ≤ s.block.gt) :
    ∃ t, exec .powerStateChoose s = .next t ∧ t.block.seen [.power] = s.block.seen [.power] ∧
      t.block.power.st = .doze ∧ (s.block.choose < 2 → t.block = s.block) ∧
      (s.block.choose = 2 → t.block.power.goal = .nap ∧ t.block.power.clkReq = false) ∧
      (s.block.choose = 3 → t.block.power.goal = .kiln ∧ t.block.power.retReq = !s.block.power.retGnt) := by
  have hst : s.block.power.st = .doze ∧ s.block.power.goal = .doze := by
    simp only [Block.dozing, Bool.and_eq_true, beq_iff_eq] at hd
    exact ⟨hd.1.1.1, hd.1.1.2⟩
  have hr : s.block.running = false := by simp [Block.running, hst.1]
  have ht : exec .powerStateChoose s = .next { s with block := s.block.enterState s.block.choose } := by
    change execPowerStateChoose s = _
    unfold execPowerStateChoose
    rw [State.run_eq, if_neg (by simp only [hb, Bool.false_or, decide_eq_true_eq]; exact Nat.not_lt.2 hg),
      if_neg (by simp [hr]), if_pos hd]
  refine ⟨_, ht, Block.enterState_seen (by decide), Block.enterState_st hst.1, fun h => ?_, fun h => ?_, fun h => ?_⟩
  · dsimp only
    rcases (by omega : s.block.choose = 0 ∨ s.block.choose = 1) with h | h
    · rw [h, Block.enterState_run]
    · rw [h, Block.enterState, Block.modPower, Power.dozing_eq hst.1 hst.2]
  · dsimp only
    rw [h, Block.enterState_nap]
    exact ⟨rfl, rfl⟩
  · dsimp only
    rw [h, Block.enterState_kiln]
    exact ⟨rfl, rfl⟩

/-! ### Sources of a wake (R355, R468, R471) -/

theorem activeUsExpiry_wakes (hs : s.block.power.st = .doze) (ha : s.block.active = false)
    (hw : s.block.power.waking = false) (hg : s.block.power.goal ≠ .off) :
    ∃ t, exec .activeUsExpiry s = .next t ∧ t.block = { s.block with power := s.block.power.woken 4 } := by
  have ht : exec .activeUsExpiry s = .next { s with block := s.block.requestWake 4 } := by
    change execActiveUsExpiry s = _
    unfold execActiveUsExpiry
    rw [State.run_eq, if_pos (by simp [hs, ha])]
  refine ⟨_, ht, ?_⟩
  dsimp only
  rw [Block.requestWake, Block.modPower, Power.wake_woken (by simp [hs]) hg hw (by simp [hs])]

theorem wakeTimerExpiry_wakes {g : Gt} (hg : s.block.power.wakeTimer = some g) (hge : g ≤ s.block.gt)
    (hr : s.block.power.st ≠ .run) (ho : s.block.power.st ≠ .off) (hw : s.block.power.waking = false)
    (hf : s.block.power.goal ≠ .off) :
    ∃ t, exec .wakeTimerExpiry s = .next t ∧
      t.block = { s.block with power := { s.block.power.woken 4 with wakeTimer := none } } := by
  have ht : exec .wakeTimerExpiry s = .next { s with
      block := (s.block.modPower (fun p => { p with wakeTimer := none })).requestWake 4 } := by
    change execWakeTimerExpiry s = _
    unfold execWakeTimerExpiry
    rw [State.run_eq, hg]
    dsimp only
    rw [if_pos hge]
  have hk := Power.wake_woken (p := { s.block.power with wakeTimer := none }) (n := 4) ho hf hw (fun h => absurd h hr)
  refine ⟨_, ht, ?_⟩
  dsimp only
  rw [Block.requestWake, Block.modPower, Block.modPower]
  dsimp only
  rw [hk]
  unfold Power.woken
  have hl : ({ s.block.power with wakeTimer := none } : Power).lowering = s.block.power.lowering := rfl
  rw [hl]
  split <;> rfl

theorem powerHoldExpiry_ends {f : Fin 65} {fl : Nat} {g : Gt} (hh : (s.block.tenant f).hold = some (fl, g))
    (hg : g ≤ s.block.gt) :
    ∃ t, exec (.powerHoldExpiry f) s = .next t ∧ t.block.seen [.tenants] = s.block.seen [.tenants] ∧
      ∀ k, t.block.tenant k = if k = f.val then { s.block.tenant k with hold := none } else s.block.tenant k := by
  refine ⟨_, rfl, Block.modTenant_seen (by decide) (fun _ => rfl), fun k => ?_⟩
  dsimp only
  rw [Block.tenant_modTenant_ite]
  split
  · rename_i e
    subst e
    rw [hh]
    dsimp only
    rw [if_pos hg]
  · rfl

theorem wakeRequest_wakes {a : WakeSrc} {rest : List WakeSrc} (ho : s.block.power.st ≠ .off)
    (hw : s.block.power.waking = false) (hg : s.block.power.goal ≠ .off) :
    ∃ t, exec (.wakeRequest (a :: rest)) s = .next t ∧
      (s.block.power.st ≠ .run →
        t.block = { s.block with power := s.block.power.woken ((rest.map wakeNo).foldl min (wakeNo a)) }) ∧
      (s.block.power.st = .run → s.block.power.goal ≠ .run → s.block.power.clkReq = true → t.block = { s.block with
        power := { s.block.power with
          goal := .run, retReq := s.block.power.retReq && !s.block.power.retGnt, wakeTimer := none } }) ∧
      (s.block.power.st = .run → s.block.power.goal ≠ .run → s.block.power.clkReq = false → t.block = { s.block with
        power := s.block.power.woken ((rest.map wakeNo).foldl min (wakeNo a)) }) := by
  have ht : exec (.wakeRequest (a :: rest)) s =
      .next { s with block := s.block.requestWake ((rest.map wakeNo).foldl min (wakeNo a)) } := rfl
  refine ⟨_, ht, fun hr => ?_, fun hr hn hc => ?_, fun hr hn hc => ?_⟩
  · dsimp only
    rw [Block.requestWake, Block.modPower, Power.wake_woken ho hg hw (fun h => absurd h hr)]
  · dsimp only
    rw [Block.requestWake, Block.modPower, Power.wake_reversed hr hn hg hw hc]
  · dsimp only
    rw [Block.requestWake, Block.modPower, Power.wake_woken ho hg hw (fun _ => ⟨hn, hc⟩)]

end

end Sys2Proof.Machine


namespace Sys2Proof.Machine

section
variable {s : State} {b c : Block} {p q : Power} {n m o k st : Nat}

/-! ### The brew domain reaches Run (R33, R43, R468, R469) -/

/-- A strobe of cause WAKE goes out whether or not a tap can take it (R43). -/
theorem Block.wakeStrobe_strobeNum {taps : List Nat} :
    (b.strobe st 6 taps 0).time.strobeNum = b.time.strobeNum + 1 := by
  have hi : (b.issueStrobe st 6 (taps.filter b.able) 0).time.strobeNum = b.time.strobeNum + 1 := by
    rw [Block.time_of_steady Block.issueStrobe_steady, Block.strobed_time]
  unfold Block.strobe
  dsimp only
  rw [if_neg (by simp [eagerCause]), if_pos (by decide)]
  exact hi

theorem Block.wakeStrobes_strobeNum : b.wakeStrobes.time.strobeNum = b.time.strobeNum + 32 := by
  have h : ∀ (l : List Nat) (b : Block),
      (b.each l (fun b st => b.strobe st 6 (tapsOf st) 0)).time.strobeNum = b.time.strobeNum + l.length := by
    intro l
    induction l with
    | nil => exact fun _ => rfl
    | cons x l ih =>
      intro b
      refine (ih _).trans ?_
      dsimp only
      rw [Block.wakeStrobe_strobeNum, List.length_cons, Nat.add_right_comm, Nat.add_assoc]
  have hl : allStations.length = 32 := List.length_range
  unfold Block.wakeStrobes
  rw [h, hl]

theorem Block.realign_strobeNum : b.realign.time.strobeNum = b.time.strobeNum := by
  by_cases h : b.alignedNow = b.time.aligned
  · rw [Block.realign_of_same h]
  · obtain ⟨body, ha⟩ := Block.advanceEpoch_steady (b := b.modTime (fun t => { t with aligned := b.alignedNow }))
      (reason := 3)
    rw [Block.realign_of_changed h, Block.time_of_steady Block.raise_steady, Block.time_of_steady ha]
    rfl

theorem Block.regionCatchUp_of_nil (h : b.time.regionAon = []) : b.regionCatchUp = b := by
  unfold Block.regionCatchUp
  rw [h]
  change b.modTime (fun t => { t with regionAon := [] }) = b
  rw [Block.modTime, ← h]

/-- A power state is another's but for the losses. -/
theorem Power.eq_of_lossless (h : p.lossless = q.lossless) :
    p = { q with lossSeen := p.lossSeen, lossNow := p.lossNow } :=
  congrArg (fun x : Power => { x with lossSeen := p.lossSeen, lossNow := p.lossNow }) h

/-- The time base once the clock runs again: loaded from the time keeper where no sample was (R33, R35). -/
def Block.timeBack (b : Block) : Block :=
  if (b.power.st == .nap || b.power.st == .kiln) && b.time.loadNext then
    b.modTime (fun t => { t with tb := t.aonGt * 2 ^ 24 }) else b

/-- The block once its power state is Run. -/
def Block.runBegun (b : Block) : Block :=
  b.timeBack.modPower (fun p => { p with
    st := .run, goal := .run, waking := false, retReq := p.retReq && !p.retGnt, wakeTimer := none
    wakeGt := b.timeBack.time.tb / 2 ^ 24, lowAsked := false })

theorem Block.timeBack_keeps : b.timeBack.power = b.power ∧ b.timeBack.tenants = b.tenants ∧ b.timeBack.meas = b.meas ∧
    b.timeBack.held = b.held ∧ b.timeBack.time.regionAon = b.time.regionAon ∧
    b.timeBack.time.strobeNum = b.time.strobeNum := by
  unfold Block.timeBack
  split <;> exact ⟨rfl, rfl, rfl, rfl, rfl, rfl⟩

/-- The block in Run, its stations strobed. -/
def Block.runStrobed (b : Block) : Block := b.runBegun.realign.wakeStrobes

/-- What follows in Run: changes of regions, strobes, and what has waited (R43, R49, R375, R456, R483). -/
def Block.runEntered (b : Block) : Block :=
  let b := b.realign.regionCatchUp.wakeStrobes.lateQuote.beginWaiting.completeHeld
  if b.power.blkPend then b.beginQuiesce else b

theorem Block.runStrobed_rested : b.runStrobed.rested = b.runBegun.rested :=
  Block.wakeStrobes_rested.trans Block.realign_rested

theorem Block.runStrobed_seen : b.runStrobed.seen [.taps, .views, .stations, .cask, .tenants, .power, .time] =
    b.runBegun.seen [.taps, .views, .stations, .cask, .tenants, .power, .time] := by
  rw [Block.runStrobed, Block.wakeStrobes_seen (by decide), Block.realign_seen (by decide)]

theorem Time.tb_of_base {t u : Time} (h : t.base = u.base) : t.tb = u.tb ∧ t.regionAon = u.regionAon :=
  ⟨(congrArg Time.tb h :), (congrArg Time.regionAon h :)⟩

/-- With nothing that waited for Run, reaching it strobes every station and does nothing else (R43). -/
theorem Block.reachRun_eq (hh : b.held = []) (hb : b.power.blkPend = false) (hq : b.meas.quotePend = false)
    (ha : b.time.regionAon = []) (hr : ∀ n, n < 64 → (b.tenant n).rstWait = false) : b.reachRun = b.runStrobed := by
  obtain ⟨kp, kt, km, kh, ka, -⟩ := Block.timeBack_keeps (b := b)
  have h1 : b.runBegun.realign.time.regionAon = [] :=
    ((Time.tb_of_base (Block.time_of_rested (Block.realign_rested (b := b.runBegun)))).2.trans ka).trans ha
  have h2 : b.runStrobed.meas.quotePend = false := by
    rw [Block.meas_of_seen Block.runStrobed_seen (by decide)]
    exact (congrArg Meas.quotePend km).trans hq
  have h3 : ∀ n, n < 64 → (b.runStrobed.tenant n).rstWait = false := fun n hn => by
    rw [Block.rstWait_of_rested Block.runStrobed_rested]
    change (tget (tenantReset n) b.timeBack.tenants n).rstWait = false
    rw [kt]
    exact hr n hn
  have h4 : b.runStrobed.held = [] := by
    rw [Block.held_of_seen Block.runStrobed_seen (by decide)]
    exact kh.trans hh
  have h5 : b.runStrobed.power.blkPend = false := by
    have h := congrArg Power.blkPend (Block.power_of_rested (Block.runStrobed_rested (b := b)))
    dsimp only [Power.lossless] at h
    rw [h]
    exact (congrArg Power.blkPend kp).trans hb
  have he : b.reachRun = b.runBegun.runEntered := by
    unfold Block.reachRun Block.runEntered Block.runBegun Block.timeBack
    dsimp only
  have hx : b.runBegun.realign.regionCatchUp.wakeStrobes = b.runStrobed := by
    rw [Block.regionCatchUp_of_nil h1]
    rfl
  rw [he, Block.runEntered, hx, Block.lateQuote_of_none h2, Block.beginWaiting_of_none h3, Block.completeHeld_of_nil h4, h5,
    if_neg Bool.false_ne_true]

theorem blockWake_runs (hw : s.block.power.waking = true) (hg : s.block.power.goal = .run)
    (hs : s.block.power.st = .doze ∨ ((s.block.power.st = .nap ∨ s.block.power.st = .kiln) ∧
      s.block.power.brewGnt = true ∧ s.block.power.clkGnt = true ∧ s.block.time.locked = true))
    (hh : s.block.held = []) (hb : s.block.power.blkPend = false) (hq : s.block.meas.quotePend = false)
    (ha : s.block.time.regionAon = []) (hr : ∀ n, n < 64 → (s.block.tenant n).rstWait = false) :
    ∃ t, exec .blockWake s = .next t ∧ t.block.power = { s.block.power with
        st := .run, goal := .run, waking := false, retReq := s.block.power.retReq && !s.block.power.retGnt
        wakeTimer := none, lowAsked := false
        wakeGt := t.block.time.tb / 2 ^ 24, lossSeen := t.block.power.lossSeen, lossNow := t.block.power.lossNow } ∧
      t.block.time.tb = (if s.block.power.st ≠ .doze ∧ s.block.time.loadNext = true then s.block.time.aonGt * 2 ^ 24
        else s.block.time.tb) ∧
      t.block.time.strobeNum = s.block.time.strobeNum + 32 := by
  have ht : exec .blockWake s = .next { s with block := s.block.runStrobed } := by
    rw [← Block.reachRun_eq hh hb hq ha hr]
    change execBlockWake s = _
    unfold execBlockWake
    rw [State.run_eq]
    dsimp only
    rw [if_pos]
    rcases hs with h | ⟨h | h, h1, h2, h3⟩
    · simp [hw, hg, h]
    · simp [hw, hg, h, h1, h2, h3]
    · simp [hw, hg, h, h1, h2, h3]
  obtain ⟨kp, -, -, -, -, kn⟩ := Block.timeBack_keeps (b := s.block)
  have htb : s.block.runStrobed.time.tb = s.block.timeBack.time.tb :=
    (Time.tb_of_base (Block.time_of_rested Block.runStrobed_rested)).1
  refine ⟨_, ht, ?_, ?_, ?_⟩
  · have hp := Power.eq_of_lossless (Block.power_of_rested (Block.runStrobed_rested (b := s.block)))
    dsimp only
    rw [htb]
    refine hp.trans ?_
    rw [Block.runBegun, Block.modPower, kp]
  · dsimp only
    rw [htb, Block.timeBack]
    rcases hs with h | ⟨h | h, -⟩
    · rw [if_neg (by simp [h]), if_neg (by simp [h])]
    · by_cases hl : s.block.time.loadNext = true
      · rw [if_pos (by simp [h, hl]), if_pos (by simp [h, hl])]
        rfl
      · rw [if_neg (by simp [h, hl]), if_neg (by simp [h, hl])]
    · by_cases hl : s.block.time.loadNext = true
      · rw [if_pos (by simp [h, hl]), if_pos (by simp [h, hl])]
        rfl
      · rw [if_neg (by simp [h, hl]), if_neg (by simp [h, hl])]
  · dsimp only
    rw [Block.runStrobed, Block.wakeStrobes_strobeNum, Block.realign_strobeNum]
    exact congrArg (· + 32) kn

end

end Sys2Proof.Machine


namespace Sys2Proof.Machine

section
variable {s : State} {b c : Block} {p q : Power} {n m o k st : Nat} {level : Bool}

/-! ### The grants (R473, R498) -/

/-- Boot begins when supply and clock are granted at Full speed (R480). -/
def Block.bootable (b : Block) : Prop :=
  b.power.phase = 0 ∧ b.power.st = .run ∧ b.power.brewGnt = true ∧ b.power.clkGnt = true ∧ b.power.low = false

theorem Block.bootBegins_of_not (h : ¬ b.bootable) : b.bootBegins = b := by
  unfold Block.bootBegins
  rw [if_neg]
  simp only [Bool.and_eq_true, decide_eq_true_eq, beq_iff_eq, Bool.not_eq_true', Block.bootable] at h ⊢
  tauto

theorem Block.bootBegins_of_bootable (h : b.bootable) : b.bootBegins.power.Follows { b.power with phase := 1 } := by
  obtain ⟨h1, h2, h3, h4, h5⟩ := h
  unfold Block.bootBegins
  rw [if_pos (by simp [h1, h2, h3, h4, h5])]
  exact Block.beginWaiting_follows.trans ⟨rfl, rfl, rfl, rfl, id⟩

/-- The start of Boot leaves the grants, the speed, and a clock asked for. -/
theorem Block.bootBegins_grants : b.bootBegins.power.brewGnt = b.power.brewGnt ∧
    b.bootBegins.power.clkGnt = b.power.clkGnt ∧ b.bootBegins.power.low = b.power.low ∧
    (b.power.clkReq = true → b.bootBegins.power.clkReq = true) := by
  by_cases h : b.bootable
  · obtain ⟨h1, h2, h3, -, h5⟩ := Block.bootBegins_of_bootable h
    exact ⟨h1, h2, h3, h5⟩
  · rw [Block.bootBegins_of_not h]
    exact ⟨rfl, rfl, rfl, id⟩

/-- The steps down to Nap and Kiln change no grant, speed or phase, and no clock asked for (R498). -/
theorem Block.sleepStep_follows : b.sleepStep.power.Follows b.power := by
  unfold Block.sleepStep
  dsimp only
  split
  · dsimp only [Block.modPower]
    split
    · exact Power.climb_follows.trans ⟨rfl, rfl, rfl, rfl, id⟩
    · exact ⟨rfl, rfl, rfl, rfl, id⟩
  · split
    · dsimp only [Block.modPower]
      split
      · exact Power.climb_follows.trans ⟨rfl, rfl, rfl, rfl, id⟩
      · exact ⟨rfl, rfl, rfl, rfl, id⟩
    · exact .refl _

theorem powerGrant_ret (ho : s.block.power.st ≠ .off) :
    ∃ t, exec (.powerGrant .ret level) s = .next t ∧ (s.block.power.retReq ≠ level → t.block = s.block) ∧
      (s.block.power.retReq = level → t.block = { s.block with power := { s.block.power with
        retGnt := level, clkReq := if level = true ∧ s.block.power.goal = .kiln then false else s.block.power.clkReq
        retReq := if s.block.power.goal = .kiln then
            (if level then s.block.power.retReq else s.block.power.retReq || !s.block.power.waking)
          else s.block.power.retReq && (s.block.power.retGnt || !level) } }) := by
  have ht : exec (.powerGrant .ret level) s = .next { s with
      block := if s.block.power.retReq != level then s.block else s.block.modPower (fun p => p.retain level) } := by
    change execPowerGrant .ret level s = _
    unfold execPowerGrant
    rw [State.run_eq]
    dsimp only
    rw [if_neg (by simpa using ho)]
  refine ⟨_, ht, fun h => ?_, fun h => ?_⟩
  · dsimp only
    rw [if_pos (by simpa using h)]
  · dsimp only
    rw [if_neg (by simpa using h), Block.modPower]
    have hr : s.block.power.retain level = { s.block.power with
        retGnt := level, clkReq := if level = true ∧ s.block.power.goal = .kiln then false else s.block.power.clkReq
        retReq := if s.block.power.goal = .kiln then
            (if level then s.block.power.retReq else s.block.power.retReq || !s.block.power.waking)
          else s.block.power.retReq && (s.block.power.retGnt || !level) } := by
      unfold Power.retain
      by_cases hk : s.block.power.goal = .kiln
      · cases level <;> simp [hk]
      · simp [hk]
    rw [hr]

/-- The power state with the supply's grant at `level`: a wake that waited asks for the clock. -/
def Power.supplied (p : Power) (level : Bool) : Power :=
  if level && p.waking then ({ p with brewGnt := level } : Power).askClock else { p with brewGnt := level }

theorem powerGrant_brew (ho : s.block.power.st ≠ .off) :
    ∃ t, exec (.powerGrant .brew level) s = .next t ∧ (s.block.power.brewReq ≠ level → t.block = s.block) ∧
      (s.block.power.brewReq = level → t.block.power.brewGnt = level ∧
        (level = true → s.block.power.waking = true → t.block.power.clkReq = true) ∧
        (s.block.power.phase = 0 → s.block.power.st = .run → s.block.power.clkGnt = true → s.block.power.low = false →
          level = true → t.block.power.phase = 1)) := by
  have ht : exec (.powerGrant .brew level) s = .next { s with
      block := if s.block.power.brewReq != level then s.block
        else (s.block.modPower (fun p => p.supplied level)).bootBegins.sleepStep } := by
    change execPowerGrant .brew level s = _
    unfold execPowerGrant
    rw [State.run_eq]
    dsimp only
    rw [if_neg (by simpa using ho)]
    rfl
  have hsup : (s.block.power.supplied level).brewGnt = level ∧ (s.block.power.supplied level).phase = s.block.power.phase ∧
      (s.block.power.supplied level).st = s.block.power.st ∧ (s.block.power.supplied level).clkGnt = s.block.power.clkGnt ∧
      (s.block.power.supplied level).low = s.block.power.low := by
    unfold Power.supplied
    split <;> exact ⟨rfl, rfl, rfl, rfl, rfl⟩
  obtain ⟨g1, g2, g3, g4, g5⟩ := hsup
  refine ⟨_, ht, fun h => ?_, fun h => ?_⟩
  · dsimp only
    rw [if_pos (by simpa using h)]
  · dsimp only
    rw [if_neg (by simpa using h)]
    obtain ⟨f1, -, -, f4, f5⟩ := Block.sleepStep_follows (b := (s.block.modPower (fun p => p.supplied level)).bootBegins)
    obtain ⟨b1, -, -, b4⟩ := Block.bootBegins_grants (b := s.block.modPower (fun p => p.supplied level))
    refine ⟨f1.trans (b1.trans g1), fun hl hw => f5 (b4 ?_), fun h1 h2 h3 h4 hl => ?_⟩
    · change (s.block.power.supplied level).clkReq = true
      unfold Power.supplied
      rw [if_pos (by simp [hl, hw])]
      rfl
    · have hboot : (s.block.modPower (fun p => p.supplied level)).bootable :=
        ⟨g2.trans h1, g3.trans h2, g1.trans hl, g4.trans h3, g5.trans h4⟩
      obtain ⟨-, -, -, hph, -⟩ := Block.bootBegins_of_bootable hboot
      exact f4.trans hph

/-- The block with the clock's grant at `level`: a clock granted anew runs at the speed asked for. -/
def Block.clocked (b : Block) (level : Bool) : Block :=
  if level && !b.power.clkGnt then (b.modPower (fun q => { q with clkGnt := level })).newSpeed
  else b.modPower (fun q => { q with clkGnt := level })

theorem Power.speed_eq (h : p.low = p.lowAsked) : ({ p with low := p.lowAsked } : Power) = p := by
  cases p
  dsimp only at h
  subst h
  rfl

theorem Block.newSpeed_power : b.newSpeed.power = { b.power with low := b.power.lowAsked } := by
  unfold Block.newSpeed
  dsimp only
  split
  · rename_i h
    exact (Power.speed_eq (beq_iff_eq.1 h)).symm
  · rfl

theorem Block.clocked_off : b.clocked false = b.modPower (fun q => { q with clkGnt := false }) := by
  unfold Block.clocked
  rw [Bool.false_and, if_neg Bool.false_ne_true]

theorem Block.clocked_clkGnt : (b.clocked level).power.clkGnt = level := by
  unfold Block.clocked
  split
  · rw [Block.newSpeed_power]
    rfl
  · rfl

/-- Without the clock the steps down go on: the supply follows it for Kiln, and Nap is reached (R35, R498). -/
theorem Block.sleepStep_of_unclocked (hs : b.power.st = .run) (hg : b.power.goal = .nap ∨ b.power.goal = .kiln)
    (hc : b.power.clkGnt = false) (hw : b.power.waking = false) : b.sleepStep =
    (b.modTime (fun t => { t with aonGt := b.gt, locked := false, good := 0, loadNext := true })).modPower (fun p =>
      { p with
        st := if p.goal == .kiln && !p.brewGnt then .kiln else .nap, brewReq := p.brewReq && p.goal != .kiln }) := by
  unfold Block.sleepStep
  dsimp only
  rw [if_pos (by rcases hg with h | h <;> simp [hs, h, hc])]
  dsimp only [Block.modPower]
  rw [show (b.modTime (fun t => { t with aonGt := b.gt, locked := false, good := 0, loadNext := true })).power.waking = false
    from hw, if_neg Bool.false_ne_true]

theorem powerGrant_clk (ho : s.block.power.st ≠ .off) :
    ∃ t, exec (.powerGrant .clk level) s = .next t ∧ (s.block.power.clkReq ≠ level → t.block = s.block) ∧
      (s.block.power.clkReq = level → t.block.power.clkGnt = level ∧
        (level = true → s.block.power.clkGnt = false → t.block.power.low = s.block.power.lowAsked)) ∧
      (s.block.power.clkReq = false → level = false → s.block.power.st = .run → s.block.power.goal = .kiln →
        s.block.power.waking = false → t.block.power.brewReq = false) ∧
      (s.block.power.clkReq = false → level = false → s.block.power.st = .run → s.block.power.goal = .nap →
        s.block.power.waking = false → t.block.power.st = .nap ∧ t.block.power.brewReq = s.block.power.brewReq ∧
        t.block.time.aonGt = s.block.gt ∧ t.block.time.locked = false ∧ t.block.time.loadNext = true) := by
  have ht : exec (.powerGrant .clk level) s = .next { s with
      block := if s.block.power.clkReq != level then s.block else (s.block.clocked level).bootBegins.sleepStep } := by
    change execPowerGrant .clk level s = _
    unfold execPowerGrant
    rw [State.run_eq]
    dsimp only
    rw [if_neg (by simpa using ho)]
    rfl
  have hdown : s.block.power.clkReq = false → level = false → s.block.power.st = .run →
      s.block.power.goal = .nap ∨ s.block.power.goal = .kiln → s.block.power.waking = false →
      (if s.block.power.clkReq != level then s.block else (s.block.clocked level).bootBegins.sleepStep) =
        (s.block.clocked false).sleepStep := by
    rintro h1 rfl h3 h4 h5
    have hb : ¬ (s.block.clocked false).bootable := fun h => by
      have hc := h.2.2.2.1
      rw [Block.clocked_clkGnt] at hc
      exact absurd hc Bool.false_ne_true
    rw [if_neg (by simp [h1]), Block.bootBegins_of_not hb]
  refine ⟨_, ht, fun h => ?_, fun h => ?_, fun h1 h2 h3 h4 h5 => ?_, fun h1 h2 h3 h4 h5 => ?_⟩
  · dsimp only
    rw [if_pos (by simpa using h)]
  · dsimp only
    rw [if_neg (by simpa using h)]
    obtain ⟨-, f2, f3, -, -⟩ := Block.sleepStep_follows (b := (s.block.clocked level).bootBegins)
    obtain ⟨-, b2, b3, -⟩ := Block.bootBegins_grants (b := s.block.clocked level)
    refine ⟨f2.trans (b2.trans Block.clocked_clkGnt), fun hl hc => f3.trans (b3.trans ?_)⟩
    unfold Block.clocked
    rw [if_pos (by simp [hl, hc]), Block.newSpeed_power]
    rfl
  · dsimp only
    rw [hdown h1 h2 h3 (.inr h4) h5, Block.clocked_off, Block.sleepStep_of_unclocked (b := s.block.modPower (fun q =>
      { q with clkGnt := false })) h3 (.inr h4) rfl h5]
    change (s.block.power.brewReq && s.block.power.goal != .kiln) = false
    simp [h4]
  · dsimp only
    rw [hdown h1 h2 h3 (.inl h4) h5, Block.clocked_off, Block.sleepStep_of_unclocked (b := s.block.modPower (fun q =>
      { q with clkGnt := false })) h3 (.inl h4) rfl h5]
    refine ⟨?_, ?_, rfl, rfl, rfl⟩
    · change (if s.block.power.goal == .kiln && !s.block.power.brewGnt then PState.kiln else .nap) = .nap
      simp [h4]
    · change (s.block.power.brewReq && s.block.power.goal != .kiln) = s.block.power.brewReq
      simp [h4]

/-! ### The speed of the clock (R467, R469) -/

theorem clockSpeedAck_boots (h0 : s.block.power.phase = 0) (hs : s.block.power.st = .run)
    (hb : s.block.power.brewGnt = true) (hc : s.block.power.clkGnt = true) (hl : s.block.power.low = true)
    (ha : s.block.power.lowAsked = false) :
    ∃ t, exec .clockSpeedAck s = .next t ∧ t.block.power.phase = 1 ∧ t.block.power.low = false := by
  have ht : exec .clockSpeedAck s = .next { s with block :=
      (if s.block.newSpeed.bootBegins.running then s.block.newSpeed.bootBegins.nextWalk
        else s.block.newSpeed.bootBegins) } := by
    change execClockSpeedAck s = _
    unfold execClockSpeedAck
    rw [State.run_eq, if_neg (by simp [hs, hl, ha])]
  have hboot : s.block.newSpeed.bootable := by
    unfold Block.bootable
    rw [Block.newSpeed_power]
    exact ⟨h0, hs, hb, hc, ha⟩
  obtain ⟨-, -, b3, b4, -⟩ := Block.bootBegins_of_bootable hboot
  have hlow : s.block.newSpeed.bootBegins.power.low = false := by
    rw [b3, Block.newSpeed_power]
    exact ha
  have hn : ∀ c : Block, c.nextWalk.power.phase = c.power.phase ∧ c.nextWalk.power.low = c.power.low := by
    intro c
    unfold Block.nextWalk Block.startWalk
    split
    · dsimp only
      split <;> exact ⟨rfl, rfl⟩
    · exact ⟨rfl, rfl⟩
  refine ⟨_, ht, ?_⟩
  dsimp only
  split
  · rw [(hn _).1, (hn _).2]
    exact ⟨b4, hlow⟩
  · exact ⟨b4, hlow⟩

theorem clockSpeedAck_slows (ho : s.block.power.st ≠ .off) (hl : s.block.power.low ≠ s.block.power.lowAsked)
    (h0 : s.block.power.phase ≠ 0) (hr : s.block.running = false ∨ s.block.sync.walkAgain = false) :
    ∃ t, exec .clockSpeedAck s = .next t ∧ t.block = { s.block with
      power := { s.block.power with low := s.block.power.lowAsked }
      time := { s.block.time with
        rate := if s.block.power.lowAsked then s.block.time.rate * 4 else s.block.time.rate / 4 } } := by
  have hb : ¬ s.block.newSpeed.bootable := fun h => by
    have hp := h.1
    rw [Block.newSpeed_power] at hp
    exact h0 hp
  have hn : s.block.newSpeed = { s.block with
      power := { s.block.power with low := s.block.power.lowAsked }
      time := { s.block.time with
        rate := if s.block.power.lowAsked then s.block.time.rate * 4 else s.block.time.rate / 4 } } := by
    unfold Block.newSpeed
    dsimp only
    rw [if_neg (by simpa using hl)]
    rfl
  have ht : exec .clockSpeedAck s = .next { s with block := s.block.newSpeed } := by
    change execClockSpeedAck s = _
    unfold execClockSpeedAck
    rw [State.run_eq, if_neg (by simp [ho, hl])]
    dsimp only
    rw [Block.bootBegins_of_not hb]
    have hrun : s.block.newSpeed.running = s.block.running := by
      unfold Block.running
      rw [Block.newSpeed_power]
    rcases hr with h | h
    · rw [hrun, h, if_neg Bool.false_ne_true]
    · have hw : s.block.newSpeed.nextWalk = s.block.newSpeed := by
        unfold Block.nextWalk
        rw [hn]
        dsimp only
        rw [h, Bool.false_and, if_neg Bool.false_ne_true]
      rw [hw, ite_self]
  exact ⟨_, ht, hn⟩

end

/-- Settles O57: each power event by the power state that it leaves. -/
theorem powerEventsAct : Obligations.PowerEventsAct := by
  rintro s _ w rfl hw
  obtain rfl : w = fun n => s.block.power.woken n := funext hw
  exact ⟨powerStateChoose_waits, fun hr hb _ hg => powerStateChoose_running hr hb hg, powerStateChoose_dozing,
    activeUsExpiry_wakes, fun g hg hge hr ho hwk hf => wakeTimerExpiry_wakes hg hge hr ho hwk hf,
    fun f fl g hh hg => powerHoldExpiry_ends hh hg, fun a rest ho hwk hg => wakeRequest_wakes ho hwk hg, blockWake_runs,
    fun level ho => ⟨powerGrant_ret ho, powerGrant_brew ho, powerGrant_clk ho⟩, clockSpeedAck_boots, clockSpeedAck_slows⟩

end Sys2Proof.Machine


/-! ## Frames that a port accepts, and the fabric offset (R54 to R56, R418 to R420, R435) -/

namespace Sys2Proof.Machine

section
variable {s : State} {b B : Block} {n m k p : Nat} {f g : Frame}

/-! ### An arriving frame (R418 to R420, R439) -/

/-- Opening a frame changes its payload only (R439). -/
theorem openFrame_header {key : Key} (h : openFrame key f = some g) : g = { f with payload := g.payload } := by
  unfold openFrame at h
  split at h
  · rw [← Option.some.inj h]
  · exact absurd h (by simp)

theorem Block.hearsFrame_header (h : b.hearsFrame p f g) : g = { f with payload := g.payload } := by
  obtain ⟨-, -, -, -, -, -, -, -, -, h⟩ := h
  rcases h with ⟨-, rfl⟩ | ⟨key, -, -, h⟩
  · rfl
  · exact openFrame_header h

/-- The block with the link state of its ports replaced. -/
def Block.setPorts (b : Block) (P : Tbl HopPort) : Block := b.modHop (fun h => { h with ports := P })

/-- `B` differs from the block in the state of its ports only. -/
def Block.PortsOnly (b B : Block) : Prop := ∃ P, B = b.setPorts P

theorem Block.PortsOnly.modHopPort {x : HopPort → HopPort} (h : b.PortsOnly B) : b.PortsOnly (B.modHopPort n x) := by
  obtain ⟨P, rfl⟩ := h
  exact ⟨tmod {} P n x, rfl⟩

theorem Block.PortsOnly.refl (b : Block) : b.PortsOnly b := ⟨b.hop.ports, rfl⟩

/-- A frame that nothing of the replay buffer answers only returns credit (R418, R420). -/
theorem Block.linkAct_idle (hr : (b.hopPort p).replay = []) (hn : g.nak = false) : b.linkAct p g = b.modHopPort p (fun x =>
    { x with
      credits := min 1024 (x.credits + g.cred.toNat), replay := [], resend := x.resend.filter (fun _ => false)
      resends := x.resends, sentGt := x.sentGt }.stampAck) := by
  have ha : (b.hopPort p).acked g.lack.toNat = 0 := by
    unfold HopPort.acked
    rw [hr]
  unfold Block.linkAct
  dsimp only
  rw [ha, hr, hn]
  rfl

theorem Block.unseal_hears (h : ((b.hopPort p).compat = false ∧ g = f) ∨
    ∃ key, (b.hopPort p).compat = true ∧ (b.hopPort p).rxKeyOf f.kph = some key ∧ openFrame key f = some g) :
    b.unseal p f = (some g, b) := by
  unfold Block.unseal
  dsimp only
  rcases h with ⟨hc, rfl⟩ | ⟨key, hc, hk, ho⟩
  · rw [hc]
    rfl
  · rw [hc, hk]
    dsimp only
    rw [ho]
    rfl

theorem HopPort.awaitsKey_of_hears {x : HopPort} (h : (x.compat = false ∧ g = f) ∨
    ∃ key, x.compat = true ∧ x.rxKeyOf f.kph = some key ∧ openFrame key f = some g) : x.awaitsKey f = false := by
  unfold HopPort.awaitsKey
  rcases h with ⟨hc, -⟩ | ⟨key, hc, hk, -⟩
  · simp [hc]
  · simp [hk]

/-- What acceptance makes of a port with nothing to resend: the next number, the neighbour, and credit (R418, R420). -/
def HopPort.accepted (x : HopPort) (f g : Frame) : HopPort :=
  { x with
    rxNext := (x.rxNext + 1) % 2 ^ 16
    node := if definedType x.version f.ftype.toNat && (decide (f.ftype.toNat ≤ 4) || decide (f.ftype.toNat = 0xA)) then
      f.src.toNat else x.node
    credits := min 1024 (x.credits + g.cred.toNat), replay := [], resend := x.resend.filter (fun _ => false)
    resends := x.resends, sentGt := x.sentGt }.stampAck

theorem Block.accept_hears (h : b.hearsFrame p f g) : ∃ B, b.accept p f = (some g, B) ∧ b.PortsOnly B ∧
    B.hopPort p = (b.hopPort p).accepted f g := by
  obtain ⟨-, -, hre, -, hnak, hun, hcrc, hseq, -, hopen⟩ := h
  have ha := HopPort.awaitsKey_of_hears hopen
  have hu : (b.modHopPort p (fun x => { x with rxNext := (x.rxNext + 1) % 2 ^ 16 })).unseal p f =
      (some g, b.modHopPort p (fun x => { x with rxNext := (x.rxNext + 1) % 2 ^ 16 })) := by
    refine Block.unseal_hears ?_
    rw [Block.hopPort_modHopPort]
    exact hopen
  have hb := Block.PortsOnly.refl b
  unfold Block.accept
  dsimp only
  rw [hun, if_neg Bool.false_ne_true, hcrc, beq_self_eq_true, if_neg (by decide), if_neg (by simp [hseq]), ha,
    if_neg Bool.false_ne_true, hu]
  dsimp only
  split
  · rename_i hc
    rw [Block.linkAct_idle (by rw [Block.hopPort_modHopPort, Block.hopPort_modHopPort]; exact hre) hnak]
    refine ⟨_, rfl, hb.modHopPort.modHopPort.modHopPort, ?_⟩
    rw [Block.hopPort_modHopPort, Block.hopPort_modHopPort, Block.hopPort_modHopPort, HopPort.accepted, hc]
    rfl
  · rename_i hc
    rw [Block.linkAct_idle (by rw [Block.hopPort_modHopPort]; exact hre) hnak]
    refine ⟨_, rfl, hb.modHopPort.modHopPort, ?_⟩
    rw [Block.hopPort_modHopPort, Block.hopPort_modHopPort, HopPort.accepted, Bool.eq_false_iff.2 hc]
    rfl

end

end Sys2Proof.Machine


namespace Sys2Proof.Machine

section
variable {s : State} {b B : Block} {n m k p : Nat} {f g : Frame}

/-- What an accepted frame makes of its port, its buffer space returned (R418, R420). -/
theorem HopPort.accepted_received {x : HopPort} (h1 : x.replay = []) (h2 : x.resend = [])
    (hd : definedType x.version f.ftype.toNat = true) (hg : g.cred = f.cred) (hf : flitsOf x.compat g = flitsOf x.compat f) :
    ({ x.accepted f g with credRet := (x.accepted f g).credRet + flitsOf (x.accepted f g).compat g } : HopPort) =
      { x with
        rxNext := (x.rxNext + 1) % 2 ^ 16
        node := if f.ftype.toNat ≤ 4 ∨ f.ftype.toNat = 0xA then f.src.toNat else x.node
        credits := min 1024 (x.credits + f.cred.toNat)
        credRet := x.credRet + flitsOf x.compat f }.stampAck := by
  cases x
  dsimp only at h1 h2 hd hf
  subst h1 h2
  unfold HopPort.accepted HopPort.stampAck
  dsimp only
  rw [hd, hg, hf]
  simp only [Bool.true_and, Bool.or_eq_true, decide_eq_true_eq, List.filter_nil]

theorem Block.receive_hears (h : b.hearsFrame p f g) : ∃ B, (∀ act, b.receive p f true keepNone act = act B g) ∧
    b.PortsOnly B ∧ B.hopPort p = (b.received p f).hopPort p := by
  obtain ⟨C, hacc, ⟨P, rfl⟩, hC⟩ := Block.accept_hears h
  have hg := Block.hearsFrame_header h
  obtain ⟨hrun, hst, hre, hrs, -, -, -, -, hdef, -⟩ := h
  have hft : g.ftype = f.ftype := by rw [hg]
  have hst' : ((b.setPorts P).hopPort p).st = .up := by
    rw [hC]
    exact hst
  have hdef' : definedType ((b.setPorts P).hopPort p).version g.ftype.toNat = true := by
    rw [hC, hft]
    exact hdef
  refine ⟨(b.setPorts P).consume p g, fun act => ?_, Block.PortsOnly.modHopPort ⟨P, rfl⟩, ?_⟩
  · unfold Block.receive
    rw [hrun, if_neg (by simp [hst]), hacc]
    dsimp only
    rw [if_neg (by simp [hst']), hdef', if_neg (by decide), keepNone, if_neg Bool.false_ne_true]
  · rw [Block.consume, Block.hopPort_modHopPort, hC, Block.received, Block.hopPort_modHopPort]
    exact HopPort.accepted_received hre hrs hdef (by rw [hg]) (by rw [hg]; rfl)

/-- The body of an accepted frame is that of the frame that came. -/
theorem Block.fbody_hears (h : b.hearsFrame p f g) : fbody f k = fbody g k := by
  rw [Block.hearsFrame_header h]
  rfl

/-- A TSYNC frame that a port hears acts on the block, of which only ports have changed (R435). -/
theorem Block.receive_tsync (h : b.hearsFrame p f g) (ht : f.ftype = 3) (hk : fbody g 0 = k) :
    ∃ P, (∀ act, b.receive p f (isTsync f k) keepNone act = act (b.setPorts P) g) ∧
      (b.setPorts P).hopPort p = (b.received p f).hopPort p := by
  obtain ⟨_, hact, ⟨P, rfl⟩, hp⟩ := Block.receive_hears h
  have hrow : isTsync f k = true := by
    unfold isTsync
    rw [ht, Block.fbody_hears h, hk, beq_self_eq_true, beq_self_eq_true, Bool.and_self]
  exact ⟨P, fun act => by rw [hrow]; exact hact act, hp⟩

/-! ### Frames of a measurement (R435) -/

/-- The first bytes of a new frame's body. -/
theorem fbody_newFrame {t d : Nat} {pl l : List Byte} {v : Byte} (hk : k < 16) (h : l[k]? = some v) :
    fbody (b.newFrame t d l pl) k = v.toNat := by
  unfold fbody Block.newFrame padTo
  dsimp only
  have hl : k < l.length := (List.getElem?_eq_some_iff.1 h).1
  rw [List.getD_eq_getElem?_getD, List.getElem?_take_of_lt hk, List.getElem?_append_left hl, h]
  rfl

theorem Block.received_keeps : ((b.received p f).hopPort p).tsMeas = (b.hopPort p).tsMeas ∧
    ((b.received p f).hopPort p).tsStamps = (b.hopPort p).tsStamps ∧
    ((b.received p f).hopPort p).tsRsp = (b.hopPort p).tsRsp ∧ ((b.received p f).hopPort p).txq = (b.hopPort p).txq ∧
    ((b.received p f).hopPort p).alpha = (b.hopPort p).alpha := by
  rw [Block.received, Block.hopPort_modHopPort]
  exact ⟨rfl, rfl, rfl, rfl, rfl⟩

theorem Block.hopPort_sendOn_same {via : Nat} : (b.sendOn p f via).hopPort p =
    { b.hopPort p with txq := (b.hopPort p).txq ++ [(f, via)] } := Block.hopPort_modHopPort

/-! ### The child asks for a measurement (R55, R56) -/

theorem Block.tsyncCall_hop : b.tsyncCall.hop.tsMeas = some b.hop.tsNext ∧
    b.tsyncCall.hop.tsNext = (b.hop.tsNext + 1) % 256 ∧ b.tsyncCall.hop.tsStamps = [] ∧ b.tsyncCall.hop.callGt = b.gt :=
  ⟨rfl, rfl, rfl, rfl⟩

theorem tsyncPeriodExpiry_calls (hr : s.block.hopRuns = true) (hp : s.block.hasParent = true)
    (hm : s.block.hop.tsMeas = none) (hd : s.block.time.lastTsync + us s.block.time.tsyncUs ≤ s.block.gt) :
    exec .tsyncPeriodExpiry s = .next { s with block := s.block.tsyncCall } := by
  change execTsyncPeriodExpiry s = _
  unfold execTsyncPeriodExpiry
  rw [State.run_eq, if_pos (by simp [hr, hp, hm, hd])]

theorem tsyncIdleMeasure_calls (hr : s.block.hopRuns = true) (hp : s.block.hasParent = true)
    (hm : s.block.hop.tsMeas = none)
    (hd : max (s.block.hopPort s.block.hop.parent).traceGt s.block.time.lastTsync + us 10 ≤ s.block.gt) :
    exec .tsyncIdleMeasure s = .next { s with block := s.block.tsyncCall } := by
  change execTsyncIdleMeasure s = _
  unfold execTsyncIdleMeasure
  rw [State.run_eq, if_pos (by simp only [hr, hp, hm, hd, Option.isNone_none, Bool.and_self, decide_true])]

/-- A rejected measurement ends, is counted, and touches nothing else of the hop state and the time base (R55). -/
theorem Block.tsyncReject_hop_time {theta : Int} {delta : Nat} : (b.tsyncReject k theta delta).hop = { b.hop with tsMeas := none } ∧
    (b.tsyncReject k theta delta).time = { b.time with tsyncReject := satAdd 32 b.time.tsyncReject 1, lastTsync := b.gt } := by
  unfold Block.tsyncReject
  rw [Block.hop_of_seen (Block.finishLongs_seen (M := [.ports, .tenants, .power, .out]) (by decide)) (by decide),
    Block.time_of_seen (Block.finishLongs_seen (M := [.ports, .tenants, .power, .out]) (by decide)) (by decide)]
  exact ⟨rfl, rfl⟩

theorem tsyncFupTimeout_rejects (hm : s.block.hop.tsMeas ≠ none) (hd : s.block.hop.callGt + us 100 ≤ s.block.gt) :
    ∃ t, exec .tsyncFupTimeout s = .next t ∧ t.block.hop = { s.block.hop with tsMeas := none } ∧
      t.block.time = { s.block.time with
        tsyncReject := satAdd 32 s.block.time.tsyncReject 1, lastTsync := s.block.gt } := by
  have ht : exec .tsyncFupTimeout s = .next { s with block := s.block.tsyncReject 0 0 0 } := by
    change execTsyncFupTimeout s = _
    unfold execTsyncFupTimeout
    rw [State.run_eq, if_pos (by simp [Option.isSome_iff_ne_none.2 hm, hd])]
  exact ⟨_, ht, Block.tsyncReject_hop_time⟩

/-! ### The parent's side (R55, R435) -/

/-- A TSYNC frame of the block: a sub-type, the measurement, and the exchange. -/
def Block.tsyncFrame (b : Block) (sub n k : Nat) : Frame :=
  b.newFrame 3 0xFFF (leBytes 1 sub ++ leBytes 1 n ++ leBytes 1 k) []

theorem Block.tsyncFrame_body {sub : Nat} (hs : sub < 256) (hk : k < 256) :
    fbody (b.tsyncFrame sub n k) 0 = sub ∧ fbody (b.tsyncFrame sub n k) 2 = k := by
  unfold Block.tsyncFrame
  rw [fbody_newFrame (v := BitVec.ofNat 8 sub) (by decide) rfl, fbody_newFrame (v := BitVec.ofNat 8 k) (by decide) rfl,
    BitVec.toNat_ofNat, BitVec.toNat_ofNat]
  exact ⟨Nat.mod_eq_of_lt hs, Nat.mod_eq_of_lt hk⟩

/-- The port's next exchange, sent at `g` and stamped `t1`. -/
def HopPort.asked (x : HopPort) (n k t1 : Nat) (g : Gt) : HopPort :=
  { x with tsMeas := some (n, k + 1), tsGt := g, tsStamps := tput x.tsStamps k (t1, 0) }

theorem tsyncReqSend_asks {p : Fin 6} {t1 : Nat} (hr : s.block.hopRuns = true) (hu : (s.block.hopPort p).st = .up)
    (hm : (s.block.hopPort p).tsMeas = some (n, k)) (hk : k < 8) (hd : (s.block.hopPort p).tsGt + us 1 ≤ s.block.gt) :
    ∃ t r, exec (.tsyncReqSend p t1) s = .next t ∧ fbody r 0 = 1 ∧ fbody r 2 = k ∧
      t.block.hopPort p = { s.block.hopPort p with
        tsMeas := some (n, k + 1), tsGt := s.block.gt, tsStamps := tput (s.block.hopPort p).tsStamps k (t1, 0)
        txq := (s.block.hopPort p).txq ++ [(r, 7)] } := by
  have ht : exec (.tsyncReqSend p t1) s = .next { s with
      block := (s.block.modHopPort p (fun x => x.asked n k t1 s.block.gt)).sendOn p (s.block.tsyncFrame 1 n k) 7 } := by
    change execTsyncReqSend p t1 s = _
    unfold execTsyncReqSend
    rw [State.run_eq]
    dsimp only
    rw [hm]
    dsimp only
    rw [if_pos (by simp [hr, hu, hk, hd])]
    rfl
  obtain ⟨h0, h2⟩ := Block.tsyncFrame_body (b := s.block) (n := n) (sub := 1) (by decide) (show k < 256 by omega)
  refine ⟨_, _, ht, h0, h2, ?_⟩
  dsimp only
  rw [Block.hopPort_sendOn_same, Block.hopPort_modHopPort]
  rfl

theorem tsyncCallReceive_starts {p : Fin 6} (h : s.block.hearsFrame p f g) (hf : f.ftype = 3) (h0 : fbody g 0 = 0) :
    ∃ t, exec (.tsyncCallReceive p f) s = .next t ∧ t.block.hopPort p = { (s.block.received p f).hopPort p with
      tsMeas := some (fbody g 1, 0), tsStamps := [], tsRsp := 0, tsGt := s.block.gt - us 1 } := by
  obtain ⟨P, hact, hp⟩ := Block.receive_tsync h hf h0
  refine ⟨_, congrArg (fun c => Host.Outcome.next ({ s with block := c } : State)) (hact _), ?_⟩
  dsimp only
  rw [Block.hopPort_modHopPort, hp]
  rfl

end

end Sys2Proof.Machine


namespace Sys2Proof.Machine

section
variable {s : State} {b B : Block} {n m k : Nat} {p : Fin 6} {f g : Frame}

/-- A row that hears a frame leaves what its action leaves. -/
theorem run_receive {row : Bool} {act : Block → Frame → Block} (h : s.block.receive p f row keepNone act = B) :
    s.run (fun b => b.receive p f row keepNone act) = .next { s with block := B } := by
  rw [State.run_eq, h]

theorem tsyncReqReceive_answers {t2 t3 : Nat} (h : s.block.hearsFrame p f g) (hf : f.ftype = 3) (h1 : fbody g 0 = 1)
    (hm : s.block.hop.tsMeas = some (fbody g 1)) (hp : s.block.hop.parent = p) :
    ∃ t r, exec (.tsyncReqReceive p f t2 t3) s = .next t ∧ fbody r 0 = 2 ∧ fbody r 2 = fbody g 2 ∧
      t.block.hop.tsStamps = tput s.block.hop.tsStamps (fbody g 2) (t2, t3) ∧
      t.block.hopPort p = { (s.block.received p f).hopPort p with
        txq := ((s.block.received p f).hopPort p).txq ++ [(r, 7)] } := by
  obtain ⟨P, hact, hP⟩ := Block.receive_tsync h hf h1
  have ht : exec (.tsyncReqReceive p f t2 t3) s = .next { s with
      block := ((s.block.setPorts P).modHop (fun h => { h with tsStamps := tput h.tsStamps (fbody g 2) (t2, t3) })).sendOn p
        ((s.block.setPorts P).tsyncFrame 2 (fbody g 1) (fbody g 2)) 7 } := by
    refine run_receive ((hact _).trans ?_)
    rw [if_pos (by simp only [Bool.and_eq_true, decide_eq_true_eq]; exact ⟨hm, hp⟩)]
    rfl
  obtain ⟨h0, h2⟩ := Block.tsyncFrame_body (b := s.block.setPorts P) (n := fbody g 1) (sub := 2) (by decide)
    (show fbody g 2 < 256 from BitVec.isLt _)
  refine ⟨_, _, ht, h0, h2, rfl, ?_⟩
  dsimp only
  rw [Block.hopPort_sendOn_same, ← hP]
  rfl

/-- The port with the stamp of an answer's arrival. -/
def HopPort.answered (x : HopPort) (k t4 : Nat) : HopPort :=
  { x with tsStamps := tput x.tsStamps k ((tget (0, 0) x.tsStamps k).1, t4), tsRsp := x.tsRsp + 1 }

/-- The follow-up names its measurement (R435). -/
theorem Block.fupFrame_body {st : Tbl (Nat × Nat)} (hn : n < 256) : fbody (b.fupFrame n st) 0 = 3 ∧
    fbody (b.fupFrame n st) 1 = n := by
  unfold Block.fupFrame
  rw [fbody_newFrame (v := 3) (by decide) rfl, fbody_newFrame (v := BitVec.ofNat 8 n) (by decide) rfl, BitVec.toNat_ofNat]
  exact ⟨rfl, Nat.mod_eq_of_lt hn⟩

/-- The parent once an answer has come: after the eighth it sends the follow-up and is done (R435). -/
def Block.answeredTo (b : Block) (p n k t4 : Nat) : Block :=
  if (b.hopPort p).tsRsp + 1 < 8 then b.modHopPort p (fun x => x.answered k t4)
  else ((b.modHopPort p (fun x => x.answered k t4)).modHopPort p (fun x => { x with tsMeas := none })).sendOn p
    ((b.modHopPort p (fun x => x.answered k t4)).fupFrame n ((b.hopPort p).answered k t4).tsStamps) 7

theorem tsyncRspReceive_eq {t4 : Nat} (h : s.block.hearsFrame p f g) (hf : f.ftype = 3) (h2 : fbody g 0 = 2)
    (hm : (s.block.hopPort p).tsMeas = some (fbody g 1, n)) (hk : fbody g 2 < n) :
    ∃ P, exec (.tsyncRspReceive p f t4) s = .next { s with
      block := (s.block.setPorts P).answeredTo p (fbody g 1) (fbody g 2) t4 } ∧
      (s.block.setPorts P).hopPort p = (s.block.received p f).hopPort p := by
  obtain ⟨P, hact, hP⟩ := Block.receive_tsync h hf h2
  refine ⟨P, run_receive ((hact _).trans ?_), hP⟩
  have hm' : ((s.block.setPorts P).hopPort p).tsMeas = some (fbody g 1, n) := by
    rw [hP, Block.received_keeps.1]
    exact hm
  dsimp only
  rw [hm']
  dsimp only
  rw [if_pos (by simp [hk]), Block.hopPort_modHopPort]
  rfl

theorem tsyncRspReceive_stamps {t4 : Nat} (h : s.block.hearsFrame p f g) (hf : f.ftype = 3) (h2 : fbody g 0 = 2)
    (hm : (s.block.hopPort p).tsMeas = some (fbody g 1, n)) (hk : fbody g 2 < n) :
    ∃ t, exec (.tsyncRspReceive p f t4) s = .next t ∧ (t.block.hopPort p).tsRsp = (s.block.hopPort p).tsRsp + 1 ∧
      tget (0, 0) (t.block.hopPort p).tsStamps (fbody g 2) =
        ((tget (0, 0) (s.block.hopPort p).tsStamps (fbody g 2)).1, t4) ∧
      ((s.block.hopPort p).tsRsp < 7 → (t.block.hopPort p).tsMeas = (s.block.hopPort p).tsMeas ∧
        (t.block.hopPort p).txq = (s.block.hopPort p).txq) ∧
      (7 ≤ (s.block.hopPort p).tsRsp → (t.block.hopPort p).tsMeas = none ∧
        ∃ r, fbody r 0 = 3 ∧ fbody r 1 = fbody g 1 ∧ (t.block.hopPort p).txq = (s.block.hopPort p).txq ++ [(r, 7)]) := by
  obtain ⟨P, ht, hP⟩ := tsyncRspReceive_eq (t4 := t4) h hf h2 hm hk
  obtain ⟨km, kst, kr, kq, -⟩ := Block.received_keeps (b := s.block) (p := p.val) (f := f)
  rw [← hP] at km kst kr kq
  refine ⟨_, ht, ?_⟩
  dsimp only
  unfold Block.answeredTo
  rw [kr]
  by_cases h7 : (s.block.hopPort p).tsRsp + 1 < 8
  · rw [if_pos h7, Block.hopPort_modHopPort]
    unfold HopPort.answered
    dsimp only
    rw [km, kst, kr, kq, tget_tput]
    exact ⟨rfl, rfl, fun _ => ⟨rfl, rfl⟩, fun h => absurd h (by omega)⟩
  · rw [if_neg h7, Block.hopPort_sendOn_same, Block.hopPort_modHopPort, Block.hopPort_modHopPort]
    obtain ⟨f0, f1⟩ := Block.fupFrame_body (b := (s.block.setPorts P).modHopPort p (fun x => x.answered (fbody g 2) t4))
      (n := fbody g 1) (st := (((s.block.setPorts P).hopPort p).answered (fbody g 2) t4).tsStamps) (BitVec.isLt _)
    refine ⟨congrArg (· + 1) kr, ?_, fun h => absurd h (by omega), fun _ => ⟨rfl, _, f0, f1, ?_⟩⟩
    · unfold HopPort.answered
      dsimp only
      rw [kst, tget_tput]
    · exact congrArg (· ++ _) kq

/-! ### The child applies an offset, or rejects the measurement (R54 to R56, R435) -/

/-- Local time with an offset applied. -/
def Block.offsetTime (b : Block) (x : Exchange) (chain : Nat) (rate : Int) : Block :=
  (b.modTime (fun t => { t with
    fabOff := x.off - x.theta, fabRate := max (-2 ^ 31) (min (2 ^ 31 - 1) rate), t0 := b.gt
    prevMeas := some (x.off - x.theta, b.gt), chain := chain, chainKnown := true, chainPort := b.hop.parent
    lastTsync := b.gt })).modHop (fun h => { h with tsMeas := none })

/-- The epoch advances when the offset moved by `d`, more than 0.125 ns (R59). -/
def Block.offsetMoved (b : Block) (d : Int) : Block := if d.natAbs > 32 then b.advanceEpoch 2 else b

/-- The rate from the last two measurements (R56). -/
def Block.offsetRate (b : Block) (off : Int) : Int :=
  match b.time.prevMeas with
  | some (o, g) => if g < b.gt then ((off - o) * 2 ^ 40) / ((b.gt - g : Nat) : Int) else 0
  | none => 0

/-- The first alignment ends discovery (R431). -/
def Block.alignmentDone (b : Block) : Block :=
  if b.hop.disc = 5 then (b.modHop (fun h => { h with disc := 6 })).finishRediscover else b

theorem Block.applyOffset_eq {x : Exchange} {chain : Nat} : ∃ F, b.applyOffset k x chain =
    (((b.offsetTime x chain (b.offsetRate (x.off - x.theta))).offsetMoved (x.off - x.theta - b.fabOffAt b.gt)).realign.alignmentDone
      ).finishLongs F := by
  unfold Block.applyOffset Block.alignmentDone
  exact ⟨_, congrArg₂ Block.finishLongs rfl rfl⟩

theorem Block.finishLongs_hop_time {F : Nat → LongKind → Option (Nat × List Word)} :
    (b.finishLongs F).hop = b.hop ∧ (b.finishLongs F).time = b.time :=
  ⟨Block.hop_of_seen (Block.finishLongs_seen (M := [.ports, .tenants, .power, .out]) (by decide)) (by decide),
    Block.time_of_seen (Block.finishLongs_seen (M := [.ports, .tenants, .power, .out]) (by decide)) (by decide)⟩

theorem Block.alignmentDone_hop_time : b.alignmentDone.time = b.time ∧ b.alignmentDone.hop.tsMeas = b.hop.tsMeas ∧
    (b.hop.disc = 5 → b.alignmentDone.hop.disc = 6) := by
  unfold Block.alignmentDone Block.finishRediscover
  split
  · rw [Block.finishLongs_hop_time.1, Block.finishLongs_hop_time.2]
    exact ⟨rfl, rfl, fun _ => rfl⟩
  · exact ⟨rfl, rfl, fun h => absurd h ‹_›⟩

theorem Block.offsetMoved_keeps {d : Int} : (b.offsetMoved d).time.base = b.time.base ∧
    (b.offsetMoved d).hop = b.hop ∧ (32 < d.natAbs → b.time.epoch < (b.offsetMoved d).time.epoch) := by
  unfold Block.offsetMoved
  split
  · refine ⟨Block.time_of_rested Block.advanceEpoch_rested, Block.hop_of_seen (Block.advanceEpoch_seen (M := [.taps, .views,
      .stations, .cask, .tenants, .power, .time]) (by decide)) (by decide), fun _ => ?_⟩
    rw [Block.advanceEpoch_epoch]
    exact Nat.lt_succ_self _
  · exact ⟨rfl, rfl, fun h => absurd h ‹_›⟩

theorem Block.realign_hop : b.realign.hop = b.hop :=
  Block.hop_of_seen (Block.realign_seen (M := [.taps, .views, .stations, .cask, .tenants, .power, .time]) (by decide))
    (by decide)

theorem Time.offset_of_base {t u : Time} (h : t.base = u.base) : t.fabOff = u.fabOff ∧ t.t0 = u.t0 ∧ t.chain = u.chain ∧
    t.tsyncReject = u.tsyncReject ∧ t.lastTsync = u.lastTsync :=
  ⟨(congrArg Time.fabOff h :), (congrArg Time.t0 h :), (congrArg Time.chain h :), (congrArg Time.tsyncReject h :),
    (congrArg Time.lastTsync h :)⟩

/-- What an applied offset leaves in the hop state and the time base (R56, R59, R431). -/
theorem Block.applyOffset_applies {x : Exchange} {chain : Nat} : (b.applyOffset k x chain).hop.tsMeas = none ∧
    (b.applyOffset k x chain).time.lastTsync = b.gt ∧ (b.applyOffset k x chain).time.fabOff = x.off - x.theta ∧
    (b.applyOffset k x chain).time.t0 = b.gt ∧ (b.applyOffset k x chain).time.chain = chain ∧
    (b.applyOffset k x chain).time.tsyncReject = b.time.tsyncReject ∧
    (b.hop.disc = 5 → (b.applyOffset k x chain).hop.disc = 6) ∧
    (32 < (x.off - x.theta - b.fabOffAt b.gt).natAbs → b.time.epoch < (b.applyOffset k x chain).time.epoch) := by
  obtain ⟨F, he⟩ := Block.applyOffset_eq (b := b) (k := k) (x := x) (chain := chain)
  obtain ⟨mb, mh, me⟩ := Block.offsetMoved_keeps (b := b.offsetTime x chain (b.offsetRate (x.off - x.theta)))
    (d := x.off - x.theta - b.fabOffAt b.gt)
  obtain ⟨at', am, ad⟩ := Block.alignmentDone_hop_time (b := ((b.offsetTime x chain (b.offsetRate (x.off -
    x.theta))).offsetMoved (x.off - x.theta - b.fabOffAt b.gt)).realign)
  rw [Block.realign_hop, mh] at am ad
  obtain ⟨o1, o2, o3, o4, o5⟩ := Time.offset_of_base ((Block.time_of_rested Block.realign_rested).trans mb)
  rw [he, Block.finishLongs_hop_time.1, Block.finishLongs_hop_time.2, at', o1, o2, o3, o4, o5]
  refine ⟨am.trans rfl, rfl, rfl, rfl, rfl, rfl, ad, fun h => ?_⟩
  exact Nat.lt_of_lt_of_le (me h) Block.realign_epoch

/-- The child once the follow-up's best exchange is known: applied where it keeps two, or rejected (R55). -/
def Block.followedUp (b : Block) (x : Option (Nat × Exchange)) (chain : Nat) : Block :=
  match x with
  | none => b.tsyncReject 0 0 0
  | some (kept, x) => if kept < 2 then b.tsyncReject kept x.theta (twos 32 x.delta) else b.applyOffset kept x chain

theorem tsyncFupReceive_ends {x : Option (Nat × Exchange)} (h : s.block.hearsFrame p f g) (hf : f.ftype = 3)
    (h3 : fbody g 0 = 3) (hm : s.block.hop.tsMeas = some (fbody g 1)) (hp : s.block.hop.parent = p)
    (hx : x = bestExchange (exchanges (s.block.hopPort p).alpha s.block.hop.tsStamps g.payload)) :
    ∃ t, exec (.tsyncFupReceive p f) s = .next t ∧ t.block.hop.tsMeas = none ∧ t.block.time.lastTsync = s.block.gt ∧
      ((∀ k e, x = some (k, e) → k < 2) → t.block.time.tsyncReject = satAdd 32 s.block.time.tsyncReject 1 ∧
        t.block.time.fabOff = s.block.time.fabOff) ∧
      (∀ k e, x = some (k, e) → 2 ≤ k → t.block.time.fabOff = e.off - e.theta ∧ t.block.time.t0 = s.block.gt ∧
        t.block.time.chain = fbody g 2 ∧ t.block.time.tsyncReject = s.block.time.tsyncReject ∧
        (s.block.hop.disc = 5 → t.block.hop.disc = 6) ∧
        (32 < (e.off - e.theta - s.block.fabOffAt s.block.gt).natAbs → s.block.time.epoch < t.block.time.epoch)) := by
  obtain ⟨P, hact, hP⟩ := Block.receive_tsync h hf h3
  have ha : ((s.block.setPorts P).hopPort p).alpha = (s.block.hopPort p).alpha := by
    rw [hP]
    exact Block.received_keeps.2.2.2.2
  have ht : exec (.tsyncFupReceive p f) s = .next { s with block := (s.block.setPorts P).followedUp x (fbody g 2) } := by
    refine run_receive ((hact _).trans ?_)
    rw [if_neg (by simp only [Bool.or_eq_true, decide_eq_true_eq, not_or, not_not]; exact ⟨hm, hp⟩), ha, hx]
    rfl
  have hrej : ∀ k theta delta, ((s.block.setPorts P).tsyncReject k theta delta).hop.tsMeas = none ∧
      ((s.block.setPorts P).tsyncReject k theta delta).time.lastTsync = s.block.gt ∧
      ((s.block.setPorts P).tsyncReject k theta delta).time.tsyncReject = satAdd 32 s.block.time.tsyncReject 1 ∧
      ((s.block.setPorts P).tsyncReject k theta delta).time.fabOff = s.block.time.fabOff := fun k theta delta => by
    rw [Block.tsyncReject_hop_time.1, Block.tsyncReject_hop_time.2]
    exact ⟨rfl, rfl, rfl, rfl⟩
  refine ⟨_, ht, ?_⟩
  clear hx ht
  dsimp only
  cases x with
  | none =>
    obtain ⟨r1, r2, r3, r4⟩ := hrej 0 0 0
    exact ⟨r1, r2, fun _ => ⟨r3, r4⟩, fun k e h => absurd h (by simp)⟩
  | some y =>
    obtain ⟨k, e⟩ := y
    unfold Block.followedUp
    dsimp only
    by_cases hk : k < 2
    · obtain ⟨r1, r2, r3, r4⟩ := hrej k e.theta (twos 32 e.delta)
      rw [if_pos hk]
      refine ⟨r1, r2, fun _ => ⟨r3, r4⟩, fun k' e' h h' => ?_⟩
      obtain ⟨rfl, -⟩ := Prod.mk.inj (Option.some.inj h)
      omega
    · obtain ⟨a1, a2, a3, a4, a5, a6, a7, a8⟩ := Block.applyOffset_applies (b := s.block.setPorts P) (k := k) (x := e)
        (chain := fbody g 2)
      rw [if_neg hk]
      refine ⟨a1, a2, fun h => absurd (h k e rfl) hk, fun k' e' h h' => ?_⟩
      obtain ⟨-, rfl⟩ := Prod.mk.inj (Option.some.inj h)
      exact ⟨a3, a4, a5, a6, a7, a8⟩

end

/-- Settles O52: each event of a measurement by what it leaves of the child and of the parent. -/
theorem offsetMeasurementsAct : Obligations.OffsetMeasurementsAct := by
  rintro s p f g _ _ _ rfl rfl rfl
  refine ⟨fun hr hp hm => ⟨fun hd => ⟨_, tsyncPeriodExpiry_calls hr hp hm hd, Block.tsyncCall_hop⟩,
      fun hd => ⟨_, tsyncIdleMeasure_calls hr hp hm hd, Block.tsyncCall_hop⟩⟩,
    tsyncFupTimeout_rejects, fun t1 n k hr hu hm hk hd => tsyncReqSend_asks hr hu hm hk hd, ?_⟩
  rintro _ h hf rfl
  exact ⟨tsyncCallReceive_starts h hf, fun t2 t3 h1 hm hp => tsyncReqReceive_answers h hf h1 hm hp,
    fun t4 n h2 hm hk => tsyncRspReceive_stamps h hf h2 hm hk, fun x h3 hm hp hx => tsyncFupReceive_ends h hf h3 hm hp hx⟩

end Sys2Proof.Machine

/-! ## Freeze latches and measured beats at a tap (R85, R215, R219, R221, R285, R288, R449) -/

namespace Sys2Proof.Machine

/-! ### Entries of a freeze -/

/-- A key that is put is found first, wherever in the table it stands. -/
theorem find?_tput {α : Type} {t : Tbl α} {n : Nat} {v : α} :
    (tput t n v).find? (fun e => e.1 == n) = some (n, v) := by
  induction t with
  | nil => simp [tput]
  | cons e t ih =>
    obtain ⟨k, w⟩ := e
    rcases Nat.lt_trichotomy n k with h | rfl | h
    · simp [tput, h]
    · simp [tput]
    · simp [tput, h.not_gt, h.ne', h.ne, ih]

section
variable {b : Block} {i n m id ph : Nat} {ao : Bool} {x : FzTap}

theorem Block.id_of_slotOf (h : b.slotOf id = some i) : (b.freezeSlot i).id = id := by
  have hp := List.find?_some h
  simp only [Bool.and_eq_true, beq_iff_eq] at hp
  exact hp.2

theorem Block.setFz_entry : ((b.setFz i n x).freezeSlot i).tap? n = some x := by
  rw [Block.setFz, Block.freezeSlot_modFreeze, Freeze.tap?, find?_tput]
  rfl

/-- An entry that is final without a latch (R288, R292). -/
def FzTap.unlatched (x : FzTap) (id : Nat) (t : Tap) : FzTap :=
  { x with
    strobed := true, notLatched := true, done := true
    cntLost := t.cntLost || t.latch.any (fun l => l.freezeId == id && l.cntLost) }

theorem Block.noLatch_eq : b.noLatch i n x = (b.setFz i n (x.unlatched (b.freezeSlot i).id (b.tap n))).lossTold n := by
  unfold Block.noLatch FzTap.unlatched
  cases (b.tap n).latch <;> rfl

theorem Block.noLatch_entry :
    ((b.noLatch i n x).freezeSlot i).tap? n = some (x.unlatched (b.freezeSlot i).id (b.tap n)) := by
  rw [Block.noLatch_eq]
  exact Block.setFz_entry

theorem Block.noLatch_tap : (b.noLatch i n x).tap m = if m = n then { b.tap m with cntLost := false } else b.tap m := by
  rw [Block.noLatch_eq]
  exact Block.tap_modTap_ite

/-! ### The latch of one strobe (R285, R288) -/

/-- The tap that latches `l`. -/
def Tap.latches (t : Tap) (ao : Bool) (l : Latch) : Tap := { t.clearAtLatch ao with latch := some l }

/-- A counter restarts at a latch if its descriptor says so (R280). -/
theorem Tap.latches_value {t : Tap} {l : Latch} {k : Nat} : (tget {} (t.latches ao l).cnt k).value =
    if (tget {} t.cnt k).clrOnFreeze then 0 else (tget {} t.cnt k).value := by
  rw [Tap.latches, Tap.clearAtLatch, tget_tmap rfl]
  split <;> rfl

/-- A strobe changes nothing, makes the tap's entry final, or latches. -/
theorem Block.latchTap_cases : b.latchTap n id ao ph = b ∨ (∃ i x, b.latchTap n id ao ph = b.noLatch i n x) ∨
    ∃ l, b.latchTap n id ao ph = b.modTap n (fun t => t.latches ao l) := by
  unfold Block.latchTap
  split
  · exact .inl rfl
  · split
    · exact .inl rfl
    · dsimp only
      split
      · exact .inl rfl
      · split
        · exact .inr (.inl ⟨_, _, rfl⟩)
        · split
          · exact .inr (.inl ⟨_, _, rfl⟩)
          · exact .inr (.inr ⟨_, rfl⟩)

theorem Block.latchTap_tap_of_ne (h : m ≠ n) : (b.latchTap n id ao ph).tap m = b.tap m := by
  rcases Block.latchTap_cases (b := b) (n := n) (id := id) (ao := ao) (ph := ph) with e | ⟨i, x, e⟩ | ⟨l, e⟩
  · rw [e]
  · rw [e, Block.noLatch_tap, if_neg h]
  · rw [e, Block.tap_modTap_of_ne h]

/-- The strobes of a tap stay while one latches. -/
theorem Block.latchTap_strobes : ((b.latchTap n id ao ph).tap n).frLater = (b.tap n).frLater ∧
    ((b.latchTap n id ao ph).tap n).frStrobe = (b.tap n).frStrobe := by
  rcases Block.latchTap_cases (b := b) (n := n) (id := id) (ao := ao) (ph := ph) with e | ⟨i, x, e⟩ | ⟨l, e⟩
  · rw [e]
    exact ⟨rfl, rfl⟩
  · rw [e, Block.noLatch_tap, if_pos rfl]
    exact ⟨rfl, rfl⟩
  · rw [e, Block.tap_modTap]
    exact ⟨rfl, rfl⟩

section
variable (hi : b.slotOf id = some i) (hx : (b.freezeSlot i).tap? n = some x) (hd : x.done = false)
  (hen : (b.tap n).en = true)
include hi hx hd hen

/-- A drained tap does not latch (R288). -/
theorem Block.latchTap_of_drained (ha : (b.tap n).drainAck = true) :
    b.latchTap n id ao ph = b.noLatch i n { x with down := true } := by
  simp [Block.latchTap, hi, hx, hd, hen, ha]

/-- A full bank does not latch (R288). -/
theorem Block.latchTap_of_full (ha : (b.tap n).drainAck = false) (hl : (b.tap n).latch ≠ none) :
    b.latchTap n id ao ph = b.noLatch i n { x with busy := true } := by
  simp [Block.latchTap, hi, hx, hd, hen, ha, Option.isSome_iff_ne_none.mpr hl]

/-- An empty bank latches (R285). -/
theorem Block.latchTap_of_empty (ha : (b.tap n).drainAck = false) (hl : (b.tap n).latch = none) :
    b.latchTap n id ao ph = b.modTap n (fun t => t.latches ao {
      freezeId := id, vals := (b.tap n).values, cntLost := (b.tap n).cntLost, stretched := x.stretched
      stopped := x.stopped || (b.tap n).frStop
      ofs := b.latchOfs (b.freezeSlot i) { x with stopped := x.stopped || (b.tap n).frStop } n ph }) := by
  simp only [Block.latchTap, hi, hx, hd, hen, ha, hl, Bool.not_true, Bool.or_self, Bool.false_eq_true, if_false,
    Option.isSome_none]
  rfl

end
end

/-! ### TAP_FREEZE_LATCH -/

section
variable {b : Block} {n m cyc : Nat} {t : Tap}

theorem Tap.takeRequest_clk : (t.takeRequest cyc).clk = t.clk := by
  unfold Tap.takeRequest
  split
  · split <;> rfl
  · rfl

/-- No passing of cycles changes the clock state. -/
@[simp] theorem Tap.advance_clk : (t.advance cyc).clk = t.clk := by
  have hl : ∀ u : Tap, u.lowerAck.clk = u.clk := fun u => by unfold Tap.lowerAck; split <;> rfl
  have hd : ∀ u : Tap, u.dropReports.clk = u.clk := fun u => by unfold Tap.dropReports; split <;> rfl
  have hc : (t.countCycles cyc).clk = t.clk := by unfold Tap.countCycles; split <;> rfl
  unfold Tap.advance
  split
  · rfl
  · rw [Tap.takeRequest_clk, hl, hd]
    exact hc

theorem Block.passed_tapStopped : (b.passed n cyc).tapStopped n = b.tapStopped n := by
  unfold Block.tapStopped
  rw [Block.passed_tap, Tap.advance_clk]
  rfl

/-- A tap whose first strobe takes effect. -/
def Tap.strobeTaken (t : Tap) : Tap := { t with frStrobe := none }

@[simp] theorem Tap.strobeTaken_cnt : t.strobeTaken.cnt = t.cnt := rfl

/-- The block at the marked edge, the strobe taken from its tap. -/
def Block.atEdge (b : Block) (n cyc : Nat) : Block := (b.passed n cyc).modTap n Tap.strobeTaken

theorem Block.atEdge_tap : (b.atEdge n cyc).tap n = ((b.tap n).advance cyc).strobeTaken := by
  rw [Block.atEdge, Block.tap_modTap, Block.passed_tap]

theorem Block.atEdge_tap_of_ne (h : m ≠ n) : (b.atEdge n cyc).tap m = b.tap m := by
  rw [Block.atEdge, Block.tap_modTap_of_ne h, Block.passed_tap_of_ne h]

/-- A tap with no strobe left to take. -/
def Tap.strobeless (t : Tap) : Tap := { t with frLater := [], frStop := false }

@[simp] theorem Tap.strobeless_cnt : t.strobeless.cnt = t.cnt := rfl

end

section
variable {tap : Fin 2048} {cyc id i : Nat} {phase : BitVec 6} {ao : Bool} {s : State}

/-- A lone strobe of a tap whose clock runs latches at the marked edge (R285). -/
theorem tapFreezeLatch_eq (hs : ((s.block.tap tap).advance cyc).frStrobe = some (id, ao))
    (hl : ((s.block.tap tap).advance cyc).frLater = []) (hr : s.block.tapStopped tap = false) :
    exec (.tapFreezeLatch tap cyc phase) s = .next { s with
      block := ((s.block.atEdge tap cyc).latchTap tap id ao phase.toNat).modTap tap Tap.strobeless } := by
  have hlater : (((s.block.atEdge tap cyc).latchTap tap id ao phase.toNat).tap tap).frLater = [] := by
    rw [Block.latchTap_strobes.1, Block.atEdge_tap]
    exact hl
  have hedge : (s.block.passed tap cyc).modTap tap (fun t => { t with frStrobe := none }) = s.block.atEdge tap cyc := rfl
  have hpass : s.block.modTap tap (fun t => t.advance cyc) = s.block.passed tap cyc := rfl
  change execTapFreezeLatch tap cyc phase s = _
  unfold execTapFreezeLatch
  simp only [State.run_eq, hpass, Block.passed_tap, hs, Block.passed_tapStopped, hr, Bool.false_eq_true, if_false,
    hedge, hlater]
  rfl

/-- What TAP_FREEZE_LATCH does with a strobe of freeze `id`, whose entry `z` of the tap is open. -/
theorem tapFreezeLatch_latches {u : Tap} {z : FzTap} (hu : u = (s.block.tap tap).advance cyc)
    (hs : u.frStrobe = some (id, ao)) (hlater : u.frLater = []) (hr : s.block.tapStopped tap = false)
    (hi : s.block.slotOf id = some i) (hz : (s.block.freezeSlot i).tap? tap = some z) (hd : z.done = false)
    (hen : u.en = true) :
    ∃ t, exec (.tapFreezeLatch tap cyc phase) s = .next t ∧ (t.block.tap tap).frStrobe = none ∧ (t.block.tap tap).frStop = false ∧
      (∀ n, n ≠ tap.val → t.block.tap n = s.block.tap n) ∧
      (u.drainAck = false → u.latch = none →
        t.block.tap tap = (u.strobeTaken.latches ao {
          freezeId := id, vals := u.values, cntLost := u.cntLost, stretched := z.stretched
          stopped := z.stopped || u.frStop
          ofs := s.block.latchOfs (s.block.freezeSlot i) { z with stopped := z.stopped || u.frStop } tap phase.toNat
          }).strobeless ∧ t.block.freezes = s.block.freezes) ∧
      (u.drainAck = true → (t.block.freezeSlot i).tap? tap = some ({ z with down := true }.unlatched id u) ∧
        t.block.tap tap = { u with cntLost := false }.strobeTaken.strobeless) ∧
      (u.drainAck = false → u.latch ≠ none →
        (t.block.freezeSlot i).tap? tap = some ({ z with busy := true }.unlatched id u) ∧
        t.block.tap tap = { u with cntLost := false }.strobeTaken.strobeless) := by
  have hown : (s.block.atEdge tap cyc).tap tap = u.strobeTaken := by rw [hu]; exact Block.atEdge_tap
  have hexec := tapFreezeLatch_eq (phase := phase) (hu ▸ hs) (hu ▸ hlater) hr
  have hother : ∀ n, n ≠ tap.val → (s.block.atEdge tap cyc).tap n = s.block.tap n := fun n => Block.atEdge_tap_of_ne
  have hfreezes : (s.block.atEdge tap cyc).freezes = s.block.freezes := rfl
  replace hi : (s.block.atEdge tap cyc).slotOf id = some i := hi
  replace hz : ((s.block.atEdge tap cyc).freezeSlot i).tap? tap = some z := hz
  have hofs : ∀ x, s.block.latchOfs (s.block.freezeSlot i) x tap phase.toNat =
    (s.block.atEdge tap cyc).latchOfs ((s.block.atEdge tap cyc).freezeSlot i) x tap phase.toNat := fun _ => rfl
  rw [hofs, ← hfreezes]
  generalize s.block.atEdge tap cyc = c at hown hexec hother hfreezes hi hz
  have hen' : (c.tap tap).en = true := (congrArg Tap.en hown :).trans hen
  have hid : (c.freezeSlot i).id = id := Block.id_of_slotOf hi
  have hack : (c.tap tap).drainAck = u.drainAck := (congrArg Tap.drainAck hown :)
  have hbank : (c.tap tap).latch = u.latch := (congrArg Tap.latch hown :)
  have hfinal : ∀ x, ((c.noLatch i tap x).freezeSlot i).tap? tap = some (x.unlatched id u) ∧
      ((c.noLatch i tap x).modTap tap Tap.strobeless).tap tap =
        { u with cntLost := false }.strobeTaken.strobeless := fun x => by
    rw [Block.noLatch_entry, hid, Block.tap_modTap, Block.noLatch_tap, if_pos rfl, hown]
    exact ⟨rfl, rfl⟩
  refine ⟨_, hexec, ?_, ?_, fun n h => ?_, fun ha hl => ?_, fun ha => ?_, fun ha hl => ?_⟩ <;> dsimp only
  · rw [Block.tap_modTap, Tap.strobeless, Block.latchTap_strobes.2, hown, Tap.strobeTaken]
  · rw [Block.tap_modTap, Tap.strobeless]
  · rw [Block.tap_modTap_of_ne h, Block.latchTap_tap_of_ne h, hother n h]
  · rw [Block.latchTap_of_empty hi hz hd hen' (hack.trans ha) (hbank.trans hl), Block.tap_modTap, Block.tap_modTap, hown]
    exact ⟨rfl, rfl⟩
  · rw [Block.latchTap_of_drained hi hz hd hen' (hack.trans ha)]
    exact hfinal _
  · rw [Block.latchTap_of_full hi hz hd hen' (hack.trans ha) (hbank.trans_ne hl)]
    exact hfinal _

end

/-! ### TAP_ASSAY_BEAT -/

section
variable {b : Block} {n m : Nat} {beat : Beat}

/-- A tap of a measurement unit whose crossing buffer takes a beat, and the skip count with it (R85, R221). -/
def Tap.takesBeat (t : Tap) (beat : Beat) : Tap :=
  { t with
    asy := t.asy ++ [{ beat := beat, ctx := t.ctx, skip := t.asySkip }], asySkip := 0, asyOpenRow := !beat.last }

/-- A tap that discards a beat, to the last of its row (R221). -/
def Tap.discardsBeat (t : Tap) (beat : Beat) : Tap := { t with asyDrop := !beat.last, asyOpenRow := !beat.last }

/-- A discarded beat is counted by its unit (R221). -/
def Block.countDropped (b : Block) (u : Nat) : Block :=
  b.modUnit u (fun x => { x with beatsDropped := satAdd 32 x.beatsDropped 1 })

@[simp] theorem Block.countDropped_tap {u : Nat} : (b.countDropped u).tap m = b.tap m := rfl

theorem Block.countDropped_beatsDropped {u : Nat} : ((b.countDropped u).unit u).beatsDropped =
    satAdd 32 (b.unit u).beatsDropped 1 := congrArg AsyUnit.beatsDropped Block.unit_modUnit

/-- What a beat for a measurement unit does at its tap: a row that is being discarded goes on being discarded, and a full
buffer cuts the row short, which the skip count counts (R85, R221). -/
def Block.unitBeat (b : Block) (n : Nat) (beat : Beat) : Block :=
  if (b.tap n).asyDrop then (b.modTap n (fun t => t.discardsBeat beat)).countDropped (asyUnitOf (b.binding n))
  else if (b.tap n).asy.length < 4 then b.modTap n (fun t => t.takesBeat beat)
  else (b.modTap n (fun t => { t with asySkip := satAdd 16 t.asySkip 1 }.discardsBeat beat)).countDropped
    (asyUnitOf (b.binding n))

/-- A beat below Run wakes the block (R22). -/
def Block.wokenByBeat (b : Block) : Block := if b.running then b else b.requestWake 0

/-- What a beat for the measurement path does at its weight-load tap (R85, R449). -/
def Block.weightBeat (b : Block) (n : Nat) (beat : Beat) : Block :=
  if (b.tap n).asy.length < 4 then b.modTap n (fun t => { t with asy := t.asy ++ [{ beat := beat, ctx := t.ctx }] })
  else b.modTap n (fun t => t.loseBeat (beatCount beat))

theorem Block.unitBeat_tap_of_ne (h : m ≠ n) : (b.unitBeat n beat).tap m = b.tap m := by
  unfold Block.unitBeat
  split
  · rw [Block.countDropped_tap, Block.tap_modTap_of_ne h]
  · split
    · exact Block.tap_modTap_of_ne h
    · rw [Block.countDropped_tap, Block.tap_modTap_of_ne h]

theorem Block.weightBeat_tap_of_ne (h : m ≠ n) : (b.weightBeat n beat).tap m = b.tap m := by
  unfold Block.weightBeat
  split <;> exact Block.tap_modTap_of_ne h

theorem Block.wokenByBeat_taps : b.wokenByBeat.taps = b.taps := by
  unfold Block.wokenByBeat
  split <;> rfl

theorem Block.wokenByBeat_assay : b.wokenByBeat.assay = b.assay := by
  unfold Block.wokenByBeat
  split <;> rfl

theorem Block.wokenByBeat_tap : b.wokenByBeat.tap m = b.tap m := by
  unfold Block.tap
  rw [Block.wokenByBeat_taps]

theorem Block.wokenByBeat_unit : b.wokenByBeat.unit m = b.unit m := by
  unfold Block.unit
  rw [Block.wokenByBeat_assay]

/-- With room in its crossing buffer the tap takes the beat. -/
theorem Block.unitBeat_of_room (hd : (b.tap n).asyDrop = false) (hl : (b.tap n).asy.length < 4) :
    b.unitBeat n beat = b.modTap n (fun t => t.takesBeat beat) := by
  rw [Block.unitBeat, hd, if_neg Bool.false_ne_true, if_pos hl]

/-- A row that is being discarded loses the beat, too. -/
theorem Block.unitBeat_of_drop (hd : (b.tap n).asyDrop = true) : b.unitBeat n beat =
    (b.modTap n (fun t => t.discardsBeat beat)).countDropped (asyUnitOf (b.binding n)) := by
  rw [Block.unitBeat, if_pos hd]

end

section
variable {tap : Fin 2048} {beat : Beat} {s : State}

/-- A port that feeds nothing ignores its beats (R215). -/
theorem tapAssayBeat_of_idle (h : s.block.portFeeds tap = false) :
    exec (.tapAssayBeat tap beat) s = .next { s with block := s.block } := by
  change execTapAssayBeat tap beat s = _
  simp only [execTapAssayBeat, State.run_eq, h, Bool.not_false, if_true]

theorem tapAssayBeat_of_weightLoad (h : s.block.portFeeds tap = true) (hw : bit (s.block.binding tap) 5 = true) :
    exec (.tapAssayBeat tap beat) s = .next { s with block := s.block.activity.weightBeat tap beat } := by
  change execTapAssayBeat tap beat s = _
  simp only [execTapAssayBeat, State.run_eq, h, hw, Bool.not_true, Bool.false_eq_true, if_false, if_true]
  rfl

theorem tapAssayBeat_of_unit (h : s.block.portFeeds tap = true) (hw : bit (s.block.binding tap) 5 = false) :
    exec (.tapAssayBeat tap beat) s = .next { s with block := (s.block.activity.unitBeat tap beat).wokenByBeat } := by
  change execTapAssayBeat tap beat s = _
  simp only [execTapAssayBeat, State.run_eq, h, hw, Bool.not_true, Bool.false_eq_true, if_false]
  rfl

/-- What TAP_ASSAY_BEAT does with a beat. -/
theorem tapAssayBeat_acts {x : Tap} (hx : x = s.block.tap tap) :
    ∃ t, exec (.tapAssayBeat tap beat) s = .next t ∧ (∀ n, n ≠ tap.val → t.block.tap n = s.block.tap n) ∧
      (s.block.portFeeds tap = false → t.block = s.block) ∧
      (s.block.portFeeds tap = true → bit (s.block.binding tap) 5 = true → x.asy.length < 4 →
        t.block.tap tap = { x with asy := x.asy ++ [{ beat := beat, ctx := x.ctx }] }) ∧
      (s.block.portFeeds tap = true → bit (s.block.binding tap) 5 = false → x.asyDrop = false → x.asy.length < 4 →
        t.block.tap tap = x.takesBeat beat ∧ t.block.assay = s.block.assay) ∧
      (s.block.portFeeds tap = true → bit (s.block.binding tap) 5 = false → x.asyDrop = true →
        t.block.tap tap = x.discardsBeat beat ∧ (t.block.unit (asyUnitOf (s.block.binding tap))).beatsDropped =
          satAdd 32 (s.block.unit (asyUnitOf (s.block.binding tap))).beatsDropped 1) := by
  subst hx
  cases hf : s.block.portFeeds tap
  case false => exact ⟨_, tapAssayBeat_of_idle hf, fun _ _ => rfl, fun _ => rfl, nofun, nofun, nofun⟩
  cases hw : bit (s.block.binding tap) 5
  case true =>
    refine ⟨_, tapAssayBeat_of_weightLoad hf hw, fun n h => Block.weightBeat_tap_of_ne h, nofun, fun _ _ hl => ?_, nofun,
      nofun⟩
    have hroom : (s.block.activity.tap tap).asy.length < 4 := hl
    dsimp only
    rw [Block.weightBeat, if_pos hroom, Block.tap_modTap, Block.activity_tap]
  case false =>
    refine ⟨_, tapAssayBeat_of_unit hf hw, fun n h => ?_, nofun, nofun, fun _ _ hd hl => ?_, fun _ _ hd => ?_⟩ <;>
      dsimp only
    · rw [Block.wokenByBeat_tap, Block.unitBeat_tap_of_ne h, Block.activity_tap]
    · rw [Block.unitBeat_of_room (b := s.block.activity) hd hl, Block.wokenByBeat_tap, Block.wokenByBeat_assay,
        Block.tap_modTap, Block.activity_tap]
      exact ⟨rfl, rfl⟩
    · rw [Block.unitBeat_of_drop (b := s.block.activity) hd, Block.wokenByBeat_tap, Block.wokenByBeat_unit,
        Block.countDropped_tap, Block.tap_modTap]
      exact ⟨rfl, Block.countDropped_beatsDropped⟩

end

/-- Settles O35: a strobe at the marked edge latches the tap or makes its entry final without a latch; a beat enters the
crossing buffer or is discarded with its row. -/
theorem tapLatchesAndTakesBeats : Obligations.TapLatchesAndTakesBeats := by
  refine fun tap s => ⟨fun cyc phase u id i ao z hu hs hlater hr hi hz hd hen => ?_, fun beat x hx => ?_⟩
  · obtain ⟨t, ht, hstrobe, hstop, hother, hempty, hdrained, hfull⟩ :=
      tapFreezeLatch_latches (phase := phase) hu hs hlater hr hi hz hd hen
    refine ⟨t, ht, hstrobe, hstop, hother, fun ha hl => ?_, fun ha => ?_, fun ha hl => ?_⟩
    · obtain ⟨htap, hfreezes⟩ := hempty ha hl
      rw [htap]
      exact ⟨rfl, rfl, fun h => by subst h; exact ⟨rfl, rfl⟩, fun h => by subst h; exact ⟨rfl, rfl⟩,
        fun _ => by rw [Tap.strobeless_cnt, Tap.latches_value, Tap.strobeTaken_cnt], hfreezes⟩
    · obtain ⟨hentry, htap⟩ := hdrained ha
      rw [htap]
      exact ⟨hentry, rfl, rfl⟩
    · obtain ⟨hentry, htap⟩ := hfull ha hl
      rw [htap]
      exact ⟨hentry, rfl, rfl⟩
  · obtain ⟨t, ht, hother, hidle, hweight, htakes, hdrops⟩ := tapAssayBeat_acts (beat := beat) hx
    refine ⟨t, ht, hother, hidle, hweight, fun hf hw hd hl => ?_, fun hf hw hd => ?_⟩
    · obtain ⟨htap, hassay⟩ := htakes hf hw hd hl
      rw [htap]
      exact ⟨by simp [Tap.takesBeat], hd, by simp [Tap.takesBeat], hassay⟩
    · obtain ⟨htap, hcount⟩ := hdrops hf hw hd
      rw [htap]
      exact ⟨rfl, rfl, hcount⟩

end Sys2Proof.Machine

namespace Sys2Proof.Machine

/-! ## The trigger sequencer and its commands (R104, R109, R111, R149, R166, R369) -/

section
variable {b : Block} {st n o : Nat} {f : Sequencer → Sequencer}

/-! ### The sequencer of a station after each operation -/

theorem Block.station_modSeq_ite : (b.modSeq st f).station n =
    if n = st then { b.station n with seq := f (b.station n).seq } else b.station n :=
  Block.station_modStation_ite

@[simp] theorem Block.station_modSeq :
    (b.modSeq st f).station st = { b.station st with seq := f (b.station st).seq } := by
  rw [Block.station_modSeq_ite, if_pos rfl]

/-- A station whose sequencer is replaced by what `f` makes of it. -/
theorem Block.station_setSeq {q : Sequencer} (h : q = f (b.station st).seq) : (b.modSeq st (fun _ => q)).station n =
    if n = st then { b.station n with seq := f (b.station n).seq } else b.station n := by
  rw [Block.station_modSeq_ite]
  split
  · subst n; rw [h]
  · rfl

/-- Operations that leave the table of stations alone leave every station alone. -/
theorem Block.station_of_stations {c : Block} (h : c.stations = b.stations) : c.station n = b.station n :=
  congrArg (fun t => tget ({} : Station) t n) h

@[simp] theorem Block.seqLeft_station : (b.seqLeft o).station n = b.station n :=
  Block.station_of_stations (Block.stations_of_seen (Block.seqLeft_seen (M := [.cask, .tenants]) (by decide)) (by decide))

/-- A sequencer that may leave Post reaches no station by what the cask then does (R165, R168). -/
theorem Block.seqLeftIf_station {left : Prop} [Decidable left] :
    (if left then b.seqLeft o else b).station n = b.station n := by
  split
  · exact Block.seqLeft_station
  · rfl

@[simp] theorem Block.holdEnd_station : (b.holdEnd o).station n = b.station n :=
  Block.station_of_stations (Block.stations_of_seen (Block.holdEnd_seen (M := [.cask, .tenants]) (by decide)) (by decide))

theorem Block.rearm_station : (b.rearm st).station n =
    if n = st then { b.station n with seq := (b.station n).seq.goto .armed } else b.station n :=
  Block.holdEnd_station.trans Block.station_modSeq_ite

theorem Block.seqOff_station : (b.seqOff st).station n = if n = st then { b.station n with
    seq := { (b.station n).seq.goto .idle with en := false, comps := [], postLeft := 0 } } else b.station n :=
  Block.seqLeftIf_station.trans Block.station_modSeq_ite

/-! ### The catalogue entries (R341) -/

variable {c : Call}

/-- What SEQ_CONTROL makes of a sequencer (R104, R109, R111): with `SEQ_EN` 0 it goes Idle, switched on in Idle with an
empty `START_MASK` it is armed, and otherwise it keeps its state (log entry 84). -/
def Sequencer.controlled (q : Sequencer) (c : Call) : Sequencer :=
  if bit (c.w 0) 8 = false then { (q.control c).goto .idle with postLeft := 0 }
  else if q.en = false ∧ q.st = .idle ∧ c.fld 1 0 8 = 0 then (q.control c).goto .armed
  else q.control c

/-- SEQ_CONTROL within the quota (R166) writes the sequencer that it names. -/
theorem cmdSeqControl_body (hq : bit (c.w 0) 8 = true →
      cdiv (c.fld 0 16 16) 63 + 1 ≤ b.quotaOf (b.station c.st).seq.owner) :
    (cmdSeqControl.body c b).1 = .done stDone [] ∧ ∀ n, (cmdSeqControl.body c b).2.station n =
      if n = c.st then { b.station n with seq := (b.station n).seq.controlled c } else b.station n := by
  have hen : ((b.station c.st).seq.control c).en = bit (c.w 0) 8 := rfl
  have hpost : ((b.station c.st).seq.control c).postUnits = c.fld 0 16 16 := rfl
  have hstart : ((b.station c.st).seq.control c).startMask = c.fld 1 0 8 := rfl
  unfold cmdSeqControl ok
  simp only [hen, hpost, hstart]
  cases hw : bit (c.w 0) 8
  case false =>
    exact ⟨rfl, fun n => Block.seqLeftIf_station.trans
      (Block.station_setSeq (f := (·.controlled c)) (by simp [Sequencer.controlled, hw]))⟩
  case true =>
    have hroom : ¬ b.quotaOf (b.station c.st).seq.owner < cdiv (c.fld 0 16 16) 63 + 1 := Nat.not_lt.mpr (hq hw)
    simp only [Bool.true_and, decide_eq_true_eq, hroom, if_false, Bool.not_true, Bool.false_eq_true, Bool.and_eq_true,
      Bool.not_eq_true', beq_iff_eq, and_assoc]
    split
    case isTrue h =>
      exact ⟨rfl, fun n => Block.station_setSeq (f := (·.controlled c)) (by simp [Sequencer.controlled, hw, h])⟩
    case isFalse h =>
      exact ⟨rfl, fun n => Block.station_setSeq (f := (·.controlled c)) (by simp [Sequencer.controlled, hw, h])⟩

/-- SEQ_REARM arms a sequencer in Hold and answers the state that it leaves it in. -/
theorem cmdSeqRearm_body :
    (cmdSeqRearm.body c b).1 = .done stDone [w32 (if (b.station c.st).seq.st = .hold then SeqState.armed
        else (b.station c.st).seq.st).code] ∧
      ∀ n, (cmdSeqRearm.body c b).2.station n = if n = c.st ∧ (b.station n).seq.st = .hold then
        { b.station n with seq := (b.station n).seq.goto .armed } else b.station n := by
  unfold cmdSeqRearm okW
  by_cases h : (b.station c.st).seq.st = .hold
  · simp only [h, beq_self_eq_true, if_true, Block.rearm_station]
    refine ⟨rfl, fun n => ?_⟩
    by_cases hn : n = c.st
    · subst hn; simp [h]
    · simp [hn]
  · simp only [beq_eq_false_iff_ne.mpr h, h, if_false, Bool.false_eq_true, true_and]
    intro n
    rw [if_neg]
    rintro ⟨rfl, hold⟩
    exact h hold

/-- What a sequencer is for a new owner `o` (R104, R369): only the counts of its triggers stay (log entry 54). -/
def Sequencer.handedTo (q : Sequencer) (o : Nat) : Sequencer :=
  { owner := o, trigCount := q.trigCount, trigIgnored := q.trigIgnored, suppress := q.suppress }

/-- SEQ_OWNER hands the sequencer to an owner that does not have it yet. -/
theorem cmdSeqOwner_body :
    (cmdSeqOwner.body c b).1 = .done stDone [] ∧ ∀ n, (cmdSeqOwner.body c b).2.station n =
      if n = c.st ∧ (b.station n).seq.owner ≠ c.fld 0 8 7 then
        { b.station n with seq := (b.station n).seq.handedTo (c.fld 0 8 7) } else b.station n := by
  unfold cmdSeqOwner ok
  refine ⟨rfl, fun n => ?_⟩
  simp only [Block.touchOwners_station]
  by_cases hn : n = c.st
  · subst hn
    by_cases ho : c.fld 0 8 7 = (b.station c.st).seq.owner
    · simp [ho]
    · rw [if_neg ho, if_pos ⟨rfl, Ne.symm ho⟩, Block.station_modSeq, Block.seqOff_station, if_pos rfl]
      rfl
  · rw [if_neg (c := n = c.st ∧ _) (fun h => hn h.1)]
    split
    · rfl
    · rw [Block.station_modSeq_ite, if_neg hn, Block.seqOff_station, if_neg hn]

/-- The format version that an owner is given; one that changes starts its streams anew (R149). -/
theorem Block.setFormat_tenant {v : Bool} : ((b.setFormat o v).tenant o).fmt2 = v ∧
    ((b.tenant o).fmt2 ≠ v → ((b.setFormat o v).tenant o).verFirst = true) := by
  unfold Block.setFormat
  split
  case isTrue h => exact ⟨beq_iff_eq.mp h, fun hne => absurd (beq_iff_eq.mp h) hne⟩
  case isFalse h =>
    rw [Block.tenant_modTenant]
    exact ⟨rfl, fun _ => rfl⟩

/-- An answer leaves an owner's format version as it finds it. -/
theorem Block.respond_tenant_format {g tag status : Nat} {quiet : Bool} {ws : List Word} :
    ((b.respond g tag quiet status ws).tenant o).fmt2 = (b.tenant o).fmt2 ∧
      ((b.respond g tag quiet status ws).tenant o).verFirst = (b.tenant o).verFirst := by
  by_cases h : o = g
  · subst h
    obtain ⟨is, due, e⟩ := Block.respond_tenant (b := b) (f := o) (tag := tag) (quiet := quiet) (st := status) (ws := ws)
    rw [e]
    exact ⟨rfl, rfl⟩
  · rw [Block.respond_tenant_of_ne h]
    exact ⟨rfl, rfl⟩

end

/-! ### The commands -/

section
variable {f : Fin 65} {p : Pkt} {s : State}

/-- A packet finds the sequencer's owner as it was when the packet was sent. -/
theorem ownsSeq_begun {b : Block} {c : Call} {op n : Nat} (h : (b.station c.st).seq.owner = c.f) :
    ownsSeq c (b.begun op n p) = true := by
  rw [ownsSeq, Block.begun_station]
  exact beq_iff_eq.2 h

/-- A packet leaves the quotas as it finds them. -/
@[simp] theorem Block.begun_quotaOf {b : Block} {op n o : Nat} : (b.begun op n p).quotaOf o = b.quotaOf o := rfl

theorem seqControl_controls {w v x : Word} (hw : p.params = [w, v, x])
    (ho : f.val = 64 ∨ (s.block.station (fld w 0 5)).seq.owner = f.val)
    (hq : bit w 8 = true → cdiv (fld w 16 16) 63 + 1 ≤ s.block.quotaOf (s.block.station (fld w 0 5)).seq.owner)
    (h : s.block.hears f p 0 false) :
    ∃ t, exec (.seqControl f p) s = .next t ∧ s.block.answered t.block f p stDone [] ∧
      ∀ st, t.block.station st = if st = fld w 0 5 then
        { s.block.station st with seq := (s.block.station st).seq.controlled (callOf f p) } else s.block.station st := by
  have hl : p.params.length = 3 := by rw [hw]; rfl
  have hst : (callOf f p).st = fld w 0 5 := callOf_fld hw ..
  obtain ⟨hdone, hseq⟩ := cmdSeqControl_body (c := callOf f p) (b := s.block.begun 0x24 f p) (by
    rw [callOf_w hw, callOf_fld hw, hst, List.getD_cons_zero, Block.begun_station, Block.begun_quotaOf]
    exact hq)
  refine heard_ans (op := 0x24) (e := cmdSeqControl) h rfl (Nat.le_refl 0) (absurd · Bool.false_ne_true) hl.ge hl.le
    rfl (ho.imp_right fun ho => .inr ⟨rfl, ownsSeq_begun (hst.symm ▸ ho)⟩) hdone (.inl (by decide))
    (fun M hM => cmdSeqControl_seen hM) (by decide) fun st => ?_
  simp only [Block.respond_station, hseq, hst, Block.begun_station]

theorem seqRearm_rearms {w : Word} (hw : p.params = [w])
    (ho : f.val = 64 ∨ (s.block.station (fld w 0 5)).seq.owner = f.val) (h : s.block.hears f p 1 false) :
    ∃ t, exec (.seqRearm f p) s = .next t ∧
      s.block.answered t.block f p stDone [w32 (if (s.block.station (fld w 0 5)).seq.st = .hold then SeqState.armed
        else (s.block.station (fld w 0 5)).seq.st).code] ∧
      ∀ st, t.block.station st = if st = fld w 0 5 ∧ (s.block.station st).seq.st = .hold then
        { s.block.station st with seq := (s.block.station st).seq.goto .armed } else s.block.station st := by
  have hl : p.params.length = 1 := by rw [hw]; rfl
  have hst : (callOf f p).st = fld w 0 5 := callOf_fld hw ..
  obtain ⟨hdone, hseq⟩ := cmdSeqRearm_body (c := callOf f p) (b := s.block.begun 0x25 f p)
  rw [hst] at hdone hseq
  rw [Block.begun_station] at hdone
  refine heard_ans (op := 0x25) (e := cmdSeqRearm) h rfl (Nat.le_refl 1) (absurd · Bool.false_ne_true) hl.ge hl.le
    rfl (ho.imp_right fun ho => .inr ⟨rfl, ownsSeq_begun (hst.symm ▸ ho)⟩) hdone (.inl (by decide))
    (fun M hM => cmdSeqRearm_seen hM) (by decide) fun st => ?_
  simp only [Block.respond_station, hseq, Block.begun_station]
  exact if_congr .rfl rfl rfl

theorem seqOwner_hands {w : Word} (hw : p.params = [w]) (hf : f.val = 64) (ho : fld w 8 7 ≤ 64)
    (h : s.block.hears f p 0 false) :
    ∃ t, exec (.seqOwner f p) s = .next t ∧ s.block.answered t.block f p stDone [] ∧
      ∀ st, t.block.station st = if st = fld w 0 5 ∧ (s.block.station st).seq.owner ≠ fld w 8 7 then
        { s.block.station st with seq := (s.block.station st).seq.handedTo (fld w 8 7) } else s.block.station st := by
  have hl : p.params.length = 1 := by rw [hw]; rfl
  have hst : (callOf f p).st = fld w 0 5 := callOf_fld hw ..
  have hn : (callOf f p).fld 0 8 7 = fld w 8 7 := callOf_fld hw ..
  obtain ⟨hdone, hseq⟩ := cmdSeqOwner_body (c := callOf f p) (b := s.block.begun 0x27 f p)
  rw [hst, hn] at hseq
  refine heard_ans (op := 0x27) (e := cmdSeqOwner) h rfl (Nat.le_refl 0) (absurd · Bool.false_ne_true) hl.ge hl.le
    (decide_eq_true (hn ▸ ho)) (.inl hf) hdone (.inl (by decide)) (fun M hM => cmdSeqOwner_seen hM) (by decide)
    fun st => ?_
  simp only [Block.respond_station, hseq, Block.begun_station]
  exact if_congr .rfl rfl rfl

theorem streamFormat_sets {w : Word} (hw : p.params = [w]) (hr : fld w 0 7 ≤ 64) (ho : f.val = 64 ∨ fld w 0 7 = f.val)
    (h : s.block.hears f p 0 false) :
    ∃ t, exec (.streamFormat f p) s = .next t ∧ s.block.answered t.block f p stDone [] ∧
      (t.block.tenant (fld w 0 7)).fmt2 = bit w 8 ∧
      ((s.block.tenant (fld w 0 7)).fmt2 ≠ bit w 8 → (t.block.tenant (fld w 0 7)).verFirst = true) := by
  have hl : p.params.length = 1 := by rw [hw]; rfl
  have hn : (callOf f p).fld 0 0 7 = fld w 0 7 := callOf_fld hw ..
  have hb : cmdStreamFormat.body (callOf f p) (s.block.begun 0x28 f p) =
      ok ((s.block.begun 0x28 f p).setFormat (fld w 0 7) (bit w 8)) := by
    cases p; cases hw; rfl
  refine heard_ans (op := 0x28) (e := cmdStreamFormat) h rfl (Nat.le_refl 0) (absurd · Bool.false_ne_true) hl.ge hl.le
    (decide_eq_true (hn ▸ hr)) (ho.imp_right fun ho => .inr ⟨rfl, beq_iff_eq.2 (hn.trans ho)⟩) (by rw [hb]; rfl)
    (.inl (by decide)) (fun M hM => cmdStreamFormat_seen hM) (by decide) ?_
  dsimp only
  rw [Block.respond_tenant_format.1, Block.respond_tenant_format.2, hb]
  exact Block.setFormat_tenant (b := s.block.begun 0x28 f p)

end

/-- Settles O13: each of the four commands is heard and answered; its body moves the sequencer that it names, or sets the
owner's format version. -/
theorem sequencerCommandsAct : Obligations.SequencerCommandsAct := by
  refine fun f p s => ⟨fun w v x hw ho hq h => ?_, fun w => seqRearm_rearms, fun w => seqOwner_hands,
    fun w => streamFormat_sets⟩
  simpa only [Sequencer.controlled, callOf_w hw, callOf_fld hw, List.getD_cons_zero, List.getD_cons_succ]
    using seqControl_controls hw ho hq h

end Sys2Proof.Machine

namespace Sys2Proof.Machine

/-! ## Events at the comparators of a sequencer (R105, R108, R110, R111, R113, R238) -/

section
variable {b : Block} {st source tap mask : Nat} {gt : Gt}

/-! ### An evaluation (R111) -/

@[simp] theorem Block.seqAct_none {was : SeqState} : b.seqAct st .none was source tap mask gt = b := by
  unfold Block.seqAct
  split <;> rfl

theorem Block.seqAct_start {was : SeqState} (h : (b.station st).seq.st = was) :
    b.seqAct st .start was source tap mask gt = b.modSeq st (·.goto .armed) := by
  unfold Block.seqAct
  rw [h, bne_self_eq_false]
  rfl

/-- The station after its sequencer became `q'` in an evaluation: as it is without an act, and armed by a start. -/
theorem Block.evaluated_station {q' : Sequencer} {a : SeqAct} (h : q'.st = (b.station st).seq.st) :
    (a = .none → ((b.modSeq st (fun _ => q')).seqAct st a (b.station st).seq.st source tap mask gt).station st =
      { b.station st with seq := q' }) ∧
    (a = .start → (((b.modSeq st (fun _ => q')).seqAct st a (b.station st).seq.st source tap mask gt).station st).seq =
      q'.goto .armed) := by
  constructor
  · rintro rfl
    rw [Block.seqAct_none, Block.station_modSeq]
  · rintro rfl
    rw [Block.seqAct_start (by rw [Block.station_modSeq]; exact h), Block.station_modSeq, Block.station_modSeq]

/-- A sequencer that is off evaluates nothing (R104, R110). -/
theorem Block.seqEvent_of_off {i : CmpIn} (h : (b.station st).seq.en = false) : b.seqEvent st i gt = b := by
  simp [Block.seqEvent, h]

/-- The station after an event was evaluated by its sequencer (R110, R111). -/
theorem Block.seqEvent_station {i : CmpIn} {r : Nat × Sequencer} (h : (b.station st).seq.en = true)
    (hr : r = (b.station st).seq.update i) :
    (r.2.choose r.1 = .none → (b.seqEvent st i gt).station st = { b.station st with seq := r.2 }) ∧
    (r.2.choose r.1 = .start → ((b.seqEvent st i gt).station st).seq = r.2.goto .armed) := by
  subst hr
  simp only [Block.seqEvent, h, Bool.not_true, Bool.false_eq_true, if_false]
  exact Block.evaluated_station rfl

/-! ### An arrival (R105, R110, R113) -/

/-- The waiting event `e` leaves the station's events. -/
def Block.withdraw (b : Block) (st : Nat) (e : CmpEvent) : Block :=
  b.modStation st (fun s => { s with events := s.events.erase e })

@[simp] theorem Block.withdraw_station {e : CmpEvent} : (b.withdraw st e).station st =
    { b.station st with events := (b.station st).events.erase e } := Block.station_modStation

/-- The event that a station's sequencer takes next has the source that was asked for. -/
theorem Station.nextEvent_source {x : Station} {e : CmpEvent} (h : x.nextEvent source gt = some e) : e.source = source :=
  beq_iff_eq.mp (Option.filter_eq_some_iff.mp h).2

/-- The next event leaves; the sequencer evaluates it when its owner may see it: an event of its own owner, and as the
operator's any event but a cross-trigger (R105, R113, log entry 64). -/
theorem Block.arrive_eq {e : CmpEvent} (h : (b.station st).nextEvent source b.gt = some e) : b.arrive st source =
    if (b.station st).seq.owner = e.owner ∨ ((b.station st).seq.owner = 64 ∧ source ≠ 4) then
      (b.withdraw st e).seqEvent st { source := source, subsel := e.subsel, field := e.field } e.gt
    else b.withdraw st e := by
  unfold Block.arrive
  rw [h, ← Station.nextEvent_source h]
  simp [Block.withdraw]

/-- An event that the sequencer does not evaluate only leaves. -/
theorem Block.arrive_of_hidden {e : CmpEvent} (h : (b.station st).nextEvent source b.gt = some e)
    (hq : (b.station st).seq.en = false ∨
      ¬((b.station st).seq.owner = e.owner ∨ ((b.station st).seq.owner = 64 ∧ source ≠ 4))) :
    (b.arrive st source).station st = { b.station st with events := (b.station st).events.erase e } := by
  rw [Block.arrive_eq h]
  split
  case isTrue hs =>
    have hoff : (b.station st).seq.en = false := hq.resolve_right (not_not_intro hs)
    rw [Block.seqEvent_of_off (by rw [Block.withdraw_station]; exact hoff), Block.withdraw_station]
  case isFalse => exact Block.withdraw_station

/-- An event that the sequencer evaluates moves its comparators, and arms it where a start condition is true. -/
theorem Block.arrive_of_visible {e : CmpEvent} {r : Nat × Sequencer} (h : (b.station st).nextEvent source b.gt = some e)
    (hen : (b.station st).seq.en = true)
    (ho : (b.station st).seq.owner = e.owner ∨ ((b.station st).seq.owner = 64 ∧ source ≠ 4))
    (hr : r = (b.station st).seq.update { source := source, subsel := e.subsel, field := e.field }) :
    (r.2.choose r.1 = .none → (b.arrive st source).station st =
      { b.station st with events := (b.station st).events.erase e, seq := r.2 }) ∧
    (r.2.choose r.1 = .start → ((b.arrive st source).station st).seq = r.2.goto .armed) := by
  rw [Block.arrive_eq h, if_pos ho]
  have he := Block.seqEvent_station (b := b.withdraw st e) (st := st) (gt := e.gt) (r := r)
    (i := { source := source, subsel := e.subsel, field := e.field })
    (by rw [Block.withdraw_station]; exact hen) (by rw [Block.withdraw_station]; exact hr)
  rwa [Block.withdraw_station] at he

end

/-! ### The commands -/

section
variable {s : State} {st : Fin 32} {q : Sequencer}

theorem crossTriggerArrival_arrives {e : CmpEvent} (hq : q = (s.block.station st).seq) (hr : s.block.running = true)
    (hn : (s.block.station st).nextEvent 4 s.block.gt = some e) :
    ∃ t, exec (.crossTriggerArrival st) s = .next t ∧
      (q.en = false ∨ q.owner ≠ e.owner → t.block.station st = { s.block.station st with
        events := (s.block.station st).events.erase e }) ∧
      (∀ r, q.en = true → q.owner = e.owner → r = q.update { source := 4, subsel := e.subsel, field := e.field } →
        r.2.choose r.1 = .none → t.block.station st = { s.block.station st with
          events := (s.block.station st).events.erase e, seq := r.2 }) ∧
      (∀ r, q.en = true → q.owner = e.owner → r = q.update { source := 4, subsel := e.subsel, field := e.field } →
        r.2.choose r.1 = .start → (t.block.station st).seq = r.2.goto .armed) := by
  subst hq
  have hE : exec (.crossTriggerArrival st) s = .next { s with block := s.block.arrive st 4 } := by
    change execCrossTriggerArrival st s = _
    rw [execCrossTriggerArrival, State.run_eq, if_pos hr]
  refine ⟨_, hE, fun h => ?_, fun r hen ho hr => (Block.arrive_of_visible hn hen (.inl ho) hr).1,
    fun r hen ho hr => (Block.arrive_of_visible hn hen (.inl ho) hr).2⟩
  exact Block.arrive_of_hidden hn (h.imp_right fun ho => by simp [ho])

theorem assayEventArrival_arrives {e : CmpEvent} (hq : q = (s.block.station st).seq) (hr : s.block.running = true)
    (hn : (s.block.station st).nextEvent 1 s.block.gt = some e) :
    ∃ t, exec (.assayEventArrival st) s = .next t ∧
      (q.en = false ∨ (q.owner ≠ e.owner ∧ q.owner ≠ 64) → t.block.station st = { s.block.station st with
        events := (s.block.station st).events.erase e }) ∧
      (∀ r, q.en = true → q.owner = e.owner ∨ q.owner = 64 →
        r = q.update { source := 1, subsel := e.subsel, field := e.field } →
        r.2.choose r.1 = .none → t.block.station st = { s.block.station st with
          events := (s.block.station st).events.erase e, seq := r.2 }) := by
  subst hq
  have hE : exec (.assayEventArrival st) s = .next { s with block := s.block.arrive st 1 } := by
    change execAssayEventArrival st s = _
    rw [execAssayEventArrival, State.run_eq, if_pos hr]
  refine ⟨_, hE, fun h => ?_, fun r hen ho hr => ?_⟩
  · exact Block.arrive_of_hidden hn (h.imp_right fun ho => by simp [ho])
  · exact (Block.arrive_of_visible hn hen (ho.imp_right fun ho => ⟨ho, by decide⟩) hr).1

theorem seqTimerFire_fires {k : Fin 8} {c c' : Comp} {q' : Sequencer} (hq : q = (s.block.station st).seq)
    (hr : s.block.running = true) (hc : c = tget {} q.comps k) (hen : q.en = true)
    (hdue : c.timerDue s.block.gt = true) (hc' : c' = { c with once := true, latched := c.latched || c.latchOn })
    (hq' : q' = { q with comps := tset {} q.comps k c' }) :
    ∃ t, exec (.seqTimerFire st k) s = .next t ∧
      (q'.choose (q'.latchedMask ||| 2 ^ k.val) = .none → t.block.station st = { s.block.station st with seq := q' }) ∧
      (q'.choose (q'.latchedMask ||| 2 ^ k.val) = .start → (t.block.station st).seq = q'.goto .armed) := by
  have hE : exec (.seqTimerFire st k) s = .next { s with
      block := (s.block.modSeq st (fun _ => q')).seqAct st (q'.choose (q'.latchedMask ||| 2 ^ k.val))
        (s.block.station st).seq.st 5 0 (q'.latchedMask ||| 2 ^ k.val) s.block.gt } := by
    subst hq' hc' hc hq
    change execSeqTimerFire st k s = _
    rw [execSeqTimerFire, State.run_eq]
    dsimp only
    rw [if_pos (by rw [hr, hen, hdue]; rfl)]
  exact ⟨_, hE, Block.evaluated_station (by rw [hq', hq])⟩

end

/-- Settles O38: the event that is next leaves and is evaluated by a sequencer that may see it; a TIMER comparator that is
due is evaluated once; a start arms the sequencer. -/
theorem eventsReachComparators : Obligations.EventsReachComparators :=
  fun _ _ _ hq hr => ⟨fun _ => crossTriggerArrival_arrives hq hr, fun _ => assayEventArrival_arrives hq hr,
    fun _ _ _ _ => seqTimerFire_fires hq hr⟩

end Sys2Proof.Machine

namespace Sys2Proof.Machine

/-! ## The commands of the cask (R158, R163, R169, R175 to R179, R342, R343) -/

/-! ### Listed entries and masks -/

/-- An entry that differs from the table's default is listed. -/
theorem mem_of_tget_ne {α : Type} {d : α} {t : Tbl α} {n : Nat} (h : tget d t n ≠ d) : (n, tget d t n) ∈ t := by
  induction t with
  | nil => exact absurd rfl h
  | cons e t ih =>
    obtain ⟨k, v⟩ := e
    rw [tget] at h ⊢
    by_cases hn : n = k
    · rw [if_pos hn, hn]
      exact List.mem_cons_self
    · rw [if_neg hn] at h ⊢
      exact List.mem_cons_of_mem _ (ih h)

/-- The set bits of a mask are the listed numbers. -/
theorem maskOf_testBit {l : List Nat} {i : Nat} : (maskOf l).testBit i = true ↔ i ∈ l := by
  have h : ∀ (l : List Nat) (m : Nat),
      (l.foldl (fun m i => m ||| 2 ^ i) m).testBit i = true ↔ m.testBit i = true ∨ i ∈ l := by
    intro l
    induction l with
    | nil => simp
    | cons k l ih =>
      intro m
      rw [List.foldl_cons, ih, Nat.testBit_or, Nat.testBit_two_pow, Bool.or_eq_true, decide_eq_true_eq, List.mem_cons, or_assoc,
        eq_comm (a := k)]
  simpa [maskOf] using h l 0

theorem bit_w32 {n i : Nat} (hi : i < 32) : bit (w32 n) i = n.testBit i := by
  rw [bit, w32, BitVec.getLsbD_ofNat, decide_eq_true hi, Bool.true_and]

/-! ### Owners and pages after a hold ends, and after a change of mode (R163, R168, R169) -/

section
variable {b : Block} {o g k : Nat}

theorem Block.closeOpen_tenants : (b.closeOpen o).tenants = b.tenants := Block.each_keeps (p := Block.tenants) fun _ _ => rfl

theorem Block.holdEnd_tenant :
    (b.holdEnd o).tenant g = if g = o then { b.tenant g with caskHold := false } else b.tenant g := by
  have h : (b.holdEnd o).tenants = (b.modTenant o (fun t => { t with caskHold := false })).tenants :=
    Block.each_keeps (p := Block.tenants) fun _ _ => rfl
  rw [Block.tenant, h, ← Block.tenant, Block.tenant_modTenant_ite]

theorem Page.unhold_unhold {p : Page} : p.unhold.unhold = p.unhold := by
  unfold Page.unhold
  by_cases h1 : p.st = .held
  · simp [h1]
  · by_cases h2 : p.st = .draining ∧ p.back = .held
    · simp [h2.1, h2.2]
    · have h3 : (p.st == .draining && p.back == .held) = false := by simpa using h2
      simp [h1, h3]

/-- Of the pages that are listed, each leaves its hold once. -/
theorem Block.unholdAll_page {l : List Nat} : (b.each l (fun b p => b.modPage p Page.unhold)).page k =
    if k ∈ l then (b.page k).unhold else b.page k := by
  induction l generalizing b with
  | nil => rfl
  | cons p l ih =>
    change ((b.modPage p Page.unhold).each l (fun b p => b.modPage p Page.unhold)).page k = _
    rw [ih, Block.page_modPage_ite]
    by_cases hp : k = p <;> by_cases hl : k ∈ l <;> simp [hp, hl, Page.unhold_unhold]

/-- The pages that a hold's end releases: those listed as held, or draining and held before, of the owner. -/
theorem Block.mem_heldPages : k ∈ (b.pagesOf o Page.isHeld).map Prod.fst ↔
    ∃ g, (k, g) ∈ b.cask.pages ∧ g.isHeld = true ∧ g.owner = o := by
  have h : ∀ p : Page, p.isHeld = true → p.st ≠ .free ∧ p.st ≠ .fenced := by
    intro p hp
    simp only [Page.isHeld, Bool.or_eq_true, Bool.and_eq_true, beq_iff_eq] at hp
    rcases hp with h | ⟨h, -⟩ <;> simp [h]
  simp only [Block.pagesOf, List.mem_map, List.mem_filter, Bool.and_eq_true, bne_iff_ne, beq_iff_eq]
  constructor
  · rintro ⟨⟨_, p⟩, ⟨hp, ⟨-, ho⟩, hh⟩, rfl⟩
    exact ⟨p, hp, hh, ho⟩
  · rintro ⟨p, hp, hh, ho⟩
    exact ⟨(k, p), ⟨hp, ⟨h p hh, ho⟩, hh⟩, rfl⟩

theorem Block.holdEnd_page : (b.holdEnd o).page k =
    if k ∈ (b.pagesOf o Page.isHeld).map Prod.fst then (b.page k).unhold else b.page k := Block.unholdAll_page

theorem Block.holdEnd_page_of_held (h : (b.page k).isHeld = true) (ho : (b.page k).owner = o) :
    (b.holdEnd o).page k = (b.page k).unhold := by
  rw [Block.holdEnd_page, if_pos (Block.mem_heldPages.2 ⟨b.page k, mem_of_tget_ne fun hd => ?_, h, ho⟩)]
  rw [Block.page, hd] at h
  exact absurd h (by decide)

theorem Block.holdEnd_page_of_other (h : ∀ g, (k, g) ∈ b.cask.pages → ¬(g.isHeld = true ∧ g.owner = o)) :
    (b.holdEnd o).page k = b.page k := by
  rw [Block.holdEnd_page, if_neg fun hk => ?_]
  obtain ⟨g, hg, hh⟩ := Block.mem_heldPages.1 hk
  exact h g hg hh

/-- A change of mode leaves the flush time of the stream (R163). -/
theorem Block.setMode_tenant {m : Nat} : ((b.setMode o m).tenant o).mode = m ∧
    ((b.setMode o m).tenant o).flushUs = (b.tenant o).flushUs := by
  have hc : (b.closeOpen o).tenant o = b.tenant o := by rw [Block.tenant, Block.closeOpen_tenants, ← Block.tenant]
  unfold Block.setMode
  dsimp only
  split
  · exact ⟨‹_›, rfl⟩
  · rw [Block.tenant_modTenant]
    split
    · rw [Block.holdEnd_tenant, if_pos rfl, hc]
      exact ⟨rfl, rfl⟩
    · rw [hc]
      exact ⟨rfl, rfl⟩

/-! ### The catalogue entries -/

/-- The pages that CASK_DRAIN names: Full or Held of the owner's epoch, all of them or those in the range (R343). -/
def Block.drainSet (b : Block) (o : Nat) (all : Bool) (lo hi : Nat) : List Nat :=
  (b.pagesOf o (fun g => g.epoch == b.epochOf o && (g.st == .full || g.st == .held) &&
    (all || (decide (lo ≤ g.pageSeq) && decide (g.pageSeq ≤ hi))))).map (fun e => e.2.oseq)

theorem cmdCaskDrain_body_of_nil {c : Call}
    (h : b.drainSet (c.fld 0 0 7) (bit (c.w 0) 12) (c.w 1).toNat (c.w 2).toNat = []) :
    cmdCaskDrain.body c b = okW [0, 0] b := by
  unfold Block.drainSet at h
  simp only [cmdCaskDrain, h, List.isEmpty_nil, if_true]

theorem cmdCaskDrain_body_of_ne_nil {c : Call}
    (h : b.drainSet (c.fld 0 0 7) (bit (c.w 0) 12) (c.w 1).toNat (c.w 2).toNat ≠ []) :
    cmdCaskDrain.body c b = (.long (.caskDrain (c.fld 0 0 7)
      (if (b.chan (c.fld 0 8 4)).st = .disabled then drainNone else c.fld 0 8 4)
      (b.drainSet (c.fld 0 0 7) (bit (c.w 0) 12) (c.w 1).toNat (c.w 2).toNat) 0 0), b) := by
  unfold Block.drainSet at h ⊢
  simp only [cmdCaskDrain, List.isEmpty_iff, if_neg h, beq_iff_eq]

/-- The words that CASK_STATUS answers function `f` (R175, R342). -/
def Block.caskWords (b : Block) (o f : Nat) : List Word :=
  [w32 (pack [(14, b.heldOf o), (2, 0), (14, b.quotaOf o), (2, (b.tenant o).mode)]),
    w32 (pack [(14, (b.tenant o).trigTrunc), (2, 0), (1, b2n (b.tenant o).caskHold)]), w32 (b.tenant o).trigOldest,
    w32 (b.tenant o).rsvShort] ++
  (if f = 64 then [w32 (b.tenant o).evicted, w32 (b.tenant o).refused, w32 (b.tenant o).pageLost] else [0, 0, 0])

/-- The counters that CASK_STATUS clears. -/
def Tenant.uncounted (t : Tenant) : Tenant := { t with rsvShort := 0, evicted := 0, refused := 0, pageLost := 0 }

theorem cmdCaskStatus_body {c : Call} : cmdCaskStatus.body c b = okW (b.caskWords (c.fld 0 0 7) c.f)
    (if c.clear then b.modTenant (c.fld 0 0 7) Tenant.uncounted else b) := rfl

theorem cmdCaskPool_body {c : Call} : cmdCaskPool.body c b =
    okW [w32 (pack [(14, b.freePages), (2, 0), (14, b.usable)]), w32 b.cask.epochDiscard, w32 b.cask.uePages]
      (if c.clear then b.modCask (fun k => { k with epochDiscard := 0, uePages := 0 }) else b) := rfl

/-- The fence mask as the words of CASK_FENCE_READ (R179). -/
def Block.fenceWords (b : Block) : List Word :=
  (upto 16).map (fun k => w32 (maskOf ((b.cask.fence.filter (fun m => m / 32 == k)).map (fun m => m % 32))))

theorem Block.bit_fenceWords {m : Nat} (hm : m < 512) :
    bit (b.fenceWords.getD (m / 32) 0) (m % 32) = true ↔ m ∈ b.cask.fence := by
  have hk : m / 32 < 16 := by omega
  have hword : b.fenceWords.getD (m / 32) 0 =
      w32 (maskOf ((b.cask.fence.filter (fun k => k / 32 == m / 32)).map (fun k => k % 32))) := by
    simp [Block.fenceWords, upto, hk]
  rw [hword, bit_w32 (Nat.mod_lt _ (by decide)), maskOf_testBit]
  simp only [List.mem_map, List.mem_filter, beq_iff_eq]
  constructor
  · rintro ⟨k, ⟨hk, hd⟩, hr⟩
    obtain rfl : k = m := by omega
    assumption
  · exact fun h => ⟨m, ⟨h, rfl⟩, rfl⟩

end

/-! ### The commands -/

section
variable {f : Fin 65} {p : Pkt} {s : State}

/-- A packet leaves the pages that owners hold as it finds them. -/
theorem Block.begun_heldOf {b : Block} {op n o : Nat} : (b.begun op n p).heldOf o = b.heldOf o := rfl

/-- The calls of R337 clear counters for the operator only. -/
theorem callOf_clear {w : Word} {ws : List Word} (h : p.params = w :: ws) :
    (callOf f p).clear = (bit w 31 && f.val == 64) := by
  rw [Call.clear, callOf_w h]
  rfl

theorem callOf_clear_operator {w : Word} {ws : List Word} (h : p.params = w :: ws) (hf : f.val = 64) :
    (callOf f p).clear = bit w 31 := by rw [callOf_clear h, hf, beq_self_eq_true, Bool.and_true]

theorem caskMode_sets {w v : Word} (hw : p.params = [w, v]) (hr : fld w 0 7 ≤ 64) (hm : fld w 8 2 ≠ 3)
    (hu : fld v 0 14 ≤ 10000) (ho : f.val = 64 ∨ fld w 0 7 = f.val) (h : s.block.hears f p 0 false) :
    ∃ t, exec (.caskMode f p) s = .next t ∧ s.block.answered t.block f p stDone [] ∧
      (t.block.tenant (fld w 0 7)).mode = fld w 8 2 ∧
      (t.block.tenant (fld w 0 7)).flushUs =
        (if fld v 0 14 = 0 then (s.block.tenant (fld w 0 7)).flushUs else fld v 0 14) := by
  have hl : p.params.length = 2 := by rw [hw]; rfl
  have hn : (callOf f p).fld 0 0 7 = fld w 0 7 := callOf_fld hw ..
  have hb : cmdCaskMode.body (callOf f p) (s.block.begun 0x30 f p) =
      ok (((s.block.begun 0x30 f p).setMode (fld w 0 7) (fld w 8 2)).modTenant (fld w 0 7)
        (fun t => { t with flushUs := if fld v 0 14 = 0 then t.flushUs else fld v 0 14 })) := by
    cases p; cases hw; rfl
  refine heard_ans (op := 0x30) (e := cmdCaskMode) h rfl (Nat.le_refl 0) (absurd · Bool.false_ne_true) hl.ge hl.le ?_
    (ho.imp_right fun ho => .inr ⟨rfl, beq_iff_eq.2 (hn.trans ho)⟩) (by rw [hb]; rfl) (.inl (by decide))
    (fun M hM => cmdCaskMode_seen hM) (by decide) ?_
  · simp [cmdCaskMode, owner0Ok, callOf_fld hw, hr, hm, hu]
  · obtain ⟨hmode, hflush⟩ := Block.setMode_tenant (b := s.block.begun 0x30 f p) (o := fld w 0 7) (m := fld w 8 2)
    rw [hb]
    simp only [ok, Block.respond_tenant_mode, Block.respond_tenant_flushUs, Block.tenant_modTenant, hmode, hflush,
      Block.begun_tenant, and_self]

theorem caskDrain_drains {w lo hi : Word} {pages : List Nat} (hw : p.params = [w, lo, hi]) (hr : fld w 0 7 ≤ 64)
    (ho : f.val = 64 ∨ (fld w 0 7 = f.val ∧ (s.block.chan (fld w 8 4)).owner = f.val)) (h : s.block.hears f p 2 true)
    (hp : pages = s.block.drainSet (fld w 0 7) (bit w 12) lo.toNat hi.toNat) :
    ∃ t, exec (.caskDrain f p) s = .next t ∧
      (pages = [] → s.block.answered t.block f p stDone [0, 0] ∧ s.block.calm t.block f []) ∧
      (pages ≠ [] → (t.block.port f).longs = (s.block.port f).longs ++
          [{ tag := p.tag.toNat, quiet := bit p.flags 1, lines := 1, order := s.block.power.longOrder
             kind := .caskDrain (fld w 0 7)
               (if (s.block.chan (fld w 8 4)).st = .disabled then drainNone else fld w 8 4) pages 0 0 }] ∧
        (t.block.port f).ring = (s.block.port f).ring ∧ t.block.tenants = s.block.tenants ∧
        t.block.seen packetAreas = s.block.seen packetAreas) := by
  have hl : p.params.length = 3 := by rw [hw]; rfl
  have hn : (callOf f p).fld 0 0 7 = fld w 0 7 := callOf_fld hw ..
  have hc : (callOf f p).fld 0 8 4 = fld w 8 4 := callOf_fld hw ..
  have hrange : cmdCaskDrain.range (callOf f p) = true := decide_eq_true (hn ▸ hr)
  have hown : f.val = 64 ∨ cmdCaskDrain.priv = .all ∨
      (cmdCaskDrain.priv = .own ∧ cmdCaskDrain.owns (callOf f p) (s.block.begun 0x31 f p) = true) := by
    refine ho.imp_right fun ho => .inr ⟨rfl, ?_⟩
    simp only [cmdCaskDrain, owner0Mine, hn, hc, Block.begun_chan, Bool.and_eq_true, beq_iff_eq]
    exact ho
  have hset : (s.block.begun 0x31 f p).drainSet ((callOf f p).fld 0 0 7) (bit ((callOf f p).w 0) 12) ((callOf f p).w 1).toNat
      ((callOf f p).w 2).toNat = pages := by
    rw [hp, hn, callOf_w hw, callOf_w hw, callOf_w hw]
    rfl
  by_cases hnil : pages = []
  · have hb := cmdCaskDrain_body_of_nil (hset.trans hnil)
    obtain ⟨t, ht, ha, hcalm, -⟩ := heard_calm (op := 0x31) (e := cmdCaskDrain) (P := fun _ => True) (away := []) h rfl
      (Nat.le_refl 2) (fun _ => rfl) hl.ge hl.le hrange hown (by rw [hb]; rfl) (.inl (by decide))
      (fun M _ => by rw [hb]; rfl) (by decide) trivial
    exact ⟨t, ht, fun _ => ⟨ha, hcalm⟩, fun hne => absurd hnil hne⟩
  · have hb := cmdCaskDrain_body_of_ne_nil (c := callOf f p) (b := s.block.begun 0x31 f p) (by rw [hset]; exact hnil)
    have hport := Block.begun_port (op := 0x31) (p := p) h.1.2.2.2.2.1 f
    have hlines : (if bit p.flags 1 then 1 else linesOf (1 + cmdCaskDrain.res p.params.length)) = 1 := by
      simp [cmdCaskDrain, linesOf, cdiv]
    obtain ⟨t, ht, rfl⟩ := heard_long (op := 0x31) (e := cmdCaskDrain) (P := fun t => t = _) h rfl (Nat.le_refl 2)
      (fun _ => rfl) hl.ge hl.le hrange hown hb rfl
    refine ⟨_, ht, fun hnil' => absurd hnil' hnil, fun _ => ⟨?_, ?_, ?_, ?_⟩⟩
    · rw [Block.port_modPower, Block.port_modPort, hport, hset, hn, hc, hlines]
      rfl
    · rw [Block.port_modPower, Block.port_modPort, hport]
    · rw [Block.modPower_tenants, Block.modPort_tenants, Block.begun_tenants]
    · exact (Block.modPower_seen (by decide)).trans ((Block.modPort_seen (by decide)).trans (Block.begun_seen (away := [])))

theorem caskRelease_releases {w : Word} (hw : p.params = [w]) (hr : fld w 0 7 ≤ 64) (ho : f.val = 64 ∨ fld w 0 7 = f.val)
    (h : s.block.hears f p 0 false) :
    ∃ t, exec (.caskRelease f p) s = .next t ∧ s.block.answered t.block f p stDone [] ∧
      (t.block.tenant (fld w 0 7)).caskHold = false ∧ ∀ n, t.block.page n = (s.block.holdEnd (fld w 0 7)).page n := by
  have hl : p.params.length = 1 := by rw [hw]; rfl
  have hn : (callOf f p).fld 0 0 7 = fld w 0 7 := callOf_fld hw ..
  have hb : cmdCaskRelease.body (callOf f p) (s.block.begun 0x32 f p) = ok ((s.block.begun 0x32 f p).holdEnd (fld w 0 7)) := by
    cases p; cases hw; rfl
  refine heard_ans (op := 0x32) (e := cmdCaskRelease) h rfl (Nat.le_refl 0) (absurd · Bool.false_ne_true) hl.ge hl.le
    (decide_eq_true (hn ▸ hr)) (ho.imp_right fun ho => .inr ⟨rfl, beq_iff_eq.2 (hn.trans ho)⟩) (by rw [hb]; rfl)
    (.inl (by decide)) (fun M hM => cmdCaskRelease_seen hM) (by decide) ⟨?_, fun n => ?_⟩
  · rw [hb, Block.respond_tenant_caskHold, ok, Block.holdEnd_tenant, if_pos rfl]
  · rw [hb, Block.respond_page, ok, Block.holdEnd_page, Block.holdEnd_page]
    rfl

theorem caskStatus_reads {w : Word} (hw : p.params = [w]) (hr : fld w 0 7 ≤ 64) (ho : f.val = 64 ∨ fld w 0 7 = f.val)
    (h : s.block.hears f p 7 false) :
    ∃ t, exec (.caskStatus f p) s = .next t ∧
      s.block.answered t.block f p stDone (s.block.caskWords (fld w 0 7) f) ∧
      (f.val = 64 → bit w 31 = true → (t.block.tenant (fld w 0 7)).rsvShort = 0 ∧
        (t.block.tenant (fld w 0 7)).evicted = 0 ∧ (t.block.tenant (fld w 0 7)).refused = 0 ∧
        (t.block.tenant (fld w 0 7)).pageLost = 0) ∧
      (f.val ≠ 64 ∨ bit w 31 = false → s.block.calm t.block f []) ∧
      (∀ g, g ≠ f.val → g ≠ fld w 0 7 → t.block.tenant g = s.block.tenant g) := by
  have hl : p.params.length = 1 := by rw [hw]; rfl
  have hn : (callOf f p).fld 0 0 7 = fld w 0 7 := callOf_fld hw ..
  have hwords : (s.block.begun 0x33 f p).caskWords (fld w 0 7) f = s.block.caskWords (fld w 0 7) f := by
    simp only [Block.caskWords, Block.begun_heldOf, Block.begun_quotaOf, Block.begun_tenant]
  have hb := cmdCaskStatus_body (c := callOf f p) (b := s.block.begun 0x33 f p)
  rw [hn, callOf_clear hw, show (callOf f p).f = f.val from rfl, hwords] at hb
  have hrange : cmdCaskStatus.range (callOf f p) = true := decide_eq_true (hn ▸ hr)
  have hown : f.val = 64 ∨ cmdCaskStatus.priv = .all ∨
      (cmdCaskStatus.priv = .own ∧ cmdCaskStatus.owns (callOf f p) (s.block.begun 0x33 f p) = true) :=
    ho.imp_right fun ho => .inr ⟨rfl, beq_iff_eq.2 (hn.trans ho)⟩
  by_cases hc : f.val = 64 ∧ bit w 31 = true
  · rw [if_pos (by simp [hc])] at hb
    refine heard_ans (op := 0x33) (e := cmdCaskStatus) h rfl (Nat.le_refl 7) (absurd · Bool.false_ne_true) hl.ge hl.le
      hrange hown (by rw [hb]; rfl) (.inl (by decide)) (fun M hM => cmdCaskStatus_seen hM) (by decide) ?_
    rw [hb]
    refine ⟨fun _ _ => ?_, fun hnc => absurd hc (by rcases hnc with h | h <;> simp [h]), fun g hg hgo => ?_⟩
    · simp only [okW, Block.respond_tenant_rsvShort, Block.respond_tenant_evicted, Block.respond_tenant_refused,
        Block.respond_tenant_pageLost, Block.tenant_modTenant, Tenant.uncounted, and_self]
    · rw [Block.respond_tenant_of_ne hg, okW, Block.tenant_modTenant_of_ne hgo, Block.begun_tenant]
  · rw [if_neg (by simpa [and_comm] using hc)] at hb
    obtain ⟨t, ht, ha, hcalm, -⟩ := heard_calm (op := 0x33) (e := cmdCaskStatus) (P := fun _ => True) (away := []) h rfl
      (Nat.le_refl 7) (absurd · Bool.false_ne_true) hl.ge hl.le hrange hown (by rw [hb]; rfl) (.inl (by decide))
      (fun M _ => by rw [hb]; rfl) (by decide) trivial
    exact ⟨t, ht, ha, fun h1 h2 => absurd ⟨h1, h2⟩ hc, fun _ => hcalm, fun g hg _ => hcalm.2.1 g hg⟩

theorem caskPool_reads {w : Word} (hw : p.params = [w]) (hf : f.val = 64) (h : s.block.hears f p 3 false) :
    ∃ t, exec (.caskPool f p) s = .next t ∧ s.block.answered t.block f p stDone
        [w32 (pack [(14, s.block.freePages), (2, 0), (14, s.block.usable)]), w32 s.block.cask.epochDiscard,
         w32 s.block.cask.uePages] ∧ s.block.calm t.block f [.cask] ∧
      t.block.cask = if bit w 31 = true then { s.block.cask with epochDiscard := 0, uePages := 0 } else s.block.cask := by
  have hl : p.params.length = 1 := by rw [hw]; rfl
  have hb := cmdCaskPool_body (c := callOf f p) (b := s.block.begun 0x34 f p)
  rw [callOf_clear_operator hw hf] at hb
  refine heard_calm (op := 0x34) (e := cmdCaskPool) h rfl (Nat.le_refl 3) (absurd · Bool.false_ne_true) hl.ge hl.le rfl
    (.inl hf) (by rw [hb]; rfl) (.inl (by decide)) (fun M hM => cmdCaskPool_seen hM) (by decide) ?_
  rw [hb, Block.respond_cask, okW]
  split <;> rfl

theorem caskFenceRead_reads (hw : p.params = []) (hf : f.val = 64) (h : s.block.hears f p 16 false) :
    ∃ t, exec (.caskFenceRead f p) s = .next t ∧ s.block.answered t.block f p stDone s.block.fenceWords ∧
      s.block.calm t.block f [] ∧ True := by
  have hl : p.params.length = 0 := by rw [hw]; rfl
  exact heard_calm (op := 0x35) (e := cmdCaskFenceRead) (away := []) h rfl (Nat.le_refl 16) (absurd · Bool.false_ne_true)
    hl.ge hl.le rfl (.inl hf) rfl (.inl (by decide)) (fun M hM => cmdCaskFenceRead_seen hM) (by decide) trivial

theorem caskMacro_reads {w : Word} (hw : p.params = [w]) (hf : f.val = 64) (h : s.block.hears f p 1 false) :
    ∃ t, exec (.caskMacro f p) s = .next t ∧
      s.block.answered t.block f p stDone [w32 (tget 0 s.block.cask.ce (fld w 0 9))] ∧
      s.block.calm t.block f [.cask] ∧ t.block.cask = { s.block.cask with ce := t.block.cask.ce } ∧
      (∀ n, tget 0 t.block.cask.ce n = if bit w 31 = true ∧ n = fld w 0 9 then 0 else tget 0 s.block.cask.ce n) := by
  have hl : p.params.length = 1 := by rw [hw]; rfl
  have hb : cmdCaskMacro.body (callOf f p) (s.block.begun 0x36 f p) =
      okW [w32 (tget 0 s.block.cask.ce (fld w 0 9))] (if bit w 31 then
        (s.block.begun 0x36 f p).modCask (fun k => { k with ce := tset 0 k.ce (fld w 0 9) 0 })
        else s.block.begun 0x36 f p) := by
    simp only [cmdCaskMacro, callOf_clear_operator hw hf, callOf_fld hw]
    rfl
  refine heard_calm (op := 0x36) (e := cmdCaskMacro) h rfl (Nat.le_refl 1) (absurd · Bool.false_ne_true) hl.ge hl.le rfl
    (.inl hf) (by rw [hb]; rfl) (.inl (by decide)) (fun M hM => cmdCaskMacro_seen hM) (by decide) ?_
  rw [hb]
  dsimp only
  rw [Block.respond_cask, okW]
  split
  · rename_i hbit
    refine ⟨rfl, fun n => ?_⟩
    rw [hbit, Block.modCask_cask, tget_tset_ite]
    simp only [true_and, Block.begun_cask]
  · rename_i hbit
    exact ⟨rfl, fun n => by rw [if_neg fun h => hbit h.1]; rfl⟩

theorem caskPatrol_sets {w : Word} (hw : p.params = [w]) (h1 : 100 ≤ fld w 0 16) (h2 : fld w 0 16 ≤ 60000) (hf : f.val = 64)
    (h : s.block.hears f p 0 false) :
    ∃ t, exec (.caskPatrol f p) s = .next t ∧ s.block.answered t.block f p stDone [] ∧ s.block.calm t.block f [.cask] ∧
      t.block.cask = { s.block.cask with patrolMs := fld w 0 16 } := by
  have hl : p.params.length = 1 := by rw [hw]; rfl
  have hb : cmdCaskPatrol.body (callOf f p) (s.block.begun 0x37 f p) =
      ok ((s.block.begun 0x37 f p).modCask (fun k => { k with patrolMs := fld w 0 16 })) := by
    cases p; cases hw; rfl
  refine heard_calm (op := 0x37) (e := cmdCaskPatrol) h rfl (Nat.le_refl 0) (absurd · Bool.false_ne_true) hl.ge hl.le ?_
    (.inl hf) (by rw [hb]; rfl) (.inl (by decide)) (fun M hM => cmdCaskPatrol_seen hM) (by decide) ?_
  · simp [cmdCaskPatrol, callOf_fld hw, h1, h2]
  · rw [hb, Block.respond_cask]
    rfl

end

/-- Settles O14: each command is heard; it is answered with what the cask holds, or a drain of the pages named is taken up, and
its body moves the owner or the part of the cask that it names. -/
theorem caskCommandsAct : Obligations.CaskCommandsAct := by
  refine ⟨fun f p s => ⟨fun w v => caskMode_sets, fun w lo hi hw hr ho h => ?_, fun w hw hr ho h => ?_, fun w hw hr ho h => ?_⟩,
    fun f p s hf => ⟨fun w hw => caskPool_reads hw hf, fun hw h => ?_, fun w hw => caskMacro_reads hw hf,
      fun w hw h1 h2 => caskPatrol_sets hw h1 h2 hf⟩⟩
  · obtain ⟨t, ht, hd⟩ := caskDrain_drains hw hr ho h rfl
    exact ⟨t, _, ht, rfl, hd⟩
  · obtain ⟨t, ht, ha, hold, hpage⟩ := caskRelease_releases hw hr ho h
    refine ⟨t, ht, ha, hold, fun n hn ho => ?_, fun n hn hback ho => ?_, fun n hn => ?_⟩
    · rw [hpage, Block.holdEnd_page_of_held (by simp [Page.isHeld, hn]) ho]
      simp [Page.unhold, hn]
    · rw [hpage, Block.holdEnd_page_of_held (by simp [Page.isHeld, hn, hback]) ho]
      simp [Page.unhold, hn, hback]
    · rw [hpage, Block.holdEnd_page_of_other hn]
  · exact caskStatus_reads hw hr ho h
  · obtain ⟨t, ht, ha, hc, -⟩ := caskFenceRead_reads hw hf h
    exact ⟨t, _, ht, ha, hc, rfl, fun m hm => Block.bit_fenceWords hm⟩

end Sys2Proof.Machine


namespace Sys2Proof.Machine

/-! ## What causes leave of a function (R372, R381) -/

/-- A function without its interrupt status and due messages; all of it while it is Resetting, when it records nothing. -/
def Tenant.plain (t : Tenant) : Tenant := if t.resetting then t else { t with intStatus := 0, due := [] }

/-- Two functions with the same plain part differ at most in status and due messages. -/
theorem Tenant.eq_of_plain {t u : Tenant} (h : t.plain = u.plain) :
    t = { u with intStatus := t.intStatus, due := t.due } ∧ (u.resetting = true → t = u) := by
  unfold Tenant.plain at h
  have hr : t.resetting = u.resetting := by
    have := congrArg Tenant.resetting h
    rwa [apply_ite Tenant.resetting, apply_ite Tenant.resetting, ite_self, ite_self] at this
  by_cases hu : u.resetting = true
  · rw [if_pos hu, if_pos (hr.trans hu)] at h
    subst h
    exact ⟨rfl, fun _ => rfl⟩
  · rw [if_neg hu, if_neg (hr ▸ hu)] at h
    exact ⟨(congrArg (fun x : Tenant => { x with intStatus := t.intStatus, due := t.due }) h :), fun h => absurd h hu⟩

theorem Tenant.epoch_of_plain {t u : Tenant} (h : t.plain = u.plain) : t.epoch = u.epoch :=
  (congrArg Tenant.epoch (Tenant.eq_of_plain h).1).trans rfl

section
variable {b c : Block} {n m v k : Nat}

theorem Block.raise_plain : ((b.raise n v).tenant m).plain = (b.tenant m).plain := by
  unfold Block.raise
  rw [Block.tenant_modTenant_ite]
  split
  · split
    · rfl
    · next hr =>
      have hr : (b.tenant m).resetting = false := Bool.eq_false_iff.2 fun h => hr (by rw [h]; rfl)
      split
      · rfl
      · simp only [Tenant.plain, hr]
        rfl
  · rfl

theorem Block.loss_plain : ((b.loss k).tenant m).plain = (b.tenant m).plain := Block.raise_plain

end

/-! ## Off, power-on reset and block reset (R443, R474, R476 to R478, R499) -/

/-! ### The memory responses for which the block waits (R407, R474, R477) -/

theorem mem_of_mem_tput {α : Type} {t : Tbl α} {n : Nat} {v : α} {e : Nat × α} (h : e ∈ tput t n v) : e = (n, v) ∨ e ∈ t := by
  induction t with
  | nil => exact .inl (List.mem_singleton.1 h)
  | cons x t ih =>
    obtain ⟨k, w⟩ := x
    rw [tput] at h
    split at h
    · exact (List.mem_cons.1 h)
    · split at h
      · exact (List.mem_cons.1 h).imp_right (List.mem_cons_of_mem _)
      · rcases List.mem_cons.1 h with h | h
        · exact .inr (h ▸ List.mem_cons_self)
        · exact (ih h).imp_right (List.mem_cons_of_mem _)

/-- What holds of the default and of every listed value, and what an update keeps, holds after the update. -/
theorem forall_mem_tmod {α : Type} [DecidableEq α] {d : α} {t : Tbl α} {n : Nat} {f : α → α} {P : α → Prop} (hd : P d)
    (hf : ∀ x, P x → P (f x)) (h : ∀ e ∈ t, P e.2) : ∀ e ∈ tmod d t n f, P e.2 := by
  have hn : P (tget d t n) := by
    by_cases ht : tget d t n = d
    · rwa [ht]
    · exact h _ (mem_of_tget_ne ht)
  intro e he
  unfold tmod tset at he
  split at he
  · exact h e (List.mem_filter.1 he).1
  · rcases mem_of_mem_tput he with rfl | he
    · exact hf _ hn
    · exact h e he

/-- No memory response is outstanding for the channel. -/
def Channel.silent (x : Channel) : Prop := x.flight = [] ∧ x.descRead = false ∧ x.idxRead = false

/-- From `s` to `t` the outstanding memory responses stay the same. -/
structure Sparge.Awaits (s t : Sparge) : Prop where
  flight : ∀ c, (tget {} t.chans c).flight = (tget {} s.chans c).flight
  silent : (∀ e ∈ s.chans, e.2.silent) → ∀ e ∈ t.chans, e.2.silent
  scrubs : t.scrubs = s.scrubs
  orphans : t.orphans = s.orphans

theorem Sparge.Awaits.refl (s : Sparge) : s.Awaits s := ⟨fun _ => rfl, id, rfl, rfl⟩

theorem Sparge.Awaits.trans {s t u : Sparge} (h : s.Awaits t) (h' : t.Awaits u) : s.Awaits u :=
  ⟨fun c => (h'.flight c).trans (h.flight c), fun hs => h'.silent (h.silent hs), h'.scrubs.trans h.scrubs,
    h'.orphans.trans h.orphans⟩

section
variable {b c : Block} {n p k o : Nat}

theorem Block.modChan_awaits {f : Channel → Channel}
    (hf : ∀ x, (f x).flight = x.flight ∧ (f x).descRead = x.descRead ∧ (f x).idxRead = x.idxRead) :
    b.sparge.Awaits (b.modChan n f).sparge := by
  refine ⟨fun c => ?_, forall_mem_tmod ⟨rfl, rfl, rfl⟩ fun x hx => ?_, rfl, rfl⟩
  · change ((b.modChan n f).chan c).flight = (b.chan c).flight
    rw [Block.chan_modChan_ite]
    split
    · exact (hf _).1
    · rfl
  · obtain ⟨h1, h2, h3⟩ := hf x
    exact ⟨h1.trans hx.1, h2.trans hx.2.1, h3.trans hx.2.2⟩

theorem Block.each_awaits {α : Type} {l : List α} {f : Block → α → Block} (h : ∀ (b : Block) x, b.sparge.Awaits (f b x).sparge) :
    b.sparge.Awaits (b.each l f).sparge := by
  induction l generalizing b with
  | nil => exact .refl _
  | cons x l ih => exact (h b x).trans ih

/-- A channel that stops waits for the responses that it has waited for. -/
theorem Block.stopChan_awaits {why : ChStop} {dstat : Nat} {noWb : Bool} :
    b.sparge.Awaits (b.stopChan n why dstat noWb).sparge := by
  unfold Block.stopChan
  dsimp only
  refine .trans ?_ (Block.modChan_awaits fun _ => ⟨rfl, rfl, rfl⟩)
  split
  · exact ⟨fun _ => rfl, id, rfl, rfl⟩
  · exact .refl _

theorem Block.leaveQueues_awaits {q : List (Frame × Nat)} : b.sparge.Awaits (b.leaveQueues p q).sparge := by
  change b.sparge.Awaits (b.each q _).sparge
  refine Block.each_awaits fun b e => ?_
  split
  · exact Block.modChan_awaits fun _ => ⟨rfl, rfl, rfl⟩
  · exact .refl _

/-! ### A link that goes Down (R422, R441, R443) -/

/-- What the fall of a link leaves after it has left the port: the power state but for its counts, the sparge engine, the
identity of the block and the states of the links. -/
def Block.linkPart (b : Block) : Power × Sparge × Nat × (Nat → LinkState) :=
  (b.power.plain, b.sparge, b.hop.uid, fun k => (b.hopPort k).st)

theorem Block.linkPart_of_seen {M : List Area} (h : b.seen M = c.seen M)
    (hM : Area.power ∉ M ∧ Area.sparge ∉ M ∧ Area.hop ∉ M) : b.linkPart = c.linkPart := by
  simp only [Block.linkPart, Block.hopPort, Block.power_of_seen h hM.1, Block.sparge_of_seen h hM.2.1,
    Block.hop_of_seen h hM.2.2]

theorem Block.modHopPort_linkPart {f : HopPort → HopPort} (hf : ∀ x, (f x).st = x.st) :
    (b.modHopPort n f).linkPart = b.linkPart := by
  simp only [Block.linkPart, Block.hopPort_modHopPort_ite, apply_ite HopPort.st, hf, ite_self]
  rfl

theorem Block.each_linkPart {α : Type} {l : List α} {f : Block → α → Block} (h : ∀ b x, (f b x).linkPart = b.linkPart) :
    (b.each l f).linkPart = b.linkPart := Block.each_keeps h

theorem Block.finishLongs_linkPart {f : Nat → LongKind → Option (Nat × List Word)} :
    (b.finishLongs f).linkPart = b.linkPart := by
  have h := Block.finishLongs_seen (b := b) (x1 := f) (M := [.ports, .tenants, .power, .out]) (by decide)
  simp only [Block.linkPart, Block.hopPort, Block.finishLongs_plain, Block.sparge_of_seen h (by decide),
    Block.hop_of_seen h (by decide)]

theorem Block.sendOn_linkPart {f : Frame} {via : Nat} : (b.sendOn p f via).linkPart = b.linkPart :=
  Block.modHopPort_linkPart fun _ => rfl

theorem Block.dropRoutes_linkPart : (b.dropRoutes p).linkPart = b.linkPart := rfl

theorem Block.recompute_linkPart {l : List Nat} : (b.recompute l).linkPart = b.linkPart := by
  unfold Block.recompute
  dsimp only
  split
  · rfl
  · exact Block.each_linkPart fun _ _ => Block.each_linkPart fun _ _ => Block.sendOn_linkPart

theorem Block.tsyncReject_linkPart {m d : Nat} {theta : Int} : (b.tsyncReject m theta d).linkPart = b.linkPart :=
  Block.finishLongs_linkPart

theorem Power.plain_of_lossless {q r : Power} (h : q.lossless = r.lossless) : q.plain = r.plain :=
  (congrArg Power.plain h :)

theorem Block.discoveryReset_linkPart {gen : Nat} : (b.discoveryReset gen).linkPart = b.linkPart := by
  have hd : (if b.hop.tsMeas.isSome then b.tsyncDrop else b).sparge = b.sparge ∧
      (if b.hop.tsMeas.isSome then b.tsyncDrop else b).hop.uid = b.hop.uid := by split <;> exact ⟨rfl, rfl⟩
  have hk : ∀ k, ((b.discoveryReset gen).hopPort k).st = (b.hopPort k).st := fun _ => Block.discoveryReset_hopPort
  simp only [Block.linkPart, hk, Block.discoveryReset_power]
  exact congrArg₂ (fun x y => (_, x, y, _)) hd.1 hd.2

theorem Block.discoveryOffer_linkPart : b.discoveryOffer.linkPart = b.linkPart := by
  unfold Block.discoveryOffer
  split
  · split
    · rfl
    · have h := Block.selfRoot_seen (b := b) (M := [.taps, .views, .stations, .cask, .tenants, .power, .time]) (by decide)
      have hp := Power.plain_of_lossless (Block.selfRoot_keeps (b := b) (n := 0)).2.1
      simp only [Block.linkPart, Block.hopPort, hp, Block.sparge_of_seen h (by decide), Block.hop_of_seen h (by decide)]
  · exact Block.each_linkPart fun _ _ => Block.sendOn_linkPart

theorem Block.startDiscovery_linkPart {gen : Nat} : (b.startDiscovery gen).linkPart = b.linkPart := by
  obtain ⟨f, hf⟩ := Block.startDiscovery_eq (b := b) (gen := gen)
  rw [hf, Block.finishLongs_linkPart, Block.discoveryOffer_linkPart, Block.discoveryReset_linkPart]

/-- A port as its link falls: what waited on it is lost or leaves, and the link is Down. -/
def Block.linkFallen (b : Block) (p reason : Nat) : Block :=
  let x := b.hopPort p
  let lost := x.replay.length + (x.txq.filter (fun e => decide (e.2 ≤ 6))).length
  let b := ((b.returnHeld x.txq).leaveQueues p x.txq).modHopPort p (fun x => { x.drop with
    reason := reason, hopLost := satAdd 32 x.hopLost lost })
  (if lost > 0 then b.loss 9 else b).setLink p .down

theorem Block.linkPart_ite {q : Prop} [Decidable q] {d e : Block} (hd : d.linkPart = b.linkPart)
    (he : e.linkPart = b.linkPart) : (if q then d else e).linkPart = b.linkPart := by
  split
  · exact hd
  · exact he

/-- After the fall of the link only commands complete, routes change, and discovery starts or a measurement is dropped. -/
theorem Block.linkDown_linkPart {reason : Nat} : (b.linkDown p reason).linkPart = (b.linkFallen p reason).linkPart := by
  unfold Block.linkDown
  dsimp only
  refine Block.linkPart_ite ?_ (Block.linkPart_ite ?_ (Block.linkPart_ite ?_ ?_))
  · exact Block.finishLongs_linkPart
  · rw [Block.startDiscovery_linkPart]
    exact Block.linkPart_ite (Block.dropRoutes_linkPart.trans Block.finishLongs_linkPart)
      (Block.recompute_linkPart.trans Block.finishLongs_linkPart)
  · rw [Block.tsyncReject_linkPart]
    exact Block.linkPart_ite (Block.dropRoutes_linkPart.trans Block.finishLongs_linkPart)
      (Block.recompute_linkPart.trans Block.finishLongs_linkPart)
  · exact Block.linkPart_ite (Block.dropRoutes_linkPart.trans Block.finishLongs_linkPart)
      (Block.recompute_linkPart.trans Block.finishLongs_linkPart)

/-- From `b` to `c` links go Down: the power state keeps all but its counts, the block its identity, and the same memory
responses are outstanding. -/
structure Block.Falls (b c : Block) (down : Nat → Prop) [DecidablePred down] : Prop where
  plain : c.power.plain = b.power.plain
  uid : c.hop.uid = b.hop.uid
  awaits : b.sparge.Awaits c.sparge
  st : ∀ k, (c.hopPort k).st = if down k then .down else (b.hopPort k).st

theorem Block.falls_of_linkPart {d : Block} {down : Nat → Prop} [DecidablePred down] (h : d.linkPart = c.linkPart)
    (hf : b.Falls c down) : b.Falls d down := by
  obtain ⟨h1, h2, h3, h4⟩ : _ ∧ _ ∧ _ ∧ _ := by simpa only [Block.linkPart, Prod.mk.injEq] using h
  exact ⟨h1.trans hf.plain, h3.trans hf.uid, h2 ▸ hf.awaits, fun k => (congrFun h4 k).trans (hf.st k)⟩

theorem Block.leaveQueues_st {q : List (Frame × Nat)} : ((b.leaveQueues p q).hopPort k).st = (b.hopPort k).st := by
  change (tget ({} : HopPort) (tmap {} (b.each q _).hop.ports _) k).st = _
  rw [tget_tmap rfl]
  refine Block.each_keeps (p := fun b => (b.hopPort k).st) fun b e => ?_
  split
  · rfl
  · rfl

theorem Block.leaveQueues_power_uid {q : List (Frame × Nat)} :
    (b.leaveQueues p q).power = b.power ∧ (b.leaveQueues p q).hop.uid = b.hop.uid := by
  refine ⟨Block.power_of_seen (Block.leaveQueues_seen (M := [.sparge, .hop]) (by decide)) (by decide), ?_⟩
  change (b.each q _).hop.uid = _
  refine Block.each_keeps (p := fun b => b.hop.uid) fun b e => ?_
  split
  · rfl
  · rfl

theorem Block.setLink_linkPart {st : LinkState} :
    (b.setLink p st).linkPart = (b.modHopPort p (fun x => { x with st := st })).linkPart := by
  unfold Block.setLink
  split
  · next h =>
    simp only [Block.linkPart, Block.hopPort_modHopPort_ite, apply_ite HopPort.st, ← eq_of_beq h]
    refine congrArg (Prod.mk _) (congrArg (Prod.mk _) (congrArg (Prod.mk _) (funext fun k => ?_)))
    split
    · next hk => rw [hk]
    · rfl
  · refine (Block.linkPart_of_seen (Block.raise_seen (M := [.tenants]) (by decide)) (by decide)).trans ?_
    simp only [Block.linkPart, Block.hopPort_modHopPort_ite, apply_ite HopPort.st]
    rfl

theorem Block.loss_linkPart : (b.loss n).linkPart = b.linkPart := rfl

theorem Block.returnHeld_linkPart {q : List (Frame × Nat)} : (b.returnHeld q).linkPart = b.linkPart := by
  refine Block.each_linkPart fun b x => ?_
  split
  · exact Block.modHopPort_linkPart fun _ => rfl
  · rfl

theorem Block.Falls.refl (b : Block) : b.Falls b (fun _ => False) := ⟨rfl, rfl, .refl _, fun _ => rfl⟩

theorem Block.Falls.trans {d : Block} {down low : Nat → Prop} [DecidablePred down] [DecidablePred low]
    (h : b.Falls c down) (h' : c.Falls d low) : b.Falls d (fun k => low k ∨ down k) := by
  refine ⟨h'.plain.trans h.plain, h'.uid.trans h.uid, h.awaits.trans h'.awaits, fun k => ?_⟩
  rw [h'.st k, h.st k]
  by_cases h1 : low k <;> by_cases h2 : down k <;> simp [h1, h2]

theorem Block.Falls.congr {down low : Nat → Prop} [DecidablePred down] [DecidablePred low] (h : b.Falls c down)
    (he : ∀ k, down k ↔ low k) : b.Falls c low :=
  ⟨h.plain, h.uid, h.awaits, fun k => by rw [h.st k]; simp only [he k]⟩

theorem Block.falls_of_part (h : c.linkPart = b.linkPart) : b.Falls c (fun _ => False) := Block.falls_of_linkPart h (.refl b)

theorem Block.leaveQueues_falls {q : List (Frame × Nat)} : b.Falls (b.leaveQueues p q) (fun _ => False) :=
  ⟨congrArg Power.plain Block.leaveQueues_power_uid.1, Block.leaveQueues_power_uid.2, Block.leaveQueues_awaits,
    fun _ => Block.leaveQueues_st⟩

theorem Block.setLink_down_falls : b.Falls (b.setLink p .down) (· = p) := by
  refine Block.falls_of_linkPart Block.setLink_linkPart ⟨rfl, rfl, .refl _, fun k => ?_⟩
  rw [Block.hopPort_modHopPort_ite]
  split <;> rfl

theorem Block.linkFallen_falls {reason : Nat} : b.Falls (b.linkFallen p reason) (· = p) := by
  have hq := (Block.falls_of_part (Block.returnHeld_linkPart (b := b) (q := (b.hopPort p).txq))).trans
    (Block.leaveQueues_falls (p := p) (q := (b.hopPort p).txq))
  unfold Block.linkFallen
  refine ((hq.trans (Block.falls_of_part ?_)).trans (Block.setLink_down_falls (p := p))).congr fun k => by simp
  exact (Block.linkPart_ite Block.loss_linkPart rfl).trans (Block.modHopPort_linkPart fun _ => rfl)

theorem Block.linkDown_falls {reason : Nat} : b.Falls (b.linkDown p reason) (· = p) :=
  Block.falls_of_linkPart Block.linkDown_linkPart Block.linkFallen_falls

/-- A port as every port is taken down: a link that is Up says `BYE` first (R443). -/
def Block.portDown (b : Block) (p reason : Nat) : Block :=
  let b := if (b.hopPort p).st == .up || (b.hopPort p).st == .closing then b.sendBye p reason else b
  if (b.hopPort p).st == .down then b else b.linkDown p reason

theorem Block.portDown_falls {reason : Nat} : b.Falls (b.portDown p reason) (· = p) := by
  have h : ∀ c : Block, c.linkPart = b.linkPart → b.Falls (if (c.hopPort p).st == .down then c else c.linkDown p reason)
      (· = p) := by
    intro c hc
    have hb := Block.falls_of_part hc
    split
    · next hd =>
      refine ⟨hb.plain, hb.uid, hb.awaits, fun k => ?_⟩
      split
      · next hk => exact hk ▸ eq_of_beq hd
      · exact hb.st k
    · exact (hb.trans Block.linkDown_falls).congr fun k => by simp
  exact h _ (Block.linkPart_ite rfl rfl)

/-- Every port is Down afterwards (R443, R474). -/
theorem Block.allDown_falls {reason : Nat} : b.Falls (b.allDown reason) (· < 6) := by
  have h : ∀ (l : List Nat) (b : Block), b.Falls (b.each l (fun b p => b.portDown p reason)) (· ∈ l) := by
    intro l
    induction l with
    | nil => exact fun b => (Block.Falls.refl b).congr fun k => by simp
    | cons p l ih => exact fun b => (Block.portDown_falls.trans (ih _)).congr fun k => by simp [or_comm]
  exact (h allPorts b).congr fun k => by simp [allPorts, upto]

theorem Block.stopChan_falls {why : ChStop} {dstat : Nat} {noWb : Bool} :
    b.Falls (b.stopChan n why dstat noWb) (fun _ => False) := by
  have hp := Block.stopChan_seen (b := b) (x1 := n) (x2 := why) (x3 := dstat) (x4 := noWb) (M := [.sparge, .hop]) (by decide)
  have hh : (b.stopChan n why dstat noWb).hop = { b.hop with
      ports := tmap {} b.hop.ports (fun _ x => { x with txq := x.txq.filter (fun e => e.2 != 8 + n) }) } := by
    unfold Block.stopChan
    dsimp only
    split <;> rfl
  refine ⟨Block.plain_of_seen hp (by decide), ?_, Block.stopChan_awaits, fun k => ?_⟩
  · rw [hh]
  · rw [if_neg id, Block.hopPort, hh, tget_tmap rfl]
    rfl

/-- What the block aims at once it shuts down (R474, R484). -/
def Block.aimsOff (b : Block) : Block := b.modPower (fun p => { p with goal := .off, waking := false })

theorem Block.each_falls {α : Type} {l : List α} {f : Block → α → Block}
    (h : ∀ b x, Block.Falls b (f b x) (fun _ => False)) : b.Falls (b.each l f) (fun _ => False) := by
  induction l generalizing b with
  | nil => exact .refl b
  | cons x l ih => exact ((h b x).trans ih).congr fun _ => by simp

theorem Block.shutDown_falls : b.aimsOff.Falls b.shutDown (· < 6) := by
  refine ((Block.each_falls (b := b.aimsOff) fun b c => ?_).trans Block.allDown_falls).congr fun k => by simp
  split
  · exact .refl b
  · exact Block.stopChan_falls

/-! ### Off (R474) -/

theorem Block.Falls.power {down : Nat → Prop} [DecidablePred down] (h : b.Falls c down) : c.power.goal = b.power.goal ∧
    c.power.st = b.power.st ∧ c.power.offGnt = b.power.offGnt ∧ c.power.waking = b.power.waking :=
  ⟨(congrArg Power.goal h.plain :), (congrArg Power.st h.plain :), (congrArg Power.offGnt h.plain :),
    (congrArg Power.waking h.plain :)⟩

/-- Nothing is outstanding on the memory initiator: no write, and no read of a descriptor (R474). -/
def Sparge.Quiet (g : Sparge) : Prop :=
  (∀ e ∈ g.chans, e.2.silent) ∧ (∀ h ∈ g.scrubs, h.flight = []) ∧ g.orphans = []

theorem Sparge.Awaits.quiet {g h : Sparge} (ha : g.Awaits h) (hq : g.Quiet) : h.Quiet := by
  obtain ⟨hc, hs, ho⟩ := hq
  exact ⟨ha.silent hc, ha.scrubs ▸ hs, ha.orphans.trans ho⟩

/-- A write of a channel or of a channel that is gone is without its response. -/
def Sparge.Busy (g : Sparge) : Prop := (∃ c, (tget {} g.chans c).flight ≠ []) ∨ g.orphans ≠ []

theorem Sparge.Awaits.busy {g h : Sparge} (ha : g.Awaits h) (hb : g.Busy) : h.Busy :=
  hb.imp (fun ⟨c, hc⟩ => ⟨c, by rwa [ha.flight c]⟩) (fun ho => by rwa [ha.orphans])

theorem Block.writesDone_iff : b.writesDone = true ↔ (∀ e ∈ b.sparge.chans, e.2.flight = []) ∧
    (∀ h ∈ b.sparge.scrubs, h.flight = []) ∧ b.sparge.orphans = [] := by
  simp [Block.writesDone, and_assoc]

theorem Block.offStep_of_busy (h : b.sparge.Busy) : b.offStep = b := by
  have hw : b.writesDone ≠ true := fun hw => by
    obtain ⟨hc, -, ho⟩ := Block.writesDone_iff.1 hw
    rcases h with ⟨c, h⟩ | h
    · exact h (hc _ (mem_of_tget_ne fun hd => h (by rw [hd])))
    · exact h ho
  unfold Block.offStep
  rw [if_neg]
  simp [hw]

/-- The power state of Off (R474, R498). -/
def offPower : Power := { st := .off, goal := .off, brewReq := false, clkReq := false, offGnt := true }

theorem Block.offStep_of_quiet (h : b.sparge.Quiet) (hg : b.power.goal = .off) (hs : b.power.st ≠ .off) :
    b.offStep = b.cold offPower b.hop.uid := by
  obtain ⟨hc, hh, ho⟩ := h
  have hw : b.writesDone = true := Block.writesDone_iff.2 ⟨fun e he => (hc e he).1, hh, ho⟩
  have hd : b.sparge.chans.all (fun e => !e.2.descRead && !e.2.idxRead) = true :=
    List.all_eq_true.2 fun e he => by
      obtain ⟨-, h1, h2⟩ := hc e he
      rw [h1, h2]
      rfl
  unfold Block.offStep
  rw [if_pos (by simp [hg, hs, hw, hd])]
  rfl

/-- The block after OFF_REQUEST with the request up. -/
def Block.offAsked (b : Block) : Block :=
  if b.power.st == .off then b else if b.power.goal == .off then b.offStep else b.shutDown.offStep

theorem offRequest_eq {s : State} : exec (.offRequest true) s = .next { s with block := s.block.offAsked } := rfl

theorem Block.offAsked_of_busy (hs : b.power.st ≠ .off) (hg : b.power.goal ≠ .off) (h : b.sparge.Busy) :
    b.offAsked = b.shutDown := by
  unfold Block.offAsked
  rw [if_neg (by simpa using hs), if_neg (by simpa using hg), Block.offStep_of_busy (Block.shutDown_falls.awaits.busy h)]

theorem Block.offAsked_of_quiet (hs : b.power.st ≠ .off) (h : b.sparge.Quiet) :
    ∃ c : Block, b.offAsked = c.cold offPower b.hop.uid := by
  unfold Block.offAsked
  rw [if_neg (by simpa using hs)]
  split
  · next hg => exact ⟨_, Block.offStep_of_quiet h (eq_of_beq hg) hs⟩
  · have hf := Block.shutDown_falls (b := b)
    obtain ⟨hg, hst, -, -⟩ := hf.power
    refine ⟨b.shutDown, (Block.offStep_of_quiet (hf.awaits.quiet h) hg (by rw [hst]; exact hs)).trans ?_⟩
    rw [hf.uid]
    rfl

theorem offRequest_acts {s : State} : ∃ t, exec (.offRequest true) s = .next t ∧
    (s.block.power.st = .off → t.block = s.block) ∧
    (s.block.power.st ≠ .off → s.block.power.goal ≠ .off →
      ((∃ c, c < 16 ∧ (s.block.chan c).flight ≠ []) ∨ s.block.sparge.orphans ≠ []) →
      t.block.power.goal = .off ∧ t.block.power.st = s.block.power.st ∧ t.block.power.offGnt = s.block.power.offGnt ∧
      t.block.power.waking = false ∧ ∀ k, k < 6 → (t.block.hopPort k).st = .down) ∧
    (s.block.power.st ≠ .off →
      (∀ e, e ∈ s.block.sparge.chans → e.2.flight = [] ∧ e.2.descRead = false ∧ e.2.idxRead = false) →
      (∀ h, h ∈ s.block.sparge.scrubs → h.flight = []) → s.block.sparge.orphans = [] → t.block.power = offPower ∧
      t.block.cask = {} ∧ t.block.mash = {} ∧ t.block.assay = {} ∧ t.block.sync = {} ∧ t.block.sparge = {} ∧
      t.block.meas = {} ∧ t.block.hop = { uid := s.block.hop.uid } ∧ t.block.stations = [] ∧ t.block.quads = [] ∧
      t.block.ctxs = [] ∧ t.block.ports = [] ∧
      t.block.seen (touches (.offRequest true)) = s.block.seen (touches (.offRequest true))) := by
  refine ⟨_, offRequest_eq, fun h => ?_, fun hs hg hb => ?_, fun hs hc hh ho => ?_⟩
  · exact if_pos (by rw [h]; rfl)
  · dsimp only
    have hf := Block.shutDown_falls (b := s.block)
    rw [Block.offAsked_of_busy hs hg (hb.imp_left fun ⟨c, _, hc⟩ => ⟨c, hc⟩)]
    obtain ⟨h1, h2, h3, h4⟩ := hf.power
    exact ⟨h1, h2, h3, h4, fun k hk => (hf.st k).trans (if_pos hk)⟩
  · obtain ⟨g, hg, hseen⟩ := execOffRequest_seen (x0 := true) (s := s) (M := touches (.offRequest true)) (by decide)
    have hsame : s.block.offAsked.seen (touches (.offRequest true)) = s.block.seen (touches (.offRequest true)) := by
      injection hg with hg
      injection hg with hg
      exact (congrArg (Block.seen (touches (.offRequest true))) hg).trans hseen
    obtain ⟨c, hcold⟩ := Block.offAsked_of_quiet hs ⟨hc, hh, ho⟩
    refine ⟨?_, ?_, ?_, ?_, ?_, ?_, ?_, ?_, ?_, ?_, ?_, ?_, hsame⟩
    all_goals
      dsimp only
      rw [hcold]
      rfl

/-! ### Quiesce (R477, R478) -/

theorem Power.wake_blkPend {q : Power} : (q.wake n).blkPend = q.blkPend := by
  unfold Power.wake Power.climb Power.askClock
  dsimp only
  repeat' split
  all_goals rfl

/-- A wake while the clock's grant has yet to follow its request down: the block wakes, its goal waits for the grant (R484). -/
theorem Power.wake_lowering {q : Power} (hs : q.st = .run) (hg : q.goal ≠ .run) (ho : q.goal ≠ .off)
    (hc : q.clkReq = false) (hl : q.clkGnt = true) : (q.wake n).goal = q.goal ∧ (q.wake n).waking = true := by
  unfold Power.wake
  dsimp only
  by_cases hw : q.waking = true
  · rw [if_pos (by simp [hw])]
    exact ⟨rfl, hw⟩
  · rw [if_neg (by simp [hs, hg, ho, hw]), if_neg (by simp [hc]), if_pos (by simp [Power.lowering, hc, hl])]
    exact ⟨rfl, rfl⟩

/-- In Run, or on the way down with the clock still asked for, a wake keeps or brings back the goal Run (R484). -/
theorem Power.wake_stays {q : Power} (hs : q.st = .run)
    (hg : q.goal = .run ∨ (q.clkReq = true ∧ q.waking = false ∧ q.goal ≠ .off)) : (q.wake n).goal = .run := by
  by_cases hr : q.goal = .run
  · unfold Power.wake
    rw [if_pos (by simp [hs, hr])]
    exact hr
  · obtain ⟨hc, hw, ho⟩ := hg.resolve_left hr
    rw [Power.wake_reversed hs hr ho hw hc]

theorem Block.quietEach_held {l : List (Bool × Acc × Gt)} :
    (b.each l (fun b x => b.quietAccess x.1 x.2.1)).held = b.held :=
  Block.each_keeps (p := Block.held) fun _ _ => Block.held_of_seen (Block.quietAccess_seen (M := [.out]) (by decide)) (by decide)

theorem Block.quietAll_held : b.quietAll.held = [] := by
  unfold Block.quietAll
  refine (Block.each_keeps (p := Block.held) fun b f => ?_).trans Block.quietEach_held
  dsimp only
  rw [Block.quietEach_held]
  rfl

theorem Block.beginQuiesce_acts : b.beginQuiesce.power.quiesce = true ∧ b.beginQuiesce.power.blkPend = false ∧
    b.beginQuiesce.held = [] ∧ ∀ k, k < 6 → (b.beginQuiesce.hopPort k).st = .down := by
  have h := Block.quietAll_seen (b := (b.allDown 0x0A).modPower (fun p => { p with
    quiesce := true, blkPend := false, waking := false })) (M := [.ports, .held, .out]) (by decide)
  unfold Block.beginQuiesce
  refine ⟨?_, ?_, Block.quietAll_held, fun k hk => ?_⟩
  · rw [Block.power_of_seen h (by decide)]
    rfl
  · rw [Block.power_of_seen h (by decide)]
    rfl
  · have hf := (Block.allDown_falls (b := b) (reason := 0x0A)).st k
    rw [if_pos hk] at hf
    rw [Block.hopPort, Block.hop_of_seen h (by decide), Block.modPower_hop]
    exact hf

/-- The block after BLOCK_RESET_REQUEST, when none is under way. -/
def Block.resetAsked (b : Block) : Block :=
  if b.power.st == .run && (b.requestWake 3).power.goal == .run then (b.requestWake 3).beginQuiesce
  else (b.modPower (fun p => { p with blkPend := true })).requestWake 3

theorem blockResetRequest_eq {s : State} (hg : s.block.power.goal ≠ .off) (hq : s.block.power.quiesce = false)
    (ha : s.block.power.blkAck = false) : exec .blockResetRequest s = .next { s with block := s.block.resetAsked } := by
  change execBlockResetRequest s = _
  rw [execBlockResetRequest, State.run_eq, if_neg (by simp [hg, hq, ha])]
  rfl

theorem blockResetRequest_quiesces {s : State} (hs : s.block.power.st = .run) (hg : s.block.power.goal = .run ∨
    (s.block.power.clkReq = true ∧ s.block.power.waking = false ∧ s.block.power.goal ≠ .off))
    (hq : s.block.power.quiesce = false) (ha : s.block.power.blkAck = false) :
    ∃ t, exec .blockResetRequest s = .next t ∧ t.block.power.quiesce = true ∧ t.block.power.blkPend = false ∧
      t.block.held = [] ∧ ∀ k, k < 6 → (t.block.hopPort k).st = .down := by
  have ho : s.block.power.goal ≠ .off := by
    rcases hg with h | ⟨-, -, h⟩
    · rw [h]
      decide
    · exact h
  refine ⟨_, blockResetRequest_eq ho hq ha, ?_⟩
  have hw : (s.block.requestWake 3).power.goal = .run := Power.wake_stays hs hg
  dsimp only
  rw [Block.resetAsked, if_pos (by simp [hs, hw])]
  exact Block.beginQuiesce_acts

theorem blockResetRequest_waits {s : State} (hr : s.block.power.st ≠ .run ∨
    (s.block.power.goal ≠ .run ∧ s.block.power.clkReq = false ∧ s.block.power.clkGnt = true))
    (hs : s.block.power.st ≠ .off) (hg : s.block.power.goal ≠ .off) (hq : s.block.power.quiesce = false)
    (ha : s.block.power.blkAck = false) :
    ∃ t, exec .blockResetRequest s = .next t ∧ t.block.power.blkPend = true ∧ t.block.power.waking = true ∧
      t.block.seen [.power] = s.block.seen [.power] := by
  refine ⟨_, blockResetRequest_eq hg hq ha, ?_⟩
  dsimp only
  have hwait : ¬ (s.block.power.st == .run && (s.block.requestWake 3).power.goal == .run) = true ∧
      ({ s.block.power with blkPend := true }.wake 3).waking = true := by
    by_cases hst : s.block.power.st = .run
    · obtain ⟨h1, h2, h3⟩ := hr.resolve_left (not_not.2 hst)
      have hgoal : (s.block.requestWake 3).power.goal = s.block.power.goal := (Power.wake_lowering hst h1 hg h2 h3).1
      exact ⟨by simp [hgoal, h1], (Power.wake_lowering (q := { s.block.power with blkPend := true }) hst h1 hg h2 h3).2⟩
    · exact ⟨by simp [hst], Power.wake_waking hst hs hg⟩
  rw [Block.resetAsked, if_neg hwait.1]
  exact ⟨Power.wake_blkPend, hwait.2, rfl⟩

/-! ### The block reset (R476) -/

/-- What the last units of the packers, the chains and the images leave: the power state but for its counts, and the
functions but for their interrupts. -/
def Block.lastPart (b : Block) : Power × (Nat → Tenant) := (b.power.plain, fun n => (b.tenant n).plain)

theorem Block.lastPart_of_seen {M : List Area} (h : b.seen M = c.seen M) (hM : Area.power ∉ M ∧ Area.tenants ∉ M) :
    b.lastPart = c.lastPart := by
  simp only [Block.lastPart, Block.tenant, Block.power_of_seen h hM.1, Block.tenants_of_seen h hM.2]

theorem Block.of_lastPart (h : b.lastPart = c.lastPart) :
    b.power.plain = c.power.plain ∧ ∀ n, (b.tenant n).plain = (c.tenant n).plain :=
  ⟨congrArg Prod.fst h, fun n => congrFun (congrArg Prod.snd h) n⟩

theorem Block.raise_lastPart : (b.raise n k).lastPart = b.lastPart := by
  simp only [Block.lastPart, Block.raise_plain]
  rfl

theorem Block.loss_lastPart : (b.loss n).lastPart = b.lastPart := Block.raise_lastPart.trans rfl

theorem Block.each_lastPart {α : Type} {l : List α} {f : Block → α → Block} (h : ∀ b x, (f b x).lastPart = b.lastPart) :
    (b.each l f).lastPart = b.lastPart := Block.each_keeps h

theorem Block.needFull_lastPart {l : List Nat} : (b.needFull n l).lastPart = b.lastPart :=
  Block.lastPart_of_seen (Block.needFull_seen (M := [.taps, .views]) (by decide)) (by decide)

theorem Block.enqueue_lastPart {u : WUnit} : (b.enqueue n u).2.lastPart = b.lastPart := by
  unfold Block.enqueue
  dsimp only
  generalize (if u.marker then 256 else 248) = room
  split
  · rfl
  · exact Block.needFull_lastPart.trans (Block.loss_lastPart.trans rfl)

theorem Block.closeRaw_lastPart {w : OpenUnit} {marker : Bool} : (b.closeRaw n w marker).2.lastPart = b.lastPart := by
  unfold Block.closeRaw
  exact Block.enqueue_lastPart.trans rfl

theorem Block.closeOwnerRaw_lastPart : (b.closeOwnerRaw n o).lastPart = b.lastPart :=
  Block.each_lastPart fun _ _ => Block.closeRaw_lastPart

theorem Block.wakeLoss_lastPart {w : Bool} : (b.wakeLoss n k w).lastPart = b.lastPart := by
  unfold Block.wakeLoss
  split
  · exact Block.loss_lastPart.trans rfl
  · rfl

theorem Block.drainChain_lastPart : (b.drainChain n).lastPart = b.lastPart := by
  unfold Block.drainChain
  dsimp only
  split
  · rw [Block.lastPart_of_seen (Block.markStale_seen (M := [.sync]) (by decide)) (by decide), Block.wakeLoss_lastPart]
    rfl
  · rw [Block.lastPart_of_seen (Block.lossSeen_seen (M := [.views, .mash, .sync]) (by decide)) (by decide),
      Block.loss_lastPart, Block.lastPart_of_seen (Block.foldLoss_seen (M := [.views]) (by decide)) (by decide),
      Block.wakeLoss_lastPart]
    rfl

theorem Block.logEntry_lastPart {i : LogInfo} : (b.logEntry i).lastPart = b.lastPart := by
  unfold Block.logEntry
  dsimp only
  rw [Block.raise_lastPart]
  split <;> rfl

theorem Block.buildLog_lastPart : b.buildLog.lastPart = b.lastPart :=
  (Block.each_lastPart fun _ _ => Block.logEntry_lastPart).trans rfl

theorem Block.abortImages_lastPart : b.abortImages.lastPart = b.lastPart :=
  Block.lastPart_of_seen (Block.abortImages_seen (M := [.meas]) (by decide)) (by decide)

/-- The packers close their open units. -/
def Block.packersClosed (b : Block) : Block := b.each allStations (fun b st => b.each (upto 65) (fun b o => b.closeOwnerRaw st o))

/-- The tap chains drain into the ledger. -/
def Block.chainsDrained (b : Block) : Block :=
  b.each ((b.taps.filter (fun e => e.2.en || !e.2.chain.isEmpty || e.2.tapLost != 0)).map Prod.fst) (fun b n => b.drainChain n)

theorem Block.lastUnits_eq : b.lastUnits = b.abortImages.buildLog.packersClosed.chainsDrained := rfl

theorem Block.packersClosed_lastPart : b.packersClosed.lastPart = b.lastPart :=
  Block.each_lastPart fun _ _ => Block.each_lastPart fun _ _ => Block.closeOwnerRaw_lastPart

theorem Block.chainsDrained_lastPart : b.chainsDrained.lastPart = b.lastPart :=
  Block.each_lastPart fun _ _ => Block.drainChain_lastPart

theorem Block.lastUnits_lastPart : b.lastUnits.lastPart = b.lastPart := by
  rw [Block.lastUnits_eq, Block.chainsDrained_lastPart, Block.packersClosed_lastPart, Block.buildLog_lastPart,
    Block.abortImages_lastPart]

theorem Block.lastUnits_power : b.lastUnits.power.plain = b.power.plain := (Block.of_lastPart Block.lastUnits_lastPart).1

theorem Block.lastUnits_tenant : (b.lastUnits.tenant n).epoch = (b.tenant n).epoch :=
  Tenant.epoch_of_plain ((Block.of_lastPart Block.lastUnits_lastPart).2 n)

theorem Block.packersClosed_meas : b.packersClosed.meas = b.meas :=
  Block.each_keeps (p := Block.meas) fun _ _ => Block.each_keeps (p := Block.meas) fun _ _ => Block.meas_of_seen
    (Block.closeOwnerRaw_seen (M := [.taps, .views, .stations, .tenants, .power]) (by decide)) (by decide)

theorem Block.chainsDrained_meas : b.chainsDrained.meas = b.meas :=
  Block.each_keeps (p := Block.meas) fun _ _ => Block.meas_of_seen
    (Block.drainChain_seen (M := [.taps, .views, .stations, .mash, .sync, .tenants, .power]) (by decide)) (by decide)

/-- The last units leave the log as the images that close and their entries make it. -/
theorem Block.lastUnits_meas : b.lastUnits.meas = b.abortImages.buildLog.meas := by
  rw [Block.lastUnits_eq, Block.chainsDrained_meas, Block.packersClosed_meas]

theorem Block.buildLog_patchRam : b.buildLog.meas.patchRam = b.meas.patchRam :=
  (Block.each_keeps (p := fun b => b.meas.patchRam) fun _ _ => Block.logEntry_patch.1).trans rfl

theorem Block.abortImages_patchRam : b.abortImages.meas.patchRam = b.meas.patchRam := by
  refine Block.each_keeps (p := fun b => b.meas.patchRam) fun b l => ?_
  split <;> rfl

theorem Block.lastUnits_patchRam : b.lastUnits.meas.patchRam = b.meas.patchRam := by
  rw [Block.lastUnits_meas, Block.buildLog_patchRam, Block.abortImages_patchRam]

theorem tget_map_of_mem {α : Type} {d : α} {f : Nat → α} {l : List Nat} (h : n ∈ l) :
    tget d (l.map fun k => (k, f k)) n = f n := by
  induction l with
  | nil => cases h
  | cons k l ih =>
    rw [List.map_cons, tget]
    split
    · next hk => rw [hk]
    · next hk => exact ih ((List.mem_cons.1 h).resolve_left hk)

theorem Block.reborn_tenant (h : n ≤ 64) :
    (b.reborn.tenant n).epoch = if n = 64 then (b.tenant n).epoch else ((b.tenant n).epoch + 1) % 256 := by
  have hn : n ∈ upto 65 := by simpa [upto] using Nat.lt_succ_of_le h
  have ht : b.reborn.tenant n = tget (tenantReset n) (b.resetTenants b.gt) n := rfl
  rw [ht, Block.resetTenants, tget_map_of_mem hn]

/-- What the reset makes of the block once the last units are out; discards of the operator's units are a loss (R509). -/
theorem Block.afterReset_eq : b.afterReset = b.lastUnits.reborn ∧ b.lastUnits.operatorLost = 0 ∨
    b.afterReset = b.lastUnits.reborn.loss 6 ∧ b.lastUnits.operatorLost ≠ 0 := by
  unfold Block.afterReset
  dsimp only
  split
  · next h => exact .inl ⟨rfl, h⟩
  · next h => exact .inr ⟨rfl, h⟩

theorem Block.afterReset_lost (h : b.lastUnits.operatorLost ≠ 0) : bit b.afterReset.power.lossSeen 6 = true := by
  rcases Block.afterReset_eq (b := b) with ⟨-, h0⟩ | ⟨he, -⟩
  · exact absurd h0 h
  · rw [he]
    exact Block.loss_lossSeen (by decide)

theorem Block.afterReset_reborn : b.afterReset.seen [.tenants, .power] = b.lastUnits.reborn.seen [.tenants, .power] := by
  rcases Block.afterReset_eq (b := b) with ⟨he, -⟩ | ⟨he, -⟩
  · rw [he]
  · rw [he]
    exact Block.loss_seen (by decide)

theorem Block.afterReset_lastPart : b.afterReset.lastPart = b.lastUnits.reborn.lastPart := by
  rcases Block.afterReset_eq (b := b) with ⟨he, -⟩ | ⟨he, -⟩
  · rw [he]
  · rw [he]
    exact Block.loss_lastPart

theorem Block.afterReset_tenant (h : n ≤ 64) : (b.afterReset.tenant n).epoch =
    if n = 64 then (b.tenant n).epoch else ((b.tenant n).epoch + 1) % 256 := by
  rw [Tenant.epoch_of_plain ((Block.of_lastPart Block.afterReset_lastPart).2 n), Block.reborn_tenant h,
    Block.lastUnits_tenant]

theorem Power.boot_of_plain {q r : Power} (h : q.plain = r.plain) :
    q.quiesce = r.quiesce ∧ q.blkAck = r.blkAck ∧ q.st = r.st ∧ q.phase = r.phase :=
  ⟨(congrArg Power.quiesce h :), (congrArg Power.blkAck h :), (congrArg Power.st h :), (congrArg Power.phase h :)⟩

theorem Block.reborn_power : b.reborn.power.quiesce = false ∧
    b.reborn.power.blkAck = (b.power.brewGnt && b.power.clkGnt && !b.power.low) ∧ b.reborn.power.st = .run ∧
    b.reborn.power.phase = b2n (b.power.brewGnt && b.power.clkGnt && !b.power.low) := ⟨rfl, rfl, rfl, rfl⟩

/-- Boot begins at once when supply and clock are granted at Full speed, and the reset is acknowledged (R477, R499). -/
theorem Block.afterReset_power : b.afterReset.power.quiesce = false ∧
    b.afterReset.power.blkAck = (b.power.brewGnt && b.power.clkGnt && !b.power.low) ∧ b.afterReset.power.st = .run ∧
    b.afterReset.power.phase = if b.power.brewGnt && b.power.clkGnt && !b.power.low then 1 else 0 := by
  obtain ⟨h1, h2, h3, h4⟩ := Power.boot_of_plain (Block.of_lastPart (Block.afterReset_lastPart (b := b))).1
  obtain ⟨r1, r2, r3, r4⟩ := Block.reborn_power (b := b.lastUnits)
  obtain ⟨hb, hc, hl, -, -⟩ := Power.follows_of_plain (Block.lastUnits_power (b := b))
  rw [h1, h2, h3, h4, r1, r2, r3, r4, hb, hc, hl]
  exact ⟨rfl, rfl, rfl, rfl⟩

/-- The last units leave the cask and the clock. -/
theorem Block.lastUnits_rest : b.lastUnits.cask = b.cask ∧ b.lastUnits.time = b.time := by
  have h := Block.lastUnits_seen (b := b) (M := [.taps, .views, .stations, .mash, .sync, .tenants, .meas, .power, .recs])
    (by decide)
  exact ⟨Block.cask_of_seen h (by decide), Block.time_of_seen h (by decide)⟩

theorem Block.reborn_keeps : b.reborn.cask =
      { pages := fencedPages b.cask.fence, fence := b.cask.fence, epochDiscard := b.operatorLost } ∧
    b.reborn.recs = b.waitingRecs.filter (fun r => decide (r.owner < 64)) ∧
    (∀ l, b.reborn.station l = { uq := tenantUnits (b.station l).uq }) ∧ b.reborn.ctxs = [] ∧ b.reborn.ports = [] ∧
    b.reborn.time.tb = b.time.tb := ⟨rfl, rfl, fun _ => tget_tmap rfl, rfl, rfl, rfl⟩

/-- The log and the patch RAM stay, and no image is open (R476). -/
theorem Block.reborn_meas : b.reborn.meas.ring = b.meas.ring ∧ b.reborn.meas.logDigest = b.meas.logDigest ∧
    b.reborn.meas.built = b.meas.built ∧ b.reborn.meas.lanes = [] ∧ b.reborn.meas.patchRam = b.meas.patchRam :=
  ⟨rfl, rfl, rfl, rfl, rfl⟩

theorem Block.afterReset_keeps : b.afterReset.cask =
      { pages := fencedPages b.cask.fence, fence := b.cask.fence, epochDiscard := b.lastUnits.operatorLost } ∧
    b.afterReset.recs = b.lastUnits.waitingRecs.filter (fun r => decide (r.owner < 64)) ∧
    (∀ l, b.afterReset.station l = { uq := tenantUnits (b.lastUnits.station l).uq }) ∧
    b.afterReset.ctxs = [] ∧ b.afterReset.ports = [] ∧ b.afterReset.time.tb = b.time.tb := by
  have h := Block.afterReset_reborn (b := b)
  obtain ⟨hc, ht⟩ := Block.lastUnits_rest (b := b)
  have hr := Block.reborn_keeps (b := b.lastUnits)
  rw [hc, ht] at hr
  rw [Block.cask_of_seen h (by decide), Block.recs_of_seen h (by decide), Block.ctxs_of_seen h (by decide),
    Block.ports_of_seen h (by decide), Block.time_of_seen h (by decide)]
  simp only [Block.station, Block.stations_of_seen h (by decide)]
  exact hr

theorem Block.afterReset_meas : b.afterReset.meas.ring = b.abortImages.buildLog.meas.ring ∧
    b.afterReset.meas.logDigest = b.abortImages.buildLog.meas.logDigest ∧
    b.afterReset.meas.built = b.abortImages.buildLog.meas.built ∧ b.afterReset.meas.lanes = [] ∧
    b.afterReset.meas.patchRam = b.meas.patchRam := by
  have hr := Block.reborn_meas (b := b.lastUnits)
  rwa [Block.lastUnits_patchRam, Block.lastUnits_meas, ← Block.meas_of_seen Block.afterReset_reborn (by decide)] at hr

theorem quiesceEnd_eq {s : State} (hq : s.block.power.quiesce = true) (hw : s.block.writesDone = true) :
    exec .quiesceEnd s = .next { s with block := s.block.afterReset } := by
  change execQuiesceEnd s = _
  rw [execQuiesceEnd, State.run_eq, if_pos (by simp [hq, hw])]

theorem quiesceEnd_acts {s : State} {p : Power} (hpow : p = s.block.power) (hq : p.quiesce = true)
    (hc : ∀ e, e ∈ s.block.sparge.chans → e.2.flight = []) (hs : ∀ h, h ∈ s.block.sparge.scrubs → h.flight = [])
    (ho : s.block.sparge.orphans = []) :
    ∃ t, exec .quiesceEnd s = .next t ∧ t.block.power.quiesce = false ∧ t.block.power.blkAck = (p.brewGnt && p.clkGnt && !p.low) ∧
      t.block.power.st = .run ∧ t.block.power.phase = (if p.brewGnt && p.clkGnt && !p.low then 1 else 0) ∧
      t.block.cask.pages = fencedPages s.block.cask.fence ∧ t.block.cask.fence = s.block.cask.fence ∧
      (∀ l, t.block.station l = { uq := tenantUnits (s.block.lastUnits.station l).uq }) ∧
      t.block.recs = s.block.lastUnits.waitingRecs.filter (fun r => decide (r.owner < 64)) ∧
      t.block.cask.epochDiscard = s.block.lastUnits.operatorLost ∧
      (s.block.lastUnits.operatorLost ≠ 0 → bit t.block.power.lossSeen 6 = true) ∧ t.block.ctxs = [] ∧ t.block.ports = [] ∧
      t.block.meas.ring = s.block.abortImages.buildLog.meas.ring ∧
      t.block.meas.logDigest = s.block.abortImages.buildLog.meas.logDigest ∧
      t.block.meas.built = s.block.abortImages.buildLog.meas.built ∧ t.block.meas.lanes = [] ∧
      t.block.meas.patchRam = s.block.meas.patchRam ∧
      (∀ n, n < 64 → (t.block.tenant n).epoch = ((s.block.tenant n).epoch + 1) % 256) ∧
      (t.block.tenant 64).epoch = (s.block.tenant 64).epoch ∧ t.block.time.tb = s.block.time.tb := by
  subst hpow
  refine ⟨_, quiesceEnd_eq hq (Block.writesDone_iff.2 ⟨hc, hs, ho⟩), ?_⟩
  obtain ⟨h1, h2, h3, h4⟩ := Block.afterReset_power (b := s.block)
  obtain ⟨hcask, hrecs, hstations, hctxs, hports, htb⟩ := Block.afterReset_keeps (b := s.block)
  obtain ⟨hring, hdigest, hbuilt, hlanes, hram⟩ := Block.afterReset_meas (b := s.block)
  dsimp only
  rw [hcask]
  exact ⟨h1, h2, h3, h4, rfl, rfl, hstations, hrecs, rfl, Block.afterReset_lost, hctxs, hports, hring, hdigest, hbuilt,
    hlanes, hram, fun n hn => (Block.afterReset_tenant (Nat.le_of_lt hn)).trans (if_neg (Nat.ne_of_lt hn)),
    Block.afterReset_tenant (Nat.le_refl 64), htb⟩

end

/-- Settles O58: what each event of Off and of a block reset makes of the block; the fall of a link and the last units before
the reset leave what the statement names, by what each of their steps leaves. -/
theorem blockResetsAct : Obligations.BlockResetsAct := by
  rintro s _ rfl
  exact ⟨⟨_, rfl, rfl⟩, offRequest_acts,
    fun uid addr len => ⟨_, rfl, rfl, rfl, rfl, rfl, rfl, rfl, rfl, rfl, rfl, rfl, rfl, rfl, rfl, rfl⟩,
    fun hs hg hq ha => blockResetRequest_quiesces hs hg hq ha,
    fun hr hs hg hq ha => blockResetRequest_waits hr hs hg hq ha,
    fun hq hc hs ho => quiesceEnd_acts rfl hq hc hs ho, ⟨_, rfl, rfl⟩⟩

end Sys2Proof.Machine


namespace Sys2Proof.Machine

/-! ## Function resets (R375 to R379), interrupt messages (R373) and the watchdog (R331) -/

/-! ### What channels that go on, and drains that settle, leave -/

/-- Everything of a port but what answers and commands in progress move. -/
def Port.front (p : Port) : Bool × List PoolPkt := (p.negotiated, p.queue)

/-- From `b` to `c` channels go on, stop, or give up drains: functions keep all but their interrupts, ports what they have of
commands that wait, the taps and contexts stay, and no page is listed anew. -/
structure Block.Pumped (b c : Block) : Prop where
  tenant : ∀ n, (c.tenant n).plain = (b.tenant n).plain
  front : ∀ n, (c.port n).front = (b.port n).front
  taps : c.taps = b.taps
  ctxs : c.ctxs = b.ctxs
  pages : ∀ k, k ∈ tkeys c.cask.pages → k ∈ tkeys b.cask.pages

theorem mem_tkeys_tmod {α : Type} [DecidableEq α] {d : α} {t : Tbl α} {n k : Nat} {f : α → α}
    (h : k ∈ tkeys (tmod d t n f)) : k = n ∨ k ∈ tkeys t := by
  obtain ⟨e, he, rfl⟩ := List.mem_map.1 h
  unfold tmod tset at he
  split at he
  · exact .inr (List.mem_map_of_mem (List.mem_filter.1 he).1)
  · rcases mem_of_mem_tput he with rfl | he
    · exact .inl rfl
    · exact .inr (List.mem_map_of_mem he)

section
variable {b c d : Block} {n m o k : Nat}

theorem Block.Pumped.refl (b : Block) : b.Pumped b := ⟨fun _ => rfl, fun _ => rfl, rfl, rfl, fun _ => id⟩

theorem Block.Pumped.trans (h : b.Pumped c) (h' : c.Pumped d) : b.Pumped d :=
  ⟨fun n => (h'.tenant n).trans (h.tenant n), fun n => (h'.front n).trans (h.front n), h'.taps.trans h.taps,
    h'.ctxs.trans h.ctxs, fun k hk => h.pages k (h'.pages k hk)⟩

theorem Block.pumped_of_seen {M : List Area} (h : c.seen M = b.seen M) (hM : Area.tenants ∉ M ∧ Area.ports ∉ M ∧
    Area.taps ∉ M ∧ Area.ctxs ∉ M ∧ Area.cask ∉ M) : b.Pumped c := by
  obtain ⟨hn, hp, ht, hc, hk⟩ := hM
  refine ⟨fun n => ?_, fun n => ?_, Block.taps_of_seen h ht, Block.ctxs_of_seen h hc, fun k => ?_⟩
  · rw [Block.tenant, Block.tenants_of_seen h hn]
    rfl
  · rw [Block.port, Block.ports_of_seen h hp]
    rfl
  · rw [Block.cask_of_seen h hk]
    exact id

theorem Block.each_pumped {α : Type} {l : List α} {f : Block → α → Block} (h : ∀ b x, Block.Pumped b (f b x)) :
    b.Pumped (b.each l f) := by
  induction l generalizing b with
  | nil => exact .refl b
  | cons x l ih => exact (h b x).trans ih

theorem Block.pumped_ite {q : Prop} [Decidable q] (hc : b.Pumped c) (hd : b.Pumped d) : b.Pumped (if q then c else d) := by
  split
  · exact hc
  · exact hd

theorem Block.raise_pumped {v : Nat} : b.Pumped (b.raise n v) :=
  ⟨fun _ => Block.raise_plain, fun _ => rfl, rfl, rfl, fun _ => id⟩

theorem Block.loss_pumped : b.Pumped (b.loss n) := ⟨fun _ => Block.loss_plain, fun _ => rfl, rfl, rfl, fun _ => id⟩

theorem Block.modPort_pumped {f : Port → Port} (h : ∀ p, (f p).front = p.front) : b.Pumped (b.modPort n f) :=
  ⟨fun _ => rfl, fun m => by
    rw [Block.port_modPort_ite]
    split
    · exact h _
    · rfl, rfl, rfl, fun _ => id⟩

theorem Block.respond_pumped {f tag status : Nat} {quiet : Bool} {ws : List Word} :
    b.Pumped (b.respond f tag quiet status ws) := by
  refine ⟨fun n => ?_, fun n => ?_, Block.respond_taps, Block.respond_ctxs, fun k => ?_⟩
  · unfold Block.respond
    split
    · rfl
    · rw [serveParked_tenant, Block.raise_plain]
      rfl
  · simp only [Port.front, Block.respond_negotiated, Block.respond_queue]
  · rw [Block.respond_cask]
    exact id

theorem Block.finishLong_pumped {f status : Nat} {l : Long} {ws : List Word} : b.Pumped (b.finishLong f l status ws) := by
  unfold Block.finishLong
  exact .trans (Block.modPort_pumped (f := fun p => { p with longs := p.longs.erase l }) fun _ => rfl) Block.respond_pumped

theorem Block.finishLongs_pumped {f : Nat → LongKind → Option (Nat × List Word)} : b.Pumped (b.finishLongs f) := by
  refine Block.each_pumped fun b x => ?_
  split
  · exact Block.finishLong_pumped
  · exact .refl b

theorem Block.mapLongs_pumped {f : LongKind → LongKind} : b.Pumped (b.mapLongs f) :=
  ⟨fun _ => rfl, fun n => tget_map_keeps (q := Port.front) (f := fun p => { p with longs := p.longs.map _ }) (fun _ => rfl) n,
    rfl, rfl, fun _ => id⟩

theorem Block.settleDrains_pumped : b.Pumped b.settleDrains := by
  unfold Block.settleDrains
  exact Block.mapLongs_pumped.trans Block.finishLongs_pumped

theorem Block.partialDrains_pumped {e : Nat} : b.Pumped (b.partialDrains n e) := Block.mapLongs_pumped

/-- A page that is not free is listed. -/
theorem Block.page_listed (h : b.page k ≠ {}) : k ∈ tkeys b.cask.pages := List.mem_map_of_mem (mem_of_tget_ne h)

theorem Block.modPage_pumped {f : Page → Page} (h : n ∈ tkeys b.cask.pages) : b.Pumped (b.modPage n f) := by
  refine ⟨fun _ => rfl, fun _ => rfl, rfl, rfl, fun k hk => ?_⟩
  rcases mem_tkeys_tmod hk with rfl | hk
  · exact h
  · exact hk

theorem Block.modCask_pumped {f : Cask → Cask} (h : ∀ c, (f c).pages = c.pages) : b.Pumped (b.modCask f) :=
  ⟨fun _ => rfl, fun _ => rfl, rfl, rfl, fun k hk => by rwa [← h b.cask]⟩

theorem Block.drainDone_pumped (h : n ∈ tkeys b.cask.pages) : b.Pumped (b.drainDone n) := by
  unfold Block.drainDone
  dsimp only
  refine Block.pumped_ite (Block.pumped_ite ?_ (Block.modPage_pumped h)) (Block.pumped_ite (Block.modPage_pumped h)
    (Block.modPage_pumped h))
  refine .trans ?_ Block.loss_pumped
  exact .trans (Block.modPage_pumped h) (Block.modCask_pumped fun _ => rfl)

theorem Block.drainUndo_pumped : b.Pumped (b.drainUndo n) := by
  unfold Block.drainUndo
  dsimp only
  split
  · exact .refl b
  · next hd =>
    have hl : n ∈ tkeys b.cask.pages := Block.page_listed fun h => hd (by rw [h]; rfl)
    exact Block.pumped_ite (Block.drainDone_pumped hl) (Block.modPage_pumped hl)

theorem Block.modChan_pumped {f : Channel → Channel} : b.Pumped (b.modChan n f) :=
  ⟨fun _ => rfl, fun _ => rfl, rfl, rfl, fun _ => id⟩

theorem Block.stopPages_pumped : b.Pumped (b.stopPages n) := by
  unfold Block.stopPages
  refine .trans Block.modChan_pumped (Block.each_pumped fun b p => ?_)
  unfold Block.pageBack
  exact Block.pumped_ite Block.drainUndo_pumped (.refl b)

theorem Block.stopEnd_pumped : b.Pumped (b.stopEnd n) := by
  unfold Block.stopEnd
  dsimp only
  split
  · refine .trans ?_ Block.partialDrains_pumped
    have h : ∀ f g, b.Pumped (((b.modChan n f).modPower g).raise (b.chan n).owner 7) := fun _ _ =>
      (Block.modChan_pumped.trans (Block.pumped_of_seen (Block.modPower_seen (M := [.power]) (by decide)) (by decide))).trans
        Block.raise_pumped
    exact Block.pumped_ite ((h _ _).trans Block.raise_pumped) (h _ _)
  · exact Block.modChan_pumped.trans Block.partialDrains_pumped
  · exact Block.modChan_pumped

theorem Block.wbStep_pumped : b.Pumped (b.wbStep n) :=
  Block.pumped_of_seen (Block.wbStep_seen (M := [.sparge, .out]) (by decide)) (by decide)

/-- A stopping channel's pages go back before anything else. -/
def Block.stopBack (b : Block) (c : Nat) : Block :=
  if (b.chan c).page.isSome || !(b.chan c).lagging.isEmpty then
    if (b.chan c).stop == .abandon then b.stopPages c else (b.stopPages c).partialDrains c drainCut
  else b

/-- The stop comes to its end when nothing is outstanding. -/
def Block.stopLast (b : Block) (c : Nat) : Block :=
  if (b.chan c).desc.isSome || !(b.chan c).clear || (b.chan c).descRead || (b.chan c).idxRead then b else b.stopEnd c

theorem Block.stopStep_eq : b.stopStep n = if (b.chan n).stop == .none || (b.chan n).flight.any (fun f => f.kind == 0) then b
    else ((b.stopBack n).wbStep n).stopLast n := rfl

theorem Block.stopStep_pumped : b.Pumped (b.stopStep n) := by
  rw [Block.stopStep_eq]
  refine Block.pumped_ite (.refl b) ?_
  have hback : b.Pumped (b.stopBack n) := Block.pumped_ite (Block.pumped_ite Block.stopPages_pumped
    (Block.stopPages_pumped.trans Block.partialDrains_pumped)) (.refl b)
  exact (hback.trans Block.wbStep_pumped).trans (Block.pumped_ite (.refl _) Block.stopEnd_pumped)

theorem Block.abandonOld_pumped : b.Pumped (b.abandonOld n o) := by
  unfold Block.abandonOld
  dsimp only
  exact Block.pumped_ite ((Block.pumped_of_seen (Block.stopChan_seen (M := [.sparge, .hop]) (by decide)) (by decide)).trans
    Block.stopStep_pumped) (.refl b)

/-! ### A channel that does not stop -/

/-- What a channel that works changes nothing of: all but the sparge engine and its requests, and who stops. -/
def Block.workPart (b : Block) : Seen × (Nat → ChStop) := (b.seen [.sparge, .out], fun m => (b.chan m).stop)

theorem Block.workPart_ite {q : Prop} [Decidable q] (hc : c.workPart = b.workPart) (hd : d.workPart = b.workPart) :
    (if q then c else d).workPart = b.workPart := by
  split
  · exact hc
  · exact hd

theorem Block.modChan_workPart {f : Channel → Channel} (hr : Keeps Channel.rings f) (h : ∀ x, (f x).stop = x.stop) :
    (b.modChan n f).workPart = b.workPart := by
  have hs : ∀ m, ((b.modChan n f).chan m).stop = (b.chan m).stop := fun m => by
    rw [Block.chan_modChan_ite]
    split
    · exact h _
    · rfl
  simp only [Block.workPart, hs, Block.modChan_seen (b := b) (M := [.sparge, .out]) (by decide) hr]

theorem Block.spend_workPart : (b.spend n k).workPart = b.workPart :=
  congrArg (fun x => (x, fun m => (b.chan m).stop)) (Block.spend_seen (b := b) (M := [.sparge, .out]) (by decide))

theorem Block.emit_workPart {e : Out} : (b.emit e).workPart = b.workPart :=
  congrArg (fun x => (x, fun m => (b.chan m).stop)) (Block.emit_seen (b := b) (M := [.sparge, .out]) (by decide))

/-- A request of a channel: what it costs is charged, the channel notes it, and it goes out. -/
theorem Block.request_workPart {f : Channel → Channel} {e : Out} (hr : Keeps Channel.rings f) (h : ∀ x, (f x).stop = x.stop) :
    (((b.spend o k).modChan n f).emit e).workPart = b.workPart :=
  Block.emit_workPart.trans ((Block.modChan_workPart hr h).trans Block.spend_workPart)

theorem Block.chanWrite_workPart {kind addr : Nat} {bytes : List Byte} {pages : List Nat} :
    (b.chanWrite n kind addr bytes pages).workPart = b.workPart := by
  unfold Block.chanWrite
  exact Block.emit_workPart.trans (Block.modChan_workPart (fun _ => rfl) fun _ => rfl)

theorem Block.wbStep_workPart : (b.wbStep n).workPart = b.workPart := by
  unfold Block.wbStep
  dsimp only
  split
  · rfl
  · refine Block.workPart_ite rfl (Block.workPart_ite ?_ (Block.workPart_ite ?_ rfl))
    all_goals
      refine Eq.trans Block.chanWrite_workPart (Eq.trans (Block.modChan_workPart ?_ ?_) Block.spend_workPart)
      · exact fun _ => rfl
      · exact fun _ => rfl

theorem Block.complete_workPart : (b.complete n).workPart = b.workPart :=
  Block.modChan_workPart (fun _ => rfl) fun _ => rfl

/-- Once a channel has gone as far as its stop lets it, what it does is work. -/
theorem Block.pumpStep_workPart :
    (b.pumpStep n).workPart = (if b.power.quiesce || b.power.goal == .off then b else b.stopStep n).workPart := by
  unfold Block.pumpStep
  extract_lets stopped _ work run _ ended written _ read _ index _
  have hrun : run.workPart = stopped.workPart := Block.workPart_ite (Block.modChan_workPart (fun _ => rfl) fun _ => rfl) rfl
  have hended : ended.workPart = stopped.workPart := by
    refine Eq.trans ?_ hrun
    unfold ended
    split
    · exact Block.workPart_ite Block.complete_workPart rfl
    · rfl
  have hread : read.workPart = stopped.workPart := by
    refine Eq.trans ?_ ((Block.wbStep_workPart (b := ended) (n := n)).trans hended)
    exact Block.workPart_ite (Block.request_workPart (fun _ => rfl) fun _ => rfl) rfl
  have hindex : index.workPart = stopped.workPart := by
    refine Eq.trans ?_ hread
    unfold index
    split
    · exact Block.workPart_ite (Block.request_workPart (fun _ => rfl) fun _ => rfl) rfl
    · rfl
  split
  · rfl
  · refine Block.workPart_ite rfl (Block.workPart_ite hrun (Block.workPart_ite ?_ hindex))
    exact Eq.trans (Block.modChan_workPart (fun _ => rfl) fun _ => rfl) hindex

theorem Block.of_workPart (h : c.workPart = b.workPart) :
    c.seen [.sparge, .out] = b.seen [.sparge, .out] ∧ ∀ m, (c.chan m).stop = (b.chan m).stop :=
  ⟨congrArg Prod.fst h, fun m => congrFun (congrArg Prod.snd h) m⟩

theorem Block.pumpStep_pumped : b.Pumped (b.pumpStep n) := by
  refine .trans ?_ (Block.pumped_of_seen (Block.of_workPart Block.pumpStep_workPart).1 (by decide))
  exact Block.pumped_ite (.refl b) Block.stopStep_pumped

theorem Block.pumpAll_pumped : b.Pumped b.pumpAll :=
  .trans (Block.each_pumped fun _ _ => Block.pumpStep_pumped) Block.settleDrains_pumped

/-- A step of a channel that does not stop is all work. -/
theorem Block.pumpStep_works (h : (b.chan n).stop = .none) : (b.pumpStep n).workPart = b.workPart := by
  have hs : b.stopStep n = b := by
    rw [Block.stopStep_eq, if_pos (by rw [h]; rfl)]
  rw [Block.pumpStep_workPart, hs, ite_self]

/-- With no channel stopping, the channels work. -/
theorem Block.pumps_workPart {l : List Nat} (h : ∀ m ∈ l, (b.chan m).stop = .none) :
    (b.each l (fun b m => b.pumpStep m)).workPart = b.workPart := by
  induction l generalizing b with
  | nil => rfl
  | cons x l ih =>
    have hx := Block.pumpStep_works (h x List.mem_cons_self)
    refine Eq.trans (ih fun m hm => ?_) hx
    rw [(Block.of_workPart hx).2 m]
    exact h m (List.mem_cons_of_mem _ hm)

/-! ### Drains that settle when no CASK_DRAIN is in progress -/

/-- No CASK_DRAIN is in progress on any port. -/
def Block.drainless (b : Block) : Prop := ∀ e ∈ b.ports, ∀ l ∈ e.2.longs, l.kind.isDrain = false

theorem Block.mapLongs_of_drainless {f : LongKind → LongKind} (hf : ∀ k, k.isDrain = false → f k = k) (h : b.drainless) :
    b.mapLongs f = b := by
  have hp : b.ports.map (fun e => (e.1, { e.2 with longs := e.2.longs.map (fun l => { l with kind := f l.kind }) })) =
      b.ports := by
    refine (List.map_congr_left fun e he => ?_).trans (List.map_id _)
    have hl : e.2.longs.map (fun l => { l with kind := f l.kind }) = e.2.longs :=
      (List.map_congr_left fun l hl => by rw [hf _ (h e he l hl)]; rfl).trans (List.map_id _)
    rw [hl]
    rfl
  unfold Block.mapLongs
  rw [hp]

theorem mem_sortBy {α : Type} {r : α → α → Bool} {l : List α} {x : α} : x ∈ sortBy r l ↔ x ∈ l := by
  have h : ∀ acc : List α, x ∈ l.foldl (fun acc x => insertBy r x acc) acc ↔ x ∈ l ∨ x ∈ acc := by
    induction l with
    | nil => simp
    | cons y l ih =>
      intro acc
      rw [List.foldl_cons, ih, mem_insertBy, List.mem_cons]
      tauto
  simpa [sortBy] using h []

/-- A command in progress stands in an entry of the ports. -/
theorem Block.mem_allLongs {x : Nat × Long} : x ∈ b.allLongs ↔ ∃ e ∈ b.ports, x.1 = e.1 ∧ x.2 ∈ e.2.longs := by
  obtain ⟨f, l⟩ := x
  simp only [Block.allLongs, mem_sortBy, List.mem_flatten, List.mem_map, exists_exists_and_eq_and, Prod.mk.injEq]
  constructor
  · rintro ⟨e, he, l', hl, rfl, rfl⟩
    exact ⟨e, he, rfl, hl⟩
  · rintro ⟨e, he, rfl, hl⟩
    exact ⟨e, he, l, hl, rfl, rfl⟩

theorem Block.each_of_same {α : Type} {l : List α} {f : Block → α → Block} (h : ∀ x ∈ l, f b x = b) : b.each l f = b := by
  induction l with
  | nil => rfl
  | cons x l ih =>
    change (f b x).each l f = b
    rw [h x List.mem_cons_self]
    exact ih fun y hy => h y (List.mem_cons_of_mem _ hy)

theorem Block.settleDrains_of_drainless (h : b.drainless) : b.settleDrains = b := by
  unfold Block.settleDrains
  dsimp only
  rw [Block.mapLongs_of_drainless _ h]
  · refine Block.each_of_same fun x hx => ?_
    obtain ⟨e, he, -, hl⟩ := Block.mem_allLongs.1 hx
    have hk := h e he _ hl
    generalize x.2.kind = kind at hk ⊢
    cases kind with
    | caskDrain => cases hk
    | _ => rfl
  · intro kind hk
    cases kind with
    | caskDrain => cases hk
    | _ => rfl

end

/-! ### A function reset begins (R375, R377, R379) -/

section
variable {b : Block} {n : Nat} {s : State} {fn : Fin 64}

/-- The tenant as its reset begins. -/
def Tenant.resetBegun (t : Tenant) (cs : List (Nat × Nat × Nat)) (g : Gt) : Tenant :=
  { t with
    resetting := true, step2Due := true, rstWait := false, intStatus := 0, intEnable := 0, due := []
    tokens := 1024 * t.intBurst, tokenGt := g, deferring := [], viewSel := [], hold := none, scrubCh := cs }

theorem Block.resetPort_front : ((b.resetPort n).port n).front = (false, []) := by
  unfold Block.resetPort
  rw [Block.port_modPort]
  rfl

theorem Block.beginReset_of_running (hr : (b.tenant n).resetting = false) (h : (b.requestWake 3).running = true) :
    ∃ c d : Block, ∃ cs g, c.tenant n = b.tenant n ∧ d = (c.resetPort n).modTenant n (fun t => t.resetBegun cs g) ∧
      d.Pumped (b.beginReset n) := by
  unfold Block.beginReset
  dsimp only
  have hr' : ((b.requestWake 3).tenant n).resetting = false := hr
  rw [if_neg (by simp [hr']), if_neg (by simp [h])]
  refine ⟨_, _, _, _, ?_, rfl, .trans (Block.each_pumped fun _ _ => Block.abandonOld_pumped) Block.settleDrains_pumped⟩
  rw [Block.tenant]
  split
  · rw [Block.tenants_of_seen (Block.holdChans_seen (M := [.sparge]) (by decide)) (by decide)]
    rfl
  · rfl

theorem Block.beginReset_of_not_running (hr : (b.tenant n).resetting = false) (h : (b.requestWake 3).running = false) :
    b.beginReset n = (b.requestWake 3).modTenant n (fun t => { t with rstWait := true }) := by
  unfold Block.beginReset
  dsimp only
  have hr' : ((b.requestWake 3).tenant n).resetting = false := hr
  rw [if_neg (by simp [hr']), if_pos (by simp [h])]

/-- The request of a function's reset is up. -/
def Block.resetAskedBy (b : Block) (n : Nat) : Block := b.modTenant n (fun t => { t with frPend := true })

theorem functionResetRequest_eq (h : s.block.power.st ≠ .off) : exec (.functionResetRequest fn) s =
    .next { s with block := (s.block.resetAskedBy fn).beginReset fn } := by
  change execFunctionResetRequest fn s = _
  rw [execFunctionResetRequest, State.run_eq, if_neg (by simpa using h)]
  rfl

theorem Block.resetAskedBy_tenant : (b.resetAskedBy n).tenant n = { b.tenant n with frPend := true } :=
  Block.tenant_modTenant

theorem Block.st_of_running (h : (b.requestWake 3).running = true) : b.power.st = .run := by
  have hs : (b.requestWake 3).power.st = b.power.st := Power.wake_st
  simp only [Block.running, hs, Bool.and_eq_true, beq_iff_eq] at h
  exact h.1.1.1

theorem functionResetRequest_begins (hr : (s.block.requestWake 3).running = true)
    (hx : (s.block.tenant fn).resetting = false) : ∃ t, exec (.functionResetRequest fn) s = .next t ∧
      (t.block.tenant fn).frPend = true ∧ (t.block.tenant fn).resetting = true ∧ (t.block.tenant fn).step2Due = true ∧
      (t.block.tenant fn).intStatus = 0 ∧ (t.block.tenant fn).intEnable = 0 ∧ (t.block.port fn).negotiated = false ∧
      (t.block.port fn).queue = [] := by
  refine ⟨_, functionResetRequest_eq (by rw [Block.st_of_running hr]; decide), ?_⟩
  have ha := Block.resetAskedBy_tenant (b := s.block) (n := fn)
  obtain ⟨c, d, cs, g, hc, hd, hp⟩ := Block.beginReset_of_running (b := s.block.resetAskedBy fn) (n := fn) (by rw [ha]; exact hx) hr
  have ht : d.tenant fn = ({ s.block.tenant fn with frPend := true } : Tenant).resetBegun cs g := by
    rw [hd, Block.tenant_modTenant, ← ha, ← hc]
    rfl
  have hport : (d.port fn).front = (false, []) := by
    rw [hd]
    exact Block.resetPort_front
  have hsame : ((s.block.resetAskedBy fn).beginReset fn).tenant fn = d.tenant fn :=
    (Tenant.eq_of_plain (hp.tenant fn)).2 (by rw [ht]; rfl)
  have hfront := (hp.front fn).trans hport
  dsimp only
  rw [hsame, ht]
  exact ⟨rfl, rfl, rfl, rfl, rfl, congrArg Prod.fst hfront, congrArg Prod.snd hfront⟩

theorem functionResetRequest_waits (hr : (s.block.requestWake 3).running = false) (hs : s.block.power.st ≠ .off)
    (hx : (s.block.tenant fn).resetting = false) : ∃ t, exec (.functionResetRequest fn) s = .next t ∧
      t.block.tenant fn = { s.block.tenant fn with frPend := true, rstWait := true } ∧
      (s.block.power.st ≠ .run → s.block.power.goal ≠ .off → t.block.power.waking = true) ∧
      t.block.seen [.tenants, .power] = s.block.seen [.tenants, .power] := by
  refine ⟨_, functionResetRequest_eq hs, ?_⟩
  have ha := Block.resetAskedBy_tenant (b := s.block) (n := fn)
  dsimp only
  rw [Block.beginReset_of_not_running (b := s.block.resetAskedBy fn) (by rw [ha]; exact hx) hr]
  refine ⟨?_, fun h1 h2 => Power.wake_waking h1 hs h2, ?_⟩
  · rw [Block.tenant_modTenant]
    exact congrArg (fun t : Tenant => { t with rstWait := true }) ha
  · refine Eq.trans (Block.modTenant_seen (by decide) fun _ => rfl) (Eq.trans (Block.requestWake_seen (by decide)) ?_)
    exact Block.modTenant_seen (by decide) fun _ => rfl

end

/-! ### The one long command in progress completes (R319, R320) -/

section
variable {b : Block} {n m status : Nat} {l : Long} {ws : List Word} {F : Nat → LongKind → Option (Nat × List Word)}

theorem serveParked_of_none {k : Nat} (h : (b.port n).parked = []) : serveParked k b n = b := by
  cases k with
  | zero => rfl
  | succ k => rw [serveParked, h]

theorem Block.respond_of_unparked {tag : Nat} (h : (b.port n).parked = []) (hs : status ≤ 1 ∨ ws = []) :
    b.respond n tag false status ws = ((b.countFault status).modPort n (fun p => p.push tag status ws)).raise n 0 := by
  have hw : (if status ≤ 1 then ws else []) = ws := by
    split
    · rfl
    · exact (hs.resolve_left ‹_›).symm
  unfold Block.respond
  rw [if_neg (by simp), hw]
  refine serveParked_of_none ?_
  rw [Block.port_raise, Block.port_modPort]
  exact h

theorem Block.finishLongs_of_waitsFor (h : b.waitsFor n l) (hF : F n l.kind = some (status, ws))
    (hs : status ≤ 1 ∨ ws = []) : b.finishLongs F =
      (((b.modPort n (fun p => { p with longs := p.longs.erase l })).countFault status).modPort n (fun p =>
        p.push l.tag status ws)).raise n 0 := by
  obtain ⟨ha, hq, hp⟩ := h
  unfold Block.finishLongs
  rw [ha]
  change (match F n l.kind with | some r => b.finishLong n l r.1 r.2 | none => b) = _
  rw [hF]
  change b.finishLong n l status ws = _
  unfold Block.finishLong
  rw [hq, Block.respond_of_unparked _ hs]
  rw [Block.port_modPort]
  exact hp

theorem Block.finishLongs_port (h : b.waitsFor n l) (hF : F n l.kind = some (status, ws)) (hs : status ≤ 1 ∨ ws = []) :
    b.finished (b.finishLongs F) n l status ws := by
  rw [Block.finishLongs_of_waitsFor h hF hs]
  refine ⟨?_, fun g hg => ?_⟩
  · rw [Block.port_raise, Block.port_modPort, Block.port_countFault, Block.port_modPort]
  · rw [Block.port_raise, Block.port_modPort_of_ne hg, Block.port_countFault, Block.port_modPort_of_ne hg]

theorem Block.finishLongs_hwFaults (h : b.waitsFor n l) (hF : F n l.kind = some (stHwFault, [])) :
    (b.finishLongs F).power.hwFaults = satAdd 32 b.power.hwFaults 1 := by
  rw [Block.finishLongs_of_waitsFor h hF (.inr rfl)]
  rfl

theorem Block.modPort_drainless {f : Port → Port} (h : b.drainless) (hf : ∀ p, ∀ k ∈ (f p).longs, k ∈ p.longs) :
    (b.modPort n f).drainless := by
  unfold Block.drainless Block.modPort
  exact forall_mem_tmod (P := fun p : Port => ∀ k ∈ p.longs, k.kind.isDrain = false)
    (fun _ hk => absurd hk List.not_mem_nil) (fun p hp k hk => hp k (hf p k hk)) h

theorem Block.drainless_of_waitsFor (h : b.waitsFor n l) (hk : l.kind.isDrain = false) : b.drainless := by
  intro e he k hl
  have hm : (e.1, k) ∈ b.allLongs := Block.mem_allLongs.2 ⟨e, he, rfl, hl⟩
  rw [h.1, List.mem_singleton, Prod.mk.injEq] at hm
  rw [hm.2]
  exact hk

theorem Block.finishLongs_drainless (h : b.waitsFor n l) (hF : F n l.kind = some (status, ws)) (hs : status ≤ 1 ∨ ws = [])
    (hk : l.kind.isDrain = false) : (b.finishLongs F).drainless := by
  rw [Block.finishLongs_of_waitsFor h hF hs]
  have h1 : (b.modPort n (fun p => { p with longs := p.longs.erase l })).drainless :=
    Block.modPort_drainless (Block.drainless_of_waitsFor h hk) fun _ _ => List.mem_of_mem_erase
  exact Block.modPort_drainless (b := (b.modPort n _).countFault status) (f := fun p => p.push l.tag status ws) h1
    fun _ _ => id

/-- With no channel stopping and no CASK_DRAIN in progress the channels leave the ports. -/
theorem Block.pumpAll_ports (hc : ∀ c, c < 16 → (b.chan c).stop = .none) (hd : b.drainless) : b.pumpAll.ports = b.ports := by
  have hs := (Block.of_workPart (Block.pumps_workPart (l := upto 16) fun m hm => hc m (List.mem_range.1 hm))).1
  have hp := Block.ports_of_seen hs (by decide)
  unfold Block.pumpAll
  rw [Block.settleDrains_of_drainless, hp]
  intro e he
  rw [hp] at he
  exact hd e he

end

/-! ### A reset ends (R377, R499) -/

section
variable {b : Block} {n : Nat} {s : State} {fn : Fin 64}

/-- What the end of a reset makes of the tenant. -/
def Tenant.ready (t : Tenant) : Tenant := { t with resetting := false, frAck := t.frAck || t.frPend, frPend := false }

/-- What a command that waits for the reset of `n` answers: the old epoch, the new one, and whether a scrub is queued. -/
def readyAnswer (n epoch : Nat) (k : LongKind) : Option (Nat × List Word) :=
  match k with
  | .tenantReset m old scrub => if m = n then some (stDone, [w32 (old + 256 * epoch), w32 (b2n scrub)]) else none
  | _ => none

/-- The block after a reset of `n` has ended. -/
def Block.readied (b : Block) (n : Nat) : Block :=
  ((b.modTenant n Tenant.ready).finishLongs (fun _ => readyAnswer n (b.tenant n).epoch)).pumpAll

theorem resetReady_eq (hr : s.block.running = true) (hx : (s.block.tenant fn).resetting = true)
    (hd : (s.block.tenant fn).step2Due = false) : exec (.resetReady fn) s = .next { s with block := s.block.readied fn } := by
  change execResetReady fn s = _
  rw [execResetReady, State.run_eq]
  dsimp only
  rw [if_neg (by simp [hr, hx, hd])]
  rfl

theorem Block.readied_finished {m old : Nat} {l : Long} {scrub : Bool} (h : b.waitsFor m l) (hk : l.kind = .tenantReset n old scrub)
    (hc : ∀ c, c < 16 → (b.chan c).stop = .none) :
    b.finished (b.readied n) m l stDone [w32 (old + 256 * (b.tenant n).epoch), w32 (b2n scrub)] := by
  have hF : readyAnswer n (b.tenant n).epoch l.kind = some (stDone, [w32 (old + 256 * (b.tenant n).epoch), w32 (b2n scrub)]) := by
    rw [hk]
    exact if_pos rfl
  have hw : (b.modTenant n Tenant.ready).waitsFor m l := h
  have hdr := Block.finishLongs_drainless (F := fun _ => readyAnswer n (b.tenant n).epoch) hw hF (.inl (by decide)) (by rw [hk]; rfl)
  have hports := Block.pumpAll_ports (fun c hlt => ?_) hdr
  · obtain ⟨hm, ho⟩ := Block.finishLongs_port (F := fun _ => readyAnswer n (b.tenant n).epoch) hw hF (.inl (by decide))
    unfold Block.readied Block.finished
    simp only [Block.port, hports]
    exact ⟨hm, ho⟩
  · rw [Block.chan, Block.sparge_of_seen (Block.finishLongs_seen (M := [.ports, .tenants, .power, .out]) (by decide)) (by decide)]
    exact hc c hlt

theorem resetReady_ends (hr : s.block.running = true) (hx : (s.block.tenant fn).resetting = true)
    (hd : (s.block.tenant fn).step2Due = false) :
    ∃ t, exec (.resetReady fn) s = .next t ∧ (t.block.tenant fn).resetting = false ∧
      (t.block.tenant fn).frAck = ((s.block.tenant fn).frAck || (s.block.tenant fn).frPend) ∧
      (t.block.tenant fn).frPend = false ∧
      (∀ m l old scrub, s.block.waitsFor m l → l.kind = .tenantReset fn old scrub →
        (∀ c, c < 16 → (s.block.chan c).stop = .none) →
        s.block.finished t.block m l stDone [w32 (old + 256 * (s.block.tenant fn).epoch), w32 (b2n scrub)]) := by
  refine ⟨_, resetReady_eq hr hx hd, ?_⟩
  have hp : (s.block.modTenant fn Tenant.ready).Pumped (s.block.readied fn) :=
    .trans Block.finishLongs_pumped Block.pumpAll_pumped
  have ht := (Tenant.eq_of_plain (hp.tenant fn)).1
  rw [Block.tenant_modTenant] at ht
  dsimp only
  rw [ht]
  exact ⟨rfl, rfl, rfl, fun m l old scrub hw hk hc => Block.readied_finished hw hk hc⟩

theorem functionResetRelease_falls {f : Fin 65} : ∃ t, exec (.functionResetRelease f) s = .next t ∧
    t.block.seen [.tenants] = s.block.seen [.tenants] ∧
    ∀ k, t.block.tenant k = if k = f.val then { s.block.tenant k with frAck := false } else s.block.tenant k :=
  ⟨_, rfl, Block.modTenant_seen (by decide) fun _ => rfl, fun _ => Block.tenant_modTenant_ite⟩

end

/-! ### Interrupt messages (R373, R374, R497) -/

section
variable {b : Block} {n v : Nat} {rest : List Nat} {s : State}

/-- The message that stands at the output, if there is one, is accepted. -/
def Block.irqTaken (b : Block) : Block :=
  match b.power.irqUp with
  | some x => (b.modPower (fun p => { p with irqUp := none })).emit (.irq x.1 x.2)
  | none => b

theorem interruptMessageSend_eq (h : s.block.power.st ≠ .off) :
    exec .interruptMessageSend s = .next { s with block := s.block.irqRaise.irqTaken } := by
  change execInterruptMessageSend s = _
  rw [execInterruptMessageSend, State.run_eq, if_neg (by simpa using h)]
  rfl

theorem Block.irqTaken_of_up {x : Nat × Nat} (h : b.power.irqUp = some x) :
    b.irqTaken = (b.modPower (fun p => { p with irqUp := none })).emit (.irq x.1 x.2) := by
  unfold Block.irqTaken
  rw [h]

theorem Block.irqTaken_of_none (h : b.power.irqUp = none) : b.irqTaken = b := by
  unfold Block.irqTaken
  rw [h]

theorem Block.modPower_irqUp_none (h : b.power.irqUp = none) : b.modPower (fun p => { p with irqUp := none }) = b := by
  unfold Block.modPower
  rw [← h]

/-- A message of function `n` that is presented and accepted: it is no longer due, and goes out. -/
theorem Block.presentIrq_taken (hu : b.power.irqUp = none) (hd : (b.tenant n).due = v :: rest) :
    (b.presentIrq n).irqTaken = (b.modTenant n (fun t => { t with due := rest })).emit (.irq n v) := by
  unfold Block.presentIrq
  rw [hd]
  dsimp only
  rw [Block.irqTaken_of_up (x := (n, v)) rfl]
  exact congrArg (Block.emit · (.irq n v)) (Block.modPower_irqUp_none (b := b.modTenant n (fun t => { t with due := rest })) hu)

theorem interruptMessageSend_accepts {x : Nat × Nat} (hs : s.block.power.st ≠ .off) (hu : s.block.power.irqUp = some x) :
    ∃ t, exec .interruptMessageSend s = .next t ∧ t.block = { s.block with
      power := { s.block.power with irqUp := none }, out := s.block.out ++ [.irq x.1 x.2] } := by
  refine ⟨_, interruptMessageSend_eq hs, ?_⟩
  dsimp only
  rw [Block.irqRaise_of_idle (.inl (by rw [hu]; rfl)), Block.irqTaken_of_up hu]
  rfl

theorem interruptMessageSend_operator (hs : s.block.power.st ≠ .off) (hu : s.block.power.irqUp = none)
    (hd : (s.block.tenant 64).due = v :: rest) :
    ∃ t, exec .interruptMessageSend s = .next t ∧ t.block.out = s.block.out ++ [.irq 64 v] ∧
      t.block.seen [.tenants, .out] = s.block.seen [.tenants, .out] ∧
      ∀ k, t.block.tenant k = if k = 64 then { s.block.tenant k with due := rest } else s.block.tenant k := by
  refine ⟨_, interruptMessageSend_eq hs, ?_⟩
  have hr : s.block.irqRaise = s.block.presentIrq 64 := by
    unfold Block.irqRaise
    rw [if_neg (by simp [hu]), if_pos (by simp [hd])]
  dsimp only
  rw [hr, Block.presentIrq_taken hu hd]
  refine ⟨rfl, ?_, fun k => Block.tenant_modTenant_ite (x := fun t => { t with due := rest })⟩
  exact (Block.emit_seen (by decide)).trans (Block.modTenant_seen (by decide) fun _ => rfl)

/-- A tenant as it gains its tokens (R373): its due messages wait when it is left without a whole one, each counted once. -/
def Tenant.gained (t : Tenant) (g : Gt) : Tenant :=
  let r := t.gain g
  let t := { t with tokens := r.1, tokenGt := r.2 }
  let new := t.due.filter (fun k => !t.deferring.contains k)
  if r.1 < 1024 then { t with deferring := t.deferring ++ new, deferred := satAdd 32 t.deferred new.length } else t

/-- A tenant as its message goes out: it spends a token, and the message waits no longer. -/
def Tenant.spent (t : Tenant) : Tenant :=
  { t with tokens := t.tokens - 1024, deferring := t.deferring.filter (fun k => t.due.head? != some k) }

theorem Tenant.spent_of_due {t : Tenant} (h : t.due = v :: rest) : t.spent.due = v :: rest ∧
    t.spent.tokens = t.tokens - 1024 ∧ t.spent.tokenGt = t.tokenGt ∧ v ∉ t.spent.deferring := by
  simp [Tenant.spent, h]

theorem Tenant.gained_of_token {t : Tenant} {g : Gt} (h : 1024 ≤ (t.gain g).1) :
    t.gained g = { t with tokens := (t.gain g).1, tokenGt := (t.gain g).2 } := if_neg (Nat.not_lt.2 h)

theorem Tenant.gained_of_few {t : Tenant} {g : Gt} (h : (t.gain g).1 < 1024) : t.gained g = { t with
    tokens := (t.gain g).1, tokenGt := (t.gain g).2
    deferring := t.deferring ++ t.due.filter (fun k => !t.deferring.contains k)
    deferred := satAdd 32 t.deferred ((t.due.filter (fun k => !t.deferring.contains k)).length) } := if_pos h

/-- With one tenant's message due, the output has that of the tenant once it holds a whole token. -/
theorem Block.irqRaise_one (hu : b.power.irqUp = none) (hd : (b.tenant 64).due = []) (ho : b.irqOrder = [n]) :
    b.irqRaise = (b.modTenant n (fun t => t.gained b.gt)).sendNext [n] := by
  unfold Block.irqRaise
  rw [if_neg (by simp [hu]), if_neg (by simp [hd]), ho]
  rfl

/-- The tenant is the one served: it spends a token. -/
def Block.irqTurn (b : Block) (n : Nat) : Block :=
  (b.modTenant n Tenant.spent).modPower (fun p => { p with lastTenant := n })

theorem Block.irqTurn_tenant : (b.irqTurn n).tenant n = (b.tenant n).spent := Block.tenant_modTenant (f := Tenant.spent)

theorem Block.irqTurn_rest : (b.irqTurn n).out = b.out ∧ (b.irqTurn n).power = { b.power with lastTenant := n } := ⟨rfl, rfl⟩

theorem Block.sendNext_of_token (h : 1024 ≤ (b.tenant n).tokens) :
    b.sendNext [n] = (b.irqTurn n).presentIrq n := by
  unfold Block.sendNext
  rw [List.find?_cons_of_pos (by simpa using h)]
  rfl

theorem Block.sendNext_of_few (h : (b.tenant n).tokens < 1024) : b.sendNext [n] = b := by
  unfold Block.sendNext
  rw [List.find?_cons_of_neg (by simpa using h), List.find?_nil]

theorem interruptMessageSend_tenant {x : Tenant} {g : Nat × Gt} (hs : s.block.power.st ≠ .off)
    (hu : s.block.power.irqUp = none) (h64 : (s.block.tenant 64).due = []) (ho : s.block.irqOrder = [n])
    (hx : x = s.block.tenant n) (hd : x.due = v :: rest) (hg : g = x.gain s.block.gt) :
    ∃ t, exec .interruptMessageSend s = .next t ∧
      (1024 ≤ g.1 → t.block.out = s.block.out ++ [.irq n v] ∧ t.block.power = { s.block.power with lastTenant := n } ∧
        (t.block.tenant n).due = rest ∧ (t.block.tenant n).tokens = g.1 - 1024 ∧ (t.block.tenant n).tokenGt = g.2 ∧
        v ∉ (t.block.tenant n).deferring) ∧
      (g.1 < 1024 → t.block.out = s.block.out ∧ t.block.power = s.block.power ∧
        t.block.tenant n = { x with
          tokens := g.1, tokenGt := g.2, deferring := x.deferring ++ x.due.filter (fun k => !x.deferring.contains k)
          deferred := satAdd 32 x.deferred ((x.due.filter (fun k => !x.deferring.contains k)).length) }) := by
  subst hx hg
  refine ⟨_, interruptMessageSend_eq hs, ?_⟩
  dsimp only
  rw [Block.irqRaise_one hu h64 ho]
  have ht : (s.block.modTenant n (fun t => t.gained s.block.gt)).tenant n = (s.block.tenant n).gained s.block.gt :=
    Block.tenant_modTenant
  refine ⟨fun hg => ?_, fun hg => ?_⟩
  · rw [Tenant.gained_of_token hg] at ht
    rw [Block.sendNext_of_token (by rw [ht]; exact hg)]
    obtain ⟨hdue, htok, hgt, hdef⟩ := Tenant.spent_of_due (t := { s.block.tenant n with
      tokens := ((s.block.tenant n).gain s.block.gt).1, tokenGt := ((s.block.tenant n).gain s.block.gt).2 }) hd
    rw [← ht, ← Block.irqTurn_tenant] at hdue htok hgt hdef
    rw [Block.presentIrq_taken (b := (s.block.modTenant n (fun t => t.gained s.block.gt)).irqTurn n) hu hdue,
      Block.tenant_emit, Block.tenant_modTenant]
    rw [ht] at htok hgt
    refine ⟨?_, ?_, rfl, htok, hgt, hdef⟩
    · rw [Block.emit_out, Block.modTenant_out, Block.irqTurn_rest.1, Block.modTenant_out]
    · rw [Block.emit_power, Block.modTenant_power, Block.irqTurn_rest.2, Block.modTenant_power]
  · rw [Tenant.gained_of_few hg] at ht
    rw [Block.sendNext_of_few (by rw [ht]; exact hg), Block.irqTaken_of_none (b := s.block.modTenant n _) hu]
    exact ⟨rfl, rfl, ht⟩

end

/-! ### The watchdog (R331, R357) -/

section
variable {b : Block} {s : State} {c : BitVec 8}

/-- The restart is noted and the commands in progress complete with `HW_FAULT` (R331). -/
def Block.restarted (b : Block) (c : BitVec 8) : Block :=
  (b.modPower (fun p => { p with faultCause := c.toNat, restarts := satAdd 16 p.restarts 1 })).finishLongs
    (fun _ _ => some (stHwFault, []))

/-- The FAULT record of a restart (R357). -/
def Block.faultRec (b : Block) (c : BitVec 8) (n : Nat) : Rec :=
  b.mkRec 20 1 64 3 (leBytes 1 c.toNat ++ [0] ++ gtBytes b.gt ++ leBytes 1 b.alEpoch ++ leBytes 4 n)

theorem maltsterWatchdog_eq (hr : s.block.running = true) (h0 : c ≠ 0) (h3 : c.toNat ≤ 3) : exec (.maltsterWatchdog c) s =
    .next { s with block := ((s.block.restarted c).queueRec ((s.block.restarted c).faultRec c s.block.allLongs.length)).raise 64 12 } := by
  change execMaltsterWatchdog c s = _
  rw [execMaltsterWatchdog, State.run_eq, if_neg (by simpa [hr, Nat.not_lt.2 h3] using h0)]
  rfl

theorem maltsterWatchdog_restarts (hr : s.block.running = true) (h0 : c ≠ 0) (h3 : c.toNat ≤ 3)
    (hx : (s.block.tenant 64).resetting = false) :
    ∃ t r, exec (.maltsterWatchdog c) s = .next t ∧ t.block.power.faultCause = c.toNat ∧
      t.block.power.restarts = satAdd 16 s.block.power.restarts 1 ∧ bit (t.block.tenant 64).intStatus 12 = true ∧
      t.block.recs = s.block.recs ++ [r] ∧ r.source = 20 ∧ r.rtype = 1 ∧ r.owner = 64 ∧
      (∀ n l, s.block.waitsFor n l → s.block.finished t.block n l stHwFault [] ∧
        t.block.power.hwFaults = satAdd 32 s.block.power.hwFaults 1) := by
  refine ⟨_, (s.block.restarted c).faultRec c s.block.allLongs.length, maltsterWatchdog_eq hr h0 h3, ?_⟩
  have hp : (s.block.restarted c).power.plain =
      ({ s.block.power with faultCause := c.toNat, restarts := satAdd 16 s.block.power.restarts 1 } : Power).plain :=
    Block.finishLongs_plain
  have hplain : ((s.block.restarted c).tenant 64).plain = (s.block.tenant 64).plain :=
    (Block.finishLongs_pumped (b := s.block.modPower _)).tenant 64
  have hrec : (s.block.restarted c).recs = s.block.recs :=
    (Block.recs_of_seen (Block.finishLongs_seen (M := [.ports, .tenants, .power, .out]) (by decide)) (by decide)).trans rfl
  refine ⟨(congrArg Power.faultCause hp :), (congrArg Power.restarts hp :), Block.raise_bit ?_ rfl (by decide),
    congrArg (· ++ [_]) hrec, rfl, rfl, rfl, fun n l hw => ?_⟩
  · exact (congrArg Tenant.resetting (Tenant.eq_of_plain hplain).1).trans hx
  · exact ⟨Block.finishLongs_port (b := s.block.modPower _) hw rfl (.inr rfl),
      Block.finishLongs_hwFaults (b := s.block.modPower _) hw rfl⟩

end
/-! ### What packing and scrubs leave of an epoch advance -/

/-- What an epoch advance sets of a function. -/
structure Stance where
  epoch : Nat
  oldEpoch : Nat
  step2Due : Bool
  mode : Nat
  fmt2 : Bool
  pageSeq : Nat
  epochFirst : Bool

def Tenant.stance (t : Tenant) : Stance where
  epoch := t.epoch
  oldEpoch := t.oldEpoch
  step2Due := t.step2Due
  mode := t.mode
  fmt2 := t.fmt2
  pageSeq := t.pageSeq
  epochFirst := t.epochFirst

/-- From `b` to `c` stand what an epoch advance set: epochs and formats, counters, contexts; no page is listed anew. -/
structure Block.Stands (b c : Block) : Prop where
  stance : ∀ n, (c.tenant n).stance = (b.tenant n).stance
  cnt : ∀ k, (c.tap k).cnt = (b.tap k).cnt
  ctxs : c.ctxs = b.ctxs
  pages : ∀ k, k ∈ tkeys c.cask.pages → k ∈ tkeys b.cask.pages

section
variable {b c d : Block} {n m st o lvl v : Nat}

theorem Block.Stands.refl (b : Block) : b.Stands b := ⟨fun _ => rfl, fun _ => rfl, rfl, fun _ => id⟩

theorem Block.Stands.trans (h : b.Stands c) (h' : c.Stands d) : b.Stands d :=
  ⟨fun n => (h'.stance n).trans (h.stance n), fun k => (h'.cnt k).trans (h.cnt k), h'.ctxs.trans h.ctxs,
    fun k hk => h.pages k (h'.pages k hk)⟩

theorem Tenant.stance_of_plain {t u : Tenant} (h : t.plain = u.plain) : t.stance = u.stance :=
  (congrArg Tenant.stance (Tenant.eq_of_plain h).1).trans rfl

theorem Block.Pumped.stands (h : b.Pumped c) : b.Stands c :=
  ⟨fun n => Tenant.stance_of_plain (h.tenant n), fun k => by rw [Block.tap, h.taps]; rfl, h.ctxs, h.pages⟩

theorem Block.stands_of_seen {M : List Area} (h : c.seen M = b.seen M) (hM : Area.tenants ∉ M ∧ Area.taps ∉ M ∧
    Area.ctxs ∉ M ∧ Area.cask ∉ M) : b.Stands c := by
  obtain ⟨hn, ht, hc, hk⟩ := hM
  refine ⟨fun n => ?_, fun k => ?_, Block.ctxs_of_seen h hc, fun k => ?_⟩
  · rw [Block.tenant, Block.tenants_of_seen h hn]
    rfl
  · rw [Block.tap, Block.taps_of_seen h ht]
    rfl
  · rw [Block.cask_of_seen h hk]
    exact id

theorem Block.stands_ite {q : Prop} [Decidable q] (hc : b.Stands c) (hd : b.Stands d) : b.Stands (if q then c else d) := by
  split
  · exact hc
  · exact hd

theorem Block.each_stands {α : Type} {l : List α} {f : Block → α → Block} (h : ∀ b x, Block.Stands b (f b x)) :
    b.Stands (b.each l f) := by
  induction l generalizing b with
  | nil => exact .refl b
  | cons x l ih => exact (h b x).trans ih

theorem Block.modTenant_stands {f : Tenant → Tenant} (h : ∀ t, (f t).stance = t.stance) : b.Stands (b.modTenant n f) := by
  refine ⟨fun m => ?_, fun _ => rfl, rfl, fun _ => id⟩
  rw [Block.tenant_modTenant_ite]
  split
  · exact h _
  · rfl

theorem Block.modStation_stands {f : Station → Station} : b.Stands (b.modStation n f) :=
  ⟨fun _ => rfl, fun _ => rfl, rfl, fun _ => id⟩

theorem Block.modSparge_stands {f : Sparge → Sparge} : b.Stands (b.modSparge f) :=
  ⟨fun _ => rfl, fun _ => rfl, rfl, fun _ => id⟩

theorem Block.raise_stands : b.Stands (b.raise n v) := Block.raise_pumped.stands

theorem Block.needFull_stands {l : List Nat} : b.Stands (b.needFull st l) := by
  have h := Block.needFull_seen (b := b) (x1 := st) (x2 := l) (M := [.taps, .views]) (by decide)
  refine ⟨fun n => ?_, fun k => ?_, Block.ctxs_of_seen h (by decide), fun k => ?_⟩
  · rw [Block.tenant, Block.tenants_of_seen h (by decide)]
    rfl
  · exact (congrArg Tap.cnt (Block.settled_of_steady (Block.needFull_steady (b := b) (st := st) (l := l)) k) :)
  · rw [Block.cask_of_seen h (by decide)]
    exact id

theorem Block.enqueue_stands {u : WUnit} : b.Stands (b.enqueue st u).2 := by
  unfold Block.enqueue
  dsimp only
  generalize (if u.marker then 256 else 248) = room
  split
  · exact .trans Block.modStation_stands Block.modStation_stands
  · exact .trans (.trans (.trans Block.modStation_stands Block.modStation_stands) Block.loss_pumped.stands) Block.needFull_stands

theorem Block.closeRaw_stands {w : OpenUnit} {marker : Bool} : b.Stands (b.closeRaw st w marker).2 := by
  unfold Block.closeRaw
  exact .trans Block.modStation_stands Block.enqueue_stands

theorem Block.closeOwnerRaw_stands : b.Stands (b.closeOwnerRaw st o) := Block.each_stands fun _ _ => Block.closeRaw_stands

/-- Changes of pages that are listed list none anew. -/
theorem Block.modPages_stands {l : List Nat} {f : Block → Nat → Page → Page} (hl : ∀ p ∈ l, p ∈ tkeys b.cask.pages)
    (h : b.Stands c) : b.Stands (c.each l (fun c p => c.modPage p (f c p))) := by
  induction l generalizing c with
  | nil => exact h
  | cons p l ih =>
    refine ih (fun q hq => hl q (List.mem_cons_of_mem _ hq)) ⟨h.stance, h.cnt, h.ctxs, fun k hk => ?_⟩
    rcases mem_tkeys_tmod hk with rfl | hk
    · exact hl _ List.mem_cons_self
    · exact h.pages k hk

theorem Block.mem_pagesOf_listed {f : Page → Bool} {p : Nat} (h : p ∈ (b.pagesOf o f).map Prod.fst) :
    p ∈ tkeys b.cask.pages := by
  obtain ⟨e, he, rfl⟩ := List.mem_map.1 h
  exact List.mem_map_of_mem (List.mem_filter.1 he).1

theorem Block.closeOpen_stands : b.Stands (b.closeOpen o) :=
  Block.modPages_stands (f := fun b _ g => { g with st := if (b.tenant g.owner).caskHold then .held else .full })
    (fun _ h => Block.mem_pagesOf_listed h) (.refl b)

theorem Block.holdBegin_stands : b.Stands (b.holdBegin o) := by
  unfold Block.holdBegin
  dsimp only
  have ht : (b.closeOpen o).Stands ((b.closeOpen o).modTenant o (fun t => { t with caskHold := true })) :=
    Block.modTenant_stands fun _ => rfl
  refine .trans (.trans Block.closeOpen_stands ht) ?_
  exact Block.modPages_stands (f := fun _ _ g => { g with st := .held }) (fun _ h => Block.mem_pagesOf_listed h) (.refl _)

theorem Block.seqLeft_stands : b.Stands (b.seqLeft o) := by
  unfold Block.seqLeft
  dsimp only
  refine Block.stands_ite (.refl b) (Block.stands_ite (.trans ?_ Block.holdBegin_stands) ?_)
  · exact Block.modTenant_stands fun _ => rfl
  · exact Block.modTenant_stands fun _ => rfl

theorem Block.enterHold_stands : b.Stands (b.enterHold st) := by
  unfold Block.enterHold
  exact .trans (.trans (.trans Block.modStation_stands Block.closeOwnerRaw_stands) Block.raise_stands) Block.seqLeft_stands

theorem Block.closeUnit_stands {w : OpenUnit} {marker : Bool} : b.Stands (b.closeUnit st w marker) := by
  unfold Block.closeUnit
  have h := Block.closeRaw_stands (b := b) (st := st) (w := w) (marker := marker)
  exact Block.stands_ite (Block.stands_ite (h.trans Block.enterHold_stands) (h.trans Block.modStation_stands)) h

theorem Block.roomFor_stands : b.Stands (b.roomFor st) := by
  unfold Block.roomFor
  split
  · exact Block.stands_ite Block.closeUnit_stands (.refl b)
  · exact .refl b

theorem Block.writeOpen_stands {w : OpenUnit} {bytes : List Byte} {aTap : Option Nat} {marker : Bool} :
    b.Stands (b.writeOpen st w bytes aTap marker) := by
  unfold Block.writeOpen
  exact Block.stands_ite (.trans Block.modStation_stands Block.closeUnit_stands) Block.modStation_stands

theorem Block.place_stands {bytes : List Byte} {aTap : Option Nat} {marker : Bool} :
    b.Stands (b.place st o lvl bytes aTap marker) := by
  unfold Block.place
  split
  · exact Block.stands_ite Block.writeOpen_stands
      (.trans (.trans Block.closeUnit_stands Block.roomFor_stands) Block.writeOpen_stands)
  · exact .trans Block.roomFor_stands Block.writeOpen_stands

theorem Block.alignTo_stands : b.Stands (b.alignTo st o) := by
  unfold Block.alignTo
  exact Block.stands_ite (.refl b) (Block.stands_ite Block.modStation_stands
    (.trans Block.modStation_stands Block.place_stands))

theorem Block.markerTo_stands {bytes : List Byte} : b.Stands (b.markerTo st o bytes) :=
  .trans Block.alignTo_stands Block.place_stands

theorem Block.sendAll_stands {l : List Nat} {f : Frame} : b.Stands (b.sendAll l f) :=
  Block.stands_of_seen (Block.sendAll_seen (M := [.hop]) (by decide)) (by decide)

theorem Block.scrubMark_stands {h : Scrub} {ended : Bool} {status : Nat} : b.Stands (b.scrubMark h ended status) := by
  unfold Block.scrubMark
  extract_lets pk put marked noted
  have hput : ∀ (b : Block) (o : Nat), b.Stands (put b o) := fun b _ => Block.stands_ite (.refl b) Block.markerTo_stands
  have hmarked : b.Stands marked := (hput b 64).trans (hput _ h.tenant)
  exact (hmarked.trans Block.modSparge_stands).trans Block.sendAll_stands

theorem Block.freeChans_stands {l : List Nat} : b.Stands (b.freeChans n l) :=
  Block.stands_of_seen (Block.freeChans_seen (M := [.sparge]) (by decide)) (by decide)

theorem Block.endScrub_stands {h : Scrub} {status : Nat} : b.Stands (b.endScrub h status) := by
  unfold Block.endScrub
  extract_lets ended marked noted freed
  have hmarked : b.Stands marked := .trans Block.modSparge_stands Block.scrubMark_stands
  have hnoted : b.Stands noted := hmarked.trans (Block.modTenant_stands fun _ => rfl)
  have hfreed : b.Stands freed := hnoted.trans (Block.freeChans_stands (n := h.tenant))
  exact (hfreed.trans Block.raise_stands).trans Block.pumpAll_pumped.stands

theorem Block.queueScrub_stands {oldE newE : Nat} : b.Stands (b.queueScrub n oldE newE) := by
  unfold Block.queueScrub
  extract_lets cleared cs wins queued
  have hcleared : b.Stands cleared := by
    unfold cleared
    split
    · exact .refl b
    · dsimp only
      refine Block.stands_ite (.trans (.trans (Block.each_stands fun _ _ => Block.freeChans_stands) Block.modSparge_stands)
        Block.endScrub_stands) (.trans (Block.each_stands fun _ _ => Block.freeChans_stands) Block.modSparge_stands)
  have hqueued : b.Stands queued := hcleared.trans (Block.stands_ite (.refl _) Block.modSparge_stands)
  refine hqueued.trans ?_
  exact Block.modTenant_stands fun _ => rfl

end
end Sys2Proof.Machine


namespace Sys2Proof.Machine

/-! ### An epoch advance (R172, R174, R296, R377) -/

/-- The page is a live one of owner `n` that does not drain. -/
def Page.lives (n : Nat) (g : Page) : Prop := g.owner = n ∧ (g.st = .openP ∨ g.st = .full ∨ g.st = .held)

/-- From `b` to `c` open units and pages close: the live pages of `n` stay live, counters and contexts stay. -/
structure Block.Closes (n : Nat) (b c : Block) : Prop where
  pages : ∀ k, (b.page k).lives n → (c.page k).lives n
  cnt : ∀ k, (c.tap k).cnt = (b.tap k).cnt
  ctxs : c.ctxs = b.ctxs

section
variable {b c d : Block} {n m st o k : Nat}

theorem Block.Closes.refl (b : Block) : Block.Closes n b b := ⟨fun _ => id, fun _ => rfl, rfl⟩

theorem Block.Closes.trans (h : Block.Closes n b c) (h' : Block.Closes n c d) : Block.Closes n b d :=
  ⟨fun k hk => h'.pages k (h.pages k hk), fun k => (h'.cnt k).trans (h.cnt k), h'.ctxs.trans h.ctxs⟩

theorem Block.closes_ite {q : Prop} [Decidable q] (hc : Block.Closes n b c) (hd : Block.Closes n b d) :
    Block.Closes n b (if q then c else d) := by
  split
  · exact hc
  · exact hd

theorem Block.each_closes {α : Type} {l : List α} {f : Block → α → Block} (h : ∀ b x, Block.Closes n b (f b x)) :
    Block.Closes n b (b.each l f) := by
  induction l generalizing b with
  | nil => exact .refl b
  | cons x l ih => exact (h b x).trans ih

theorem Block.modTenant_closes {f : Tenant → Tenant} : Block.Closes n b (b.modTenant m f) :=
  ⟨fun _ => id, fun _ => rfl, rfl⟩

theorem Block.modStation_closes {f : Station → Station} : Block.Closes n b (b.modStation m f) :=
  ⟨fun _ => id, fun _ => rfl, rfl⟩

theorem Block.modPage_closes {f : Page → Page} (h : ∀ g, Page.lives n g → Page.lives n (f g)) :
    Block.Closes n b (b.modPage m f) := by
  refine ⟨fun k hk => ?_, fun _ => rfl, rfl⟩
  rw [Block.page_modPage_ite]
  split
  · exact h _ hk
  · exact hk

theorem Block.closePage_closes : Block.Closes n b (b.closePage m) :=
  Block.modPage_closes fun g hg => ⟨hg.1, by
    dsimp only
    split
    · exact .inr (.inr rfl)
    · exact .inr (.inl rfl)⟩

theorem Block.closeOpen_closes : Block.Closes n b (b.closeOpen o) := Block.each_closes fun _ _ => Block.closePage_closes

theorem Block.holdBegin_closes : Block.Closes n b (b.holdBegin o) := by
  unfold Block.holdBegin
  exact .trans (.trans Block.closeOpen_closes Block.modTenant_closes)
    (Block.each_closes fun _ _ => Block.modPage_closes fun _ hg => ⟨hg.1, .inr (.inr rfl)⟩)

theorem Page.lives_unhold {g : Page} (h : g.lives n) : g.unhold.lives n := by
  unfold Page.unhold
  split
  · exact ⟨h.1, .inr (.inl rfl)⟩
  · split
    · exact h
    · exact h

theorem Block.holdEnd_closes : Block.Closes n b (b.holdEnd o) := by
  unfold Block.holdEnd
  exact .trans Block.modTenant_closes (Block.each_closes fun _ _ => Block.modPage_closes fun _ => Page.lives_unhold)

theorem Block.seqLeft_closes : Block.Closes n b (b.seqLeft o) := by
  unfold Block.seqLeft
  exact Block.closes_ite (.refl b) (Block.closes_ite (.trans Block.modTenant_closes Block.holdBegin_closes)
    Block.modTenant_closes)

theorem Block.seqOff_closes : Block.Closes n b (b.seqOff st) := by
  unfold Block.seqOff
  exact Block.closes_ite (.trans Block.modStation_closes Block.seqLeft_closes) Block.modStation_closes

theorem Block.closeOwnerRaw_closes : Block.Closes n b (b.closeOwnerRaw st o) := by
  have h := Block.closeOwnerRaw_stands (b := b) (st := st) (o := o)
  have hp : (b.closeOwnerRaw st o).cask = b.cask := Block.cask_of_seen
    (Block.closeOwnerRaw_seen (M := [.taps, .views, .stations, .tenants, .power]) (by decide)) (by decide)
  exact ⟨fun k hk => by rwa [Block.page, hp], h.cnt, h.ctxs⟩

theorem Block.epochStation_closes : Block.Closes n b (b.epochStation n st) := by
  unfold Block.epochStation
  exact .trans (.trans (Block.closes_ite Block.seqOff_closes (.refl b)) Block.closeOwnerRaw_closes) Block.modStation_closes

theorem Block.setMode_closes : Block.Closes n b (b.setMode o m) := by
  unfold Block.setMode
  exact Block.closes_ite (.refl b) (.trans (Block.closes_ite (.trans Block.closeOpen_closes Block.holdEnd_closes)
    Block.closeOpen_closes) Block.modTenant_closes)

/-- The owner's units and pages are closed, and its mode is 0. -/
def Block.epochClosed (b : Block) (n : Nat) : Block := (b.each allStations (fun b st => b.epochStation n st)).setMode n 0

/-- The tenant under its new epoch. -/
def Tenant.advanced (t : Tenant) (old : Nat) : Tenant :=
  { t with
    epoch := (old + 1) % 256, oldEpoch := old, step2Due := false, mode := 0, flushUs := 100, fmt2 := false
    verFirst := t.verFirst || t.fmt2
    viewSel := [], viewVal := [], viewRefused := 0, viewLost := 0, viewAny := 0, refreshSeq := 0
    cfgChanged := false }

/-- The contexts of the tenant keep their owner alone. -/
def ctxReset (n : Nat) (w : Word) : Word := if bit w 31 && fld w 25 6 == n then w &&& 0xFF000000#32 else w

/-- What the tenant has in the engines is cleared (R172, R213, R246, R272, R296). -/
def Block.epochCleared (b : Block) (n : Nat) : Block :=
  let c := ((((b.epochCask n).epochMash n).epochAssay n).epochSync n).epochCounters n
  { c with ctxs := tmap 0 c.ctxs (fun _ w => ctxReset n w) }

/-- The block after step 2 of a reset, before its scrub is queued. -/
def Block.epochMade (b : Block) (n : Nat) : Block :=
  ((b.epochClosed n).modTenant n (fun t => t.advanced (b.epochOf n))).epochCleared n

theorem Block.epochStep_eq : ∃ f, b.epochStep n =
    (((b.epochMade n).queueScrub n (b.epochOf n) ((b.epochOf n + 1) % 256)).mapLongs f).settleDrains.pumpAll := ⟨_, rfl⟩

theorem Block.epochStep_stands : (b.epochMade n).Stands (b.epochStep n) := by
  obtain ⟨f, hf⟩ := Block.epochStep_eq (b := b) (n := n)
  rw [hf]
  exact Block.queueScrub_stands.trans
    ((Block.mapLongs_pumped.trans Block.settleDrains_pumped).trans Block.pumpAll_pumped).stands

theorem Block.epochClosed_closes : Block.Closes n b (b.epochClosed n) :=
  .trans (Block.each_closes fun _ _ => Block.epochStation_closes) Block.setMode_closes

theorem Block.epochCounters_rest : (b.epochCounters n).tenants = b.tenants ∧ (b.epochCounters n).cask = b.cask := ⟨rfl, rfl⟩

/-- The part of a clearing that reaches neither functions nor the cask: engines, counters, contexts. -/
theorem Block.epochCleared_rest : (b.epochCleared n).tenants = (b.epochCask n).tenants ∧
    (b.epochCleared n).cask = (b.epochCask n).cask := by
  have hm := Block.epochMash_seen (b := b.epochCask n) (x1 := n) (M := [.mash, .maps]) (by decide)
  have ha := Block.epochAssay_seen (b := (b.epochCask n).epochMash n) (x1 := n) (M := [.assay, .profiles]) (by decide)
  have hs := Block.epochSync_seen (b := ((b.epochCask n).epochMash n).epochAssay n) (x1 := n) (M := [.sync, .free]) (by decide)
  unfold Block.epochCleared
  dsimp only
  rw [Block.epochCounters_rest.1, Block.epochCounters_rest.2, Block.tenants_of_seen hs (by decide),
    Block.tenants_of_seen ha (by decide), Block.tenants_of_seen hm (by decide), Block.cask_of_seen hs (by decide),
    Block.cask_of_seen ha (by decide), Block.cask_of_seen hm (by decide)]
  exact ⟨rfl, rfl⟩

/-- The engines' clearing reaches neither the taps nor the contexts. -/
theorem Block.epochEngines_rest : ((((b.epochCask n).epochMash n).epochAssay n).epochSync n).taps = b.taps ∧
    ((((b.epochCask n).epochMash n).epochAssay n).epochSync n).ctxs = b.ctxs := by
  have hc := Block.epochCask_seen (b := b) (x1 := n) (M := [.cask, .tenants]) (by decide)
  have hm := Block.epochMash_seen (b := b.epochCask n) (x1 := n) (M := [.mash, .maps]) (by decide)
  have ha := Block.epochAssay_seen (b := (b.epochCask n).epochMash n) (x1 := n) (M := [.assay, .profiles]) (by decide)
  have hs := Block.epochSync_seen (b := ((b.epochCask n).epochMash n).epochAssay n) (x1 := n) (M := [.sync, .free]) (by decide)
  constructor
  · rw [Block.taps_of_seen hs (by decide), Block.taps_of_seen ha (by decide), Block.taps_of_seen hm (by decide),
      Block.taps_of_seen hc (by decide)]
  · rw [Block.ctxs_of_seen hs (by decide), Block.ctxs_of_seen ha (by decide), Block.ctxs_of_seen hm (by decide),
      Block.ctxs_of_seen hc (by decide)]

theorem Block.epochCleared_ctxs : (b.epochCleared n).ctxs = tmap 0 b.ctxs (fun _ w => ctxReset n w) :=
  congrArg (tmap 0 · (fun _ w => ctxReset n w)) Block.epochEngines_rest.2

/-- A counter of tenant `n` after an epoch advance (R296): its owner's fields and its value are reset. -/
def Counter.epochReset (n : Nat) (c : Counter) : Counter :=
  if c.owner = n then { w0 := (descOwnerReset c.w0 c.w1).1, w1 := (descOwnerReset c.w0 c.w1).2, lastC := c.lastC } else c

theorem Counter.epochReset_default (h : n ≠ 64) : Counter.epochReset n {} = {} := if_neg fun h' => h h'.symm

theorem Block.epochCounters_cnt : ((b.epochCounters n).tap k).cnt = tmap {} (b.tap k).cnt (fun _ c => c.epochReset n) := by
  unfold Block.epochCounters
  dsimp only
  rw [Block.tap, tget_tmap rfl]
  rfl

theorem Block.epochCleared_value {j : Nat} (hn : n ≠ 64) (h : (tget {} (b.tap k).cnt j).owner = n) :
    (tget {} ((b.epochCleared n).tap k).cnt j).value = 0 := by
  have ht : ((((b.epochCask n).epochMash n).epochAssay n).epochSync n).tap k = b.tap k := by
    rw [Block.tap, Block.epochEngines_rest.1]
    rfl
  change (tget {} (Block.tap (Block.epochCounters _ n) k).cnt j).value = 0
  rw [Block.epochCounters_cnt, ht, tget_tmap (f := fun _ c => Counter.epochReset n c) (Counter.epochReset_default hn), Counter.epochReset, if_pos h]

theorem not_mem_tkeys_tmap {α : Type} [DecidableEq α] {d : α} {t : Tbl α} {f : Nat → α → α} (h : f k (tget d t k) = d) :
    k ∉ tkeys (tmap d t f) := by
  induction t with
  | nil => exact List.not_mem_nil
  | cons e t ih =>
    obtain ⟨j, v⟩ := e
    rw [tget] at h
    rw [tmap]
    by_cases hk : k = j
    · subst hk
      rw [if_pos rfl] at h
      rw [if_pos h]
      intro hm
      obtain ⟨e, he, rfl⟩ := List.mem_map.1 hm
      simpa [tdel] using (List.mem_filter.1 he).2
    · rw [if_neg hk] at h
      split
      · intro hm
        obtain ⟨e, he, rfl⟩ := List.mem_map.1 hm
        exact ih h (List.mem_map_of_mem (List.mem_filter.1 he).1)
      · intro hm
        rcases List.mem_cons.1 hm with hm | hm
        · exact hk hm
        · exact ih h hm

theorem tget_of_not_mem_tkeys {α : Type} {d : α} {t : Tbl α} (h : k ∉ tkeys t) : tget d t k = d := by
  by_contra hne
  exact h (List.mem_map_of_mem (mem_of_tget_ne hne))

theorem Block.epochCask_unlisted (h : (b.page k).lives n) : k ∉ tkeys (b.epochCask n).cask.pages := by
  refine not_mem_tkeys_tmap (t := b.cask.pages) (d := {}) ?_
  refine if_pos ?_
  obtain ⟨ho, hs⟩ := h
  rw [Block.page] at ho hs
  rcases hs with hs | hs | hs <;> simp [ho, hs]

theorem Block.epochCask_tenant : ((b.epochCask n).tenant n).stance =
    { (b.tenant n).stance with pageSeq := 0, epochFirst := true } := by
  unfold Block.epochCask
  rw [Block.tenant_modTenant]
  rfl

/-- The tenant under its new epoch, with what it had closed. -/
def Block.epochAdvanced (b : Block) (n : Nat) : Block := (b.epochClosed n).modTenant n (fun t => t.advanced (b.epochOf n))

theorem Block.epochMade_eq : b.epochMade n = (b.epochAdvanced n).epochCleared n := rfl

theorem Block.epochAdvanced_closes : Block.Closes n b (b.epochAdvanced n) :=
  .trans Block.epochClosed_closes Block.modTenant_closes

theorem Block.epochAdvanced_tenant : ((b.epochAdvanced n).tenant n).stance =
    (((b.epochClosed n).tenant n).advanced (b.epochOf n)).stance := congrArg Tenant.stance Block.tenant_modTenant

theorem Tenant.advanced_stance {t : Tenant} {e : Nat} : { (t.advanced e).stance with pageSeq := 0, epochFirst := true } =
    ({ epoch := (e + 1) % 256, oldEpoch := e, step2Due := false, mode := 0, fmt2 := false, pageSeq := 0
       epochFirst := true } : Stance) := rfl

theorem Block.epochMade_stance : ((b.epochMade n).tenant n).stance =
    { epoch := (b.epochOf n + 1) % 256, oldEpoch := b.epochOf n, step2Due := false, mode := 0, fmt2 := false, pageSeq := 0
      epochFirst := true } := by
  rw [Block.epochMade_eq, Block.tenant, Block.epochCleared_rest.1, ← Block.tenant, Block.epochCask_tenant,
    Block.epochAdvanced_tenant, Tenant.advanced_stance]

theorem Block.epochMade_unlisted (h : (b.page k).lives n) : k ∉ tkeys (b.epochMade n).cask.pages := by
  rw [Block.epochMade_eq, Block.epochCleared_rest.2]
  exact Block.epochCask_unlisted (Block.epochAdvanced_closes.pages k h)

theorem Block.epochMade_ctxs {c : Nat} : tget 0 (b.epochMade n).ctxs c = ctxReset n (b.ctxEntry c) := by
  rw [Block.epochMade_eq, Block.epochCleared_ctxs, tget_tmap (f := fun _ w => ctxReset n w) rfl,
    Block.epochAdvanced_closes.ctxs]
  rfl

theorem Block.epochMade_value {j : Nat} (hn : n ≠ 64) (h : (tget {} (b.tap k).cnt j).owner = n) :
    (tget {} ((b.epochMade n).tap k).cnt j).value = 0 := by
  rw [Block.epochMade_eq]
  exact Block.epochCleared_value hn (by rw [Block.epochAdvanced_closes.cnt]; exact h)

theorem Tenant.of_stance {t : Tenant} {x : Stance} (h : t.stance = x) : t.epoch = x.epoch ∧ t.oldEpoch = x.oldEpoch ∧
    t.step2Due = x.step2Due ∧ t.mode = x.mode ∧ t.fmt2 = x.fmt2 ∧ t.pageSeq = x.pageSeq ∧ t.epochFirst = x.epochFirst := by
  subst h
  exact ⟨rfl, rfl, rfl, rfl, rfl, rfl, rfl⟩

end

section
variable {s : State} {fn : Fin 64}

theorem resetEpoch_eq (hr : s.block.running = true) (hx : (s.block.tenant fn).resetting = true)
    (hd : (s.block.tenant fn).step2Due = true) (hf : s.block.epochFree fn = true) :
    exec (.resetEpoch fn) s = .next { s with block := s.block.epochStep fn } := by
  change execResetEpoch fn s = _
  rw [execResetEpoch, State.run_eq]
  dsimp only
  rw [if_pos (by simp [hr, hx, hd, hf])]

theorem resetEpoch_advances {x : Tenant} (hx : x = s.block.tenant fn) (hr : s.block.running = true)
    (hres : x.resetting = true) (hd : x.step2Due = true) (hf : s.block.epochFree fn = true) :
    ∃ t, exec (.resetEpoch fn) s = .next t ∧ (t.block.tenant fn).epoch = (x.epoch + 1) % 256 ∧
      (t.block.tenant fn).oldEpoch = x.epoch ∧ (t.block.tenant fn).step2Due = false ∧ (t.block.tenant fn).mode = 0 ∧
      (t.block.tenant fn).fmt2 = false ∧ (t.block.tenant fn).pageSeq = 0 ∧ (t.block.tenant fn).epochFirst = true ∧
      (∀ k, (s.block.page k).owner = fn → (s.block.page k).st = .openP ∨ (s.block.page k).st = .full ∨
        (s.block.page k).st = .held → t.block.page k = {}) ∧
      (∀ c, tget 0 t.block.ctxs c = if ctxValid (s.block.ctxEntry c) ∧ ctxTenantOf (s.block.ctxEntry c) = fn then
        s.block.ctxEntry c &&& 0xFF000000#32 else s.block.ctxEntry c) ∧
      (∀ k j, (tget {} (s.block.tap k).cnt j).owner = fn → (tget {} (t.block.tap k).cnt j).value = 0) := by
  subst hx
  refine ⟨_, resetEpoch_eq hr hres hd hf, ?_⟩
  have h := Block.epochStep_stands (b := s.block) (n := fn)
  obtain ⟨h1, h2, h3, h4, h5, h6, h7⟩ := Tenant.of_stance ((h.stance fn).trans Block.epochMade_stance)
  dsimp only at h1 h2 h3 h4 h5 h6 h7 ⊢
  refine ⟨h1, h2, h3, h4, h5, h6, h7, fun k ho hs => ?_, fun c => ?_, fun k j ho => ?_⟩
  · exact tget_of_not_mem_tkeys fun hk => Block.epochMade_unlisted ⟨ho, hs⟩ (h.pages k hk)
  · rw [h.ctxs, Block.epochMade_ctxs, ctxReset]
    exact if_congr (by simp only [ctxValid, ctxTenantOf, Bool.and_eq_true, beq_iff_eq]) rfl rfl
  · rw [h.cnt]
    exact Block.epochMade_value (by omega) ho

end

/-- Settles O56: the steps of a function reset, by what channels, drains, packing and scrubs leave of functions, ports,
counters, contexts and pages; the interrupt messages and the watchdog by the branches of their definitions. -/
theorem resetsAndMessagesAct : Obligations.ResetsAndMessagesAct := by
  refine ⟨fun s n x hx => ?_, fun s => ?_⟩
  · subst hx
    exact ⟨fun hr hn => functionResetRequest_begins hr hn, fun hr hs hn => functionResetRequest_waits hr hs hn,
      fun hr hres hd hf => resetEpoch_advances rfl hr hres hd hf, fun hr hres hd => resetReady_ends hr hres hd,
      fun f => functionResetRelease_falls⟩
  · exact ⟨fun x hs hu => interruptMessageSend_accepts hs hu, fun v rest hs hu hd => interruptMessageSend_operator hs hu hd,
      fun n x v rest g hs hu h64 ho hx hd hg => interruptMessageSend_tenant hs hu h64 ho hx hd hg,
      fun c hr h0 h3 hx => maltsterWatchdog_restarts hr h0 h3 hx⟩

end Sys2Proof.Machine

namespace Sys2Proof.Machine

/-! ## What cutting and resolving leave of the loops (R187, R188, R192, R199, R207) -/

/-- A window without the marks that striped waits and resolutions leave in it (R187, R207). -/
def Window.still (w : Window) : Window := { w with haloMore := false, cycle := false, cuts := 0 }

/-- A loop slot whose window is without those marks. -/
def LoopSlot.still (x : LoopSlot) : LoopSlot := { x with win := x.win.map Window.still }

/-- What cutting and resolving leave alone: the slots but for those marks, the closed windows, the tokens and the select bits. -/
structure LoopPart where
  slots : Nat → LoopSlot
  scans : List Scan
  tokens : Nat
  tokenGt : Gt
  sel : Tbl Nat

def Block.loopPart (b : Block) : LoopPart where
  slots n := (b.slot n).still
  scans := b.mash.scans
  tokens := b.mash.tokens
  tokenGt := b.mash.tokenGt
  sel := b.mash.sel

/-- What every step keeps of the block beside a list being made, the whole list of steps keeps. -/
theorem Block.foldl_snd_keeps {α β γ : Type} {l : List α} {f : β × Block → α → β × Block} {p : Block → γ} {x : β × Block}
    (h : ∀ x a, p (f x a).2 = p x.2) : p (l.foldl f x).2 = p x.2 := by
  induction l generalizing x with
  | nil => rfl
  | cons a l ih => rw [List.foldl_cons, ih, h]

section
variable {b : Block} {n k t row stripe : Nat} {g e : Gt} {steps : List (Gt × Step)} {s : Seg}

theorem Block.modSlot_loopPart {f : LoopSlot → LoopSlot} (h : ∀ x, (f x).still = x.still) :
    (b.modSlot n f).loopPart = b.loopPart := by
  have hs : (fun m => ((b.modSlot n f).slot m).still) = fun m => (b.slot m).still := by
    funext m
    rw [Block.slot_modSlot_ite]
    split
    · exact h _
    · rfl
  exact congrArg (fun x => { b.loopPart with slots := x }) hs

theorem queueSteps_loopPart {x : List (Gt × Step) × Block} : (queueSteps x).loopPart = x.2.loopPart := rfl

theorem Block.cutSeg_loopPart : (b.cutSeg steps t s g).2.loopPart = b.loopPart := by
  unfold Block.cutSeg
  dsimp only
  split <;> rfl

theorem Block.cutSegs_loopPart {which : Nat → Bool} : (b.cutSegs g which).loopPart = b.loopPart :=
  queueSteps_loopPart.trans (Block.foldl_snd_keeps fun _ _ => Block.cutSeg_loopPart)

theorem Block.addToHalo_loopPart {prod : Option Nat} {p : Nat × Nat} :
    (b.addToHalo row stripe prod p).loopPart = b.loopPart := by
  unfold Block.addToHalo
  split
  · rfl
  · refine Block.modSlot_loopPart fun x => ?_
    cases hx : x.win <;> simp [LoopSlot.still, Window.still, hx]

theorem Block.setHaloProducer_loopPart {prod : Option Nat} : (b.setHaloProducer row stripe prod).loopPart = b.loopPart := by
  cases prod <;> rfl

theorem Block.haloFlush_loopPart {prod : Option Nat} : (b.haloFlush t e prod).loopPart = b.loopPart := by
  unfold Block.haloFlush
  split
  · exact (Block.setHaloProducer_loopPart (prod := prod)).trans (Block.each_keeps fun _ _ => Block.addToHalo_loopPart)
  · rfl
  · rfl

theorem Block.haloCut_loopPart {which : Nat → Bool} : (b.haloCut e which).loopPart = b.loopPart :=
  Block.each_keeps fun _ _ => Block.haloFlush_loopPart

theorem Block.cutSlot_loopPart : (b.cutSlot n g).loopPart = b.loopPart :=
  Block.cutSegs_loopPart.trans Block.haloCut_loopPart

theorem Block.cutAll_loopPart : (b.cutAll g).loopPart = b.loopPart :=
  Block.cutSegs_loopPart.trans Block.haloCut_loopPart

theorem Block.noteCause_loopPart {c : Cause} : (b.noteCause t c).loopPart = b.loopPart := by
  unfold Block.noteCause
  split
  · rfl
  · split
    · rfl
    · refine Block.modSlot_loopPart fun x => ?_
      cases hx : x.win <;> simp [LoopSlot.still, Window.still, hx]

theorem Block.reseg_loopPart {c : Option Nat} : (b.reseg steps t g c).2.loopPart = b.loopPart := by
  unfold Block.reseg
  split
  · rfl
  · rfl
  · split
    · rfl
    · dsimp only
      split <;> rfl

theorem Block.resolveAll_loopPart : (b.resolveAll g).loopPart = b.loopPart := by
  refine queueSteps_loopPart.trans (Block.foldl_snd_keeps fun x t => Block.reseg_loopPart.trans ?_)
  split
  · exact Block.noteCause_loopPart
  · rfl

theorem LoopPart.slot_of_eq {c : Block} (h : c.loopPart = b.loopPart) (n : Nat) : (c.slot n).still = (b.slot n).still :=
  congrFun (congrArg LoopPart.slots h) n

end

/-- A slot that was cut while no window was open is as it was. -/
theorem LoopSlot.eq_of_still {x y : LoopSlot} (h : y.still = x.still) (hx : x.win = none) : y = x := by
  have hy : y.win = x.win := by
    have hw : y.win.map Window.still = x.win.map Window.still := congrArg LoopSlot.win h
    rw [hx, Option.map_none, Option.map_eq_none_iff] at hw
    rw [hw, hx]
  calc y = { y.still with win := y.win } := rfl
    _ = { x.still with win := x.win } := by rw [h, hy]

/-- The open window of a slot that was cut is as it was but for its marks. -/
theorem LoopSlot.open_of_still {x y : LoopSlot} {w : Window} (h : y.still = x.still) (hx : x.win = some w) :
    ∃ more cyc cuts, y = { x with win := some { w with haloMore := more, cycle := cyc, cuts := cuts } } := by
  have hw : y.win.map Window.still = x.win.map Window.still := congrArg LoopSlot.win h
  rw [hx, Option.map_some, Option.map_eq_some_iff] at hw
  obtain ⟨v, hv, hvw⟩ := hw
  refine ⟨v.haloMore, v.cycle, v.cuts, ?_⟩
  calc y = { y.still with win := some { v.still with haloMore := v.haloMore, cycle := v.cycle, cuts := v.cuts } } := by
        rw [show some { v.still with haloMore := v.haloMore, cycle := v.cycle, cuts := v.cuts } = y.win from hv.symm]
        rfl
    _ = _ := by rw [h, hvw]; rfl

end Sys2Proof.Machine

namespace Sys2Proof.Machine

/-! ### Opening, merging and closing windows (R195 to R197, R199, R203) -/

/-- The window that opens at `g` with iteration number `n`, with the ticks of late steps that came before it (R195, R201). -/
def LoopSlot.opened (x : LoopSlot) (g : Gt) (n late coarse : Nat) : Window where
  openGt := g
  firstGt := g
  iterFirst := n
  iterLast := n
  deadline := x.deadlineAt g
  late := late
  coarse := coarse
  coarseSeen := coarse != 0

section
variable {b : Block} {k n : Nat} {g : Gt} {w : Window}

/-- An update of the Mash array that leaves the slots alone. -/
theorem Block.slot_modMash {f : Mash → Mash} (h : (f b.mash).slots = b.mash.slots) : (b.modMash f).slot n = b.slot n :=
  congrArg (fun t => tget ({} : LoopSlot) t n) h

theorem Block.modSlot_scans {f : LoopSlot → LoopSlot} : (b.modSlot n f).mash.scans = b.mash.scans := rfl

theorem Block.modSlot_tokens {f : LoopSlot → LoopSlot} : (b.modSlot n f).mash.tokens = b.mash.tokens := rfl

/-- A slot after its taps were cut while no window was open. -/
theorem Block.cutSlot_slot_of_none (h : (b.slot k).win = none) : (b.cutSlot k g).slot k = b.slot k :=
  LoopSlot.eq_of_still (LoopPart.slot_of_eq Block.cutSlot_loopPart k) h

/-- A slot after its taps were cut with a window open. -/
theorem Block.cutSlot_slot_of_some (h : (b.slot k).win = some w) : ∃ more cyc cuts, (b.cutSlot k g).slot k =
    { b.slot k with win := some { w with haloMore := more, cycle := cyc, cuts := cuts } } :=
  LoopSlot.open_of_still (LoopPart.slot_of_eq Block.cutSlot_loopPart k) h

theorem Block.cutSlot_scans : (b.cutSlot k g).mash.scans = b.mash.scans := congrArg LoopPart.scans Block.cutSlot_loopPart

theorem Block.cutSlot_tokens : (b.cutSlot k g).mash.tokens = b.mash.tokens := congrArg LoopPart.tokens Block.cutSlot_loopPart

theorem Block.openWindow_slot (h : (b.slot k).win = none) : ∃ late coarse, (b.openWindow k g n).slot k =
    { b.slot k with deferred := none, overDue := false, win := some ((b.slot k).opened g n late coarse) } := by
  refine ⟨(tget (0, 0) (b.cutSlot k g).mash.lateWait k).1, (tget (0, 0) (b.cutSlot k g).mash.lateWait k).2, ?_⟩
  unfold Block.openWindow
  rw [Block.slot_modMash rfl, Block.slot_modSlot, Block.cutSlot_slot_of_none h]
  rfl

theorem Block.openWindow_scans : (b.openWindow k g n).mash.scans = b.mash.scans := by
  change (b.cutSlot k g).mash.scans = _
  exact Block.cutSlot_scans

theorem Block.openWindow_tokens : (b.openWindow k g n).mash.tokens = b.mash.tokens := by
  change (b.cutSlot k g).mash.tokens = _
  exact Block.cutSlot_tokens

/-- A window that goes on keeps where it began; its next iteration opens at `g` (R196). -/
theorem Block.mergeWindow_slot (h : (b.slot k).win = some w) : ∃ v,
    (b.mergeWindow k g n).slot k = { b.slot k with deferred := none, win := some v } ∧ v.openGt = g ∧ v.iterLast = n ∧
      v.firstGt = w.firstGt ∧ v.iterFirst = w.iterFirst ∧ v.merged = true := by
  obtain ⟨more, cyc, cuts, hc⟩ := Block.cutSlot_slot_of_some (g := g) h
  unfold Block.mergeWindow
  rw [Block.slot_modSlot, hc]
  exact ⟨_, rfl, rfl, rfl, rfl, rfl, rfl⟩

theorem Block.mergeWindow_scans : (b.mergeWindow k g n).mash.scans = b.mash.scans := by
  change (b.cutSlot k g).mash.scans = _
  exact Block.cutSlot_scans

theorem Block.mergeWindow_tokens : (b.mergeWindow k g n).mash.tokens = b.mash.tokens := by
  change (b.cutSlot k g).mash.tokens = _
  exact Block.cutSlot_tokens

/-- The end of an iteration: the window stays, with the iteration among its spans (R196, R203). -/
theorem LoopSlot.endIter_eq {x : LoopSlot} (h : x.win = some w) : ∃ v l, x.endIter g = { x with win := some v, dlPend := l } ∧
    v.firstGt = w.firstGt ∧ v.iterFirst = w.iterFirst ∧ v.iters = w.spans g := by
  unfold LoopSlot.endIter Window.spans
  cases hi : w.inIter
  · refine ⟨w, x.dlPend, ?_, rfl, rfl, by simp⟩
    rw [h]
    dsimp only
    rw [hi, ← h]
    rfl
  · simp only [h, hi, Bool.not_true, Bool.false_eq_true, if_false, if_true]
    exact ⟨_, _, rfl, rfl, rfl, rfl⟩

/-- The block with the iteration of a slot's window ended at `g` (R195, R203). -/
def Block.iterEnded (b : Block) (k : Nat) (g : Gt) (noEnd : Bool) : Block :=
  (b.cutSlot k g).modSlot k (fun s =>
    { s.endIter g with win := (s.endIter g).win.map (fun w => { w with noEnd := w.noEnd || noEnd }) })

theorem Block.iterEnded_slot {e : Bool} (h : (b.slot k).win = some w) : ∃ v l,
    (b.iterEnded k g e).slot k = { b.slot k with win := some v, dlPend := l } ∧
      v.firstGt = w.firstGt ∧ v.iterFirst = w.iterFirst ∧ v.iters = w.spans g := by
  obtain ⟨more, cyc, cuts, hc⟩ := Block.cutSlot_slot_of_some (g := g) h
  obtain ⟨v, l, hv, hf, hi, hs⟩ := LoopSlot.endIter_eq (g := g)
    (x := { b.slot k with win := some { w with haloMore := more, cycle := cyc, cuts := cuts } }) rfl
  refine ⟨{ v with noEnd := v.noEnd || e }, l, ?_, hf, hi, hs⟩
  unfold Block.iterEnded
  rw [Block.slot_modSlot, hc, hv]
  rfl

theorem Block.iterEnded_scans {e : Bool} : (b.iterEnded k g e).mash.scans = b.mash.scans :=
  by
  change (b.cutSlot k g).mash.scans = _
  exact Block.cutSlot_scans

theorem Block.iterEnded_tokens {e : Bool} : (b.iterEnded k g e).mash.tokens = b.mash.tokens :=
  by
  change (b.cutSlot k g).mash.tokens = _
  exact Block.cutSlot_tokens

/-- A close: the window leaves its slot for the last of the scans, and takes the token that came for the slot, or one of the
pool (R196, R199, R200, R368). -/
structure Block.ClosesWindow (b c : Block) (k : Nat) (w : Window) (g : Gt) (overlong : Bool) (cond : Nat × Nat × Bool) : Prop where
  slot : c.slot k = { b.slot k with
    win := none, deferred := none, overDue := false, past := w.iters :: (b.slot k).past, waitGt := none, token := false }
  tokens : c.mash.tokens = if (b.slot k).token then b.mash.tokens else b.mash.tokens - 1
  tokenGt : c.mash.tokenGt = b.mash.tokenGt
  scans : ∃ sc, c.mash.scans = addScan sc b.mash.scans ∧ sc.slot = k ∧ sc.closeGt = g ∧ sc.overlong = overlong ∧
    sc.epoch = cond.1 ∧ sc.bound = cond.2.1 ∧ sc.win.firstGt = w.firstGt

theorem Block.finishClose_closesWindow {o : Bool} {cond : Nat × Nat × Bool} (h : (b.slot k).win = some w) :
    b.ClosesWindow (b.finishClose k g o cond) k w g o cond := by
  unfold Block.finishClose
  rw [h]
  refine ⟨?_, rfl, rfl, ⟨_, rfl, rfl, rfl, rfl, rfl, rfl, rfl⟩⟩
  rw [Block.slot_modMash rfl, Block.slot_modSlot]

/-- A close that falls due at `g` is deferred while the window is too short, waits for a token where none is held, and otherwise
is made (R195, R196). -/
theorem Block.closeWindow_eq {e : Bool} (h : (b.slot k).win = some w) : b.closeWindow k g e =
    if g - w.firstGt < (b.slot k).minNs * 256 then
      (b.iterEnded k g e).modSlot k (fun s => { s with deferred := some (g, false, e) })
    else if b.mash.tokens = 0 ∧ (b.slot k).token = false then (b.iterEnded k g e).modSlot k (fun s =>
      { s.waitToken g with deferred := some (g, true, e), closeCond := (b.iterEnded k g e).closeState })
    else (b.iterEnded k g e).finishClose k g false (b.iterEnded k g e).closeState := by
  obtain ⟨v, l, hs, -⟩ := Block.iterEnded_slot (g := g) (e := e) h
  have hmin : ((b.iterEnded k g e).slot k).minNs = (b.slot k).minNs := by rw [hs]; rfl
  have htok : ((b.iterEnded k g e).slot k).token = (b.slot k).token := by rw [hs]
  unfold Block.closeWindow
  rw [h]
  change (if decide (g - w.firstGt < ((b.iterEnded k g e).slot k).minNs * 256) = true then _
    else if (decide ((b.iterEnded k g e).mash.tokens = 0) && !((b.iterEnded k g e).slot k).token) = true then _ else _) = _
  rw [hmin, htok, Block.iterEnded_tokens]
  simp only [decide_eq_true_eq, Bool.and_eq_true, Bool.not_eq_true']
  rfl

/-- A close that is deferred leaves the window with the slot, and takes no token. -/
theorem Block.closeWindow_defers {e : Bool} (h : (b.slot k).win = some w)
    (hd : (b.mash.tokens = 0 ∧ (b.slot k).token = false) ∨ g - w.firstGt < (b.slot k).minNs * 256) :
    (b.closeWindow k g e).mash.scans = b.mash.scans ∧ (b.closeWindow k g e).mash.tokens = b.mash.tokens ∧
      ((b.closeWindow k g e).slot k).winCount = (b.slot k).winCount ∧
      ∃ v, ((b.closeWindow k g e).slot k).win = some v ∧ v.firstGt = w.firstGt ∧ v.iterFirst = w.iterFirst := by
  obtain ⟨v, l, hs, hf, hi, -⟩ := Block.iterEnded_slot (g := g) (e := e) h
  have hkeep : ∀ f : LoopSlot → LoopSlot, (∀ x, (f x).win = x.win ∧ (f x).winCount = x.winCount) →
      ((b.iterEnded k g e).modSlot k f).mash.scans = b.mash.scans ∧
      ((b.iterEnded k g e).modSlot k f).mash.tokens = b.mash.tokens ∧
      (((b.iterEnded k g e).modSlot k f).slot k).winCount = (b.slot k).winCount ∧
      ∃ v, (((b.iterEnded k g e).modSlot k f).slot k).win = some v ∧ v.firstGt = w.firstGt ∧ v.iterFirst = w.iterFirst :=
    fun f hw => ⟨Block.modSlot_scans.trans Block.iterEnded_scans, Block.modSlot_tokens.trans Block.iterEnded_tokens, by rw [Block.slot_modSlot, (hw _).2, hs], v,
      by rw [Block.slot_modSlot, (hw _).1, hs], hf, hi⟩
  rw [Block.closeWindow_eq h]
  by_cases hshort : g - w.firstGt < (b.slot k).minNs * 256
  · rw [if_pos hshort]
    exact hkeep _ fun x => ⟨rfl, rfl⟩
  · rw [if_neg hshort, if_pos (hd.resolve_right hshort)]
    exact hkeep _ fun x => ⟨rfl, rfl⟩

/-- A close that is long enough and holds a token is made, after the iteration has ended. -/
theorem Block.closeWindow_closes {e : Bool} (h : (b.slot k).win = some w) (ht : 0 < b.mash.tokens ∨ (b.slot k).token = true)
    (hm : (b.slot k).minNs * 256 ≤ g - w.firstGt) : ∃ v l cond,
      (b.iterEnded k g e).slot k = { b.slot k with win := some v, dlPend := l } ∧ v.firstGt = w.firstGt ∧
      v.iters = w.spans g ∧ (b.iterEnded k g e).ClosesWindow (b.closeWindow k g e) k v g false cond := by
  obtain ⟨v, l, hs, hf, -, hi⟩ := Block.iterEnded_slot (g := g) (e := e) h
  refine ⟨v, l, (b.iterEnded k g e).closeState, hs, hf, hi, ?_⟩
  rw [Block.closeWindow_eq h, if_neg (Nat.not_lt.2 hm), if_neg (by rintro ⟨h0, hf⟩; simp [h0, hf] at ht)]
  exact Block.finishClose_closesWindow (by rw [hs])

end
end Sys2Proof.Machine

namespace Sys2Proof.Machine

/-! ### The events of a loop's windows (R195 to R197, R368) -/

section
variable {s : State} {k : Fin 16} {w : Window} {g e : Gt}

theorem loopPeriodExpiry_opens (hr : s.block.running = true) (he : (s.block.slot k).en = true)
    (hs : (s.block.slot k).wsrc = true) (hw : (s.block.slot k).win = none) (hn : (s.block.slot k).nextOpen = some g)
    (hg : g ≤ s.block.gt) :
    ∃ t w, exec (.loopPeriodExpiry k) s = .next t ∧ (t.block.slot k).win = some w ∧ w.firstGt = g ∧ w.openGt = g ∧
      w.iterFirst = (s.block.slot k).winCount ∧ w.iterLast = (s.block.slot k).winCount ∧
      w.deadline = (s.block.slot k).deadlineAt g ∧ w.inIter = true ∧ (t.block.slot k).nextOpen = none ∧
      (t.block.slot k).winCount = ((s.block.slot k).winCount + 1) % 2 ^ 32 := by
  let c := s.block.modSlot k (fun x => { x with nextOpen := none, winCount := (x.winCount + 1) % 2 ^ 32 })
  have hc : c.slot k = { s.block.slot k with
      nextOpen := none, winCount := ((s.block.slot k).winCount + 1) % 2 ^ 32 } := Block.slot_modSlot
  obtain ⟨late, coarse, ho⟩ := Block.openWindow_slot (b := c) (k := k) (g := g) (n := (s.block.slot k).winCount)
    (by rw [hc]; exact hw)
  have ht : exec (.loopPeriodExpiry k) s = .next { s with block := c.openWindow k g (s.block.slot k).winCount } := by
    change execLoopPeriodExpiry k s = _
    rw [execLoopPeriodExpiry, State.run_eq]
    simp only [hr, he, hs, hw, hn, hg, Bool.not_true, Bool.or_self, Bool.false_eq_true, if_false, if_true]
    rfl
  refine ⟨_, (c.slot k).opened g (s.block.slot k).winCount late coarse, ht, ?_⟩
  rw [ho, hc]
  exact ⟨rfl, rfl, rfl, rfl, rfl, rfl, rfl, rfl, rfl⟩

/-- The next window of a slot opens, or the merged one goes on, where one that was due at `e` has been closed or deferred. -/
def Block.windowGoesOn (b : Block) (k : Nat) (e : Gt) (n : Nat) : Block :=
  if (b.slot k).win.isSome then b.mergeWindow k e n else b.openWindow k e n

theorem loopPeriodExpiry_eq (hr : s.block.running = true) (he : (s.block.slot k).en = true)
    (hs : (s.block.slot k).wsrc = true) (hw : (s.block.slot k).win = some w)
    (hg : w.openGt + (s.block.slot k).periodNs * 256 ≤ s.block.gt) : exec (.loopPeriodExpiry k) s = .next { s with
      block := (((s.block.closeWindow k (w.openGt + (s.block.slot k).periodNs * 256) false).modSlot k (fun x =>
        { x with winCount := (x.winCount + 1) % 2 ^ 32 })).windowGoesOn k (w.openGt + (s.block.slot k).periodNs * 256)
          (s.block.slot k).winCount) } := by
  change execLoopPeriodExpiry k s = _
  rw [execLoopPeriodExpiry, State.run_eq]
  simp only [hr, he, hs, hw, Nat.not_lt.2 hg, Bool.not_true, Bool.or_self, Bool.false_eq_true, if_false]
  rfl

/-- A window that closes at `e` and leaves its slot to the next one. -/
theorem Block.ClosesWindow.goesOn {b a c : Block} {n : Nat} {cond : Nat × Nat × Bool} {v : Window} {l : List Gt}
    (hc : a.ClosesWindow c k v e false cond) (ha : a.slot k = { b.slot k with win := some v, dlPend := l }) :
    ∃ u, ((c.modSlot k (fun x => { x with winCount := (x.winCount + 1) % 2 ^ 32 })).windowGoesOn k e n).slot k =
        { b.slot k with
          win := some u, dlPend := l, deferred := none, overDue := false, past := v.iters :: (b.slot k).past, waitGt := none
          token := false, winCount := ((b.slot k).winCount + 1) % 2 ^ 32 } ∧
      u.openGt = e ∧ u.firstGt = e ∧ u.iterFirst = n ∧ u.iterLast = n := by
  let d := c.modSlot k (fun x => { x with winCount := (x.winCount + 1) % 2 ^ 32 })
  have hd : d.slot k = { b.slot k with
      win := none, dlPend := l, deferred := none, overDue := false, past := v.iters :: (b.slot k).past, waitGt := none
      token := false, winCount := ((b.slot k).winCount + 1) % 2 ^ 32 } := by
    rw [Block.slot_modSlot, hc.slot, ha]
  have hn : (d.slot k).win = none := by rw [hd]
  obtain ⟨late, coarse, ho⟩ := Block.openWindow_slot (g := e) (n := n) hn
  refine ⟨(d.slot k).opened e n late coarse, ?_, rfl, rfl, rfl, rfl⟩
  rw [Block.windowGoesOn, hn]
  change (d.openWindow k e n).slot k = _
  rw [ho, hd]

theorem Block.windowGoesOn_scans {b : Block} {n : Nat} : (b.windowGoesOn k e n).mash.scans = b.mash.scans := by
  unfold Block.windowGoesOn
  split
  · exact Block.mergeWindow_scans
  · exact Block.openWindow_scans

theorem Block.windowGoesOn_tokens {b : Block} {n : Nat} : (b.windowGoesOn k e n).mash.tokens = b.mash.tokens := by
  unfold Block.windowGoesOn
  split
  · exact Block.mergeWindow_tokens
  · exact Block.openWindow_tokens

/-- A timed window that is long enough and holds a token closes at the end of its period, and the next one opens (R195, R196). -/
theorem loopPeriodExpiry_closes (hr : s.block.running = true) (he : (s.block.slot k).en = true)
    (hs : (s.block.slot k).wsrc = true) (hw : (s.block.slot k).win = some w)
    (he' : e = w.openGt + (s.block.slot k).periodNs * 256) (hg : e ≤ s.block.gt)
    (ht : 0 < s.block.mash.tokens ∨ (s.block.slot k).token = true)
    (hm : (s.block.slot k).minNs * 256 ≤ e - w.firstGt) :
    ∃ t w', exec (.loopPeriodExpiry k) s = .next t ∧ (t.block.slot k).win = some w' ∧ w'.openGt = e ∧
      w'.iterLast = (s.block.slot k).winCount ∧ (t.block.slot k).winCount = ((s.block.slot k).winCount + 1) % 2 ^ 32 ∧
      w'.firstGt = e ∧ w'.iterFirst = (s.block.slot k).winCount ∧
      t.block.mash.tokens = (if (s.block.slot k).token then s.block.mash.tokens else s.block.mash.tokens - 1) ∧
      (t.block.slot k).token = false ∧ (t.block.slot k).past = w.spans e :: (s.block.slot k).past ∧
      ∃ sc, t.block.mash.scans = addScan sc s.block.mash.scans ∧ sc.slot = k.val ∧ sc.closeGt = e ∧ sc.overlong = false ∧
        sc.win.firstGt = w.firstGt := by
  obtain ⟨v, l, cond, ha, hf, hi, hc⟩ := Block.closeWindow_closes (g := e) (e := false) hw ht hm
  obtain ⟨u, hu, ho, hfirst, hif, hil⟩ := hc.goesOn (n := (s.block.slot k).winCount) ha
  obtain ⟨sc, hsc, hslot, hclose, hover, -, -, hwin⟩ := hc.scans
  refine ⟨_, u, loopPeriodExpiry_eq hr he hs hw (he' ▸ hg), ?_⟩
  rw [← he']
  dsimp only
  rw [hu, Block.windowGoesOn_tokens, Block.windowGoesOn_scans, hi]
  refine ⟨rfl, ho, hil, rfl, hfirst, hif, ?_, rfl, rfl, sc, ?_, hslot, hclose, hover, hwin.trans hf⟩
  · refine hc.tokens.trans ?_
    rw [ha, Block.iterEnded_tokens]
  · refine hsc.trans ?_
    rw [Block.iterEnded_scans]

/-- A timed window that is too short, or for which no token is there, goes on merged with the next one (R196). -/
theorem loopPeriodExpiry_merges (hr : s.block.running = true) (he : (s.block.slot k).en = true)
    (hs : (s.block.slot k).wsrc = true) (hw : (s.block.slot k).win = some w)
    (he' : e = w.openGt + (s.block.slot k).periodNs * 256) (hg : e ≤ s.block.gt)
    (hd : (s.block.mash.tokens = 0 ∧ (s.block.slot k).token = false) ∨ e - w.firstGt < (s.block.slot k).minNs * 256) :
    ∃ t w', exec (.loopPeriodExpiry k) s = .next t ∧ (t.block.slot k).win = some w' ∧ w'.openGt = e ∧
      w'.iterLast = (s.block.slot k).winCount ∧ (t.block.slot k).winCount = ((s.block.slot k).winCount + 1) % 2 ^ 32 ∧
      w'.firstGt = w.firstGt ∧ w'.iterFirst = w.iterFirst ∧ w'.merged = true ∧
      t.block.mash.scans = s.block.mash.scans ∧ t.block.mash.tokens = s.block.mash.tokens := by
  obtain ⟨hsc, htok, hcount, v, hv, hf, hi⟩ := Block.closeWindow_defers (g := e) (e := false) hw hd
  let d := (s.block.closeWindow k e false).modSlot k (fun x => { x with winCount := (x.winCount + 1) % 2 ^ 32 })
  have hdw : (d.slot k).win = some v := by rw [Block.slot_modSlot]; exact hv
  have hdc : (d.slot k).winCount = ((s.block.slot k).winCount + 1) % 2 ^ 32 := by rw [Block.slot_modSlot, hcount]
  obtain ⟨u, hu, ho, hl, hfu, hiu, hm⟩ := Block.mergeWindow_slot (g := e) (n := (s.block.slot k).winCount) hdw
  have hgo : d.windowGoesOn k e (s.block.slot k).winCount = d.mergeWindow k e (s.block.slot k).winCount := by
    rw [Block.windowGoesOn, hdw]
    rfl
  refine ⟨_, u, loopPeriodExpiry_eq hr he hs hw (he' ▸ hg), ?_⟩
  rw [← he']
  dsimp only
  rw [Block.windowGoesOn_scans, Block.windowGoesOn_tokens]
  change ((d.windowGoesOn k e (s.block.slot k).winCount).slot k).win = _ ∧ _ ∧ _ ∧
    ((d.windowGoesOn k e (s.block.slot k).winCount).slot k).winCount = _ ∧ _
  rw [hgo, hu]
  exact ⟨rfl, ho, hl, hdc, hfu.trans hf, hiu.trans hi, hm, hsc, htok⟩

theorem loopPeriodExpiry_ends (hr : s.block.running = true) (he : (s.block.slot k).en = true)
    (hs : (s.block.slot k).wsrc = true) (hw : (s.block.slot k).win = some w)
    (he' : e = w.openGt + (s.block.slot k).periodNs * 256) (hg : e ≤ s.block.gt) :
    ∃ t w', exec (.loopPeriodExpiry k) s = .next t ∧ (t.block.slot k).win = some w' ∧ w'.openGt = e ∧
      w'.iterLast = (s.block.slot k).winCount ∧ (t.block.slot k).winCount = ((s.block.slot k).winCount + 1) % 2 ^ 32 ∧
      (0 < s.block.mash.tokens ∨ (s.block.slot k).token = true → (s.block.slot k).minNs * 256 ≤ e - w.firstGt →
        w'.firstGt = e ∧ w'.iterFirst = (s.block.slot k).winCount ∧
        t.block.mash.tokens = (if (s.block.slot k).token then s.block.mash.tokens else s.block.mash.tokens - 1) ∧
        (t.block.slot k).token = false ∧ (t.block.slot k).past = w.spans e :: (s.block.slot k).past ∧
        ∃ sc, t.block.mash.scans = addScan sc s.block.mash.scans ∧ sc.slot = k.val ∧ sc.closeGt = e ∧
          sc.overlong = false ∧ sc.win.firstGt = w.firstGt) ∧
      ((s.block.mash.tokens = 0 ∧ (s.block.slot k).token = false) ∨ e - w.firstGt < (s.block.slot k).minNs * 256 →
        w'.firstGt = w.firstGt ∧ w'.iterFirst = w.iterFirst ∧ w'.merged = true ∧
        t.block.mash.scans = s.block.mash.scans ∧ t.block.mash.tokens = s.block.mash.tokens) := by
  by_cases hd : (s.block.mash.tokens = 0 ∧ (s.block.slot k).token = false) ∨
      e - w.firstGt < (s.block.slot k).minNs * 256
  · obtain ⟨t, w', ht, hwin, ho, hl, hc, hm⟩ := loopPeriodExpiry_merges hr he hs hw he' hg hd
    refine ⟨t, w', ht, hwin, ho, hl, hc, fun htok hmin => absurd hd ?_, fun _ => hm⟩
    rintro (⟨h0, hf⟩ | hlt)
    · simp [h0, hf] at htok
    · exact Nat.not_lt.2 hmin hlt
  · have htok : 0 < s.block.mash.tokens ∨ (s.block.slot k).token = true := by
      by_contra hn
      exact hd (.inl (by simpa using hn))
    obtain ⟨t, w', ht, hwin, ho, hl, hc, hm⟩ :=
      loopPeriodExpiry_closes hr he hs hw he' hg htok (Nat.not_lt.1 fun h => hd (.inr h))
    exact ⟨t, w', ht, hwin, ho, hl, hc, fun _ _ => hm, fun h => absurd h hd⟩

/-! ### Overlong windows (R197) and tokens (R196, R368) -/

variable {b : Block}

/-- The slot of a window that closes with OVERLONG, before the close itself. -/
theorem Block.overlongEnded_slot (h : (b.slot k).win = some w) : ∃ v l,
    ((b.cutSlot k g).modSlot k (fun x => x.endIter g)).slot k = { b.slot k with win := some v, dlPend := l } := by
  obtain ⟨more, cyc, cuts, hc⟩ := Block.cutSlot_slot_of_some (g := g) h
  obtain ⟨v, l, hv, -⟩ := LoopSlot.endIter_eq (g := g)
    (x := { b.slot k with win := some { w with haloMore := more, cycle := cyc, cuts := cuts } }) rfl
  exact ⟨v, l, by rw [Block.slot_modSlot, hc, hv]⟩

/-- The block with the iteration of an overlong window ended at `g` (R197). -/
def Block.overlongEnded (b : Block) (k : Nat) (g : Gt) : Block := (b.cutSlot k g).modSlot k (fun x => x.endIter g)

/-- The block with an overlong window closed, before a timed slot opens its next one (R197). -/
def Block.overlongClosed (b : Block) (k : Nat) (g : Gt) : Block :=
  (b.overlongEnded k g).finishClose k g true b.closeState

theorem Block.closeOverlong_eq : b.closeOverlong k g = if ((b.overlongClosed k g).slot k).wsrc then
    ((b.overlongClosed k g).openWindow k g ((b.overlongClosed k g).slot k).winCount).modSlot k
      (fun x => { x with winCount := (x.winCount + 1) % 2 ^ 32 })
    else b.overlongClosed k g := rfl

/-- A window closes with OVERLONG: its scan waits, it has taken a token, and only a timed slot opens the next one at once
(R196, R197, R200). -/
theorem Block.closeOverlong_closes (h : (b.slot k).win = some w) :
    (b.closeOverlong k g).mash.tokens = (if (b.slot k).token then b.mash.tokens else b.mash.tokens - 1) ∧
      ((b.slot k).wsrc = false → ((b.closeOverlong k g).slot k).win = none) ∧
      ∃ sc, (b.closeOverlong k g).mash.scans = addScan sc b.mash.scans ∧ sc.slot = k.val ∧ sc.overlong = true ∧
        sc.closeGt = g := by
  obtain ⟨v, l, ha⟩ := Block.overlongEnded_slot (g := g) h
  have hc : (b.overlongEnded k g).ClosesWindow (b.overlongClosed k g) k v g true b.closeState :=
    Block.finishClose_closesWindow (by rw [Block.overlongEnded, ha])
  rw [← Block.overlongEnded] at ha
  have hsrc : ((b.overlongClosed k g).slot k).wsrc = (b.slot k).wsrc := by rw [hc.slot, ha]; rfl
  have htok : (b.overlongClosed k g).mash.tokens = if (b.slot k).token then b.mash.tokens else b.mash.tokens - 1 := by
    rw [hc.tokens, ha, Block.overlongEnded, Block.modSlot_tokens, Block.cutSlot_tokens]
  obtain ⟨sc, hsc, hslot, hclose, hover, -⟩ := hc.scans
  rw [Block.overlongEnded, Block.modSlot_scans, Block.cutSlot_scans] at hsc
  rw [Block.closeOverlong_eq, hsrc]
  cases (b.slot k).wsrc
  · exact ⟨htok, fun _ => by rw [if_neg Bool.false_ne_true, hc.slot], sc, hsc, hslot, hover, hclose⟩
  · refine ⟨?_, fun h => absurd h (by decide), sc, ?_, hslot, hover, hclose⟩
    · rw [if_pos rfl, Block.modSlot_tokens, Block.openWindow_tokens, htok]
    · rw [if_pos rfl, Block.modSlot_scans, Block.openWindow_scans, hsc]

theorem windowOverlong_closes (hr : s.block.running = true) (hw : (s.block.slot k).win = some w)
    (hg : w.firstGt + 2 ^ 25 * 320 ≤ s.block.gt) :
    ∃ t, exec (.windowOverlong k) s = .next t ∧ t.block.seen [.mash] = s.block.seen [.mash] ∧
      (s.block.mash.tokens = 0 → (s.block.slot k).token = false → t.block.slot k = { s.block.slot k with
        overDue := true, waitGt := some ((s.block.slot k).waitGt.getD (w.firstGt + 2 ^ 25 * 320)) } ∧
        t.block.mash.scans = s.block.mash.scans) ∧
      (0 < s.block.mash.tokens ∨ (s.block.slot k).token = true →
        t.block.mash.tokens = (if (s.block.slot k).token then s.block.mash.tokens else s.block.mash.tokens - 1) ∧
        ((s.block.slot k).wsrc = false → (t.block.slot k).win = none) ∧
        ∃ sc, t.block.mash.scans = addScan sc s.block.mash.scans ∧ sc.slot = k.val ∧ sc.overlong = true ∧
          sc.closeGt = w.firstGt + 2 ^ 25 * 320) := by
  have ht : exec (.windowOverlong k) s = .next { s with
      block := if s.block.mash.tokens = 0 ∧ (s.block.slot k).token = false then s.block.modSlot k (fun x =>
        { x.waitToken (w.firstGt + 2 ^ 25 * 320) with overDue := true })
        else s.block.closeOverlong k (w.firstGt + 2 ^ 25 * 320) } := by
    change execWindowOverlong k s = _
    rw [execWindowOverlong, State.run_eq]
    simp only [hw, hr, Nat.not_lt.2 hg, Bool.not_true, Bool.false_or, decide_false, Bool.false_eq_true, if_false,
      Bool.and_eq_true, decide_eq_true_eq, Bool.not_eq_true']
  refine ⟨_, ht, ?_, fun h0 hf => ?_, fun htok => ?_⟩
  · dsimp only
    split
    · exact Block.modSlot_seen (by decide)
    · exact Block.closeOverlong_seen (by decide)
  · dsimp only
    rw [if_pos ⟨h0, hf⟩, Block.slot_modSlot]
    exact ⟨rfl, rfl⟩
  · dsimp only
    rw [if_neg (by rintro ⟨h0, hf⟩; simp [h0, hf] at htok)]
    exact Block.closeOverlong_closes hw

/-- A token that no close waits for goes to the pool (R196). -/
theorem recordTokenGain_pools (hg : s.block.mash.tokenGt + us 20 ≤ s.block.gt) (hd : s.block.deferredCloses = []) :
    ∃ t, exec .recordTokenGain s = .next t ∧ t.block = { s.block with mash := { s.block.mash with
      tokens := min 16 (s.block.mash.tokens + 1), tokenGt := s.block.mash.tokenGt + us 20 } } := by
  refine ⟨{ s with block := { s.block with mash := { s.block.mash with
      tokens := min 16 (s.block.mash.tokens + 1), tokenGt := s.block.mash.tokenGt + us 20 } } }, ?_, rfl⟩
  have hd' : (s.block.modMash (fun m => { m with tokenGt := m.tokenGt + us 20 })).deferredCloses = [] := hd
  change execRecordTokenGain s = _
  rw [execRecordTokenGain, State.run_eq, if_neg (Nat.not_lt.2 hg)]
  dsimp only
  rw [hd']
  rfl

/-- A token goes to the close that waits for it, which is made at the `gt` at which it fell due (R196, R368). -/
theorem recordTokenGain_closes {g' : Gt} {e : Bool} (hg : s.block.mash.tokenGt + us 20 ≤ s.block.gt)
    (hd : s.block.deferredCloses = [(g', k.val)]) (hw : (s.block.slot k).win = some w)
    (ho : (s.block.slot k).overDue = false) (hx : (s.block.slot k).deferred = some (g, true, e)) :
    ∃ t, exec .recordTokenGain s = .next t ∧ t.block.seen [.mash] = s.block.seen [.mash] ∧
      t.block.mash.tokens = s.block.mash.tokens ∧ t.block.mash.tokenGt = s.block.mash.tokenGt + us 20 ∧
      (t.block.slot k).win = none ∧ (t.block.slot k).token = false ∧
      (t.block.slot k).past = w.iters :: (s.block.slot k).past ∧
      ∃ sc, t.block.mash.scans = addScan sc s.block.mash.scans ∧ sc.slot = k.val ∧ sc.closeGt = g ∧ sc.overlong = false ∧
        sc.epoch = (s.block.slot k).closeCond.1 ∧ sc.bound = (s.block.slot k).closeCond.2.1 := by
  let a := s.block.modMash (fun m => { m with tokenGt := m.tokenGt + us 20 })
  let c := a.modSlot k (fun x => { x with waitGt := none, token := true })
  have hs : c.slot k = { s.block.slot k with waitGt := none, token := true } := Block.slot_modSlot
  have hc : c.ClosesWindow (c.finishClose k g false (s.block.slot k).closeCond) k w g false (s.block.slot k).closeCond :=
    Block.finishClose_closesWindow (by rw [hs]; exact hw)
  have htok : a.tokenTo k = c.finishClose k g false (s.block.slot k).closeCond := by
    have ho' : (a.slot k).overDue = false := ho
    have hx' : (a.slot k).deferred = some (g, true, e) := hx
    unfold Block.tokenTo
    dsimp only
    rw [ho', hx']
    rfl
  have ht : exec .recordTokenGain s = .next { s with block := c.finishClose k g false (s.block.slot k).closeCond } := by
    have hd' : a.deferredCloses = [(g', k.val)] := hd
    change execRecordTokenGain s = _
    rw [execRecordTokenGain, State.run_eq, if_neg (Nat.not_lt.2 hg)]
    change Host.Outcome.next { s with block := match a.deferredCloses with
      | [] => a.modMash (fun m => { m with tokens := min 16 (m.tokens + 1) })
      | e :: t => a.tokenTo (t.foldl (fun (m y : Gt × Nat) => if y.1 < m.1 then y else m) e).2 } = _
    rw [hd', ← htok]
    rfl
  obtain ⟨sc, hsc, hslot, hclose, hover, hepoch, hbound, -⟩ := hc.scans
  refine ⟨_, ht, ?_, hc.tokens.trans (by rw [hs]; rfl), hc.tokenGt, ?_, ?_, ?_, sc, hsc, hslot, hclose, hover, hepoch, hbound⟩
  · exact (Block.finishClose_seen (by decide)).trans
      ((Block.modSlot_seen (by decide)).trans (Block.modMash_seen (by decide) fun _ => rfl))
  · dsimp only; rw [hc.slot]
  · dsimp only; rw [hc.slot]
  · dsimp only; rw [hc.slot, hs]

end
end Sys2Proof.Machine

namespace Sys2Proof.Machine

/-! ### Missed deadlines (R210, R468) -/

section
variable {b : Block} {k : Fin 16} {w : Window} {d : Gt} {s : State}

/-- With every sequencer off, an event reaches no comparator (R104, R110). -/
theorem Block.offerEvent_of_off {i : CmpIn} {g : Gt} {sees : Nat → Bool} (h : ∀ e, e ∈ b.stations → e.2.seq.en = false) :
    b.offerEvent i g sees = b := by
  have hnil : b.stations.filter (fun x => x.2.seq.en && (x.2.seq.owner == 64 || sees x.2.seq.owner)) = [] :=
    List.filter_eq_nil_iff.2 fun e he => by simp [h e he]
  unfold Block.offerEvent
  rw [hnil]
  rfl

/-- A miss with every sequencer off: the owner's interrupt, where the slot asks for it (R210). -/
theorem Block.missed_of_off (h : ∀ e, e ∈ b.stations → e.2.seq.en = false) :
    b.missed k = if (b.slot k).dlInt then b.raise (b.slot k).owner 1 else b := by
  unfold Block.missed
  refine Block.offerEvent_of_off ?_
  split
  · exact h
  · exact h

/-- A deadline that was missed is decided: the slot becomes `y`, the block wakes while a window of it is open, and the owner is
told (R210, R468). -/
def Block.missDecided (b : Block) (k : Nat) (y : LoopSlot) : Block := ((b.modSlot k (fun _ => y)).deadlineWake k).missed k

theorem Block.missDecided_eq {y : LoopSlot} (h : ∀ e, e ∈ b.stations → e.2.seq.en = false) : b.missDecided k y =
    let c := if y.win.isSome then (b.modSlot k (fun _ => y)).requestWake 5 else b.modSlot k (fun _ => y)
    if y.dlInt then c.raise y.owner 1 else c := by
  have hy : (b.modSlot k (fun _ => y)).slot k = y := Block.slot_modSlot
  have hc : (b.modSlot k (fun _ => y)).deadlineWake k =
      if y.win.isSome then (b.modSlot k (fun _ => y)).requestWake 5 else b.modSlot k (fun _ => y) := by
    rw [Block.deadlineWake, hy]
  have hslot : ((b.modSlot k (fun _ => y)).deadlineWake k).slot k = y := by
    rw [hc]
    split
    · exact hy
    · exact hy
  have hst : ((b.modSlot k (fun _ => y)).deadlineWake k).stations = b.stations := by
    rw [hc]
    split <;> rfl
  rw [Block.missDecided, Block.missed_of_off (by rw [hst]; exact h), hslot, hc]

theorem Block.missDecided_told {y : LoopSlot} (h : ∀ e, e ∈ b.stations → e.2.seq.en = false)
    (hr : (b.tenant y.owner).resetting = false) : (b.missDecided k y).slot k = y ∧
      (y.dlInt = true → bit ((b.missDecided k y).tenant y.owner).intStatus 1 = true) ∧
      (y.win = none → (b.missDecided k y).power = b.power) ∧
      (y.win ≠ none → b.power.st ≠ .run → b.power.st ≠ .off → b.power.goal ≠ .off →
        (b.missDecided k y).power.waking = true) ∧
      (b.missDecided k y).seen [.mash, .tenants, .power] = b.seen [.mash, .tenants, .power] := by
  have hy : (b.modSlot k (fun _ => y)).slot k = y := Block.slot_modSlot
  have hv : hasVec y.owner 1 = true := by unfold hasVec; split <;> rfl
  rw [Block.missDecided_eq h]
  dsimp only
  generalize hc : (if y.win.isSome then (b.modSlot k (fun _ => y)).requestWake 5 else b.modSlot k (fun _ => y)) = c
  have hslot : c.slot k = y := by
    rw [← hc]
    split
    · exact hy
    · exact hy
  have hres : (c.tenant y.owner).resetting = false := by
    rw [← hc]
    split
    · exact hr
    · exact hr
  have hseen : c.seen [.mash, .tenants, .power] = b.seen [.mash, .tenants, .power] := by
    rw [← hc]
    split
    · exact (Block.requestWake_seen (by decide)).trans (Block.modSlot_seen (by decide))
    · exact Block.modSlot_seen (by decide)
  have hnone : y.win = none → c.power = b.power := fun hn => by rw [← hc, hn]; rfl
  have hsome : y.win ≠ none → b.power.st ≠ .run → b.power.st ≠ .off → b.power.goal ≠ .off → c.power.waking = true :=
    fun hn h1 h2 h3 => by
      rw [← hc, if_pos (Option.isSome_iff_ne_none.2 hn)]
      exact Power.wake_waking h1 h2 h3
  cases hd : y.dlInt
  · exact ⟨hslot, fun h => absurd h (by decide), hnone, hsome, hseen⟩
  · exact ⟨hslot, fun _ => Block.raise_bit hres hv (by decide), hnone, hsome, (Block.raise_seen (by decide)).trans hseen⟩

/-- The miss of an iteration that closed late is decided first (R210). -/
theorem deadlineMiss_late (hd : (s.block.slot k).dlPend.find? (fun d => decide (d + us 1 ≤ s.block.gt)) = some d) :
    exec (.deadlineMiss k) s = .next { s with
      block := s.block.missDecided k { s.block.slot k with dlPend := (s.block.slot k).dlPend.erase d } } := by
  change execDeadlineMiss k s = _
  rw [execDeadlineMiss, State.run_eq]
  dsimp only
  rw [hd]
  rfl

/-- The miss of the iteration that runs is decided while it runs (R210). -/
theorem deadlineMiss_running (hp : (s.block.slot k).dlPend = []) (hw : (s.block.slot k).win = some w)
    (hd : w.deadline = some d) (hi : w.inIter = true) (hn : w.decided = false) (hg : d + us 1 ≤ s.block.gt) :
    exec (.deadlineMiss k) s = .next { s with
      block := s.block.missDecided k { s.block.slot k with win := some { w with decided := true } } } := by
  have hmod : s.block.modSlot k (fun x => { x with win := x.win.map (fun w => { w with decided := true }) }) =
      s.block.modSlot k (fun _ => { s.block.slot k with win := some { w with decided := true } }) := by
    change s.block.modSlot k (fun _ => { s.block.slot k with
      win := (s.block.slot k).win.map (fun w => { w with decided := true }) }) = _
    rw [hw]
    rfl
  have ht : exec (.deadlineMiss k) s = .next { s with block := ((s.block.modSlot k (fun x =>
      { x with win := x.win.map (fun w => { w with decided := true }) })).deadlineWake k).missed k } := by
    change execDeadlineMiss k s = _
    rw [execDeadlineMiss, State.run_eq]
    dsimp only
    rw [hp, List.find?_nil, hw]
    dsimp only
    rw [hd]
    dsimp only
    rw [if_pos (by simp [hi, hn, hg])]
  rw [ht, hmod]
  rfl

end

/-! ### The record of a finished scan (R202, R206) -/

section
variable {b : Block} {r : Rec} {s : State}

theorem Block.offerRec_mash : (b.offerRec r).mash = b.mash :=
  Block.mash_of_seen (Block.offerRec_seen (M := [.quads, .tenants, .power]) (by decide)) (by decide)

/-- The record of the oldest finished scan is offered and counted; with `OP_COPY` the operator's copy follows (R206). -/
theorem loopRecordPlace_places {sc : Scan} {y : LoopSlot} (hr : s.block.running = true)
    (hsc : s.block.mash.scans.find? (fun z => z.done) = some sc) (hy : y = s.block.slot sc.slot)
    (he : r = s.block.mkRec 16 0 y.owner y.interest
      (s.block.loopRecord sc (if y.owner < 64 then some y.owner else none) false)) :
    ∃ t, exec .loopRecordPlace s = .next t ∧ t.block.mash.scans = s.block.mash.scans.erase sc ∧
      (t.block.slot sc.slot).records = satAdd 32 y.records 1 ∧
      (y.opCopy = false → (s.block.quad 0).roomFor r = true → (t.block.quad 0).recIn = (s.block.quad 0).recIn ++
        (r.units (tget 0 (s.block.tenant y.owner).rseq 16)).take 64) := by
  subst hy
  let a := s.block.modMash (fun m => { m with scans := m.scans.erase sc })
  let c := (a.offerRec r).modSlot sc.slot (fun x => { x with records := satAdd 32 x.records 1 })
  have hscans : c.mash.scans = s.block.mash.scans.erase sc := by
    rw [Block.modSlot_scans, Block.offerRec_mash]
    rfl
  have hslot : (c.slot sc.slot).records = satAdd 32 (s.block.slot sc.slot).records 1 := by
    rw [Block.slot_modSlot]
    change satAdd 32 (tget ({} : LoopSlot) (a.offerRec r).mash.slots sc.slot).records 1 = _
    rw [Block.offerRec_mash]
    rfl
  let copy := c.mkRec 16 0 64 (s.block.slot sc.slot).interest (c.loopRecord sc none true)
  have ht : exec .loopRecordPlace s = .next { s with
      block := if (s.block.slot sc.slot).opCopy then c.offerRec copy else c } := by
    change execLoopRecordPlace s = _
    rw [execLoopRecordPlace, State.run_eq]
    dsimp only
    rw [hsc]
    dsimp only
    rw [hr, ← he]
    rfl
  refine ⟨_, ht, ?_⟩
  dsimp only
  cases hc : (s.block.slot sc.slot).opCopy
  · refine ⟨hscans, hslot, fun _ hroom => ?_⟩
    have hq : recQuad r.source = 0 := by rw [he]; rfl
    have ho := (Block.offerRec_of_room (b := a) (r := r) (by rw [hq]; exact hroom)).1
    rw [hq] at ho
    change ((a.offerRec r).quad 0).recIn = _
    rw [ho, he]
    rfl
  · refine ⟨?_, ?_, fun h => absurd h (by decide)⟩
    · rw [if_pos rfl, Block.offerRec_mash, hscans]
    · rw [if_pos rfl, ← hslot]
      change (tget ({} : LoopSlot) (c.offerRec _).mash.slots sc.slot).records = _
      rw [Block.offerRec_mash]
      rfl

end

/-- Settles O42: each event by what opening, ending, merging and closing leave of the slot, the tokens and the scans; a miss by
what its decision leaves; a record by its offer. -/
theorem loopWindowEventsAct : Obligations.LoopWindowEventsAct := by
  rintro s k x m rfl rfl
  refine ⟨fun g hr he hs hw hn hg => loopPeriodExpiry_opens hr he hs hw hn hg,
    fun w e hr he hs hw he' hg => loopPeriodExpiry_ends hr he hs hw he' hg,
    fun w hr hw hg => windowOverlong_closes hr hw hg, fun hg hd => recordTokenGain_pools hg hd,
    fun w g g' e hg hd hw ho hx => recordTokenGain_closes hg hd hw ho hx, fun d hoff hres hd => ?_,
    fun w d hoff hres hp hw hd hi hn hg => ?_,
    fun sc y r hr hsc hy he => loopRecordPlace_places hr hsc hy he⟩
  · obtain ⟨hslot, hint, hnone, hsome, hseen⟩ := Block.missDecided_told (b := s.block) (k := k)
      (y := { s.block.slot k with dlPend := (s.block.slot k).dlPend.erase d }) hoff hres
    exact ⟨_, deadlineMiss_late hd, hslot, hint, hnone, hsome, hseen⟩
  · obtain ⟨hslot, hint, -, hsome, hseen⟩ := Block.missDecided_told (b := s.block) (k := k)
      (y := { s.block.slot k with win := some { w with decided := true } }) hoff hres
    exact ⟨_, deadlineMiss_running hp hw hd hi hn hg, hslot, hint, hsome (Option.some_ne_none _), hseen⟩

end Sys2Proof.Machine

namespace Sys2Proof.Machine

/-! ## Charge steps (R190, R191, R199, R201) -/

/-- What a scan has still to do with a row: the banks that it reads, the rows it has read, whether it is done, and its rows. -/
def Scan.reads (x : Scan) : Tbl Nat × Nat × Bool × List (Nat × Nat) := (x.banks, x.read, x.done, x.rows)

/-- The scan has still to read the row's bank (R199, R201). -/
def Scan.awaits (x : Scan) (r : Nat × Nat × Nat) : Bool :=
  x.bankOf r.1 == r.2.1 && decide (x.read ≤ r.1) && !x.done && x.rows.any (fun y => y.1 == r.1)

/-- What the charge of a row goes by. -/
structure ChargePart where
  agents : Tbl Word
  sel : Tbl Nat
  words : Nat → List Word
  scans : List (Tbl Nat × Nat × Bool × List (Nat × Nat))

def Block.chargePart (b : Block) : ChargePart where
  agents := b.mash.agents
  sel := b.mash.sel
  words n := (b.slot n).w
  scans := b.mash.scans.map Scan.reads

/-- A row of a step goes to its own bank: the bank is active, or still to be read (R199, R201). -/
def Block.ownBank (b : Block) (r : Nat × Nat × Nat) : Bool := r.2.1 == b.sel r.1 || b.mash.scans.any (fun x => x.awaits r)

/-- The cell that a row of a step charges. -/
def Block.rowCell (b : Block) (st : Step) (r : Nat × Nat × Nat) : Nat :=
  cellKey (if b.ownBank r then r.2.1 else b.sel r.1) r.1 st.cause

/-- The weighted ticks of a row of a step (R190). -/
def Block.rowTicks (b : Block) (st : Step) (r : Nat × Nat × Nat) : Nat :=
  if (b.slot (aLoop (b.agent r.1))).int8 then r.2.2 * 127 * st.ticks else st.ticks

section
variable {b c : Block} {st : Step} {r : Nat × Nat × Nat} {w : Window}

theorem Block.sel_of_chargePart (h : c.chargePart = b.chargePart) (n : Nat) : c.sel n = b.sel n :=
  congrArg (fun t => tget 0 t n) (congrArg ChargePart.sel h)

theorem Block.agent_of_chargePart (h : c.chargePart = b.chargePart) (n : Nat) : c.agent n = b.agent n :=
  congrArg (fun t => tget agentReset t n) (congrArg ChargePart.agents h)

theorem Block.ownBank_of_chargePart (h : c.chargePart = b.chargePart) : c.ownBank r = b.ownBank r := by
  have hs : ∀ l : List Scan, l.any (fun x => x.awaits r) = (l.map Scan.reads).any (fun x =>
      tget 0 x.1 r.1 == r.2.1 && decide (x.2.1 ≤ r.1) && !x.2.2.1 && x.2.2.2.any (fun y => y.1 == r.1)) :=
    fun l => by rw [List.any_map]; rfl
  have hscans : c.mash.scans.map Scan.reads = b.mash.scans.map Scan.reads := congrArg ChargePart.scans h
  rw [Block.ownBank, Block.ownBank, Block.sel_of_chargePart h, hs, hs, hscans]

theorem Block.rowCell_of_chargePart (h : c.chargePart = b.chargePart) : c.rowCell st r = b.rowCell st r := by
  rw [Block.rowCell, Block.rowCell, Block.ownBank_of_chargePart h, Block.sel_of_chargePart h]

theorem Block.rowTicks_of_chargePart (h : c.chargePart = b.chargePart) : c.rowTicks st r = b.rowTicks st r := by
  have hw : ∀ n, (c.slot n).w = (b.slot n).w := congrFun (congrArg ChargePart.words h)
  rw [Block.rowTicks, Block.rowTicks, Block.agent_of_chargePart h, LoopSlot.int8, LoopSlot.word, hw]
  rfl

theorem Block.modSlot_chargePart {n : Nat} {f : LoopSlot → LoopSlot} (h : ∀ x, (f x).w = x.w) :
    (b.modSlot n f).chargePart = b.chargePart := by
  have hs : (fun m => ((b.modSlot n f).slot m).w) = fun m => (b.slot m).w := by
    funext m
    rw [Block.slot_modSlot_ite]
    split
    · exact h _
    · rfl
  exact congrArg (fun x => { b.chargePart with words := x }) hs

/-- The weighted ticks of a row of a step added to its cell in a bank. -/
def Block.charge (b : Block) (st : Step) (r : Nat × Nat × Nat) (bank : Nat) : Block :=
  b.modMash (fun m => { m with
    cells := tmod (0, false) m.cells (cellKey bank r.1 st.cause) (fun c => cellAdd c (b.rowTicks st r)) })

/-- The coarse ticks of a step (R192). -/
def Step.coarseTicks (st : Step) : Nat := if st.coarse then st.ticks else 0

/-- A row whose bank is active (R190). -/
theorem Block.applyRow_of_active (h : r.2.1 = b.sel r.1) : b.applyRow st r =
    (b.charge st r (b.sel r.1)).modSlot (aLoop (b.agent r.1)) (fun s => { s with
      win := s.win.map (fun w => { w with
        coarse := w.coarse + st.coarseTicks, coarseSeen := w.coarseSeen || st.coarse }) }) := if_pos h

/-- A row whose bank scan number `i` has still to read (R199, R201). -/
theorem Block.applyRow_of_awaited {i : Nat} (h : r.2.1 ≠ b.sel r.1)
    (hi : b.mash.scans.findIdx? (fun x => x.awaits r) = some i) : b.applyRow st r =
    (b.charge st r r.2.1).modMash (fun m => { m with
      scans := m.scans.modify i (fun s => { s with
        win := { s.win with coarse := s.win.coarse + st.coarseTicks, coarseSeen := s.win.coarseSeen || st.coarse } }) }) := by
  refine (if_neg h).trans ?_
  change (match b.mash.scans.findIdx? (fun x => x.awaits r) with | some i => _ | none => _) = _
  rw [hi]
  rfl

/-- A late row: its ticks go to the active bank, and to the late ticks of the window that is open, or opens next (R201). -/
theorem Block.applyRow_of_late (h : r.2.1 ≠ b.sel r.1) (hi : b.mash.scans.findIdx? (fun x => x.awaits r) = none) :
    b.applyRow st r = if (b.slot (aLoop (b.agent r.1))).win.isSome then
      (b.charge st r (b.sel r.1)).modSlot (aLoop (b.agent r.1)) (fun s => { s with
        win := s.win.map (fun w => { w with
          late := w.late + st.ticks, coarse := w.coarse + st.coarseTicks, coarseSeen := w.coarseSeen || st.coarse }) })
    else (b.charge st r (b.sel r.1)).modMash (fun m => { m with
      lateWait := tmod (0, 0) m.lateWait (aLoop (b.agent r.1)) (fun x => (x.1 + st.ticks, x.2 + st.coarseTicks)) }) := by
  refine (if_neg h).trans ?_
  change (match b.mash.scans.findIdx? (fun x => x.awaits r) with | some i => _ | none => _) = _
  rw [hi]
  change (match (b.slot (aLoop (b.agent r.1))).win with | some _ => _ | none => _) = _
  cases (b.slot (aLoop (b.agent r.1))).win <;> rfl

theorem map_modify_of_keeps {α β : Type} {l : List α} {i : Nat} {f : α → α} {p : α → β} (h : ∀ x, p (f x) = p x) :
    (l.modify i f).map p = l.map p := by
  induction l generalizing i with
  | nil => cases i <;> rfl
  | cons x l ih => cases i <;> simp [h, ih]

/-- A row of a step adds its weighted ticks to its cell, and touches nothing that other rows go by (R190, R201). -/
theorem Block.applyRow_charges : (b.applyRow st r).chargePart = b.chargePart ∧
    (b.applyRow st r).mash.stepQ = b.mash.stepQ ∧
    (b.applyRow st r).mash.cells = tmod (0, false) b.mash.cells (b.rowCell st r) (fun c => cellAdd c (b.rowTicks st r)) := by
  have hany : (b.mash.scans.findIdx? (fun x => x.awaits r)).isSome = b.mash.scans.any (fun x => x.awaits r) :=
    List.findIdx?_isSome
  have hc : ∀ bank, (b.charge st r bank).chargePart = b.chargePart := fun _ => rfl
  by_cases hact : r.2.1 = b.sel r.1
  · have hk : b.rowCell st r = cellKey (b.sel r.1) r.1 st.cause := by rw [Block.rowCell, hact, ite_self]
    rw [Block.applyRow_of_active hact, hk]
    exact ⟨Eq.trans (Block.modSlot_chargePart (by intro _; rfl)) (hc _), rfl, rfl⟩
  · have hne : (r.2.1 == b.sel r.1) = false := beq_eq_false_iff_ne.2 hact
    cases hi : b.mash.scans.findIdx? (fun x => x.awaits r) with
    | some i =>
      have hk : b.rowCell st r = cellKey r.2.1 r.1 st.cause := by
        rw [Block.rowCell, Block.ownBank, ← hany, hi, Option.isSome_some, Bool.or_true, if_pos rfl]
      rw [Block.applyRow_of_awaited hact hi, hk]
      exact ⟨congrArg (fun x => ({ b.chargePart with scans := x } : ChargePart))
        (map_modify_of_keeps (p := Scan.reads) fun _ => rfl), rfl, rfl⟩
    | none =>
      have hk : b.rowCell st r = cellKey (b.sel r.1) r.1 st.cause := by
        rw [Block.rowCell, Block.ownBank, ← hany, hi, hne, Option.isSome_none, Bool.or_false, if_neg Bool.false_ne_true]
      rw [Block.applyRow_of_late hact hi, hk]
      split
      · exact ⟨Eq.trans (Block.modSlot_chargePart (by intro _; rfl)) (hc _), rfl, rfl⟩
      · exact ⟨rfl, rfl, rfl⟩

/-- The rows of a step, one after the other. -/
theorem Block.applyRows_charge {rows : List (Nat × Nat × Nat)} :
    (b.each rows (fun b r => b.applyRow st r)).mash.stepQ = b.mash.stepQ ∧
    ∀ j, tget (0, false) (b.each rows (fun b r => b.applyRow st r)).mash.cells j =
      (rows.filter (fun r => b.rowCell st r == j)).foldl (fun c r => cellAdd c (b.rowTicks st r))
        (tget (0, false) b.mash.cells j) := by
  induction rows generalizing b with
  | nil => exact ⟨rfl, fun _ => rfl⟩
  | cons r rows ih =>
    obtain ⟨hp, hq, hcells⟩ := Block.applyRow_charges (b := b) (st := st) (r := r)
    obtain ⟨ihq, ihc⟩ := ih (b := b.applyRow st r)
    refine ⟨ihq.trans hq, fun j => (ihc j).trans ?_⟩
    simp only [Block.rowCell_of_chargePart hp, Block.rowTicks_of_chargePart hp, hcells]
    by_cases hj : b.rowCell st r = j
    · rw [List.filter_cons_of_pos (by simpa using hj), List.foldl_cons, ← hj, tget_tmod]
    · rw [List.filter_cons_of_neg (by simpa using hj), tget_tmod_of_ne (Ne.symm hj)]

/-- A late row counts in the window that is open (R201). -/
theorem Block.applyRow_late (h : b.ownBank r = false) (hw : (b.slot (aLoop (b.agent r.1))).win = some w) :
    ∃ w', ((b.applyRow st r).slot (aLoop (b.agent r.1))).win = some w' ∧ w'.late = w.late + st.ticks := by
  rw [Block.ownBank, Bool.or_eq_false_iff] at h
  have hi : b.mash.scans.findIdx? (fun x => x.awaits r) = none :=
    List.findIdx?_eq_none_iff.2 fun x hx => Bool.eq_false_iff.2 (List.any_eq_false.1 h.2 x hx)
  rw [Block.applyRow_of_late (beq_eq_false_iff_ne.1 h.1) hi, hw, Option.isSome_some, if_pos rfl, Block.slot_modSlot]
  refine ⟨_, congrArg (Option.map _) hw, rfl⟩

/-! ### Scans that have read all they can by now (R200) -/

/-- A scan that advances to a row that it has passed already reads and clears nothing. -/
theorem Block.scanAdvance_of_passed {x : Scan} {n : Nat} (h : n ≤ x.read) :
    ∃ l, b.scanAdvance x n = (x, b.modMash (fun m => { m with halo := l })) := by
  have hrows : (x.rows.map Prod.fst).filter (fun r => decide (x.read ≤ r) && decide (r < n)) = [] :=
    List.filter_eq_nil_iff.2 fun r _ => by simp; omega
  refine ⟨tmap [] b.mash.halo (fun _ l => l), ?_⟩
  unfold Block.scanAdvance
  rw [hrows]
  simp [max_eq_left h]
  rfl

/-- With every scan where it is by now, advancing the scans leaves all but the halo tables as it is. -/
theorem Block.advanceScans_of_passed (h : ∀ x, x ∈ b.mash.scans → x.readTo b.gt ≤ x.read) :
    ∃ l, b.advanceScans = b.modMash (fun m => { m with halo := l }) := by
  have hfold : ∀ (l done : List Scan) (c : Block), (∀ x, x ∈ l → x.readTo b.gt ≤ x.read) → ∃ h,
      l.foldl (fun (a : List Scan × Block) s =>
        (a.1 ++ [(a.2.scanAdvance s (s.readTo b.gt)).1], (a.2.scanAdvance s (s.readTo b.gt)).2)) (done, c) =
      (done ++ l, c.modMash (fun m => { m with halo := h })) := by
    intro l
    induction l with
    | nil => exact fun done c _ => ⟨c.mash.halo, by rw [List.append_nil]; rfl⟩
    | cons x l ih =>
      intro done c hl
      obtain ⟨h1, e1⟩ := Block.scanAdvance_of_passed (b := c) (hl x List.mem_cons_self)
      obtain ⟨h2, e2⟩ := ih (done ++ [x]) (c.modMash (fun m => { m with halo := h1 }))
        fun y hy => hl y (List.mem_cons_of_mem _ hy)
      refine ⟨h2, ?_⟩
      rw [List.foldl_cons, e1, e2, List.append_assoc]
      rfl
  obtain ⟨l, e⟩ := hfold b.mash.scans [] b h
  refine ⟨l, ?_⟩
  unfold Block.advanceScans
  dsimp only
  rw [e]
  rfl

theorem Block.advanceScans_stepQ : b.advanceScans.mash.stepQ = b.mash.stepQ :=
  Block.foldl_snd_keeps (p := fun b : Block => b.mash.stepQ) fun _ _ => rfl

end

/-! ### The oldest step (R190, R201) -/

/-- The block without its oldest step, as far as the scans have come by now. -/
def Block.stepTaken (b : Block) (rest : List Step) : Block :=
  (b.modMash (fun m => { m with stepQ := rest, scans := m.scans.map (fun x => { x with steps := x.steps - 1 }) })).advanceScans

section
variable {b : Block} {s : State} {st : Step} {rest : List Step}

theorem Block.stepTaken_of_passed (h : ∀ x, x ∈ b.mash.scans → x.readTo b.gt ≤ x.read) : ∃ l,
    b.stepTaken rest = b.modMash (fun m => { m with
      stepQ := rest, scans := m.scans.map (fun x => { x with steps := x.steps - 1 }), halo := l }) := by
  refine Block.advanceScans_of_passed fun x hx => ?_
  obtain ⟨y, hy, rfl⟩ := List.mem_map.1 hx
  exact h y hy

theorem mashStepApply_eq (hr : s.block.running = true) (hq : s.block.mash.stepQ = st :: rest) :
    exec .mashStepApply s = .next { s with
      block := (s.block.stepTaken rest).each st.rows (fun b r => b.applyRow st r) } := by
  change execMashStepApply s = _
  rw [execMashStepApply, State.run_eq]
  dsimp only
  rw [hq]
  dsimp only
  rw [hr]
  rfl

theorem mashStepApply_applies (hr : s.block.running = true) (hq : s.block.mash.stepQ = st :: rest) :
    ∃ t, exec .mashStepApply s = .next t ∧ t.block.mash.stepQ = rest ∧ t.block.seen [.mash] = s.block.seen [.mash] ∧
      ((∀ x, x ∈ s.block.mash.scans → x.readTo s.block.gt ≤ x.read) →
        (∀ j, tget (0, false) t.block.mash.cells j =
          (st.rows.filter (fun r => s.block.rowCell st r == j)).foldl (fun c r => cellAdd c (s.block.rowTicks st r))
            (tget (0, false) s.block.mash.cells j)) ∧
        (∀ r w, st.rows = [r] → s.block.ownBank r = false → (s.block.slot (aLoop (s.block.agent r.1))).win = some w →
          ∃ w', (t.block.slot (aLoop (s.block.agent r.1))).win = some w' ∧ w'.late = w.late + st.ticks)) := by
  have hseen : ((s.block.stepTaken rest).each st.rows (fun b r => b.applyRow st r)).seen [.mash] = s.block.seen [.mash] :=
    (Block.each_seen fun _ _ => Block.applyRow_seen (by decide)).trans
      ((Block.advanceScans_seen (by decide)).trans (Block.modMash_seen (by decide) fun _ => rfl))
  obtain ⟨hstepQ, hcells⟩ := Block.applyRows_charge (b := s.block.stepTaken rest) (st := st) (rows := st.rows)
  refine ⟨_, mashStepApply_eq hr hq, hstepQ.trans Block.advanceScans_stepQ, hseen, fun hpass => ?_⟩
  obtain ⟨l, hl⟩ := Block.stepTaken_of_passed (rest := rest) hpass
  have hpart : (s.block.stepTaken rest).chargePart = s.block.chargePart := by
    rw [hl]
    exact congrArg (fun x => ({ s.block.chargePart with scans := x } : ChargePart)) (List.map_map.trans rfl)
  refine ⟨fun j => ?_, fun r w hrows hown hw => ?_⟩
  · refine (hcells j).trans ?_
    simp only [Block.rowCell_of_chargePart hpart, Block.rowTicks_of_chargePart hpart]
    rw [hl]
    rfl
  · have hag : (s.block.stepTaken rest).agent r.1 = s.block.agent r.1 := Block.agent_of_chargePart hpart r.1
    have hslot : ∀ n, (s.block.stepTaken rest).slot n = s.block.slot n := fun n => by rw [hl]; rfl
    have hlate := Block.applyRow_late (b := s.block.stepTaken rest) (st := st) (r := r) (w := w)
      (by rw [Block.ownBank_of_chargePart hpart]; exact hown) (by rw [hag, hslot]; exact hw)
    rw [hag] at hlate
    dsimp only
    rw [hrows]
    exact hlate

end
end Sys2Proof.Machine

namespace Sys2Proof.Machine

/-! ### Segments held while the step queue was full (R192) -/

/-- The segments held open, issued as far as the steps fit: the steps, and the block. -/
def Block.heldIssued (b : Block) : List (Gt × Step) × Block :=
  b.mash.segs.foldl (fun (a : List (Gt × Step) × Block) e => a.2.issueHeld a.1 e.1 e.2) ([], b)

/-- The steps that were issued are queued. -/
def Block.heldQueued (b : Block) : Block :=
  (queueSteps b.heldIssued).modMash (fun m => { m with stepFull := m.segs.any (fun e => e.2.coarse) })

section
variable {b : Block} {s : State}

/-- A held segment is issued only where its steps fit in the queue, which stays as it is (R192). -/
theorem Block.issueHeld_fits {steps : List (Gt × Step)} {t : Nat} {g : Seg} :
    (b.issueHeld steps t g).2.mash.stepQ = b.mash.stepQ ∧ (b.mash.stepQ.length + steps.length ≤ 1024 →
      b.mash.stepQ.length + (b.issueHeld steps t g).1.length ≤ 1024) := by
  unfold Block.issueHeld
  dsimp only
  generalize mergeParts steps _ = l
  by_cases hl : b.mash.stepQ.length + l.length ≤ 1024
  · rw [if_pos hl]
    exact ⟨rfl, fun _ => hl⟩
  · rw [if_neg hl]
    exact ⟨rfl, id⟩

theorem Block.heldIssued_fits (h : b.mash.stepQ.length ≤ 1024) : b.heldIssued.2.mash.stepQ = b.mash.stepQ ∧
    b.mash.stepQ.length + b.heldIssued.1.length ≤ 1024 := by
  refine List.foldlRecOn (motive := fun x : List (Gt × Step) × Block => x.2.mash.stepQ = b.mash.stepQ ∧
    b.mash.stepQ.length + x.1.length ≤ 1024) _ _ ⟨rfl, h⟩ fun x hx e _ => ?_
  obtain ⟨hq, hfit⟩ := Block.issueHeld_fits (b := x.2) (steps := x.1) (t := e.1) (g := e.2)
  rw [hx.1] at hq hfit
  exact ⟨hq, hfit hx.2⟩

theorem stepQueueSpace_eq (hr : s.block.running = true) (hf : s.block.mash.stepFull = true)
    (hq : s.block.mash.stepQ.length < 1024) : exec .stepQueueSpace s = .next { s with block := s.block.heldQueued } := by
  change execStepQueueSpace s = _
  rw [execStepQueueSpace, State.run_eq]
  dsimp only
  rw [if_neg (by simp [hr, hf, hq])]
  rfl

/-- One segment held open is issued as one coarse step, and goes on from now while its tap is blocked (R192). -/
theorem Block.heldQueued_of_single {n : Nat} {g : Seg} {c : Nat} {l : List (Gt × Step)} (hs : b.mash.segs = [(n, g)])
    (hc : c = (if g.live then (b.resolve n).code else g.cause))
    (hl : l = mergeParts [] (b.partsOf n { g with cause := c, coarse := true } b.gt))
    (hfit : b.mash.stepQ.length + l.length ≤ 1024) : b.heldQueued.mash = { b.mash with
      stepQ := b.mash.stepQ ++ l.map Prod.snd
      segs := if g.live then [(n, { start := max g.start b.gt, cause := c })] else []
      stepFull := false } := by
  have hissue : b.heldIssued = (l, b.putSeg n (if g.live then some { start := max g.start b.gt, cause := c } else none)) := by
    unfold Block.heldIssued
    rw [hs, List.foldl_cons, List.foldl_nil]
    unfold Block.issueHeld
    dsimp only
    rw [← hc, ← hl, if_pos hfit]
  rw [Block.heldQueued, hissue]
  cases g.live
  · simp [queueSteps, Block.putSeg, Block.modMash, hs, tdel]
  · simp [queueSteps, Block.putSeg, Block.modMash, hs, tput]

theorem stepQueueSpace_issues (hr : s.block.running = true) (hf : s.block.mash.stepFull = true)
    (hq : s.block.mash.stepQ.length < 1024) :
    ∃ t, exec .stepQueueSpace s = .next t ∧ t.block.seen [.mash] = s.block.seen [.mash] ∧
      t.block.mash.stepFull = t.block.mash.segs.any (fun e => e.2.coarse) ∧ t.block.mash.stepQ.length ≤ 1024 ∧
      (∃ l, t.block.mash.stepQ = s.block.mash.stepQ ++ l) ∧
      (∀ n g c l, s.block.mash.segs = [(n, g)] → c = (if g.live then (s.block.resolve n).code else g.cause) →
        l = mergeParts [] (s.block.partsOf n { g with cause := c, coarse := true } s.block.gt) →
        s.block.mash.stepQ.length + l.length ≤ 1024 →
        t.block.mash = { s.block.mash with
          stepQ := s.block.mash.stepQ ++ l.map Prod.snd
          segs := if g.live then [(n, { start := max g.start s.block.gt, cause := c })] else []
          stepFull := false }) := by
  obtain ⟨hkeep, hlen⟩ := Block.heldIssued_fits (b := s.block) hq.le
  have hstepQ : s.block.heldQueued.mash.stepQ = s.block.mash.stepQ ++ s.block.heldIssued.1.map Prod.snd := by
    change s.block.heldIssued.2.mash.stepQ ++ _ = _
    rw [hkeep]
  refine ⟨_, stepQueueSpace_eq hr hf hq, ?_, rfl, ?_, ⟨_, hstepQ⟩, fun n g c l => Block.heldQueued_of_single⟩
  · exact (Block.modMash_seen (by decide) fun _ => rfl).trans ((queueSteps_seen (by decide)).trans
      (Block.foldl_snd_seen fun _ _ => Block.issueHeld_seen (by decide)))
  · dsimp only
    rw [hstepQ, List.length_append, List.length_map]
    exact hlen

/-! ### The scan that starts, and the scan that ends (R200) -/

/-- The first element of a list for which `p` holds. -/
theorem findIdx?_append_cons {α : Type} {a l : List α} {x : α} {p : α → Bool} (ha : ∀ y ∈ a, p y = false) (hx : p x = true) :
    (a ++ x :: l).findIdx? p = some a.length := by
  rw [List.findIdx?_append, List.findIdx?_eq_none_iff.2 ha, List.findIdx?_cons, if_pos hx, Option.none_or, Option.map_some,
    Nat.zero_add]

theorem modify_append_cons {α : Type} {a l : List α} {x : α} {f : α → α} :
    (a ++ x :: l).modify a.length f = a ++ f x :: l := List.modifyTailIdx_add _ 0 a (x :: l)

theorem mashScanStart_starts {a l : List Scan} {x : Scan} (hr : s.block.running = true)
    (hs : s.block.mash.scans = a ++ x :: l) (hx : x.started = none)
    (ha : ∀ y, y ∈ a → y.started.isSome = true ∧ y.done = true)
    (hl : ∀ y, y ∈ l → y.started.isSome = true → y.done = true) :
    ∃ t, exec .mashScanStart s = .next t ∧ t.block = { s.block with mash := { s.block.mash with
      scans := a ++ (if x.steps = 0 then { x with started := some s.block.gt } else x) :: l } } := by
  have hnone : s.block.mash.scans.any (fun x => x.started.isSome && !x.done) = false := by
    rw [hs, List.any_eq_false]
    intro y hy
    rcases List.mem_append.1 hy with hy | hy
    · simp [(ha y hy).2]
    · rcases List.mem_cons.1 hy with rfl | hy
      · simp [hx]
      · cases hst : y.started.isSome
        · simp
        · simp [hl y hy hst]
  have hfind : s.block.mash.scans.findIdx? (fun x => x.started.isNone) = some a.length := by
    rw [hs]
    refine findIdx?_append_cons (fun y hy => ?_) (by rw [hx]; rfl)
    rw [← Option.not_isSome, (ha y hy).1]
    rfl
  refine ⟨{ s with block := s.block.modMash (fun m => { m with scans := m.scans.modify a.length (fun x =>
    if x.steps = 0 then { x with started := some s.block.gt } else x) }) }, ?_, ?_⟩
  · change execMashScanStart s = _
    rw [execMashScanStart, State.run_eq]
    rw [if_neg (by simp [hr, hnone]), hfind]
  · dsimp only [Block.modMash]
    rw [hs, modify_append_cons]

theorem mashScanEnd_ends {a l : List Scan} {x : Scan} (hr : s.block.running = true)
    (hs : s.block.mash.scans = a ++ x :: l) (hx : x.started.isSome = true) (hd : x.done = false)
    (ha : ∀ y, y ∈ a → y.started.isSome = true → y.done = true) :
    ∃ t, exec .mashScanEnd s = .next t ∧
      t.block.mash.scans = a ++ { (s.block.scanAdvance x 128).1 with done := true } :: l ∧
      t.block.mash.cells = s.block.mash.cells.filter (fun e => !((x.rows.map Prod.fst).filter
        (fun r => decide (x.read ≤ r) && decide (r < 128))).any (fun r => e.1 / 133 == x.bankOf r * 128 + r)) := by
  have hfind : s.block.mash.scans.findIdx? (fun x => x.started.isSome && !x.done) = some a.length := by
    rw [hs]
    refine findIdx?_append_cons (fun y hy => ?_) (by rw [hx, hd]; rfl)
    cases hst : y.started.isSome
    · rfl
    · rw [ha y hy hst]
      rfl
  have hget : s.block.mash.scans[a.length]? = some x := by rw [hs]; simp
  refine ⟨{ s with block := (s.block.scanAdvance x 128).2.modMash (fun m => { m with
    scans := m.scans.set a.length { (s.block.scanAdvance x 128).1 with done := true } }) }, ?_, ?_, rfl⟩
  · change execMashScanEnd s = _
    rw [execMashScanEnd, State.run_eq]
    dsimp only
    rw [hfind]
    dsimp only
    rw [hget]
    dsimp only
    rw [hr]
    rfl
  · change s.block.mash.scans.set a.length _ = _
    rw [hs, List.set_append_right _ _ le_rfl, Nat.sub_self, List.set_cons_zero]

end

/-- Settles O43: a step by what each of its rows adds; the queue's space by the segments that are issued; a scan by the place it
has among the scans. -/
theorem mashStepsAndScansAct : Obligations.MashStepsAndScansAct := by
  rintro s m rfl hr
  refine ⟨fun st rest hq => ?_, fun hf hq => stepQueueSpace_issues hr hf hq,
    fun a l x hs hx ha hl => mashScanStart_starts hr hs hx ha hl, fun a l x hs hx hd ha => mashScanEnd_ends hr hs hx hd ha⟩
  obtain ⟨t, ht, hstepQ, hseen, hrows⟩ := mashStepApply_applies hr hq
  refine ⟨t, ht, hstepQ, hseen, fun own key n hpass hown hkey hn => ?_⟩
  have ho : own = s.block.ownBank := funext hown
  have hk : key = s.block.rowCell st := funext fun r => by rw [hkey, ho]; rfl
  have hn : n = s.block.rowTicks st := funext hn
  rw [ho, hk, hn]
  exact hrows hpass

end Sys2Proof.Machine

namespace Sys2Proof.Machine

/-! ## S items at the sync watch (R188, R207, R214, R248, R251, R256) -/

/-- The block before an S item has its effect: the tap counts as blocked again, and the item's object is noted as used. -/
def Block.itemBegun (b : Block) (i : SItem) : Block :=
  (b.unquiet i.tap i.gt).modObj (fld i.pay 30 14) (fun o => o.used i.tenant)

/-- What an S item does to the wait or the object that it names (R251). -/
def Block.itemActed (b : Block) (i : SItem) : Block :=
  match payKind i.pay with
  | 0 => b.waitBegin i.tap (fld i.pay 30 14) (fld i.pay 0 24) (fld i.pay 24 6) i.gt
  | 1 =>
    if (b.wait i.tap).valid && (b.wait i.tap).obj == fld i.pay 30 14 then b.endWait i.tap i.gt
    else b.modSync (fun s => { s with unmatched := satAdd 32 s.unmatched 1 })
  | 2 => b.signal i.tap (fld i.pay 30 14) (fld i.pay 0 24) i.gt
  | _ => b.arriveAt i.tap (fld i.pay 30 14) i.gt

section
variable {b c : Block} {i : SItem} {t n x v stripe : Nat} {g : Gt} {prod : Option Nat}

theorem Block.applySItem_eq : b.applySItem i = (((b.itemBegun i).itemActed i).resolveAll i.gt).afterItem i.tap := rfl

/-! ### What the Mash side of an item leaves of the sync watch and of the views -/

theorem Block.haloFlush_sync : (b.haloFlush t g prod).sync = b.sync :=
  Block.sync_of_seen (Block.haloFlush_seen (M := [.mash]) (by decide)) (by decide)

theorem Block.haloFlush_views : (b.haloFlush t g prod).views = b.views :=
  Block.views_of_seen (Block.haloFlush_seen (M := [.mash]) (by decide)) (by decide)

theorem Block.unquiet_sync : (b.unquiet t g).sync = b.sync :=
  Block.sync_of_seen (Block.unquiet_seen (M := [.views, .mash]) (by decide)) (by decide)

theorem Block.applySItem_sync : (b.applySItem i).sync = ((b.itemBegun i).itemActed i).sync :=
  (Block.sync_of_seen (Block.afterItem_seen (M := [.views, .mash]) (by decide)) (by decide)).trans
    (Block.sync_of_seen (Block.resolveAll_seen (M := [.mash]) (by decide)) (by decide))

theorem Block.itemBegun_sync : (b.itemBegun i).sync =
    { b.sync with objs := tmod {} b.sync.objs (fld i.pay 30 14) (fun o => o.used i.tenant) } := by
  change { (b.unquiet i.tap i.gt).sync with
    objs := tmod {} (b.unquiet i.tap i.gt).sync.objs (fld i.pay 30 14) (fun o => o.used i.tenant) } = _
  rw [Block.unquiet_sync]

theorem Block.itemBegun_obj : (b.itemBegun i).obj n =
    if n = fld i.pay 30 14 then (b.obj n).used i.tenant else b.obj n := by
  rw [Block.obj, Block.itemBegun_sync]
  exact Block.obj_modObj_ite (b := b)

theorem Block.itemBegun_wait : (b.itemBegun i).wait n = b.wait n := by
  rw [Block.wait, Block.itemBegun_sync]
  rfl

theorem Block.itemActed_seen {M : List Area} (h : Area.sub [.mash, .sync] M = true) :
    (b.itemActed i).seen M = b.seen M := by
  unfold Block.itemActed
  split
  · exact Block.waitBegin_seen h
  · split
    · exact Block.endWait_seen h
    · exact Block.modSync_seen (Area.sub_trans (by decide) h)
  · exact Block.signal_seen (Area.sub_trans (by decide) h)
  · exact Block.arriveAt_seen (Area.sub_trans (by decide) h)

/-! ### The tap's view (R214) -/

theorem Block.unquiet_view : (b.unquiet t g).view t = { (b.view t).saw g with quiet := false } := by
  have hflush : ∀ c : Block, c.views = b.views →
      (c.modView t (fun v => { v.saw g with quiet := false })).view t = { (b.view t).saw g with quiet := false } :=
    fun c hc => by rw [Block.view_modView, Block.view, hc]; rfl
  refine hflush _ ?_
  split
  · exact Block.haloFlush_views
  · rfl

theorem Block.afterItem_view : ((b.afterItem t).view t).quiet = ((b.view t).quiet || (b.view t).lossAfter.contains 1) ∧
    ((b.afterItem t).view t).lastSeen = (b.view t).lastSeen := by
  unfold Block.afterItem
  dsimp only
  cases hl : (b.view t).lossAfter.contains 1
  · rw [if_neg Bool.false_ne_true, Block.view_modView, Bool.or_false]
    exact ⟨rfl, rfl⟩
  · rw [if_pos rfl, Block.lossEnd_view, if_pos rfl, Block.view_modView, Bool.or_true]
    exact ⟨rfl, rfl⟩

/-- The tap counts as blocked again, unless a loss followed the item (R214). -/
theorem Block.applySItem_view : ((b.applySItem i).view i.tap).quiet = (b.view i.tap).lossAfter.contains 1 ∧
    ((b.applySItem i).view i.tap).lastSeen = max (b.view i.tap).lastSeen i.gt := by
  have hv : (((b.itemBegun i).itemActed i).resolveAll i.gt).view i.tap =
      { (b.view i.tap).saw i.gt with quiet := false } := by
    refine Eq.trans ?_ Block.unquiet_view
    exact congrArg (fun x => tget ({} : TapView) x i.tap) ((Block.views_of_seen
      (Block.resolveAll_seen (M := [.mash]) (by decide)) (by decide)).trans
      (Block.views_of_seen (Block.itemActed_seen (M := [.mash, .sync]) (by decide)) (by decide)))
  rw [Block.applySItem_eq, Block.afterItem_view.1, Block.afterItem_view.2, hv]
  exact ⟨Bool.false_or _, rfl⟩

/-! ### The known event of R256 -/

/-- What belongs to the known event of R256. -/
def Block.npPart (b : Block) : Option Gt × Nat := (b.sync.npNext, b.sync.npLimit)

theorem Block.npPart_of_sync (h : c.sync = b.sync) : c.npPart = b.npPart := by rw [Block.npPart, h]; rfl

theorem Block.endWait_npPart : (b.endWait t g).npPart = b.npPart :=
  Block.npPart_of_sync (b := b) (c := b.haloFlush t g (some (b.haloProducer (b.wait t).obj))) Block.haloFlush_sync

/-- The block with a wait's stripe noted, from `g` on (R207). -/
def Block.stripeNoted (b : Block) (t stripe : Nat) (g : Gt) : Block :=
  (b.haloFlush t g none).modMash (fun m => { m with
    waitHalo := if stripe = 0 then tdel m.waitHalo t else tput m.waitHalo t (g, stripe) })

theorem Block.stripeNoted_sync : (b.stripeNoted t stripe g).sync = b.sync := Block.haloFlush_sync

/-- The object as a wait begins on it: its kind, its expected arrivals and, at the first waiter, its progress (R251). -/
def Obj.awaited (o : Obj) (a : Nat) (g : Gt) : Obj :=
  let o := if o.kind = 0 then { o with kind := 1 } else o
  let o := if o.kind = 2 && o.count / 4096 = 0 then { o with count := o.count % 4096 + a % 4096 * 4096 } else o
  if o.waits = 0 then o.progress g else o

/-- The object with one more waiter (R251). -/
def Obj.waited (o : Obj) (t a : Nat) (g : Gt) : Obj :=
  { (o.awaited a g).addWaiter t with waits := min 2048 ((o.awaited a g).waits + 1) }

/-- A WAIT_BEGIN of a tap without an open wait (R251). -/
def Block.waitOpened (b : Block) (t x a stripe : Nat) (g : Gt) : Block :=
  ((b.modObj x (fun o => o.waited t a g)).modWait t (fun _ =>
    { obj := x, valid := true, stale := false, phase := ((b.modObj x (fun o => o.waited t a g)).obj x).phase
      await := a, since := g })).stripeNoted t stripe g

/-- A WAIT_BEGIN of a tap that waits for the same object already (R251). -/
def Block.waitRenewed (b : Block) (t x a stripe : Nat) (g : Gt) : Block :=
  (b.modWait t (fun w => { w with await := a, phase := (b.obj x).phase, since := g, stale := false })).stripeNoted t stripe g

/-- The block with a tap's wait for another object ended (R251). -/
def Block.otherEnded (b : Block) (t x : Nat) (g : Gt) : Block :=
  if (b.wait t).valid && (b.wait t).obj != x then
    (b.endWait t g).modSync (fun s => { s with implicitEnd := satAdd 32 s.implicitEnd 1 }) else b

theorem Block.waitBegin_eq : b.waitBegin t x v stripe g =
    if ((b.otherEnded t x g).wait t).valid then (b.otherEnded t x g).waitRenewed t x v stripe g
    else (b.otherEnded t x g).waitOpened t x v stripe g := rfl

theorem Block.waitBegin_npPart : (b.waitBegin t x v stripe g).npPart = b.npPart := by
  have ho : (b.otherEnded t x g).npPart = b.npPart := by
    unfold Block.otherEnded
    split
    · exact Block.endWait_npPart
    · rfl
  rw [Block.waitBegin_eq]
  split
  · exact (Block.npPart_of_sync Block.stripeNoted_sync).trans ho
  · exact (Block.npPart_of_sync Block.stripeNoted_sync).trans ho

theorem Block.signal_npPart : (b.signal t x v g).npPart = b.npPart :=
  (apply_ite Block.npPart _ _ _).trans (ite_self b.npPart)

theorem Block.arriveAt_npPart : (b.arriveAt t x g).npPart = b.npPart :=
  (apply_ite Block.npPart _ _ _).trans (ite_self b.npPart)

theorem Block.itemActed_npPart : (b.itemActed i).npPart = b.npPart := by
  unfold Block.itemActed
  split
  · exact Block.waitBegin_npPart
  · split
    · exact Block.endWait_npPart
    · rfl
  · exact Block.signal_npPart
  · exact Block.arriveAt_npPart

theorem Block.itemBegun_npPart : (b.itemBegun i).npPart = b.npPart := by
  rw [Block.npPart, Block.itemBegun_sync]
  rfl

theorem Block.applySItem_npPart : (b.applySItem i).npPart = b.npPart :=
  (Block.npPart_of_sync Block.applySItem_sync).trans (Block.itemActed_npPart.trans Block.itemBegun_npPart)

theorem Block.applySItem_gt : (b.applySItem i).gt = b.gt :=
  Block.gt_of_seen (Block.applySItem_seen (M := [.views, .mash, .sync]) (by decide)) (by decide) (by decide)

theorem Block.armNoprog_sync : b.armNoprog.sync = { b.sync with
    npNext := if b.sync.waiting = false ∨ b.sync.npLimit = 0 then none
      else some (b.sync.npNext.getD (b.gt + b.npInterval)) } := by
  change { b.sync with npNext := (if (!b.sync.waiting || decide (b.sync.npLimit = 0)) = true then none
    else some (b.sync.npNext.getD (b.gt + b.npInterval))) } = _
  simp only [Bool.or_eq_true, Bool.not_eq_true', decide_eq_true_eq]

/-- The known event after an item: the one there was, where an object had waiters before, and otherwise half a limit from now,
while an object has waiters (R256). -/
theorem Block.rearmed_npNext : (b.armNoprog.applySItem i).armNoprog.sync.npNext =
    if (b.armNoprog.applySItem i).armNoprog.sync.waiting = false ∨ b.sync.npLimit = 0 then none
    else some (if b.sync.waiting then b.sync.npNext.getD (b.gt + b.npInterval) else b.gt + b.npInterval) := by
  have hnp : (b.armNoprog.applySItem i).npPart = b.armNoprog.npPart := Block.applySItem_npPart
  have hnext : (b.armNoprog.applySItem i).sync.npNext = b.armNoprog.sync.npNext := congrArg Prod.fst hnp
  have hlimit : (b.armNoprog.applySItem i).sync.npLimit = b.sync.npLimit := congrArg Prod.snd hnp
  have hgt : (b.armNoprog.applySItem i).gt = b.gt := Block.applySItem_gt
  have hint : (b.armNoprog.applySItem i).npInterval = b.npInterval := by
    rw [Block.npInterval, hlimit]
    rfl
  change (b.armNoprog.applySItem i).armNoprog.sync.npNext =
    if (b.armNoprog.applySItem i).sync.waiting = false ∨ b.sync.npLimit = 0 then none else _
  rw [Block.armNoprog_sync (b := b.armNoprog.applySItem i), hnext, hlimit, hgt, hint, Block.armNoprog_sync (b := b)]
  dsimp only
  by_cases hl : b.sync.npLimit = 0
  · simp only [hl, or_true, if_true]
  · cases hw : b.sync.waiting <;> simp [hl]

/-! ### What each kind of item does (R251) -/

theorem Block.signal_of_barrier (h : (b.obj x).kind = 2) : b.signal t x v g =
    (b.modObj x (fun _ => (b.obj x).progress g)).modSync (fun s => { s with kindMismatch := satAdd 32 s.kindMismatch 1 }) := by
  simp [Block.signal, h]

/-- The object after a SIGNAL by tap `t` (R251). -/
def Obj.signalled (o : Obj) (t v : Nat) (g : Gt) : Obj := { o with
  kind := if o.kind = 0 then 1 else o.kind, count := (o.count + v) % 2 ^ 24
  sig := if o.sigDecl then o.sig else t, sigValid := o.sigValid || !o.sigDecl
  lastTouch := g, npReported := false }

theorem Block.signal_of_counter (h : (b.obj x).kind ≠ 2) : b.signal t x v g =
    b.modObj x (fun _ => (b.obj x).signalled t v g) := by
  unfold Block.signal
  dsimp only
  by_cases h0 : (b.obj x).kind = 0
  · cases hs : (b.obj x).sigDecl <;> simp [h0, hs, Obj.signalled, Obj.progress]
  · cases hs : (b.obj x).sigDecl <;> simp [h, h0, hs, Obj.signalled, Obj.progress]

/-- The object after an ARRIVE by tap `t`, as a barrier (R251). -/
def Obj.arrived (o : Obj) (t : Nat) (g : Gt) : Obj :=
  let arr := (o.count % 4096 + 1) % 4096
  let exp := o.count / 4096
  let o := if o.sigValid && o.sig == t then { o with sigArrived := true } else o
  let o := if exp ≠ 0 && arr = exp then
      let o := { o with count := exp * 4096, phase := !o.phase, sigArrived := false }
      if o.sigDecl then o else { o with sig := t, sigValid := true }
    else { o with count := exp * 4096 + arr }
  o.progress g

theorem Block.arriveAt_of_barrier (h : (b.obj x).kind = 2) :
    b.arriveAt t x g = b.modObj x (fun _ => (b.obj x).arrived t g) := by
  have h0 : ¬ (b.obj x).kind = 0 := by omega
  unfold Block.arriveAt
  dsimp only
  rw [if_neg h0, if_pos h]
  rfl

variable {o : Obj}

/-- The arrival that completes a barrier flips its phase (R251). -/
theorem Obj.arrived_of_complete (h0 : o.count / 4096 ≠ 0) (h : (o.count % 4096 + 1) % 4096 = o.count / 4096) :
    (o.arrived t g).phase = !o.phase ∧ (o.arrived t g).count = o.count / 4096 * 4096 ∧
      (o.sigDecl = false → (o.arrived t g).sig = t ∧ (o.arrived t g).sigValid = true) := by
  unfold Obj.arrived
  cases o.sigValid && o.sig == t <;> cases hd : o.sigDecl <;> simp [h0, h, hd, Obj.progress]

theorem Obj.arrived_of_incomplete (h : o.count / 4096 = 0 ∨ (o.count % 4096 + 1) % 4096 ≠ o.count / 4096) :
    (o.arrived t g).phase = o.phase ∧
      (o.arrived t g).count = o.count / 4096 * 4096 + (o.count % 4096 + 1) % 4096 := by
  unfold Obj.arrived
  dsimp only
  generalize o.count / 4096 = expected at h ⊢
  generalize (o.count % 4096 + 1) % 4096 = arrived at h ⊢
  cases o.sigValid && o.sig == t <;> rcases h with h | h <;> simp [h, Obj.progress]

/-! ### Waits (R251) -/

theorem Block.wait_modWait {f : TapWait → TapWait} : (b.modWait t f).wait n = if n = t then f (b.wait n) else b.wait n := by
  split
  · rename_i h
    subst h
    exact tget_tmod
  · exact tget_tmod_of_ne ‹_›

theorem Block.wait_of_sync (h : c.sync = b.sync) : c.wait n = b.wait n := by rw [Block.wait, h]; rfl

theorem Block.obj_of_sync (h : c.sync = b.sync) : c.obj n = b.obj n := by rw [Block.obj, h]; rfl

theorem Obj.addWaiter_keeps : (o.addWaiter t).phase = o.phase ∧ (o.addWaiter t).waits = o.waits := by
  unfold Obj.addWaiter
  split_ifs <;> exact ⟨rfl, rfl⟩

theorem Obj.awaited_keeps : (o.awaited v g).phase = o.phase ∧ (o.awaited v g).waits = o.waits := by
  unfold Obj.awaited
  dsimp only
  split_ifs <;> exact ⟨rfl, rfl⟩

theorem Obj.waited_phase : (o.waited t v g).phase = o.phase := Obj.addWaiter_keeps.1.trans Obj.awaited_keeps.1

theorem Obj.waited_waits : (o.waited t v g).waits = min 2048 (o.waits + 1) :=
  congrArg (fun w => min 2048 (w + 1)) Obj.awaited_keeps.2

theorem Block.waitBegin_of_closed (h : (b.wait t).valid = false) : b.waitBegin t x v stripe g = b.waitOpened t x v stripe g := by
  have ho : b.otherEnded t x g = b := by
    unfold Block.otherEnded
    rw [h]
    rfl
  rw [Block.waitBegin_eq, ho, h]
  rfl

theorem Block.waitOpened_wait : (b.waitOpened t x v stripe g).wait t =
    { obj := x, valid := true, phase := (b.obj x).phase, await := v, since := g } := by
  refine (Block.wait_of_sync Block.stripeNoted_sync).trans ?_
  rw [Block.wait_modWait, if_pos rfl, Block.obj_modObj, Obj.waited_phase]

theorem Block.waitOpened_obj : (b.waitOpened t x v stripe g).obj x = (b.obj x).waited t v g :=
  (Block.obj_of_sync Block.stripeNoted_sync).trans (Block.obj_modObj (b := b) (f := fun o => o.waited t v g))

theorem Obj.endWait_waits : (o.endWait t).waits = o.waits - 1 := by
  unfold Obj.endWait
  dsimp only
  split_ifs <;> rfl

/-- The block with the halo of a tap's wait placed, as the wait ends (R207). -/
def Block.haloEnded (b : Block) (t : Nat) (g : Gt) : Block :=
  (b.haloFlush t g (some (b.haloProducer (b.wait t).obj))).modMash (fun m => { m with waitHalo := tdel m.waitHalo t })

theorem Block.haloEnded_sync : (b.haloEnded t g).sync = b.sync := Block.haloFlush_sync

theorem Block.endWait_eq : b.endWait t g =
    ((b.haloEnded t g).modWait t (fun w => { w with valid := false, stale := false })).modObj (b.wait t).obj
      (fun x => x.endWait t) := rfl

theorem Block.endWait_wait : (b.endWait t g).wait t = { b.wait t with valid := false, stale := false } := by
  rw [Block.endWait_eq]
  refine (Block.wait_modWait (b := b.haloEnded t g) (f := fun w => { w with valid := false, stale := false })).trans ?_
  rw [if_pos rfl, Block.wait_of_sync Block.haloEnded_sync]

theorem Block.endWait_obj : (b.endWait t g).obj (b.wait t).obj = (b.obj (b.wait t).obj).endWait t := by
  rw [Block.endWait_eq]
  refine (Block.obj_modObj (b := b.haloEnded t g) (f := fun x => x.endWait t)).trans ?_
  rw [Block.obj_of_sync Block.haloEnded_sync]

/-! ### An item, by its kind, after its object is noted (R251) -/

/-- The item's object as the item finds it: with the item's tenant noted among its users. -/
def Block.itemObj (b : Block) (i : SItem) : Obj := (b.obj (fld i.pay 30 14)).used i.tenant

theorem Block.itemBegun_itemObj : (b.itemBegun i).obj (fld i.pay 30 14) = b.itemObj i := by
  rw [Block.itemBegun_obj, if_pos rfl]
  rfl

theorem Block.itemBegun_waits : (b.itemBegun i).sync.waits = b.sync.waits := by rw [Block.itemBegun_sync]

theorem Block.itemActed_of_waitBegin (h : payKind i.pay = 0) : b.itemActed i =
    b.waitBegin i.tap (fld i.pay 30 14) (fld i.pay 0 24) (fld i.pay 24 6) i.gt := by
  rw [Block.itemActed, h]
  rfl

theorem Block.itemActed_of_waitEnd (h : payKind i.pay = 1) : b.itemActed i =
    if (b.wait i.tap).valid && (b.wait i.tap).obj == fld i.pay 30 14 then b.endWait i.tap i.gt
    else b.modSync (fun s => { s with unmatched := satAdd 32 s.unmatched 1 }) := by
  rw [Block.itemActed, h]
  rfl

theorem Block.itemActed_of_signal (h : payKind i.pay = 2) : b.itemActed i =
    b.signal i.tap (fld i.pay 30 14) (fld i.pay 0 24) i.gt := by
  rw [Block.itemActed, h]
  rfl

theorem Block.itemActed_of_arrive (h : payKind i.pay = 3) : b.itemActed i =
    b.arriveAt i.tap (fld i.pay 30 14) i.gt := by
  rw [Block.itemActed, h]
  rfl

theorem Block.itemActed_signal_keeps (h : payKind i.pay = 2) :
    (∀ k, k ≠ fld i.pay 30 14 → ((b.itemBegun i).itemActed i).obj k = b.obj k) ∧
      ((b.itemBegun i).itemActed i).sync.waits = b.sync.waits := by
  have hkeep : ∀ k, k ≠ fld i.pay 30 14 → ∀ f, ((b.itemBegun i).modObj (fld i.pay 30 14) f).obj k = b.obj k :=
    fun k hk f => by rw [Block.obj_modObj_of_ne hk, Block.itemBegun_obj, if_neg hk]
  rw [Block.itemActed_of_signal h]
  by_cases hb : ((b.itemBegun i).obj (fld i.pay 30 14)).kind = 2
  · rw [Block.signal_of_barrier hb]
    exact ⟨fun k hk => hkeep k hk (fun _ => ((b.itemBegun i).obj (fld i.pay 30 14)).progress i.gt), Block.itemBegun_waits⟩
  · rw [Block.signal_of_counter hb]
    exact ⟨fun k hk => hkeep k hk _, Block.itemBegun_waits⟩

theorem Block.itemActed_signal_barrier (h : payKind i.pay = 2) (hk : (b.itemObj i).kind = 2) :
    ((b.itemBegun i).itemActed i).obj (fld i.pay 30 14) = (b.itemObj i).progress i.gt ∧
      ((b.itemBegun i).itemActed i).sync.kindMismatch = satAdd 32 b.sync.kindMismatch 1 := by
  rw [← Block.itemBegun_itemObj] at hk ⊢
  rw [Block.itemActed_of_signal h, Block.signal_of_barrier hk]
  refine ⟨Block.obj_modObj (b := b.itemBegun i)
    (f := fun _ => ((b.itemBegun i).obj (fld i.pay 30 14)).progress i.gt), ?_⟩
  change satAdd 32 (b.itemBegun i).sync.kindMismatch 1 = _
  rw [Block.itemBegun_sync]

theorem Block.itemActed_signal_counter (h : payKind i.pay = 2) (hk : (b.itemObj i).kind ≠ 2) :
    ((b.itemBegun i).itemActed i).obj (fld i.pay 30 14) = (b.itemObj i).signalled i.tap (fld i.pay 0 24) i.gt := by
  rw [← Block.itemBegun_itemObj] at hk ⊢
  rw [Block.itemActed_of_signal h, Block.signal_of_counter hk, Block.obj_modObj]

theorem Block.itemActed_arrive (h : payKind i.pay = 3) (hk : (b.itemObj i).kind = 2) :
    ((b.itemBegun i).itemActed i).obj (fld i.pay 30 14) = (b.itemObj i).arrived i.tap i.gt := by
  rw [← Block.itemBegun_itemObj] at hk ⊢
  rw [Block.itemActed_of_arrive h, Block.arriveAt_of_barrier hk, Block.obj_modObj]

theorem Block.itemActed_waitBegin (h : payKind i.pay = 0) (hw : (b.wait i.tap).valid = false) :
    ((b.itemBegun i).itemActed i).wait i.tap =
        { obj := fld i.pay 30 14, valid := true, phase := (b.itemObj i).phase, await := fld i.pay 0 24, since := i.gt } ∧
      ((b.itemBegun i).itemActed i).obj (fld i.pay 30 14) = (b.itemObj i).waited i.tap (fld i.pay 0 24) i.gt := by
  have hw' : ((b.itemBegun i).wait i.tap).valid = false := by rw [Block.itemBegun_wait, hw]
  rw [Block.itemActed_of_waitBegin h, Block.waitBegin_of_closed hw', Block.waitOpened_wait, Block.waitOpened_obj, Block.itemBegun_itemObj]
  exact ⟨rfl, rfl⟩

theorem Block.itemActed_waitEnd (h : payKind i.pay = 1) (hv : (b.wait i.tap).valid = true)
    (hx : (b.wait i.tap).obj = fld i.pay 30 14) :
    ((b.itemBegun i).itemActed i).wait i.tap = { b.wait i.tap with valid := false, stale := false } ∧
      ((b.itemBegun i).itemActed i).obj (fld i.pay 30 14) = (b.itemObj i).endWait i.tap := by
  have hw : (b.itemBegun i).wait i.tap = b.wait i.tap := Block.itemBegun_wait
  have hobj := Block.endWait_obj (b := b.itemBegun i) (t := i.tap) (g := i.gt)
  rw [hw, hx, Block.itemBegun_itemObj] at hobj
  rw [Block.itemActed_of_waitEnd h, hw, hv, hx, beq_self_eq_true, Bool.and_self, if_pos rfl, Block.endWait_wait, hw]
  exact ⟨rfl, hobj⟩

theorem Block.itemActed_unmatched (h : payKind i.pay = 1)
    (hw : (b.wait i.tap).valid = false ∨ (b.wait i.tap).obj ≠ fld i.pay 30 14) :
    ((b.itemBegun i).itemActed i).obj (fld i.pay 30 14) = b.itemObj i ∧
      ((b.itemBegun i).itemActed i).sync.waits = b.sync.waits ∧
      ((b.itemBegun i).itemActed i).sync.unmatched = satAdd 32 b.sync.unmatched 1 := by
  have hc : ((b.wait i.tap).valid && (b.wait i.tap).obj == fld i.pay 30 14) = false := by
    rcases hw with hw | hw <;> simp [hw]
  rw [Block.itemActed_of_waitEnd h, Block.itemBegun_wait, hc]
  refine ⟨Block.itemBegun_itemObj, Block.itemBegun_waits, ?_⟩
  change satAdd 32 (b.itemBegun i).sync.unmatched 1 = _
  rw [Block.itemBegun_sync]

/-! ### SYNC_ITEM_APPLY -/

variable {s : State} {q : Fin 4} {rest : List SItem}

/-- The block with the oldest S item of a quadrant taken, ready for the item (R248, R256). -/
def Block.itemTaken (b : Block) (q : Nat) (rest : List SItem) : Block :=
  (b.modQuad q (fun x => { x with syncQ := rest })).armNoprog

/-- The block after the oldest S item of a quadrant. -/
def Block.itemApplied (b : Block) (q : Nat) (i : SItem) (rest : List SItem) : Block :=
  ((b.itemTaken q rest).applySItem i).armNoprog

theorem syncItemApply_takes (hr : s.block.running = true) (hq : (s.block.quad q).syncQ = i :: rest) :
    exec (.syncItemApply q) s = .next { s with block := s.block.itemApplied q i rest } := by
  change execSyncItemApply q s = _
  rw [execSyncItemApply, State.run_eq, hq]
  dsimp only
  rw [if_pos hr]
  rfl

theorem Block.armNoprog_quad : b.armNoprog.quad n = b.quad n := rfl

theorem Block.armNoprog_view : b.armNoprog.view n = b.view n := rfl

theorem Block.armNoprog_obj : b.armNoprog.obj n = b.obj n := rfl

theorem Block.armNoprog_wait : b.armNoprog.wait n = b.wait n := rfl

theorem Block.armNoprog_counts : b.armNoprog.sync.waits = b.sync.waits ∧
    b.armNoprog.sync.kindMismatch = b.sync.kindMismatch ∧ b.armNoprog.sync.unmatched = b.sync.unmatched := ⟨rfl, rfl, rfl⟩

theorem Block.itemTaken_obj : (b.itemTaken n rest).obj x = b.obj x := rfl

theorem Block.itemTaken_view : (b.itemTaken n rest).view x = b.view x := rfl

theorem Block.itemTaken_counts : (b.itemTaken n rest).sync.waits = b.sync.waits ∧
    (b.itemTaken n rest).sync.kindMismatch = b.sync.kindMismatch ∧
    (b.itemTaken n rest).sync.unmatched = b.sync.unmatched := ⟨rfl, rfl, rfl⟩

theorem Block.itemApplied_syncQ : ((b.itemApplied n i rest).quad n).syncQ = rest := by
  have hquads : ((b.itemTaken n rest).applySItem i).quads = (b.itemTaken n rest).quads :=
    Block.quads_of_seen (Block.applySItem_seen (M := [.views, .mash, .sync]) (by decide)) (by decide)
  rw [Block.itemApplied, Block.armNoprog_quad, Block.quad, hquads]
  exact congrArg Quadrant.syncQ (Block.quad_modQuad (b := b) (f := fun x => { x with syncQ := rest }))

theorem Block.itemApplied_view : ((b.itemApplied n i rest).view i.tap).quiet = (b.view i.tap).lossAfter.contains 1 ∧
    ((b.itemApplied n i rest).view i.tap).lastSeen = max (b.view i.tap).lastSeen i.gt := by
  rw [Block.itemApplied, Block.armNoprog_view, ← Block.itemTaken_view (b := b) (n := n) (rest := rest)]
  exact Block.applySItem_view

theorem Block.itemApplied_obj :
    (b.itemApplied n i rest).obj x = (((b.itemTaken n rest).itemBegun i).itemActed i).obj x := by
  rw [Block.itemApplied, Block.armNoprog_obj, Block.obj_of_sync Block.applySItem_sync]

theorem Block.itemApplied_wait :
    (b.itemApplied n i rest).wait x = (((b.itemTaken n rest).itemBegun i).itemActed i).wait x := by
  rw [Block.itemApplied, Block.armNoprog_wait, Block.wait_of_sync Block.applySItem_sync]

theorem Block.itemApplied_counts : (b.itemApplied n i rest).sync.waits =
      (((b.itemTaken n rest).itemBegun i).itemActed i).sync.waits ∧
    (b.itemApplied n i rest).sync.kindMismatch = (((b.itemTaken n rest).itemBegun i).itemActed i).sync.kindMismatch ∧
    (b.itemApplied n i rest).sync.unmatched = (((b.itemTaken n rest).itemBegun i).itemActed i).sync.unmatched := by
  rw [Block.itemApplied, Block.armNoprog_counts.1, Block.armNoprog_counts.2.1, Block.armNoprog_counts.2.2,
    Block.applySItem_sync]
  exact ⟨rfl, rfl, rfl⟩

theorem Block.itemApplied_npNext : (b.itemApplied n i rest).sync.npNext =
    if (b.itemApplied n i rest).sync.waiting = false ∨ b.sync.npLimit = 0 then none
    else some (if b.sync.waiting then b.sync.npNext.getD (b.gt + b.npInterval) else b.gt + b.npInterval) := by
  rw [Block.itemApplied, Block.itemTaken, Block.rearmed_npNext]
  rfl

theorem Block.itemApplied_signal_keeps (h : payKind i.pay = 2) :
    (∀ k, k ≠ fld i.pay 30 14 → (b.itemApplied n i rest).obj k = b.obj k) ∧
      (b.itemApplied n i rest).sync.waits = b.sync.waits := by
  obtain ⟨hobj, hwaits⟩ := Block.itemActed_signal_keeps (b := b.itemTaken n rest) h
  exact ⟨fun k hk => by rw [Block.itemApplied_obj, hobj k hk, Block.itemTaken_obj],
    by rw [Block.itemApplied_counts.1, hwaits, Block.itemTaken_counts.1]⟩

theorem Block.itemApplied_signal_barrier (h : payKind i.pay = 2) (hk : (b.itemObj i).kind = 2) :
    (b.itemApplied n i rest).obj (fld i.pay 30 14) = (b.itemObj i).progress i.gt ∧
      (b.itemApplied n i rest).sync.kindMismatch = satAdd 32 b.sync.kindMismatch 1 := by
  rw [Block.itemApplied_obj, Block.itemApplied_counts.2.1]
  exact Block.itemActed_signal_barrier (b := b.itemTaken n rest) h hk

theorem Block.itemApplied_signal_counter (h : payKind i.pay = 2) (hk : (b.itemObj i).kind ≠ 2) :
    (b.itemApplied n i rest).obj (fld i.pay 30 14) = (b.itemObj i).signalled i.tap (fld i.pay 0 24) i.gt := by
  rw [Block.itemApplied_obj]
  exact Block.itemActed_signal_counter (b := b.itemTaken n rest) h hk

theorem Block.itemApplied_arrive (h : payKind i.pay = 3) (hk : (b.itemObj i).kind = 2) :
    (b.itemApplied n i rest).obj (fld i.pay 30 14) = (b.itemObj i).arrived i.tap i.gt := by
  rw [Block.itemApplied_obj]
  exact Block.itemActed_arrive (b := b.itemTaken n rest) h hk

theorem Block.itemApplied_waitBegin (h : payKind i.pay = 0) (hw : (b.wait i.tap).valid = false) :
    (b.itemApplied n i rest).wait i.tap =
        { obj := fld i.pay 30 14, valid := true, phase := (b.itemObj i).phase, await := fld i.pay 0 24, since := i.gt } ∧
      ((b.itemApplied n i rest).obj (fld i.pay 30 14)).waits = min 2048 ((b.itemObj i).waits + 1) := by
  obtain ⟨hbegun, hwaited⟩ := Block.itemActed_waitBegin (b := b.itemTaken n rest) h hw
  rw [Block.itemApplied_obj, Block.itemApplied_wait, hbegun, hwaited]
  exact ⟨rfl, Obj.waited_waits⟩

theorem Block.itemApplied_waitEnd (h : payKind i.pay = 1) (hv : (b.wait i.tap).valid = true)
    (hx : (b.wait i.tap).obj = fld i.pay 30 14) :
    ((b.itemApplied n i rest).wait i.tap).valid = false ∧ ((b.itemApplied n i rest).wait i.tap).stale = false ∧
      ((b.itemApplied n i rest).obj (fld i.pay 30 14)).waits = (b.itemObj i).waits - 1 := by
  obtain ⟨hended, hleft⟩ := Block.itemActed_waitEnd (b := b.itemTaken n rest) h hv hx
  rw [Block.itemApplied_obj, Block.itemApplied_wait, hended, hleft]
  exact ⟨rfl, rfl, Obj.endWait_waits⟩

theorem Block.itemApplied_unmatched (h : payKind i.pay = 1)
    (hw : (b.wait i.tap).valid = false ∨ (b.wait i.tap).obj ≠ fld i.pay 30 14) :
    (b.itemApplied n i rest).obj (fld i.pay 30 14) = b.itemObj i ∧
      (b.itemApplied n i rest).sync.waits = b.sync.waits ∧
      (b.itemApplied n i rest).sync.unmatched = satAdd 32 b.sync.unmatched 1 := by
  rw [Block.itemApplied_obj, Block.itemApplied_counts.1, Block.itemApplied_counts.2.2]
  exact Block.itemActed_unmatched (b := b.itemTaken n rest) h hw

end

/-- Settles O40: the item leaves its queue and the tap's view follows the losses after it; what the item does to its object and to
the tap's wait is read off by its kind, for the object as the item's tenant has used it. -/
theorem syncItemsAct : Obligations.SyncItemsAct := by
  rintro s q i rest n x v o hr hq rfl rfl rfl rfl
  refine ⟨_, syncItemApply_takes hr hq, Block.itemApplied_syncQ, Block.itemApplied_view.1, Block.itemApplied_view.2,
    Block.itemApplied_npNext, fun h => ?_, fun h hk h0 hc => ?_, fun h hk hc => ?_,
    fun h hw => Block.itemApplied_waitBegin h hw, fun h hv hx => Block.itemApplied_waitEnd h hv hx,
    fun h hw => Block.itemApplied_unmatched h hw⟩
  · exact ⟨(Block.itemApplied_signal_keeps h).1, (Block.itemApplied_signal_keeps h).2,
      fun hk => Block.itemApplied_signal_barrier h hk, fun hk => Block.itemApplied_signal_counter h hk⟩
  · dsimp only
    rw [Block.itemApplied_arrive h hk]
    exact Obj.arrived_of_complete h0 hc
  · dsimp only
    rw [Block.itemApplied_arrive h hk]
    exact Obj.arrived_of_incomplete hc

end Sys2Proof.Machine

namespace Sys2Proof.Machine

/-! ## MASH_READ, LOOP_STATUS and ASY_READ (R182, R245, R337, R344, R345) -/

/-- The words of an entry of a Mash table (R344). -/
def Block.mashWords (b : Block) (table i : Nat) : List Word :=
  match table with
  | 0 => [b.amap i]
  | 1 => [b.agent i]
  | 2 => [w32 (pack [(8, tget cUnresolved b.mash.reasons (4 * i)), (8, tget cUnresolved b.mash.reasons (4 * i + 1)),
      (8, tget cUnresolved b.mash.reasons (4 * i + 2)), (8, tget cUnresolved b.mash.reasons (4 * i + 3))])]
  | _ => (b.slot i).w

/-- The words of an entry of an Assay table, or of a unit's counters (R345). -/
def Block.assayWords (b : Block) (table i : Nat) : List Word :=
  match table with
  | 0 => [b.binding i]
  | 1 => [(b.unit i).ctl]
  | 2 => b.profile i
  | 3 => [b.ref i]
  | _ => [w32 (b.unit i).rowsSkipped, w32 (b.unit i).badFmt, w32 (b.unit i).foreign, w32 (b.unit i).beatsDropped]

/-- A unit whose counters are cleared (R337). -/
def AsyUnit.uncounted (u : AsyUnit) : AsyUnit := { u with rowsSkipped := 0, badFmt := 0, foreign := 0, beatsDropped := 0 }

section
variable {f : Fin 65} {p : Pkt} {s : State} {b : Block} {w i : Word}

theorem cmdMashRead_body (hw : p.params = [w, i]) : cmdMashRead.body (callOf f p) b =
    okW (b.mashWords (fld w 0 2) i.toNat ++ List.replicate (5 - (b.mashWords (fld w 0 2) i.toNat).length) 0) b := by
  cases p; cases hw; rfl

theorem cmdMashRead_range (hw : p.params = [w, i]) (hi : i.toNat < [2048, 128, 8, 16].getD (fld w 0 2) 0) :
    cmdMashRead.range (callOf f p) = true := by
  unfold cmdMashRead
  dsimp only
  rw [callOf_fld hw, callOf_w hw]
  change i.toNat < [2048, 128, 8, 16].getD (fld ([w, i].getD 0 0) 0 2) 0 at hi
  generalize fld ([w, i].getD 0 0) 0 2 = table at hi ⊢
  rcases table with _ | _ | _ | _ | table
  iterate 4 exact decide_eq_true hi
  exact absurd hi (Nat.not_lt_zero _)

theorem cmdMashRead_owns (hw : p.params = [w, i])
    (ho : (fld w 0 2 = 1 ∧ aOwner (b.agent i.toNat) = f.val) ∨ (fld w 0 2 = 3 ∧ (b.slot i.toNat).owner = f.val)) :
    cmdMashRead.owns (callOf f p) b = true := by
  have hk : (callOf f p).fld 0 0 2 = fld w 0 2 := callOf_fld hw ..
  have hi : (callOf f p).w 1 = i := callOf_w hw 1
  unfold cmdMashRead
  dsimp only
  rw [hk, hi]
  rcases ho with ⟨ht, ho⟩ | ⟨ht, ho⟩
  · rw [ht]
    exact beq_iff_eq.2 ho
  · rw [ht]
    exact beq_iff_eq.2 ho

theorem Block.begun_mashWords {op table k : Nat} : (b.begun op f p).mashWords table k = b.mashWords table k := rfl

theorem mashRead_reads (hw : p.params = [w, i]) (hi : i.toNat < [2048, 128, 8, 16].getD (fld w 0 2) 0)
    (ho : f.val = 64 ∨ (fld w 0 2 = 1 ∧ aOwner (s.block.agent i.toNat) = f.val) ∨
      (fld w 0 2 = 3 ∧ (s.block.slot i.toNat).owner = f.val)) (h : s.block.hears f p 5 false) :
    ∃ t, exec (.mashRead f p) s = .next t ∧ s.block.answered t.block f p stDone
        (s.block.mashWords (fld w 0 2) i.toNat ++ List.replicate (5 - (s.block.mashWords (fld w 0 2) i.toNat).length) 0) ∧
      s.block.calm t.block f [] := by
  have hl : p.params.length = 2 := by rw [hw]; rfl
  have hb := cmdMashRead_body (f := f) (b := s.block.begun 0x44 f p) hw
  rw [Block.begun_mashWords] at hb
  obtain ⟨t, ht, ha, hc, -⟩ := heard_calm (op := 0x44) (e := cmdMashRead) (P := fun _ => True) (away := []) h rfl
    (Nat.le_refl 5) (absurd · Bool.false_ne_true) hl.ge hl.le (cmdMashRead_range hw hi)
    (ho.imp_right fun ho => .inr ⟨rfl, cmdMashRead_owns hw ho⟩) (by rw [hb]; rfl) (.inl (by decide))
    (fun M hM => cmdMashRead_seen hM) (by decide) trivial
  exact ⟨t, ht, ha, hc⟩

theorem cmdLoopStatus_body (hw : p.params = [w]) : cmdLoopStatus.body (callOf f p) b =
    okW [w32 (pack [(1, b2n (b.slot (fld w 0 4)).win.isSome),
        (1, b2n ((b.slot (fld w 0 4)).deferred.isSome || (b.slot (fld w 0 4)).overDue)), (5, b.mash.tokens)]),
      w32 (((b.slot (fld w 0 4)).win.map Window.iterLast).getD 0), w32 (b.slot (fld w 0 4)).records] b := by
  have hk : (callOf f p).fld 0 0 4 = fld w 0 4 := callOf_fld hw ..
  unfold cmdLoopStatus
  dsimp only
  rw [hk]
  cases (b.slot (fld w 0 4)).win <;> rfl

theorem loopStatus_reads (hw : p.params = [w]) (ho : f.val = 64 ∨ (s.block.slot (fld w 0 4)).owner = f.val)
    (h : s.block.hears f p 3 false) :
    ∃ t, exec (.loopStatus f p) s = .next t ∧ s.block.calm t.block f [] ∧
      s.block.answered t.block f p stDone
        [w32 (pack [(1, b2n (s.block.slot (fld w 0 4)).win.isSome),
            (1, b2n ((s.block.slot (fld w 0 4)).deferred.isSome || (s.block.slot (fld w 0 4)).overDue)),
            (5, s.block.mash.tokens)]),
          w32 (((s.block.slot (fld w 0 4)).win.map Window.iterLast).getD 0), w32 (s.block.slot (fld w 0 4)).records] := by
  have hl : p.params.length = 1 := by rw [hw]; rfl
  have hb := cmdLoopStatus_body (f := f) (b := s.block.begun 0x45 f p) hw
  have hk : (callOf f p).fld 0 0 4 = fld w 0 4 := callOf_fld hw ..
  have hown : (s.block.slot (fld w 0 4)).owner = f.val →
      cmdLoopStatus.owns (callOf f p) (s.block.begun 0x45 f p) = true := fun ho => by
    unfold cmdLoopStatus
    dsimp only
    rw [hk]
    exact beq_iff_eq.2 ho
  obtain ⟨t, ht, ha, hc, -⟩ := heard_calm (op := 0x45) (e := cmdLoopStatus) (P := fun _ => True) (away := []) h rfl
    (Nat.le_refl 3) (absurd · Bool.false_ne_true) hl.ge hl.le rfl (ho.imp_right fun ho => .inr ⟨rfl, hown ho⟩)
    (by rw [hb]; rfl) (.inl (by decide)) (fun M hM => cmdLoopStatus_seen hM) (by decide) trivial
  exact ⟨t, ht, hc, ha⟩

theorem cmdAsyRead_body (hw : p.params = [w, i]) : cmdAsyRead.body (callOf f p) b =
    okW (b.assayWords (fld w 0 3) i.toNat ++ List.replicate (4 - (b.assayWords (fld w 0 3) i.toNat).length) 0)
      (if bit w 31 && f.val == 64 && fld w 0 3 == 4 then b.modUnit i.toNat AsyUnit.uncounted else b) := by
  cases p; cases hw; rfl

theorem cmdAsyRead_range (hw : p.params = [w, i]) (hi : i.toNat < [2048, 16, 64, 32768, 16].getD (fld w 0 3) 0) :
    cmdAsyRead.range (callOf f p) = true := by
  unfold cmdAsyRead
  dsimp only
  rw [callOf_fld hw, callOf_w hw]
  change i.toNat < [2048, 16, 64, 32768, 16].getD (fld ([w, i].getD 0 0) 0 3) 0 at hi
  generalize fld ([w, i].getD 0 0) 0 3 = table at hi ⊢
  rcases table with _ | _ | _ | _ | _ | table
  iterate 5 exact decide_eq_true hi
  exact absurd hi (Nat.not_lt_zero _)

theorem cmdAsyRead_owns (hw : p.params = [w, i])
    (ho : (fld w 0 3 = 2 ∧ profOwner (b.profile i.toNat) = f.val) ∨ (fld w 0 3 = 3 ∧ b.refMine f i.toNat = true)) :
    cmdAsyRead.owns (callOf f p) b = true := by
  have hk : (callOf f p).fld 0 0 3 = fld w 0 3 := callOf_fld hw ..
  have hi : (callOf f p).w 1 = i := callOf_w hw 1
  unfold cmdAsyRead
  dsimp only
  rw [hk, hi]
  rcases ho with ⟨ht, ho⟩ | ⟨ht, ho⟩
  · rw [ht]
    exact beq_iff_eq.2 ho
  · rw [ht]
    exact ho

theorem Block.begun_assayWords {op table k : Nat} : (b.begun op f p).assayWords table k = b.assayWords table k := rfl

theorem asyRead_reads (hw : p.params = [w, i]) (hi : i.toNat < [2048, 16, 64, 32768, 16].getD (fld w 0 3) 0)
    (ho : f.val = 64 ∨ (fld w 0 3 = 2 ∧ profOwner (s.block.profile i.toNat) = f.val) ∨
      (fld w 0 3 = 3 ∧ s.block.refMine f i.toNat = true)) (h : s.block.hears f p 4 false) :
    ∃ t, exec (.asyRead f p) s = .next t ∧ s.block.answered t.block f p stDone
        (s.block.assayWords (fld w 0 3) i.toNat ++ List.replicate (4 - (s.block.assayWords (fld w 0 3) i.toNat).length) 0) ∧
      (¬(fld w 0 3 = 4 ∧ bit w 31 = true) → s.block.calm t.block f []) ∧
      (fld w 0 3 = 4 → bit w 31 = true → s.block.calm t.block f [.assay] ∧
        t.block.assay = { s.block.assay with units := t.block.assay.units } ∧
        ∀ u, t.block.unit u = if u = i.toNat then (s.block.unit u).uncounted else s.block.unit u) := by
  have hl : p.params.length = 2 := by rw [hw]; rfl
  have hb := cmdAsyRead_body (f := f) (b := s.block.begun 0x54 f p) hw
  rw [Block.begun_assayWords] at hb
  have hown := ho.imp_right fun ho => Or.inr (a := cmdAsyRead.priv = .all) (And.intro (rfl : cmdAsyRead.priv = .own)
    (cmdAsyRead_owns (b := s.block.begun 0x54 f p) hw ho))
  by_cases hc : fld w 0 3 = 4 ∧ bit w 31 = true
  · have hf : f.val = 64 := by
      rcases ho with ho | ⟨ht, -⟩ | ⟨ht, -⟩
      · exact ho
      · omega
      · omega
    rw [if_pos (by simp [hc, hf])] at hb
    obtain ⟨t, ht, ha, hcalm, hassay, hunit⟩ := heard_calm (op := 0x54) (e := cmdAsyRead) (P := fun t =>
        t.block.assay = { s.block.assay with units := t.block.assay.units } ∧
        ∀ u, t.block.unit u = if u = i.toNat then (s.block.unit u).uncounted else s.block.unit u) (away := [.assay]) h rfl
      (Nat.le_refl 4) (absurd · Bool.false_ne_true) hl.ge hl.le (cmdAsyRead_range hw hi) hown (by rw [hb]; rfl)
      (.inl (by decide)) (fun M hM => cmdAsyRead_seen hM) (by decide) (by
        rw [hb]
        dsimp only
        refine ⟨by rw [Block.respond_assay]; rfl, fun u => ?_⟩
        rw [Block.respond_unit]
        exact Block.unit_modUnit_ite)
    exact ⟨t, ht, ha, fun hn => absurd hc hn, fun _ _ => ⟨hcalm, hassay, hunit⟩⟩
  · rw [if_neg (by simpa using fun hbit _ htable => hc ⟨htable, hbit⟩)] at hb
    obtain ⟨t, ht, ha, hcalm, -⟩ := heard_calm (op := 0x54) (e := cmdAsyRead) (P := fun _ => True) (away := []) h rfl
      (Nat.le_refl 4) (absurd · Bool.false_ne_true) hl.ge hl.le (cmdAsyRead_range hw hi) hown (by rw [hb]; rfl)
      (.inl (by decide)) (fun M _ => by rw [hb]; rfl) (by decide) trivial
    exact ⟨t, ht, ha, fun _ => hcalm, fun h1 h2 => absurd ⟨h1, h2⟩ hc⟩

end
end Sys2Proof.Machine

namespace Sys2Proof.Machine

/-! ## The tables of the Mash array under a change (R180, R181, R184, R212) -/

theorem Block.maps_of_seen {M : List Area} {b c : Block} (h : b.seen M = c.seen M) (n : Area.maps ∉ M) :
    b.mash.maps = c.mash.maps := by
  simpa [Block.seen, Area.see, n] using congrArg Seen.maps h

section
variable {b : Block} {c : Call} {g : Gt} {f : Block → Block} {h : Mash → Mash}

theorem Block.cutAll_maps : (b.cutAll g).mash.maps = b.mash.maps :=
  Block.maps_of_seen (Block.cutAll_seen (M := [.mash]) (by decide)) (by decide)

theorem Block.retable_maps : (b.retable f).mash.maps = (f (b.cutAll (b.gt + b.cycles 1))).mash.maps :=
  Block.maps_of_seen (Block.resolveAll_seen (M := [.mash]) (by decide)) (by decide)

theorem Block.cutAll_agentMap : (b.cutAll g).mash.agentMap = b.mash.agentMap := congrArg Prod.fst Block.cutAll_maps

theorem Block.cutAll_agents : (b.cutAll g).mash.agents = b.mash.agents :=
  congrArg (fun m => m.2.1) Block.cutAll_maps

theorem Block.cutAll_reasons : (b.cutAll g).mash.reasons = b.mash.reasons :=
  congrArg (fun m => m.2.2) Block.cutAll_maps

theorem Block.retable_agentMap : (b.retable f).mash.agentMap = (f (b.cutAll (b.gt + b.cycles 1))).mash.agentMap :=
  congrArg Prod.fst Block.retable_maps

theorem Block.retable_agents : (b.retable f).mash.agents = (f (b.cutAll (b.gt + b.cycles 1))).mash.agents :=
  congrArg (fun m => m.2.1) Block.retable_maps

theorem Block.retable_reasons : (b.retable f).mash.reasons = (f (b.cutAll (b.gt + b.cycles 1))).mash.reasons :=
  congrArg (fun m => m.2.2) Block.retable_maps

theorem Block.touchOwners_mash {o n : Nat} : (b.touchOwners c o n).mash = b.mash :=
  Block.mash_of_seen (Block.touchOwners_seen (M := [.tenants, .out]) (by decide)) (by decide)

end

/-- What is read of a table after a run of entries was written. -/
theorem tget_putRun {α β : Type} [DecidableEq α] {d : α} {g : β → α} (e : β) {ws : List β} {t : Tbl α} {k i : Nat} :
    tget d (putRun d g t k ws) i = if k ≤ i ∧ i < k + ws.length then g (ws.getD (i - k) e) else tget d t i := by
  induction ws generalizing t k with
  | nil =>
    rw [if_neg (by simp)]
    rfl
  | cons w ws ih =>
    rw [putRun, ih, tget_tset_ite, List.length_cons]
    rcases Nat.lt_trichotomy i k with hi | rfl | hi
    · rw [if_neg (by omega), if_neg (by omega), if_neg (by omega)]
    · rw [if_neg (by omega), if_pos rfl, if_pos (by omega), Nat.sub_self, List.getD_cons_zero]
    · rw [show i - k = i - (k + 1) + 1 by omega, List.getD_cons_succ, if_neg (by omega : i ≠ k)]
      exact if_congr (by omega) rfl rfl

/-- The entries of the reason map words, one by one (R184). -/
theorem codesIn_flatten_getD {ws : List Word} {i : Nat} (h : i < 4 * ws.length) :
    (ws.map codesIn).flatten.getD i 0 = fld (ws.getD (i / 4) 0) (8 * (i % 4)) 8 := by
  induction ws generalizing i with
  | nil => exact absurd h (Nat.not_lt_zero _)
  | cons w ws ih =>
    rw [List.map_cons, List.flatten_cons]
    rcases i with _ | _ | _ | _ | i
    iterate 4 rfl
    rw [show (i + 1 + 1 + 1 + 1) / 4 = i / 4 + 1 by omega, show (i + 1 + 1 + 1 + 1) % 4 = i % 4 by omega, List.getD_cons_succ,
      ← ih (by rw [List.length_cons] at h; omega)]
    rfl

theorem codesIn_flatten_length {ws : List Word} : (ws.map codesIn).flatten.length = 4 * ws.length := by
  induction ws with
  | nil => rfl
  | cons w ws ih =>
    rw [List.map_cons, List.flatten_cons, List.length_append, ih, List.length_cons]
    change 4 + 4 * ws.length = _
    omega

/-! ## AGENT_MAP_WRITE and REASON_MAP_WRITE -/

section
variable {f : Fin 65} {p : Pkt} {s : State} {b : Block} {w : Word} {ws : List Word}

theorem cmdAgentMapWrite_amap (hw : p.params = w :: ws) (i : Nat) : (cmdAgentMapWrite.body (callOf f p) b).2.amap i =
    if fld w 0 11 ≤ i ∧ i < fld w 0 11 + ws.length then ws.getD (i - fld w 0 11) 0 &&& 0x7FFF#32 else b.amap i := by
  have hk : (callOf f p).fld 0 0 11 = fld w 0 11 := callOf_fld hw ..
  have hd : (callOf f p).ws.drop 1 = ws := by rw [callOf, hw]; rfl
  unfold cmdAgentMapWrite ok
  dsimp only
  rw [hk, hd, Block.amap, Block.retable_agentMap]
  exact (tget_putRun 0).trans (by rw [Block.cutAll_agentMap]; rfl)

theorem agentMapWrite_writes (hw : p.params = w :: ws) (hne : ws ≠ []) (hl : ws.length ≤ 254)
    (hr : fld w 0 11 + ws.length ≤ 2048) (hf : f.val = 64) (h : s.block.hears f p 0 false) :
    ∃ t, exec (.agentMapWrite f p) s = .next t ∧ s.block.answered t.block f p stDone [] ∧
      s.block.calm t.block f [.mash, .maps] ∧
      (∀ i, t.block.amap i = if fld w 0 11 ≤ i ∧ i < fld w 0 11 + ws.length then
        ws.getD (i - fld w 0 11) 0 &&& 0x7FFF#32 else s.block.amap i) := by
  have hlen : p.params.length = ws.length + 1 := by rw [hw]; rfl
  have hpos : 0 < ws.length := List.length_pos_iff.2 hne
  refine heard_calm (op := 0x40) (e := cmdAgentMapWrite) h rfl (Nat.le_refl 0) (absurd · Bool.false_ne_true)
    (show 2 ≤ p.params.length by omega) (show p.params.length ≤ 255 by omega) ?_ (.inl hf) rfl (.inl (by decide))
    (fun M hM => cmdAgentMapWrite_seen hM) (by decide) fun i => ?_
  · refine decide_eq_true ?_
    rw [callOf_fld hw]
    change fld w 0 11 + (p.params.length - 1) ≤ 2048
    omega
  · dsimp only
    rw [Block.amap, Block.respond_mash]
    exact cmdAgentMapWrite_amap (b := s.block.begun 0x40 f p) hw i

theorem cmdReasonMapWrite_reason (hw : p.params = ws) (hl : ws.length = 8) {i : Nat} (hi : i < 32) :
    tget cUnresolved (cmdReasonMapWrite.body (callOf f p) b).2.mash.reasons i = fld (ws.getD (i / 4) 0) (8 * (i % 4)) 8 := by
  have hd : (callOf f p).ws = ws := hw
  unfold cmdReasonMapWrite ok
  dsimp only
  rw [hd, Block.retable_reasons]
  refine (tget_putRun 0).trans ?_
  rw [codesIn_flatten_length, hl, if_pos (by omega), Nat.sub_zero, codesIn_flatten_getD (by omega)]
  rfl

theorem reasonMapWrite_writes (hw : p.params = ws) (hl : ws.length = 8) (hr : ∀ w ∈ ws, ∀ k ∈ codesIn w, k ≤ 0x84)
    (hf : f.val = 64) (h : s.block.hears f p 0 false) :
    ∃ t, exec (.reasonMapWrite f p) s = .next t ∧ s.block.answered t.block f p stDone [] ∧
      s.block.calm t.block f [.mash, .maps] ∧
      (∀ i, i < 32 → tget cUnresolved t.block.mash.reasons i = fld (ws.getD (i / 4) 0) (8 * (i % 4)) 8) := by
  have hlen : p.params.length = 8 := by rw [hw, hl]
  refine heard_calm (op := 0x42) (e := cmdReasonMapWrite) h rfl (Nat.le_refl 0) (absurd · Bool.false_ne_true)
    hlen.ge hlen.le ?_ (.inl hf) rfl (.inl (by decide)) (fun M hM => cmdReasonMapWrite_seen hM) (by decide) fun i hi => ?_
  · change p.params.all (fun w => (codesIn w).all (fun k => decide (k ≤ 0x84))) = true
    rw [hw]
    exact List.all_eq_true.2 fun w hw => List.all_eq_true.2 fun k hk => decide_eq_true (hr w hw k hk)
  · dsimp only
    rw [Block.respond_mash]
    exact cmdReasonMapWrite_reason hw hl hi

end
end Sys2Proof.Machine

namespace Sys2Proof.Machine

/-! ## AGENT_WRITE (R181, R335, R336) -/

/-- The block with an agent's entry written; an agent that leaves use or changes its owner or its loop slot starts with clear
rows (R212). -/
def Block.agentPut (b : Block) (a : Nat) (old new : Word) : Block :=
  let b := b.modMash (fun m => { m with agents := tset agentReset m.agents a new })
  if (aEn old && !aEn new) || old >>> 1 ≠ new >>> 1 then b.clearRows [a] else b

section
variable {f : Fin 65} {p : Pkt} {s : State} {b : Block} {c : Call} {F : Block → Block} {n a o o' : Nat} {old new w v : Word}

/-- A change of the Mash tables does to the owners what notes do (R462). -/
theorem Block.retable_touchOwners_tenant (hF : ∀ b : Block, (F b).seen [.mash, .maps] = b.seen [.mash, .maps]) :
    ∃ x, ((b.retable F).touchOwners c o o').tenant n = { b.tenant n with cfgChanged := x } := by
  have ht : (b.retable F).tenants = b.tenants :=
    Block.tenants_of_seen (Block.retable_seen (M := [.mash, .maps]) (by decide) hF) (by decide)
  have hn : (b.retable F).tenant n = b.tenant n := by rw [Block.tenant, ht]; rfl
  exact hn ▸ Block.touchOwners_tenant

theorem Block.agentPut_agents : (b.agentPut a old new).mash.agents = tset agentReset b.mash.agents a new :=
  (apply_ite (fun b : Block => b.mash.agents) _ _ _).trans (ite_self _)

theorem Block.agentPut_seen : (b.agentPut a old new).seen [.mash, .maps] = b.seen [.mash, .maps] := by
  refine Block.seen_ite ?_ ?_
  · rw [Block.clearRows_seen (by decide), Block.modMash_seen_all (by decide)]
  · exact Block.modMash_seen_all (by decide)

theorem cmdAgentWrite_body : cmdAgentWrite.body c b =
    ok ((b.retable (fun d => d.agentPut (c.fld 0 0 7) (b.agent (c.fld 0 0 7)) (b.agentNew c (b.agent (c.fld 0 0 7))))).touchOwners c
      (aOwner (b.agent (c.fld 0 0 7))) (aOwner (b.agentNew c (b.agent (c.fld 0 0 7))))) := rfl

theorem cmdAgentWrite_tenant (g : Nat) : ∃ x, (cmdAgentWrite.body c b).2.tenant g = { b.tenant g with cfgChanged := x } := by
  rw [cmdAgentWrite_body]
  exact Block.retable_touchOwners_tenant fun _ => Block.agentPut_seen

theorem cmdAgentWrite_agent (hw : p.params = [w, v]) (i : Nat) : (cmdAgentWrite.body (callOf f p) b).2.agent i =
    if i = fld w 0 7 then b.agentNew (callOf f p) (b.agent i) else b.agent i := by
  have ha : (callOf f p).fld 0 0 7 = fld w 0 7 := callOf_fld hw ..
  rw [cmdAgentWrite_body, ha, ok, Block.agent, Block.touchOwners_mash, Block.retable_agents, Block.agentPut_agents,
    Block.cutAll_agents, tget_tset_ite]
  split
  · rename_i hi
    rw [hi]
  · rfl

theorem agentWrite_writes (hw : p.params = [w, v]) (hr : f.val = 64 → fld v 1 7 ≤ 64)
    (ho : f.val = 64 ∨ (aOwner (s.block.agent (fld w 0 7)) = f.val ∧ (s.block.slot (aLoop v)).owner = f.val))
    (h : s.block.hears f p 0 false) :
    ∃ t, exec (.agentWrite f p) s = .next t ∧ s.block.answered t.block f p stDone [] ∧
      s.block.noted t.block f [.mash, .maps] ∧
      (∀ i, t.block.agent i = if i = fld w 0 7 then s.block.agentNew (callOf f p) (s.block.agent i) else s.block.agent i) := by
  have hl : p.params.length = 2 := by rw [hw]; rfl
  have ht := cmdAgentWrite_tenant (c := callOf f p) (b := s.block.begun 0x41 f p)
  simp only [Block.begun_tenant] at ht
  refine heard_noted (op := 0x41) (e := cmdAgentWrite) h rfl (Nat.le_refl 0) (absurd · Bool.false_ne_true) hl.ge hl.le
    ?_ (ho.imp_right fun ho => .inr ⟨rfl, ?_⟩) (by rw [cmdAgentWrite_body]; rfl) (.inl (by decide))
    (fun M hM => cmdAgentWrite_seen hM) ht (by decide) fun i => ?_
  · change (f.val != 64 || decide ((callOf f p).fld 1 1 7 ≤ 64)) = true
    rw [callOf_fld hw]
    by_cases hf : f.val = 64
    · simpa [hf] using hr hf
    · simp [hf]
  · obtain ⟨hagent, hslot⟩ := ho
    change (aOwner (s.block.agent ((callOf f p).fld 0 0 7)) == f.val &&
      (s.block.slot (aLoop ((callOf f p).w 1))).owner == f.val) = true
    rw [callOf_fld hw, callOf_w hw]
    exact Bool.and_eq_true_iff.2 ⟨beq_iff_eq.2 hagent, beq_iff_eq.2 hslot⟩
  · dsimp only
    rw [Block.agent, Block.respond_mash]
    exact cmdAgentWrite_agent (b := s.block.begun 0x41 f p) hw i

end

/-! ## LOOP_WRITE (R193, R213, R335, R369) -/

/-- The owner word of a loop slot as LOOP_WRITE takes it: whole from the operator, without the owner's fields from a tenant. -/
def LoopSlot.ownerWord (x : LoopSlot) (f : Nat) (v : Word) : Word :=
  if f = 64 then v &&& 0x3FFF#32 else mix (x.word 0) v 0x3F#32

/-- The written slot goes to another owner. -/
def LoopSlot.moves (x : LoopSlot) (f : Nat) (v : Word) : Bool := fld (x.ownerWord f v) 7 7 != x.owner

/-- The words of a loop slot after LOOP_WRITE: with a new owner what the previous one wrote is at reset. -/
def LoopSlot.wordsNew (x : LoopSlot) (f : Nat) (v v1 v2 v3 v4 : Word) : List Word :=
  if x.moves f v then [x.ownerWord f v &&& 0x3FC0#32, 0, 0, 0, 20000#32]
  else [x.ownerWord f v, v1 &&& 0x7FFFF#32, v2, v3, v4]

/-- What LOOP_WRITE ends in a slot before its words change: all of it with a new owner, and otherwise its open window, where the
slot is disabled or its window source changes. -/
def Block.loopEnded (b : Block) (k : Nat) (x : LoopSlot) (f : Nat) (v : Word) : Block :=
  if x.moves f v then ((b.clearSlotRows k x.owner).leaveSlot k x.owner).resetSlot k
  else if !bit (x.ownerWord f v) 0 || bit (x.ownerWord f v) 2 != x.wsrc then b.dropWindow k else b

/-- What LOOP_WRITE starts in a slot after its words changed: its counts, where it is enabled or its window source changes. -/
def Block.loopStarted (b : Block) (k : Nat) (x : LoopSlot) (f : Nat) (v period : Word) : Block :=
  if bit (x.ownerWord f v) 0 && !x.moves f v && (!x.en || bit (x.ownerWord f v) 2 != x.wsrc) then
    b.modSlot k (fun s => { s with
      records := if x.en then s.records else 0
      winCount := 0
      nextOpen := if bit (x.ownerWord f v) 2 then
        some (cdiv (b.gt + b.cycles 1) (period.toNat * 256) * (period.toNat * 256)) else none })
  else b

/-- The change that LOOP_WRITE makes to the tables. -/
def Block.loopPut (b : Block) (k : Nat) (x : LoopSlot) (f : Nat) (v v1 v2 v3 v4 : Word) : Block :=
  ((b.loopEnded k x f v).modSlot k (fun s => { s with w := x.wordsNew f v v1 v2 v3 v4 })).loopStarted k x f v v3

section
variable {b : Block} {x : LoopSlot} {f k m owner : Nat} {v v1 v2 v3 v4 period : Word}

/-! ### The owner word -/

theorem fld_loopOwner_and : fld (v &&& 0x3FFF#32) 7 7 = fld v 7 7 := by
  rw [fld_eq_extract, fld_eq_extract, BitVec.extractLsb'_and,
    show (0x3FFF#32).extractLsb' 7 7 = BitVec.allOnes 7 from rfl, BitVec.and_allOnes]

theorem fld_loopOwner_mix {old : Word} : fld (mix old v 0x3F#32) 7 7 = fld old 7 7 := by
  rw [fld_eq_extract, fld_eq_extract, mix, BitVec.extractLsb'_or, BitVec.extractLsb'_and, BitVec.extractLsb'_and,
    show (~~~0x3F#32).extractLsb' 7 7 = BitVec.allOnes 7 from rfl,
    show (0x3F#32).extractLsb' 7 7 = 0#7 from rfl, BitVec.and_allOnes, BitVec.and_zero, BitVec.or_zero]

/-- Only the operator's write moves a slot to another owner (R335). -/
theorem LoopSlot.moves_iff : x.moves f v = true ↔ f = 64 ∧ fld v 7 7 ≠ x.owner := by
  unfold LoopSlot.moves LoopSlot.ownerWord
  rw [bne_iff_ne]
  split
  · rename_i hf
    rw [fld_loopOwner_and]
    exact ⟨fun h => ⟨hf, h⟩, And.right⟩
  · rename_i hf
    rw [fld_loopOwner_mix]
    exact ⟨fun h => absurd rfl h, fun h => absurd h.1 hf⟩

theorem LoopSlot.wordsNew_eq : x.wordsNew f v v1 v2 v3 v4 =
    if f = 64 ∧ fld v 7 7 ≠ x.owner then [v &&& 0x3FC0#32, 0, 0, 0, 20000#32]
    else [if f = 64 then v &&& 0x3FFF#32 else mix (x.word 0) v 0x3F#32, v1 &&& 0x7FFFF#32, v2, v3, v4] := by
  unfold LoopSlot.wordsNew
  by_cases hm : f = 64 ∧ fld v 7 7 ≠ x.owner
  · rw [if_pos hm, if_pos (LoopSlot.moves_iff.2 hm), LoopSlot.ownerWord, if_pos hm.1, BitVec.and_assoc,
      show 0x3FFF#32 &&& 0x3FC0#32 = 0x3FC0#32 from rfl]
  · rw [if_neg hm, if_neg (fun h => hm (LoopSlot.moves_iff.1 h))]
    rfl

/-! ### The tables -/

/-- What the previous owner's agents are after a slot left their owner (R369). -/
def Block.leftAgents (b : Block) (k owner : Nat) : Tbl Word :=
  tmap agentReset b.mash.agents (fun _ w => if aOwner w = owner && aLoop w = k then w &&& 0xFF#32 else w)

theorem Block.leftAgents_agent {n : Nat} : tget agentReset (b.leftAgents k owner) n =
    if aOwner (b.agent n) = owner ∧ aLoop (b.agent n) = k then b.agent n &&& 0xFF#32 else b.agent n := by
  refine (tget_tmap (d := agentReset) ?_).trans ?_
  · exact (congrArg₂ (ite _) rfl rfl).trans (ite_self agentReset)
  · simp only [Bool.and_eq_true, decide_eq_true_eq]
    rfl

theorem Block.dropWindow_maps : (b.dropWindow k).mash.maps = b.mash.maps :=
  Block.maps_of_seen (Block.dropWindow_seen (M := [.mash]) (by decide)) (by decide)

theorem Block.loopEnded_maps : (b.loopEnded k x f v).mash.maps =
    (b.mash.agentMap, if x.moves f v then b.leftAgents k x.owner else b.mash.agents, b.mash.reasons) := by
  unfold Block.loopEnded
  cases x.moves f v
  · simp only [Bool.false_eq_true, if_false]
    split
    · exact Block.dropWindow_maps
    · rfl
  · rfl

theorem Block.loopStarted_maps : (b.loopStarted k x f v period).mash.maps = b.mash.maps :=
  (apply_ite (fun b : Block => b.mash.maps) _ _ _).trans (ite_self _)

theorem Block.loopPut_maps : (b.loopPut k x f v v1 v2 v3 v4).mash.maps =
    (b.mash.agentMap, if x.moves f v then b.leftAgents k x.owner else b.mash.agents, b.mash.reasons) :=
  Block.loopStarted_maps.trans Block.loopEnded_maps

/-! ### The slots' words -/

theorem Block.slot_w_of_loopPart {c : Block} (h : c.loopPart = b.loopPart) (n : Nat) : (c.slot n).w = (b.slot n).w :=
  show (c.slot n).still.w = (b.slot n).still.w from congrArg LoopSlot.w (LoopPart.slot_of_eq h n)

theorem Block.modSlot_slot_w {g : LoopSlot → LoopSlot} (hg : ∀ y, (g y).w = y.w) :
    ((b.modSlot k g).slot m).w = (b.slot m).w := by
  rw [Block.slot_modSlot_ite]
  split
  · exact hg _
  · rfl

theorem Block.dropWindow_slot_w : ((b.dropWindow k).slot m).w = (b.slot m).w := by
  unfold Block.dropWindow
  split
  · rw [Block.modSlot_slot_w]
    exact fun _ => rfl
  · dsimp only
    rw [Block.modSlot_slot_w, Block.slot_modMash rfl, Block.slot_w_of_loopPart Block.cutSlot_loopPart]
    exact fun _ => rfl

theorem Block.resetSlot_slot_of_ne (hm : m ≠ k) : (b.resetSlot k).slot m = b.slot m := by
  unfold Block.resetSlot
  rw [Block.slot_modMash rfl, Block.slot_modSlot_of_ne hm]

theorem Block.loopEnded_slot_w (hm : m ≠ k) : ((b.loopEnded k x f v).slot m).w = (b.slot m).w := by
  unfold Block.loopEnded
  split
  · rw [Block.resetSlot_slot_of_ne hm]
    rfl
  · split
    · exact Block.dropWindow_slot_w
    · rfl

theorem Block.loopStarted_slot_w : ((b.loopStarted k x f v period).slot m).w = (b.slot m).w := by
  unfold Block.loopStarted
  split
  · rw [Block.slot_modSlot_ite]
    split <;> rfl
  · rfl

theorem Block.loopPut_slot_w : ((b.loopPut k x f v v1 v2 v3 v4).slot m).w =
    if m = k then x.wordsNew f v v1 v2 v3 v4 else (b.slot m).w := by
  rw [Block.loopPut, Block.loopStarted_slot_w, Block.slot_modSlot_ite]
  split
  · rfl
  · rename_i hm
    exact Block.loopEnded_slot_w hm

theorem Block.loopPut_seen : (b.loopPut k x f v v1 v2 v3 v4).seen [.mash, .maps] = b.seen [.mash, .maps] := by
  have hended : (b.loopEnded k x f v).seen [.mash, .maps] = b.seen [.mash, .maps] := by
    refine Block.seen_ite ?_ (Block.seen_ite (Block.dropWindow_seen (by decide)) rfl)
    rw [Block.resetSlot_seen (by decide), Block.leaveSlot_seen (by decide), Block.clearSlotRows_seen (by decide)]
  refine Block.seen_ite ?_ ?_
  · rw [Block.modSlot_seen (by decide), Block.modSlot_seen (by decide), hended]
  · rw [Block.modSlot_seen (by decide), hended]

end

section
variable {f : Fin 65} {p : Pkt} {s : State} {b : Block} {w x0 x1 x2 x3 x4 : Word}

theorem cmdLoopWrite_body (hw : p.params = [w, x0, x1, x2, x3, x4]) : cmdLoopWrite.body (callOf f p) b =
    ok ((b.retable (fun d => d.loopPut (fld w 0 4) (b.slot (fld w 0 4)) f x0 x1 x2 x3 x4)).touchOwners (callOf f p)
      (b.slot (fld w 0 4)).owner (fld ((b.slot (fld w 0 4)).ownerWord f x0) 7 7)) := by
  cases p; cases hw; rfl

theorem cmdLoopWrite_tenant (hw : p.params = [w, x0, x1, x2, x3, x4]) (g : Nat) :
    ∃ x, (cmdLoopWrite.body (callOf f p) b).2.tenant g = { b.tenant g with cfgChanged := x } := by
  rw [cmdLoopWrite_body hw]
  exact Block.retable_touchOwners_tenant fun _ => Block.loopPut_seen

theorem cmdLoopWrite_maps (hw : p.params = [w, x0, x1, x2, x3, x4]) : (cmdLoopWrite.body (callOf f p) b).2.mash.maps =
    (b.mash.agentMap, if (b.slot (fld w 0 4)).moves f x0 then b.leftAgents (fld w 0 4) (b.slot (fld w 0 4)).owner
      else b.mash.agents, b.mash.reasons) := by
  rw [cmdLoopWrite_body hw, ok, Block.touchOwners_mash, Block.retable_maps, Block.loopPut_maps, Block.cutAll_agentMap,
    Block.cutAll_reasons, Block.leftAgents, Block.cutAll_agents]
  rfl

theorem cmdLoopWrite_agent (hw : p.params = [w, x0, x1, x2, x3, x4]) (i : Nat) :
    (cmdLoopWrite.body (callOf f p) b).2.agent i =
      if f.val = 64 ∧ fld x0 7 7 ≠ (b.slot (fld w 0 4)).owner ∧ aOwner (b.agent i) = (b.slot (fld w 0 4)).owner ∧
        aLoop (b.agent i) = fld w 0 4 then b.agent i &&& 0xFF#32 else b.agent i := by
  have hagents := congrArg (fun m => tget agentReset m.2.1 i) (cmdLoopWrite_maps (f := f) (b := b) hw)
  refine hagents.trans ?_
  dsimp only
  by_cases hm : f.val = 64 ∧ fld x0 7 7 ≠ (b.slot (fld w 0 4)).owner
  · rw [if_pos (LoopSlot.moves_iff.2 hm), Block.leftAgents_agent]
    exact if_congr ⟨fun h => ⟨hm.1, hm.2, h⟩, fun h => h.2.2⟩ rfl rfl
  · rw [if_neg (fun h => hm (LoopSlot.moves_iff.1 h)), if_neg (fun h => hm ⟨h.1, h.2.1⟩)]
    rfl

theorem cmdLoopWrite_slot_w (hw : p.params = [w, x0, x1, x2, x3, x4]) (m : Nat) :
    ((cmdLoopWrite.body (callOf f p) b).2.slot m).w =
      if m = fld w 0 4 then (b.slot (fld w 0 4)).wordsNew f x0 x1 x2 x3 x4 else (b.slot m).w := by
  rw [cmdLoopWrite_body hw, ok, Block.slot, Block.touchOwners_mash]
  refine (Block.slot_w_of_loopPart Block.resolveAll_loopPart m).trans ?_
  rw [Block.loopPut_slot_w, Block.slot_w_of_loopPart Block.cutAll_loopPart]

theorem cmdLoopWrite_range (hw : p.params = [w, x0, x1, x2, x3, x4]) (h3 : 20000 ≤ x3.toNat) (h4 : 20000 ≤ x4.toNat)
    (hr : f.val = 64 → fld x0 7 7 ≤ 64) : cmdLoopWrite.range (callOf f p) = true := by
  change (decide (20000 ≤ ((callOf f p).w 4).toNat) && decide (20000 ≤ ((callOf f p).w 5).toNat) &&
    (f.val != 64 || decide ((callOf f p).fld 1 7 7 ≤ 64))) = true
  rw [callOf_w hw, callOf_w hw, callOf_fld hw]
  by_cases hf : f.val = 64
  · simpa [hf, h3, h4] using hr hf
  · simp [hf, h3, h4]

theorem loopWrite_writes (hw : p.params = [w, x0, x1, x2, x3, x4]) (h3 : 20000 ≤ x3.toNat) (h4 : 20000 ≤ x4.toNat)
    (hr : f.val = 64 → fld x0 7 7 ≤ 64) (ho : f.val = 64 ∨ (s.block.slot (fld w 0 4)).owner = f.val)
    (h : s.block.hears f p 0 false) :
    ∃ t, exec (.loopWrite f p) s = .next t ∧ s.block.answered t.block f p stDone [] ∧
      s.block.noted t.block f [.mash, .maps] ∧
      (∀ i, t.block.agent i =
        if f.val = 64 ∧ fld x0 7 7 ≠ (s.block.slot (fld w 0 4)).owner ∧
            aOwner (s.block.agent i) = (s.block.slot (fld w 0 4)).owner ∧ aLoop (s.block.agent i) = fld w 0 4
        then s.block.agent i &&& 0xFF#32 else s.block.agent i) ∧
      t.block.mash.agentMap = s.block.mash.agentMap ∧ t.block.mash.reasons = s.block.mash.reasons ∧
      (t.block.slot (fld w 0 4)).w = (s.block.slot (fld w 0 4)).wordsNew f x0 x1 x2 x3 x4 ∧
      (∀ m, m ≠ fld w 0 4 → (t.block.slot m).w = (s.block.slot m).w) := by
  have hl : p.params.length = 6 := by rw [hw]; rfl
  have ht := cmdLoopWrite_tenant (f := f) (b := s.block.begun 0x43 f p) hw
  simp only [Block.begun_tenant] at ht
  have hmaps := cmdLoopWrite_maps (f := f) (b := s.block.begun 0x43 f p) hw
  have hslot := cmdLoopWrite_slot_w (f := f) (b := s.block.begun 0x43 f p) hw
  have hown : (s.block.slot (fld w 0 4)).owner = f.val →
      cmdLoopWrite.owns (callOf f p) (s.block.begun 0x43 f p) = true := fun ho => by
    change ((s.block.slot ((callOf f p).fld 0 0 4)).owner == f.val) = true
    rw [callOf_fld hw]
    exact beq_iff_eq.2 ho
  refine heard_noted (op := 0x43) (e := cmdLoopWrite) h rfl (Nat.le_refl 0) (absurd · Bool.false_ne_true) hl.ge hl.le
    (cmdLoopWrite_range hw h3 h4 hr) (ho.imp_right fun ho => .inr ⟨rfl, hown ho⟩) (by rw [cmdLoopWrite_body hw]; rfl)
    (.inl (by decide)) (fun M hM => cmdLoopWrite_seen hM) ht (by decide) ?_
  dsimp only
  simp only [Block.agent, Block.slot, Block.respond_mash]
  refine ⟨fun i => cmdLoopWrite_agent (b := s.block.begun 0x43 f p) hw i, congrArg Prod.fst hmaps,
    congrArg (fun m => m.2.2) hmaps, (hslot _).trans (if_pos rfl), fun m hm => (hslot m).trans (if_neg hm)⟩

end

/-- Settles O15: a write changes the entries that it names and, where a loop slot goes to another owner, the agents that leave it;
a read answers the words of its table; ASY_READ with CLEAR clears one unit's counters. -/
theorem mashCommandsAct : Obligations.MashCommandsAct := by
  refine ⟨fun f p s => ⟨fun w ws hw hne hl hr hf h => agentMapWrite_writes hw hne hl hr hf h, fun w v hw hr ho h => ?_,
    fun ws hw hl hr hf h => reasonMapWrite_writes hw hl hr hf h, fun w x0 x1 x2 x3 x4 hw h3 h4 hr ho h => ?_⟩,
    fun f p s => ⟨fun w i hw hi ho h => ?_, fun w hw ho h => loopStatus_reads hw ho h, fun w i hw hi ho h => ?_⟩⟩
  · have hv : (callOf f p).w 1 = v := callOf_w hw 1
    have hf : (callOf f p).f = f.val := rfl
    simpa only [Block.agentNew, hv, hf] using agentWrite_writes hw hr ho h
  · rw [← LoopSlot.wordsNew_eq]
    exact loopWrite_writes hw h3 h4 hr ho h
  · obtain ⟨t, ht, ha, hc⟩ := mashRead_reads hw hi ho h
    exact ⟨t, _, ht, ha, hc, fun h => by rw [h]; rfl, fun h => by rw [h]; rfl, fun h => by rw [h]; rfl,
      fun h => by rw [h]; rfl⟩
  · obtain ⟨t, ht, ha, hcalm, hclear⟩ := asyRead_reads hw hi ho h
    exact ⟨t, _, ht, ha, fun h => by rw [h]; rfl, fun h => by rw [h]; rfl, fun h => by rw [h]; rfl,
      fun h => by rw [h]; rfl, fun h => by rw [h]; rfl, hcalm, hclear⟩

end Sys2Proof.Machine

namespace Sys2Proof.Machine

/-! ## What the Assay units hold for their taps (R218 to R223, R227, R239) -/

/-- What a change at tap `n` of unit `u` leaves alone of the units: their control words and the taps that they served last, and
what they keep for every other tap. -/
def Block.apart (b : Block) (u n : Nat) : (Nat → Word × Nat) × (Nat → Nat → AsyTap) :=
  (fun v => ((b.unit v).ctl, (b.unit v).rr), fun v m => if v = u ∧ m = n then {} else b.asyTap v m)

section
variable {b c : Block} {u v n m k cause : Nat} {g : Gt} {z : Tensor} {r : Row}

/-! ### Reading a unit's tap -/

theorem Block.asyTap_of_assay (h : c.assay = b.assay) : c.asyTap v m = b.asyTap v m := by
  rw [Block.asyTap, Block.unit, h]; rfl

@[simp] theorem Block.asyTap_modAsyTap {f : AsyTap → AsyTap} : (b.modAsyTap u n f).asyTap u n = f (b.asyTap u n) := by
  rw [Block.asyTap, Block.modAsyTap, Block.unit_modUnit]
  exact tget_tmod

theorem Block.asyTap_modAsyTap_of_ne {f : AsyTap → AsyTap} (h : ¬(v = u ∧ m = n)) :
    (b.modAsyTap u n f).asyTap v m = b.asyTap v m := by
  rw [Block.asyTap, Block.modAsyTap, Block.unit_modUnit_ite]
  split
  · rename_i hv
    exact tget_tmod_of_ne fun hm => h ⟨hv, hm⟩
  · rfl

theorem Block.asyTap_modUnit {f : AsyUnit → AsyUnit} (h : ∀ x, (f x).taps = x.taps) :
    (b.modUnit k f).asyTap v m = b.asyTap v m := by
  rw [Block.asyTap, Block.unit_modUnit_ite]
  split
  · rw [h]; rfl
  · rfl

theorem Block.unit_modAsyTap {f : AsyTap → AsyTap} :
    ∃ taps, (b.modAsyTap u n f).unit v = { b.unit v with taps := taps } := by
  rw [Block.modAsyTap, Block.unit_modUnit_ite]
  split <;> exact ⟨_, rfl⟩

/-! ### What the basic changes leave -/

theorem Block.apart_of_assay (h : c.assay = b.assay) : c.apart u n = b.apart u n := by
  simp only [Block.apart, Block.asyTap, Block.unit, h]

theorem Block.modUnit_apart {f : AsyUnit → AsyUnit} (hctl : ∀ x, (f x).ctl = x.ctl) (hrr : ∀ x, (f x).rr = x.rr)
    (htaps : ∀ x, (f x).taps = x.taps) : (b.modUnit k f).apart u n = b.apart u n := by
  have hset : ∀ v, (((b.modUnit k f).unit v).ctl, ((b.modUnit k f).unit v).rr) = ((b.unit v).ctl, (b.unit v).rr) := fun v => by
    rw [Block.unit_modUnit_ite]
    split
    · rw [hctl, hrr]
    · rfl
  simp only [Block.apart, hset, Block.asyTap_modUnit htaps]

theorem Block.modAsyTap_apart {f : AsyTap → AsyTap} : (b.modAsyTap u n f).apart u n = b.apart u n := by
  refine Prod.ext (funext fun v => ?_) (funext fun v => funext fun m => ?_)
  · obtain ⟨taps, h⟩ := Block.unit_modAsyTap (b := b) (u := u) (n := n) (v := v) (f := f)
    exact (congrArg (fun x : AsyUnit => (x.ctl, x.rr)) h).trans rfl
  · by_cases h : v = u ∧ m = n
    · exact (if_pos h).trans (if_pos h).symm
    · exact (if_neg h).trans ((Block.asyTap_modAsyTap_of_ne h).trans (if_neg h).symm)

theorem Block.ctl_of_apart (h : c.apart u n = b.apart u n) (v : Nat) : (c.unit v).ctl = (b.unit v).ctl :=
  congrArg Prod.fst (congrFun (congrArg Prod.fst h) v)

theorem Block.rr_of_apart (h : c.apart u n = b.apart u n) (v : Nat) : (c.unit v).rr = (b.unit v).rr :=
  congrArg Prod.snd (congrFun (congrArg Prod.fst h) v)

theorem Block.asyTap_of_apart (h : c.apart u n = b.apart u n) (hm : m ≠ n) : c.asyTap u m = b.asyTap u m := by
  have hne : ¬(u = u ∧ m = n) := fun h => hm h.2
  exact (if_neg hne).symm.trans ((congrFun (congrFun (congrArg Prod.snd h) u) m).trans (if_neg hne))

/-! ### The end of a tensor, and skipped rows -/

/-- What a unit keeps for a tap after the tap's tensor ended (R223). -/
def AsyTap.ended (x : AsyTap) (z : Tensor) (cause : Nat) : AsyTap :=
  { x with
    tensor := none
    rowIndex := if cause = 2 then x.rowIndex else 0
    cont := if cause = 2 then some (z.tid, z.fmt) else none }

theorem Block.endTensor_eq : b.endTensor u n z cause g =
    (b.modUnit u (fun x => { x with closed := x.closed ++ [b.tensorRecords u z cause g] })).modAsyTap u n
      (fun x => x.ended z cause) := rfl

theorem Block.endTensor_asyTap : (b.endTensor u n z cause g).asyTap u n = (b.asyTap u n).ended z cause := by
  have htap : (b.modUnit u (fun x => { x with closed := x.closed ++ [b.tensorRecords u z cause g] })).asyTap u n =
      b.asyTap u n := Block.asyTap_modUnit fun _ => rfl
  rw [Block.endTensor_eq, Block.asyTap_modAsyTap, htap]

theorem Block.endTensor_closed :
    ((b.endTensor u n z cause g).unit u).closed = (b.unit u).closed ++ [b.tensorRecords u z cause g] := by
  rw [Block.endTensor_eq]
  obtain ⟨taps, h⟩ := Block.unit_modAsyTap (u := u) (n := n) (v := u) (f := fun x => x.ended z cause)
    (b := b.modUnit u (fun x => { x with closed := x.closed ++ [b.tensorRecords u z cause g] }))
  rw [h, Block.unit_modUnit]

theorem Block.endTensor_apart : (b.endTensor u n z cause g).apart u n = b.apart u n :=
  Block.modAsyTap_apart.trans (Block.modUnit_apart (fun _ => rfl) (fun _ => rfl) fun _ => rfl)

theorem Block.skipRows_apart : (b.skipRows u n k).apart u n = b.apart u n :=
  Block.modAsyTap_apart.trans (Block.modUnit_apart (fun _ => rfl) (fun _ => rfl) fun _ => rfl)

/-! ### The commit of a row (R227, R239, R244) -/

/-- The judgement of a tap's row under its tensor's profile. -/
def Block.rowJudged (b : Block) (u n : Nat) (r : Row) (z : Tensor) : Verdict :=
  b.judgeRow z.prof r (b.asyTap u n).rowIndex

/-- The tensor after a row entered it, before a full row table is written. -/
def Block.tensorFilled (b : Block) (u n : Nat) (r : Row) (z : Tensor) : Tensor :=
  z.commit r (b.rowJudged u n r z) (b.asyTap u n).rowIndex

/-- A tensor whose full row table was written (R244). -/
def Tensor.tableWritten (z : Tensor) : Tensor := if 480 ≤ z.rowTab.length then { z with rowTab := [] } else z

/-- The events of a committed row, and the record of a full row table. -/
def Block.rowReported (b : Block) (u n : Nat) (r : Row) (z : Tensor) : Block :=
  let b' := b.rowEvents u (b.tensorFilled u n r z) (b.rowJudged u n r z)
  if 480 ≤ (b.tensorFilled u n r z).rowTab.length then
    b'.offerRec (b'.yRecord u 1 (b.tensorFilled u n r z) (b.tensorFilled u n r z).rowTable)
  else b'

/-- What a unit keeps for a tap after its row entered its tensor, now `z`. -/
def AsyTap.rowTaken (x : AsyTap) (z : Tensor) : AsyTap :=
  { x with row := none, rowIndex := (x.rowIndex + 1) % 2 ^ 32, tensor := some z }

/-- The block after the commit of row `r` to tensor `z`, which stays open. -/
def Block.rowEntered (b : Block) (u n : Nat) (r : Row) (z : Tensor) : Block :=
  (b.rowReported u n r z).modAsyTap u n (fun x => x.rowTaken (b.tensorFilled u n r z).tableWritten)

theorem Block.rowReported_assay : (b.rowReported u n r z).assay = b.assay := by
  refine Block.assay_of_seen (M := [.stations, .quads, .tenants, .power]) (Block.seen_ite ?_ ?_) (by decide)
  · rw [Block.offerRec_seen (by decide), Block.rowEvents_seen (by decide)]
  · exact Block.rowEvents_seen (by decide)

theorem Block.rowEntered_asyTap :
    (b.rowEntered u n r z).asyTap u n = (b.asyTap u n).rowTaken (b.tensorFilled u n r z).tableWritten := by
  rw [Block.rowEntered, Block.asyTap_modAsyTap, Block.asyTap_of_assay Block.rowReported_assay]

theorem Block.rowEntered_apart : (b.rowEntered u n r z).apart u n = b.apart u n :=
  Block.modAsyTap_apart.trans (Block.apart_of_assay Block.rowReported_assay)

theorem Block.commitRow_of_row_none (h : (b.asyTap u n).row = none) : b.commitRow u n = b := by
  unfold Block.commitRow
  simp only [h]

theorem Block.commitRow_of_done (hr : (b.asyTap u n).row = some r) (hz : (b.asyTap u n).tensor = some z)
    (hd : r.done = true) : b.commitRow u n =
      if (b.tensorFilled u n r z).tableWritten.rows = 2 ^ 20 then
        (b.rowEntered u n r z).endTensor u n (b.tensorFilled u n r z).tableWritten 2 (b.rowEntered u n r z).gt
      else b.rowEntered u n r z := by
  unfold Block.commitRow
  simp only [hr, hz, hd, Bool.not_true, Bool.false_eq_true, if_false, decide_eq_true_eq]
  rfl

/-- All that the commit of a tap's row can do. -/
theorem Block.commitRow_cases : b.commitRow u n = b ∨ ∃ r z, b.commitRow u n = b.rowEntered u n r z ∨
    ∃ z' g, b.commitRow u n = (b.rowEntered u n r z).endTensor u n z' 2 g := by
  rcases hr : (b.asyTap u n).row with - | r
  · exact .inl (Block.commitRow_of_row_none hr)
  rcases hz : (b.asyTap u n).tensor with - | z
  · exact .inl (by unfold Block.commitRow; simp only [hr, hz])
  rcases hd : r.done
  · exact .inl (by unfold Block.commitRow; simp only [hr, hz, hd, Bool.not_false, if_true])
  · refine .inr ⟨r, z, ?_⟩
    rw [Block.commitRow_of_done hr hz hd]
    split
    · exact .inr ⟨_, _, rfl⟩
    · exact .inl rfl

theorem Block.commitRow_apart : (b.commitRow u n).apart u n = b.apart u n := by
  rcases Block.commitRow_cases (b := b) (u := u) (n := n) with h | ⟨r, z, h | ⟨z', g, h⟩⟩
  · rw [h]
  · rw [h, Block.rowEntered_apart]
  · rw [h, Block.endTensor_apart, Block.rowEntered_apart]

/-! ### Closing a tensor (R220, R223) -/

/-- A row in progress of a tap whose tensor closes is skipped (R220). -/
def Block.rowCut (b : Block) (u n : Nat) : Block :=
  match (b.asyTap u n).row with
  | some r =>
    if r.inProgress then (b.skipRows u n 1).modAsyTap u n (fun x => { x with row := some { r with bad := true } }) else b
  | none => b

theorem Block.rowCut_apart : (b.rowCut u n).apart u n = b.apart u n := by
  unfold Block.rowCut
  split
  · split
    · rw [Block.modAsyTap_apart, Block.skipRows_apart]
    · rfl
  · rfl

/-- The tap's tensor, if one is open, ends. -/
def Block.endOpen (b : Block) (u n cause : Nat) (g : Gt) : Block :=
  match (b.asyTap u n).tensor with
  | some z => b.endTensor u n z cause g
  | none => b

theorem Block.endOpen_of_some (h : (b.asyTap u n).tensor = some z) : b.endOpen u n cause g = b.endTensor u n z cause g := by
  unfold Block.endOpen
  simp only [h]

theorem Block.endOpen_of_none (h : (b.asyTap u n).tensor = none) : b.endOpen u n cause g = b := by
  unfold Block.endOpen
  simp only [h]

/-- Closing commits the row, cuts off what is in progress, and ends what is still open. -/
theorem Block.closeTensor_eq : b.closeTensor u n cause g =
    (if ((b.commitRow u n).asyTap u n).tensor = none then b.commitRow u n
      else (b.commitRow u n).rowCut u n).endOpen u n cause g := by
  unfold Block.closeTensor
  dsimp only
  split
  · rename_i h
    rw [if_pos h, Block.endOpen_of_none h]
  · rename_i h
    rw [if_neg (by rw [h]; exact Option.some_ne_none _)]
    rfl

theorem Block.closeTensor_apart : (b.closeTensor u n cause g).apart u n = b.apart u n := by
  have hend : ∀ c : Block, (c.endOpen u n cause g).apart u n = c.apart u n := fun c => by
    rcases h : (c.asyTap u n).tensor with - | z
    · rw [Block.endOpen_of_none h]
    · rw [Block.endOpen_of_some h, Block.endTensor_apart]
  rw [Block.closeTensor_eq, hend]
  split
  · exact Block.commitRow_apart
  · rw [Block.rowCut_apart, Block.commitRow_apart]

/-- After a close no tensor of the tap is open (R223). -/
theorem Block.closeTensor_tensor : ((b.closeTensor u n cause g).asyTap u n).tensor = none := by
  rw [Block.closeTensor_eq]
  generalize (if ((b.commitRow u n).asyTap u n).tensor = none then b.commitRow u n else (b.commitRow u n).rowCut u n) = c
  rcases h : (c.asyTap u n).tensor with - | z
  · rw [Block.endOpen_of_none h, h]
  · rw [Block.endOpen_of_some h, Block.endTensor_asyTap]
    rfl

theorem Block.closeTensor_of_row_none (hz : (b.asyTap u n).tensor = some z) (hr : (b.asyTap u n).row = none) :
    b.closeTensor u n cause g = b.endTensor u n z cause g := by
  have hcut : b.rowCut u n = b := by
    unfold Block.rowCut
    simp only [hr]
  rw [Block.closeTensor_eq, Block.commitRow_of_row_none hr, hcut, ite_self, Block.endOpen_of_some hz]

/-! ### Closing tensors of a unit (R223, R246) -/

/-- Closing the tensors of a list of taps leaves none open that was open at one of them, and opens none. -/
theorem Block.each_closeTensor_tensor {l : List Nat} (h : n ∈ l ∨ (b.asyTap u n).tensor = none) :
    ((b.each l (fun b k => b.closeTensor u k cause b.gt)).asyTap u n).tensor = none := by
  induction l generalizing b with
  | nil => exact h.resolve_left List.not_mem_nil
  | cons k l ih =>
    refine ih ?_
    by_cases hk : n = k
    · exact .inr (hk ▸ Block.closeTensor_tensor)
    · rw [Block.asyTap_of_apart Block.closeTensor_apart hk]
      exact h.imp_left fun hn => (List.mem_cons.1 hn).resolve_left hk

theorem Block.closeUnitTensors_ctl : ((b.closeUnitTensors u).unit v).ctl = (b.unit v).ctl := by
  have hclose : ((b.each (tkeys (b.unit u).taps) (fun b k => b.closeTensor u k 3 b.gt)).unit v).ctl = (b.unit v).ctl :=
    Block.each_keeps (p := fun b => (b.unit v).ctl) fun _ k => Block.ctl_of_apart (Block.closeTensor_apart (n := k)) v
  refine Eq.trans ?_ hclose
  rw [Block.closeUnitTensors, Block.unit_modUnit_ite]
  split <;> rfl

end

end Sys2Proof.Machine

namespace Sys2Proof.Machine

/-! ## Beats, rows, silent tensors and records (R218, R222, R223, R227, R231, R239, R244) -/

/-- What a commit counts in a tensor (R227): rows, elements, NaNs, infinities and the largest magnitude. -/
def Tensor.tally (z : Tensor) : Nat × Nat × Nat × Nat × Nat := (z.rows, z.elems, z.nans, z.infs, z.absKey)

/-- What a tensor keeps from its opening (R223, R231). -/
def Tensor.opening (z : Tensor) : Nat × Nat × Nat × Gt × Option Nat := (z.tap, z.tid, z.fmt, z.openGt, z.profile)

/-- The block after a record left the oldest closed tensor of a unit (R239). -/
def Block.recordLeft (b : Block) (u : Nat) (more : List Rec) (rest : List (List Rec)) : Block :=
  b.modUnit u (fun y => { y with closed := if more.isEmpty then rest else more :: rest })

section
variable {b : Block} {s : State} {u : Fin 16} {n : Fin 2048} {z : Tensor} {r : Row}

/-! ### ROW_COMMIT -/

theorem Tensor.commit_tally {v : Verdict} {i : Nat} : (z.commit r v i).tally =
    (z.rows + 1, z.elems + r.elems, z.nans + r.nans, z.infs + r.infs, max z.absKey r.absKey) := by
  unfold Tensor.commit
  extract_lets hist convs counted drifted enter
  have hdrift : drifted.tally = counted.tally := by
    cases hv : v.ratio with
    | none => simp only [drifted, hv]
    | some x =>
      simp only [drifted, hv]
      exact (apply_ite Tensor.tally _ _ _).trans (ite_self _)
  exact (apply_ite Tensor.tally _ _ _).trans ((ite_self _).trans hdrift)

theorem Block.tensorFilled_written_tally : (b.tensorFilled u n r z).tableWritten.tally =
    (z.rows + 1, z.elems + r.elems, z.nans + r.nans, z.infs + r.infs, max z.absKey r.absKey) := by
  rw [Tensor.tableWritten, apply_ite Tensor.tally]
  exact (ite_self _).trans Tensor.commit_tally

theorem rowCommit_commits (hrun : s.block.running = true) (hr : (s.block.asyTap u n).row = some r) (hd : r.done = true)
    (hz : (s.block.asyTap u n).tensor = some z) :
    ∃ t, exec (.rowCommit u n) s = .next t ∧ (t.block.asyTap u n).row = none ∧
      (t.block.asyTap u n).rowIndex = ((s.block.asyTap u n).rowIndex + 1) % 2 ^ 32 ∧
      (z.rows + 1 = 2 ^ 20 → (t.block.asyTap u n).tensor = none) ∧
      (z.rows + 1 ≠ 2 ^ 20 → ∃ y, (t.block.asyTap u n).tensor = some y ∧ y.rows = z.rows + 1 ∧
        y.elems = z.elems + r.elems ∧ y.nans = z.nans + r.nans ∧ y.infs = z.infs + r.infs ∧
        y.absKey = max z.absKey r.absKey) := by
  have htally := Block.tensorFilled_written_tally (b := s.block) (u := u) (n := n) (z := z) (r := r)
  simp only [Tensor.tally, Prod.mk.injEq] at htally
  have hcommit := Block.commitRow_of_done hr hz hd
  rw [htally.1] at hcommit
  refine ⟨{ s with block := s.block.commitRow u n }, ?_, ?_⟩
  · change execRowCommit u n s = _
    rw [execRowCommit, State.run_eq, hrun]
    rfl
  · dsimp only
    rw [hcommit]
    by_cases hrows : z.rows + 1 = 2 ^ 20
    · rw [if_pos hrows, Block.endTensor_asyTap, Block.rowEntered_asyTap]
      exact ⟨rfl, rfl, fun _ => rfl, fun h => absurd hrows h⟩
    · rw [if_neg hrows, Block.rowEntered_asyTap]
      exact ⟨rfl, rfl, fun h => absurd h hrows, fun _ => ⟨_, rfl, htally⟩⟩

/-! ### TENSOR_GAP_EXPIRY -/

theorem tensorGapExpiry_closes {g : Gt} (hrun : s.block.running = true) (hz : (s.block.asyTap u n).tensor = some z)
    (hr : (s.block.asyTap u n).row = none) (hdue : z.lastGt + us (s.block.unit u).gap ≤ s.block.gt)
    (hg : g = if z.lastGt + us (s.block.unit u).gap ≤ s.block.power.wakeGt then s.block.power.wakeGt else s.block.gt) :
    ∃ t, exec (.tensorGapExpiry u n) s = .next t ∧ (t.block.asyTap u n).tensor = none ∧
      (t.block.asyTap u n).rowIndex = 0 ∧
      (t.block.unit u).closed = (s.block.unit u).closed ++ [s.block.tensorRecords u z 1 g] ∧
      t.block.seen [.assay] = s.block.seen [.assay] := by
  refine ⟨{ s with block := s.block.endTensor u n z 1 g }, ?_, ?_, ?_, Block.endTensor_closed,
    Block.endTensor_seen (by decide)⟩
  · change execTensorGapExpiry u n s = _
    rw [execTensorGapExpiry, State.run_eq]
    dsimp only
    rw [hz, ← Block.closeTensor_of_row_none hz hr, hg]
    simp only [hrun, hdue, decide_true, Bool.and_self, if_true]
  · exact congrArg AsyTap.tensor Block.endTensor_asyTap
  · exact congrArg AsyTap.rowIndex Block.endTensor_asyTap

/-! ### TENSOR_RECORD_PLACE -/

theorem tensorRecordPlace_offers {more : List Rec} {rest : List (List Rec)} {x : Rec} (hrun : s.block.running = true)
    (hc : (s.block.unit u).closed = (x :: more) :: rest) :
    ∃ t, exec (.tensorRecordPlace u) s = .next t ∧
      (t.block.unit u).closed = (if more.isEmpty then rest else more :: rest) ∧
      ((s.block.quad (recQuad x.source)).roomFor x = true →
        t.block.quad (recQuad x.source) = { s.block.quad (recQuad x.source) with
          recIn := (s.block.quad (recQuad x.source)).recIn ++
            (x.units (tget 0 (s.block.tenant x.owner).rseq x.source)).take 64
          recTail := (x.units (tget 0 (s.block.tenant x.owner).rseq x.source)).drop 64 }) := by
  have hassay : ((s.block.recordLeft u more rest).offerRec x).assay = (s.block.recordLeft u more rest).assay :=
    Block.assay_of_seen (Block.offerRec_seen (M := [.quads, .tenants, .power]) (by decide)) (by decide)
  refine ⟨{ s with block := (s.block.recordLeft u more rest).offerRec x }, ?_, ?_,
    fun hroom => (Block.offerRec_of_room (b := s.block.recordLeft u more rest) hroom).1⟩
  · change execTensorRecordPlace u s = _
    rw [execTensorRecordPlace, State.run_eq]
    simp only [hrun, hc, Bool.not_true, Bool.false_eq_true, if_false]
    rfl
  · dsimp only
    rw [Block.unit, hassay]
    exact congrArg AsyUnit.closed (Block.unit_modUnit (b := s.block))

end

end Sys2Proof.Machine

namespace Sys2Proof.Machine

/-! ## A unit takes a beat (R218, R222, R223, R231) -/

/-- The first beat is of a valid context of the unit's owner (R222). -/
def Block.admitsRow (b : Block) (u : Nat) (e : AsyEntry) : Bool :=
  (b.ctxTenant e.ctx).isSome && ((b.unit u).owner == 64 || b.ctxTenant e.ctx == some (b.unit u).owner)

/-- The tap has the tensor that a first beat belongs to: an open one of another ID or format closes, and without one a new one
opens (R223). -/
def Block.tensorReady (b : Block) (u n : Nat) (e : AsyEntry) : Block :=
  let c := match (b.asyTap u n).tensor with
    | some z => if z.tid ≠ e.beat.tid.toNat || z.fmt ≠ e.beat.fmt.toNat then b.closeTensor u n 0 b.gt else b
    | none => b
  if (c.asyTap u n).tensor.isNone then c.openTensor u n e.beat.tid.toNat e.beat.fmt.toNat else c

/-- A first beat begins row `r`, and the rows that its tap skipped are counted (R220, R221). -/
def Block.rowBegun (b : Block) (u n : Nat) (r : Row) (skip : Nat) : Block :=
  let c := b.modAsyTap u n (fun x => { x with row := some r })
  if skip = 0 then c else c.skipRows u n skip

/-- A beat enters the row in progress, or breaks it off where its format or tensor ID is another (R224, R225). -/
def Block.beatEntered (b : Block) (u n : Nat) (e : AsyEntry) : Block :=
  match (b.asyTap u n).row with
  | some r =>
    if !r.inProgress then b
    else if e.beat.fmt.toNat ≥ 8 || e.beat.fmt.toNat ≠ r.fmt || e.beat.tid.toNat ≠ r.tid then
      ((b.skipRows u n 1).modUnit u (fun x => { x with badFmt := satAdd 32 x.badFmt 1 })).modAsyTap u n
        (fun x => { x with row := some { r with bad := true } })
    else b.modAsyTap u n (fun x => { x with row := some (r.addBeat e.beat) })
  | none => b

/-- A beat of the tap was processed: its row is complete, or gone, after the last one, and its tensor is not silent. -/
def Block.beatDone (b : Block) (u n : Nat) (last : Bool) : Block :=
  b.modAsyTap u n (fun x => { x with
    row := match x.row with
      | some r => if last then (if r.inProgress then some { r with done := true } else none) else some r
      | none => none
    tensor := match x.tensor with
      | some z => some { z with lastGt := b.gt }
      | none => none })

/-- What the processing of a beat leaves alone once its tensor is ready: what stands in the tensor since its opening, the
unit's count of foreign rows, and the time. -/
def Block.openPart (b : Block) (u n : Nat) : Option (Nat × Nat × Nat × Gt × Option Nat) × Nat × Gt :=
  ((b.asyTap u n).tensor.map Tensor.opening, (b.unit u).foreign, b.gt)

section
variable {b : Block} {u n k skip : Nat} {e : AsyEntry} {r : Row} {last : Bool}

/-! ### The stages of a beat -/

theorem Block.firstBeat_eq : b.firstBeat u n e =
    (if !b.admitsRow u e then b.modUnit u (fun x => { x with foreign := satAdd 32 x.foreign 1 })
      else b.tensorReady u n e).rowBegun u n
      { tid := e.beat.tid.toNat, fmt := e.beat.fmt.toNat, owner := b.ctxTenant e.ctx, accept := b.admitsRow u e } e.skip := rfl

/-- A beat commits the row before it, begins a row where there is none, enters it, and may complete it. -/
theorem Block.processBeat_eq {c : Block} (h : c = (b.commitRow u n).dropCutRow u n e.skip) : b.processBeat u n e =
    ((if (c.asyTap u n).row.isNone then c.firstBeat u n e else c).beatEntered u n e).beatDone u n e.beat.last := by
  subst h
  rfl

theorem Block.openTensor_asyTap {tid fmt : Nat} : ∃ z, ((b.openTensor u n tid fmt).asyTap u n).tensor = some z ∧
    z.opening = (n, tid, fmt, b.gt, b.matchProfile (b.unit u).owner tid) := by
  rw [Block.openTensor, Block.asyTap_modAsyTap]
  exact ⟨_, rfl, rfl⟩

theorem Block.tensorReady_of_none (h : (b.asyTap u n).tensor = none) :
    b.tensorReady u n e = b.openTensor u n e.beat.tid.toNat e.beat.fmt.toNat := by
  unfold Block.tensorReady
  simp only [h, Option.isNone_none, if_true]

theorem Block.beatDone_asyTap : ((b.beatDone u n last).asyTap u n).tensor =
    (b.asyTap u n).tensor.map (fun z => { z with lastGt := b.gt }) := by
  rw [Block.beatDone, Block.asyTap_modAsyTap]
  cases (b.asyTap u n).tensor <;> rfl

/-! ### What a beat leaves of the units (R218) -/

theorem Block.openTensor_apart {tid fmt : Nat} : (b.openTensor u n tid fmt).apart u n = b.apart u n := Block.modAsyTap_apart

theorem Block.tensorReady_apart : (b.tensorReady u n e).apart u n = b.apart u n := by
  unfold Block.tensorReady
  extract_lets c
  have hc : c.apart u n = b.apart u n := by
    simp only [c]
    split
    · split
      · exact Block.closeTensor_apart
      · rfl
    · rfl
  split
  · rw [Block.openTensor_apart, hc]
  · exact hc

theorem Block.rowBegun_apart : (b.rowBegun u n r skip).apart u n = b.apart u n := by
  unfold Block.rowBegun
  dsimp only
  split
  · exact Block.modAsyTap_apart
  · rw [Block.skipRows_apart, Block.modAsyTap_apart]

theorem Block.firstBeat_apart : (b.firstBeat u n e).apart u n = b.apart u n := by
  rw [Block.firstBeat_eq, Block.rowBegun_apart]
  split
  · exact Block.modUnit_apart (fun _ => rfl) (fun _ => rfl) fun _ => rfl
  · exact Block.tensorReady_apart

theorem Block.dropCutRow_apart : (b.dropCutRow u n skip).apart u n = b.apart u n := by
  unfold Block.dropCutRow
  split
  · rfl
  · exact Block.modAsyTap_apart

theorem Block.beatEntered_apart : (b.beatEntered u n e).apart u n = b.apart u n := by
  unfold Block.beatEntered
  split
  · split
    · rfl
    · split
      · refine Block.modAsyTap_apart.trans (Eq.trans ?_ (Block.skipRows_apart (k := 1)))
        exact Block.modUnit_apart (fun _ => rfl) (fun _ => rfl) fun _ => rfl
      · exact Block.modAsyTap_apart
  · rfl

theorem Block.processBeat_apart : (b.processBeat u n e).apart u n = b.apart u n := by
  rw [Block.processBeat_eq rfl, Block.beatDone, Block.modAsyTap_apart, Block.beatEntered_apart]
  have hc : ((b.commitRow u n).dropCutRow u n e.skip).apart u n = b.apart u n := by
    rw [Block.dropCutRow_apart, Block.commitRow_apart]
  split
  · rw [Block.firstBeat_apart, hc]
  · exact hc

/-! ### What a first beat leaves of its tensor and of the count of foreign rows -/

theorem Block.modAsyTap_openPart {f : AsyTap → AsyTap}
    (h : ∀ x, (f x).tensor.map Tensor.opening = x.tensor.map Tensor.opening) :
    (b.modAsyTap u n f).openPart u n = b.openPart u n := by
  obtain ⟨taps, hu⟩ := Block.unit_modAsyTap (b := b) (u := u) (n := n) (v := u) (f := f)
  rw [Block.openPart, Block.asyTap_modAsyTap, h, hu, Block.modAsyTap, Block.gt_modUnit]
  rfl

theorem Block.modUnit_openPart {f : AsyUnit → AsyUnit} (htaps : ∀ x, (f x).taps = x.taps)
    (hforeign : ∀ x, (f x).foreign = x.foreign) : (b.modUnit u f).openPart u n = b.openPart u n := by
  rw [Block.openPart, Block.asyTap_modUnit htaps, Block.unit_modUnit, hforeign, Block.gt_modUnit]
  rfl

theorem Block.skipRows_openPart : (b.skipRows u n k).openPart u n = b.openPart u n := by
  rw [Block.skipRows, Block.modAsyTap_openPart fun x => by cases x.tensor <;> rfl]
  exact Block.modUnit_openPart (fun _ => rfl) fun _ => rfl

theorem Block.rowBegun_openPart : (b.rowBegun u n r skip).openPart u n = b.openPart u n := by
  unfold Block.rowBegun
  dsimp only
  split
  · exact Block.modAsyTap_openPart fun _ => rfl
  · rw [Block.skipRows_openPart]
    exact Block.modAsyTap_openPart fun _ => rfl

theorem Block.dropCutRow_openPart : (b.dropCutRow u n skip).openPart u n = b.openPart u n := by
  unfold Block.dropCutRow
  split
  · rfl
  · exact Block.modAsyTap_openPart fun _ => rfl

theorem Block.beatEntered_openPart : (b.beatEntered u n e).openPart u n = b.openPart u n := by
  unfold Block.beatEntered
  split
  · split
    · rfl
    · split
      · refine (Block.modAsyTap_openPart ?_).trans ((Block.modUnit_openPart ?_ ?_).trans Block.skipRows_openPart)
        iterate 3 exact fun _ => rfl
      · exact Block.modAsyTap_openPart fun _ => rfl
  · rfl

theorem Block.beatDone_openPart : (b.beatDone u n last).openPart u n = b.openPart u n := by
  refine Block.modAsyTap_openPart fun x => ?_
  dsimp only
  cases x.tensor <;> rfl

/-! ### A first beat where no row has begun -/

theorem Block.dropCutRow_asyTap (h : (b.asyTap u n).row = none) : (b.dropCutRow u n skip).asyTap u n = b.asyTap u n := by
  unfold Block.dropCutRow
  split
  · rfl
  · rw [Block.asyTap_modAsyTap, ← h]

/-- Where no row has begun there is none to commit, and the beat is a first beat. -/
theorem Block.processBeat_of_row_none (h : (b.asyTap u n).row = none) : b.processBeat u n e =
    (((b.dropCutRow u n e.skip).firstBeat u n e).beatEntered u n e).beatDone u n e.beat.last := by
  rw [Block.processBeat_eq rfl, Block.commitRow_of_row_none h, Block.dropCutRow_asyTap h, h]
  rfl

theorem Block.dropCutRow_owner : ((b.dropCutRow u n skip).unit u).owner = (b.unit u).owner :=
  congrArg (fun w => fld w 1 7) (Block.ctl_of_apart (Block.dropCutRow_apart (n := n)) u)

theorem Block.dropCutRow_ctxTenant {i : Nat} : (b.dropCutRow u n skip).ctxTenant i = b.ctxTenant i := by
  unfold Block.dropCutRow
  split <;> rfl

theorem Block.dropCutRow_matchProfile {o tid : Nat} :
    (b.dropCutRow u n skip).matchProfile o tid = b.matchProfile o tid := by
  unfold Block.dropCutRow
  split <;> rfl

theorem Block.dropCutRow_admitsRow : (b.dropCutRow u n skip).admitsRow u e = b.admitsRow u e := by
  rw [Block.admitsRow, Block.dropCutRow_owner, Block.dropCutRow_ctxTenant]
  rfl

/-- A first beat of the unit's owner opens a tensor where none is open (R222, R223, R231). -/
theorem Block.processBeat_opens (hr : (b.asyTap u n).row = none) (hz : (b.asyTap u n).tensor = none)
    (ha : b.admitsRow u e = true) : ∃ z, ((b.processBeat u n e).asyTap u n).tensor = some z ∧ z.lastGt = b.gt ∧
      z.opening = (n, e.beat.tid.toNat, e.beat.fmt.toNat, b.gt, b.matchProfile (b.unit u).owner e.beat.tid.toNat) := by
  have hnone : ((b.dropCutRow u n e.skip).asyTap u n).tensor = none := by rw [Block.dropCutRow_asyTap hr, hz]
  have hgt : (b.dropCutRow u n e.skip).gt = b.gt := congrArg (fun x => x.2.2) (Block.dropCutRow_openPart (u := u) (n := n))
  obtain ⟨z, htensor, hopening⟩ := Block.openTensor_asyTap (b := b.dropCutRow u n e.skip) (u := u) (n := n)
    (tid := e.beat.tid.toNat) (fmt := e.beat.fmt.toNat)
  rw [hgt, Block.dropCutRow_owner, Block.dropCutRow_matchProfile] at hopening
  have hpart : (((b.dropCutRow u n e.skip).firstBeat u n e).beatEntered u n e).openPart u n =
      ((b.dropCutRow u n e.skip).openTensor u n e.beat.tid.toNat e.beat.fmt.toNat).openPart u n := by
    rw [Block.beatEntered_openPart, Block.firstBeat_eq, Block.rowBegun_openPart, Block.dropCutRow_admitsRow, ha,
      Block.tensorReady_of_none hnone]
    rfl
  obtain ⟨hmap, -, hnow⟩ := Prod.ext_iff.1 hpart |>.imp_right Prod.ext_iff.1
  rw [Block.openPart, Block.openPart, htensor] at hmap
  obtain ⟨y, hy, hyz⟩ := Option.map_eq_some_iff.1 hmap
  rw [Block.processBeat_of_row_none hr, Block.beatDone_asyTap, hy]
  exact ⟨_, rfl, hnow.trans hgt, hyz.trans hopening⟩

/-- A first beat of another's row is counted (R222). -/
theorem Block.processBeat_counts (hr : (b.asyTap u n).row = none) (ha : b.admitsRow u e = false) :
    ((b.processBeat u n e).unit u).foreign = satAdd 32 (b.unit u).foreign 1 := by
  have hpart : (b.processBeat u n e).openPart u n =
      ((b.dropCutRow u n e.skip).modUnit u (fun x => { x with foreign := satAdd 32 x.foreign 1 })).openPart u n := by
    rw [Block.processBeat_of_row_none hr, Block.beatDone_openPart, Block.beatEntered_openPart, Block.firstBeat_eq,
      Block.rowBegun_openPart, Block.dropCutRow_admitsRow, ha]
    rfl
  have hbefore : ((b.dropCutRow u n e.skip).unit u).foreign = (b.unit u).foreign :=
    congrArg (fun x => x.2.1) (Block.dropCutRow_openPart (u := u) (n := n))
  calc ((b.processBeat u n e).unit u).foreign
      _ = _ := congrArg (fun x => x.2.1) hpart
      _ = satAdd 32 ((b.dropCutRow u n e.skip).unit u).foreign 1 := congrArg AsyUnit.foreign Block.unit_modUnit
      _ = satAdd 32 (b.unit u).foreign 1 := by rw [hbefore]

end

/-! ### ASSAY_BEAT_TAKE -/

section
variable {s : State} {u : Fin 16} {n : Nat} {e : AsyEntry} {rest : List AsyEntry}

/-- The block after a beat left the crossing buffer of the tap that is next in turn (R218). -/
def Block.beatTaken (b : Block) (u n : Nat) (rest : List AsyEntry) : Block :=
  (b.modTap n (fun x => { x with asy := rest })).modUnit u (fun x => { x with rr := n })

theorem Block.beatTaken_asyTap {b : Block} {u m : Nat} : (b.beatTaken u n rest).asyTap u m = b.asyTap u m :=
  Block.asyTap_modUnit (b := b.modTap n (fun x => { x with asy := rest })) (f := fun x => { x with rr := n }) fun _ => rfl

theorem Block.beatTaken_unit {b : Block} {u : Nat} : (b.beatTaken u n rest).unit u = { b.unit u with rr := n } :=
  Block.unit_modUnit

theorem Block.beatTaken_admitsRow {b : Block} {u : Nat} : (b.beatTaken u n rest).admitsRow u e = b.admitsRow u e := by
  rw [Block.admitsRow, Block.beatTaken_unit]
  rfl

theorem Block.admitsRow_iff {b : Block} {u : Nat} : b.admitsRow u e = true ↔ b.ctxTenant e.ctx ≠ none ∧
    ((b.unit u).owner = 64 ∨ b.ctxTenant e.ctx = some (b.unit u).owner) := by
  rw [Block.admitsRow, Bool.and_eq_true, Bool.or_eq_true, beq_iff_eq, beq_iff_eq, Option.isSome_iff_ne_none]

theorem execAssayBeatTake_of_next (hrun : s.block.running = true) (hen : (s.block.unit u).en = true)
    (hn : s.block.nextAsyTap u = some n) (hq : (s.block.tap n).asy = e :: rest) :
    exec (.assayBeatTake u) s = .next { s with block := (s.block.beatTaken u n rest).processBeat u n e } := by
  change execAssayBeatTake u s = _
  rw [execAssayBeatTake, State.run_eq]
  simp only [hrun, hen, hn, hq, Bool.not_true, Bool.or_self, Bool.false_eq_true, if_false]
  rfl

theorem assayBeatTake_takes (hrun : s.block.running = true) (hen : (s.block.unit u).en = true)
    (hn : s.block.nextAsyTap u = some n) (hq : (s.block.tap n).asy = e :: rest) :
    ∃ t, exec (.assayBeatTake u) s = .next t ∧ (t.block.tap n).asy = rest ∧ (t.block.unit u).rr = n ∧
      (∀ k, k ≠ n → t.block.tap k = s.block.tap k) ∧
      ((s.block.asyTap u n).row = none → (s.block.asyTap u n).tensor = none → s.block.admitsRow u e = true →
        ∃ z, (t.block.asyTap u n).tensor = some z ∧ z.lastGt = s.block.gt ∧ z.opening =
          (n, e.beat.tid.toNat, e.beat.fmt.toNat, s.block.gt, s.block.matchProfile (s.block.unit u).owner e.beat.tid.toNat)) ∧
      ((s.block.asyTap u n).row = none → s.block.admitsRow u e = false →
        (t.block.unit u).foreign = satAdd 32 (s.block.unit u).foreign 1) := by
  have htaps : ((s.block.beatTaken u n rest).processBeat u n e).taps = (s.block.beatTaken u n rest).taps :=
    Block.taps_of_seen (Block.processBeat_seen (M := [.stations, .quads, .assay, .tenants, .power]) (by decide)) (by decide)
  have htap : ∀ k, ((s.block.beatTaken u n rest).processBeat u n e).tap k =
      if k = n then { s.block.tap k with asy := rest } else s.block.tap k := fun k => by
    rw [Block.tap, htaps]
    exact Block.tap_modTap_ite (b := s.block) (x := fun x => { x with asy := rest })
  have hunit : (s.block.beatTaken u n rest).unit u = { s.block.unit u with rr := n } := Block.beatTaken_unit
  have hasy : (s.block.beatTaken u n rest).asyTap u n = s.block.asyTap u n := Block.beatTaken_asyTap
  refine ⟨_, execAssayBeatTake_of_next hrun hen hn hq, ?_, ?_, fun k hk => (htap k).trans (if_neg hk), fun hr hz ha => ?_,
    fun hr ha => ?_⟩
  · exact congrArg Tap.asy ((htap n).trans (if_pos rfl))
  · exact (Block.rr_of_apart Block.processBeat_apart u).trans (congrArg AsyUnit.rr hunit)
  · obtain ⟨z, h⟩ := Block.processBeat_opens (b := s.block.beatTaken u n rest) (e := e) (by rw [hasy, hr]) (by rw [hasy, hz])
      (Block.beatTaken_admitsRow.trans ha)
    rw [hunit] at h
    exact ⟨z, h⟩
  · rw [Block.processBeat_counts (by rw [hasy, hr]) (Block.beatTaken_admitsRow.trans ha), hunit]

end

/-- Settles O44: a unit's events change the tap that they name as its rows and its tensor stand; a first beat opens a tensor or
is counted by whether its context is the owner's, and a row closes its tensor when it is the 2²⁰th. -/
theorem assayUnitsAct : Obligations.AssayUnitsAct := by
  intro s u hrun
  refine ⟨fun n e rest o hen hn hq ho => ?_, fun n x r z hx hr hd hz => ?_,
    fun n z g hz hr hdue hg => tensorGapExpiry_closes hrun hz hr hdue hg, fun r more rest hc => ?_⟩
  · subst ho
    obtain ⟨t, ht, hasy, hrr, htaps, hopens, hcounts⟩ := assayBeatTake_takes hrun hen hn hq
    refine ⟨t, ht, hasy, hrr, htaps, fun hr hz hctx hown => ?_, fun hr hno => hcounts hr ?_⟩
    · obtain ⟨z, hz, hlast, hopening⟩ := hopens hr hz (Block.admitsRow_iff.2 ⟨hctx, hown⟩)
      simp only [Tensor.opening, Prod.mk.injEq] at hopening
      obtain ⟨htap, htid, hfmt, hgt, hprofile⟩ := hopening
      exact ⟨z, hz, htap, htid, hfmt, hgt, hlast, hprofile⟩
    · rw [← Bool.not_eq_true, Block.admitsRow_iff]
      rintro ⟨hctx, hown⟩
      exact hno.elim hctx fun h => hown.elim h.1 h.2
  · subst hx
    exact rowCommit_commits hrun hr hd hz
  · obtain ⟨t, ht, hclosed, hroom⟩ := tensorRecordPlace_offers hrun hc
    exact ⟨t, ht, hclosed, fun x hx h => hx ▸ hroom (hx ▸ h)⟩

end Sys2Proof.Machine

namespace Sys2Proof.Machine

/-! ## The commands of the Assay units (R215, R216, R223, R230, R232, R335, R336, R345, R369) -/

/-- The bound taps of the unit that a binding names, but for tap `n` (R217). -/
def Block.boundBeside (b : Block) (n : Nat) (v : Word) : Tbl Word :=
  b.assay.binding.filter (fun e => e.1 != n && bit e.2 4 && asyUnitOf e.2 == asyUnitOf v)

/-- What ASY_UNIT ends in a unit before its control word changes: all open tensors with a new owner, or when it is switched off
(R246). -/
def Block.unitEnded (b : Block) (u : Nat) (v : Word) : Block :=
  if (b.unit u).owner ≠ fld v 1 7 || ((b.unit u).en && !bit v 0) then b.closeUnitTensors u else b

/-- The words of a profile as PROFILE_WRITE takes them: the owner's fields alone from a tenant (R335). -/
def profWritten (f : Nat) (old : List Word) (x0 x1 x2 : Word) : List Word :=
  if f = 64 then [x0, x1 &&& 0x7FFFFFFF#32, x2] else [mix (old.getD 0 0) x0 0xFFFFFF01#32, old.getD 1 0, x2]

/-- The words of a profile after PROFILE_WRITE: with a new owner what the previous one wrote is at reset (R369). -/
def profNew (f : Nat) (old : List Word) (x0 x1 x2 : Word) : List Word :=
  if profOwner old != profOwner (profWritten f old x0 x1 x2) then profOwnerReset (profWritten f old x0 x1 x2)
  else profWritten f old x0 x1 x2

/-- The tables after PROFILE_WRITE of profile `k`. -/
def Block.profPut (b : Block) (k f : Nat) (x0 x1 x2 : Word) : Block :=
  (if profOwner (b.profile k) != profOwner (profWritten f (b.profile k) x0 x1 x2) then b.clearRefs (b.profile k)
    else b).modAssay (fun a => { a with profiles := tset profReset a.profiles k (profNew f (b.profile k) x0 x1 x2) })

section
variable {f : Fin 65} {p : Pkt} {s : State} {b c : Block} {w v x0 x1 x2 : Word} {ws : List Word} {k n o o' : Nat}

/-! ### The tables of the Assay units under other changes -/

theorem Block.tables_of_seen {M : List Area} (h : b.seen M = c.seen M) (n : Area.profiles ∉ M) :
    b.assay.tables = c.assay.tables := by
  simpa [Block.seen, Area.see, n] using congrArg Seen.profiles h

theorem Block.touchOwners_assay {d : Call} : (b.touchOwners d o o').assay = b.assay :=
  Block.assay_of_seen (Block.touchOwners_seen (M := [.tenants, .out]) (by decide)) (by decide)

theorem Block.touchOwners_profile {d : Call} : (b.touchOwners d o o').profile n = b.profile n := by
  rw [Block.profile, Block.touchOwners_assay]; rfl

theorem Block.touchOwners_ref {d : Call} : (b.touchOwners d o o').ref n = b.ref n := by
  rw [Block.ref, Block.touchOwners_assay]; rfl

theorem Block.respond_binding {tag st : Nat} {quiet : Bool} :
    (b.respond f tag quiet st ws).binding n = b.binding n := by
  rw [Block.binding, Block.respond_assay]; rfl

theorem Block.respond_profile {tag st : Nat} {quiet : Bool} :
    (b.respond f tag quiet st ws).profile n = b.profile n := by
  rw [Block.profile, Block.respond_assay]; rfl

theorem Block.respond_ref {tag st : Nat} {quiet : Bool} : (b.respond f tag quiet st ws).ref n = b.ref n := by
  rw [Block.ref, Block.respond_assay]; rfl

theorem Block.begun_binding {op : Nat} : (b.begun op f p).binding n = b.binding n := by
  rw [Block.binding, Block.begun_assay]; rfl

theorem Block.begun_profile {op : Nat} : (b.begun op f p).profile n = b.profile n := by
  rw [Block.profile, Block.begun_assay]; rfl

theorem Block.begun_ref {op : Nat} : (b.begun op f p).ref n = b.ref n := by
  rw [Block.ref, Block.begun_assay]; rfl

theorem Block.begun_boundBeside {op : Nat} : (b.begun op f p).boundBeside n v = b.boundBeside n v := by
  rw [Block.boundBeside, Block.begun_assay]; rfl

/-- What is read of a table of which only some keys are kept. -/
theorem tget_filter_key {α : Type} {d : α} {t : Tbl α} {keep : Nat → Bool} :
    tget d (t.filter (fun e => keep e.1)) n = if keep n then tget d t n else d := by
  induction t with
  | nil => exact (ite_self d).symm
  | cons e t ih =>
    rw [List.filter_cons]
    by_cases he : n = e.1
    · subst he
      by_cases hk : keep e.1 <;> simp [tget, hk, ih]
    · by_cases hk : keep e.1 <;> simp [tget, hk, he, ih]

/-! ### ASY_BIND (R215, R217) -/

theorem Block.abortImage_binding : (b.abortImage n).binding k = b.binding k :=
  congrArg (fun a : Assay => tget 0 a.binding k)
    (Block.assay_of_seen (Block.abortImage_seen (M := [.meas]) (by decide)) (by decide))

theorem Block.closeTensor_binding {u cause : Nat} {g : Gt} :
    (b.closeTensor u n cause g).assay.binding = b.assay.binding :=
  congrArg Prod.fst (Block.tables_of_seen
    (Block.closeTensor_seen (M := [.stations, .quads, .assay, .tenants, .power]) (by decide)) (by decide))

theorem Block.rebind_binding : (b.rebind n v).binding k = if k = n then v else b.binding k := by
  refine tget_tset_ite.trans (if_congr Iff.rfl rfl ?_)
  dsimp only [Block.modTap_assay]
  split
  · exact congrArg (fun t => tget 0 t k) Block.closeTensor_binding
  · rfl

theorem cmdAsyBind_body (hw : p.params = [w, v]) : cmdAsyBind.body (callOf f p) b =
    if bit (v &&& 0x3F#32) 4 && decide (4 ≤ (b.boundBeside (fld w 0 11) (v &&& 0x3F#32)).length) then fails stBadParam b
    else if v &&& 0x3F#32 = b.binding (fld w 0 11) then ok b
    else ok ((b.abortImage (fld w 0 11)).rebind (fld w 0 11) (v &&& 0x3F#32)) := by
  cases p; cases hw; rfl

theorem bit_bindingWord : bit (v &&& 0x3F#32) 4 = bit v 4 := by
  rw [bit, BitVec.getLsbD_and]
  exact Bool.and_true _

theorem cmdAsyBind_body_of_room (hw : p.params = [w, v])
    (h : bit v 4 = true → (b.boundBeside (fld w 0 11) (v &&& 0x3F#32)).length < 4) : cmdAsyBind.body (callOf f p) b =
      ok (if v &&& 0x3F#32 = b.binding (fld w 0 11) then b
        else (b.abortImage (fld w 0 11)).rebind (fld w 0 11) (v &&& 0x3F#32)) := by
  rw [cmdAsyBind_body hw, bit_bindingWord, if_neg, apply_ite ok]
  rw [Bool.and_eq_true, decide_eq_true_eq]
  exact fun hfull => absurd (h hfull.1) (Nat.not_lt.2 hfull.2)

theorem cmdAsyBind_body_of_full (hw : p.params = [w, v]) (hon : bit v 4 = true)
    (h : 4 ≤ (b.boundBeside (fld w 0 11) (v &&& 0x3F#32)).length) : cmdAsyBind.body (callOf f p) b = fails stBadParam b := by
  rw [cmdAsyBind_body hw, bit_bindingWord, if_pos]
  rw [hon]
  exact decide_eq_true h

theorem cmdAsyBind_binding (hw : p.params = [w, v])
    (h : bit v 4 = true → (b.boundBeside (fld w 0 11) (v &&& 0x3F#32)).length < 4) (n : Nat) :
    (cmdAsyBind.body (callOf f p) b).2.binding n = if n = fld w 0 11 then v &&& 0x3F#32 else b.binding n := by
  rw [cmdAsyBind_body_of_room hw h, ok]
  dsimp only
  by_cases hsame : v &&& 0x3F#32 = b.binding (fld w 0 11)
  · rw [if_pos hsame, hsame]
    split
    · rename_i hn
      rw [hn]
    · rfl
  · rw [if_neg hsame, Block.rebind_binding, Block.abortImage_binding]

theorem asyBind_binds (hw : p.params = [w, v]) (hf : f.val = 64) (h : s.block.hears f p 0 false)
    (hroom : bit v 4 = true → (s.block.boundBeside (fld w 0 11) (v &&& 0x3F#32)).length < 4) :
    ∃ t, exec (.asyBind f p) s = .next t ∧ s.block.answered t.block f p stDone [] ∧
      (∀ n, t.block.binding n = if n = fld w 0 11 then v &&& 0x3F#32 else s.block.binding n) := by
  have hl : p.params.length = 2 := by rw [hw]; rfl
  rw [← Block.begun_boundBeside (op := 0x50) (f := f) (p := p)] at hroom
  refine heard_ans (op := 0x50) (e := cmdAsyBind) h rfl (Nat.le_refl 0) (absurd · Bool.false_ne_true) hl.ge hl.le rfl
    (.inl hf) (by rw [cmdAsyBind_body_of_room hw hroom]; rfl) (.inr rfl) (fun M hM => cmdAsyBind_seen hM) (by decide)
    fun n => ?_
  dsimp only
  rw [Block.respond_binding, cmdAsyBind_binding hw hroom, Block.begun_binding]

theorem asyBind_refuses (hw : p.params = [w, v]) (hf : f.val = 64) (h : s.block.hears f p 0 false) (hon : bit v 4 = true)
    (hfull : 4 ≤ (s.block.boundBeside (fld w 0 11) (v &&& 0x3F#32)).length) :
    ∃ t, exec (.asyBind f p) s = .next t ∧ s.block.answered t.block f p stBadParam [] ∧ s.block.calm t.block f [] := by
  have hl : p.params.length = 2 := by rw [hw]; rfl
  rw [← Block.begun_boundBeside (op := 0x50) (f := f) (p := p)] at hfull
  have hb := cmdAsyBind_body_of_full (f := f) hw hon hfull
  obtain ⟨t, ht, ha, hc, -⟩ := heard_calm (op := 0x50) (e := cmdAsyBind) (P := fun _ => True) (away := []) h rfl
    (Nat.le_refl 0) (absurd · Bool.false_ne_true) hl.ge hl.le rfl (.inl hf) (by rw [hb]; rfl) (.inr ⟨rfl, by decide⟩)
    (fun M _ => by rw [hb]; rfl) (by decide) trivial
  exact ⟨t, ht, ha, hc⟩

/-! ### ASY_UNIT (R216, R482) -/

theorem Block.unitEnded_ctl {u m : Nat} : ((b.unitEnded m v).unit u).ctl = (b.unit u).ctl := by
  unfold Block.unitEnded
  split
  · exact Block.closeUnitTensors_ctl
  · rfl

theorem cmdAsyUnit_body (hw : p.params = [w, v]) : cmdAsyUnit.body (callOf f p) b =
    if b.power.assayFailed.testBit (fld w 0 4) then ok b
    else ok (((b.unitEnded (fld w 0 4) (v &&& 0xFFFF#32)).modUnit (fld w 0 4)
      (fun x => { x with ctl := v &&& 0xFFFF#32 })).touchOwners (callOf f p) (b.unit (fld w 0 4)).owner (fld (v &&& 0xFFFF#32) 1 7)) := by
  cases p; cases hw; rfl

theorem cmdAsyUnit_ctl (hw : p.params = [w, v]) (u : Nat) : ((cmdAsyUnit.body (callOf f p) b).2.unit u).ctl =
    if u = fld w 0 4 ∧ b.power.assayFailed.testBit u = false then v &&& 0xFFFF#32 else (b.unit u).ctl := by
  rw [cmdAsyUnit_body hw]
  by_cases hfail : b.power.assayFailed.testBit (fld w 0 4) = true
  · rw [if_pos hfail, if_neg]
    · rfl
    · rintro ⟨rfl, hok⟩
      exact Bool.false_ne_true (hok.symm.trans hfail)
  · rw [if_neg hfail, ok, Block.unit, Block.touchOwners_assay]
    refine (congrArg AsyUnit.ctl (Block.unit_modUnit_ite (m := u))).trans ?_
    by_cases hu : u = fld w 0 4
    · rw [if_pos hu, if_pos ⟨hu, hu ▸ Bool.eq_false_iff.2 hfail⟩]
    · rw [if_neg hu, if_neg fun h => hu h.1]
      exact Block.unitEnded_ctl

theorem asyUnit_sets (hw : p.params = [w, v]) (hf : f.val = 64) (hr : fld v 1 7 ≤ 64) (h : s.block.hears f p 0 false) :
    ∃ t, exec (.asyUnit f p) s = .next t ∧ s.block.answered t.block f p stDone [] ∧
      (∀ u, (t.block.unit u).ctl = if u = fld w 0 4 ∧ s.block.power.assayFailed.testBit u = false then v &&& 0xFFFF#32
        else (s.block.unit u).ctl) := by
  have hl : p.params.length = 2 := by rw [hw]; rfl
  refine heard_ans (op := 0x51) (e := cmdAsyUnit) h rfl (Nat.le_refl 0) (absurd · Bool.false_ne_true) hl.ge hl.le ?_
    (.inl hf) ?_ (.inr rfl) (fun M hM => cmdAsyUnit_seen hM) (by decide) fun u => ?_
  · refine decide_eq_true ?_
    rw [callOf_fld hw]
    exact hr
  · rw [cmdAsyUnit_body hw]
    split <;> rfl
  · dsimp only
    rw [Block.respond_unit, cmdAsyUnit_ctl hw, Block.begun_unit, Block.begun_power]
    rfl

/-! ### PROFILE_WRITE (R230, R335, R369) -/

theorem fld_profOwner_mix {old : Word} : fld (mix old v 0xFFFFFF01#32) 1 7 = fld old 1 7 := by
  rw [fld_eq_extract, fld_eq_extract, mix, BitVec.extractLsb'_or, BitVec.extractLsb'_and, BitVec.extractLsb'_and,
    show (~~~0xFFFFFF01#32).extractLsb' 1 7 = BitVec.allOnes 7 from rfl,
    show (0xFFFFFF01#32).extractLsb' 1 7 = 0#7 from rfl, BitVec.and_allOnes, BitVec.and_zero, BitVec.or_zero]

theorem fld_profOwner_reset : fld ((v &&& 0xFE#32) ||| 0x0F000000#32) 1 7 = fld v 1 7 := by
  rw [fld_eq_extract, fld_eq_extract, BitVec.extractLsb'_or, BitVec.extractLsb'_and,
    show (0xFE#32).extractLsb' 1 7 = BitVec.allOnes 7 from rfl,
    show (0x0F000000#32).extractLsb' 1 7 = 0#7 from rfl, BitVec.and_allOnes, BitVec.or_zero]

theorem profOwner_profOwnerReset {q : List Word} : profOwner (profOwnerReset q) = profOwner q := fld_profOwner_reset

/-- Only the operator's write gives a profile to another owner (R335). -/
theorem profOwner_profWritten {old : List Word} :
    profOwner (profWritten f old x0 x1 x2) = if f.val = 64 then fld x0 1 7 else profOwner old := by
  unfold profWritten
  split
  · rfl
  · exact fld_profOwner_mix

theorem profOwner_profNew {old : List Word} :
    profOwner (profNew f old x0 x1 x2) = profOwner (profWritten f old x0 x1 x2) := by
  unfold profNew
  split
  · exact profOwner_profOwnerReset
  · rfl

theorem profNew_eq {old : List Word} : profNew f old x0 x1 x2 =
    if f.val = 64 then (if fld x0 1 7 = profOwner old then [x0, x1 &&& 0x7FFFFFFF#32, x2]
      else [(x0 &&& 0xFE#32) ||| 0x0F000000#32, x1 &&& 0x7FFFFFFF#32, 0x0010F100#32])
    else [mix (old.getD 0 0) x0 0xFFFFFF01#32, old.getD 1 0, x2] := by
  rw [profNew, profOwner_profWritten, profWritten]
  by_cases hf : f.val = 64
  · rw [if_pos hf, if_pos hf, if_pos hf]
    by_cases hsame : fld x0 1 7 = profOwner old
    · rw [if_pos hsame, if_neg (by simp [hsame])]
    · rw [if_neg hsame, if_pos (bne_iff_ne.2 (Ne.symm hsame))]
      rfl
  · rw [if_neg hf, if_neg hf, if_neg hf, if_neg (by simp)]

theorem Block.profPut_profile {j : Nat} : (b.profPut k f x0 x1 x2).profile j =
    if j = k then profNew f (b.profile k) x0 x1 x2 else b.profile j := by
  refine tget_tset_ite.trans (if_congr Iff.rfl rfl ?_)
  split <;> rfl

theorem Block.clearRefs_ref {q : List Word} {i : Nat} : (b.clearRefs q).ref i =
    if pfld q 1 0 15 ≤ i ∧ i < pfld q 1 0 15 + pfld q 1 15 16 then refReset else b.ref i := by
  refine (tget_filter_key (keep := fun j => decide (j < pfld q 1 0 15) || decide (pfld q 1 0 15 + pfld q 1 15 16 ≤ j))).trans ?_
  simp only [Bool.or_eq_true, decide_eq_true_eq]
  by_cases hi : pfld q 1 0 15 ≤ i ∧ i < pfld q 1 0 15 + pfld q 1 15 16
  · rw [if_pos hi, if_neg (by omega)]
  · rw [if_neg hi, if_pos (by omega)]
    rfl

theorem Block.profPut_ref {i : Nat} : (b.profPut k f x0 x1 x2).ref i =
    if profOwner (b.profile k) ≠ profOwner ((b.profPut k f x0 x1 x2).profile k) ∧ pfld (b.profile k) 1 0 15 ≤ i ∧
      i < pfld (b.profile k) 1 0 15 + pfld (b.profile k) 1 15 16 then refReset else b.ref i := by
  rw [Block.profPut_profile, if_pos rfl, profOwner_profNew]
  by_cases hm : profOwner (b.profile k) ≠ profOwner (profWritten f (b.profile k) x0 x1 x2)
  · rw [Block.profPut, if_pos (bne_iff_ne.2 hm)]
    exact Block.clearRefs_ref.trans (if_congr (and_iff_right hm).symm rfl rfl)
  · rw [Block.profPut, if_neg fun h => hm (bne_iff_ne.1 h), if_neg fun h => hm h.1]
    rfl

theorem Block.profPut_tenant {g : Nat} : (b.profPut k f x0 x1 x2).tenant g = b.tenant g := by
  unfold Block.profPut
  split <;> rfl

theorem cmdProfileWrite_body (hw : p.params = [w, x0, x1, x2]) : cmdProfileWrite.body (callOf f p) b =
    ok ((b.profPut (fld w 0 6) f x0 x1 x2).touchOwners (callOf f p) (profOwner (b.profile (fld w 0 6)))
      (profOwner (profNew f (b.profile (fld w 0 6)) x0 x1 x2))) := by
  cases p; cases hw; rfl

theorem cmdProfileWrite_owns (hw : p.params = [w, x0, x1, x2]) (ho : profOwner (b.profile (fld w 0 6)) = f.val) :
    cmdProfileWrite.owns (callOf f p) b = true := by
  unfold cmdProfileWrite
  dsimp only
  rw [callOf_fld hw]
  exact beq_iff_eq.2 ho

theorem cmdProfileWrite_tenant (hw : p.params = [w, x0, x1, x2]) (g : Nat) :
    ∃ x, (cmdProfileWrite.body (callOf f p) b).2.tenant g = { b.tenant g with cfgChanged := x } := by
  have hput : (b.profPut (fld w 0 6) f x0 x1 x2).tenant g = b.tenant g := Block.profPut_tenant
  rw [cmdProfileWrite_body hw]
  exact hput ▸ Block.touchOwners_tenant

theorem cmdProfileWrite_profile (hw : p.params = [w, x0, x1, x2]) (k : Nat) :
    (cmdProfileWrite.body (callOf f p) b).2.profile k =
      if k = fld w 0 6 then profNew f (b.profile k) x0 x1 x2 else b.profile k := by
  rw [cmdProfileWrite_body hw, ok, Block.touchOwners_profile, Block.profPut_profile]
  split
  · rename_i hk
    rw [hk]
  · rfl

theorem cmdProfileWrite_ref (hw : p.params = [w, x0, x1, x2]) (i : Nat) : (cmdProfileWrite.body (callOf f p) b).2.ref i =
    if profOwner (b.profile (fld w 0 6)) ≠ profOwner ((cmdProfileWrite.body (callOf f p) b).2.profile (fld w 0 6)) ∧
        pfld (b.profile (fld w 0 6)) 1 0 15 ≤ i ∧
        i < pfld (b.profile (fld w 0 6)) 1 0 15 + pfld (b.profile (fld w 0 6)) 1 15 16 then refReset else b.ref i := by
  rw [cmdProfileWrite_body hw, ok, Block.touchOwners_ref, Block.touchOwners_profile, Block.profPut_ref]

theorem profileWrite_writes (hw : p.params = [w, x0, x1, x2]) (hr : profileRange (callOf f p) = true)
    (ho : f.val = 64 ∨ profOwner (s.block.profile (fld w 0 6)) = f.val) (h : s.block.hears f p 0 false) :
    ∃ t, exec (.profileWrite f p) s = .next t ∧ s.block.answered t.block f p stDone [] ∧
      s.block.noted t.block f [.assay, .profiles] ∧
      (∀ k, t.block.profile k = if k = fld w 0 6 then profNew f (s.block.profile k) x0 x1 x2 else s.block.profile k) ∧
      (∀ i, t.block.ref i = if profOwner (s.block.profile (fld w 0 6)) ≠ profOwner (t.block.profile (fld w 0 6)) ∧
          pfld (s.block.profile (fld w 0 6)) 1 0 15 ≤ i ∧
          i < pfld (s.block.profile (fld w 0 6)) 1 0 15 + pfld (s.block.profile (fld w 0 6)) 1 15 16
        then refReset else s.block.ref i) := by
  have hl : p.params.length = 4 := by rw [hw]; rfl
  have ht := cmdProfileWrite_tenant (f := f) (b := s.block.begun 0x52 f p) hw
  simp only [Block.begun_tenant] at ht
  rw [← Block.begun_profile (op := 0x52) (f := f) (p := p)] at ho
  refine heard_noted (op := 0x52) (e := cmdProfileWrite) h rfl (Nat.le_refl 0) (absurd · Bool.false_ne_true) hl.ge hl.le hr
    (ho.imp_right fun ho => .inr ⟨rfl, cmdProfileWrite_owns hw ho⟩) (by rw [cmdProfileWrite_body hw]; rfl) (.inl (by decide))
    (fun M hM => cmdProfileWrite_seen hM) ht (by decide) ⟨fun k => ?_, fun i => ?_⟩
  · dsimp only
    rw [Block.respond_profile, cmdProfileWrite_profile hw, Block.begun_profile]
  · dsimp only
    rw [Block.respond_ref, Block.respond_profile, cmdProfileWrite_ref hw, Block.begun_profile, Block.begun_ref]

/-! ### REF_WRITE (R232, R336) -/

theorem callOf_rest_length (hw : p.params = w :: ws) : (callOf f p).ws.length - 1 = ws.length := by
  rw [callOf, hw]; rfl

theorem cmdRefWrite_range (hw : p.params = w :: ws) (hr : fld w 0 15 + ws.length ≤ 32768) :
    cmdRefWrite.range (callOf f p) = true := by
  unfold cmdRefWrite
  dsimp only
  rw [callOf_fld hw, callOf_rest_length hw]
  exact decide_eq_true hr

theorem Block.begun_refMine {op g i : Nat} : (b.begun op f p).refMine g i = b.refMine g i := by
  simp only [Block.refMine, Block.begun_profile]

theorem cmdRefWrite_owns (hw : p.params = w :: ws) (ho : ∀ i, i < ws.length → b.refMine f (fld w 0 15 + i) = true) :
    cmdRefWrite.owns (callOf f p) b = true := by
  unfold cmdRefWrite
  dsimp only
  rw [callOf_fld hw, callOf_rest_length hw]
  exact List.all_eq_true.2 fun i hi => ho i (List.mem_range.1 hi)

theorem cmdRefWrite_ref (hw : p.params = w :: ws) (i : Nat) : (cmdRefWrite.body (callOf f p) b).2.ref i =
    if fld w 0 15 ≤ i ∧ i < fld w 0 15 + ws.length then ws.getD (i - fld w 0 15) 0 else b.ref i := by
  have hk : (callOf f p).fld 0 0 15 = fld w 0 15 := callOf_fld hw ..
  have hd : (callOf f p).ws.drop 1 = ws := by rw [callOf, hw]; rfl
  unfold cmdRefWrite ok
  dsimp only
  rw [hk, hd]
  exact tget_putRun 0

theorem refWrite_writes (hw : p.params = w :: ws) (hne : ws ≠ []) (hl : ws.length ≤ 254)
    (hr : fld w 0 15 + ws.length ≤ 32768)
    (ho : f.val = 64 ∨ ∀ i, i < ws.length → s.block.refMine f (fld w 0 15 + i) = true) (h : s.block.hears f p 0 false) :
    ∃ t, exec (.refWrite f p) s = .next t ∧ s.block.answered t.block f p stDone [] ∧
      s.block.calm t.block f [.assay, .profiles] ∧
      (∀ i, t.block.ref i = if fld w 0 15 ≤ i ∧ i < fld w 0 15 + ws.length then ws.getD (i - fld w 0 15) 0
        else s.block.ref i) := by
  have hlen : p.params.length = ws.length + 1 := by rw [hw]; rfl
  have hpos : 0 < ws.length := List.length_pos_iff.2 hne
  simp only [← Block.begun_refMine (b := s.block) (op := 0x53) (f := f) (p := p)] at ho
  refine heard_calm (op := 0x53) (e := cmdRefWrite) h rfl (Nat.le_refl 0) (absurd · Bool.false_ne_true)
    (show 2 ≤ p.params.length by omega) (show p.params.length ≤ 255 by omega) (cmdRefWrite_range hw hr)
    (ho.imp_right fun ho => .inr ⟨rfl, cmdRefWrite_owns hw ho⟩) rfl (.inl (by decide)) (fun M hM => cmdRefWrite_seen hM)
    (by decide) fun i => ?_
  dsimp only
  rw [Block.respond_ref, cmdRefWrite_ref hw, Block.begun_ref]

/-! ### ASY_FLUSH (R223, R345) -/

/-- The taps of a unit with an open tensor. -/
def AsyUnit.openTaps (x : AsyUnit) : List Nat := (x.taps.filter (fun e => e.2.tensor.isSome)).map Prod.fst

theorem Block.mem_openTaps {u : Nat} (h : (b.asyTap u n).tensor ≠ none) : n ∈ (b.unit u).openTaps := by
  have hlisted : (n, b.asyTap u n) ∈ (b.unit u).taps := mem_of_tget_ne fun hd => h (congrArg AsyTap.tensor hd)
  exact List.mem_map.2 ⟨_, List.mem_filter.2 ⟨hlisted, Option.isSome_iff_ne_none.2 h⟩, rfl⟩

theorem cmdAsyFlush_body (hw : p.params = [w]) : cmdAsyFlush.body (callOf f p) b =
    okW [w32 (b.unit (fld w 0 4)).openTaps.length]
      (b.each (b.unit (fld w 0 4)).openTaps (fun b t => b.closeTensor (fld w 0 4) t 3 b.gt)) := by
  cases p; cases hw; rfl

theorem cmdAsyFlush_owns (hw : p.params = [w]) (ho : (b.unit (fld w 0 4)).owner = f.val) :
    cmdAsyFlush.owns (callOf f p) b = true := by
  unfold cmdAsyFlush
  dsimp only
  rw [callOf_fld hw]
  exact beq_iff_eq.2 ho

/-- After the flush of a unit none of its tensors is open: it closes the taps that are listed with one. -/
theorem cmdAsyFlush_tensor (hw : p.params = [w]) (n : Nat) :
    ((cmdAsyFlush.body (callOf f p) b).2.asyTap (fld w 0 4) n).tensor = none := by
  rw [cmdAsyFlush_body hw]
  refine Block.each_closeTensor_tensor ?_
  by_cases hz : (b.asyTap (fld w 0 4) n).tensor = none
  · exact .inr hz
  · exact .inl (Block.mem_openTaps hz)

theorem asyFlush_closes (hw : p.params = [w]) (ho : f.val = 64 ∨ (s.block.unit (fld w 0 4)).owner = f.val)
    (h : s.block.hears f p 1 false) :
    ∃ t, exec (.asyFlush f p) s = .next t ∧
      s.block.answered t.block f p stDone [w32 (s.block.unit (fld w 0 4)).openTaps.length] ∧
      (∀ n, (t.block.asyTap (fld w 0 4) n).tensor = none) := by
  have hl : p.params.length = 1 := by rw [hw]; rfl
  rw [← Block.begun_unit (op := 0x55) (f := f) (p := p)] at ho ⊢
  refine heard_ans (op := 0x55) (e := cmdAsyFlush) h rfl (Nat.le_refl 1) (absurd · Bool.false_ne_true) hl.ge hl.le rfl
    (ho.imp_right fun ho => .inr ⟨rfl, cmdAsyFlush_owns hw ho⟩) (by rw [cmdAsyFlush_body hw]; rfl) (.inl (by decide))
    (fun M hM => cmdAsyFlush_seen hM) (by decide) fun n => ?_
  dsimp only
  rw [Block.asyTap_of_assay Block.respond_assay]
  exact cmdAsyFlush_tensor hw n

end

/-- Settles O16: a write changes the entry that it names and leaves the rest of its table, with the references of a profile that
goes to another owner; a flush closes every tensor that its unit has open. -/
theorem assayCommandsAct : Obligations.AssayCommandsAct := by
  intro f p s
  refine ⟨fun w v hw hf h hroom => asyBind_binds hw hf h hroom, fun w v hw hf h hon hfull => asyBind_refuses hw hf h hon hfull,
    fun w v hw hf hr h => asyUnit_sets hw hf hr h, fun w x0 x1 x2 hw hr ho h => ?_,
    fun w ws hw hne hl hr ho h => refWrite_writes hw hne hl hr ho h, fun w hw ho h => ?_⟩
  · simp only [← profNew_eq]
    exact profileWrite_writes hw hr ho h
  · rw [← List.length_map (f := Prod.fst)]
    exact asyFlush_closes hw ho h

end Sys2Proof.Machine
